-- ==== Sys2Proof/Word.lean ====
section
/-! DEFINITION. The words of the device: 64-bit register values, bytes, and the keyed list that holds sparse data. -/

namespace Sys2Proof

/-- A register value: every register of the BAR is 32 or 64 bits wide (R369). -/
abbrev Word := BitVec 64

/-- A byte of memory. -/
abbrev Byte := BitVec 8

/-- Sparse data by number: a list of (key, value) pairs, keys strictly rising in its canonical form. -/
abbrev Map (α : Type) := List (Nat × α)

end Sys2Proof
end

