-- ==== Sys2Proof/Syntax.lean ====
section
/-! DEFINITION. The commands of the F2620: one constructor for each row of the table of operations and events. -/

namespace Sys2Proof

/-- The commands. A master writing or reading a register is named by its id (R365); lanes, channels, contexts, threads and
other elements are named by their number, which the type keeps in range. A Triso command names the thread that issues, a
figure-code command the walk context (engine e, context c at 4e + c) or the ingest slot whose parser reads. -/
inductive Instr where
  /-- SH_REGISTER_WRITE (R28). -/
  | shRegisterWrite (m : Fin 8) (addr : Nat) (width : Nat) (v : Word)
  /-- CONFIG_BROADCAST (R28). -/
  | configBroadcast
  /-- GENERATION_COPY (R29). -/
  | generationCopy
  /-- BANK_SWITCH (R31). -/
  | bankSwitch (u : Fin 4) (stripe : Nat) (gen : Nat)
  /-- LEAVE_GRANT (R451). -/
  | leaveGrant
  /-- LEAVE_RETURN (R452). -/
  | leaveReturn (k : Nat)
  /-- TJ_SAMPLE (R453). -/
  | tjSample (temps : List Int)
  /-- PGV_BUDGET_WRITE (R452). -/
  | pgvBudgetWrite (v : Word)
  /-- SEGMENT_FETCH (R77). -/
  | segmentFetch
  /-- DATA (R329). -/
  | wstData (session : Nat) (seq : Nat) (len : Nat) (total : Nat) (payload : List Byte)
  /-- REFUSE (R330). -/
  | wstRefuse (session : Nat) (reason : Nat)
  /-- ACK_DELAY_TIMEOUT (R330). -/
  | ackDelayTimeout (slot : Fin 16)
  /-- WST_RTO (R330). -/
  | wstRto (slot : Fin 16)
  /-- TAG_VERDICT (R78). -/
  | tagVerdict (slot : Fin 16)
  /-- INSTALL_CELL (R90). -/
  | installCell (slot : Fin 16)
  /-- SPACE_RESUME (R95). -/
  | spaceResume (slot : Fin 16)
  /-- PAGE_READ (R92). -/
  | pageRead (w : Fin 32)
  /-- CONTEXT_CLOSE (R87). -/
  | contextClose (c : Fin 2)
  /-- PIN_SET (R94). -/
  | pinSet (v : Word)
  /-- PIN_CLEAR (R94). -/
  | pinClear (v : Word)
  /-- GATHER_DISABLE (R93). -/
  | gatherDisable (v : Word)
  /-- DCP_START (R85). -/
  | dcpStart (n : Fin 4) (v : Word)
  /-- DCP_RESUME (R83). -/
  | dcpResume (n : Fin 4) (v : Word)
  /-- DCP_ABORT (R83). -/
  | dcpAbort (n : Fin 4) (v : Word)
  /-- DCP_OWNER_WRITE (R81). -/
  | dcpOwnerWrite (n : Fin 4) (v : Word)
  /-- DCP_TASK_END (R84). -/
  | dcpTaskEnd (n : Fin 4)
  /-- RC_READ (R98). -/
  | rcRead (m : Fin 8) (addr : Nat) (width : Nat) (coincident : Bool)
  /-- REGISTER_WRITE (R13). -/
  | registerWrite (m : Fin 8) (addr : Nat) (width : Nat) (v : Word)
  /-- WALK_START (R100). -/
  | walkStart (w : Fin 32)
  /-- WALK_RESUME (R91). -/
  | walkResume (w : Fin 32)
  /-- FC_NOP (R71). -/
  | fcNop (w : Fin 32)
  /-- CELL_BEGIN (R49). -/
  | fcCellBegin (w : Fin 32)
  /-- CELL_END (R50). -/
  | fcCellEnd (w : Fin 32)
  /-- FC_CALL (R56). -/
  | fcCall (w : Fin 32)
  /-- ARRAY (R57). -/
  | fcArray (w : Fin 32)
  /-- RECT (R62). -/
  | fcRect (w : Fin 32)
  /-- XTRAP (R62). -/
  | fcXtrap (w : Fin 32)
  /-- YTRAP (R63). -/
  | fcYtrap (w : Fin 32)
  /-- POLY (R67). -/
  | fcPoly (w : Fin 32)
  /-- DOSE (R59). -/
  | fcDose (w : Fin 32)
  /-- SEGREF (R69). -/
  | fcSegref (slot : Fin 16)
  /-- END (R43). -/
  | fcEnd (slot : Fin 16)
  /-- RECORD_CONSUME (R117). -/
  | recordConsume (e : Fin 32)
  /-- DISCARD_END (R120). -/
  | discardEnd (e : Fin 32) (k : Fin 2)
  /-- DRAIN_END (R126). -/
  | drainEnd (e : Fin 32) (k : Fin 2)
  /-- DENSITY_ITEM (R133). -/
  | densityItem
  /-- COARSE_COLUMN_DONE (R144). -/
  | coarseColumnDone
  /-- TILE_HEADER (R140). -/
  | tileHeader
  /-- PIXEL_WORD (R139). -/
  | pixelWord
  /-- BAND_RELEASE (R141). -/
  | bandRelease
  /-- FILL_DONE (R158). -/
  | fillDone
  /-- BMP_CHECK (R160). -/
  | bmpCheck (v : Word)
  /-- CHECK_DONE (R160). -/
  | checkDone
  /-- CCHK (R161). -/
  | cchk (t : Fin 4)
  /-- CELL_CHECK_REQUEST (R163). -/
  | cellCheckRequest
  /-- CC_RESULT (R219). -/
  | ccResult (g : Fin 8) (alive : Nat) (first : Nat) (results : List (Nat × Nat))
  /-- CELL_CHECK_TIMEOUT (R163). -/
  | cellCheckTimeout
  /-- CC_ACCEPT (R166). -/
  | ccAccept (v : Word)
  /-- CC_ACCEPT_DONE (R166). -/
  | ccAcceptDone
  /-- TEMP (R217). -/
  | tempReport (g : Fin 8) (alive : Nat) (valid : Nat) (ovt : Bool) (sensors : List Int)
  /-- STRIPE_COLUMN_ZERO (R188). -/
  | stripeColumnZero
  /-- CHUNK_RELEASE (R184). -/
  | chunkRelease
  /-- CHUNK_SERVE_START (R190). -/
  | chunkServeStart
  /-- CHUNK_LOAD_DONE (R191). -/
  | chunkLoadDone
  /-- PLANE_FRAME (R209). -/
  | planeFrame (l : Fin 64)
  /-- ACK (R216). -/
  | ack (g : Fin 8) (alive : Nat) (flash : Nat) (plane : Nat) (ftype : Nat) (ack : Nat) (nak : Nat)
  /-- REPLAY_SEND (R214). -/
  | replaySend (l : Fin 64)
  /-- ACK_TIMEOUT (R211). -/
  | ackTimeout (l : Fin 64)
  /-- COMMIT_POINT (R213). -/
  | commitPoint
  /-- LINK_STATUS (R216). -/
  | linkStatus (g : Fin 8) (alive : Nat) (locked : Nat) (aligned : Nat)
  /-- TAP_REQ (R223). -/
  | tapReq (g : Fin 8) (alive : Nat) (lane : Fin 64) (pre : Nat) (main : Nat) (post : Nat) (eqDone : Bool)
  /-- RETURN_LANE_TIMEOUT (R217). -/
  | returnLaneTimeout (g : Fin 8)
  /-- BLOCK_LOCK_LOSS (R203). -/
  | blockLockLoss (g : Fin 8)
  /-- BLOCK_LOCK_ACQUIRE (R203). -/
  | blockLockAcquire (g : Fin 8)
  /-- TRAIN (R220). -/
  | train (t : Fin 4)
  /-- TRAIN_STATE_TIMEOUT (R221). -/
  | trainStateTimeout (l : Fin 64)
  /-- PRBS_TEST_ENTER (R224). -/
  | prbsTestEnter (l : Fin 72) (v : Word)
  /-- PRBS_INJ (R224). -/
  | prbsInj (l : Fin 72) (v : Word)
  /-- AE_SAMPLE (R231). -/
  | aeSample (n : Fin 4) (rawS : Nat) (rawC : Nat)
  /-- QUAD_EDGE (R234). -/
  | quadEdge (n : Fin 18) (level : Nat)
  /-- SSI_READ (R235). -/
  | ssiRead (n : Fin 2)
  /-- SSI_FRAME (R236). -/
  | ssiFrame (n : Fin 2) (lineHigh : Bool) (bits : List Bool)
  /-- REARM (R232). -/
  | rearm (n : Fin 18) (v : Word)
  /-- INDEX_EDGE (R237). -/
  | indexEdge (n : Fin 8) (falling : Bool)
  /-- REF_CLR (R238). -/
  | refClr (n : Fin 18) (v : Word)
  /-- STANDSTILL_TIMEOUT (R242). -/
  | standstillTimeout (n : Fin 18)
  /-- CHANNEL_DISABLE (R246). -/
  | channelDisable (n : Fin 18) (v : Word)
  /-- COMPARE_ARM (R248). -/
  | compareArm (c : Fin 4) (v : Word)
  /-- EMU_ENABLE (R251). -/
  | emuEnable (e : Fin 2) (v : Word)
  /-- EMU_EDGE (R251). -/
  | emuEdge (e : Fin 2)
  /-- GO (R289). -/
  | go (t : Fin 4)
  /-- STRIPE_ACTIVATE (R289). -/
  | stripeActivate
  /-- POSITIONING_DONE (R256). -/
  | positioningDone
  /-- RUN_IN_START (R256). -/
  | runInStart
  /-- T0_ARM (R265). -/
  | t0Arm
  /-- STROBE_LOCK (R263). -/
  | strobeLock
  /-- PLANE_STROBE (R207). -/
  | planeStrobe
  /-- RUNOUT_DONE (R289). -/
  | runoutDone
  /-- REST_REACHED (R257). -/
  | restReached
  /-- PACE_EVAL (R258). -/
  | paceEval
  /-- SETPOINT_FRAME (R261). -/
  | setpointFrame
  /-- SERVO_RETURN (R262). -/
  | servoReturn (port : Fin 2) (bytes : List Byte)
  /-- AX_TARGET (R268). -/
  | axTarget (a : Fin 8) (v : Word)
  /-- AX_STEP (R268). -/
  | axStep (a : Fin 8)
  /-- AX_STOP (R270). -/
  | axStop (a : Fin 8) (v : Word)
  /-- AX_IDLE (R269). -/
  | axIdle (a : Fin 8)
  /-- NOP (R279). -/
  | trisoNop (t : Fin 4)
  /-- ADD (R279). -/
  | trisoAdd (t : Fin 4)
  /-- SUB (R279). -/
  | trisoSub (t : Fin 4)
  /-- AND (R279). -/
  | trisoAnd (t : Fin 4)
  /-- OR (R279). -/
  | trisoOr (t : Fin 4)
  /-- XOR (R279). -/
  | trisoXor (t : Fin 4)
  /-- SHL (R279). -/
  | trisoShl (t : Fin 4)
  /-- SHR (R279). -/
  | trisoShr (t : Fin 4)
  /-- SRA (R279). -/
  | trisoSra (t : Fin 4)
  /-- MUL (R279). -/
  | trisoMul (t : Fin 4)
  /-- SET (R279). -/
  | trisoSet (t : Fin 4)
  /-- ADDI (R279). -/
  | trisoAddi (t : Fin 4)
  /-- ANDI (R279). -/
  | trisoAndi (t : Fin 4)
  /-- ORI (R279). -/
  | trisoOri (t : Fin 4)
  /-- XORI (R279). -/
  | trisoXori (t : Fin 4)
  /-- SHLI (R279). -/
  | trisoShli (t : Fin 4)
  /-- SHRI (R279). -/
  | trisoShri (t : Fin 4)
  /-- SRAI (R279). -/
  | trisoSrai (t : Fin 4)
  /-- MOVI (R279). -/
  | trisoMovi (t : Fin 4)
  /-- MOVHI (R279). -/
  | trisoMovhi (t : Fin 4)
  /-- BR (R279). -/
  | trisoBr (t : Fin 4)
  /-- CALL (R280). -/
  | trisoCall (t : Fin 4)
  /-- RET (R280). -/
  | trisoRet (t : Fin 4)
  /-- JMPR (R280). -/
  | trisoJmpr (t : Fin 4)
  /-- LD (R281). -/
  | trisoLd (t : Fin 4)
  /-- ST (R281). -/
  | trisoSt (t : Fin 4)
  /-- XCHG (R281). -/
  | trisoXchg (t : Fin 4)
  /-- RDREG (R282). -/
  | trisoRdreg (t : Fin 4)
  /-- WRREG (R283). -/
  | trisoWrreg (t : Fin 4)
  /-- SPAWN (R276). -/
  | trisoSpawn (t : Fin 4)
  /-- EXIT (R279). -/
  | trisoExit (t : Fin 4)
  /-- PREP (R288). -/
  | prep (t : Fin 4)
  /-- COMMIT (R292). -/
  | commit (t : Fin 4)
  /-- SELCAL (R293). -/
  | selcal (t : Fin 4)
  /-- WAIT (R291). -/
  | wait (t : Fin 4)
  /-- WAIT_RETURN (R291). -/
  | waitReturn (t : Fin 4)
  /-- WAIT_TIMEOUT (R291). -/
  | waitTimeout (t : Fin 4)
  /-- SIG (R286). -/
  | sig (t : Fin 4)
  /-- RING (R286). -/
  | ring (t : Fin 4)
  /-- STAMP (R286). -/
  | stamp (t : Fin 4)
  /-- ARMTP (R310). -/
  | armtp (t : Fin 4)
  /-- HALT (R296). -/
  | halt (t : Fin 4)
  /-- RESUME (R297). -/
  | resume (t : Fin 4)
  /-- ABANDON (R298). -/
  | abandon (t : Fin 4)
  /-- RUN_START (R276). -/
  | runStart (v : Word)
  /-- RUN_STOP (R276). -/
  | runStop (v : Word)
  /-- EVSET_WRITE (R290). -/
  | evsetWrite (m : Fin 8) (v : Word)
  /-- INC_WRITE (R303). -/
  | incWrite (v : Word)
  /-- TIME_SEC_READ (R304). -/
  | timeSecRead (width : Nat)
  /-- THY_SET (R305). -/
  | thySet (v : Word)
  /-- THY_STEP (R305). -/
  | thyStep (v : Word)
  /-- THY_SLEW (R306). -/
  | thySlew (v : Word)
  /-- SLEW_END (R306). -/
  | slewEnd
  /-- PPS_EDGE (R308). -/
  | ppsEdge (r : Fin 2) (falling : Bool)
  /-- TREF_TIMEOUT (R309). -/
  | trefTimeout (r : Fin 2)
  /-- PPS_TIMEOUT (R309). -/
  | ppsTimeout (r : Fin 2)
  /-- TP_ARM (R310). -/
  | tpArm (n : Fin 8) (v : Word)
  /-- TP_DISARM (R310). -/
  | tpDisarm (n : Fin 8) (v : Word)
  /-- TP_FIRE (R311). -/
  | tpFire (n : Fin 8)
  /-- CAPTURE_EDGE (R313). -/
  | captureEdge (n : Fin 8) (falling : Bool)
  /-- TC_TIME_READ (R313). -/
  | tcTimeRead (n : Fin 8)
  /-- PTP_EVENT_RX (R316). -/
  | ptpEventRx (p : Fin 4) (frame : List Byte) (boundary : Int) (badFcs : Bool)
  /-- SYNC_TX (R317). -/
  | syncTx (p : Fin 4) (frame : List Byte) (at2 : Int × Int)
  /-- DELAY_REQ_LAUNCH (R318). -/
  | delayReqLaunch (p : Fin 4) (frame : List Byte) (launch : Bool) (lt : Nat)
  /-- TC_FORWARD (R319). -/
  | tcForward (p : Fin 4) (frame : List Byte) (rx : Int) (tx : Int) (badFcs : Bool)
  /-- PORT_ROLE_WRITE (R322). -/
  | portRoleWrite (p : Fin 4) (v : Word)
  /-- ARP_REQUEST (R323). -/
  | arpRequest (p : Fin 4) (ip : Nat) (sender : Nat) (mac : Nat)
  /-- ICMP_ECHO (R323). -/
  | icmpEcho (p : Fin 4) (ip : Nat) (sender : Nat × Nat) (payload : List Byte)
  /-- PAUSE_FRAME (R321). -/
  | pauseFrame (p : Fin 4)
  /-- CHAIN_FORWARD (R324). -/
  | chainForward (p : Fin 4) (dst : Nat) (src : Nat) (rest : List Byte) (badFcs : Bool)
  /-- GRANT (R335). -/
  | grant (cluster : Nat) (src : Nat × Bool) (dst : Nat) (term : Nat) (gseq : Nat) (worker : Nat) (desc : List Word)
  /-- GRANT_ACK (R335). -/
  | grantAck (cluster : Nat) (src : Nat) (dst : Nat) (term : Nat) (gseq : Nat) (result : Nat)
  /-- GRANT_RETRANSMIT (R334). -/
  | grantRetransmit (w : Fin 16)
  /-- STATUS (R336). -/
  | status (cluster : Nat) (src : Nat) (dst : Nat) (term : Nat) (stripe : Nat) (sstate : Nat) (motion : Nat) (th : Nat) (held : Nat) (cause : Nat) (worker : Nat)
  /-- STATUS_TIMER (R336). -/
  | statusTimer
  /-- MEMBER_TIMEOUT (R336). -/
  | memberTimeout (w : Fin 16)
  /-- HEARTBEAT (R338). -/
  | heartbeat (cluster : Nat) (src : Nat × Bool) (dst : Nat) (term : Nat) (jseq : Nat) (standby : Bool) (sbFailed : Bool)
  /-- HEARTBEAT_TIMER (R337). -/
  | heartbeatTimer
  /-- JOURNAL (R337). -/
  | journal (cluster : Nat) (src : Nat) (dst : Nat) (term : Nat) (jseq : Nat) (member : Nat) (full : Bool) (rec : List Nat)
  /-- JOURNAL_ACK (R337). -/
  | journalAck (cluster : Nat) (src : Nat) (dst : Nat) (term : Nat) (jseq : Nat)
  /-- JOURNAL_RETRANSMIT (R337). -/
  | journalRetransmit
  /-- JOURNAL_TIMEOUT (R337). -/
  | journalTimeout
  /-- DIGEST (R337). -/
  | digest (cluster : Nat) (src : Nat) (dst : Nat) (term : Nat) (jseq : Nat) (digest : List Byte)
  /-- DIGEST_TIMER (R337). -/
  | digestTimer
  /-- TAKEOVER (R338). -/
  | takeover (cluster : Nat) (src : Nat × Bool) (dst : Nat) (term : Nat) (jseq : Nat)
  /-- MANAGER_TIMEOUT (R340). -/
  | managerTimeout
  /-- JOIN (R339). -/
  | join (cluster : Nat) (src : Nat) (dst : Nat) (term : Nat)
  /-- JOIN_LISTEN_TIMEOUT (R339). -/
  | joinListenTimeout
  /-- PROVISION (R350). -/
  | provision (tag : Nat) (space : Nat) (offs : Nat)
  /-- SECURE (R350). -/
  | secure (tag : Nat) (space : Nat) (offs : Nat)
  /-- RETIRE (R350). -/
  | retire (tag : Nat) (space : Nat) (offs : Nat)
  /-- BURN_OPERATOR (R356). -/
  | burnOperator (tag : Nat) (space : Nat) (offs : Nat)
  /-- REVOKE_OPERATOR (R356). -/
  | revokeOperator (tag : Nat) (space : Nat) (offs : Nat)
  /-- DEBUG_UNLOCK (R363). -/
  | debugUnlock (tag : Nat) (space : Nat) (offs : Nat)
  /-- LOCK_DEBUG (R356). -/
  | lockDebug (tag : Nat) (space : Nat) (offs : Nat)
  /-- BURN_FEATURE (R356). -/
  | burnFeature (tag : Nat) (space : Nat) (offs : Nat)
  /-- ADVANCE_FW (R356). -/
  | advanceFw (tag : Nat) (space : Nat) (offs : Nat)
  /-- ADVANCE_PROG (R356). -/
  | advanceProg (tag : Nat) (space : Nat) (offs : Nat)
  /-- REVOKE_KYTUEST (R356). -/
  | revokeKytuest (tag : Nat) (space : Nat) (offs : Nat)
  /-- CHALLENGE (R355). -/
  | challenge (tag : Nat) (addr : Nat)
  /-- CHALLENGE_EXPIRY (R355). -/
  | challengeExpiry
  /-- INFO (R384). -/
  | info (tag : Nat)
  /-- ADMIT (R386). -/
  | admitJob (tag : Nat) (addr : Nat)
  /-- JOB_END (R384). -/
  | jobEnd (tag : Nat) (ctx : Nat) (last : Nat)
  /-- KEY_UNWRAP (R354). -/
  | keyUnwrap (tag : Nat) (addr : Nat)
  /-- CAL_LOAD (R387). -/
  | calLoad (tag : Nat) (addr : Nat) (target : Nat) (sel : Bool) (len : Nat)
  /-- CLUSTER_ROLE (R384). -/
  | clusterRole (tag : Nat) (cfg : Nat) (group : Nat) (sync : Nat)
  /-- CLUSTER_LIST (R334). -/
  | clusterList (tag : Nat) (addr : Nat) (worker : Nat) (append : Bool) (count : Nat)
  /-- TELEMETRY (R384). -/
  | telemetry (tag : Nat)
  /-- ATTEST (R362). -/
  | attest (tag : Nat) (addr : Nat)
  /-- PROG_LOAD (R275). -/
  | progLoad (tag : Nat) (addr : Nat) (len : Nat)
  /-- PUSH (R374). -/
  | push (m : Fin 8) (r : Fin 8)
  /-- POP (R375). -/
  | pop (m : Fin 8) (from_ : Fin 6)
  /-- DB_SET (R377). -/
  | dbSet (m : Fin 8) (r : Fin 8) (v : Word)
  /-- LOCK_READ (R380). -/
  | lockRead (m : Fin 8) (n : Fin 64)
  /-- LOCK_RELEASE (R380). -/
  | lockRelease (m : Fin 8) (n : Fin 64) (v : Word)
  /-- HBM_WINDOW_ACCESS (R371). -/
  | hbmWindowAccess (off : Nat) (write : Bool) (bytes : List Byte) (len : Nat)
  /-- DMA_START (R395). -/
  | dmaStart (m : Fin 8) (c : Fin 16) (v : Word)
  /-- DMA_ABORT (R395). -/
  | dmaAbort (m : Fin 8) (c : Fin 16) (v : Word)
  /-- DMA_DESCRIPTOR (R389). -/
  | dmaDescriptor (c : Fin 16)
  /-- DMA_DONE (R391). -/
  | dmaDone (c : Fin 16)
  /-- DMA_TIMEOUT (R392). -/
  | dmaTimeout (c : Fin 16) (addr : Nat)
  /-- CHK_DATA (R399). -/
  | chkData (e : Fin 4) (width : Nat) (v : Word)
  /-- CHK_INIT (R397). -/
  | chkInit (e : Fin 4) (v : Word)
  /-- CHK_CONFIG_WRITE (R397). -/
  | chkConfigWrite (e : Fin 4) (reg : Fin 4) (v : Word)
  /-- HOST_WARM_RESET (R443). -/
  | hostWarmReset (perst : Bool)
  /-- HBM_REQUEST (R405). -/
  | hbmRequest (port : Fin 8) (addr : Nat) (write : Bool)
  /-- MEMORY_READ (R410). -/
  | memoryRead (grp : Fin 18) (addr : Nat) (reader : Nat) (upset : Nat)
  /-- MEMORY_WRITE (R412). -/
  | memoryWrite (grp : Fin 18) (addr : Nat) (m : Nat) (bytes : List Byte)
  /-- PAGE_IDLE_PRECHARGE (R406). -/
  | pageIdlePrecharge (ch : Fin 64) (bank : Fin 128)
  /-- PAGE_MAXOPEN (R406). -/
  | pageMaxopen (ch : Fin 64) (bank : Fin 128)
  /-- REFRESH_INTERVAL (R407). -/
  | refreshInterval (ch : Fin 64)
  /-- FORCED_REFRESH (R407). -/
  | forcedRefresh (ch : Fin 64) (bank : Fin 128)
  /-- HBM_TEMP_CROSSING (R407). -/
  | hbmTempCrossing (n : Fin 4) (celsius : Nat)
  /-- POWER_DOWN_IDLE (R408). -/
  | powerDownIdle (ch : Fin 64)
  /-- MAP_CFG_WRITE (R403). -/
  | mapCfgWrite (v : Word)
  /-- GROUP_MODE_WRITE (R413). -/
  | groupModeWrite (grp : Fin 18) (v : Word)
  /-- CULLET_ENTRY_WRITE (R416). -/
  | culletEntryWrite (grp : Fin 18) (e : Fin 16) (v : Word)
  /-- TMR_VOTE (R418). -/
  | tmrVote (k : Fin 64) (copies : List (Nat × Bool))
  /-- TEST_WR (R420). -/
  | testWr (v : Word)
  /-- TEST_RD (R420). -/
  | testRd (v : Word)
  /-- TEST_RDC (R420). -/
  | testRdc (v : Word)
  /-- TEST_CLEAR_DONE (R419). -/
  | testClearDone
  /-- SAFE_HALT (R426). -/
  | safeHalt
  /-- JOURNAL_RECORD (R433). -/
  | journalRecord
  /-- RING_WRITE_DONE (R434). -/
  | ringWriteDone (ok : Bool)
  /-- EVJ_RD_WRITE (R434). -/
  | evjRdWrite (v : Word)
  /-- JOB_HALTED (R425). -/
  | jobHalted (c : Fin 2)
  /-- PORN_RELEASE (R446). -/
  | pornRelease
  /-- PORN_ASSERT (R438). -/
  | pornAssert
  /-- QSPI_IMAGE_READ (R446). -/
  | qspiImageRead (image : List Byte)
  /-- BOOT_PUSH (R447). -/
  | bootPush (v : Word)
  /-- THERMTRIP (R453). -/
  | thermtrip
  /-- VDD_FUSE_LOSS (R439). -/
  | vddFuseLoss
  /-- PLL_LOSS (R441). -/
  | pllLoss (pll : Fin 11)
  /-- PLL_RELOCK (R441). -/
  | pllRelock (pll : Fin 11)
  /-- SC_RESET (R444). -/
  | scReset (m : Fin 8) (n : Fin 4) (v : Word)
  /-- SC_SLEEP (R450). -/
  | scSleep (m : Fin 8) (n : Fin 4) (v : Word)
  /-- UNIT_RESET (R445). -/
  | unitReset (v : Word)
  /-- THYME_TICK (R302). -/
  | thymeTick
  /-- TREF_EDGE (R308). -/
  | trefEdge (r : Fin 2)
  /-- ETH_LINK_DOWN (R321). -/
  | ethLinkDown (p : Fin 4)
  /-- ETH_LINK_UP (R321). -/
  | ethLinkUp (p : Fin 4)
  /-- VDD_FUSE_PRESENT (R439). -/
  | vddFusePresent
  /-- RETURN_MESSAGE_DISCARD (R215). -/
  | returnMessageDiscard (m : Fin 8 × List Word)
  /-- ETH_FRAME_DROP (R323). -/
  | ethFrameDrop (r : Fin 4 × List Byte × Bool)
  /-- PTP_UNSUPPORTED_MESSAGE (R314). -/
  | ptpUnsupportedMessage (r : Fin 4 × List Byte)
  /-- CELL_INFLATED (R91). -/
  | cellInflated (slot : Fin 16)
  /-- PRBS_CHECKER_SYNC (R224). -/
  | prbsCheckerSync (l : Fin 72)
  /-- PRBS_BIT_ERROR (R224). -/
  | prbsBitError (l : Fin 72)
  /-- PRBS_RATE_ERROR (R224). -/
  | prbsRateError (l : Fin 72)
  deriving DecidableEq, Repr

end Sys2Proof
end

