-- ==== Sys2Proof/Decode.lean ====
section
/-! DEFINITION. The words of the table of operations and events, which has none, and the Triso instruction words that Gaffer reads
from its program memory: their fields, which of them are legal, their encoding and decoding (R277 to R279, R286). -/

namespace Sys2Proof

/-- The command that a word spells: the table of operations and events gives no row any bits, so there is none. -/
def decodeTableWord (_nbits _w : Nat) : Option Instr := none

/-! ## Triso instructions -/

/-- The Triso operations (R279, R286). -/
inductive Op where
  | nop | add | sub | and | or | xor | shl | shr | sra | mul | set
  | addi | andi | ori | xori | shli | shri | srai | movi | movhi
  | br | call | ret | jmpr | ld | st | xchg | rdreg | wrreg | spawn | exit
  | prep | go | commit | selcal | wait | sig | ring | stamp | armtp | cchk | train | halt | resume | abandon
  deriving DecidableEq, Repr

/-- The opcodes of R279 and R286. -/
def Op.code : Op → BitVec 8
  | .nop => 0x01
  | .add => 0x10 | .sub => 0x11 | .and => 0x12 | .or => 0x13 | .xor => 0x14
  | .shl => 0x15 | .shr => 0x16 | .sra => 0x17 | .mul => 0x18 | .set => 0x19
  | .addi => 0x20 | .andi => 0x21 | .ori => 0x22 | .xori => 0x23 | .shli => 0x24 | .shri => 0x25 | .srai => 0x26
  | .movi => 0x27 | .movhi => 0x28
  | .br => 0x30 | .call => 0x31 | .ret => 0x32 | .jmpr => 0x33
  | .ld => 0x38 | .st => 0x39 | .xchg => 0x3A | .rdreg => 0x3B | .wrreg => 0x3C | .spawn => 0x3E | .exit => 0x3F
  | .prep => 0x40 | .go => 0x41 | .commit => 0x42 | .selcal => 0x43 | .wait => 0x44 | .sig => 0x45 | .ring => 0x46
  | .stamp => 0x47 | .armtp => 0x48 | .cchk => 0x49 | .train => 0x4A | .halt => 0x4B | .resume => 0x4C | .abandon => 0x4D

/-- The operations 0x01 to 0x28. -/
def aluOps : List Op :=
  [.nop, .add, .sub, .and, .or, .xor, .shl, .shr, .sra, .mul, .set, .addi, .andi, .ori, .xori, .shli, .shri, .srai, .movi, .movhi]

/-- The operations 0x30 to 0x3F. -/
def flowOps : List Op := [.br, .call, .ret, .jmpr, .ld, .st, .xchg, .rdreg, .wrreg, .spawn, .exit]

/-- The unit commands 0x40 to 0x4D. -/
def unitOps : List Op :=
  [.prep, .go, .commit, .selcal, .wait, .sig, .ring, .stamp, .armtp, .cchk, .train, .halt, .resume, .abandon]

/-- Every operation, by rising opcode. -/
def allOps : List Op := aluOps ++ flowOps ++ unitOps

/-- The operation of an opcode; every other opcode is illegal (R277). -/
def opOf (c : BitVec 8) : Option Op := allOps.find? (fun o => decide (o.code = c))

/-- The fields of an instruction word (R277). -/
structure Triso where
  op  : Op
  d   : BitVec 4
  a   : BitVec 4
  b   : BitVec 4
  f   : BitVec 4
  imm : BitVec 32
  deriving DecidableEq, Repr

/-- What an operation uses of the fields: registers D, A and B, the largest F it defines, and how many low bits of IMM. -/
structure OpUse where
  d : Bool
  a : Bool
  b : Bool
  fMax : Nat
  imm : Nat

/-- The fields that an instruction uses, by its F where that decides (R277, R278, R279, R286). -/
def Triso.uses (i : Triso) : OpUse :=
  match i.op with
  | .nop | .ret | .exit => ⟨false, false, false, 0, 0⟩
  | .add | .sub | .and | .or | .xor | .shl | .shr | .sra | .mul => ⟨true, true, true, 0, 0⟩
  | .set => ⟨true, decide (i.f ≠ 0), decide (i.f ≠ 0), 6, 0⟩
  | .addi | .andi | .ori | .xori => ⟨true, true, false, 0, 32⟩
  | .shli | .shri | .srai => ⟨true, true, false, 0, 6⟩
  | .movi | .movhi => ⟨true, false, false, 0, 32⟩
  | .br | .call => ⟨false, decide (i.f ≠ 0), decide (i.f ≠ 0), 6, 15⟩
  | .jmpr => ⟨false, true, false, 0, 0⟩
  | .ld | .prep => ⟨true, true, false, 0, 32⟩
  | .st => ⟨false, true, true, 0, 32⟩
  | .xchg => ⟨true, true, true, 0, 32⟩
  | .rdreg => ⟨true, true, false, 1, 32⟩
  | .wrreg => ⟨false, true, true, 1, 32⟩
  | .spawn => ⟨true, true, false, 3, 15⟩
  | .go | .commit | .cchk | .halt | .abandon => ⟨true, false, false, 0, 0⟩
  | .selcal => ⟨false, true, false, 0, 32⟩
  | .wait => ⟨true, true, decide (i.f ≠ 0), 1, if i.f = 0 then 6 else 0⟩
  | .sig => ⟨false, false, false, 0, 4⟩
  | .ring => ⟨false, false, false, 7, 5⟩
  | .stamp => ⟨true, decide (i.f ≠ 0), false, 1, if i.f = 0 then 0 else 32⟩
  | .armtp => ⟨true, true, true, 7, 16⟩
  | .train => ⟨true, true, false, 0, 0⟩
  | .resume => ⟨true, false, true, 0, 0⟩

/-- Whether the fields are those of a legal encoding: what is not used is 0, and F is one that the operation defines (R277). -/
def Triso.legal (i : Triso) : Bool :=
  let u := i.uses
  (u.d || decide (i.d = 0)) && (u.a || decide (i.a = 0)) && (u.b || decide (i.b = 0)) && decide (i.f.toNat ≤ u.fMax) &&
    decide (i.imm.toNat < 2 ^ u.imm)

/-- The instruction word: OP, D, A, B, F, the reserved bits, IMM (R277). -/
def Triso.encode (i : Triso) : Word := i.op.code ++ i.d ++ i.a ++ i.b ++ i.f ++ (0 : BitVec 8) ++ i.imm

/-- The instruction of a word; none for an illegal encoding (R277). -/
def Triso.decode (w : Word) : Option Triso :=
  match opOf (w.extractLsb' 56 8) with
  | none => none
  | some o =>
    let i : Triso := { op := o, d := w.extractLsb' 52 4, a := w.extractLsb' 48 4, b := w.extractLsb' 44 4,
                       f := w.extractLsb' 40 4, imm := w.extractLsb' 0 32 }
    if w.extractLsb' 32 8 = 0 ∧ i.legal then some i else none

/-! ## Immediates (R279) -/

/-- IMM, sign-extended. -/
def Triso.sext (i : Triso) : Word := i.imm.signExtend 64

/-- IMM, zero-extended. -/
def Triso.zext (i : Triso) : Word := i.imm.zeroExtend 64

/-- IMM[14:0], the target of BR, CALL and SPAWN. -/
def Triso.target (i : Triso) : Nat := i.imm.toNat % 32768

end Sys2Proof
end

