-- ==== Sys2Proof/Config.lean ====
section
/-! DEFINITION. What the manual leaves open: the free values of the model. Nothing in Lean can evaluate them. -/

namespace Sys2Proof.Config

/-- A fresh value that nothing constrains (log entry 4). The machine applies it to `State.freeCount`, which it advances. -/
opaque freeNat : Nat → Nat

/-- What a 64-bit word of uncorrectable data reads as where the manual gives only that it is uncorrectable (log entry 4). -/
opaque freeWord : Nat → Word

/-- What the owner of the pointer word of key slot `i` (triples 56 to 61) writes into it when the slot takes a key, or loses it: the
manual gives the word no form (log entry 53). -/
opaque slotPointer : Nat → Bool → Nat

end Sys2Proof.Config
end

