-- ==== Sys2Proof/Machine/State.lean ====
section
/-! DEFINITION. The state of the F2620: the register file, and every buffer, queue, counter and mode that the
manual gives a unit beside its registers. Plain data. -/

namespace Sys2Proof.Machine

open Sys2Proof

/-- The reasons for which the model stops with a fault. -/
inductive Fault where
  /-- Raised by a meaning whose command carries an operand that its wire or bus cannot carry (Instr.wf fails). Safe: the
  manual gives such a command no effect and no part of the device sends it. -/
  | illFormed (mnemonic : String)
  deriving DecidableEq, Repr

/-- The reasons for which the model gives a command no meaning. -/
inductive Refusal where
  /-- Raised by an arm of exec whose command has no meaning yet. Safe: nothing is claimed about the command. -/
  | notModelled (mnemonic : String)
  deriving DecidableEq, Repr

/-! ## Configuration root (R28 to R31, R292 to R294) -/

/-- A configuration write held at the root: the SEQ tick in which it landed, its register, the value the register takes
and the bits it writes. -/
structure RootWrite where
  tick : Nat
  addr : Nat
  val  : Word
  deriving DecidableEq, Repr

/-- One copy of the SH registers under a generation number (R29), by field key. A field that is not listed has its reset
value. -/
structure Bank where
  gen  : Nat
  vals : Map Nat
  deriving DecidableEq, Repr

/-- A COMMIT that waits (R292): the issuing thread and the tick in which the last of its writes landed. -/
structure CommitReq where
  thread   : Nat
  lastTick : Nat
  dst      : Nat
  deriving DecidableEq, Repr

/-- The configuration root. `banks` holds the active bank of each of the four switching points of R31: 0 Glory's coarse
stage, 1 Glory's pixel stage, Parison and the active beam table, 2 Lehr and Punty, 3 the flash sequencer. -/
structure Root where
  queue     : List RootWrite
  staged    : Bank
  banks     : List Bank
  commits   : List CommitReq
  threadTick : List Nat
  /-- Whether the active beam table has been cleared by the test window since the last commit (R419). -/
  tableCleared : Bool
  /-- A generation and the stripes that have been armed under it (R227). -/
  started : Nat × Nat
  deriving DecidableEq, Repr

/-! ## Journal (R429 to R435) -/

/-- A journal record (R429). -/
structure Record where
  time     : Nat
  src      : Nat
  cls      : Nat
  trunc    : Bool
  withheld : Bool
  code     : Nat
  seq      : Nat
  args     : List Nat
  deriving DecidableEq, Repr

/-- The journal unit beside its registers: records registered and on their way (R433), the records waiting on die for the
ring, those already written and still shown, each with its place of the buffer, oldest first, and what has been lost. `first`
is the SRC and SEQ of the first loss. -/
structure Journal where
  inFlight : List Record
  waiting  : List (Nat × Record)
  written  : List (Nat × Record)
  lost     : Nat
  /-- Vector 17 has been requested, and EVJ_RD has not been written since (R368). -/
  irq      : Bool
  first    : Option (Nat × Nat)
  /-- Code, SRC and SEQ of a class 4 event whose safe halt has not yet taken effect (R426). -/
  safePending : Option (Nat × Nat × Nat)
  deriving DecidableEq, Repr

/-! ## Stripes (R287, R288) -/

/-- A prepared stripe: its descriptor (R287), its generation, the first of its tile-column sequence numbers (R94)
and the job that it belongs to. -/
structure Stripe where
  num  : Nat
  len  : Nat
  orgX : Int
  orgY : Int
  xf0  : Int
  yax  : Int
  neg  : Bool
  ctx  : Nat
  gen  : Nat
  seq0 : Nat
  job  : Nat                      -- job of the context at its PREP
  deriving DecidableEq, Repr

/-! ## Gather (R76 to R98) -/

/-- The states of a cell (R91). -/
inductive CellState where
  | absent | fetching | pending | resident
  deriving DecidableEq, Repr

/-- An entry of a cell table (R87, R88, R94). -/
structure Cell where
  state   : CellState
  block   : Option (Nat × Nat)   -- its block: first page and order k of R88
  len     : Nat          -- LEN
  seg     : Nat          -- segment that holds it
  woff    : Nat          -- word offset of its CELL_BEGIN there
  listed  : Bool         -- a SEGREF names it
  defined : Bool         -- a CELL_BEGIN of it has been read
  pinSeq  : Option Nat   -- PIN_SEQ
  perm    : Bool         -- permanent pin
  lru     : Int          -- time of last use; a cold cell enters below all others (R90)
  fails   : Nat          -- consecutive PAGE_CHECK faults
  deriving DecidableEq, Repr

/-- A job context (R87) and what the device remembers of its job (R425). -/
structure JobCtx where
  job       : Nat                 -- 128-bit job identifier
  cells     : Map Cell
  seg0      : Bool                -- segment 0 has been requested
  dirDone   : Bool                -- the directory of segment 0 has been executed (R48)
  seg0Done  : Bool                -- the END of an authenticated segment 0 has been read
  figDone   : Bool                -- a class 3 figure-code fault has been reported (R74)
  segFails  : Map Nat             -- consecutive tag failures per segment
  segDead   : List Nat            -- segments that are not fetched again (R79)
  halt      : Option Nat          -- code of the first class 3 event (R425)
  lastPrep  : Option Nat          -- last stripe prepared (R288)
  lastAct   : Nat                 -- last stripe that became ACTIVE
  endAfter  : Option Nat          -- JOB_END: close when this stripe is DONE
  lastDone  : Option Nat          -- last stripe that became DONE
  nextSeq   : Nat                 -- next tile-column sequence number (R94)
  deriving DecidableEq, Repr

/-- The definition that the install parser is in: cell id, word offset of its CELL_BEGIN, LEN, whether it is installed. -/
structure OpenCell where
  id   : Nat
  woff : Nat
  len  : Nat
  inst : Bool
  deriving DecidableEq, Repr

/-- The install parser's place in a segment (R89), and what it has read of the stream: nothing of it reaches the cell table before
the tag has passed (R19). -/
structure Parse where
  pos    : Nat                    -- next word
  cell   : Option OpenCell
  begun  : Bool                   -- a CELL_BEGIN has been read
  top    : Bool                   -- the top cell has been read
  ended  : Bool                   -- END has been read, or a fault has been found
  endAt  : Option Nat             -- word offset behind END, until it has been seen that nothing follows (R43)
  made   : List Nat               -- cells installed from this segment
  refs   : Map (Nat × Nat × Nat)  -- SEGREFs read, by cell id: SEG, WOFF, LEN
  defs   : Map (Nat × Nat)        -- definitions read, by cell id: word offset and LEN
  last   : Nat                    -- word offset of the last CELL_BEGIN read
  deriving DecidableEq, Repr

/-- A parser fault held until the tag verdict (R89): event code and its three arguments. -/
structure Held where
  code : Nat
  seg  : Nat
  woff : Nat
  hdr  : Nat
  deriving DecidableEq, Repr

/-- An ingest slot and its WST session (R76, R327 to R330). The ciphertext lies in the slot's 128 MiB of the ingest area. -/
structure Ingest where
  ctx      : Nat
  seg      : Nat
  session  : Nat
  port     : Nat
  server   : Nat
  tries    : Nat                  -- servers tried
  start    : Nat
  total    : Option Nat
  got      : List Nat             -- packets received
  lastAck  : Nat                  -- ACK_NEXT of the last ACK
  uncovered : Bool                -- a packet received that no ACK covers
  lossSent : List Nat             -- missing packets already reported
  timeouts : Nat                  -- consecutive timeouts without new data
  answered : Bool                 -- the FETCH has had an answer
  decrypt  : Bool                 -- leave granted (R361)
  lane     : Option Nat           -- decompressor lane
  verdict  : Option Bool
  stopped  : Bool                 -- out-stopped for space (R95)
  inflated : Bool                 -- the decompressor task has ended
  err      : Nat                  -- DCP error code of the task
  parse    : Parse
  held     : Option Held
  deriving DecidableEq, Repr

/-- Gather beside its registers: two job contexts, sixteen ingest slots, the buddy allocator's free blocks as (order, first
page), the withheld pages and the least-recently-used clock. -/
structure Gather where
  ctxs     : List JobCtx
  slots    : List (Option Ingest)
  free     : List (Nat × Nat)
  withheld : List Nat
  clock    : Nat
  session  : Nat                  -- SESSION of the last session opened
  cold     : Nat                  -- cold cells installed so far
  deriving DecidableEq, Repr

/-! ## Decompressor lanes under software (R80 to R85) -/

/-- A lane under software: its input so far, what it has written, what it had written before its present output buffer, and what
it took from its registers at START or RESUME. -/
structure Lane where
  nextOwner : Option Nat          -- OWNER value written and not yet in effect
  input     : List Byte
  written   : Nat
  before    : Nat
  outAddr   : Nat
  outLen    : Nat
  limit     : Nat
  zlib      : Bool
  deriving DecidableEq, Repr

/-! ## Blowpipe and the tile scheduler (R99 to R111) -/

/-- The instances of an ARRAY that a level has still to enter, as (i, j) in the order of R102. -/
structure ArrayIter where
  cell   : Nat
  orient : Nat
  dx     : Int
  dy     : Int
  ax     : Int
  ay     : Int
  bx     : Int
  byy    : Int
  todo   : List (Nat × Nat)
  deriving DecidableEq, Repr

/-- A call-stack level (R100). -/
structure Level where
  cell   : Nat
  woff   : Nat
  orient : Nat
  dx     : Int
  dy     : Int
  cls    : Nat
  box    : Option (Int × Int × Int × Int)   -- XMIN, YMIN, XMAX, YMAX once CELL_BEGIN has been executed
  arr    : Option ArrayIter
  deriving DecidableEq, Repr

/-- What a walk context is doing. -/
inductive WalkState where
  | ready | waitCell | waitQueue
  deriving DecidableEq, Repr

/-- A walk context in use (R99, R100). -/
structure Walk where
  density : Bool
  ctx     : Nat
  stripe  : Nat
  gen     : Nat
  seq     : Nat
  tcol    : Int
  trow    : Int
  orgX    : Int
  orgY    : Int
  stack   : List Level
  state   : WalkState
  pages   : Map (List Nat)        -- the verified words of the innermost cell's pages that have been read, by page
  want    : Option Nat            -- cell waited for
  eng     : Nat                   -- Marver engine and slot of a raster walk
  slot    : Nat
  sums    : Map Nat               -- density areas, by coarse cell (0 to 15) times 256 plus class
  deriving DecidableEq, Repr

/-- The two sweeps of one stripe at the front end (R20, R131): tiles started and ended, columns released. -/
structure Sweep where
  stripe     : Stripe
  dStarted   : Nat
  dEnded     : Nat
  rStarted   : Nat
  rEnded     : Nat
  degenerate : Nat
  revoked    : Nat                -- density pins revoked for the stripe (R95)
  overCnt    : Nat
  clamped    : Nat
  drained    : Map Nat            -- tiles drained, empty ones included, by tile column
  released   : Nat                -- tile columns released to Glory (R111)
  rasterOver : Bool               -- all of them are, and OVERLAP has been reported
  deriving DecidableEq, Repr

/-- The front end: the stripes whose sweeps are not over, oldest first, and the 32 walk contexts (engine e, context c at
4e + c). -/
structure Blowpipe where
  sweeps   : List Sweep
  walks    : List (Option Walk)
  deriving DecidableEq, Repr

/-! ## Marver (R113 to R128) -/

/-- A trapezoid record (R104). -/
structure Trap where
  c0   : Nat
  c1   : Nat
  cls  : Nat
  kind : Nat
  rsv  : Nat
  lu0  : Int
  lv0  : Int
  lu1  : Int
  lv1  : Int
  ru0  : Int
  rv0  : Int
  ru1  : Int
  rv1  : Int
  deriving DecidableEq, Repr

/-- A tile slot: the tile it holds, its queue, its accumulator (by pixel word index, class and sum) and its drain. -/
structure MSlot where
  ctx      : Nat
  job      : Nat
  stripe   : Nat
  gen      : Nat
  seq      : Nat
  tcol     : Nat
  trow     : Nat
  started  : Bool                 -- consumption has begun, or may begin (R114)
  queue    : List Trap
  ended    : Bool
  acc      : Map (List (Nat × Nat))
  consumed : Nat
  discard  : Bool
  draining : Bool
  word     : Nat                  -- next pixel word to drain
  deriving DecidableEq, Repr

/-! ## Glory (R130 to R147) -/

/-- A density item on its way to the coarse stage: one tile of a density walk. -/
structure DensItem where
  stripe : Nat
  gen    : Nat
  tcol   : Int
  trow   : Int
  sums   : Map Nat
  deriving DecidableEq, Repr

/-- A tile header waiting for the pixel stage (R124). -/
structure TileHdr where
  ctx    : Nat
  stripe : Nat
  gen    : Nat
  seq    : Nat
  tcol   : Nat
  trow   : Nat
  empty  : Bool
  eng    : Nat
  slot   : Nat
  deriving DecidableEq, Repr

/-- Glory beside its registers. Coarse cells are keyed by `cellKey i j`. -/
structure Glory where
  coarseIn  : List DensItem
  stripe    : Option Stripe       -- stripe in the coarse window
  src       : Map Nat             -- source densities s of R133
  dens      : List (Int × Int)    -- tiles whose density has arrived
  corr      : Map Nat             -- correction factors M of finished columns
  colsDone  : Nat                 -- coarse columns finished, counted from column −1
  dsat      : Nat                 -- coarse cells clamped in the stripe
  headers   : List TileHdr        -- headers offered by the tile scheduler
  tile      : Option TileHdr      -- tile being written
  pix       : Option Stripe       -- stripe of the pixel stage
  halves    : List (Map Nat)      -- the two halves of the pixel dose buffer, by pixel x·2^18 + y: dose, bit 12 sat
  halfUsed  : List (Option Nat)   -- the number of the band in each half
  tilesIn   : Map Nat             -- tiles written, per band number
  bandNext  : Nat                 -- number of the next band to release
  bandBase  : Nat                 -- number of the first band of the pixel stage's stripe
  colsFreed : Map Nat             -- tile columns released by the scheduler (R111), by stripe key
  sat       : Nat                 -- saturated pixels in the stripe
  deriving DecidableEq, Repr

/-! ## Beam map (R148 to R167) -/

/-- One entry of the active beam table (R157). -/
structure BeamEntry where
  yb     : Nat
  x0     : Nat
  pass   : Nat
  status : Nat
  dx     : Int
  dy     : Int
  gain   : Nat
  deriving DecidableEq, Repr

/-- One bank of the active beam table: the generation that filled it, whether the fill failed and with what, and its
entries by beam; a beam that is not listed has the all-zero entry. -/
structure BeamBank where
  gen     : Nat
  filled  : Bool
  cause   : Nat
  beam    : Nat
  entries : Map BeamEntry
  lagGroup : Option Nat           -- lowest group that breaks R178
  bad     : Option Nat            -- an uncorrectable word that the fill met (R409)
  deriving DecidableEq, Repr

/-- The selection a commit latches (R156). -/
structure FillJob where
  gen   : Nat
  log2n : Nat
  bank  : Nat
  lo    : Nat
  hi    : Nat
  f     : Nat
  selBad : Bool
  deriving DecidableEq, Repr

/-- The beam-map unit beside its registers. -/
structure Beam where
  fill     : Option FillJob
  stagedT  : BeamBank
  activeT  : BeamBank
  tempTick : Option Nat           -- time of the last report that formed T, 100 ps since PORn
  prevTemp : Option (Int × Nat)   -- T and the time of the last report before that one's SEQ tick (R154)
  ccCheck  : Bool                 -- a cell check has reached STATE 2 since the last accept (R166)
  ccNumber : Nat                  -- check number (R218)
  ccGot    : Nat                  -- results in, of the running check
  ccSent   : Bool                 -- the request of the running check has left
  ccAccept : Option (Nat × Nat)   -- accept in progress: source, destination
  chkBank  : Option Nat           -- bank of a BMP_CHECK in progress
  deriving DecidableEq, Repr

/-! ## Parison (R168 to R189) -/

/-- Where a stripe lies in the ring (R183). -/
structure RingStripe where
  num  : Nat
  gen  : Nat
  ctx  : Nat
  base : Nat                      -- B
  nc   : Nat                      -- NC
  done : Nat                      -- chunks complete
  cols : Nat                      -- pixel columns written, c of R21
  sent : Nat                      -- chunks released (R184); all of them once the stripe is given up (R185)
  flashes : Nat                   -- its flashes, L + max x0_b (R253)
  minX0 : Nat                     -- min x0_b (R428)
  closed : Bool                   -- its job's context has closed since
  deriving DecidableEq, Repr

/-- A band that Glory has released and Parison has not finished: its stripe's key and generation (R31), its number in the stripe and
the half of the pixel dose buffer that holds it. -/
structure Band where
  key  : Nat
  gen  : Nat
  no   : Nat
  half : Nat
  deriving DecidableEq, Repr

/-- Parison beside its registers. `doses` holds the doses of released bands still needed, by pixel x·2^18 + y. -/
structure Parison where
  stripe   : Option Stripe        -- the stripe in process, from its column 0
  next     : List Stripe          -- stripes prepared and not yet begun by Parison
  bands    : List Band            -- bands released and not finished, oldest first
  bcol     : Nat                  -- columns processed in the first of these bands
  burst    : Nat                  -- columns left of the present burst
  col      : Nat                  -- columns written, c of R21
  doses    : Map Nat              -- the sampling edge store, by pixel x·2^18 + y
  asm      : Map Nat              -- codes under assembly, by flash·2^18 + beam
  ring     : List RingStripe
  holdFrom : Option Nat           -- held under R22 since this time, in 100 ps since PORn
  unc      : Nat
  lsat     : Nat
  held     : Nat                  -- CORE cycles held in the stripe
  total    : Nat                  -- pixel columns written of all stripes (R258)
  owner    : Nat                  -- context times 2^128 plus job of the stripe in PAR_STRIPE (R345)
  logOwner : Map Nat              -- the same for each entry of PAR_UNC_LOG
  deriving DecidableEq, Repr

/-! ## Lehr and Punty (R190 to R228) -/

/-- A staging half of the ACTIVE stripe: the stripe and its generation (R31), the chunk and the half of it (R190) that it holds, whether
its load has ended, and the codes of its blocks by group j, in index order (R179); a group that is not listed is all zero. -/
structure Half where
  stripe : Nat
  gen    : Nat
  chunk  : Nat
  part   : Nat
  ready  : Bool
  codes  : Map (List Nat)
  deriving DecidableEq, Repr

/-- A frame sent and not yet answered (R211, R212). -/
structure FrameSent where
  flash : Nat
  plane : Nat
  ftype : Nat
  first : Bool
  ver   : Bool                    -- a training frame sent in VERIFY
  deriving DecidableEq, Repr

/-- A plane lane: its alive counter, when it is free, its unanswered frames, the frames that await a replay, and the
training progress. -/
structure PLane where
  alive   : Nat
  freeAt  : Nat                   -- end of its last block, 100 ps since PORn
  out     : List FrameSent
  replay  : List FrameSent
  kept    : List (FrameSent × List Word × List Word)   -- the replay buffer: the last four frames, their data and what was sent of them
  next    : Nat × Nat             -- next flash and plane to send
  sync    : Bool                  -- a keystream sync frame is due first
  taps    : Nat × Nat × Nat       -- PRE, MAIN, POST in use
  tapReqs : Nat                   -- TAP_REQ messages received in EQ
  applied : Nat                   -- TAP_REQ messages applied (R222)
  verify  : Nat                   -- training frames acknowledged in VERIFY
  prbs    : Nat                   -- the state of the training frames' PRBS31 (R222)
  scr     : Nat                   -- the last 58 bits that the scrambler has sent (R196)
  cable   : Bool                  -- the reach in force since the last training (R223)
  preset  : Nat × Nat × Nat       -- the taps from which that training began (R223)
  ccDue   : Bool                  -- a cell-check request waits for its turn (R212, R218)
  deriving DecidableEq, Repr

/-- A return lane (R203, R215, R217). -/
structure RLane where
  lock    : Bool
  alive   : Option Nat            -- ALIVE of the previous message
  echo    : Nat                   -- ALIVE of the last valid message, 0 where there is none since PORn or the last DOWN (R201)
  good    : Bool                  -- a valid LINK_STATUS since the lock was acquired
  deriving DecidableEq, Repr

/-- Lehr and Punty beside their registers. -/
structure Link where
  halves   : List (Option Half)
  serve    : Option (Nat × Nat)   -- chunk and half being served
  lanes    : List PLane
  rets     : List RLane
  acks     : Map Nat              -- by flash·16 + plane: mask of lanes that hold an ACK
  train    : Option Nat           -- lanes of the TRAIN in progress
  nonces   : List (Option Nat)    -- last effective nonce per key slot (R227)
  nonce    : Nat                  -- effective nonce of the stripe
  deriving DecidableEq, Repr

/-! ## Stage feedback (R229 to R252) -/

/-- An edge kept for the speed measurement (R240): position, Thyme time in 100 ps. -/
structure Edge where
  pos : Int
  t   : Nat
  deriving DecidableEq, Repr

/-- The latest value of a channel that has registered in SEQ (R239, R263): position, speed in 2^-8 count/s, stamp in 100 ps. -/
structure Seen where
  pos   : Int
  speed : Int
  stamp : Nat
  deriving DecidableEq, Repr

/-- A channel beside its registers. -/
structure Chan where
  phi     : Option Nat            -- phi_prev in 2^-16 count, once a sample has been tracked (R231)
  track   : Bool                  -- the channel tracks (R232, R233)
  bad     : Nat                   -- consecutive samples outside the window (R233)
  raw     : Nat                   -- the level of the inputs, A + 2·B (R234)
  level   : Nat                   -- the same behind the filter
  aAt     : Nat                   -- the sample in which A last changed, counted from PORn
  bAt     : Nat                   -- the same of B
  run     : List Edge             -- the edges of the present run, newest first (R240)
  dir     : Option Bool           -- direction of the previous edge, true negative; none after standstill
  idxRef  : Option Int            -- IDX_REF (R238)
  lastSsi : Option Edge           -- last accepted SSI position (R236, R243)
  reading : Bool                  -- an SSI frame is being clocked (R235)
  edgeAt  : Nat                   -- when the last edge entered the run, 100 ps since PORn (R240)
  latch   : Nat                   -- time of the frame's first falling clock edge
  latchAt : Nat                   -- the same instant in 100 ps since PORn
  seen    : Seen
  deriving DecidableEq, Repr

/-- What comes later of what has already happened (R234, R239, R249, R313). -/
inductive Later where
  | quad (n k : Nat)                       -- an input of channel n that changed in sample k has had time to be stable
  | index (n t : Nat)                      -- the edges of QE channel n up to an index edge stamped t have had time to be counted (R237)
  | sample (n : Nat) (v : Seen)            -- a value of channel n registers in SEQ
  | fault (n cause : Nat)                  -- a fault of channel n registers in SEQ
  | deviation (a : Nat) (dev : Int)        -- a deviation of axis a, in grid units, registers in SEQ
  | compare (c : Nat) (pin : Bool) (width : Nat)    -- the pulse of compare c leaves
  | capture (src : Nat) (falling : Bool)   -- an edge of an internal source reaches the captures
  | posted (t pc addr n : Nat) (v : Word)  -- a WRREG of thread t at pc reaches its register of n bytes (R283)
  deriving DecidableEq, Repr

/-- What the stage feedback unit has under way. -/
def Later.ofSfb : Later → Bool
  | .capture src _ => decide (src < 8)
  | .posted _ _ _ _ _ => false
  | _ => true

/-- Whether it is a posted write of a thread. -/
def Later.postOf (t : Nat) : Later → Bool
  | .posted u _ _ _ _ => decide (u = t)
  | _ => false

/-- An encoder emulation output (R251): the latched position and the output count. -/
structure Emu where
  c0   : Int
  out  : Int
  deriving DecidableEq, Repr

/-! ## Motion and flash sequencer (R253 to R272) -/

/-- A segment of constant acceleration of a planned motion: duration in s, speed at its beginning in grid units/s,
acceleration in grid units/s² (R255). -/
structure Seg where
  dur : Rat
  v0  : Rat
  a   : Rat
  deriving DecidableEq, Repr

/-- The planned motion of one axis: position at its beginning in grid units, its segments, and the speed kept after them. -/
structure Track where
  p0   : Rat
  segs : List Seg
  vEnd : Rat
  deriving DecidableEq, Repr

/-- The motion unit's plan: the Thyme time at which it begins, in 100 ps, and the two axes' motion. -/
structure Plan where
  t0 : Nat
  x  : Track
  y  : Track
  deriving DecidableEq, Repr

/-- The motion unit and flash sequencer beside their registers. -/
structure Motion where
  prof     : List Nat             -- the eight latched parameters (R254)
  vc       : Nat                  -- cruise of the stripe
  plan     : Plan
  past     : List Plan            -- the plans before it, newest first (R263)
  t0       : Nat                  -- first flash of the stripe or of the resume
  leadOver : Bool                 -- the lead wait is over
  armed    : Bool                 -- t₀ is armed
  begun    : Bool                 -- t₀ of the stripe has been armed once
  badNonce : Bool                 -- KS_NONCE has been raised for the stripe (R227)
  flashing : Bool                 -- the stripe is flashing (R256)
  next     : Nat                  -- next flash whose A(t, 0) is to be fixed
  a0       : Map Nat              -- fixed A(t, 0), in 100 ps, of the last flashes
  committed : Nat                 -- flashes whose commit point has passed
  struck   : Nat × Nat            -- next plane to strobe: flash and plane
  warned   : Bool                 -- OVERSPEED_WARN journalled for the stripe
  colMark  : Nat                  -- columns done at the last PACE_EVAL, or when t₀ was armed
  dlAlive  : Nat
  dlFree   : Nat                  -- end of the last block on DL0, 100 ps since PORn
  dlScr    : Nat                  -- the last 58 bits that its scrambler has sent (R266)
  spSeq    : Nat
  retSeq   : List (Option Nat)    -- last echoed SEQ per port, of its valid returns
  retStat  : List Nat             -- status byte of the last valid return
  retMiss  : List Nat             -- frames sent since the last valid return
  deriving DecidableEq, Repr

/-- An auxiliary axis beside its registers (R268 to R271). -/
structure Aux where
  vel     : Nat                   -- the square of the present speed, (steps/s)²
  neg     : Bool                  -- AXa_DIR of the motion
  s0      : Int
  e0      : Int
  deriving DecidableEq, Repr

/-! ## Gaffer (R273 to R300) -/

/-- Why a thread waits. -/
inductive Waiting where
  | none
  | event (dst mask : Nat) (timed : Bool)   -- WAIT: destination, lines, whether a timeout ends it (R291)
  | commit
  | slot                                    -- WRREG: 32 posted writes are outstanding (R283)
  deriving DecidableEq, Repr

/-- A hardware thread (R273). -/
structure Thread where
  g       : List Word
  pc      : Nat
  stack   : List Nat
  pend    : Word
  running : Bool
  wait    : Waiting
  fault   : Bool
  cause   : Nat
  deriving DecidableEq, Repr

/-- Gaffer beside its registers. Program words are 64-bit words by PC; the data memory is bytes by address. -/
structure Gaffer where
  threads  : List Thread
  pmem     : Map Word
  dmem     : List Host.Cell
  prepared : Option Stripe
  queued   : Option Stripe
  active   : Option Stripe
  last     : Nat × Nat            -- the last stripe to end: number and SSTATE, 5 DONE or 6 abandoned (R333)
  resumeOk : Bool                 -- a RESUME has been accepted for this halt, and t_h is not armed yet
  ending   : Bool                 -- the abandoned stripe still decelerates (R298)
  progSlot : Nat                  -- signer slot of the loaded program
  haltTick : Nat                  -- SEQ tick in which the present halt was latched (R295)
  deriving DecidableEq, Repr

/-! ## Thyme (R301 to R320) -/

/-- A reference pair beside its registers (R308, R309). -/
structure RefPair where
  tref     : Nat                  -- time of the last TREF edge, 100 ps
  count    : Nat                  -- TREF edges since the last PPS edge
  lastPps  : Option Nat           -- time of the last PPS edge, 100 ps
  good     : Nat                  -- consecutive good PPS intervals
  deriving DecidableEq, Repr

/-- Thyme beside its registers. -/
structure Thyme where
  sec    : Nat
  ns     : Nat
  frac   : Nat
  slew   : Int                    -- slew remainder in 2^-32 ns (R306)
  refs   : List RefPair
  fifos  : List (List Nat)        -- capture FIFOs, oldest first, 100 ps
  tcLast : List (Option Nat)      -- the last edge taken from each pin TCn, 100 ps since PORn (R313)
  deriving DecidableEq, Repr

/-! ## Ethernet and cluster (R321 to R343) -/

/-- A member record (R336). -/
structure Member where
  state    : Nat
  sent     : Nat
  acked    : Nat
  stripe   : Nat
  sstate   : Nat
  th       : Nat
  held     : Nat
  deriving DecidableEq, Repr

/-- A JOURNAL message not yet acknowledged (R337): JSEQ, member, whether it is a full record, and the record. -/
structure JournalMsg where
  jseq   : Nat
  member : Nat
  full   : Bool
  record : Member
  deriving DecidableEq, Repr

/-- A grant sent or held back (R334, R337): worker, GSEQ, the JSEQ that records it, whether it may be sent, whether it has been; and the
descriptor of a grant relayed for a higher manager (R342), which is in no list of this device. -/
structure GrantMsg where
  worker : Nat
  gseq   : Nat
  jseq   : Nat
  ready  : Bool
  sent   : Bool
  desc   : Option (List Word)
  deriving DecidableEq, Repr

/-- The cluster agent beside its registers. Descriptors are five 64-bit words (R287). -/
structure Cluster where
  members  : List Member          -- members 1 to 16
  lists    : List (List (List Word))     -- stripe list per worker
  grants   : List GrantMsg        -- grants not yet acknowledged
  journals : List JournalMsg
  applied  : Nat                  -- JSEQ applied (standby) or last sent (manager)
  digest   : Option (Nat × List Byte)    -- standby: a digest that awaits its JSEQ
  sbFailed : Bool
  alone    : Bool                 -- manager: no device has joined it
  term     : Nat                  -- manager: the term that it has taken (R338)
  upTerm   : Nat                  -- the highest term seen of the upper tier (R342)
  started  : List Nat             -- per worker, the entries of its list known to have become ACTIVE (R334)
  tails    : List (Nat × Nat)     -- per worker, motion STATE and halt cause of its last STATUS (R342)
  heardMgr : Bool                 -- joining: a manager heartbeat has been heard
  joinLeft : Nat                  -- joining: full records still to come
  conflict : List Nat             -- workers that are not granted to any more
  placed   : List (Nat × List Word)      -- worker: the grants in the four slots, GSEQ and descriptor
  heldSeq  : Nat                  -- worker: highest GSEQ placed
  routes   : List Nat             -- per worker, the device that relayed its last STATUS, 0 for none (R342)
  servo    : Option Int           -- the Sync interval of the PTP servo, log2 of seconds, where this device runs one (R341, R384)
  seq      : Nat                  -- SEQ of the next cluster message
  owed     : List Nat             -- workers whose STATUS the new manager still awaits (R340)
  deriving DecidableEq, Repr

/-- A Delay_Req that waits for its launch time (R318): port, launch time in ns form, the frame. -/
structure Launch where
  port  : Nat
  lt    : Nat
  frame : List Byte
  deriving DecidableEq, Repr

/-! ## Sage (R344 to R364) -/

/-- A job key in a context's slot: the key, its job and DIAG (R352, R354). -/
structure JobKey where
  key  : List Byte
  job  : Nat
  diag : Bool
  deriving DecidableEq, Repr

/-- Sage beside its registers. The fuse array is bytes by offset. -/
structure Sage where
  fuses    : List Host.Cell
  jobKeys  : List (Option JobKey)
  laneKeys : List (Option (List Byte))
  chal     : Option (List Byte)
  chalAt   : Nat                  -- time at which it was issued, 100 ps since PORn
  keysOk   : Bool                 -- both key pairs derived and their hash checked (R351)
  fwHash   : List Byte            -- BODY_HASH of the running firmware
  deriving DecidableEq, Repr

/-! ## Host access, mailboxes, locks, DMA, CRC (R365 to R400) -/

/-- A mailbox channel: its queued messages of 64 bytes, oldest first, and its next SEQ (R373, R375). -/
structure Channel where
  msgs : List (List Byte)
  seq  : Nat
  deriving DecidableEq, Repr

/-- A DMA descriptor (R389). -/
structure Desc where
  src  : Nat
  dst  : Nat
  len  : Nat
  flags : Nat
  next : Nat
  deriving DecidableEq, Repr

/-- A DMA channel beside its registers: the address of the next descriptor to fetch, whether the last descriptor has been
carried out, whether the chain raises its vector, whether an end has requested it since DONE_SEEN was clear, and the master that started it. -/
structure DmaCh where
  fetch  : Option Nat
  moved  : Bool
  irq    : Bool
  asked  : Bool         -- an end that has set DONE_SEEN requested the vector (R368)
  master : Nat
  aborting : Option Nat -- the SEQ tick of an ABORT that still waits for outstanding writes (R395)
  flush  : Option Nat   -- the last host address that the channel has written, whose answer is outstanding
  deriving DecidableEq, Repr

/-- Mailboxes, doorbells, locks, DMA channels and CRC engines. Channel (s, r) is at 6s + r. Windows and channels keep bytes. -/
structure HostIf where
  channels : List Channel
  windows  : List (List Byte)     -- transmit windows, sender s receiver r at 6s + r
  fullSeen : List Bool            -- MBX_TX_CTL.FULL_SEEN, by channel
  dbPend   : List Word
  dbMask   : List Word
  dbWake   : List Word
  locks    : List (Option Nat)
  dma      : List DmaCh
  crc      : List Word            -- CRC engine states (R397)
  msixTable : List Host.Cell      -- the MSI-X table, by its byte offset (R367)
  pba      : Nat                  -- its pending bits: vectors requested while masked
  aer      : Option (Nat × Nat)   -- the header that AER logged last: address and bytes of the refused write (R372)
  mem      : List Host.Cell       -- host memory at DMA addresses of SPACE 1
  bad      : List (Nat × Nat)     -- its ranges, address and bytes, that the host answers with an error completion (R392)
  readData : Word                 -- data returned by the last register read
  readErr  : Bool                 -- the last host access completed with Completer Abort
  admitted : Bool                 -- an admission has set the region bounds (R371)
  wide     : Bool                 -- partition laid out for P of 9 or more (R386)
  deriving DecidableEq, Repr

/-! ## HBM controllers and protection (R401 to R422) -/

/-- A bank of a channel, and whether it has had its refresh of the interval (R406, R407). -/
structure HbmBank where
  row       : Option Nat
  hist      : Nat
  refreshed : Bool
  deriving DecidableEq, Repr

/-- A request waiting at a controller (R405). -/
structure HbmReq where
  port     : Nat
  src      : Nat                  -- its source within the port (R404)
  addr     : Nat
  write    : Bool
  arrival  : Nat
  deadline : Nat
  deriving DecidableEq, Repr

/-- The own cells of a block that a valid Cullet entry redirects (R414): each word's data and check bits. -/
structure Spare where
  words : List (Word × Nat)
  deriving DecidableEq, Repr

/-- An access of the test window as it was asked for (R419, R420): 0 WR, 1 RD, 2 RDC; its group, address, data and check bits. -/
structure TestAcc where
  op    : Nat
  grp   : Nat
  addr  : Nat
  data  : Nat
  check : Nat
  deriving DecidableEq, Repr

/-- HBM, the memory groups and the triplicated words. HBM holds bytes by address, groups 4 to 13 words by group·2^36 + address:
what an access is served with, from the spare of a valid Cullet entry where there is one. A word's stored check bits are listed
where they are not those of its data; HBM words are keyed by their address, others by group·2^36 + address. -/
structure MemSys where
  hbm      : List Host.Cell
  groups   : Map Word
  checks   : Map Nat
  poison   : List Nat             -- words marked in the POISON mask of a valid entry, by the same key (R415)
  spares   : Map Spare            -- the own cells behind valid entries, by group·16 + entry
  banks    : Map HbmBank          -- by channel·128 + bank index; unlisted: no row open, history 2, refreshed
  queue    : List HbmReq
  asleep   : List Nat             -- channels in power-down
  hbmWritten : Bool               -- a write has reached HBM since PORn (R403)
  grpWritten : List Bool          -- a write has reached the group since PORn (R413)
  watch    : List (List (Nat × Nat))     -- per group: (block, CE count), oldest first
  fullTold : List Bool            -- CULLET_FULL journalled and no entry freed since
  cleared  : List Bool            -- group cleared since its unit was last enabled (R419)
  clearing : Option (Nat × List TestAcc)     -- group being cleared and the accesses that wait
  tmr      : Map Nat              -- what the voters drive of the triples 0 to 51 and 56 to 61 (R417)
  copies   : Map (List (Nat × Bool))     -- the three copies of a triple in disagreement, each with whether its parity checks (R418)
  deriving DecidableEq, Repr

/-! ## Power, clocks, reset, boot (R436 to R454) -/

/-- Who waits for leave, or holds it (R451). -/
inductive Requester where
  | marver (eng slot : Nat)
  | coarse
  | pixel
  | parison
  | training (group : Nat)
  | sage (slot : Nat)
  deriving DecidableEq, Repr

/-- A leave request or grant. -/
structure Leave where
  who   : Requester
  units : Nat
  since : Nat                     -- time of the request since PORn, 100 ps
  deriving DecidableEq, Repr

/-- The pins whose state R461 gives, from power-up until their unit drives them. -/
inductive Pin where
  | axStep (a : Nat)
  | axDir (a : Nat)
  | axEn (a : Nat)
  | axCur (a : Nat)
  | pco (c : Nat)
  | em (e : Nat) (b : Bool)
  | tp (n : Nat)
  | sp (n line : Nat)             -- line 0 SPn_CLK, 1 SPn_FS, 2 SPn_TD
  | seClk (n : Nat)
  | qspiIo (n : Nat)
  | qspiCs
  | tdo
  | inputA
  | inputC
  | gp (n : Nat)
  | trst
  | tms
  | tdi
  | stb (mirror : Bool)
  deriving DecidableEq, Repr

/-- The states of a pin in R461. -/
inductive PinState where
  | low | high | highZ | pullDown | pullUp | diffLow
  deriving DecidableEq, Repr

/-- The power unit and governor beside their registers. -/
structure Power where
  waiting  : List Leave           -- in order of arrival
  grants   : List Leave
  reported : Nat                  -- EFF at the last BUDGET_CHANGE report
  waitMark : Nat                  -- time up to which waiting has been counted (PGV_CNT_WAIT), 100 ps since PORn
  porn     : Bool                 -- PORn is high
  thermN   : Bool                 -- THERMTRIP_N is high
  fuseV    : Bool                 -- VDD_FUSE lies in its range
  released : Bool                 -- stage 6 has been reached since PORn (R446)
  bankV    : List (Option Nat)    -- the voltages of banks A to D, measured at PORn release (R458)
  driven   : List (Pin × PinState)   -- the pins that their unit has driven since PORn, with the level of each (R461)
  image    : List Host.Cell       -- image memory written through the push window
  fwLen    : Nat                  -- bytes of the running firmware's body, in group 16 from address 0
  deriving DecidableEq, Repr

/-! ## What leaves the device -/

/-- A 66-bit block of a line: its header, bit 0 sent first, and its payload (R196). -/
structure Block where
  hdr     : Nat
  payload : Word
  deriving DecidableEq, Repr

/-- An IPv4 packet that the device makes itself (R323): the destination MAC address where the frame's is known without ARP, the next hop,
source and destination, protocol, DF, and what stands behind the IPv4 header. The manual gives no other field of that header. -/
structure Packet where
  mac   : Option Nat
  hop   : Nat
  src   : Nat
  dst   : Nat
  proto : Nat
  df    : Bool
  data  : List Byte
  deriving DecidableEq, Repr

/-- What the device has sent or driven, oldest first: the model's record of its interfaces (R1). -/
inductive Output where
  | frame (lane flash plane ftype alive : Nat) (first replay ks : Bool) (kslot echo : Nat) (data : List Word) (crc : Nat)
  | line (lane idle : Nat) (blocks : List Block)               -- a plane lane's IDLE blocks and the scrambled blocks of a frame (R196, R197)
  | pattern (lane poly seed : Nat)                             -- in TEST: the pattern from a generator state on, uncoded (R224)
  | patternFlip (lane : Nat)                                   -- one bit of it flipped
  | deflect (idle : Nat) (blocks : List Block)                 -- DL0's IDLE blocks and the scrambled blocks of a record (R266, R267)
  | strobe (flash plane at100ps width : Nat) (mirror : Bool)    -- on FLS_STB, and alike on FLS_STBM where mirrored (R207)
  | setpoint (port : Nat) (bytes : List Byte)
  | packet (port : Nat) (p : Packet)
  | eth (port : Nat) (frame : List Byte) (fcs : Nat)            -- a frame whose bytes are all known, without preamble, and its FCS
  | msix (vector : Nat)
  | coreInt (receiver : Nat)
  | wake (receiver : Nat)
  | timedPulse (n start width : Nat)
  | compare (c width : Nat)
  | emu (e : Nat) (count : Int)
  | step (axis : Nat) (neg : Bool) (width : Nat)               -- a step pulse, its width in 10 ns (R268)
  | axEnable (axis : Nat) (high : Bool)
  | axCurrent (axis : Nat) (reduced : Bool)
  | axDir (axis : Nat) (neg : Bool)
  | ssiClock (n bits : Nat)
  | ptpRx (port : Nat) (frame stamp : List Byte)                -- a message delivered with its receive stamp (R316)
  | ptpPass (port : Nat) (frame : List Byte)                    -- one delivered without (R314)
  | completerAbort (addr : Nat)                                -- a read completed with Completer Abort
  | aer (addr bytes : Nat)                                      -- a write reported as a non-fatal Completer Abort, its header logged (R372)
  | completion (addr : Nat) (bytes : List Byte)
  | provisioned (idPub kaPub sig : List Byte)
  | thermtrip (high : Bool)
  | pin (p : Pin) (l : PinState)                                -- a pin takes a state of R461
  | patternEnd (lane : Nat)                                     -- the pattern of a TEST ends
  deriving DecidableEq, Repr

/-! ## The whole device -/

/-- The state of the F2620. `regs` holds every field of the register map that differs from its reset value, by field key
(Fld.key: the register's BAR offset times 64 plus the field's lowest bit); `pending` the commands that wait, first in first out; `tick` the SEQ ticks since PORn. `freeCount` is the MODEL'S OWN
counter that makes each free value fresh (log entry 4). -/
structure State where
  pending  : List Instr
  tick     : Nat
  freeCount : Nat
  regs     : Map Nat
  root     : Root
  journal  : Journal
  gather   : Gather
  lanes    : List Lane
  blow     : Blowpipe
  mslots   : List (Option MSlot)  -- engine e, slot k at 2e + k
  current  : List Nat             -- slot being rasterised, per engine
  glory    : Glory
  beam     : Beam
  par      : Parison
  link     : Link
  chans    : List Chan
  later    : List (Nat × Later)   -- what is still to come, by its time in 100 ps since PORn
  emus     : List Emu
  mot      : Motion
  aux      : List Aux
  gaf      : Gaffer
  thyme    : Thyme
  launches : List Launch          -- Delay_Req messages that wait (R318)
  ports    : List (Nat × Output)  -- frames that wait behind one of them, with their port, oldest first
  clu      : Cluster
  sage     : Sage
  host     : HostIf
  mem      : MemSys
  power    : Power
  out      : List Output
  deriving DecidableEq, Repr

/-! ## Reset -/

/-- An empty cell-table entry (R91: ABSENT). -/
def Cell.empty : Cell :=
  { state := .absent, block := none, len := 0, seg := 0, woff := 0, listed := false, defined := false,
    pinSeq := none, perm := false, lru := 0, fails := 0 }

/-- A job context that holds no job. -/
def JobCtx.empty : JobCtx :=
  { job := 0, cells := [], seg0 := false, dirDone := false, seg0Done := false, figDone := false, segFails := [], segDead := [], halt := none, lastPrep := none,
    lastAct := 0, endAfter := none, lastDone := none, nextSeq := 0 }

/-- A parser at the first word of a segment. -/
def Parse.start : Parse :=
  { pos := 0, cell := none, begun := false, top := false, ended := false, endAt := none, made := [], refs := [], defs := [], last := 0 }

/-- Generation 0, which names the reset values (R292). -/
def Bank.zero : Bank := { gen := 0, vals := [] }

/-- A beam-table bank that no generation has filled. -/
def BeamBank.empty : BeamBank := { gen := 0, filled := false, cause := 0, beam := 0, entries := [], lagGroup := none, bad := none }

/-- A plane lane at PORn (R221: DOWN). -/
def PLane.reset : PLane :=
  { alive := 0, freeAt := 0, out := [], replay := [], kept := [], next := (0, 0), sync := false, taps := (0, 63, 0),
    tapReqs := 0, applied := 0, verify := 0, prbs := 0x7FFFFFFF, scr := 0, cable := false, preset := (0, 63, 0), ccDue := false }

/-- A return lane at PORn. -/
def RLane.reset : RLane := { lock := false, alive := none, echo := 0, good := false }

/-- A channel before it is enabled. -/
def Chan.reset : Chan :=
  { phi := none, track := false, bad := 0, raw := 0, level := 0, aAt := 0, bAt := 0, run := [], dir := none, idxRef := none, lastSsi := none,
    reading := false, edgeAt := 0, latch := 0, latchAt := 0, seen := { pos := 0, speed := 0, stamp := 0 } }

/-- The plan of a stage at rest at the origin. -/
def Plan.rest : Plan :=
  { t0 := 0, x := ⟨0, [], 0⟩, y := ⟨0, [], 0⟩ }

/-- A thread whose registers, return stack, pending events and fault state are clear (R276). -/
def Thread.cleared : Thread :=
  { g := List.replicate 16 0, pc := 0, stack := [], pend := 0, running := false, wait := .none, fault := false, cause := 0 }

def RefPair.reset : RefPair := { tref := 0, count := 0, lastPps := none, good := 0 }

def Member.reset : Member := { state := 0, sent := 0, acked := 0, stripe := 0, sstate := 0, th := 0, held := 0 }

def Gather.reset : Gather :=
  { ctxs := [JobCtx.empty, JobCtx.empty], slots := List.replicate 16 none, free := [], withheld := [], clock := 0,
    session := 0, cold := 0 }

def Glory.reset : Glory :=
  { coarseIn := [], stripe := none, src := [], dens := [], corr := [], colsDone := 0, dsat := 0, headers := [], tile := none,
    pix := none, halves := [[], []], halfUsed := [none, none], tilesIn := [], bandNext := 0, bandBase := 0, colsFreed := [],
    sat := 0 }

def Beam.reset : Beam :=
  { fill := none, stagedT := BeamBank.empty, activeT := BeamBank.empty, tempTick := none, prevTemp := none, ccCheck := false, ccNumber := 0,
    ccGot := 0, ccSent := false, ccAccept := none, chkBank := none }

def Parison.reset : Parison :=
  { stripe := none, next := [], bands := [], bcol := 0, burst := 0, col := 0, doses := [], asm := [], ring := [],
    holdFrom := none, unc := 0, lsat := 0, held := 0, total := 0, owner := 0, logOwner := [] }

def Link.reset : Link :=
  { halves := [none, none], serve := none, lanes := List.replicate 64 PLane.reset,
    rets := List.replicate 8 RLane.reset, acks := [], train := none,
    nonces := [none, none, none, none], nonce := 0 }

def Motion.reset : Motion :=
  { prof := List.replicate 8 0, vc := 0, plan := Plan.rest, past := [], t0 := 0, leadOver := false, armed := false, begun := false, badNonce := false, flashing := false,
    next := 0, a0 := [], committed := 0, struck := (0, 0), warned := false, colMark := 0, dlAlive := 0, dlFree := 0, dlScr := 0, spSeq := 0,
    retSeq := [none, none], retStat := [0, 0], retMiss := [0, 0] }

def Gaffer.reset : Gaffer :=
  { threads := List.replicate 4 Thread.cleared, pmem := [], dmem := [], prepared := none, queued := none, active := none, last := (0, 0),
    resumeOk := false, ending := false, progSlot := 0, haltTick := 0 }

def Thyme.reset : Thyme :=
  { sec := 0, ns := 0, frac := 0, slew := 0, refs := [RefPair.reset, RefPair.reset], fifos := List.replicate 8 [],
    tcLast := List.replicate 8 none }

def Cluster.reset : Cluster :=
  { members := List.replicate 16 Member.reset, lists := List.replicate 16 [], grants := [], journals := [], applied := 0,
    digest := none, sbFailed := false, alone := true, term := 0, upTerm := 0, started := List.replicate 16 0,
    tails := List.replicate 16 (0, 0), heardMgr := false, joinLeft := 16, conflict := [], placed := [], heldSeq := 0,
    routes := List.replicate 16 0, servo := none, seq := 0, owed := [] }

def Sage.reset : Sage :=
  { fuses := [], jobKeys := [none, none], laneKeys := [none, none, none, none], chal := none, chalAt := 0, keysOk := false,
    fwHash := [] }

/-- The MSI-X table after reset: every vector masked, all else 0 (log entry 27). -/
def msixReset : List Host.Cell := (List.range 32).map (fun v => ⟨16 * v + 12, 1⟩)

/-- A DMA channel that has never been started. -/
def DmaCh.idle : DmaCh := { fetch := none, moved := false, irq := false, asked := false, master := 0, aborting := none, flush := none }

def HostIf.reset : HostIf :=
  { channels := List.replicate 36 { msgs := [], seq := 0 }, windows := List.replicate 36 (List.replicate 64 0),
    fullSeen := List.replicate 36 false, dbPend := List.replicate 8 0, dbMask := List.replicate 8 0,
    dbWake := List.replicate 8 0xFF000000, locks := List.replicate 64 none,
    dma := List.replicate 16 DmaCh.idle,
    crc := List.replicate 4 0xFFFFFFFF, msixTable := msixReset, pba := 0, aer := none, mem := [], bad := [], readData := 0, readErr := false,
    admitted := false, wide := false }

def MemSys.reset : MemSys :=
  { hbm := [], groups := [], checks := [], poison := [], spares := [], banks := [], queue := [], asleep := [],
    hbmWritten := false, grpWritten := List.replicate 18 false, watch := List.replicate 18 [],
    fullTold := List.replicate 18 false, cleared := List.replicate 18 false, clearing := none, tmr := [], copies := [] }

def Power.reset : Power :=
  { waiting := [], grants := [], reported := 480, waitMark := 0, porn := true, thermN := true, fuseV := false, released := false,
    bankV := List.replicate 4 none, driven := [], image := [], fwLen := 0 }

/-- The device right after reset: every register at its reset value, every memory with nothing listed, no command waiting. -/
def State.reset : State :=
  { pending := [], tick := 0, freeCount := 0, regs := [],
    root := { queue := [], staged := Bank.zero, banks := List.replicate 4 Bank.zero, commits := [],
              threadTick := List.replicate 4 0, tableCleared := false, started := (0, 0) },
    journal := { inFlight := [], waiting := [], written := [], lost := 0, irq := false, first := none, safePending := none },
    gather := Gather.reset,
    lanes := List.replicate 4 { nextOwner := none, input := [], written := 0, before := 0, outAddr := 0, outLen := 0, limit := 0, zlib := false },
    blow := { sweeps := [], walks := List.replicate 32 none },
    mslots := List.replicate 64 none, current := List.replicate 32 0,
    glory := Glory.reset, beam := Beam.reset, par := Parison.reset, link := Link.reset,
    chans := List.replicate 18 Chan.reset, later := [], emus := List.replicate 2 { c0 := 0, out := 0 },
    mot := Motion.reset,
    aux := List.replicate 8 { vel := 0, neg := false, s0 := 0, e0 := 0 },
    gaf := Gaffer.reset, thyme := Thyme.reset, launches := [], ports := [], clu := Cluster.reset, sage := Sage.reset, host := HostIf.reset,
    mem := MemSys.reset, power := Power.reset, out := [] }

end Sys2Proof.Machine
end

