-- ==== Sys2Proof/Machine/Regs.lean ====
section
/-! DEFINITION. The register map: every register's BAR offset, every field's place, type and reset value, as the
register tables of the manual give them, and the table by which the bus finds a register. -/

namespace Sys2Proof.Machine

/-- A field: the BAR offset of its register, its lowest bit, its width and its reset value. -/
structure Fld where
  addr  : Nat
  lo    : Nat
  w     : Nat
  reset : Nat
  deriving DecidableEq, Repr

/-- The field types of R13. -/
inductive FType where
  | rw | ro | w1c | rc | sh | w1s | wo
  deriving DecidableEq, Repr

/-- A row of the register map: base offset, the stride and count of up to two indices, width in bytes, and the fields. -/
structure RegRow where
  name   : String
  base   : Nat
  s1     : Nat
  n1     : Nat
  s2     : Nat
  n2     : Nat
  bytes  : Nat
  fields : Nat → Nat → List (Fld × FType)

/-- The key of a field in the register file. -/
def Fld.key (f : Fld) : Nat := f.addr * 64 + f.lo


/-! ### 03_gather_ingest_expansion.md -/

def DCP_CTL.off (n : Nat) : Nat := 0x501000 + 0x40 * n
def DCP_CTL.OWNER (n : Nat) : Fld := ⟨DCP_CTL.off n, 0, 1, 0⟩
def DCP_CTL.ZLIB (n : Nat) : Fld := ⟨DCP_CTL.off n, 1, 1, 0⟩
def DCP_CTL.START (n : Nat) : Fld := ⟨DCP_CTL.off n, 2, 1, 0⟩
def DCP_CTL.RESUME (n : Nat) : Fld := ⟨DCP_CTL.off n, 3, 1, 0⟩
def DCP_CTL.ABORT (n : Nat) : Fld := ⟨DCP_CTL.off n, 4, 1, 0⟩
def DCP_STATUS.off (n : Nat) : Nat := 0x501004 + 0x40 * n
def DCP_STATUS.STATE (n : Nat) : Fld := ⟨DCP_STATUS.off n, 0, 3, 0⟩
def DCP_STATUS.ERR (n : Nat) : Fld := ⟨DCP_STATUS.off n, 4, 4, 0⟩
def DCP_STATUS.IN_BITS (n : Nat) : Fld := ⟨DCP_STATUS.off n, 8, 3, 0⟩
def DCP_IN_ADDR.off (n : Nat) : Nat := 0x501008 + 0x40 * n
def DCP_IN_ADDR.ADDR (n : Nat) : Fld := ⟨DCP_IN_ADDR.off n, 0, 64, 0⟩
def DCP_IN_LEN.off (n : Nat) : Nat := 0x501010 + 0x40 * n
def DCP_IN_LEN.LEN (n : Nat) : Fld := ⟨DCP_IN_LEN.off n, 0, 32, 0⟩
def DCP_OUT_ADDR.off (n : Nat) : Nat := 0x501018 + 0x40 * n
def DCP_OUT_ADDR.ADDR (n : Nat) : Fld := ⟨DCP_OUT_ADDR.off n, 0, 64, 0⟩
def DCP_OUT_LEN.off (n : Nat) : Nat := 0x501020 + 0x40 * n
def DCP_OUT_LEN.LEN (n : Nat) : Fld := ⟨DCP_OUT_LEN.off n, 0, 32, 0⟩
def DCP_OUT_LIMIT.off (n : Nat) : Nat := 0x501024 + 0x40 * n
def DCP_OUT_LIMIT.LIMIT (n : Nat) : Fld := ⟨DCP_OUT_LIMIT.off n, 0, 32, 67108864⟩
def DCP_IN_CONSUMED.off (n : Nat) : Nat := 0x501028 + 0x40 * n
def DCP_IN_CONSUMED.COUNT (n : Nat) : Fld := ⟨DCP_IN_CONSUMED.off n, 0, 32, 0⟩
def DCP_OUT_PRODUCED.off (n : Nat) : Nat := 0x50102C + 0x40 * n
def DCP_OUT_PRODUCED.COUNT (n : Nat) : Fld := ⟨DCP_OUT_PRODUCED.off n, 0, 32, 0⟩
def GTH_CTL.off : Nat := 0x600000
def GTH_CTL.ENABLE : Fld := ⟨GTH_CTL.off, 0, 1, 0⟩
def GTH_CTL.SLOTS : Fld := ⟨GTH_CTL.off, 1, 4, 15⟩
def GTH_CTL.RETRY_MAX : Fld := ⟨GTH_CTL.off, 8, 4, 3⟩
def GTH_REGION_BASE.off : Nat := 0x600008
def GTH_REGION_BASE.BASE : Fld := ⟨GTH_REGION_BASE.off, 0, 64, 0⟩
def GTH_POOL_PAGES.off : Nat := 0x600010
def GTH_POOL_PAGES.PAGES : Fld := ⟨GTH_POOL_PAGES.off, 0, 28, 0⟩
def GTH_FREE_PAGES.off : Nat := 0x600014
def GTH_FREE_PAGES.FREE : Fld := ⟨GTH_FREE_PAGES.off, 0, 28, 0⟩
def GTH_COLD_RESERVE.off : Nat := 0x600018
def GTH_COLD_RESERVE.PAGES : Fld := ⟨GTH_COLD_RESERVE.off, 0, 28, 16777216⟩
def GTH_STATUS.off : Nat := 0x600020
def GTH_STATUS.PAGE_RETRY : Fld := ⟨GTH_STATUS.off, 0, 1, 0⟩
def GTH_STATUS.SEG_RETRY : Fld := ⟨GTH_STATUS.off, 1, 1, 0⟩
def GTH_STATUS.REVOKED : Fld := ⟨GTH_STATUS.off, 2, 1, 0⟩
def GTH_STATUS.SPACE_WAIT : Fld := ⟨GTH_STATUS.off, 3, 1, 0⟩
def GTH_CTX_CFG.off (c : Nat) : Nat := 0x600100 + 0x10 * c
def GTH_CTX_CFG.OPEN (c : Nat) : Fld := ⟨GTH_CTX_CFG.off c, 0, 1, 0⟩
def GTH_CTX_CFG.ZLIB (c : Nat) : Fld := ⟨GTH_CTX_CFG.off c, 1, 1, 0⟩
def GTH_CTX_LIMIT.off (c : Nat) : Nat := 0x600104 + 0x10 * c
def GTH_CTX_LIMIT.LIMIT (c : Nat) : Fld := ⟨GTH_CTX_LIMIT.off c, 0, 27, 67108864⟩
def GTH_PIN.off : Nat := 0x600030
def GTH_PIN.ID : Fld := ⟨GTH_PIN.off, 0, 24, 0⟩
def GTH_PIN.CTX : Fld := ⟨GTH_PIN.off, 24, 1, 0⟩
def GTH_PIN.SET : Fld := ⟨GTH_PIN.off, 31, 1, 0⟩
def GTH_CNT_MISS.off : Nat := 0x600040
def GTH_CNT_MISS.COUNT : Fld := ⟨GTH_CNT_MISS.off, 0, 32, 0⟩
def GTH_CNT_FETCH.off : Nat := 0x600044
def GTH_CNT_FETCH.COUNT : Fld := ⟨GTH_CNT_FETCH.off, 0, 32, 0⟩
def GTH_CNT_EVICT.off : Nat := 0x600048
def GTH_CNT_EVICT.COUNT : Fld := ⟨GTH_CNT_EVICT.off, 0, 32, 0⟩
def GTH_CNT_PAGEFAIL.off : Nat := 0x60004C
def GTH_CNT_PAGEFAIL.COUNT : Fld := ⟨GTH_CNT_PAGEFAIL.off, 0, 32, 0⟩
def BLP_CTL.off : Nat := 0x700000
def BLP_CTL.ENABLE : Fld := ⟨BLP_CTL.off, 0, 1, 0⟩
def BLP_CTL.ENGINE_EN : Fld := ⟨BLP_CTL.off, 8, 8, 255⟩
def BLP_STATUS.off : Nat := 0x700004
def BLP_STATUS.BUSY : Fld := ⟨BLP_STATUS.off, 0, 8, 0⟩
def BLP_STATUS.WAIT_CELL : Fld := ⟨BLP_STATUS.off, 8, 8, 0⟩
def BLP_STATUS.WAIT_QUEUE : Fld := ⟨BLP_STATUS.off, 16, 8, 0⟩
def BLP_SEQ_RASTER.off : Nat := 0x700008
def BLP_SEQ_RASTER.SEQ : Fld := ⟨BLP_SEQ_RASTER.off, 0, 32, 0⟩
def BLP_SEQ_DENSITY.off : Nat := 0x70000C
def BLP_SEQ_DENSITY.SEQ : Fld := ⟨BLP_SEQ_DENSITY.off, 0, 32, 0⟩
def BLP_MAXDEPTH.off : Nat := 0x700010
def BLP_MAXDEPTH.LEVEL : Fld := ⟨BLP_MAXDEPTH.off, 0, 6, 0⟩
def BLP_CNT_TRAP.off : Nat := 0x700020
def BLP_CNT_TRAP.COUNT : Fld := ⟨BLP_CNT_TRAP.off, 0, 32, 0⟩
def BLP_CNT_CULL.off : Nat := 0x700024
def BLP_CNT_CULL.COUNT : Fld := ⟨BLP_CNT_CULL.off, 0, 32, 0⟩
def BLP_TS_MASK.off : Nat := 0x700100
def BLP_TS_MASK.MASK : Fld := ⟨BLP_TS_MASK.off, 0, 32, 4294967295⟩
def BLP_TS_STATUS.off : Nat := 0x700104
def BLP_TS_STATUS.FREE_BLOCKS : Fld := ⟨BLP_TS_STATUS.off, 0, 12, 2730⟩
def BLP_TS_STATUS.IN_FLIGHT : Fld := ⟨BLP_TS_STATUS.off, 16, 7, 0⟩
def BLP_TS_CNT_EMPTY.off : Nat := 0x700108
def BLP_TS_CNT_EMPTY.COUNT : Fld := ⟨BLP_TS_CNT_EMPTY.off, 0, 32, 0⟩

/-! ### 04_marver_raster.md -/

def MRV_CTL.off : Nat := 0x800000
def MRV_CTL.ENABLE : Fld := ⟨MRV_CTL.off, 0, 1, 0⟩
def MRV_OVL_THRESH.off : Nat := 0x800004
def MRV_OVL_THRESH.UNITS : Fld := ⟨MRV_OVL_THRESH.off, 0, 20, 4096⟩
def MRV_LEAVE.off : Nat := 0x800008
def MRV_LEAVE.UNITS : Fld := ⟨MRV_LEAVE.off, 0, 8, 6⟩
def MRV_STATUS.off : Nat := 0x80000C
def MRV_STATUS.CLAMP_SEEN : Fld := ⟨MRV_STATUS.off, 0, 1, 0⟩
def MRV_STATUS.OVER_SEEN : Fld := ⟨MRV_STATUS.off, 1, 1, 0⟩
def MRV_STATUS.LEAVE_WAIT : Fld := ⟨MRV_STATUS.off, 2, 1, 0⟩
def MRV_BUSY.off : Nat := 0x800010
def MRV_BUSY.BUSY : Fld := ⟨MRV_BUSY.off, 0, 32, 0⟩
def MRV_CNT_TILE.off : Nat := 0x800020
def MRV_CNT_TILE.COUNT : Fld := ⟨MRV_CNT_TILE.off, 0, 32, 0⟩
def MRV_CNT_EDGE.off : Nat := 0x800024
def MRV_CNT_EDGE.COUNT : Fld := ⟨MRV_CNT_EDGE.off, 0, 32, 0⟩
def MRV_CNT_FILL.off : Nat := 0x800028
def MRV_CNT_FILL.COUNT : Fld := ⟨MRV_CNT_FILL.off, 0, 32, 0⟩
def MRV_CNT_CLAMP.off : Nat := 0x80002C
def MRV_CNT_CLAMP.COUNT : Fld := ⟨MRV_CNT_CLAMP.off, 0, 32, 0⟩
def MRV_CNT_OVER.off : Nat := 0x800030
def MRV_CNT_OVER.COUNT : Fld := ⟨MRV_CNT_OVER.off, 0, 32, 0⟩
def MRV_CNT_LEAVE_WAIT.off : Nat := 0x800034
def MRV_CNT_LEAVE_WAIT.COUNT : Fld := ⟨MRV_CNT_LEAVE_WAIT.off, 0, 32, 0⟩
def MRV_ENG_STATUS.off (e : Nat) : Nat := 0x801000 + 0x10 * e
def MRV_ENG_STATUS.SLOT0 (e : Nat) : Fld := ⟨MRV_ENG_STATUS.off e, 0, 2, 0⟩
def MRV_ENG_STATUS.SLOT1 (e : Nat) : Fld := ⟨MRV_ENG_STATUS.off e, 2, 2, 0⟩
def MRV_ENG_STATUS.CURRENT (e : Nat) : Fld := ⟨MRV_ENG_STATUS.off e, 4, 1, 0⟩
def MRV_ENG_STATUS.RECORDS (e : Nat) : Fld := ⟨MRV_ENG_STATUS.off e, 8, 24, 0⟩

/-! ### 05_glory_dose_correction.md -/

def GLY_CTL.off : Nat := 0x900000
def GLY_CTL.ENABLE : Fld := ⟨GLY_CTL.off, 0, 1, 0⟩
def GLY_CTL.ITER : Fld := ⟨GLY_CTL.off, 1, 2, 2⟩
def GLY_CTL.FOG_EN : Fld := ⟨GLY_CTL.off, 3, 1, 0⟩
def GLY_STATUS.off : Nat := 0x900004
def GLY_STATUS.CFG_ERR : Fld := ⟨GLY_STATUS.off, 0, 1, 0⟩
def GLY_STATUS.CFG_CAUSE : Fld := ⟨GLY_STATUS.off, 4, 3, 0⟩
def GLY_STATUS.SAT_SEEN : Fld := ⟨GLY_STATUS.off, 8, 1, 0⟩
def GLY_STATUS.DSAT_SEEN : Fld := ⟨GLY_STATUS.off, 9, 1, 0⟩
def GLY_STATUS.LEAVE_WAIT : Fld := ⟨GLY_STATUS.off, 10, 1, 0⟩
def GLY_WINDOW.off : Nat := 0x900008
def GLY_WINDOW.LOOKAHEAD : Fld := ⟨GLY_WINDOW.off, 0, 7, 32⟩
def GLY_WINDOW.MARGIN : Fld := ⟨GLY_WINDOW.off, 8, 5, 8⟩
def GLY_NORM.off : Nat := 0x90000C
def GLY_NORM.NORM : Fld := ⟨GLY_NORM.off, 0, 16, 4096⟩
def GLY_LEAVE.off : Nat := 0x900010
def GLY_LEAVE.COARSE : Fld := ⟨GLY_LEAVE.off, 0, 8, 2⟩
def GLY_LEAVE.PIXEL : Fld := ⟨GLY_LEAVE.off, 8, 8, 4⟩
def GLY_REGION_BASE.off : Nat := 0x900018
def GLY_REGION_BASE.BASE : Fld := ⟨GLY_REGION_BASE.off, 0, 64, 0⟩
def GLY_REGION_SIZE.off : Nat := 0x900020
def GLY_REGION_SIZE.SIZE : Fld := ⟨GLY_REGION_SIZE.off, 0, 32, 0⟩
def GLY_KERNEL_CTL.off : Nat := 0x900040
def GLY_KERNEL_CTL.TERMS : Fld := ⟨GLY_KERNEL_CTL.off, 0, 3, 0⟩
def GLY_KERNEL_CTL.RADIUS : Fld := ⟨GLY_KERNEL_CTL.off, 8, 5, 0⟩
def GLY_ETA.off (k : Nat) : Nat := 0x900050 + 0x4 * k
def GLY_ETA.ETA (k : Nat) : Fld := ⟨GLY_ETA.off k, 0, 16, 0⟩
def GLY_FOG_BASE.off : Nat := 0x900060
def GLY_FOG_BASE.ADDR : Fld := ⟨GLY_FOG_BASE.off, 0, 64, 0⟩
def GLY_FOG_ORG_X.off : Nat := 0x900068
def GLY_FOG_ORG_X.FOX : Fld := ⟨GLY_FOG_ORG_X.off, 0, 32, 0⟩
def GLY_FOG_ORG_Y.off : Nat := 0x90006C
def GLY_FOG_ORG_Y.FOY : Fld := ⟨GLY_FOG_ORG_Y.off, 0, 32, 0⟩
def GLY_FOG_GEOM.off : Nat := 0x900070
def GLY_FOG_GEOM.SHIFT : Fld := ⟨GLY_FOG_GEOM.off, 0, 4, 10⟩
def GLY_FOG_GEOM.FW : Fld := ⟨GLY_FOG_GEOM.off, 4, 13, 1⟩
def GLY_FOG_GEOM.FH : Fld := ⟨GLY_FOG_GEOM.off, 17, 13, 1⟩
def GLY_CNT_SAT.off : Nat := 0x900080
def GLY_CNT_SAT.COUNT : Fld := ⟨GLY_CNT_SAT.off, 0, 32, 0⟩
def GLY_CNT_DSAT.off : Nat := 0x900084
def GLY_CNT_DSAT.COUNT : Fld := ⟨GLY_CNT_DSAT.off, 0, 32, 0⟩
def GLY_CNT_LEAVE_WAIT.off : Nat := 0x900088
def GLY_CNT_LEAVE_WAIT.COUNT : Fld := ⟨GLY_CNT_LEAVE_WAIT.off, 0, 32, 0⟩
def GLY_SEQ_RELEASED.off : Nat := 0x900090
def GLY_SEQ_RELEASED.SEQ : Fld := ⟨GLY_SEQ_RELEASED.off, 0, 32, 0⟩
def GLY_TAP.off (k : Nat) (d : Nat) : Nat := 0x901000 + 0x80 * k + 0x4 * d
def GLY_TAP.W (k : Nat) (d : Nat) : Fld := ⟨GLY_TAP.off k d, 0, 17, 0⟩
def GLY_BASE_DOSE.off (c : Nat) : Nat := 0x902000 + 0x4 * c
def GLY_BASE_DOSE.DOSE (c : Nat) : Fld := ⟨GLY_BASE_DOSE.off c, 0, 12, 1024⟩
def GLY_CURVE.off (d : Nat) : Nat := 0x904000 + 0x4 * d
def GLY_CURVE.OUT (d : Nat) : Fld := ⟨GLY_CURVE.off d, 0, 12, d⟩

/-! ### 06_beam_map_calibration.md -/

def BMP_STATUS.off : Nat := 0xA00004
def BMP_STATUS.FILL_BUSY : Fld := ⟨BMP_STATUS.off, 0, 1, 0⟩
def BMP_STATUS.CHECK_BUSY : Fld := ⟨BMP_STATUS.off, 1, 1, 0⟩
def BMP_STATUS.CC_BUSY : Fld := ⟨BMP_STATUS.off, 2, 1, 0⟩
def BMP_STATUS.FILL_ERR : Fld := ⟨BMP_STATUS.off, 3, 1, 0⟩
def BMP_STATUS.LIVE_WRITE : Fld := ⟨BMP_STATUS.off, 8, 1, 0⟩
def BMP_STATUS.TEMP_STALE : Fld := ⟨BMP_STATUS.off, 9, 1, 0⟩
def BMP_STATUS.TEMP_RANGE : Fld := ⟨BMP_STATUS.off, 10, 1, 0⟩
def BMP_STATUS.TEMP_INVALID : Fld := ⟨BMP_STATUS.off, 11, 1, 0⟩
def BMP_REGION_BASE.off : Nat := 0xA00008
def BMP_REGION_BASE.BASE : Fld := ⟨BMP_REGION_BASE.off, 0, 64, 0⟩
def BMP_GEOM.off : Nat := 0xA00010
def BMP_GEOM.LOG2N : Fld := ⟨BMP_GEOM.off, 0, 3, 4⟩
def BMP_SEL.off : Nat := 0xA00014
def BMP_SEL.MAP_BANK : Fld := ⟨BMP_SEL.off, 0, 1, 0⟩
def BMP_SEL.SETS : Fld := ⟨BMP_SEL.off, 4, 4, 1⟩
def BMP_SET.off (k : Nat) : Nat := 0xA00020 + 0x4 * k
def BMP_SET.SLOT (k : Nat) : Fld := ⟨BMP_SET.off k, 0, 4, 0⟩
def BMP_SET.TEMP (k : Nat) : Fld := ⟨BMP_SET.off k, 16, 16, 352⟩
def BMP_TEMP_CTL.off : Nat := 0xA00040
def BMP_TEMP_CTL.SENSOR_MASK : Fld := ⟨BMP_TEMP_CTL.off, 0, 8, 1⟩
def BMP_TEMP_CTL.MAX_AGE : Fld := ⟨BMP_TEMP_CTL.off, 8, 16, 100⟩
def BMP_TEMP_NOW.off : Nat := 0xA00044
def BMP_TEMP_NOW.T : Fld := ⟨BMP_TEMP_NOW.off, 0, 16, 0⟩
def BMP_TEMP_NOW.AGE : Fld := ⟨BMP_TEMP_NOW.off, 16, 16, 65535⟩
def BMP_GEN_TEMP.off : Nat := 0xA00048
def BMP_GEN_TEMP.T : Fld := ⟨BMP_GEN_TEMP.off, 0, 16, 0⟩
def BMP_GEN_TEMP.F : Fld := ⟨BMP_GEN_TEMP.off, 16, 16, 0⟩
def BMP_GEN_SETS.off : Nat := 0xA0004C
def BMP_GEN_SETS.K : Fld := ⟨BMP_GEN_SETS.off, 0, 3, 0⟩
def BMP_GEN_SETS.SLOT_LO : Fld := ⟨BMP_GEN_SETS.off, 4, 4, 0⟩
def BMP_GEN_SETS.SLOT_HI : Fld := ⟨BMP_GEN_SETS.off, 8, 4, 0⟩
def BMP_GEN_SETS.MAP_BANK : Fld := ⟨BMP_GEN_SETS.off, 12, 1, 0⟩
def BMP_CHECK.off : Nat := 0xA00050
def BMP_CHECK.START : Fld := ⟨BMP_CHECK.off, 0, 1, 0⟩
def BMP_CHECK.BANK : Fld := ⟨BMP_CHECK.off, 1, 1, 0⟩
def BMP_CHECK_RESULT.off : Nat := 0xA00054
def BMP_CHECK_RESULT.CAUSE : Fld := ⟨BMP_CHECK_RESULT.off, 0, 4, 0⟩
def BMP_CHECK_RESULT.DONE : Fld := ⟨BMP_CHECK_RESULT.off, 8, 1, 0⟩
def BMP_CHECK_RESULT.BEAM : Fld := ⟨BMP_CHECK_RESULT.off, 12, 18, 0⟩
def BMP_CHECK_ROWS.off : Nat := 0xA00058
def BMP_CHECK_ROWS.DEAD_ROWS : Fld := ⟨BMP_CHECK_ROWS.off, 0, 19, 0⟩
def BMP_CHECK_ROWS.MIN_OK : Fld := ⟨BMP_CHECK_ROWS.off, 24, 6, 0⟩
def BMP_CC_CTL.off : Nat := 0xA00060
def BMP_CC_CTL.ACT_RLO : Fld := ⟨BMP_CC_CTL.off, 0, 2, 1⟩
def BMP_CC_CTL.ACT_RHI : Fld := ⟨BMP_CC_CTL.off, 2, 2, 1⟩
def BMP_CC_CTL.ACT_LEAK : Fld := ⟨BMP_CC_CTL.off, 4, 2, 1⟩
def BMP_CC_CTL.ACT_MISS : Fld := ⟨BMP_CC_CTL.off, 6, 2, 1⟩
def BMP_CC_CTL.RESTORE : Fld := ⟨BMP_CC_CTL.off, 8, 1, 0⟩
def BMP_CC_CTL.GLOBAL : Fld := ⟨BMP_CC_CTL.off, 9, 1, 0⟩
def BMP_CC_CTL.TIMEOUT : Fld := ⟨BMP_CC_CTL.off, 16, 8, 8⟩
def BMP_CC_GWIN.off : Nat := 0xA00064
def BMP_CC_GWIN.RLO : Fld := ⟨BMP_CC_GWIN.off, 0, 12, 0⟩
def BMP_CC_GWIN.RHI : Fld := ⟨BMP_CC_GWIN.off, 12, 12, 4095⟩
def BMP_CC_GWIN_LEAK.off : Nat := 0xA00068
def BMP_CC_GWIN_LEAK.LHI : Fld := ⟨BMP_CC_GWIN_LEAK.off, 0, 12, 4095⟩
def BMP_CC_STATUS.off : Nat := 0xA00070
def BMP_CC_STATUS.STATE : Fld := ⟨BMP_CC_STATUS.off, 0, 2, 0⟩
def BMP_CC_STATUS.SRC_BANK : Fld := ⟨BMP_CC_STATUS.off, 2, 1, 0⟩
def BMP_CC_FAIL.off : Nat := 0xA00074
def BMP_CC_FAIL.COUNT : Fld := ⟨BMP_CC_FAIL.off, 0, 19, 0⟩
def BMP_CC_PROP.off : Nat := 0xA00078
def BMP_CC_PROP.COUNT : Fld := ⟨BMP_CC_PROP.off, 0, 19, 0⟩
def BMP_CC_MISS.off : Nat := 0xA0007C
def BMP_CC_MISS.COUNT : Fld := ⟨BMP_CC_MISS.off, 0, 19, 0⟩
def BMP_CC_ACCEPT.off : Nat := 0xA00080
def BMP_CC_ACCEPT.START : Fld := ⟨BMP_CC_ACCEPT.off, 0, 1, 0⟩
def BMP_CC_ACCEPT.DST : Fld := ⟨BMP_CC_ACCEPT.off, 1, 1, 1⟩
def BMP_CC_ACCEPT.TAKE_EXCL : Fld := ⟨BMP_CC_ACCEPT.off, 2, 1, 1⟩
def BMP_CC_ACCEPT.TAKE_STUCK : Fld := ⟨BMP_CC_ACCEPT.off, 3, 1, 1⟩
def BMP_CC_ACCEPT.TAKE_RESTORE : Fld := ⟨BMP_CC_ACCEPT.off, 4, 1, 1⟩
def BMP_CC_ACCEPT.DONE : Fld := ⟨BMP_CC_ACCEPT.off, 8, 1, 0⟩
def BMP_CC_ACCEPT.ERR : Fld := ⟨BMP_CC_ACCEPT.off, 9, 3, 0⟩

/-! ### 07_parison_stripe_store.md -/

def PAR_CTL.off : Nat := 0xB00000
def PAR_CTL.ENABLE : Fld := ⟨PAR_CTL.off, 0, 1, 0⟩
def PAR_CTL.UNC_HALT : Fld := ⟨PAR_CTL.off, 1, 1, 0⟩
def PAR_STATUS.off : Nat := 0xB00004
def PAR_STATUS.CFG_ERR : Fld := ⟨PAR_STATUS.off, 0, 1, 0⟩
def PAR_STATUS.HOLD : Fld := ⟨PAR_STATUS.off, 3, 1, 0⟩
def PAR_STATUS.CFG_CAUSE : Fld := ⟨PAR_STATUS.off, 4, 3, 0⟩
def PAR_STATUS.UNC_SEEN : Fld := ⟨PAR_STATUS.off, 8, 1, 0⟩
def PAR_STATUS.LSAT_SEEN : Fld := ⟨PAR_STATUS.off, 9, 1, 0⟩
def PAR_STATUS.LEAVE_WAIT : Fld := ⟨PAR_STATUS.off, 10, 1, 0⟩
def PAR_PLANES.off : Nat := 0xB00008
def PAR_PLANES.P : Fld := ⟨PAR_PLANES.off, 0, 4, 8⟩
def PAR_LNOM.off : Nat := 0xB0000C
def PAR_LNOM.LNOM : Fld := ⟨PAR_LNOM.off, 0, 17, 1020⟩
def PAR_TOL.off : Nat := 0xB00010
def PAR_TOL.TOL : Fld := ⟨PAR_TOL.off, 0, 24, 65536⟩
def PAR_LEAVE.off : Nat := 0xB00014
def PAR_LEAVE.UNITS : Fld := ⟨PAR_LEAVE.off, 0, 8, 8⟩
def PAR_RING_BASE.off : Nat := 0xB00018
def PAR_RING_BASE.BASE : Fld := ⟨PAR_RING_BASE.off, 0, 64, 0⟩
def PAR_RING_CFG.off : Nat := 0xB0002C
def PAR_RING_CFG.WIDE : Fld := ⟨PAR_RING_CFG.off, 0, 1, 0⟩
def PAR_COL_DONE.off : Nat := 0xB00020
def PAR_COL_DONE.COL : Fld := ⟨PAR_COL_DONE.off, 0, 32, 0⟩
def PAR_STRIPE.off : Nat := 0xB00024
def PAR_STRIPE.STRIPE : Fld := ⟨PAR_STRIPE.off, 0, 32, 0⟩
def PAR_RING_POS.off : Nat := 0xB00028
def PAR_RING_POS.BASE_POS : Fld := ⟨PAR_RING_POS.off, 0, 9, 0⟩
def PAR_RING_POS.OLDEST : Fld := ⟨PAR_RING_POS.off, 16, 9, 0⟩
def PAR_UNC_FIRST_X.off : Nat := 0xB00030
def PAR_UNC_FIRST_X.X : Fld := ⟨PAR_UNC_FIRST_X.off, 0, 32, 0⟩
def PAR_UNC_FIRST_Y.off : Nat := 0xB00034
def PAR_UNC_FIRST_Y.Y : Fld := ⟨PAR_UNC_FIRST_Y.off, 0, 18, 0⟩
def PAR_UNC_FIRST_Y.VALID : Fld := ⟨PAR_UNC_FIRST_Y.off, 31, 1, 0⟩
def PAR_UNC_LOG_HEAD.off : Nat := 0xB00038
def PAR_UNC_LOG_HEAD.NEXT : Fld := ⟨PAR_UNC_LOG_HEAD.off, 0, 6, 0⟩
def PAR_CNT_UNC.off : Nat := 0xB00040
def PAR_CNT_UNC.COUNT : Fld := ⟨PAR_CNT_UNC.off, 0, 32, 0⟩
def PAR_CNT_LSAT.off : Nat := 0xB00044
def PAR_CNT_LSAT.COUNT : Fld := ⟨PAR_CNT_LSAT.off, 0, 32, 0⟩
def PAR_CNT_HOLD.off : Nat := 0xB00048
def PAR_CNT_HOLD.COUNT : Fld := ⟨PAR_CNT_HOLD.off, 0, 32, 0⟩
def PAR_CNT_LEAVE_WAIT.off : Nat := 0xB0004C
def PAR_CNT_LEAVE_WAIT.COUNT : Fld := ⟨PAR_CNT_LEAVE_WAIT.off, 0, 32, 0⟩
def PAR_CNT_BLOCK.off : Nat := 0xB00050
def PAR_CNT_BLOCK.COUNT : Fld := ⟨PAR_CNT_BLOCK.off, 0, 32, 0⟩
def PAR_PLANE_WEIGHT.off (k : Nat) : Nat := 0xB00080 + 0x4 * k
def PAR_PLANE_WEIGHT.W (k : Nat) : Fld := ⟨PAR_PLANE_WEIGHT.off k, 0, 12, 2 ^ k⟩
def PAR_UNC_LOG.off (n : Nat) : Nat := 0xB00100 + 0x8 * n
def PAR_UNC_LOG.X (n : Nat) : Fld := ⟨PAR_UNC_LOG.off n, 0, 32, 0⟩
def PAR_UNC_LOG.Y (n : Nat) : Fld := ⟨PAR_UNC_LOG.off n, 32, 18, 0⟩
def PAR_UNC_LOG.STRIPE (n : Nat) : Fld := ⟨PAR_UNC_LOG.off n, 56, 8, 0⟩

/-! ### 08_blanker_link.md -/

def LEH_CTL.off : Nat := 0xC00000
def LEH_CTL.ENABLE : Fld := ⟨LEH_CTL.off, 0, 1, 0⟩
def LEH_STATUS.off : Nat := 0xC00004
def LEH_STATUS.LOADING : Fld := ⟨LEH_STATUS.off, 0, 1, 0⟩
def LEH_STATUS.SERVING : Fld := ⟨LEH_STATUS.off, 1, 1, 0⟩
def LEH_STATUS.REREAD_SEEN : Fld := ⟨LEH_STATUS.off, 8, 1, 0⟩
def LEH_CHUNK.off : Nat := 0xC00008
def LEH_CHUNK.CHUNK : Fld := ⟨LEH_CHUNK.off, 0, 32, 0⟩
def LEH_CNT_REREAD.off : Nat := 0xC00010
def LEH_CNT_REREAD.COUNT : Fld := ⟨LEH_CNT_REREAD.off, 0, 32, 0⟩
def PUN_CTL.off : Nat := 0xC01000
def PUN_CTL.ENABLE : Fld := ⟨PUN_CTL.off, 0, 1, 0⟩
def PUN_CTL.ACK_TMO : Fld := ⟨PUN_CTL.off, 1, 8, 132⟩
def PUN_CTL.TRAIN_LEAVE : Fld := ⟨PUN_CTL.off, 16, 8, 8⟩
def PUN_STATUS.off : Nat := 0xC01004
def PUN_STATUS.REPLAY_SEEN : Fld := ⟨PUN_STATUS.off, 0, 1, 0⟩
def PUN_STATUS.TMO_SEEN : Fld := ⟨PUN_STATUS.off, 1, 1, 0⟩
def PUN_STATUS.RETBAD_SEEN : Fld := ⟨PUN_STATUS.off, 2, 1, 0⟩
def PUN_STATUS.DOWN_SEEN : Fld := ⟨PUN_STATUS.off, 3, 1, 0⟩
def PUN_STATUS.LIMIT_SEEN : Fld := ⟨PUN_STATUS.off, 4, 1, 0⟩
def PUN_CNT_NAK.off : Nat := 0xC01010
def PUN_CNT_NAK.COUNT : Fld := ⟨PUN_CNT_NAK.off, 0, 32, 0⟩
def PUN_CNT_TMO.off : Nat := 0xC01014
def PUN_CNT_TMO.COUNT : Fld := ⟨PUN_CNT_TMO.off, 0, 32, 0⟩
def PUN_CNT_REPLAY.off : Nat := 0xC01018
def PUN_CNT_REPLAY.COUNT : Fld := ⟨PUN_CNT_REPLAY.off, 0, 32, 0⟩
def PUN_CNT_RETBAD.off : Nat := 0xC0101C
def PUN_CNT_RETBAD.COUNT : Fld := ⟨PUN_CNT_RETBAD.off, 0, 32, 0⟩
def PUN_CNT_STRAY.off : Nat := 0xC01020
def PUN_CNT_STRAY.COUNT : Fld := ⟨PUN_CNT_STRAY.off, 0, 32, 0⟩
def PUN_KS_CTL.off : Nat := 0xC01040
def PUN_KS_CTL.EN : Fld := ⟨PUN_KS_CTL.off, 0, 1, 0⟩
def PUN_KS_CTL.SLOT : Fld := ⟨PUN_KS_CTL.off, 1, 2, 0⟩
def PUN_KS_CTL.KEY_VALID : Fld := ⟨PUN_KS_CTL.off, 8, 4, 0⟩
def PUN_KS_NONCE.off : Nat := 0xC01048
def PUN_KS_NONCE.NONCE : Fld := ⟨PUN_KS_NONCE.off, 0, 64, 0⟩
def PUN_GROUP_CFG.off (g : Nat) : Nat := 0xC01100 + 0x4 * g
def PUN_GROUP_CFG.REACH (g : Nat) : Fld := ⟨PUN_GROUP_CFG.off g, 0, 1, 0⟩
def PUN_GROUP_CFG.BOARD_ID (g : Nat) : Fld := ⟨PUN_GROUP_CFG.off g, 1, 4, 0⟩
def PUN_LANE_STATE.off (l : Nat) : Nat := 0xC01200 + 0x4 * l
def PUN_LANE_STATE.STATE (l : Nat) : Fld := ⟨PUN_LANE_STATE.off l, 0, 3, 0⟩
def PUN_LANE_STATE.AT_LIMIT (l : Nat) : Fld := ⟨PUN_LANE_STATE.off l, 3, 1, 0⟩
def PUN_LANE_STATE.CAUSE (l : Nat) : Fld := ⟨PUN_LANE_STATE.off l, 4, 4, 0⟩
def PUN_TAP.off (l : Nat) : Nat := 0xC01400 + 0x4 * l
def PUN_TAP.PRE (l : Nat) : Fld := ⟨PUN_TAP.off l, 0, 4, 0⟩
def PUN_TAP.MAIN (l : Nat) : Fld := ⟨PUN_TAP.off l, 8, 6, 63⟩
def PUN_TAP.POST (l : Nat) : Fld := ⟨PUN_TAP.off l, 16, 5, 0⟩
def PUN_PRBS_CTL.off (l : Nat) : Nat := 0xC01600 + 0x8 * l
def PUN_PRBS_CTL.GEN_EN (l : Nat) : Fld := ⟨PUN_PRBS_CTL.off l, 0, 1, 0⟩
def PUN_PRBS_CTL.CHK_EN (l : Nat) : Fld := ⟨PUN_PRBS_CTL.off l, 1, 1, 0⟩
def PUN_PRBS_CTL.PATTERN (l : Nat) : Fld := ⟨PUN_PRBS_CTL.off l, 2, 2, 0⟩
def PUN_PRBS_CTL.LOOP (l : Nat) : Fld := ⟨PUN_PRBS_CTL.off l, 4, 1, 0⟩
def PUN_PRBS_CTL.INJ (l : Nat) : Fld := ⟨PUN_PRBS_CTL.off l, 5, 1, 0⟩
def PUN_PRBS_CTL.RATE (l : Nat) : Fld := ⟨PUN_PRBS_CTL.off l, 8, 8, 0⟩
def PUN_PRBS_CTL.SYNC (l : Nat) : Fld := ⟨PUN_PRBS_CTL.off l, 16, 1, 0⟩
def PUN_PRBS_ERR.off (l : Nat) : Nat := 0xC01604 + 0x8 * l
def PUN_PRBS_ERR.COUNT (l : Nat) : Fld := ⟨PUN_PRBS_ERR.off l, 0, 32, 0⟩
def FLS_STB_CTL.off : Nat := 0xE00F00
def FLS_STB_CTL.GAP : Fld := ⟨FLS_STB_CTL.off, 0, 8, 20⟩
def FLS_STB_CTL.MIRROR_EN : Fld := ⟨FLS_STB_CTL.off, 8, 1, 1⟩
def FLS_STB_WIDTH.off (k : Nat) : Nat := 0xE00F40 + 0x4 * k
def FLS_STB_WIDTH.W (k : Nat) : Fld := ⟨FLS_STB_WIDTH.off k, 0, 16, 4 * 2 ^ k⟩

/-! ### 09_stage_feedback.md -/

def SFB_CTL.off : Nat := 0xD00000
def SFB_CTL.ENABLE : Fld := ⟨SFB_CTL.off, 0, 1, 0⟩
def SFB_STATUS.off : Nat := 0xD00004
def SFB_STATUS.LOST_SEEN : Fld := ⟨SFB_STATUS.off, 0, 1, 0⟩
def SFB_STATUS.DEV_SEEN : Fld := ⟨SFB_STATUS.off, 1, 1, 0⟩
def SFB_STATUS.MISS_SEEN : Fld := ⟨SFB_STATUS.off, 2, 1, 0⟩
def SFB_STATUS.OVR_SEEN : Fld := ⟨SFB_STATUS.off, 3, 1, 0⟩
def SFB_AXIS_CFG.off (a : Nat) : Nat := 0xD00100 + 0x40 * a
def SFB_AXIS_CFG.SRC (a : Nat) : Fld := ⟨SFB_AXIS_CFG.off a, 0, 5, a⟩
def SFB_AXIS_CFG.CHK_SRC (a : Nat) : Fld := ⟨SFB_AXIS_CFG.off a, 8, 5, 0⟩
def SFB_AXIS_CFG.CHK_EN (a : Nat) : Fld := ⟨SFB_AXIS_CFG.off a, 16, 1, 0⟩
def SFB_AXIS_SCALE.off (a : Nat) : Nat := 0xD00108 + 0x40 * a
def SFB_AXIS_SCALE.SCALE (a : Nat) : Fld := ⟨SFB_AXIS_SCALE.off a, 0, 64, 4294967296⟩
def SFB_AXIS_OFFSET.off (a : Nat) : Nat := 0xD00110 + 0x40 * a
def SFB_AXIS_OFFSET.OFFSET (a : Nat) : Fld := ⟨SFB_AXIS_OFFSET.off a, 0, 64, 0⟩
def SFB_AXIS_CHK_SCALE.off (a : Nat) : Nat := 0xD00118 + 0x40 * a
def SFB_AXIS_CHK_SCALE.SCALE (a : Nat) : Fld := ⟨SFB_AXIS_CHK_SCALE.off a, 0, 64, 4294967296⟩
def SFB_AXIS_CHK_OFFSET.off (a : Nat) : Nat := 0xD00120 + 0x40 * a
def SFB_AXIS_CHK_OFFSET.OFFSET (a : Nat) : Fld := ⟨SFB_AXIS_CHK_OFFSET.off a, 0, 64, 0⟩
def SFB_AXIS_CHK_TOL.off (a : Nat) : Nat := 0xD00128 + 0x40 * a
def SFB_AXIS_CHK_TOL.TOL (a : Nat) : Fld := ⟨SFB_AXIS_CHK_TOL.off a, 0, 32, 64⟩
def SFB_AXIS_POS.off (a : Nat) : Nat := 0xD00130 + 0x40 * a
def SFB_AXIS_POS.POS (a : Nat) : Fld := ⟨SFB_AXIS_POS.off a, 0, 64, 0⟩
def SFB_AXIS_SPEED.off (a : Nat) : Nat := 0xD00138 + 0x40 * a
def SFB_AXIS_SPEED.SPEED (a : Nat) : Fld := ⟨SFB_AXIS_SPEED.off a, 0, 48, 0⟩
def SFB_AXIS_SPEED.FLAGS (a : Nat) : Fld := ⟨SFB_AXIS_SPEED.off a, 48, 3, 0⟩
def SFB_CH_CFG.off (n : Nat) : Nat := 0xD01000 + 0x80 * n
def SFB_CH_CFG.EN (n : Nat) : Fld := ⟨SFB_CH_CFG.off n, 0, 1, 0⟩
def SFB_CH_CFG.DIR_INV (n : Nat) : Fld := ⟨SFB_CH_CFG.off n, 1, 1, 0⟩
def SFB_CH_CFG.IDX_EN (n : Nat) : Fld := ⟨SFB_CH_CFG.off n, 2, 1, 0⟩
def SFB_CH_CFG.IDX_EDGE (n : Nat) : Fld := ⟨SFB_CH_CFG.off n, 3, 1, 0⟩
def SFB_CH_CFG.FILT (n : Nat) : Fld := ⟨SFB_CH_CFG.off n, 4, 4, 3⟩
def SFB_CH_CFG.SPD_SHIFT (n : Nat) : Fld := ⟨SFB_CH_CFG.off n, 8, 4, 0⟩
def SFB_CH_CFG.REARM (n : Nat) : Fld := ⟨SFB_CH_CFG.off n, 12, 1, 0⟩
def SFB_CH_STATUS.off (n : Nat) : Nat := 0xD01004 + 0x80 * n
def SFB_CH_STATUS.POS_VALID (n : Nat) : Fld := ⟨SFB_CH_STATUS.off n, 0, 1, 0⟩
def SFB_CH_STATUS.STANDSTILL (n : Nat) : Fld := ⟨SFB_CH_STATUS.off n, 1, 1, 0⟩
def SFB_CH_STATUS.REF_LOST (n : Nat) : Fld := ⟨SFB_CH_STATUS.off n, 2, 1, 0⟩
def SFB_CH_STATUS.FAULT (n : Nat) : Fld := ⟨SFB_CH_STATUS.off n, 3, 1, 0⟩
def SFB_CH_STATUS.CAUSE (n : Nat) : Fld := ⟨SFB_CH_STATUS.off n, 4, 4, 0⟩
def SFB_CH_STATUS.IDX_SEEN (n : Nat) : Fld := ⟨SFB_CH_STATUS.off n, 8, 1, 0⟩
def SFB_CH_STATUS.DRIFT (n : Nat) : Fld := ⟨SFB_CH_STATUS.off n, 9, 1, 0⟩
def SFB_CH_POS.off (n : Nat) : Nat := 0xD01008 + 0x80 * n
def SFB_CH_POS.POS (n : Nat) : Fld := ⟨SFB_CH_POS.off n, 0, 64, 0⟩
def SFB_CH_STAMP.off (n : Nat) : Nat := 0xD01010 + 0x80 * n
def SFB_CH_STAMP.NS (n : Nat) : Fld := ⟨SFB_CH_STAMP.off n, 0, 64, 0⟩
def SFB_CH_SPEED.off (n : Nat) : Nat := 0xD01018 + 0x80 * n
def SFB_CH_SPEED.SPEED (n : Nat) : Fld := ⟨SFB_CH_SPEED.off n, 0, 48, 0⟩
def SFB_CH_SPEED.DIR (n : Nat) : Fld := ⟨SFB_CH_SPEED.off n, 48, 1, 0⟩
def SFB_CH_SPEED.ESTIMATE (n : Nat) : Fld := ⟨SFB_CH_SPEED.off n, 49, 1, 0⟩
def SFB_CH_SPEED.STANDSTILL (n : Nat) : Fld := ⟨SFB_CH_SPEED.off n, 50, 1, 1⟩
def SFB_CH_SPD_CFG.off (n : Nat) : Nat := 0xD01020 + 0x80 * n
def SFB_CH_SPD_CFG.WIN (n : Nat) : Fld := ⟨SFB_CH_SPD_CFG.off n, 0, 10, 10⟩
def SFB_CH_SPD_CFG.STANDSTILL (n : Nat) : Fld := ⟨SFB_CH_SPD_CFG.off n, 10, 16, 100⟩
def SFB_CH_AMAX.off (n : Nat) : Nat := 0xD01024 + 0x80 * n
def SFB_CH_AMAX.AMAX (n : Nat) : Fld := ⟨SFB_CH_AMAX.off n, 0, 32, 19531250⟩
def SFB_CH_IDX_POS.off (n : Nat) : Nat := 0xD01028 + 0x80 * n
def SFB_CH_IDX_POS.POS (n : Nat) : Fld := ⟨SFB_CH_IDX_POS.off n, 0, 64, 0⟩
def SFB_CH_IDX_STAMP.off (n : Nat) : Nat := 0xD01030 + 0x80 * n
def SFB_CH_IDX_STAMP.NS (n : Nat) : Fld := ⟨SFB_CH_IDX_STAMP.off n, 0, 64, 0⟩
def SFB_CH_IDX_PITCH.off (n : Nat) : Nat := 0xD01038 + 0x80 * n
def SFB_CH_IDX_PITCH.PITCH (n : Nat) : Fld := ⟨SFB_CH_IDX_PITCH.off n, 0, 32, 0⟩
def SFB_CH_IDX_TOL.off (n : Nat) : Nat := 0xD0103C + 0x80 * n
def SFB_CH_IDX_TOL.TOL (n : Nat) : Fld := ⟨SFB_CH_IDX_TOL.off n, 0, 31, 64⟩
def SFB_CH_IDX_TOL.REF_CLR (n : Nat) : Fld := ⟨SFB_CH_IDX_TOL.off n, 31, 1, 0⟩
def SFB_AE_CORR.off (n : Nat) : Nat := 0xD01040 + 0x80 * n
def SFB_AE_CORR.OFF_S (n : Nat) : Fld := ⟨SFB_AE_CORR.off n, 0, 10, 0⟩
def SFB_AE_CORR.OFF_C (n : Nat) : Fld := ⟨SFB_AE_CORR.off n, 16, 10, 0⟩
def SFB_AE_GAIN.off (n : Nat) : Nat := 0xD01044 + 0x80 * n
def SFB_AE_GAIN.GAIN_C (n : Nat) : Fld := ⟨SFB_AE_GAIN.off n, 0, 13, 4096⟩
def SFB_AE_AMP_LO.off (n : Nat) : Nat := 0xD01048 + 0x80 * n
def SFB_AE_AMP_LO.A2 (n : Nat) : Fld := ⟨SFB_AE_AMP_LO.off n, 0, 26, 262144⟩
def SFB_AE_AMP_HI.off (n : Nat) : Nat := 0xD0104C + 0x80 * n
def SFB_AE_AMP_HI.A2 (n : Nat) : Fld := ⟨SFB_AE_AMP_HI.off n, 0, 26, 8388608⟩
def SFB_AE_RAW.off (n : Nat) : Nat := 0xD01050 + 0x80 * n
def SFB_AE_RAW.SIN (n : Nat) : Fld := ⟨SFB_AE_RAW.off n, 0, 12, 0⟩
def SFB_AE_RAW.COS (n : Nat) : Fld := ⟨SFB_AE_RAW.off n, 16, 12, 0⟩
def SFB_SE_CFG.off (n : Nat) : Nat := 0xD01440 + 0x80 * n
def SFB_SE_CFG.BITS (n : Nat) : Fld := ⟨SFB_SE_CFG.off n, 0, 6, 25⟩
def SFB_SE_CFG.PBITS (n : Nat) : Fld := ⟨SFB_SE_CFG.off n, 6, 6, 25⟩
def SFB_SE_CFG.GRAY (n : Nat) : Fld := ⟨SFB_SE_CFG.off n, 12, 1, 1⟩
def SFB_SE_CFG.DOUBLE (n : Nat) : Fld := ⟨SFB_SE_CFG.off n, 13, 1, 0⟩
def SFB_SE_CFG.ERR_EN (n : Nat) : Fld := ⟨SFB_SE_CFG.off n, 14, 1, 0⟩
def SFB_SE_CFG.ERR_POL (n : Nat) : Fld := ⟨SFB_SE_CFG.off n, 15, 1, 1⟩
def SFB_SE_CFG.ERR_IDX (n : Nat) : Fld := ⟨SFB_SE_CFG.off n, 16, 6, 0⟩
def SFB_SE_CFG.CLKDIV (n : Nat) : Fld := ⟨SFB_SE_CFG.off n, 22, 10, 100⟩
def SFB_SE_PERIOD.off (n : Nat) : Nat := 0xD01444 + 0x80 * n
def SFB_SE_PERIOD.PERIOD (n : Nat) : Fld := ⟨SFB_SE_PERIOD.off n, 0, 16, 50⟩
def SFB_SE_PERIOD.RECOV (n : Nat) : Fld := ⟨SFB_SE_PERIOD.off n, 16, 16, 20⟩
def SFB_SE_JUMP.off (n : Nat) : Nat := 0xD01448 + 0x80 * n
def SFB_SE_JUMP.JUMP (n : Nat) : Fld := ⟨SFB_SE_JUMP.off n, 0, 32, 0⟩
def SFB_CMP_CTL.off (c : Nat) : Nat := 0xD00400 + 0x20 * c
def SFB_CMP_CTL.SRC (c : Nat) : Fld := ⟨SFB_CMP_CTL.off c, 0, 5, 0⟩
def SFB_CMP_CTL.DIR (c : Nat) : Fld := ⟨SFB_CMP_CTL.off c, 5, 1, 0⟩
def SFB_CMP_CTL.ARM (c : Nat) : Fld := ⟨SFB_CMP_CTL.off c, 6, 1, 0⟩
def SFB_CMP_CTL.PIN_EN (c : Nat) : Fld := ⟨SFB_CMP_CTL.off c, 7, 1, 0⟩
def SFB_CMP_CTL.WIDTH (c : Nat) : Fld := ⟨SFB_CMP_CTL.off c, 8, 8, 4⟩
def SFB_CMP_CTL.ARMED (c : Nat) : Fld := ⟨SFB_CMP_CTL.off c, 16, 1, 0⟩
def SFB_CMP_TARGET.off (c : Nat) : Nat := 0xD00408 + 0x20 * c
def SFB_CMP_TARGET.TARGET (c : Nat) : Fld := ⟨SFB_CMP_TARGET.off c, 0, 64, 0⟩
def SFB_CMP_STEP.off (c : Nat) : Nat := 0xD00410 + 0x20 * c
def SFB_CMP_STEP.STEP (c : Nat) : Fld := ⟨SFB_CMP_STEP.off c, 0, 63, 0⟩
def SFB_CMP_FIRED.off (c : Nat) : Nat := 0xD00418 + 0x20 * c
def SFB_CMP_FIRED.COUNT (c : Nat) : Fld := ⟨SFB_CMP_FIRED.off c, 0, 32, 0⟩
def SFB_CMP_SKIPPED.off (c : Nat) : Nat := 0xD0041C + 0x20 * c
def SFB_CMP_SKIPPED.COUNT (c : Nat) : Fld := ⟨SFB_CMP_SKIPPED.off c, 0, 32, 0⟩
def SFB_EMU_CTL.off (e : Nat) : Nat := 0xD00500 + 0x10 * e
def SFB_EMU_CTL.EN (e : Nat) : Fld := ⟨SFB_EMU_CTL.off e, 0, 1, 0⟩
def SFB_EMU_CTL.SRC (e : Nat) : Fld := ⟨SFB_EMU_CTL.off e, 1, 5, 0⟩
def SFB_EMU_CTL.SPACING (e : Nat) : Fld := ⟨SFB_EMU_CTL.off e, 8, 8, 4⟩
def SFB_EMU_CTL.OVR (e : Nat) : Fld := ⟨SFB_EMU_CTL.off e, 16, 1, 0⟩
def SFB_EMU_RATIO.off (e : Nat) : Nat := 0xD00504 + 0x10 * e
def SFB_EMU_RATIO.MUL (e : Nat) : Fld := ⟨SFB_EMU_RATIO.off e, 0, 16, 1⟩
def SFB_EMU_RATIO.DIV (e : Nat) : Fld := ⟨SFB_EMU_RATIO.off e, 16, 16, 1⟩
def SFB_EMU_LAG.off (e : Nat) : Nat := 0xD00508 + 0x10 * e
def SFB_EMU_LAG.LAG (e : Nat) : Fld := ⟨SFB_EMU_LAG.off e, 0, 32, 0⟩

/-! ### 10_motion_flash_timing.md -/

def MOT_CTL.off : Nat := 0xE00000
def MOT_CTL.ENABLE : Fld := ⟨MOT_CTL.off, 0, 1, 0⟩
def MOT_CTL.SP0_EN : Fld := ⟨MOT_CTL.off, 1, 1, 0⟩
def MOT_CTL.SP1_EN : Fld := ⟨MOT_CTL.off, 2, 1, 0⟩
def MOT_CTL.RET0_EN : Fld := ⟨MOT_CTL.off, 3, 1, 0⟩
def MOT_CTL.RET1_EN : Fld := ⟨MOT_CTL.off, 4, 1, 0⟩
def MOT_STATUS.off : Nat := 0xE00004
def MOT_STATUS.STATE : Fld := ⟨MOT_STATUS.off, 0, 3, 0⟩
def MOT_STATUS.PACED : Fld := ⟨MOT_STATUS.off, 3, 1, 0⟩
def MOT_STATUS.CAPPED : Fld := ⟨MOT_STATUS.off, 4, 1, 0⟩
def MOT_STATUS.WARN_SEEN : Fld := ⟨MOT_STATUS.off, 8, 1, 0⟩
def MOT_STATUS.PACE_SEEN : Fld := ⟨MOT_STATUS.off, 9, 1, 0⟩
def MOT_STATUS.SERVO_SEEN : Fld := ⟨MOT_STATUS.off, 10, 1, 0⟩
def MOT_PROF.off (i : Nat) : Nat := 0xE00010 + 0x4 * i
def MOT_PROF.VALUE (i : Nat) : Fld := ⟨MOT_PROF.off i, 0, 32, 0⟩
def MOT_LEAD_CFG.off : Nat := 0xE00030
def MOT_LEAD_CFG.START : Fld := ⟨MOT_LEAD_CFG.off, 0, 16, 8192⟩
def MOT_LEAD_CFG.PACE : Fld := ⟨MOT_LEAD_CFG.off, 16, 16, 4096⟩
def MOT_PACE_CFG.off : Nat := 0xE00034
def MOT_PACE_CFG.FACTOR : Fld := ⟨MOT_PACE_CFG.off, 0, 16, 4096⟩
def MOT_PACE_CFG.INTERVAL : Fld := ⟨MOT_PACE_CFG.off, 16, 8, 10⟩
def MOT_LEAD.off : Nat := 0xE00038
def MOT_LEAD.LAMBDA : Fld := ⟨MOT_LEAD.off, 0, 32, 0⟩
def MOT_VPLAN.off : Nat := 0xE0003C
def MOT_VPLAN.V : Fld := ⟨MOT_VPLAN.off, 0, 32, 0⟩
def MOT_SP_CFG.off : Nat := 0xE00040
def MOT_SP_CFG.DIV : Fld := ⟨MOT_SP_CFG.off, 0, 5, 12⟩
def MOT_SP_CFG.AHEAD : Fld := ⟨MOT_SP_CFG.off, 8, 8, 40⟩
def MOT_CNT_SPBAD.off : Nat := 0xE00048
def MOT_CNT_SPBAD.COUNT : Fld := ⟨MOT_CNT_SPBAD.off, 0, 32, 0⟩
def FLS_CTL.off : Nat := 0xE00E00
def FLS_CTL.DIR : Fld := ⟨FLS_CTL.off, 0, 1, 0⟩
def FLS_CTL.DL_EN : Fld := ⟨FLS_CTL.off, 1, 1, 0⟩
def FLS_XF0.off : Nat := 0xE00E08
def FLS_XF0.XF0 : Fld := ⟨FLS_XF0.off, 0, 64, 0⟩
def FLS_DELAY.off : Nat := 0xE00E10
def FLS_DELAY.DELAY : Fld := ⟨FLS_DELAY.off, 0, 16, 0⟩
def FLS_ARM.off : Nat := 0xE00E14
def FLS_ARM.LEAD : Fld := ⟨FLS_ARM.off, 0, 16, 2000⟩
def FLS_FLASH.off : Nat := 0xE00E18
def FLS_FLASH.T : Fld := ⟨FLS_FLASH.off, 0, 32, 0⟩
def FLS_A0.off : Nat := 0xE00E20
def FLS_A0.A0 : Fld := ⟨FLS_A0.off, 0, 64, 0⟩
def FLS_CNT_WARN.off : Nat := 0xE00E28
def FLS_CNT_WARN.COUNT : Fld := ⟨FLS_CNT_WARN.off, 0, 32, 0⟩
def FLS_YS.off : Nat := 0xE00E30
def FLS_YS.YS : Fld := ⟨FLS_YS.off, 0, 64, 0⟩
def MOT_AX_CTL.off (a : Nat) : Nat := 0xE00800 + 0x40 * a
def MOT_AX_CTL.EN (a : Nat) : Fld := ⟨MOT_AX_CTL.off a, 0, 1, 0⟩
def MOT_AX_CTL.STOP (a : Nat) : Fld := ⟨MOT_AX_CTL.off a, 1, 1, 0⟩
def MOT_AX_CTL.DIR_INV (a : Nat) : Fld := ⟨MOT_AX_CTL.off a, 2, 1, 0⟩
def MOT_AX_CTL.CUR_EN (a : Nat) : Fld := ⟨MOT_AX_CTL.off a, 3, 1, 0⟩
def MOT_AX_CTL.CHK_EN (a : Nat) : Fld := ⟨MOT_AX_CTL.off a, 4, 1, 0⟩
def MOT_AX_CTL.CHK_SRC (a : Nat) : Fld := ⟨MOT_AX_CTL.off a, 5, 3, 0⟩
def MOT_AX_TARGET.off (a : Nat) : Nat := 0xE00804 + 0x40 * a
def MOT_AX_TARGET.TARGET (a : Nat) : Fld := ⟨MOT_AX_TARGET.off a, 0, 32, 0⟩
def MOT_AX_POS.off (a : Nat) : Nat := 0xE00808 + 0x40 * a
def MOT_AX_POS.POS (a : Nat) : Fld := ⟨MOT_AX_POS.off a, 0, 32, 0⟩
def MOT_AX_SPEED.off (a : Nat) : Nat := 0xE00810 + 0x40 * a
def MOT_AX_SPEED.VMAX (a : Nat) : Fld := ⟨MOT_AX_SPEED.off a, 0, 23, 1000⟩
def MOT_AX_SPEED.VSS (a : Nat) : Fld := ⟨MOT_AX_SPEED.off a, 32, 23, 100⟩
def MOT_AX_ACC.off (a : Nat) : Nat := 0xE00818 + 0x40 * a
def MOT_AX_ACC.ACC (a : Nat) : Fld := ⟨MOT_AX_ACC.off a, 0, 32, 10000⟩
def MOT_AX_TIMING.off (a : Nat) : Nat := 0xE0081C + 0x40 * a
def MOT_AX_TIMING.PW (a : Nat) : Fld := ⟨MOT_AX_TIMING.off a, 0, 8, 10⟩
def MOT_AX_TIMING.DSETUP (a : Nat) : Fld := ⟨MOT_AX_TIMING.off a, 8, 8, 10⟩
def MOT_AX_TIMING.IDLE (a : Nat) : Fld := ⟨MOT_AX_TIMING.off a, 16, 8, 200⟩
def MOT_AX_TIMING.CUR_WAKE (a : Nat) : Fld := ⟨MOT_AX_TIMING.off a, 24, 8, 10⟩
def MOT_AX_CHK.off (a : Nat) : Nat := 0xE00820 + 0x40 * a
def MOT_AX_CHK.MUL (a : Nat) : Fld := ⟨MOT_AX_CHK.off a, 0, 16, 1⟩
def MOT_AX_CHK.DIV (a : Nat) : Fld := ⟨MOT_AX_CHK.off a, 16, 16, 1⟩
def MOT_AX_CHK.LIMIT (a : Nat) : Fld := ⟨MOT_AX_CHK.off a, 32, 16, 16⟩
def MOT_AX_STATUS.off (a : Nat) : Nat := 0xE00828 + 0x40 * a
def MOT_AX_STATUS.STATE (a : Nat) : Fld := ⟨MOT_AX_STATUS.off a, 0, 2, 0⟩
def MOT_AX_STATUS.CUR (a : Nat) : Fld := ⟨MOT_AX_STATUS.off a, 2, 1, 0⟩
def MOT_AX_STATUS.STALL (a : Nat) : Fld := ⟨MOT_AX_STATUS.off a, 3, 1, 0⟩
def MOT_AX_STATUS.DEV (a : Nat) : Fld := ⟨MOT_AX_STATUS.off a, 32, 32, 0⟩

/-! ### 11_gaffer_write_programs.md -/

def GAF_CTL.off : Nat := 0xF00000
def GAF_CTL.RUN : Fld := ⟨GAF_CTL.off, 0, 1, 0⟩
def GAF_STATUS.off : Nat := 0xF00004
def GAF_STATUS.RUNNING : Fld := ⟨GAF_STATUS.off, 0, 4, 0⟩
def GAF_STATUS.FAULTED : Fld := ⟨GAF_STATUS.off, 4, 4, 0⟩
def GAF_STATUS.PROG_VALID : Fld := ⟨GAF_STATUS.off, 8, 1, 0⟩
def GAF_STATUS.HALTED : Fld := ⟨GAF_STATUS.off, 9, 1, 0⟩
def GAF_STATUS.LATE_WRITE : Fld := ⟨GAF_STATUS.off, 16, 1, 0⟩
def GAF_STATUS.FAULT_SEEN : Fld := ⟨GAF_STATUS.off, 17, 1, 0⟩
def GAF_STATUS.EV_MERGE : Fld := ⟨GAF_STATUS.off, 18, 1, 0⟩
def GAF_GEN.off : Nat := 0xF00008
def GAF_GEN.COMMITTED : Fld := ⟨GAF_GEN.off, 0, 32, 0⟩
def GAF_GEN.ACTIVE : Fld := ⟨GAF_GEN.off, 32, 32, 0⟩
def GAF_EVSET.off : Nat := 0xF00010
def GAF_EVSET.SW : Fld := ⟨GAF_EVSET.off, 0, 16, 0⟩
def GAF_STRIPE_STATE.off : Nat := 0xF00018
def GAF_STRIPE_STATE.PREPARED : Fld := ⟨GAF_STRIPE_STATE.off, 0, 1, 0⟩
def GAF_STRIPE_STATE.QUEUED : Fld := ⟨GAF_STRIPE_STATE.off, 1, 1, 0⟩
def GAF_STRIPE_STATE.ACTIVE : Fld := ⟨GAF_STRIPE_STATE.off, 2, 1, 0⟩
def GAF_STRIPE_ACTIVE.off : Nat := 0xF0001C
def GAF_STRIPE_ACTIVE.STRIPE : Fld := ⟨GAF_STRIPE_ACTIVE.off, 0, 32, 0⟩
def GAF_CNT_EVMERGE.off : Nat := 0xF00020
def GAF_CNT_EVMERGE.COUNT : Fld := ⟨GAF_CNT_EVMERGE.off, 0, 32, 0⟩
def GAF_CNT_LATE.off : Nat := 0xF00024
def GAF_CNT_LATE.COUNT : Fld := ⟨GAF_CNT_LATE.off, 0, 32, 0⟩
def GAF_PROG_HASH.off (i : Nat) : Nat := 0xF00040 + 0x4 * i
def GAF_PROG_HASH.HASH (i : Nat) : Fld := ⟨GAF_PROG_HASH.off i, 0, 32, 0⟩
def GAF_THREAD.off (n : Nat) : Nat := 0xF00100 + 0x20 * n
def GAF_THREAD.PC (n : Nat) : Fld := ⟨GAF_THREAD.off n, 0, 15, 0⟩
def GAF_THREAD.RUNNING (n : Nat) : Fld := ⟨GAF_THREAD.off n, 15, 1, 0⟩
def GAF_THREAD.WAITING (n : Nat) : Fld := ⟨GAF_THREAD.off n, 16, 1, 0⟩
def GAF_THREAD.FAULT (n : Nat) : Fld := ⟨GAF_THREAD.off n, 17, 1, 0⟩
def GAF_THREAD.CAUSE (n : Nat) : Fld := ⟨GAF_THREAD.off n, 18, 4, 0⟩
def GAF_THREAD.DEPTH (n : Nat) : Fld := ⟨GAF_THREAD.off n, 22, 5, 0⟩
def GAF_THREAD_PEND.off (n : Nat) : Nat := 0xF00108 + 0x20 * n
def GAF_THREAD_PEND.PEND (n : Nat) : Fld := ⟨GAF_THREAD_PEND.off n, 0, 64, 0⟩
def GAF_HALT_FLASH.off : Nat := 0xF00200
def GAF_HALT_FLASH.TH : Fld := ⟨GAF_HALT_FLASH.off, 0, 32, 0⟩
def GAF_HALT_STRIPE.off : Nat := 0xF00204
def GAF_HALT_STRIPE.STRIPE : Fld := ⟨GAF_HALT_STRIPE.off, 0, 32, 0⟩
def GAF_HALT_GEN.off : Nat := 0xF00208
def GAF_HALT_GEN.GEN : Fld := ⟨GAF_HALT_GEN.off, 0, 32, 0⟩
def GAF_HALT_CAUSE.off : Nat := 0xF0020C
def GAF_HALT_CAUSE.CODE : Fld := ⟨GAF_HALT_CAUSE.off, 0, 16, 0⟩
def GAF_HALT_CAUSE.MORE : Fld := ⟨GAF_HALT_CAUSE.off, 16, 16, 0⟩
def GAF_TRAIN_FAIL.off : Nat := 0xF00210
def GAF_TRAIN_FAIL.FAILED : Fld := ⟨GAF_TRAIN_FAIL.off, 0, 64, 0⟩

/-! ### 12_thyme_time_ptp.md -/

def THY_STATUS.off : Nat := 0x200004
def THY_STATUS.HOLDOVER : Fld := ⟨THY_STATUS.off, 0, 1, 0⟩
def THY_STATUS.OK_A : Fld := ⟨THY_STATUS.off, 1, 1, 0⟩
def THY_STATUS.OK_B : Fld := ⟨THY_STATUS.off, 2, 1, 0⟩
def THY_STATUS.SLEWING : Fld := ⟨THY_STATUS.off, 3, 1, 0⟩
def THY_STATUS.INC_REFUSED : Fld := ⟨THY_STATUS.off, 8, 1, 0⟩
def THY_STATUS.STEP_REFUSED : Fld := ⟨THY_STATUS.off, 9, 1, 0⟩
def THY_STATUS.TP_MISS_SEEN : Fld := ⟨THY_STATUS.off, 10, 1, 0⟩
def THY_STATUS.REF_LOST_SEEN : Fld := ⟨THY_STATUS.off, 11, 1, 0⟩
def THY_TIME_SEC.off : Nat := 0x200010
def THY_TIME_SEC.SEC : Fld := ⟨THY_TIME_SEC.off, 0, 48, 0⟩
def THY_TIME_NS.off : Nat := 0x200018
def THY_TIME_NS.NS : Fld := ⟨THY_TIME_NS.off, 0, 32, 0⟩
def THY_TIME_FRAC.off : Nat := 0x20001C
def THY_TIME_FRAC.FRAC : Fld := ⟨THY_TIME_FRAC.off, 0, 32, 0⟩
def THY_NOW.off : Nat := 0x200020
def THY_NOW.NS : Fld := ⟨THY_NOW.off, 0, 64, 0⟩
def THY_INC.off : Nat := 0x200030
def THY_INC.INC : Fld := ⟨THY_INC.off, 0, 36, 6871947674⟩
def THY_SET_SEC.off : Nat := 0x200040
def THY_SET_SEC.SEC : Fld := ⟨THY_SET_SEC.off, 0, 48, 0⟩
def THY_SET_NS.off : Nat := 0x200048
def THY_SET_NS.NS : Fld := ⟨THY_SET_NS.off, 0, 32, 0⟩
def THY_ADJ_CTL.off : Nat := 0x200050
def THY_ADJ_CTL.SET : Fld := ⟨THY_ADJ_CTL.off, 0, 1, 0⟩
def THY_ADJ_CTL.STEP : Fld := ⟨THY_ADJ_CTL.off, 1, 1, 0⟩
def THY_ADJ_CTL.SLEW : Fld := ⟨THY_ADJ_CTL.off, 2, 1, 0⟩
def THY_ADJ.off : Nat := 0x200058
def THY_ADJ.ADJ : Fld := ⟨THY_ADJ.off, 0, 64, 0⟩
def THY_SLEW_RATE.off : Nat := 0x200060
def THY_SLEW_RATE.RATE : Fld := ⟨THY_SLEW_RATE.off, 0, 23, 4096⟩
def THY_SLEW_LEFT.off : Nat := 0x200068
def THY_SLEW_LEFT.LEFT : Fld := ⟨THY_SLEW_LEFT.off, 0, 64, 0⟩
def THY_REF_CTL.off : Nat := 0x200100
def THY_REF_CTL.SEL : Fld := ⟨THY_REF_CTL.off, 0, 2, 0⟩
def THY_REF_CTL.HOLD : Fld := ⟨THY_REF_CTL.off, 2, 1, 0⟩
def THY_REF_CTL.PPS_EDGE : Fld := ⟨THY_REF_CTL.off, 3, 1, 0⟩
def THY_REF_CTL.PPS_TOL : Fld := ⟨THY_REF_CTL.off, 8, 16, 1000⟩
def THY_REF_PPS.off (r : Nat) : Nat := 0x200140 + 0x20 * r
def THY_REF_PPS.TIME (r : Nat) : Fld := ⟨THY_REF_PPS.off r, 0, 64, 0⟩
def THY_REF_TREF.off (r : Nat) : Nat := 0x200148 + 0x20 * r
def THY_REF_TREF.TIME (r : Nat) : Fld := ⟨THY_REF_TREF.off r, 0, 64, 0⟩
def THY_REF_COUNT.off (r : Nat) : Nat := 0x200150 + 0x20 * r
def THY_REF_COUNT.COUNT (r : Nat) : Fld := ⟨THY_REF_COUNT.off r, 0, 32, 0⟩
def THY_TP_CTL.off (n : Nat) : Nat := 0x200400 + 0x20 * n
def THY_TP_CTL.ARM (n : Nat) : Fld := ⟨THY_TP_CTL.off n, 0, 1, 0⟩
def THY_TP_CTL.DISARM (n : Nat) : Fld := ⟨THY_TP_CTL.off n, 1, 1, 0⟩
def THY_TP_CTL.ARMED (n : Nat) : Fld := ⟨THY_TP_CTL.off n, 2, 1, 0⟩
def THY_TP_CTL.PIN_EN (n : Nat) : Fld := ⟨THY_TP_CTL.off n, 3, 1, 1⟩
def THY_TP_CTL.WIDTH (n : Nat) : Fld := ⟨THY_TP_CTL.off n, 16, 16, 1⟩
def THY_TP_START.off (n : Nat) : Nat := 0x200408 + 0x20 * n
def THY_TP_START.S (n : Nat) : Fld := ⟨THY_TP_START.off n, 0, 64, 0⟩
def THY_TP_PERIOD.off (n : Nat) : Nat := 0x200410 + 0x20 * n
def THY_TP_PERIOD.Q (n : Nat) : Fld := ⟨THY_TP_PERIOD.off n, 0, 64, 0⟩
def THY_TP_SKIPPED.off (n : Nat) : Nat := 0x200418 + 0x20 * n
def THY_TP_SKIPPED.COUNT (n : Nat) : Fld := ⟨THY_TP_SKIPPED.off n, 0, 32, 0⟩
def THY_TC_CTL.off (n : Nat) : Nat := 0x200600 + 0x10 * n
def THY_TC_CTL.EN (n : Nat) : Fld := ⟨THY_TC_CTL.off n, 0, 1, 0⟩
def THY_TC_CTL.EDGE (n : Nat) : Fld := ⟨THY_TC_CTL.off n, 1, 2, 1⟩
def THY_TC_CTL.SRC (n : Nat) : Fld := ⟨THY_TC_CTL.off n, 8, 4, 0⟩
def THY_TC_CTL.COUNT (n : Nat) : Fld := ⟨THY_TC_CTL.off n, 12, 4, 0⟩
def THY_TC_CTL.OVF (n : Nat) : Fld := ⟨THY_TC_CTL.off n, 16, 1, 0⟩
def THY_TC_TIME.off (n : Nat) : Nat := 0x200608 + 0x10 * n
def THY_TC_TIME.TIME (n : Nat) : Fld := ⟨THY_TC_TIME.off n, 0, 63, 0⟩
def THY_TC_TIME.VALID (n : Nat) : Fld := ⟨THY_TC_TIME.off n, 63, 1, 0⟩
def THY_PTP_LAT.off (p : Nat) : Nat := 0x200800 + 0x10 * p
def THY_PTP_LAT.TX (p : Nat) : Fld := ⟨THY_PTP_LAT.off p, 0, 32, 0⟩
def THY_PTP_LAT.RX (p : Nat) : Fld := ⟨THY_PTP_LAT.off p, 32, 32, 0⟩
def THY_PTP_CNT_TC.off : Nat := 0x200880
def THY_PTP_CNT_TC.COUNT : Fld := ⟨THY_PTP_CNT_TC.off, 0, 32, 0⟩
def THY_PTP_CNT_UNSUP.off : Nat := 0x200884
def THY_PTP_CNT_UNSUP.COUNT : Fld := ⟨THY_PTP_CNT_UNSUP.off, 0, 32, 0⟩
def THY_PTP_CNT_LATE.off : Nat := 0x200888
def THY_PTP_CNT_LATE.COUNT : Fld := ⟨THY_PTP_CNT_LATE.off, 0, 32, 0⟩

/-! ### 13_cluster_segment_transport.md -/

def ETH_PORT_CFG.off (p : Nat) : Nat := 0x1200000 + 0x10 * p
def ETH_PORT_CFG.EN (p : Nat) : Fld := ⟨ETH_PORT_CFG.off p, 0, 1, 0⟩
def ETH_PORT_CFG.ROLE (p : Nat) : Fld := ⟨ETH_PORT_CFG.off p, 1, 2, 0⟩
def ETH_PORT_CFG.FEC (p : Nat) : Fld := ⟨ETH_PORT_CFG.off p, 3, 1, 1⟩
def ETH_PORT_STATUS.off (p : Nat) : Nat := 0x1200004 + 0x10 * p
def ETH_PORT_STATUS.LINK (p : Nat) : Fld := ⟨ETH_PORT_STATUS.off p, 0, 1, 0⟩
def ETH_PORT_STATUS.CHAIN_WAIT (p : Nat) : Fld := ⟨ETH_PORT_STATUS.off p, 1, 1, 0⟩
def ETH_PORT_STATUS.DOWN_SEEN (p : Nat) : Fld := ⟨ETH_PORT_STATUS.off p, 8, 1, 0⟩
def ETH_STATUS.off : Nat := 0x1200080
def ETH_STATUS.CFG_REFUSED : Fld := ⟨ETH_STATUS.off, 0, 1, 0⟩
def ETH_STATUS.RETRY_SEEN : Fld := ⟨ETH_STATUS.off, 1, 1, 0⟩
def ETH_MAC.off : Nat := 0x1200100
def ETH_MAC.MAC : Fld := ⟨ETH_MAC.off, 0, 48, 0⟩
def ETH_IP.off : Nat := 0x1200108
def ETH_IP.ADDR : Fld := ⟨ETH_IP.off, 0, 32, 0⟩
def ETH_IP.PREFIX : Fld := ⟨ETH_IP.off, 32, 6, 24⟩
def ETH_GW.off : Nat := 0x1200110
def ETH_GW.ADDR : Fld := ⟨ETH_GW.off, 0, 32, 0⟩
def ETH_WST_CFG.off : Nat := 0x1200120
def ETH_WST_CFG.PORT : Fld := ⟨ETH_WST_CFG.off, 0, 16, 17524⟩
def ETH_WST_CFG.WINDOW : Fld := ⟨ETH_WST_CFG.off, 16, 11, 192⟩
def ETH_WST_TMO.off : Nat := 0x1200124
def ETH_WST_TMO.RTO : Fld := ⟨ETH_WST_TMO.off, 0, 16, 200⟩
def ETH_WST_TMO.RETRY : Fld := ⟨ETH_WST_TMO.off, 16, 4, 3⟩
def ETH_WST_TMO.SRV_COUNT : Fld := ⟨ETH_WST_TMO.off, 20, 4, 1⟩
def ETH_SRV.off (i : Nat) : Nat := 0x1200200 + 0x8 * i
def ETH_SRV.ADDR (i : Nat) : Fld := ⟨ETH_SRV.off i, 0, 32, 0⟩
def ETH_CNT_LOST.off : Nat := 0x1200300
def ETH_CNT_LOST.COUNT : Fld := ⟨ETH_CNT_LOST.off, 0, 32, 0⟩
def ETH_CNT_DROP.off : Nat := 0x1200304
def ETH_CNT_DROP.COUNT : Fld := ⟨ETH_CNT_DROP.off, 0, 32, 0⟩
def CLU_CFG.off : Nat := 0x1280000
def CLU_CFG.ROLE : Fld := ⟨CLU_CFG.off, 0, 2, 0⟩
def CLU_CFG.MEMBER : Fld := ⟨CLU_CFG.off, 2, 5, 0⟩
def CLU_CFG.UPLINK : Fld := ⟨CLU_CFG.off, 7, 1, 0⟩
def CLU_CFG.DOMAIN : Fld := ⟨CLU_CFG.off, 8, 8, 0⟩
def CLU_CFG.CLUSTER : Fld := ⟨CLU_CFG.off, 16, 16, 0⟩
def CLU_GROUP.off : Nat := 0x1280004
def CLU_GROUP.ADDR : Fld := ⟨CLU_GROUP.off, 0, 32, 0⟩
def CLU_STATUS.off : Nat := 0x1280008
def CLU_STATUS.STATE : Fld := ⟨CLU_STATUS.off, 0, 3, 0⟩
def CLU_STATUS.STANDBY_OK : Fld := ⟨CLU_STATUS.off, 3, 1, 0⟩
def CLU_STATUS.TAKEOVER_SEEN : Fld := ⟨CLU_STATUS.off, 8, 1, 0⟩
def CLU_STATUS.LOST_SEEN : Fld := ⟨CLU_STATUS.off, 9, 1, 0⟩
def CLU_STATUS.SB_FAIL_SEEN : Fld := ⟨CLU_STATUS.off, 10, 1, 0⟩
def CLU_TERM.off : Nat := 0x128000C
def CLU_TERM.TERM : Fld := ⟨CLU_TERM.off, 0, 32, 0⟩
def CLU_GRANT_CFG.off : Nat := 0x1280010
def CLU_GRANT_CFG.BASE : Fld := ⟨CLU_GRANT_CFG.off, 0, 16, 64⟩
def CLU_GRANT_CFG.DB : Fld := ⟨CLU_GRANT_CFG.off, 16, 5, 0⟩
def CLU_GRANT_CFG.DEPTH : Fld := ⟨CLU_GRANT_CFG.off, 21, 3, 2⟩
def CLU_CNT_STALE.off : Nat := 0x1280020
def CLU_CNT_STALE.COUNT : Fld := ⟨CLU_CNT_STALE.off, 0, 32, 0⟩
def CLU_MEMBER.off (m : Nat) : Nat := 0x1280400 + 0x40 * m
-- CLU_MEMBER : records, read through the cluster agent

/-! ### 14_sage_security.md -/

def SAG_STATUS.off : Nat := 0x1300000
def SAG_STATUS.LIFECYCLE : Fld := ⟨SAG_STATUS.off, 0, 2, 0⟩
def SAG_STATUS.DEBUG_OPEN : Fld := ⟨SAG_STATUS.off, 2, 1, 0⟩
def SAG_STATUS.DEBUG_LOCK : Fld := ⟨SAG_STATUS.off, 3, 1, 0⟩
def SAG_STATUS.FUSE_PWR : Fld := ⟨SAG_STATUS.off, 4, 1, 0⟩
def SAG_STATUS.CHAL : Fld := ⟨SAG_STATUS.off, 5, 1, 0⟩
def SAG_STATUS.JOB_KEY : Fld := ⟨SAG_STATUS.off, 6, 2, 0⟩
def SAG_STATUS.LANE_KEY : Fld := ⟨SAG_STATUS.off, 8, 4, 0⟩
def SAG_STATUS.DIAG : Fld := ⟨SAG_STATUS.off, 12, 2, 0⟩
def SAG_STATUS.REFUSE_SEEN : Fld := ⟨SAG_STATUS.off, 16, 1, 0⟩
def SAG_STATUS.TAG_SEEN : Fld := ⟨SAG_STATUS.off, 17, 1, 0⟩
def SAG_SERIAL.off : Nat := 0x1300008
def SAG_SERIAL.SERIAL : Fld := ⟨SAG_SERIAL.off, 0, 64, 0⟩
def SAG_SLOTS.off : Nat := 0x1300010
def SAG_SLOTS.OP_VALID : Fld := ⟨SAG_SLOTS.off, 0, 4, 0⟩
def SAG_SLOTS.OP_REVOKED : Fld := ⟨SAG_SLOTS.off, 4, 4, 0⟩
def SAG_SLOTS.KYT_VALID : Fld := ⟨SAG_SLOTS.off, 8, 2, 0⟩
def SAG_SLOTS.KYT_REVOKED : Fld := ⟨SAG_SLOTS.off, 10, 2, 0⟩
def SAG_ROLLBACK.off : Nat := 0x1300014
def SAG_ROLLBACK.FW_CTR : Fld := ⟨SAG_ROLLBACK.off, 0, 8, 0⟩
def SAG_ROLLBACK.PROG_CTR : Fld := ⟨SAG_ROLLBACK.off, 8, 8, 0⟩
def SAG_ROLLBACK.FW_SV : Fld := ⟨SAG_ROLLBACK.off, 16, 8, 0⟩
def SAG_FEATURE.off : Nat := 0x1300018
def SAG_FEATURE.FEATURE : Fld := ⟨SAG_FEATURE.off, 0, 4, 0⟩
def SAG_LEAVE.off : Nat := 0x1300020
def SAG_LEAVE.UNITS : Fld := ⟨SAG_LEAVE.off, 0, 8, 4⟩
def SAG_CNT_TAGFAIL.off : Nat := 0x1300030
def SAG_CNT_TAGFAIL.COUNT : Fld := ⟨SAG_CNT_TAGFAIL.off, 0, 32, 0⟩
def SAG_CNT_REFUSE.off : Nat := 0x1300034
def SAG_CNT_REFUSE.COUNT : Fld := ⟨SAG_CNT_REFUSE.off, 0, 32, 0⟩

/-! ### 15_host_access_mailboxes_dma.md -/

def GLB_HBM_WIN.off : Nat := 0x000100
def GLB_HBM_WIN.BASE : Fld := ⟨GLB_HBM_WIN.off, 19, 17, 0⟩
def GLB_HOST_ERR.off : Nat := 0x000108
def GLB_HOST_ERR.REFUSED : Fld := ⟨GLB_HOST_ERR.off, 0, 1, 0⟩
def GLB_HOST_ERR.KIND : Fld := ⟨GLB_HOST_ERR.off, 1, 2, 0⟩
def GLB_HOST_ERR_ADDR.off : Nat := 0x000110
def GLB_HOST_ERR_ADDR.ADDR : Fld := ⟨GLB_HOST_ERR_ADDR.off, 0, 36, 0⟩
def MBX_TX_CTL.off (r : Nat) : Nat := 0x301040 + 0x100 * r
def MBX_TX_CTL.PUSH (r : Nat) : Fld := ⟨MBX_TX_CTL.off r, 0, 1, 0⟩
def MBX_TX_CTL.FREE (r : Nat) : Fld := ⟨MBX_TX_CTL.off r, 8, 3, 4⟩
def MBX_TX_CTL.FULL_SEEN (r : Nat) : Fld := ⟨MBX_TX_CTL.off r, 16, 1, 0⟩
def MBX_RX_CTL.off (s : Nat) : Nat := 0x302040 + 0x100 * s
def MBX_RX_CTL.POP (s : Nat) : Fld := ⟨MBX_RX_CTL.off s, 0, 1, 0⟩
def MBX_RX_CTL.COUNT (s : Nat) : Fld := ⟨MBX_RX_CTL.off s, 8, 3, 0⟩
def MBX_DB_PEND.off : Nat := 0x303000
def MBX_DB_PEND.SW : Fld := ⟨MBX_DB_PEND.off, 0, 24, 0⟩
def MBX_DB_PEND.MSG : Fld := ⟨MBX_DB_PEND.off, 24, 8, 0⟩
def MBX_DB_MASK.off : Nat := 0x303004
def MBX_DB_MASK.MASK : Fld := ⟨MBX_DB_MASK.off, 0, 32, 0⟩
def MBX_DB_WAKE.off : Nat := 0x303008
def MBX_DB_WAKE.WAKE : Fld := ⟨MBX_DB_WAKE.off, 0, 32, 4278190080⟩
def MBX_DB_SET.off (r : Nat) : Nat := 0x303100 + 0x4 * r
def MBX_DB_SET.SET (r : Nat) : Fld := ⟨MBX_DB_SET.off r, 0, 24, 0⟩
def MBX_CNT_FULL.off : Nat := 0x303200
def MBX_CNT_FULL.COUNT : Fld := ⟨MBX_CNT_FULL.off, 0, 32, 0⟩
def MBX_CNT_LOCKERR.off : Nat := 0x303204
def MBX_CNT_LOCKERR.COUNT : Fld := ⟨MBX_CNT_LOCKERR.off, 0, 32, 0⟩
def MBX_LOCK.off (n : Nat) : Nat := 0x304000 + 0x4 * n
def MBX_LOCK.OWNER (n : Nat) : Fld := ⟨MBX_LOCK.off n, 0, 8, 0⟩
def MBX_LOCK.HELD (n : Nat) : Fld := ⟨MBX_LOCK.off n, 8, 1, 0⟩
def MBX_LOCK.GOT (n : Nat) : Fld := ⟨MBX_LOCK.off n, 9, 1, 0⟩
def MBX_LOCK.RELEASE (n : Nat) : Fld := ⟨MBX_LOCK.off n, 0, 1, 0⟩
def DMA_CFG.off : Nat := 0x400000
def DMA_CFG.TMO : Fld := ⟨DMA_CFG.off, 0, 16, 1000⟩
def DMA_CFG.HOP_LIMIT : Fld := ⟨DMA_CFG.off, 32, 32, 65536⟩
def DMA_CH_CTL.off (c : Nat) : Nat := 0x401000 + 0x40 * c
def DMA_CH_CTL.START (c : Nat) : Fld := ⟨DMA_CH_CTL.off c, 0, 1, 0⟩
def DMA_CH_CTL.ABORT (c : Nat) : Fld := ⟨DMA_CH_CTL.off c, 1, 1, 0⟩
def DMA_CH_CTL.CRC_ENG (c : Nat) : Fld := ⟨DMA_CH_CTL.off c, 2, 2, 0⟩
def DMA_CH_CTL.CRC_USE (c : Nat) : Fld := ⟨DMA_CH_CTL.off c, 4, 1, 0⟩
def DMA_CH_CTL.CRC_INIT (c : Nat) : Fld := ⟨DMA_CH_CTL.off c, 5, 1, 0⟩
def DMA_CH_STATUS.off (c : Nat) : Nat := 0x401004 + 0x40 * c
def DMA_CH_STATUS.STATE (c : Nat) : Fld := ⟨DMA_CH_STATUS.off c, 0, 2, 0⟩
def DMA_CH_STATUS.ERR (c : Nat) : Fld := ⟨DMA_CH_STATUS.off c, 4, 3, 0⟩
def DMA_CH_STATUS.DONE_SEEN (c : Nat) : Fld := ⟨DMA_CH_STATUS.off c, 8, 1, 0⟩
def DMA_CH_STATUS.ERR_SEEN (c : Nat) : Fld := ⟨DMA_CH_STATUS.off c, 9, 1, 0⟩
def DMA_CH_HEAD.off (c : Nat) : Nat := 0x401008 + 0x40 * c
def DMA_CH_HEAD.ADDR (c : Nat) : Fld := ⟨DMA_CH_HEAD.off c, 0, 64, 0⟩
def DMA_CH_CUR.off (c : Nat) : Nat := 0x401010 + 0x40 * c
def DMA_CH_CUR.ADDR (c : Nat) : Fld := ⟨DMA_CH_CUR.off c, 0, 64, 0⟩
def DMA_CH_ERR_ADDR.off (c : Nat) : Nat := 0x401018 + 0x40 * c
def DMA_CH_ERR_ADDR.ADDR (c : Nat) : Fld := ⟨DMA_CH_ERR_ADDR.off c, 0, 64, 0⟩
def DMA_CH_HOPS.off (c : Nat) : Nat := 0x401020 + 0x40 * c
def DMA_CH_HOPS.COUNT (c : Nat) : Fld := ⟨DMA_CH_HOPS.off c, 0, 32, 0⟩
def CHK_CTL.off (e : Nat) : Nat := 0x500000 + 0x40 * e
def CHK_CTL.WIDTH (e : Nat) : Fld := ⟨CHK_CTL.off e, 0, 7, 32⟩
def CHK_CTL.REFIN (e : Nat) : Fld := ⟨CHK_CTL.off e, 7, 1, 1⟩
def CHK_CTL.REFOUT (e : Nat) : Fld := ⟨CHK_CTL.off e, 8, 1, 1⟩
def CHK_CTL.INW (e : Nat) : Fld := ⟨CHK_CTL.off e, 9, 2, 0⟩
def CHK_CTL.INIT (e : Nat) : Fld := ⟨CHK_CTL.off e, 11, 1, 0⟩
def CHK_CTL.CLAIMED (e : Nat) : Fld := ⟨CHK_CTL.off e, 12, 1, 0⟩
def CHK_CTL.CHANNEL (e : Nat) : Fld := ⟨CHK_CTL.off e, 16, 4, 0⟩
def CHK_POLY.off (e : Nat) : Nat := 0x500008 + 0x40 * e
def CHK_POLY.POLY (e : Nat) : Fld := ⟨CHK_POLY.off e, 0, 64, 517762881⟩
def CHK_INIT.off (e : Nat) : Nat := 0x500010 + 0x40 * e
def CHK_INIT.INIT (e : Nat) : Fld := ⟨CHK_INIT.off e, 0, 64, 4294967295⟩
def CHK_XOROUT.off (e : Nat) : Nat := 0x500018 + 0x40 * e
def CHK_XOROUT.XOROUT (e : Nat) : Fld := ⟨CHK_XOROUT.off e, 0, 64, 4294967295⟩
def CHK_DATA.off (e : Nat) : Nat := 0x500020 + 0x40 * e
def CHK_DATA.DATA (e : Nat) : Fld := ⟨CHK_DATA.off e, 0, 64, 0⟩
def CHK_RESULT.off (e : Nat) : Nat := 0x500028 + 0x40 * e
def CHK_RESULT.RESULT (e : Nat) : Fld := ⟨CHK_RESULT.off e, 0, 64, 0⟩
def CHK_STATUS.off (e : Nat) : Nat := 0x500030 + 0x40 * e
def CHK_STATUS.ALIVE (e : Nat) : Fld := ⟨CHK_STATUS.off e, 0, 8, 0⟩
def CHK_STATUS.DROP_SEEN (e : Nat) : Fld := ⟨CHK_STATUS.off e, 8, 1, 0⟩

/-! ### 16_memory_ecc.md -/

def HBM_CTL.off : Nat := 0x1000000
def HBM_CTL.ENABLE : Fld := ⟨HBM_CTL.off, 0, 1, 0⟩
def HBM_CTL.READY : Fld := ⟨HBM_CTL.off, 1, 1, 0⟩
def HBM_STATUS.off : Nat := 0x1000004
def HBM_STATUS.HOT : Fld := ⟨HBM_STATUS.off, 0, 4, 0⟩
def HBM_STATUS.MAP_REFUSED : Fld := ⟨HBM_STATUS.off, 8, 1, 0⟩
def HBM_STATUS.LATE_SEEN : Fld := ⟨HBM_STATUS.off, 9, 1, 0⟩
def HBM_MAP_CFG.off : Nat := 0x1000008
def HBM_MAP_CFG.GRAIN : Fld := ⟨HBM_MAP_CFG.off, 0, 5, 11⟩
def HBM_MAP_CFG.HASH : Fld := ⟨HBM_MAP_CFG.off, 5, 1, 1⟩
def HBM_REF_CFG.off : Nat := 0x1000010
def HBM_REF_CFG.TREFI : Fld := ⟨HBM_REF_CFG.off, 0, 16, 3900⟩
def HBM_REF_CFG.FORCE_MARGIN : Fld := ⟨HBM_REF_CFG.off, 16, 16, 500⟩
def HBM_PAGE_CFG.off : Nat := 0x1000014
def HBM_PAGE_CFG.IDLE : Fld := ⟨HBM_PAGE_CFG.off, 0, 8, 32⟩
def HBM_PAGE_CFG.THRESH : Fld := ⟨HBM_PAGE_CFG.off, 8, 2, 2⟩
def HBM_PAGE_CFG.MAXOPEN : Fld := ⟨HBM_PAGE_CFG.off, 16, 16, 4096⟩
def HBM_PD_CFG.off : Nat := 0x1000018
def HBM_PD_CFG.EN : Fld := ⟨HBM_PD_CFG.off, 0, 1, 1⟩
def HBM_PD_CFG.IDLE : Fld := ⟨HBM_PD_CFG.off, 16, 16, 1024⟩
def HBM_TEMP.off (n : Nat) : Nat := 0x1000020 + 0x4 * n
def HBM_TEMP.T (n : Nat) : Fld := ⟨HBM_TEMP.off n, 0, 8, 0⟩
def HBM_CNT_FORCED.off : Nat := 0x1000030
def HBM_CNT_FORCED.COUNT : Fld := ⟨HBM_CNT_FORCED.off, 0, 32, 0⟩
def HBM_CNT_LATE.off : Nat := 0x1000034
def HBM_CNT_LATE.COUNT : Fld := ⟨HBM_CNT_LATE.off, 0, 32, 0⟩
def HBM_QOS_TARGET.off (p : Nat) : Nat := 0x1000100 + 0x4 * p
def HBM_QOS_TARGET.TARGET (p : Nat) : Fld := ⟨HBM_QOS_TARGET.off p, 0, 16, ([200, 800, 100, 2000, 400, 1000, 1000, 5000] : List Nat).getD p 0⟩
def HBM_PORT_MAXLAT.off (p : Nat) : Nat := 0x1000140 + 0x4 * p
def HBM_PORT_MAXLAT.NS (p : Nat) : Fld := ⟨HBM_PORT_MAXLAT.off p, 0, 32, 0⟩
def ECC_GRP_CFG.off (g : Nat) : Nat := 0x1100000 + 0x40 * g
def ECC_GRP_CFG.MODE (g : Nat) : Fld := ⟨ECC_GRP_CFG.off g, 0, 1, if g = 15 then 1 else 0⟩
def ECC_GRP_CFG.AUTO (g : Nat) : Fld := ⟨ECC_GRP_CFG.off g, 1, 1, 1⟩
def ECC_GRP_CFG.WRITEBACK (g : Nat) : Fld := ⟨ECC_GRP_CFG.off g, 2, 1, 1⟩
def ECC_GRP_CFG.CE_THRESH (g : Nat) : Fld := ⟨ECC_GRP_CFG.off g, 8, 4, 2⟩
def ECC_GRP_CFG.CFG_REFUSED (g : Nat) : Fld := ⟨ECC_GRP_CFG.off g, 16, 1, 0⟩
def ECC_GRP_CFG.CE_SEEN (g : Nat) : Fld := ⟨ECC_GRP_CFG.off g, 17, 1, 0⟩
def ECC_GRP_CFG.UE_SEEN (g : Nat) : Fld := ⟨ECC_GRP_CFG.off g, 18, 1, 0⟩
def ECC_GRP_CFG.FULL_SEEN (g : Nat) : Fld := ⟨ECC_GRP_CFG.off g, 19, 1, 0⟩
def ECC_CNT_CE.off (g : Nat) : Nat := 0x1100008 + 0x40 * g
def ECC_CNT_CE.COUNT (g : Nat) : Fld := ⟨ECC_CNT_CE.off g, 0, 32, 0⟩
def ECC_CNT_UE.off (g : Nat) : Nat := 0x110000C + 0x40 * g
def ECC_CNT_UE.COUNT (g : Nat) : Fld := ⟨ECC_CNT_UE.off g, 0, 32, 0⟩
def ECC_LAST_ADDR.off (g : Nat) : Nat := 0x1100010 + 0x40 * g
def ECC_LAST_ADDR.ADDR (g : Nat) : Fld := ⟨ECC_LAST_ADDR.off g, 0, 36, 0⟩
def ECC_LAST_ADDR.UE (g : Nat) : Fld := ⟨ECC_LAST_ADDR.off g, 63, 1, 0⟩
def ECC_CULLET_ADDR.off (g : Nat) (e : Nat) : Nat := 0x1104000 + 0x100 * g + 0x10 * e
def ECC_CULLET_ADDR.VALID (g : Nat) (e : Nat) : Fld := ⟨ECC_CULLET_ADDR.off g e, 0, 1, 0⟩
def ECC_CULLET_ADDR.AUTO (g : Nat) (e : Nat) : Fld := ⟨ECC_CULLET_ADDR.off g e, 1, 1, 0⟩
def ECC_CULLET_ADDR.ADDR (g : Nat) (e : Nat) : Fld := ⟨ECC_CULLET_ADDR.off g e, 8, 36, 0⟩
def ECC_CULLET_POISON.off (g : Nat) (e : Nat) : Nat := 0x1104008 + 0x100 * g + 0x10 * e
def ECC_CULLET_POISON.POISON (g : Nat) (e : Nat) : Fld := ⟨ECC_CULLET_POISON.off g e, 0, 32, 0⟩
def ECC_TMR_STATUS.off : Nat := 0x1108000
def ECC_TMR_STATUS.INDEX : Fld := ⟨ECC_TMR_STATUS.off, 0, 6, 0⟩
def ECC_TMR_STATUS.DISAGREE : Fld := ⟨ECC_TMR_STATUS.off, 6, 1, 0⟩
def ECC_TMR_STATUS.CORR_SEEN : Fld := ⟨ECC_TMR_STATUS.off, 8, 1, 0⟩
def ECC_CNT_TMR.off : Nat := 0x1108004
def ECC_CNT_TMR.COUNT : Fld := ⟨ECC_CNT_TMR.off, 0, 32, 0⟩
def ECC_TEST_CTL.off : Nat := 0x1109000
def ECC_TEST_CTL.GROUP : Fld := ⟨ECC_TEST_CTL.off, 0, 5, 0⟩
def ECC_TEST_CTL.WR : Fld := ⟨ECC_TEST_CTL.off, 5, 1, 0⟩
def ECC_TEST_CTL.RD : Fld := ⟨ECC_TEST_CTL.off, 6, 1, 0⟩
def ECC_TEST_CTL.RDC : Fld := ⟨ECC_TEST_CTL.off, 7, 1, 0⟩
def ECC_TEST_CTL.ERR : Fld := ⟨ECC_TEST_CTL.off, 8, 1, 0⟩
def ECC_TEST_CTL.CLEARING : Fld := ⟨ECC_TEST_CTL.off, 9, 1, 0⟩
def ECC_TEST_ADDR.off : Nat := 0x1109008
def ECC_TEST_ADDR.ADDR : Fld := ⟨ECC_TEST_ADDR.off, 0, 36, 0⟩
def ECC_TEST_DATA.off : Nat := 0x1109010
def ECC_TEST_DATA.DATA : Fld := ⟨ECC_TEST_DATA.off, 0, 64, 0⟩
def ECC_TEST_CHECK.off : Nat := 0x1109018
def ECC_TEST_CHECK.CHECK : Fld := ⟨ECC_TEST_CHECK.off, 0, 8, 0⟩
def ECC_TEST_RESULT.off : Nat := 0x110901C
def ECC_TEST_RESULT.SYNDROME : Fld := ⟨ECC_TEST_RESULT.off, 0, 7, 0⟩
def ECC_TEST_RESULT.E : Fld := ⟨ECC_TEST_RESULT.off, 7, 1, 0⟩
def ECC_TEST_RESULT.OUTCOME : Fld := ⟨ECC_TEST_RESULT.off, 8, 2, 0⟩
def ECC_TEST_RESULT.BYTE_FAIL : Fld := ⟨ECC_TEST_RESULT.off, 16, 8, 0⟩

/-! ### 17_faults_events_recovery.md -/

def EVJ_CTL.off : Nat := 0x1400000
def EVJ_CTL.RING_EN : Fld := ⟨EVJ_CTL.off, 0, 1, 0⟩
def EVJ_CTL.IRQ_CLASS : Fld := ⟨EVJ_CTL.off, 8, 3, 2⟩
def EVJ_CTL.IRQ_THRESH : Fld := ⟨EVJ_CTL.off, 16, 16, 256⟩
def EVJ_STATUS.off : Nat := 0x1400004
def EVJ_STATUS.SAFE : Fld := ⟨EVJ_STATUS.off, 0, 1, 0⟩
def EVJ_STATUS.RING_FULL : Fld := ⟨EVJ_STATUS.off, 1, 1, 0⟩
def EVJ_STATUS.LOST_SEEN : Fld := ⟨EVJ_STATUS.off, 8, 1, 0⟩
def EVJ_STATUS.RING_ERR : Fld := ⟨EVJ_STATUS.off, 9, 1, 0⟩
def EVJ_SAFE_CAUSE.off : Nat := 0x1400008
def EVJ_SAFE_CAUSE.CODE : Fld := ⟨EVJ_SAFE_CAUSE.off, 0, 16, 0⟩
def EVJ_RING_BASE.off : Nat := 0x1400010
def EVJ_RING_BASE.ADDR : Fld := ⟨EVJ_RING_BASE.off, 0, 64, 0⟩
def EVJ_RING_SIZE.off : Nat := 0x1400018
def EVJ_RING_SIZE.SIZE : Fld := ⟨EVJ_RING_SIZE.off, 0, 23, 4096⟩
def EVJ_WR.off : Nat := 0x1400020
def EVJ_WR.COUNT : Fld := ⟨EVJ_WR.off, 0, 32, 0⟩
def EVJ_RD.off : Nat := 0x1400024
def EVJ_RD.COUNT : Fld := ⟨EVJ_RD.off, 0, 32, 0⟩
def EVJ_BUF_COUNT.off : Nat := 0x1400028
def EVJ_BUF_COUNT.COUNT : Fld := ⟨EVJ_BUF_COUNT.off, 0, 12, 0⟩
def EVJ_BUF_COUNT.HEAD : Fld := ⟨EVJ_BUF_COUNT.off, 16, 11, 0⟩
def EVJ_CNT_LOST.off : Nat := 0x1400030
def EVJ_CNT_LOST.COUNT : Fld := ⟨EVJ_CNT_LOST.off, 0, 32, 0⟩
def EVJ_SEQ.off (s : Nat) : Nat := 0x1400100 + 0x4 * s
def EVJ_SEQ.SEQ (s : Nat) : Fld := ⟨EVJ_SEQ.off s, 0, 32, 0⟩

/-! ### 18_power_clocks_reset_boot.md -/

def PWR_STATUS.off : Nat := 0x100004
def PWR_STATUS.THERMTRIP : Fld := ⟨PWR_STATUS.off, 0, 1, 0⟩
def PWR_STATUS.RST_REFUSED : Fld := ⟨PWR_STATUS.off, 8, 1, 0⟩
def PWR_STATUS.UNLOCK_SEEN : Fld := ⟨PWR_STATUS.off, 9, 1, 0⟩
def PWR_RST_CAUSE.off : Nat := 0x100008
def PWR_RST_CAUSE.POR : Fld := ⟨PWR_RST_CAUSE.off, 0, 1, 1⟩
def PWR_RST_CAUSE.CLKFAIL : Fld := ⟨PWR_RST_CAUSE.off, 1, 1, 0⟩
def PWR_RST_CAUSE.WARM : Fld := ⟨PWR_RST_CAUSE.off, 2, 1, 0⟩
def PWR_RST_CAUSE.PERST : Fld := ⟨PWR_RST_CAUSE.off, 3, 1, 0⟩
def PWR_RST_CTL.off : Nat := 0x10000C
def PWR_RST_CTL.WARM : Fld := ⟨PWR_RST_CTL.off, 0, 1, 0⟩
def PWR_UNIT_RST.off : Nat := 0x100010
def PWR_UNIT_RST.UNITS : Fld := ⟨PWR_UNIT_RST.off, 0, 32, 0⟩
def PWR_PLL_STATUS.off : Nat := 0x100020
def PWR_PLL_STATUS.PLL_OK : Fld := ⟨PWR_PLL_STATUS.off, 0, 11, 0⟩
def PWR_TJ.off : Nat := 0x100030
def PWR_TJ.TJ : Fld := ⟨PWR_TJ.off, 0, 16, 0⟩
def PWR_TJ.SENSOR : Fld := ⟨PWR_TJ.off, 16, 4, 0⟩
def PWR_SC_CTL.off (n : Nat) : Nat := 0x100040 + 0x4 * n
def PWR_SC_CTL.RST (n : Nat) : Fld := ⟨PWR_SC_CTL.off n, 0, 1, 0⟩
def PWR_SC_CTL.SLEEP (n : Nat) : Fld := ⟨PWR_SC_CTL.off n, 1, 1, 0⟩
def PWR_SC_CTL.ASLEEP (n : Nat) : Fld := ⟨PWR_SC_CTL.off n, 2, 1, 0⟩
def PWR_SC_CTL.RUNNING (n : Nat) : Fld := ⟨PWR_SC_CTL.off n, 3, 1, 0⟩
def PWR_SC_CTL.HASH_FAIL (n : Nat) : Fld := ⟨PWR_SC_CTL.off n, 4, 1, 0⟩
def PWR_BOOT_STATUS.off : Nat := 0x100080
def PWR_BOOT_STATUS.STAGE : Fld := ⟨PWR_BOOT_STATUS.off, 0, 3, 1⟩
def PWR_BOOT_STATUS.CODE : Fld := ⟨PWR_BOOT_STATUS.off, 4, 4, 0⟩
def PWR_BOOT_STATUS.SOURCE : Fld := ⟨PWR_BOOT_STATUS.off, 8, 2, 0⟩
def PWR_BOOT_STATUS.SV : Fld := ⟨PWR_BOOT_STATUS.off, 16, 8, 0⟩
def PWR_BOOT_WIN.off : Nat := 0x100084
def PWR_BOOT_WIN.PART : Fld := ⟨PWR_BOOT_WIN.off, 0, 5, 0⟩
def PWR_BOOT_PUSH.off : Nat := 0x100088
def PWR_BOOT_PUSH.LEN : Fld := ⟨PWR_BOOT_PUSH.off, 0, 25, 0⟩
def PGV_BUDGET.off : Nat := 0x1500000
def PGV_BUDGET.BUDGET : Fld := ⟨PGV_BUDGET.off, 0, 16, 480⟩
def PGV_BUDGET.FLOOR : Fld := ⟨PGV_BUDGET.off, 16, 16, 160⟩
def PGV_THERM.off : Nat := 0x1500004
def PGV_THERM.T_START : Fld := ⟨PGV_THERM.off, 0, 16, 1520⟩
def PGV_THERM.T_FLOOR : Fld := ⟨PGV_THERM.off, 16, 16, 1648⟩
def PGV_STATE.off : Nat := 0x1500008
def PGV_STATE.EFF : Fld := ⟨PGV_STATE.off, 0, 16, 480⟩
def PGV_STATE.USED : Fld := ⟨PGV_STATE.off, 16, 16, 0⟩
def PGV_STATUS.off : Nat := 0x150000C
def PGV_STATUS.THROTTLED : Fld := ⟨PGV_STATUS.off, 0, 1, 0⟩
def PGV_STATUS.WAITING : Fld := ⟨PGV_STATUS.off, 1, 1, 0⟩
def PGV_STATUS.THROTTLE_SEEN : Fld := ⟨PGV_STATUS.off, 8, 1, 0⟩
def PGV_CNT_WAIT.off : Nat := 0x1500010
def PGV_CNT_WAIT.COUNT : Fld := ⟨PGV_CNT_WAIT.off, 0, 32, 0⟩
def PGV_CNT_OVERSIZE.off : Nat := 0x1500014
def PGV_CNT_OVERSIZE.COUNT : Fld := ⟨PGV_CNT_OVERSIZE.off, 0, 32, 0⟩

/-! ### The table -/

def regRows03a : List RegRow :=
  [ ⟨"DCP_CTL", 0x501000, 0x40, 4, 0x1, 1, 4, fun n _ =>
      [(DCP_CTL.OWNER n, .rw), (DCP_CTL.ZLIB n, .rw), (DCP_CTL.START n, .w1s), (DCP_CTL.RESUME n, .w1s), (DCP_CTL.ABORT n, .w1s)]⟩,
    ⟨"DCP_STATUS", 0x501004, 0x40, 4, 0x1, 1, 4, fun n _ =>
      [(DCP_STATUS.STATE n, .ro), (DCP_STATUS.ERR n, .ro), (DCP_STATUS.IN_BITS n, .ro)]⟩,
    ⟨"DCP_IN_ADDR", 0x501008, 0x40, 4, 0x1, 1, 8, fun n _ =>
      [(DCP_IN_ADDR.ADDR n, .rw)]⟩,
    ⟨"DCP_IN_LEN", 0x501010, 0x40, 4, 0x1, 1, 4, fun n _ =>
      [(DCP_IN_LEN.LEN n, .rw)]⟩,
    ⟨"DCP_OUT_ADDR", 0x501018, 0x40, 4, 0x1, 1, 8, fun n _ =>
      [(DCP_OUT_ADDR.ADDR n, .rw)]⟩,
    ⟨"DCP_OUT_LEN", 0x501020, 0x40, 4, 0x1, 1, 4, fun n _ =>
      [(DCP_OUT_LEN.LEN n, .rw)]⟩,
    ⟨"DCP_OUT_LIMIT", 0x501024, 0x40, 4, 0x1, 1, 4, fun n _ =>
      [(DCP_OUT_LIMIT.LIMIT n, .rw)]⟩,
    ⟨"DCP_IN_CONSUMED", 0x501028, 0x40, 4, 0x1, 1, 4, fun n _ =>
      [(DCP_IN_CONSUMED.COUNT n, .ro)]⟩,
    ⟨"DCP_OUT_PRODUCED", 0x50102C, 0x40, 4, 0x1, 1, 4, fun n _ =>
      [(DCP_OUT_PRODUCED.COUNT n, .ro)]⟩,
    ⟨"GTH_CTL", 0x600000, 0x1, 1, 0x1, 1, 4, fun _ _ =>
      [(GTH_CTL.ENABLE, .rw), (GTH_CTL.SLOTS, .rw), (GTH_CTL.RETRY_MAX, .rw)]⟩,
    ⟨"GTH_REGION_BASE", 0x600008, 0x1, 1, 0x1, 1, 8, fun _ _ =>
      [(GTH_REGION_BASE.BASE, .rw)]⟩,
    ⟨"GTH_POOL_PAGES", 0x600010, 0x1, 1, 0x1, 1, 4, fun _ _ =>
      [(GTH_POOL_PAGES.PAGES, .rw)]⟩,
    ⟨"GTH_FREE_PAGES", 0x600014, 0x1, 1, 0x1, 1, 4, fun _ _ =>
      [(GTH_FREE_PAGES.FREE, .ro)]⟩,
    ⟨"GTH_COLD_RESERVE", 0x600018, 0x1, 1, 0x1, 1, 4, fun _ _ =>
      [(GTH_COLD_RESERVE.PAGES, .rw)]⟩,
    ⟨"GTH_STATUS", 0x600020, 0x1, 1, 0x1, 1, 4, fun _ _ =>
      [(GTH_STATUS.PAGE_RETRY, .w1c), (GTH_STATUS.SEG_RETRY, .w1c), (GTH_STATUS.REVOKED, .w1c), (GTH_STATUS.SPACE_WAIT, .w1c)]⟩,
    ⟨"GTH_CTX_CFG", 0x600100, 0x10, 2, 0x1, 1, 4, fun c _ =>
      [(GTH_CTX_CFG.OPEN c, .rw), (GTH_CTX_CFG.ZLIB c, .rw)]⟩,
    ⟨"GTH_CTX_LIMIT", 0x600104, 0x10, 2, 0x1, 1, 4, fun c _ =>
      [(GTH_CTX_LIMIT.LIMIT c, .rw)]⟩,
    ⟨"GTH_PIN", 0x600030, 0x1, 1, 0x1, 1, 4, fun _ _ =>
      [(GTH_PIN.ID, .wo), (GTH_PIN.CTX, .wo), (GTH_PIN.SET, .wo)]⟩,
    ⟨"GTH_CNT_MISS", 0x600040, 0x1, 1, 0x1, 1, 4, fun _ _ =>
      [(GTH_CNT_MISS.COUNT, .rc)]⟩,
    ⟨"GTH_CNT_FETCH", 0x600044, 0x1, 1, 0x1, 1, 4, fun _ _ =>
      [(GTH_CNT_FETCH.COUNT, .rc)]⟩ ]

def regRows03b : List RegRow :=
  [ ⟨"GTH_CNT_EVICT", 0x600048, 0x1, 1, 0x1, 1, 4, fun _ _ =>
      [(GTH_CNT_EVICT.COUNT, .rc)]⟩,
    ⟨"GTH_CNT_PAGEFAIL", 0x60004C, 0x1, 1, 0x1, 1, 4, fun _ _ =>
      [(GTH_CNT_PAGEFAIL.COUNT, .rc)]⟩,
    ⟨"BLP_CTL", 0x700000, 0x1, 1, 0x1, 1, 4, fun _ _ =>
      [(BLP_CTL.ENABLE, .rw), (BLP_CTL.ENGINE_EN, .rw)]⟩,
    ⟨"BLP_STATUS", 0x700004, 0x1, 1, 0x1, 1, 4, fun _ _ =>
      [(BLP_STATUS.BUSY, .ro), (BLP_STATUS.WAIT_CELL, .ro), (BLP_STATUS.WAIT_QUEUE, .ro)]⟩,
    ⟨"BLP_SEQ_RASTER", 0x700008, 0x1, 1, 0x1, 1, 4, fun _ _ =>
      [(BLP_SEQ_RASTER.SEQ, .ro)]⟩,
    ⟨"BLP_SEQ_DENSITY", 0x70000C, 0x1, 1, 0x1, 1, 4, fun _ _ =>
      [(BLP_SEQ_DENSITY.SEQ, .ro)]⟩,
    ⟨"BLP_MAXDEPTH", 0x700010, 0x1, 1, 0x1, 1, 4, fun _ _ =>
      [(BLP_MAXDEPTH.LEVEL, .rc)]⟩,
    ⟨"BLP_CNT_TRAP", 0x700020, 0x1, 1, 0x1, 1, 4, fun _ _ =>
      [(BLP_CNT_TRAP.COUNT, .rc)]⟩,
    ⟨"BLP_CNT_CULL", 0x700024, 0x1, 1, 0x1, 1, 4, fun _ _ =>
      [(BLP_CNT_CULL.COUNT, .rc)]⟩,
    ⟨"BLP_TS_MASK", 0x700100, 0x1, 1, 0x1, 1, 4, fun _ _ =>
      [(BLP_TS_MASK.MASK, .rw)]⟩,
    ⟨"BLP_TS_STATUS", 0x700104, 0x1, 1, 0x1, 1, 4, fun _ _ =>
      [(BLP_TS_STATUS.FREE_BLOCKS, .ro), (BLP_TS_STATUS.IN_FLIGHT, .ro)]⟩,
    ⟨"BLP_TS_CNT_EMPTY", 0x700108, 0x1, 1, 0x1, 1, 4, fun _ _ =>
      [(BLP_TS_CNT_EMPTY.COUNT, .rc)]⟩ ]

def regRows04a : List RegRow :=
  [ ⟨"MRV_CTL", 0x800000, 0x1, 1, 0x1, 1, 4, fun _ _ =>
      [(MRV_CTL.ENABLE, .rw)]⟩,
    ⟨"MRV_OVL_THRESH", 0x800004, 0x1, 1, 0x1, 1, 4, fun _ _ =>
      [(MRV_OVL_THRESH.UNITS, .rw)]⟩,
    ⟨"MRV_LEAVE", 0x800008, 0x1, 1, 0x1, 1, 4, fun _ _ =>
      [(MRV_LEAVE.UNITS, .rw)]⟩,
    ⟨"MRV_STATUS", 0x80000C, 0x1, 1, 0x1, 1, 4, fun _ _ =>
      [(MRV_STATUS.CLAMP_SEEN, .w1c), (MRV_STATUS.OVER_SEEN, .w1c), (MRV_STATUS.LEAVE_WAIT, .w1c)]⟩,
    ⟨"MRV_BUSY", 0x800010, 0x1, 1, 0x1, 1, 4, fun _ _ =>
      [(MRV_BUSY.BUSY, .ro)]⟩,
    ⟨"MRV_CNT_TILE", 0x800020, 0x1, 1, 0x1, 1, 4, fun _ _ =>
      [(MRV_CNT_TILE.COUNT, .rc)]⟩,
    ⟨"MRV_CNT_EDGE", 0x800024, 0x1, 1, 0x1, 1, 4, fun _ _ =>
      [(MRV_CNT_EDGE.COUNT, .rc)]⟩,
    ⟨"MRV_CNT_FILL", 0x800028, 0x1, 1, 0x1, 1, 4, fun _ _ =>
      [(MRV_CNT_FILL.COUNT, .rc)]⟩,
    ⟨"MRV_CNT_CLAMP", 0x80002C, 0x1, 1, 0x1, 1, 4, fun _ _ =>
      [(MRV_CNT_CLAMP.COUNT, .rc)]⟩,
    ⟨"MRV_CNT_OVER", 0x800030, 0x1, 1, 0x1, 1, 4, fun _ _ =>
      [(MRV_CNT_OVER.COUNT, .rc)]⟩,
    ⟨"MRV_CNT_LEAVE_WAIT", 0x800034, 0x1, 1, 0x1, 1, 4, fun _ _ =>
      [(MRV_CNT_LEAVE_WAIT.COUNT, .rc)]⟩,
    ⟨"MRV_ENG_STATUS", 0x801000, 0x10, 32, 0x1, 1, 4, fun e _ =>
      [(MRV_ENG_STATUS.SLOT0 e, .ro), (MRV_ENG_STATUS.SLOT1 e, .ro), (MRV_ENG_STATUS.CURRENT e, .ro), (MRV_ENG_STATUS.RECORDS e, .ro)]⟩ ]

def regRows05a : List RegRow :=
  [ ⟨"GLY_CTL", 0x900000, 0x1, 1, 0x1, 1, 4, fun _ _ =>
      [(GLY_CTL.ENABLE, .rw), (GLY_CTL.ITER, .sh), (GLY_CTL.FOG_EN, .sh)]⟩,
    ⟨"GLY_STATUS", 0x900004, 0x1, 1, 0x1, 1, 4, fun _ _ =>
      [(GLY_STATUS.CFG_ERR, .ro), (GLY_STATUS.CFG_CAUSE, .ro), (GLY_STATUS.SAT_SEEN, .w1c), (GLY_STATUS.DSAT_SEEN, .w1c), (GLY_STATUS.LEAVE_WAIT, .w1c)]⟩,
    ⟨"GLY_WINDOW", 0x900008, 0x1, 1, 0x1, 1, 4, fun _ _ =>
      [(GLY_WINDOW.LOOKAHEAD, .sh), (GLY_WINDOW.MARGIN, .sh)]⟩,
    ⟨"GLY_NORM", 0x90000C, 0x1, 1, 0x1, 1, 4, fun _ _ =>
      [(GLY_NORM.NORM, .sh)]⟩,
    ⟨"GLY_LEAVE", 0x900010, 0x1, 1, 0x1, 1, 4, fun _ _ =>
      [(GLY_LEAVE.COARSE, .rw), (GLY_LEAVE.PIXEL, .rw)]⟩,
    ⟨"GLY_REGION_BASE", 0x900018, 0x1, 1, 0x1, 1, 8, fun _ _ =>
      [(GLY_REGION_BASE.BASE, .rw)]⟩,
    ⟨"GLY_REGION_SIZE", 0x900020, 0x1, 1, 0x1, 1, 4, fun _ _ =>
      [(GLY_REGION_SIZE.SIZE, .rw)]⟩,
    ⟨"GLY_KERNEL_CTL", 0x900040, 0x1, 1, 0x1, 1, 4, fun _ _ =>
      [(GLY_KERNEL_CTL.TERMS, .sh), (GLY_KERNEL_CTL.RADIUS, .sh)]⟩,
    ⟨"GLY_ETA", 0x900050, 0x4, 4, 0x1, 1, 4, fun k _ =>
      [(GLY_ETA.ETA k, .sh)]⟩,
    ⟨"GLY_FOG_BASE", 0x900060, 0x1, 1, 0x1, 1, 8, fun _ _ =>
      [(GLY_FOG_BASE.ADDR, .sh)]⟩,
    ⟨"GLY_FOG_ORG_X", 0x900068, 0x1, 1, 0x1, 1, 4, fun _ _ =>
      [(GLY_FOG_ORG_X.FOX, .sh)]⟩,
    ⟨"GLY_FOG_ORG_Y", 0x90006C, 0x1, 1, 0x1, 1, 4, fun _ _ =>
      [(GLY_FOG_ORG_Y.FOY, .sh)]⟩,
    ⟨"GLY_FOG_GEOM", 0x900070, 0x1, 1, 0x1, 1, 4, fun _ _ =>
      [(GLY_FOG_GEOM.SHIFT, .sh), (GLY_FOG_GEOM.FW, .sh), (GLY_FOG_GEOM.FH, .sh)]⟩,
    ⟨"GLY_CNT_SAT", 0x900080, 0x1, 1, 0x1, 1, 4, fun _ _ =>
      [(GLY_CNT_SAT.COUNT, .rc)]⟩,
    ⟨"GLY_CNT_DSAT", 0x900084, 0x1, 1, 0x1, 1, 4, fun _ _ =>
      [(GLY_CNT_DSAT.COUNT, .rc)]⟩,
    ⟨"GLY_CNT_LEAVE_WAIT", 0x900088, 0x1, 1, 0x1, 1, 4, fun _ _ =>
      [(GLY_CNT_LEAVE_WAIT.COUNT, .rc)]⟩,
    ⟨"GLY_SEQ_RELEASED", 0x900090, 0x1, 1, 0x1, 1, 4, fun _ _ =>
      [(GLY_SEQ_RELEASED.SEQ, .ro)]⟩,
    ⟨"GLY_TAP", 0x901000, 0x80, 4, 0x4, 17, 4, fun k d =>
      [(GLY_TAP.W k d, .sh)]⟩,
    ⟨"GLY_BASE_DOSE", 0x902000, 0x4, 256, 0x1, 1, 4, fun c _ =>
      [(GLY_BASE_DOSE.DOSE c, .sh)]⟩,
    ⟨"GLY_CURVE", 0x904000, 0x4, 4096, 0x1, 1, 4, fun d _ =>
      [(GLY_CURVE.OUT d, .sh)]⟩ ]

def regRows06a : List RegRow :=
  [ ⟨"BMP_STATUS", 0xA00004, 0x1, 1, 0x1, 1, 4, fun _ _ =>
      [(BMP_STATUS.FILL_BUSY, .ro), (BMP_STATUS.CHECK_BUSY, .ro), (BMP_STATUS.CC_BUSY, .ro), (BMP_STATUS.FILL_ERR, .ro), (BMP_STATUS.LIVE_WRITE, .w1c), (BMP_STATUS.TEMP_STALE, .w1c), (BMP_STATUS.TEMP_RANGE, .w1c), (BMP_STATUS.TEMP_INVALID, .w1c)]⟩,
    ⟨"BMP_REGION_BASE", 0xA00008, 0x1, 1, 0x1, 1, 8, fun _ _ =>
      [(BMP_REGION_BASE.BASE, .rw)]⟩,
    ⟨"BMP_GEOM", 0xA00010, 0x1, 1, 0x1, 1, 4, fun _ _ =>
      [(BMP_GEOM.LOG2N, .sh)]⟩,
    ⟨"BMP_SEL", 0xA00014, 0x1, 1, 0x1, 1, 4, fun _ _ =>
      [(BMP_SEL.MAP_BANK, .sh), (BMP_SEL.SETS, .sh)]⟩,
    ⟨"BMP_SET", 0xA00020, 0x4, 8, 0x1, 1, 4, fun k _ =>
      [(BMP_SET.SLOT k, .sh), (BMP_SET.TEMP k, .sh)]⟩,
    ⟨"BMP_TEMP_CTL", 0xA00040, 0x1, 1, 0x1, 1, 4, fun _ _ =>
      [(BMP_TEMP_CTL.SENSOR_MASK, .rw), (BMP_TEMP_CTL.MAX_AGE, .rw)]⟩,
    ⟨"BMP_TEMP_NOW", 0xA00044, 0x1, 1, 0x1, 1, 4, fun _ _ =>
      [(BMP_TEMP_NOW.T, .ro), (BMP_TEMP_NOW.AGE, .ro)]⟩,
    ⟨"BMP_GEN_TEMP", 0xA00048, 0x1, 1, 0x1, 1, 4, fun _ _ =>
      [(BMP_GEN_TEMP.T, .ro), (BMP_GEN_TEMP.F, .ro)]⟩,
    ⟨"BMP_GEN_SETS", 0xA0004C, 0x1, 1, 0x1, 1, 4, fun _ _ =>
      [(BMP_GEN_SETS.K, .ro), (BMP_GEN_SETS.SLOT_LO, .ro), (BMP_GEN_SETS.SLOT_HI, .ro), (BMP_GEN_SETS.MAP_BANK, .ro)]⟩,
    ⟨"BMP_CHECK", 0xA00050, 0x1, 1, 0x1, 1, 4, fun _ _ =>
      [(BMP_CHECK.START, .w1s), (BMP_CHECK.BANK, .rw)]⟩,
    ⟨"BMP_CHECK_RESULT", 0xA00054, 0x1, 1, 0x1, 1, 4, fun _ _ =>
      [(BMP_CHECK_RESULT.CAUSE, .ro), (BMP_CHECK_RESULT.DONE, .ro), (BMP_CHECK_RESULT.BEAM, .ro)]⟩,
    ⟨"BMP_CHECK_ROWS", 0xA00058, 0x1, 1, 0x1, 1, 4, fun _ _ =>
      [(BMP_CHECK_ROWS.DEAD_ROWS, .ro), (BMP_CHECK_ROWS.MIN_OK, .ro)]⟩,
    ⟨"BMP_CC_CTL", 0xA00060, 0x1, 1, 0x1, 1, 4, fun _ _ =>
      [(BMP_CC_CTL.ACT_RLO, .rw), (BMP_CC_CTL.ACT_RHI, .rw), (BMP_CC_CTL.ACT_LEAK, .rw), (BMP_CC_CTL.ACT_MISS, .rw), (BMP_CC_CTL.RESTORE, .rw), (BMP_CC_CTL.GLOBAL, .rw), (BMP_CC_CTL.TIMEOUT, .rw)]⟩,
    ⟨"BMP_CC_GWIN", 0xA00064, 0x1, 1, 0x1, 1, 4, fun _ _ =>
      [(BMP_CC_GWIN.RLO, .rw), (BMP_CC_GWIN.RHI, .rw)]⟩,
    ⟨"BMP_CC_GWIN_LEAK", 0xA00068, 0x1, 1, 0x1, 1, 4, fun _ _ =>
      [(BMP_CC_GWIN_LEAK.LHI, .rw)]⟩,
    ⟨"BMP_CC_STATUS", 0xA00070, 0x1, 1, 0x1, 1, 4, fun _ _ =>
      [(BMP_CC_STATUS.STATE, .ro), (BMP_CC_STATUS.SRC_BANK, .ro)]⟩,
    ⟨"BMP_CC_FAIL", 0xA00074, 0x1, 1, 0x1, 1, 4, fun _ _ =>
      [(BMP_CC_FAIL.COUNT, .ro)]⟩,
    ⟨"BMP_CC_PROP", 0xA00078, 0x1, 1, 0x1, 1, 4, fun _ _ =>
      [(BMP_CC_PROP.COUNT, .ro)]⟩,
    ⟨"BMP_CC_MISS", 0xA0007C, 0x1, 1, 0x1, 1, 4, fun _ _ =>
      [(BMP_CC_MISS.COUNT, .ro)]⟩,
    ⟨"BMP_CC_ACCEPT", 0xA00080, 0x1, 1, 0x1, 1, 4, fun _ _ =>
      [(BMP_CC_ACCEPT.START, .w1s), (BMP_CC_ACCEPT.DST, .rw), (BMP_CC_ACCEPT.TAKE_EXCL, .rw), (BMP_CC_ACCEPT.TAKE_STUCK, .rw), (BMP_CC_ACCEPT.TAKE_RESTORE, .rw), (BMP_CC_ACCEPT.DONE, .ro), (BMP_CC_ACCEPT.ERR, .ro)]⟩ ]

def regRows07a : List RegRow :=
  [ ⟨"PAR_CTL", 0xB00000, 0x1, 1, 0x1, 1, 4, fun _ _ =>
      [(PAR_CTL.ENABLE, .rw), (PAR_CTL.UNC_HALT, .sh)]⟩,
    ⟨"PAR_STATUS", 0xB00004, 0x1, 1, 0x1, 1, 4, fun _ _ =>
      [(PAR_STATUS.CFG_ERR, .ro), (PAR_STATUS.HOLD, .ro), (PAR_STATUS.CFG_CAUSE, .ro), (PAR_STATUS.UNC_SEEN, .w1c), (PAR_STATUS.LSAT_SEEN, .w1c), (PAR_STATUS.LEAVE_WAIT, .w1c)]⟩,
    ⟨"PAR_PLANES", 0xB00008, 0x1, 1, 0x1, 1, 4, fun _ _ =>
      [(PAR_PLANES.P, .sh)]⟩,
    ⟨"PAR_LNOM", 0xB0000C, 0x1, 1, 0x1, 1, 4, fun _ _ =>
      [(PAR_LNOM.LNOM, .sh)]⟩,
    ⟨"PAR_TOL", 0xB00010, 0x1, 1, 0x1, 1, 4, fun _ _ =>
      [(PAR_TOL.TOL, .sh)]⟩,
    ⟨"PAR_LEAVE", 0xB00014, 0x1, 1, 0x1, 1, 4, fun _ _ =>
      [(PAR_LEAVE.UNITS, .rw)]⟩,
    ⟨"PAR_RING_BASE", 0xB00018, 0x1, 1, 0x1, 1, 8, fun _ _ =>
      [(PAR_RING_BASE.BASE, .rw)]⟩,
    ⟨"PAR_RING_CFG", 0xB0002C, 0x1, 1, 0x1, 1, 4, fun _ _ =>
      [(PAR_RING_CFG.WIDE, .rw)]⟩,
    ⟨"PAR_COL_DONE", 0xB00020, 0x1, 1, 0x1, 1, 4, fun _ _ =>
      [(PAR_COL_DONE.COL, .ro)]⟩,
    ⟨"PAR_STRIPE", 0xB00024, 0x1, 1, 0x1, 1, 4, fun _ _ =>
      [(PAR_STRIPE.STRIPE, .ro)]⟩,
    ⟨"PAR_RING_POS", 0xB00028, 0x1, 1, 0x1, 1, 4, fun _ _ =>
      [(PAR_RING_POS.BASE_POS, .ro), (PAR_RING_POS.OLDEST, .ro)]⟩,
    ⟨"PAR_UNC_FIRST_X", 0xB00030, 0x1, 1, 0x1, 1, 4, fun _ _ =>
      [(PAR_UNC_FIRST_X.X, .ro)]⟩,
    ⟨"PAR_UNC_FIRST_Y", 0xB00034, 0x1, 1, 0x1, 1, 4, fun _ _ =>
      [(PAR_UNC_FIRST_Y.Y, .ro), (PAR_UNC_FIRST_Y.VALID, .ro)]⟩,
    ⟨"PAR_UNC_LOG_HEAD", 0xB00038, 0x1, 1, 0x1, 1, 4, fun _ _ =>
      [(PAR_UNC_LOG_HEAD.NEXT, .ro)]⟩,
    ⟨"PAR_CNT_UNC", 0xB00040, 0x1, 1, 0x1, 1, 4, fun _ _ =>
      [(PAR_CNT_UNC.COUNT, .rc)]⟩,
    ⟨"PAR_CNT_LSAT", 0xB00044, 0x1, 1, 0x1, 1, 4, fun _ _ =>
      [(PAR_CNT_LSAT.COUNT, .rc)]⟩,
    ⟨"PAR_CNT_HOLD", 0xB00048, 0x1, 1, 0x1, 1, 4, fun _ _ =>
      [(PAR_CNT_HOLD.COUNT, .rc)]⟩,
    ⟨"PAR_CNT_LEAVE_WAIT", 0xB0004C, 0x1, 1, 0x1, 1, 4, fun _ _ =>
      [(PAR_CNT_LEAVE_WAIT.COUNT, .rc)]⟩,
    ⟨"PAR_CNT_BLOCK", 0xB00050, 0x1, 1, 0x1, 1, 4, fun _ _ =>
      [(PAR_CNT_BLOCK.COUNT, .rc)]⟩,
    ⟨"PAR_PLANE_WEIGHT", 0xB00080, 0x4, 12, 0x1, 1, 4, fun k _ =>
      [(PAR_PLANE_WEIGHT.W k, .sh)]⟩ ]

def regRows07b : List RegRow :=
  [ ⟨"PAR_UNC_LOG", 0xB00100, 0x8, 64, 0x1, 1, 8, fun n _ =>
      [(PAR_UNC_LOG.X n, .ro), (PAR_UNC_LOG.Y n, .ro), (PAR_UNC_LOG.STRIPE n, .ro)]⟩ ]

def regRows08a : List RegRow :=
  [ ⟨"LEH_CTL", 0xC00000, 0x1, 1, 0x1, 1, 4, fun _ _ =>
      [(LEH_CTL.ENABLE, .rw)]⟩,
    ⟨"LEH_STATUS", 0xC00004, 0x1, 1, 0x1, 1, 4, fun _ _ =>
      [(LEH_STATUS.LOADING, .ro), (LEH_STATUS.SERVING, .ro), (LEH_STATUS.REREAD_SEEN, .w1c)]⟩,
    ⟨"LEH_CHUNK", 0xC00008, 0x1, 1, 0x1, 1, 4, fun _ _ =>
      [(LEH_CHUNK.CHUNK, .ro)]⟩,
    ⟨"LEH_CNT_REREAD", 0xC00010, 0x1, 1, 0x1, 1, 4, fun _ _ =>
      [(LEH_CNT_REREAD.COUNT, .rc)]⟩,
    ⟨"PUN_CTL", 0xC01000, 0x1, 1, 0x1, 1, 4, fun _ _ =>
      [(PUN_CTL.ENABLE, .rw), (PUN_CTL.ACK_TMO, .rw), (PUN_CTL.TRAIN_LEAVE, .rw)]⟩,
    ⟨"PUN_STATUS", 0xC01004, 0x1, 1, 0x1, 1, 4, fun _ _ =>
      [(PUN_STATUS.REPLAY_SEEN, .w1c), (PUN_STATUS.TMO_SEEN, .w1c), (PUN_STATUS.RETBAD_SEEN, .w1c), (PUN_STATUS.DOWN_SEEN, .w1c), (PUN_STATUS.LIMIT_SEEN, .w1c)]⟩,
    ⟨"PUN_CNT_NAK", 0xC01010, 0x1, 1, 0x1, 1, 4, fun _ _ =>
      [(PUN_CNT_NAK.COUNT, .rc)]⟩,
    ⟨"PUN_CNT_TMO", 0xC01014, 0x1, 1, 0x1, 1, 4, fun _ _ =>
      [(PUN_CNT_TMO.COUNT, .rc)]⟩,
    ⟨"PUN_CNT_REPLAY", 0xC01018, 0x1, 1, 0x1, 1, 4, fun _ _ =>
      [(PUN_CNT_REPLAY.COUNT, .rc)]⟩,
    ⟨"PUN_CNT_RETBAD", 0xC0101C, 0x1, 1, 0x1, 1, 4, fun _ _ =>
      [(PUN_CNT_RETBAD.COUNT, .rc)]⟩,
    ⟨"PUN_CNT_STRAY", 0xC01020, 0x1, 1, 0x1, 1, 4, fun _ _ =>
      [(PUN_CNT_STRAY.COUNT, .rc)]⟩,
    ⟨"PUN_KS_CTL", 0xC01040, 0x1, 1, 0x1, 1, 4, fun _ _ =>
      [(PUN_KS_CTL.EN, .sh), (PUN_KS_CTL.SLOT, .sh), (PUN_KS_CTL.KEY_VALID, .ro)]⟩,
    ⟨"PUN_KS_NONCE", 0xC01048, 0x1, 1, 0x1, 1, 8, fun _ _ =>
      [(PUN_KS_NONCE.NONCE, .sh)]⟩,
    ⟨"PUN_GROUP_CFG", 0xC01100, 0x4, 8, 0x1, 1, 4, fun g _ =>
      [(PUN_GROUP_CFG.REACH g, .rw), (PUN_GROUP_CFG.BOARD_ID g, .rw)]⟩,
    ⟨"PUN_LANE_STATE", 0xC01200, 0x4, 72, 0x1, 1, 4, fun l _ =>
      [(PUN_LANE_STATE.STATE l, .ro), (PUN_LANE_STATE.AT_LIMIT l, .ro), (PUN_LANE_STATE.CAUSE l, .ro)]⟩,
    ⟨"PUN_TAP", 0xC01400, 0x4, 64, 0x1, 1, 4, fun l _ =>
      [(PUN_TAP.PRE l, .rw), (PUN_TAP.MAIN l, .rw), (PUN_TAP.POST l, .rw)]⟩,
    ⟨"PUN_PRBS_CTL", 0xC01600, 0x8, 72, 0x1, 1, 4, fun l _ =>
      [(PUN_PRBS_CTL.GEN_EN l, .rw), (PUN_PRBS_CTL.CHK_EN l, .rw), (PUN_PRBS_CTL.PATTERN l, .rw), (PUN_PRBS_CTL.LOOP l, .rw), (PUN_PRBS_CTL.INJ l, .w1s), (PUN_PRBS_CTL.RATE l, .rw), (PUN_PRBS_CTL.SYNC l, .ro)]⟩,
    ⟨"PUN_PRBS_ERR", 0xC01604, 0x8, 72, 0x1, 1, 4, fun l _ =>
      [(PUN_PRBS_ERR.COUNT l, .rc)]⟩,
    ⟨"FLS_STB_CTL", 0xE00F00, 0x1, 1, 0x1, 1, 4, fun _ _ =>
      [(FLS_STB_CTL.GAP, .sh), (FLS_STB_CTL.MIRROR_EN, .sh)]⟩,
    ⟨"FLS_STB_WIDTH", 0xE00F40, 0x4, 12, 0x1, 1, 4, fun k _ =>
      [(FLS_STB_WIDTH.W k, .sh)]⟩ ]

def regRows09a : List RegRow :=
  [ ⟨"SFB_CTL", 0xD00000, 0x1, 1, 0x1, 1, 4, fun _ _ =>
      [(SFB_CTL.ENABLE, .rw)]⟩,
    ⟨"SFB_STATUS", 0xD00004, 0x1, 1, 0x1, 1, 4, fun _ _ =>
      [(SFB_STATUS.LOST_SEEN, .w1c), (SFB_STATUS.DEV_SEEN, .w1c), (SFB_STATUS.MISS_SEEN, .w1c), (SFB_STATUS.OVR_SEEN, .w1c)]⟩,
    ⟨"SFB_AXIS_CFG", 0xD00100, 0x40, 2, 0x1, 1, 4, fun a _ =>
      [(SFB_AXIS_CFG.SRC a, .sh), (SFB_AXIS_CFG.CHK_SRC a, .sh), (SFB_AXIS_CFG.CHK_EN a, .sh)]⟩,
    ⟨"SFB_AXIS_SCALE", 0xD00108, 0x40, 2, 0x1, 1, 8, fun a _ =>
      [(SFB_AXIS_SCALE.SCALE a, .sh)]⟩,
    ⟨"SFB_AXIS_OFFSET", 0xD00110, 0x40, 2, 0x1, 1, 8, fun a _ =>
      [(SFB_AXIS_OFFSET.OFFSET a, .sh)]⟩,
    ⟨"SFB_AXIS_CHK_SCALE", 0xD00118, 0x40, 2, 0x1, 1, 8, fun a _ =>
      [(SFB_AXIS_CHK_SCALE.SCALE a, .sh)]⟩,
    ⟨"SFB_AXIS_CHK_OFFSET", 0xD00120, 0x40, 2, 0x1, 1, 8, fun a _ =>
      [(SFB_AXIS_CHK_OFFSET.OFFSET a, .sh)]⟩,
    ⟨"SFB_AXIS_CHK_TOL", 0xD00128, 0x40, 2, 0x1, 1, 4, fun a _ =>
      [(SFB_AXIS_CHK_TOL.TOL a, .sh)]⟩,
    ⟨"SFB_AXIS_POS", 0xD00130, 0x40, 2, 0x1, 1, 8, fun a _ =>
      [(SFB_AXIS_POS.POS a, .ro)]⟩,
    ⟨"SFB_AXIS_SPEED", 0xD00138, 0x40, 2, 0x1, 1, 8, fun a _ =>
      [(SFB_AXIS_SPEED.SPEED a, .ro), (SFB_AXIS_SPEED.FLAGS a, .ro)]⟩,
    ⟨"SFB_CH_CFG", 0xD01000, 0x80, 18, 0x1, 1, 4, fun n _ =>
      [(SFB_CH_CFG.EN n, .rw), (SFB_CH_CFG.DIR_INV n, .rw), (SFB_CH_CFG.IDX_EN n, .rw), (SFB_CH_CFG.IDX_EDGE n, .rw), (SFB_CH_CFG.FILT n, .rw), (SFB_CH_CFG.SPD_SHIFT n, .rw), (SFB_CH_CFG.REARM n, .w1s)]⟩,
    ⟨"SFB_CH_STATUS", 0xD01004, 0x80, 18, 0x1, 1, 4, fun n _ =>
      [(SFB_CH_STATUS.POS_VALID n, .ro), (SFB_CH_STATUS.STANDSTILL n, .ro), (SFB_CH_STATUS.REF_LOST n, .w1c), (SFB_CH_STATUS.FAULT n, .w1c), (SFB_CH_STATUS.CAUSE n, .ro), (SFB_CH_STATUS.IDX_SEEN n, .w1c), (SFB_CH_STATUS.DRIFT n, .w1c)]⟩,
    ⟨"SFB_CH_POS", 0xD01008, 0x80, 18, 0x1, 1, 8, fun n _ =>
      [(SFB_CH_POS.POS n, .ro)]⟩,
    ⟨"SFB_CH_STAMP", 0xD01010, 0x80, 18, 0x1, 1, 8, fun n _ =>
      [(SFB_CH_STAMP.NS n, .ro)]⟩,
    ⟨"SFB_CH_SPEED", 0xD01018, 0x80, 18, 0x1, 1, 8, fun n _ =>
      [(SFB_CH_SPEED.SPEED n, .ro), (SFB_CH_SPEED.DIR n, .ro), (SFB_CH_SPEED.ESTIMATE n, .ro), (SFB_CH_SPEED.STANDSTILL n, .ro)]⟩,
    ⟨"SFB_CH_SPD_CFG", 0xD01020, 0x80, 18, 0x1, 1, 4, fun n _ =>
      [(SFB_CH_SPD_CFG.WIN n, .rw), (SFB_CH_SPD_CFG.STANDSTILL n, .rw)]⟩,
    ⟨"SFB_CH_AMAX", 0xD01024, 0x80, 18, 0x1, 1, 4, fun n _ =>
      [(SFB_CH_AMAX.AMAX n, .rw)]⟩,
    ⟨"SFB_CH_IDX_POS", 0xD01028, 0x80, 18, 0x1, 1, 8, fun n _ =>
      [(SFB_CH_IDX_POS.POS n, .ro)]⟩,
    ⟨"SFB_CH_IDX_STAMP", 0xD01030, 0x80, 18, 0x1, 1, 8, fun n _ =>
      [(SFB_CH_IDX_STAMP.NS n, .ro)]⟩,
    ⟨"SFB_CH_IDX_PITCH", 0xD01038, 0x80, 18, 0x1, 1, 4, fun n _ =>
      [(SFB_CH_IDX_PITCH.PITCH n, .rw)]⟩ ]

def regRows09b : List RegRow :=
  [ ⟨"SFB_CH_IDX_TOL", 0xD0103C, 0x80, 18, 0x1, 1, 4, fun n _ =>
      [(SFB_CH_IDX_TOL.TOL n, .rw), (SFB_CH_IDX_TOL.REF_CLR n, .w1s)]⟩,
    ⟨"SFB_AE_CORR", 0xD01040, 0x80, 4, 0x1, 1, 4, fun n _ =>
      [(SFB_AE_CORR.OFF_S n, .rw), (SFB_AE_CORR.OFF_C n, .rw)]⟩,
    ⟨"SFB_AE_GAIN", 0xD01044, 0x80, 4, 0x1, 1, 4, fun n _ =>
      [(SFB_AE_GAIN.GAIN_C n, .rw)]⟩,
    ⟨"SFB_AE_AMP_LO", 0xD01048, 0x80, 4, 0x1, 1, 4, fun n _ =>
      [(SFB_AE_AMP_LO.A2 n, .rw)]⟩,
    ⟨"SFB_AE_AMP_HI", 0xD0104C, 0x80, 4, 0x1, 1, 4, fun n _ =>
      [(SFB_AE_AMP_HI.A2 n, .rw)]⟩,
    ⟨"SFB_AE_RAW", 0xD01050, 0x80, 4, 0x1, 1, 4, fun n _ =>
      [(SFB_AE_RAW.SIN n, .ro), (SFB_AE_RAW.COS n, .ro)]⟩,
    ⟨"SFB_SE_CFG", 0xD01440, 0x80, 2, 0x1, 1, 4, fun n _ =>
      [(SFB_SE_CFG.BITS n, .rw), (SFB_SE_CFG.PBITS n, .rw), (SFB_SE_CFG.GRAY n, .rw), (SFB_SE_CFG.DOUBLE n, .rw), (SFB_SE_CFG.ERR_EN n, .rw), (SFB_SE_CFG.ERR_POL n, .rw), (SFB_SE_CFG.ERR_IDX n, .rw), (SFB_SE_CFG.CLKDIV n, .rw)]⟩,
    ⟨"SFB_SE_PERIOD", 0xD01444, 0x80, 2, 0x1, 1, 4, fun n _ =>
      [(SFB_SE_PERIOD.PERIOD n, .rw), (SFB_SE_PERIOD.RECOV n, .rw)]⟩,
    ⟨"SFB_SE_JUMP", 0xD01448, 0x80, 2, 0x1, 1, 4, fun n _ =>
      [(SFB_SE_JUMP.JUMP n, .rw)]⟩,
    ⟨"SFB_CMP_CTL", 0xD00400, 0x20, 4, 0x1, 1, 4, fun c _ =>
      [(SFB_CMP_CTL.SRC c, .rw), (SFB_CMP_CTL.DIR c, .rw), (SFB_CMP_CTL.ARM c, .w1s), (SFB_CMP_CTL.PIN_EN c, .rw), (SFB_CMP_CTL.WIDTH c, .rw), (SFB_CMP_CTL.ARMED c, .ro)]⟩,
    ⟨"SFB_CMP_TARGET", 0xD00408, 0x20, 4, 0x1, 1, 8, fun c _ =>
      [(SFB_CMP_TARGET.TARGET c, .rw)]⟩,
    ⟨"SFB_CMP_STEP", 0xD00410, 0x20, 4, 0x1, 1, 8, fun c _ =>
      [(SFB_CMP_STEP.STEP c, .rw)]⟩,
    ⟨"SFB_CMP_FIRED", 0xD00418, 0x20, 4, 0x1, 1, 4, fun c _ =>
      [(SFB_CMP_FIRED.COUNT c, .rc)]⟩,
    ⟨"SFB_CMP_SKIPPED", 0xD0041C, 0x20, 4, 0x1, 1, 4, fun c _ =>
      [(SFB_CMP_SKIPPED.COUNT c, .rc)]⟩,
    ⟨"SFB_EMU_CTL", 0xD00500, 0x10, 2, 0x1, 1, 4, fun e _ =>
      [(SFB_EMU_CTL.EN e, .rw), (SFB_EMU_CTL.SRC e, .rw), (SFB_EMU_CTL.SPACING e, .rw), (SFB_EMU_CTL.OVR e, .w1c)]⟩,
    ⟨"SFB_EMU_RATIO", 0xD00504, 0x10, 2, 0x1, 1, 4, fun e _ =>
      [(SFB_EMU_RATIO.MUL e, .rw), (SFB_EMU_RATIO.DIV e, .rw)]⟩,
    ⟨"SFB_EMU_LAG", 0xD00508, 0x10, 2, 0x1, 1, 4, fun e _ =>
      [(SFB_EMU_LAG.LAG e, .ro)]⟩ ]

def regRows10a : List RegRow :=
  [ ⟨"MOT_CTL", 0xE00000, 0x1, 1, 0x1, 1, 4, fun _ _ =>
      [(MOT_CTL.ENABLE, .rw), (MOT_CTL.SP0_EN, .rw), (MOT_CTL.SP1_EN, .rw), (MOT_CTL.RET0_EN, .rw), (MOT_CTL.RET1_EN, .rw)]⟩,
    ⟨"MOT_STATUS", 0xE00004, 0x1, 1, 0x1, 1, 4, fun _ _ =>
      [(MOT_STATUS.STATE, .ro), (MOT_STATUS.PACED, .ro), (MOT_STATUS.CAPPED, .ro), (MOT_STATUS.WARN_SEEN, .w1c), (MOT_STATUS.PACE_SEEN, .w1c), (MOT_STATUS.SERVO_SEEN, .w1c)]⟩,
    ⟨"MOT_PROF", 0xE00010, 0x4, 8, 0x1, 1, 4, fun i _ =>
      [(MOT_PROF.VALUE i, .rw)]⟩,
    ⟨"MOT_LEAD_CFG", 0xE00030, 0x1, 1, 0x1, 1, 4, fun _ _ =>
      [(MOT_LEAD_CFG.START, .rw), (MOT_LEAD_CFG.PACE, .rw)]⟩,
    ⟨"MOT_PACE_CFG", 0xE00034, 0x1, 1, 0x1, 1, 4, fun _ _ =>
      [(MOT_PACE_CFG.FACTOR, .rw), (MOT_PACE_CFG.INTERVAL, .rw)]⟩,
    ⟨"MOT_LEAD", 0xE00038, 0x1, 1, 0x1, 1, 4, fun _ _ =>
      [(MOT_LEAD.LAMBDA, .ro)]⟩,
    ⟨"MOT_VPLAN", 0xE0003C, 0x1, 1, 0x1, 1, 4, fun _ _ =>
      [(MOT_VPLAN.V, .ro)]⟩,
    ⟨"MOT_SP_CFG", 0xE00040, 0x1, 1, 0x1, 1, 4, fun _ _ =>
      [(MOT_SP_CFG.DIV, .rw), (MOT_SP_CFG.AHEAD, .rw)]⟩,
    ⟨"MOT_CNT_SPBAD", 0xE00048, 0x1, 1, 0x1, 1, 4, fun _ _ =>
      [(MOT_CNT_SPBAD.COUNT, .rc)]⟩,
    ⟨"FLS_CTL", 0xE00E00, 0x1, 1, 0x1, 1, 4, fun _ _ =>
      [(FLS_CTL.DIR, .ro), (FLS_CTL.DL_EN, .rw)]⟩,
    ⟨"FLS_XF0", 0xE00E08, 0x1, 1, 0x1, 1, 8, fun _ _ =>
      [(FLS_XF0.XF0, .ro)]⟩,
    ⟨"FLS_DELAY", 0xE00E10, 0x1, 1, 0x1, 1, 4, fun _ _ =>
      [(FLS_DELAY.DELAY, .sh)]⟩,
    ⟨"FLS_ARM", 0xE00E14, 0x1, 1, 0x1, 1, 4, fun _ _ =>
      [(FLS_ARM.LEAD, .rw)]⟩,
    ⟨"FLS_FLASH", 0xE00E18, 0x1, 1, 0x1, 1, 4, fun _ _ =>
      [(FLS_FLASH.T, .ro)]⟩,
    ⟨"FLS_A0", 0xE00E20, 0x1, 1, 0x1, 1, 8, fun _ _ =>
      [(FLS_A0.A0, .ro)]⟩,
    ⟨"FLS_CNT_WARN", 0xE00E28, 0x1, 1, 0x1, 1, 4, fun _ _ =>
      [(FLS_CNT_WARN.COUNT, .rc)]⟩,
    ⟨"FLS_YS", 0xE00E30, 0x1, 1, 0x1, 1, 8, fun _ _ =>
      [(FLS_YS.YS, .ro)]⟩,
    ⟨"MOT_AX_CTL", 0xE00800, 0x40, 8, 0x1, 1, 4, fun a _ =>
      [(MOT_AX_CTL.EN a, .rw), (MOT_AX_CTL.STOP a, .w1s), (MOT_AX_CTL.DIR_INV a, .rw), (MOT_AX_CTL.CUR_EN a, .rw), (MOT_AX_CTL.CHK_EN a, .rw), (MOT_AX_CTL.CHK_SRC a, .rw)]⟩,
    ⟨"MOT_AX_TARGET", 0xE00804, 0x40, 8, 0x1, 1, 4, fun a _ =>
      [(MOT_AX_TARGET.TARGET a, .rw)]⟩,
    ⟨"MOT_AX_POS", 0xE00808, 0x40, 8, 0x1, 1, 4, fun a _ =>
      [(MOT_AX_POS.POS a, .ro)]⟩ ]

def regRows10b : List RegRow :=
  [ ⟨"MOT_AX_SPEED", 0xE00810, 0x40, 8, 0x1, 1, 8, fun a _ =>
      [(MOT_AX_SPEED.VMAX a, .rw), (MOT_AX_SPEED.VSS a, .rw)]⟩,
    ⟨"MOT_AX_ACC", 0xE00818, 0x40, 8, 0x1, 1, 4, fun a _ =>
      [(MOT_AX_ACC.ACC a, .rw)]⟩,
    ⟨"MOT_AX_TIMING", 0xE0081C, 0x40, 8, 0x1, 1, 4, fun a _ =>
      [(MOT_AX_TIMING.PW a, .rw), (MOT_AX_TIMING.DSETUP a, .rw), (MOT_AX_TIMING.IDLE a, .rw), (MOT_AX_TIMING.CUR_WAKE a, .rw)]⟩,
    ⟨"MOT_AX_CHK", 0xE00820, 0x40, 8, 0x1, 1, 8, fun a _ =>
      [(MOT_AX_CHK.MUL a, .rw), (MOT_AX_CHK.DIV a, .rw), (MOT_AX_CHK.LIMIT a, .rw)]⟩,
    ⟨"MOT_AX_STATUS", 0xE00828, 0x40, 8, 0x1, 1, 8, fun a _ =>
      [(MOT_AX_STATUS.STATE a, .ro), (MOT_AX_STATUS.CUR a, .ro), (MOT_AX_STATUS.STALL a, .w1c), (MOT_AX_STATUS.DEV a, .ro)]⟩ ]

def regRows11a : List RegRow :=
  [ ⟨"GAF_CTL", 0xF00000, 0x1, 1, 0x1, 1, 4, fun _ _ =>
      [(GAF_CTL.RUN, .rw)]⟩,
    ⟨"GAF_STATUS", 0xF00004, 0x1, 1, 0x1, 1, 4, fun _ _ =>
      [(GAF_STATUS.RUNNING, .ro), (GAF_STATUS.FAULTED, .ro), (GAF_STATUS.PROG_VALID, .ro), (GAF_STATUS.HALTED, .ro), (GAF_STATUS.LATE_WRITE, .w1c), (GAF_STATUS.FAULT_SEEN, .w1c), (GAF_STATUS.EV_MERGE, .w1c)]⟩,
    ⟨"GAF_GEN", 0xF00008, 0x1, 1, 0x1, 1, 8, fun _ _ =>
      [(GAF_GEN.COMMITTED, .ro), (GAF_GEN.ACTIVE, .ro)]⟩,
    ⟨"GAF_EVSET", 0xF00010, 0x1, 1, 0x1, 1, 4, fun _ _ =>
      [(GAF_EVSET.SW, .wo)]⟩,
    ⟨"GAF_STRIPE_STATE", 0xF00018, 0x1, 1, 0x1, 1, 4, fun _ _ =>
      [(GAF_STRIPE_STATE.PREPARED, .ro), (GAF_STRIPE_STATE.QUEUED, .ro), (GAF_STRIPE_STATE.ACTIVE, .ro)]⟩,
    ⟨"GAF_STRIPE_ACTIVE", 0xF0001C, 0x1, 1, 0x1, 1, 4, fun _ _ =>
      [(GAF_STRIPE_ACTIVE.STRIPE, .ro)]⟩,
    ⟨"GAF_CNT_EVMERGE", 0xF00020, 0x1, 1, 0x1, 1, 4, fun _ _ =>
      [(GAF_CNT_EVMERGE.COUNT, .rc)]⟩,
    ⟨"GAF_CNT_LATE", 0xF00024, 0x1, 1, 0x1, 1, 4, fun _ _ =>
      [(GAF_CNT_LATE.COUNT, .rc)]⟩,
    ⟨"GAF_PROG_HASH", 0xF00040, 0x4, 12, 0x1, 1, 4, fun i _ =>
      [(GAF_PROG_HASH.HASH i, .ro)]⟩,
    ⟨"GAF_THREAD", 0xF00100, 0x20, 4, 0x1, 1, 4, fun n _ =>
      [(GAF_THREAD.PC n, .ro), (GAF_THREAD.RUNNING n, .ro), (GAF_THREAD.WAITING n, .ro), (GAF_THREAD.FAULT n, .ro), (GAF_THREAD.CAUSE n, .ro), (GAF_THREAD.DEPTH n, .ro)]⟩,
    ⟨"GAF_THREAD_PEND", 0xF00108, 0x20, 4, 0x1, 1, 8, fun n _ =>
      [(GAF_THREAD_PEND.PEND n, .ro)]⟩,
    ⟨"GAF_HALT_FLASH", 0xF00200, 0x1, 1, 0x1, 1, 4, fun _ _ =>
      [(GAF_HALT_FLASH.TH, .ro)]⟩,
    ⟨"GAF_HALT_STRIPE", 0xF00204, 0x1, 1, 0x1, 1, 4, fun _ _ =>
      [(GAF_HALT_STRIPE.STRIPE, .ro)]⟩,
    ⟨"GAF_HALT_GEN", 0xF00208, 0x1, 1, 0x1, 1, 4, fun _ _ =>
      [(GAF_HALT_GEN.GEN, .ro)]⟩,
    ⟨"GAF_HALT_CAUSE", 0xF0020C, 0x1, 1, 0x1, 1, 4, fun _ _ =>
      [(GAF_HALT_CAUSE.CODE, .ro), (GAF_HALT_CAUSE.MORE, .ro)]⟩,
    ⟨"GAF_TRAIN_FAIL", 0xF00210, 0x1, 1, 0x1, 1, 8, fun _ _ =>
      [(GAF_TRAIN_FAIL.FAILED, .ro)]⟩ ]

def regRows12a : List RegRow :=
  [ ⟨"THY_STATUS", 0x200004, 0x1, 1, 0x1, 1, 4, fun _ _ =>
      [(THY_STATUS.HOLDOVER, .ro), (THY_STATUS.OK_A, .ro), (THY_STATUS.OK_B, .ro), (THY_STATUS.SLEWING, .ro), (THY_STATUS.INC_REFUSED, .w1c), (THY_STATUS.STEP_REFUSED, .w1c), (THY_STATUS.TP_MISS_SEEN, .w1c), (THY_STATUS.REF_LOST_SEEN, .w1c)]⟩,
    ⟨"THY_TIME_SEC", 0x200010, 0x1, 1, 0x1, 1, 8, fun _ _ =>
      [(THY_TIME_SEC.SEC, .ro)]⟩,
    ⟨"THY_TIME_NS", 0x200018, 0x1, 1, 0x1, 1, 4, fun _ _ =>
      [(THY_TIME_NS.NS, .ro)]⟩,
    ⟨"THY_TIME_FRAC", 0x20001C, 0x1, 1, 0x1, 1, 4, fun _ _ =>
      [(THY_TIME_FRAC.FRAC, .ro)]⟩,
    ⟨"THY_NOW", 0x200020, 0x1, 1, 0x1, 1, 8, fun _ _ =>
      [(THY_NOW.NS, .ro)]⟩,
    ⟨"THY_INC", 0x200030, 0x1, 1, 0x1, 1, 8, fun _ _ =>
      [(THY_INC.INC, .rw)]⟩,
    ⟨"THY_SET_SEC", 0x200040, 0x1, 1, 0x1, 1, 8, fun _ _ =>
      [(THY_SET_SEC.SEC, .rw)]⟩,
    ⟨"THY_SET_NS", 0x200048, 0x1, 1, 0x1, 1, 4, fun _ _ =>
      [(THY_SET_NS.NS, .rw)]⟩,
    ⟨"THY_ADJ_CTL", 0x200050, 0x1, 1, 0x1, 1, 4, fun _ _ =>
      [(THY_ADJ_CTL.SET, .w1s), (THY_ADJ_CTL.STEP, .w1s), (THY_ADJ_CTL.SLEW, .w1s)]⟩,
    ⟨"THY_ADJ", 0x200058, 0x1, 1, 0x1, 1, 8, fun _ _ =>
      [(THY_ADJ.ADJ, .rw)]⟩,
    ⟨"THY_SLEW_RATE", 0x200060, 0x1, 1, 0x1, 1, 4, fun _ _ =>
      [(THY_SLEW_RATE.RATE, .rw)]⟩,
    ⟨"THY_SLEW_LEFT", 0x200068, 0x1, 1, 0x1, 1, 8, fun _ _ =>
      [(THY_SLEW_LEFT.LEFT, .ro)]⟩,
    ⟨"THY_REF_CTL", 0x200100, 0x1, 1, 0x1, 1, 4, fun _ _ =>
      [(THY_REF_CTL.SEL, .rw), (THY_REF_CTL.HOLD, .rw), (THY_REF_CTL.PPS_EDGE, .rw), (THY_REF_CTL.PPS_TOL, .rw)]⟩,
    ⟨"THY_REF_PPS", 0x200140, 0x20, 2, 0x1, 1, 8, fun r _ =>
      [(THY_REF_PPS.TIME r, .ro)]⟩,
    ⟨"THY_REF_TREF", 0x200148, 0x20, 2, 0x1, 1, 8, fun r _ =>
      [(THY_REF_TREF.TIME r, .ro)]⟩,
    ⟨"THY_REF_COUNT", 0x200150, 0x20, 2, 0x1, 1, 4, fun r _ =>
      [(THY_REF_COUNT.COUNT r, .ro)]⟩,
    ⟨"THY_TP_CTL", 0x200400, 0x20, 8, 0x1, 1, 4, fun n _ =>
      [(THY_TP_CTL.ARM n, .w1s), (THY_TP_CTL.DISARM n, .w1s), (THY_TP_CTL.ARMED n, .ro), (THY_TP_CTL.PIN_EN n, .rw), (THY_TP_CTL.WIDTH n, .rw)]⟩,
    ⟨"THY_TP_START", 0x200408, 0x20, 8, 0x1, 1, 8, fun n _ =>
      [(THY_TP_START.S n, .rw)]⟩,
    ⟨"THY_TP_PERIOD", 0x200410, 0x20, 8, 0x1, 1, 8, fun n _ =>
      [(THY_TP_PERIOD.Q n, .rw)]⟩,
    ⟨"THY_TP_SKIPPED", 0x200418, 0x20, 8, 0x1, 1, 4, fun n _ =>
      [(THY_TP_SKIPPED.COUNT n, .rc)]⟩ ]

def regRows12b : List RegRow :=
  [ ⟨"THY_TC_CTL", 0x200600, 0x10, 8, 0x1, 1, 4, fun n _ =>
      [(THY_TC_CTL.EN n, .rw), (THY_TC_CTL.EDGE n, .rw), (THY_TC_CTL.SRC n, .rw), (THY_TC_CTL.COUNT n, .ro), (THY_TC_CTL.OVF n, .w1c)]⟩,
    ⟨"THY_TC_TIME", 0x200608, 0x10, 8, 0x1, 1, 8, fun n _ =>
      [(THY_TC_TIME.TIME n, .rc), (THY_TC_TIME.VALID n, .rc)]⟩,
    ⟨"THY_PTP_LAT", 0x200800, 0x10, 4, 0x1, 1, 8, fun p _ =>
      [(THY_PTP_LAT.TX p, .rw), (THY_PTP_LAT.RX p, .rw)]⟩,
    ⟨"THY_PTP_CNT_TC", 0x200880, 0x1, 1, 0x1, 1, 4, fun _ _ =>
      [(THY_PTP_CNT_TC.COUNT, .rc)]⟩,
    ⟨"THY_PTP_CNT_UNSUP", 0x200884, 0x1, 1, 0x1, 1, 4, fun _ _ =>
      [(THY_PTP_CNT_UNSUP.COUNT, .rc)]⟩,
    ⟨"THY_PTP_CNT_LATE", 0x200888, 0x1, 1, 0x1, 1, 4, fun _ _ =>
      [(THY_PTP_CNT_LATE.COUNT, .rc)]⟩ ]

def regRows13a : List RegRow :=
  [ ⟨"ETH_PORT_CFG", 0x1200000, 0x10, 4, 0x1, 1, 4, fun p _ =>
      [(ETH_PORT_CFG.EN p, .rw), (ETH_PORT_CFG.ROLE p, .rw), (ETH_PORT_CFG.FEC p, .rw)]⟩,
    ⟨"ETH_PORT_STATUS", 0x1200004, 0x10, 4, 0x1, 1, 4, fun p _ =>
      [(ETH_PORT_STATUS.LINK p, .ro), (ETH_PORT_STATUS.CHAIN_WAIT p, .ro), (ETH_PORT_STATUS.DOWN_SEEN p, .w1c)]⟩,
    ⟨"ETH_STATUS", 0x1200080, 0x1, 1, 0x1, 1, 4, fun _ _ =>
      [(ETH_STATUS.CFG_REFUSED, .w1c), (ETH_STATUS.RETRY_SEEN, .w1c)]⟩,
    ⟨"ETH_MAC", 0x1200100, 0x1, 1, 0x1, 1, 8, fun _ _ =>
      [(ETH_MAC.MAC, .rw)]⟩,
    ⟨"ETH_IP", 0x1200108, 0x1, 1, 0x1, 1, 8, fun _ _ =>
      [(ETH_IP.ADDR, .rw), (ETH_IP.PREFIX, .rw)]⟩,
    ⟨"ETH_GW", 0x1200110, 0x1, 1, 0x1, 1, 4, fun _ _ =>
      [(ETH_GW.ADDR, .rw)]⟩,
    ⟨"ETH_WST_CFG", 0x1200120, 0x1, 1, 0x1, 1, 4, fun _ _ =>
      [(ETH_WST_CFG.PORT, .rw), (ETH_WST_CFG.WINDOW, .rw)]⟩,
    ⟨"ETH_WST_TMO", 0x1200124, 0x1, 1, 0x1, 1, 4, fun _ _ =>
      [(ETH_WST_TMO.RTO, .rw), (ETH_WST_TMO.RETRY, .rw), (ETH_WST_TMO.SRV_COUNT, .rw)]⟩,
    ⟨"ETH_SRV", 0x1200200, 0x8, 8, 0x1, 1, 8, fun i _ =>
      [(ETH_SRV.ADDR i, .rw)]⟩,
    ⟨"ETH_CNT_LOST", 0x1200300, 0x1, 1, 0x1, 1, 4, fun _ _ =>
      [(ETH_CNT_LOST.COUNT, .rc)]⟩,
    ⟨"ETH_CNT_DROP", 0x1200304, 0x1, 1, 0x1, 1, 4, fun _ _ =>
      [(ETH_CNT_DROP.COUNT, .rc)]⟩,
    ⟨"CLU_CFG", 0x1280000, 0x1, 1, 0x1, 1, 4, fun _ _ =>
      [(CLU_CFG.ROLE, .rw), (CLU_CFG.MEMBER, .rw), (CLU_CFG.UPLINK, .rw), (CLU_CFG.DOMAIN, .rw), (CLU_CFG.CLUSTER, .rw)]⟩,
    ⟨"CLU_GROUP", 0x1280004, 0x1, 1, 0x1, 1, 4, fun _ _ =>
      [(CLU_GROUP.ADDR, .rw)]⟩,
    ⟨"CLU_STATUS", 0x1280008, 0x1, 1, 0x1, 1, 4, fun _ _ =>
      [(CLU_STATUS.STATE, .ro), (CLU_STATUS.STANDBY_OK, .ro), (CLU_STATUS.TAKEOVER_SEEN, .w1c), (CLU_STATUS.LOST_SEEN, .w1c), (CLU_STATUS.SB_FAIL_SEEN, .w1c)]⟩,
    ⟨"CLU_TERM", 0x128000C, 0x1, 1, 0x1, 1, 4, fun _ _ =>
      [(CLU_TERM.TERM, .ro)]⟩,
    ⟨"CLU_GRANT_CFG", 0x1280010, 0x1, 1, 0x1, 1, 4, fun _ _ =>
      [(CLU_GRANT_CFG.BASE, .rw), (CLU_GRANT_CFG.DB, .rw), (CLU_GRANT_CFG.DEPTH, .rw)]⟩,
    ⟨"CLU_CNT_STALE", 0x1280020, 0x1, 1, 0x1, 1, 4, fun _ _ =>
      [(CLU_CNT_STALE.COUNT, .rc)]⟩ ]

def regRows14a : List RegRow :=
  [ ⟨"SAG_STATUS", 0x1300000, 0x1, 1, 0x1, 1, 4, fun _ _ =>
      [(SAG_STATUS.LIFECYCLE, .ro), (SAG_STATUS.DEBUG_OPEN, .ro), (SAG_STATUS.DEBUG_LOCK, .ro), (SAG_STATUS.FUSE_PWR, .ro), (SAG_STATUS.CHAL, .ro), (SAG_STATUS.JOB_KEY, .ro), (SAG_STATUS.LANE_KEY, .ro), (SAG_STATUS.DIAG, .ro), (SAG_STATUS.REFUSE_SEEN, .w1c), (SAG_STATUS.TAG_SEEN, .w1c)]⟩,
    ⟨"SAG_SERIAL", 0x1300008, 0x1, 1, 0x1, 1, 8, fun _ _ =>
      [(SAG_SERIAL.SERIAL, .ro)]⟩,
    ⟨"SAG_SLOTS", 0x1300010, 0x1, 1, 0x1, 1, 4, fun _ _ =>
      [(SAG_SLOTS.OP_VALID, .ro), (SAG_SLOTS.OP_REVOKED, .ro), (SAG_SLOTS.KYT_VALID, .ro), (SAG_SLOTS.KYT_REVOKED, .ro)]⟩,
    ⟨"SAG_ROLLBACK", 0x1300014, 0x1, 1, 0x1, 1, 4, fun _ _ =>
      [(SAG_ROLLBACK.FW_CTR, .ro), (SAG_ROLLBACK.PROG_CTR, .ro), (SAG_ROLLBACK.FW_SV, .ro)]⟩,
    ⟨"SAG_FEATURE", 0x1300018, 0x1, 1, 0x1, 1, 4, fun _ _ =>
      [(SAG_FEATURE.FEATURE, .ro)]⟩,
    ⟨"SAG_LEAVE", 0x1300020, 0x1, 1, 0x1, 1, 4, fun _ _ =>
      [(SAG_LEAVE.UNITS, .rw)]⟩,
    ⟨"SAG_CNT_TAGFAIL", 0x1300030, 0x1, 1, 0x1, 1, 4, fun _ _ =>
      [(SAG_CNT_TAGFAIL.COUNT, .rc)]⟩,
    ⟨"SAG_CNT_REFUSE", 0x1300034, 0x1, 1, 0x1, 1, 4, fun _ _ =>
      [(SAG_CNT_REFUSE.COUNT, .rc)]⟩ ]

def regRows15a : List RegRow :=
  [ ⟨"GLB_HBM_WIN", 0x000100, 0x1, 1, 0x1, 1, 8, fun _ _ =>
      [(GLB_HBM_WIN.BASE, .rw)]⟩,
    ⟨"GLB_HOST_ERR", 0x000108, 0x1, 1, 0x1, 1, 4, fun _ _ =>
      [(GLB_HOST_ERR.REFUSED, .w1c), (GLB_HOST_ERR.KIND, .ro)]⟩,
    ⟨"GLB_HOST_ERR_ADDR", 0x000110, 0x1, 1, 0x1, 1, 8, fun _ _ =>
      [(GLB_HOST_ERR_ADDR.ADDR, .ro)]⟩,
    ⟨"MBX_TX_CTL", 0x301040, 0x100, 8, 0x1, 1, 4, fun r _ =>
      [(MBX_TX_CTL.PUSH r, .w1s), (MBX_TX_CTL.FREE r, .ro), (MBX_TX_CTL.FULL_SEEN r, .w1c)]⟩,
    ⟨"MBX_RX_CTL", 0x302040, 0x100, 6, 0x1, 1, 4, fun s _ =>
      [(MBX_RX_CTL.POP s, .w1s), (MBX_RX_CTL.COUNT s, .ro)]⟩,
    ⟨"MBX_DB_PEND", 0x303000, 0x1, 1, 0x1, 1, 4, fun _ _ =>
      [(MBX_DB_PEND.SW, .w1c), (MBX_DB_PEND.MSG, .w1c)]⟩,
    ⟨"MBX_DB_MASK", 0x303004, 0x1, 1, 0x1, 1, 4, fun _ _ =>
      [(MBX_DB_MASK.MASK, .rw)]⟩,
    ⟨"MBX_DB_WAKE", 0x303008, 0x1, 1, 0x1, 1, 4, fun _ _ =>
      [(MBX_DB_WAKE.WAKE, .rw)]⟩,
    ⟨"MBX_DB_SET", 0x303100, 0x4, 8, 0x1, 1, 4, fun r _ =>
      [(MBX_DB_SET.SET r, .wo)]⟩,
    ⟨"MBX_CNT_FULL", 0x303200, 0x1, 1, 0x1, 1, 4, fun _ _ =>
      [(MBX_CNT_FULL.COUNT, .rc)]⟩,
    ⟨"MBX_CNT_LOCKERR", 0x303204, 0x1, 1, 0x1, 1, 4, fun _ _ =>
      [(MBX_CNT_LOCKERR.COUNT, .rc)]⟩,
    ⟨"MBX_LOCK", 0x304000, 0x4, 64, 0x1, 1, 4, fun n _ =>
      [(MBX_LOCK.OWNER n, .ro), (MBX_LOCK.HELD n, .ro), (MBX_LOCK.GOT n, .ro), (MBX_LOCK.RELEASE n, .wo)]⟩,
    ⟨"DMA_CFG", 0x400000, 0x1, 1, 0x1, 1, 8, fun _ _ =>
      [(DMA_CFG.TMO, .rw), (DMA_CFG.HOP_LIMIT, .rw)]⟩,
    ⟨"DMA_CH_CTL", 0x401000, 0x40, 16, 0x1, 1, 4, fun c _ =>
      [(DMA_CH_CTL.START c, .w1s), (DMA_CH_CTL.ABORT c, .w1s), (DMA_CH_CTL.CRC_ENG c, .rw), (DMA_CH_CTL.CRC_USE c, .rw), (DMA_CH_CTL.CRC_INIT c, .rw)]⟩,
    ⟨"DMA_CH_STATUS", 0x401004, 0x40, 16, 0x1, 1, 4, fun c _ =>
      [(DMA_CH_STATUS.STATE c, .ro), (DMA_CH_STATUS.ERR c, .ro), (DMA_CH_STATUS.DONE_SEEN c, .w1c), (DMA_CH_STATUS.ERR_SEEN c, .w1c)]⟩,
    ⟨"DMA_CH_HEAD", 0x401008, 0x40, 16, 0x1, 1, 8, fun c _ =>
      [(DMA_CH_HEAD.ADDR c, .rw)]⟩,
    ⟨"DMA_CH_CUR", 0x401010, 0x40, 16, 0x1, 1, 8, fun c _ =>
      [(DMA_CH_CUR.ADDR c, .ro)]⟩,
    ⟨"DMA_CH_ERR_ADDR", 0x401018, 0x40, 16, 0x1, 1, 8, fun c _ =>
      [(DMA_CH_ERR_ADDR.ADDR c, .ro)]⟩,
    ⟨"DMA_CH_HOPS", 0x401020, 0x40, 16, 0x1, 1, 4, fun c _ =>
      [(DMA_CH_HOPS.COUNT c, .ro)]⟩,
    ⟨"CHK_CTL", 0x500000, 0x40, 4, 0x1, 1, 4, fun e _ =>
      [(CHK_CTL.WIDTH e, .rw), (CHK_CTL.REFIN e, .rw), (CHK_CTL.REFOUT e, .rw), (CHK_CTL.INW e, .rw), (CHK_CTL.INIT e, .w1s), (CHK_CTL.CLAIMED e, .ro), (CHK_CTL.CHANNEL e, .ro)]⟩ ]

def regRows15b : List RegRow :=
  [ ⟨"CHK_POLY", 0x500008, 0x40, 4, 0x1, 1, 8, fun e _ =>
      [(CHK_POLY.POLY e, .rw)]⟩,
    ⟨"CHK_INIT", 0x500010, 0x40, 4, 0x1, 1, 8, fun e _ =>
      [(CHK_INIT.INIT e, .rw)]⟩,
    ⟨"CHK_XOROUT", 0x500018, 0x40, 4, 0x1, 1, 8, fun e _ =>
      [(CHK_XOROUT.XOROUT e, .rw)]⟩,
    ⟨"CHK_DATA", 0x500020, 0x40, 4, 0x1, 1, 8, fun e _ =>
      [(CHK_DATA.DATA e, .wo)]⟩,
    ⟨"CHK_RESULT", 0x500028, 0x40, 4, 0x1, 1, 8, fun e _ =>
      [(CHK_RESULT.RESULT e, .ro)]⟩,
    ⟨"CHK_STATUS", 0x500030, 0x40, 4, 0x1, 1, 4, fun e _ =>
      [(CHK_STATUS.ALIVE e, .ro), (CHK_STATUS.DROP_SEEN e, .w1c)]⟩ ]

def regRows16a : List RegRow :=
  [ ⟨"HBM_CTL", 0x1000000, 0x1, 1, 0x1, 1, 4, fun _ _ =>
      [(HBM_CTL.ENABLE, .rw), (HBM_CTL.READY, .ro)]⟩,
    ⟨"HBM_STATUS", 0x1000004, 0x1, 1, 0x1, 1, 4, fun _ _ =>
      [(HBM_STATUS.HOT, .ro), (HBM_STATUS.MAP_REFUSED, .w1c), (HBM_STATUS.LATE_SEEN, .w1c)]⟩,
    ⟨"HBM_MAP_CFG", 0x1000008, 0x1, 1, 0x1, 1, 4, fun _ _ =>
      [(HBM_MAP_CFG.GRAIN, .rw), (HBM_MAP_CFG.HASH, .rw)]⟩,
    ⟨"HBM_REF_CFG", 0x1000010, 0x1, 1, 0x1, 1, 4, fun _ _ =>
      [(HBM_REF_CFG.TREFI, .rw), (HBM_REF_CFG.FORCE_MARGIN, .rw)]⟩,
    ⟨"HBM_PAGE_CFG", 0x1000014, 0x1, 1, 0x1, 1, 4, fun _ _ =>
      [(HBM_PAGE_CFG.IDLE, .rw), (HBM_PAGE_CFG.THRESH, .rw), (HBM_PAGE_CFG.MAXOPEN, .rw)]⟩,
    ⟨"HBM_PD_CFG", 0x1000018, 0x1, 1, 0x1, 1, 4, fun _ _ =>
      [(HBM_PD_CFG.EN, .rw), (HBM_PD_CFG.IDLE, .rw)]⟩,
    ⟨"HBM_TEMP", 0x1000020, 0x4, 4, 0x1, 1, 4, fun n _ =>
      [(HBM_TEMP.T n, .ro)]⟩,
    ⟨"HBM_CNT_FORCED", 0x1000030, 0x1, 1, 0x1, 1, 4, fun _ _ =>
      [(HBM_CNT_FORCED.COUNT, .rc)]⟩,
    ⟨"HBM_CNT_LATE", 0x1000034, 0x1, 1, 0x1, 1, 4, fun _ _ =>
      [(HBM_CNT_LATE.COUNT, .rc)]⟩,
    ⟨"HBM_QOS_TARGET", 0x1000100, 0x4, 8, 0x1, 1, 4, fun p _ =>
      [(HBM_QOS_TARGET.TARGET p, .rw)]⟩,
    ⟨"HBM_PORT_MAXLAT", 0x1000140, 0x4, 8, 0x1, 1, 4, fun p _ =>
      [(HBM_PORT_MAXLAT.NS p, .rc)]⟩,
    ⟨"ECC_GRP_CFG", 0x1100000, 0x40, 18, 0x1, 1, 4, fun g _ =>
      [(ECC_GRP_CFG.MODE g, .rw), (ECC_GRP_CFG.AUTO g, .rw), (ECC_GRP_CFG.WRITEBACK g, .rw), (ECC_GRP_CFG.CE_THRESH g, .rw), (ECC_GRP_CFG.CFG_REFUSED g, .w1c), (ECC_GRP_CFG.CE_SEEN g, .w1c), (ECC_GRP_CFG.UE_SEEN g, .w1c), (ECC_GRP_CFG.FULL_SEEN g, .w1c)]⟩,
    ⟨"ECC_CNT_CE", 0x1100008, 0x40, 18, 0x1, 1, 4, fun g _ =>
      [(ECC_CNT_CE.COUNT g, .rc)]⟩,
    ⟨"ECC_CNT_UE", 0x110000C, 0x40, 18, 0x1, 1, 4, fun g _ =>
      [(ECC_CNT_UE.COUNT g, .rc)]⟩,
    ⟨"ECC_LAST_ADDR", 0x1100010, 0x40, 18, 0x1, 1, 8, fun g _ =>
      [(ECC_LAST_ADDR.ADDR g, .ro), (ECC_LAST_ADDR.UE g, .ro)]⟩,
    ⟨"ECC_CULLET_ADDR", 0x1104000, 0x100, 18, 0x10, 16, 8, fun g e =>
      [(ECC_CULLET_ADDR.VALID g e, .rw), (ECC_CULLET_ADDR.AUTO g e, .ro), (ECC_CULLET_ADDR.ADDR g e, .rw)]⟩,
    ⟨"ECC_CULLET_POISON", 0x1104008, 0x100, 18, 0x10, 16, 4, fun g e =>
      [(ECC_CULLET_POISON.POISON g e, .ro)]⟩,
    ⟨"ECC_TMR_STATUS", 0x1108000, 0x1, 1, 0x1, 1, 4, fun _ _ =>
      [(ECC_TMR_STATUS.INDEX, .ro), (ECC_TMR_STATUS.DISAGREE, .ro), (ECC_TMR_STATUS.CORR_SEEN, .w1c)]⟩,
    ⟨"ECC_CNT_TMR", 0x1108004, 0x1, 1, 0x1, 1, 4, fun _ _ =>
      [(ECC_CNT_TMR.COUNT, .rc)]⟩,
    ⟨"ECC_TEST_CTL", 0x1109000, 0x1, 1, 0x1, 1, 4, fun _ _ =>
      [(ECC_TEST_CTL.GROUP, .rw), (ECC_TEST_CTL.WR, .w1s), (ECC_TEST_CTL.RD, .w1s), (ECC_TEST_CTL.RDC, .w1s), (ECC_TEST_CTL.ERR, .w1c), (ECC_TEST_CTL.CLEARING, .ro)]⟩ ]

def regRows16b : List RegRow :=
  [ ⟨"ECC_TEST_ADDR", 0x1109008, 0x1, 1, 0x1, 1, 8, fun _ _ =>
      [(ECC_TEST_ADDR.ADDR, .rw)]⟩,
    ⟨"ECC_TEST_DATA", 0x1109010, 0x1, 1, 0x1, 1, 8, fun _ _ =>
      [(ECC_TEST_DATA.DATA, .rw)]⟩,
    ⟨"ECC_TEST_CHECK", 0x1109018, 0x1, 1, 0x1, 1, 4, fun _ _ =>
      [(ECC_TEST_CHECK.CHECK, .rw)]⟩,
    ⟨"ECC_TEST_RESULT", 0x110901C, 0x1, 1, 0x1, 1, 4, fun _ _ =>
      [(ECC_TEST_RESULT.SYNDROME, .ro), (ECC_TEST_RESULT.E, .ro), (ECC_TEST_RESULT.OUTCOME, .ro), (ECC_TEST_RESULT.BYTE_FAIL, .ro)]⟩ ]

def regRows17a : List RegRow :=
  [ ⟨"EVJ_CTL", 0x1400000, 0x1, 1, 0x1, 1, 4, fun _ _ =>
      [(EVJ_CTL.RING_EN, .rw), (EVJ_CTL.IRQ_CLASS, .rw), (EVJ_CTL.IRQ_THRESH, .rw)]⟩,
    ⟨"EVJ_STATUS", 0x1400004, 0x1, 1, 0x1, 1, 4, fun _ _ =>
      [(EVJ_STATUS.SAFE, .ro), (EVJ_STATUS.RING_FULL, .ro), (EVJ_STATUS.LOST_SEEN, .w1c), (EVJ_STATUS.RING_ERR, .w1c)]⟩,
    ⟨"EVJ_SAFE_CAUSE", 0x1400008, 0x1, 1, 0x1, 1, 4, fun _ _ =>
      [(EVJ_SAFE_CAUSE.CODE, .ro)]⟩,
    ⟨"EVJ_RING_BASE", 0x1400010, 0x1, 1, 0x1, 1, 8, fun _ _ =>
      [(EVJ_RING_BASE.ADDR, .rw)]⟩,
    ⟨"EVJ_RING_SIZE", 0x1400018, 0x1, 1, 0x1, 1, 4, fun _ _ =>
      [(EVJ_RING_SIZE.SIZE, .rw)]⟩,
    ⟨"EVJ_WR", 0x1400020, 0x1, 1, 0x1, 1, 4, fun _ _ =>
      [(EVJ_WR.COUNT, .ro)]⟩,
    ⟨"EVJ_RD", 0x1400024, 0x1, 1, 0x1, 1, 4, fun _ _ =>
      [(EVJ_RD.COUNT, .rw)]⟩,
    ⟨"EVJ_BUF_COUNT", 0x1400028, 0x1, 1, 0x1, 1, 4, fun _ _ =>
      [(EVJ_BUF_COUNT.COUNT, .ro), (EVJ_BUF_COUNT.HEAD, .ro)]⟩,
    ⟨"EVJ_CNT_LOST", 0x1400030, 0x1, 1, 0x1, 1, 4, fun _ _ =>
      [(EVJ_CNT_LOST.COUNT, .rc)]⟩,
    ⟨"EVJ_SEQ", 0x1400100, 0x4, 22, 0x1, 1, 4, fun s _ =>
      [(EVJ_SEQ.SEQ s, .ro)]⟩ ]

def regRows18a : List RegRow :=
  [ ⟨"PWR_STATUS", 0x100004, 0x1, 1, 0x1, 1, 4, fun _ _ =>
      [(PWR_STATUS.THERMTRIP, .ro), (PWR_STATUS.RST_REFUSED, .w1c), (PWR_STATUS.UNLOCK_SEEN, .w1c)]⟩,
    ⟨"PWR_RST_CAUSE", 0x100008, 0x1, 1, 0x1, 1, 4, fun _ _ =>
      [(PWR_RST_CAUSE.POR, .w1c), (PWR_RST_CAUSE.CLKFAIL, .w1c), (PWR_RST_CAUSE.WARM, .w1c), (PWR_RST_CAUSE.PERST, .w1c)]⟩,
    ⟨"PWR_RST_CTL", 0x10000C, 0x1, 1, 0x1, 1, 4, fun _ _ =>
      [(PWR_RST_CTL.WARM, .w1s)]⟩,
    ⟨"PWR_UNIT_RST", 0x100010, 0x1, 1, 0x1, 1, 4, fun _ _ =>
      [(PWR_UNIT_RST.UNITS, .wo)]⟩,
    ⟨"PWR_PLL_STATUS", 0x100020, 0x1, 1, 0x1, 1, 4, fun _ _ =>
      [(PWR_PLL_STATUS.PLL_OK, .ro)]⟩,
    ⟨"PWR_TJ", 0x100030, 0x1, 1, 0x1, 1, 4, fun _ _ =>
      [(PWR_TJ.TJ, .ro), (PWR_TJ.SENSOR, .ro)]⟩,
    ⟨"PWR_SC_CTL", 0x100040, 0x4, 4, 0x1, 1, 4, fun n _ =>
      [(PWR_SC_CTL.RST n, .w1s), (PWR_SC_CTL.SLEEP n, .w1s), (PWR_SC_CTL.ASLEEP n, .ro), (PWR_SC_CTL.RUNNING n, .ro), (PWR_SC_CTL.HASH_FAIL n, .w1c)]⟩,
    ⟨"PWR_BOOT_STATUS", 0x100080, 0x1, 1, 0x1, 1, 4, fun _ _ =>
      [(PWR_BOOT_STATUS.STAGE, .ro), (PWR_BOOT_STATUS.CODE, .ro), (PWR_BOOT_STATUS.SOURCE, .ro), (PWR_BOOT_STATUS.SV, .ro)]⟩,
    ⟨"PWR_BOOT_WIN", 0x100084, 0x1, 1, 0x1, 1, 4, fun _ _ =>
      [(PWR_BOOT_WIN.PART, .rw)]⟩,
    ⟨"PWR_BOOT_PUSH", 0x100088, 0x1, 1, 0x1, 1, 4, fun _ _ =>
      [(PWR_BOOT_PUSH.LEN, .wo)]⟩,
    ⟨"PGV_BUDGET", 0x1500000, 0x1, 1, 0x1, 1, 4, fun _ _ =>
      [(PGV_BUDGET.BUDGET, .rw), (PGV_BUDGET.FLOOR, .rw)]⟩,
    ⟨"PGV_THERM", 0x1500004, 0x1, 1, 0x1, 1, 4, fun _ _ =>
      [(PGV_THERM.T_START, .rw), (PGV_THERM.T_FLOOR, .rw)]⟩,
    ⟨"PGV_STATE", 0x1500008, 0x1, 1, 0x1, 1, 4, fun _ _ =>
      [(PGV_STATE.EFF, .ro), (PGV_STATE.USED, .ro)]⟩,
    ⟨"PGV_STATUS", 0x150000C, 0x1, 1, 0x1, 1, 4, fun _ _ =>
      [(PGV_STATUS.THROTTLED, .ro), (PGV_STATUS.WAITING, .ro), (PGV_STATUS.THROTTLE_SEEN, .w1c)]⟩,
    ⟨"PGV_CNT_WAIT", 0x1500010, 0x1, 1, 0x1, 1, 4, fun _ _ =>
      [(PGV_CNT_WAIT.COUNT, .rc)]⟩,
    ⟨"PGV_CNT_OVERSIZE", 0x1500014, 0x1, 1, 0x1, 1, 4, fun _ _ =>
      [(PGV_CNT_OVERSIZE.COUNT, .rc)]⟩ ]

/-- Every register of the BAR but the windows (CLU_MEMBER, the mailbox windows, memories), which have operations of
their own. -/
def regTable : List RegRow :=
  regRows03a ++ regRows03b ++ regRows04a ++ regRows05a ++ regRows06a ++ regRows07a ++ regRows07b ++ regRows08a ++ regRows09a ++ regRows09b ++ regRows10a ++ regRows10b ++ regRows11a ++ regRows12a ++ regRows12b ++ regRows13a ++ regRows14a ++ regRows15a ++ regRows15b ++ regRows16a ++ regRows16b ++ regRows17a ++ regRows18a

end Sys2Proof.Machine
end

