-- ==== Sys2Proof/Machine/Ecc.lean ====
section
/-! DEFINITION. The check codes of the memories: SECDED (72,64) in word mode, byte parity in byte mode (R410, R411). -/

namespace Sys2Proof.Machine

open Sys2Proof

/-- The parity of the low n bits of a number. -/
def parity : Nat → Nat → Nat
  | 0, _ => 0
  | n + 1, v => (v % 2 + parity n (v / 2)) % 2

/-- Whether a number is a power of two. -/
def isPow2 (n : Nat) : Bool := (List.range 8).any (fun k => decide (n = 2 ^ k))

/-- The positions p_0 to p_63 of the data bits (R410). -/
def dataPositions : List Nat := (List.range 72).filter (fun n => decide (3 ≤ n) && !isPow2 n)

/-- The XOR of the positions of the data bits that are 1: check bits 0 to 6. -/
def checkLow (data : Nat) : Nat :=
  ((List.range 64).foldl (fun a i => if data / 2 ^ i % 2 = 1 then a.xor (dataPositions.getD i 0) else a) 0) % 128

/-- The eight check bits of a word in word mode. -/
def secdedCheck (data : Nat) : Nat := let c := checkLow data; c + 128 * ((parity 64 data + parity 7 c) % 2)

/-- The eight check bits of a word in byte mode: the parity of each byte. -/
def parityCheck (data : Nat) : Nat :=
  ((List.range 8).map (fun i => parity 8 (data / 2 ^ (8 * i)) * 2 ^ i)).sum

/-- The check bits of a word by the mode of its group: 0 word, 1 byte. -/
def checkOf (mode data : Nat) : Nat := if mode = 1 then parityCheck data else secdedCheck data

/-- The check bits stored with a word after the bytes [lo, lo + n) of it have been written: in byte mode the other bytes keep
their own (R411). -/
def mixCheck (mode new oldCheck lo n : Nat) : Nat :=
  if mode = 1 then
    ((List.range 8).map (fun i => (if lo ≤ i ∧ i < lo + n then parityCheck new else oldCheck) / 2 ^ i % 2 * 2 ^ i)).sum
  else checkOf mode new

/-- What a read through the checker finds. -/
inductive Checked where
  | good
  | corrected (data check : Nat)
  | bad
  deriving DecidableEq, Repr

/-- The syndrome s and the parity E of a stored word (R410). -/
def syndrome (data check : Nat) : Nat × Nat :=
  ((check % 128).xor (checkLow data), (parity 64 data + parity 8 check) % 2)

/-- A bit of a number inverted. -/
def invBit (v n : Nat) : Nat := v.xor (2 ^ n)

/-- The outcome of a checked read in word mode (R410). -/
def secdedRead (data check : Nat) : Checked :=
  let (s, e) := syndrome data check
  if s = 0 then (if e = 0 then .good else .corrected data (invBit check 7))
  else if e = 0 then .bad
  else if isPow2 s then .corrected data (invBit check (Nat.log2 s))
  else match dataPositions.findIdx? (fun p => decide (p = s)) with
    | some i => .corrected (invBit data i) check
    | none => .bad

/-- The bytes of a word whose parity fails, as a mask (R411). -/
def byteFails (data check : Nat) : Nat := (parityCheck data).xor (check % 256)

/-- The outcome of a checked read by the mode of the group. -/
def checkedRead (mode data check : Nat) : Checked :=
  if mode = 1 then (if byteFails data check = 0 then .good else .bad) else secdedRead data check

end Sys2Proof.Machine
end

