-- ==== Sys2Proof/WellFormed.lean ====
section
/-! DEFINITION. Which commands are well formed: an operand that the types do not keep in range must be one that the bus, the memory
or the sensors can carry. -/

namespace Sys2Proof

/-- A register access: 4 or 8 bytes wide, aligned to its width, inside the 64 MiB of the BAR (R15, R369). -/
def accessOk (addr width : Nat) : Bool :=
  (decide (width = 4) || decide (width = 8)) && decide (addr % width = 0) && decide (addr < 0x4000000)

/-- The bytes of HBM (R401). -/
def hbmSize : Nat := 2 ^ 36

/-- A mebibyte. -/
def mebi : Nat := 1048576

/-- The bytes that the addresses of a memory group span: HBM for groups 0 to 3 (R401), the buffers of R24 for 4 to 9, 12 and 13, the
64 accumulators of 1 MiB for 11 (R113), Gaffer's memories for 14 and 15 (R273), and what an address argument holds for a group whose
size the manual does not give (R430). -/
def groupSpan (g : Nat) : Nat :=
  [hbmSize, hbmSize, hbmSize, hbmSize, 8 * mebi, 8 * mebi, 4 * mebi, 16 * mebi, 8 * mebi, 24 * mebi, hbmSize, 64 * mebi, 32 * mebi,
    0x20000, 0x40000, 0x10000].getD g hbmSize

/-- An aligned word of a group. -/
def wordOk (g addr : Nat) : Bool := decide (addr % 8 = 0) && decide (addr < groupSpan g)

/-- The well-formed commands. A command that is not listed carries no operand that could be out of range. -/
def Instr.wf : Instr → Bool
  | .shRegisterWrite _ addr width _ => accessOk addr width
  | .rcRead _ addr width _ => accessOk addr width
  | .registerWrite _ addr width _ => accessOk addr width
  | .tjSample temps => decide (temps.length = 16)
  | .hbmRequest _ addr _ => decide (addr < hbmSize)
  | .memoryRead grp addr _ _ => wordOk grp addr
  | .memoryWrite grp addr _ bytes => decide (addr + bytes.length ≤ groupSpan grp)
  | .ccResult _ _ _ results => decide (1 ≤ results.length) && decide (results.length ≤ 5)
  | .tmrVote _ copies => decide (copies.length = 3)
  | _ => true

end Sys2Proof
end

