-- ==== Sys2Proof/Machine/Ops.lean ====
section
/-! DEFINITION. The named operations over the register file, the keyed lists and memories, and what every unit does to
report: journal records, event lines, leave, halts. -/

namespace Sys2Proof.Machine

open Sys2Proof

/-! ## Keyed lists -/

/-- The value listed at a key. -/
def mget {α : Type} : Map α → Nat → Option α
  | [], _ => none
  | (a, v) :: r, k => if a = k then some v else mget r k

/-- The list with a value put at a key, in its place in rising order. -/
def mset {α : Type} : Map α → Nat → α → Map α
  | [], k, v => [(k, v)]
  | (a, w) :: r, k, v => if k < a then (k, v) :: (a, w) :: r else if k = a then (k, v) :: r else (a, w) :: mset r k v

/-- The list without a key. -/
def mdel {α : Type} : Map α → Nat → Map α
  | [], _ => []
  | (a, w) :: r, k => if a = k then mdel r k else (a, w) :: mdel r k

/-- The number listed at a key, 0 where none is. -/
def mnat (m : Map Nat) (k : Nat) : Nat := (mget m k).getD 0

/-- The list with a number added to a key's; a sum of 0 is not listed. -/
def madd (m : Map Nat) (k n : Nat) : Map Nat := if n = 0 then m else mset m k (mnat m k + n)

/-- Keys strictly rising, all above `lo`. -/
def Map.risingFrom {α : Type} : Nat → Map α → Bool
  | _, [] => true
  | lo, (a, _) :: r => decide (lo ≤ a) && Map.risingFrom (a + 1) r

/-! ## Numbers -/

/-- The signed value of the low w bits of a number. -/
def sgn (w v : Nat) : Int := let u := v % 2 ^ w; if u < 2 ^ (w - 1) then (u : Int) else (u : Int) - 2 ^ w

/-- The w-bit two's-complement field of an integer. -/
def ofInt (w : Nat) (i : Int) : Nat := (i % ((2 ^ w : Nat) : Int)).toNat

/-- Bits [lo + w − 1 : lo] of a number. -/
def bits (v lo w : Nat) : Nat := v / 2 ^ lo % 2 ^ w

/-- Bit n of a number. -/
def bit (v n : Nat) : Bool := v / 2 ^ n % 2 = 1

/-- A number with bit n set. -/
def setBit (v n : Nat) : Nat := if bit v n then v else v + 2 ^ n

/-- A number with bit n clear. -/
def clrBit (v n : Nat) : Nat := if bit v n then v - 2 ^ n else v

/-- Division to the nearest integer, a tie to the even one; 0 for a divisor of 0. -/
def rne (a b : Int) : Int :=
  if b = 0 then 0 else
  let n := if b < 0 then -a else a
  let d : Int := b.natAbs
  let q := n / d
  let r := n % d
  if 2 * r < d then q else if 2 * r > d then q + 1 else if q % 2 = 0 then q else q + 1

/-- Division rounding up, on naturals. -/
def cdiv (a b : Nat) : Nat := (a + b - 1) / b

def b2n (b : Bool) : Nat := if b then 1 else 0

/-- The largest r with r² ≤ n, found in the 64 bits of the answer from the top (fuel bits). -/
def isqrtAux : Nat → Nat → Nat → Nat
  | 0, _, r => r
  | k + 1, n, r => let t := r + 2 ^ k; isqrtAux k n (if t * t ≤ n then t else r)

/-- The integer square root of a number below 2^128, rounded down. -/
def isqrt (n : Nat) : Nat := isqrtAux 64 n 0

/-- An element of a list changed. -/
def lmod {α : Type} (l : List α) (i : Nat) (f : α → α) : List α :=
  match l[i]? with
  | some a => l.set i (f a)
  | none => l

/-! ## The register file -/

/-- A field's value: what is listed, else its reset value. -/
def State.f (s : State) (x : Fld) : Nat := (mget s.regs x.key).getD x.reset

/-- The register file with a field set; a field at its reset value is not listed. -/
def setFld (m : Map Nat) (x : Fld) (v : Nat) : Map Nat :=
  if v % 2 ^ x.w = x.reset then mdel m x.key else mset m x.key (v % 2 ^ x.w)

/-- A field set to the low bits of a value. -/
def State.put (s : State) (x : Fld) (v : Nat) : State := { s with regs := setFld s.regs x v }

/-- A field read as a signed number. -/
def State.fs (s : State) (x : Fld) : Int := sgn x.w (s.f x)

/-- A field set to a signed number. -/
def State.puts (s : State) (x : Fld) (i : Int) : State := s.put x (ofInt x.w i)

/-- A one-bit field set. -/
def State.flag (s : State) (x : Fld) : State := s.put x 1

/-- A counter raised, saturating at the all-ones value of its field (R98). -/
def State.count (s : State) (x : Fld) (n : Nat) : State := s.put x (min (s.f x + n) (2 ^ x.w - 1))

/-- Whether a one-bit field is set. -/
def State.on (s : State) (x : Fld) : Bool := s.f x = 1

/-- Whether a data-path unit with an ENABLE field works: it stays stopped until stage 6 of the boot (R446). -/
def State.runs (s : State) (x : Fld) : Bool := s.on x && s.power.released

/-- Whether the copies of a triple disagree: its voter holds what it drives, and a write of the owner is discarded (R418). -/
def State.tripleHeld (s : State) (i : Nat) : Bool := (mget s.mem.copies i).isSome

/-- The owner's write of a triple's register field. -/
def State.putOwned (s : State) (i : Nat) (x : Fld) (v : Nat) : State := if s.tripleHeld i then s else s.put x v

/-- A field of a unit's active bank (R29). `u` is the switching point of R31. -/
def State.act (s : State) (u : Nat) (x : Fld) : Nat :=
  match s.root.banks[u]? with
  | some b => (mget b.vals x.key).getD x.reset
  | none => x.reset

/-- A field of a unit's active bank, signed. -/
def State.acts (s : State) (u : Nat) (x : Fld) : Int := sgn x.w (s.act u x)

/-- A field of the staged bank. -/
def State.stg (s : State) (x : Fld) : Nat := (mget s.root.staged.vals x.key).getD x.reset

/-- A field of the bank that a generation names: a unit's active one, else the staged one (R142). -/
def State.genF (s : State) (u gen : Nat) (x : Fld) : Nat :=
  match s.root.banks[u]? with
  | some b => if b.gen = gen then s.act u x else s.stg x
  | none => s.stg x

/-- The generation of a switching point's active bank. -/
def State.actGen (s : State) (u : Nat) : Nat := ((s.root.banks[u]?).map Bank.gen).getD 0

/-- Whether one of a switching point's two banks holds a generation (R31). -/
def State.genKnown (s : State) (u gen : Nat) : Bool := decide (s.actGen u = gen) || decide (s.root.staged.gen = gen)

/-! ## Free values -/

/-- A free number below 2^w and the state that has used it (log entry 4). -/
def State.free (s : State) (w : Nat) : Nat × State :=
  (Config.freeNat s.freeCount % 2 ^ w, { s with freeCount := s.freeCount + 1 })

/-- The word of a triple that is no register field: 0 is not listed. -/
def setTriple (m : Map Nat) (i v : Nat) : Map Nat := if v = 0 then mdel m i else mset m i v

/-- Sage writes the pointer word of a key slot, triple 56 + slot (R417). -/
def State.setPointer (s : State) (i : Nat) (loaded : Bool) : State :=
  if s.tripleHeld i then s
  else { s with mem := { s.mem with tmr := mset s.mem.tmr i (Config.slotPointer i loaded % 2 ^ 64) } }

/-! ## Time -/

/-- Thyme's ns form: SEC·10⁹ + NS (R301). -/
def State.now (s : State) : Nat := s.thyme.sec * 1000000000 + s.thyme.ns

/-- Thyme time in 100 ps. -/
def State.now100 (s : State) : Nat := s.now * 10 + s.thyme.frac * 10 / 2 ^ 32

/-- The time since PORn in 100 ps, 1.6 ns a SEQ tick (R26): waits and ages are measured by it, and no setting of Thyme changes them. -/
def State.mono100 (s : State) : Nat := s.tick * 16

/-- Thyme time in 100 ps at an instant since PORn, taken from the present time at 1 ns per ns. -/
def State.timeAt (s : State) (t : Nat) : Nat := ((s.now100 : Int) - s.mono100 + t).toNat

/-- What is still to come with one thing more, behind what comes at the same time. -/
def insLater : List (Nat × Later) → Nat → Later → List (Nat × Later)
  | [], t, l => [(t, l)]
  | e :: r, t, l => if t < e.1 then (t, l) :: e :: r else e :: insLater r t l

/-- Something comes at a time since PORn. -/
def State.at (s : State) (t : Nat) (l : Later) : State := { s with later := insLater s.later t l }

/-! ## Output -/

/-- What the device sends is put at the end of its output. -/
def State.send (s : State) (o : Output) : State := { s with out := s.out ++ [o] }

/-- The state of a pin from power-up until its unit drives it (R461). -/
def Pin.atReset : Pin → PinState
  | .axDir _ => .highZ
  | .qspiIo _ => .highZ
  | .tdo => .highZ
  | .qspiCs => .high
  | .inputA => .pullDown
  | .inputC => .pullDown
  | .gp _ => .pullDown
  | .trst => .pullDown
  | .tms => .pullUp
  | .tdi => .pullUp
  | .stb _ => .diffLow
  | .axStep _ => .low
  | .axEn _ => .low
  | .axCur _ => .low
  | .pco _ => .low
  | .em _ _ => .low
  | .tp _ => .low
  | .sp _ _ => .low
  | .seClk _ => .low

/-- The state of a pin: what its unit drives, else what R461 gives. A pulse leaves its pin as it found it. -/
def State.pin (s : State) (p : Pin) : PinState := ((s.power.driven.find? (fun e => decide (e.1 = p))).map Prod.snd).getD p.atReset

/-- A unit drives a pin. -/
def State.drive (s : State) (p : Pin) (high : Bool) : State :=
  { s with power := { s.power with
      driven := (p, if high then .high else .low) :: s.power.driven.filter (fun e => !decide (e.1 = p)) } }

/-- Every pin that is driven returns to its state of R461. -/
def State.releasePins (s : State) : State :=
  let l := s.power.driven.filter (fun e => !decide (e.2 = e.1.atReset))
  l.foldl (fun t e => t.send (.pin e.1 e.1.atReset)) { s with power := { s.power with driven := [] } }

/-! ## Memory -/

/-- The byte at an address; a byte that nothing has written reads 0 (log entry 3). -/
def rdByte : List Host.Cell → Nat → Byte
  | [], _ => 0
  | (a, v) :: r, k => if a = k then v else rdByte r k

/-- Memory without an address. -/
def delByte : List Host.Cell → Nat → List Host.Cell
  | [], _ => []
  | (a, w) :: r, k => if a = k then delByte r k else (a, w) :: delByte r k

/-- Memory with a nonzero byte put at an address, in its place in rising order. -/
def insByte : List Host.Cell → Nat → Byte → List Host.Cell
  | [], k, v => [(k, v)]
  | (a, w) :: r, k, v => if k < a then (k, v) :: (a, w) :: r else if k = a then (k, v) :: r else (a, w) :: insByte r k v

/-- Memory with a byte written: a 0 is not listed. -/
def wrByte (m : List Host.Cell) (a : Nat) (v : Byte) : List Host.Cell := if v = 0 then delByte m a else insByte m a v

/-- Bytes written at rising addresses. -/
def wrBytes : List Host.Cell → Nat → List Byte → List Host.Cell
  | m, _, [] => m
  | m, a, v :: r => wrBytes (wrByte m a v) (a + 1) r

/-- The n bytes from an address. -/
def rdBytes (m : List Host.Cell) (a : Nat) : Nat → List Byte
  | 0 => []
  | n + 1 => rdByte m a :: rdBytes m (a + 1) n

/-- The number that bytes spell, least significant first (R12). -/
def ofLE : List Byte → Nat
  | [] => 0
  | b :: r => b.toNat + 256 * ofLE r

/-- The n bytes of a number, least significant first. -/
def toLE : Nat → Nat → List Byte
  | 0, _ => []
  | n + 1, v => BitVec.ofNat 8 v :: toLE n (v / 256)

/-- The number that bytes spell, most significant first. -/
def ofBE (l : List Byte) : Nat := l.foldl (fun a b => a * 256 + b.toNat) 0

/-- The n bytes of a number, most significant first. -/
def toBE (n v : Nat) : List Byte := (toLE n v).reverse

/-- A little-endian number of n bytes read from memory. -/
def rdLE (m : List Host.Cell) (a n : Nat) : Nat := ofLE (rdBytes m a n)

/-- A number written to memory as n little-endian bytes. -/
def wrLE (m : List Host.Cell) (a n v : Nat) : List Host.Cell := wrBytes m a (toLE n v)

/-- Addresses strictly rising from `lo`, no listed byte 0: the canonical form of a memory. -/
def memRising : Nat → List Host.Cell → Bool
  | _, [] => true
  | lo, (a, v) :: r => decide (lo ≤ a) && decide (v ≠ 0) && memRising (a + 1) r

/-- A memory is in canonical form. -/
def Memory.wf (m : List Host.Cell) : Bool := memRising 0 m

/-- Whether two ranges of addresses overlap. -/
def overlaps (a n b m : Nat) : Bool := decide (0 < n) && decide (0 < m) && decide (a < b + m) && decide (b < a + n)

/-- The channel of an HBM address (R401). -/
def State.hbmChannel (s : State) (a : Nat) : Nat :=
  let g := max 8 (min 16 (s.f HBM_MAP_CFG.GRAIN))
  let q := a / 2 ^ g
  if s.on HBM_MAP_CFG.HASH then ((q.xor (q / 64)).xor (q / 4096)) % 64 else q % 64

/-- The channel-local address of an HBM address (R401). -/
def State.hbmLocal (s : State) (a : Nat) : Nat :=
  let g := max 8 (min 16 (s.f HBM_MAP_CFG.GRAIN))
  a / 2 ^ g / 64 * 2 ^ g + a % 2 ^ g

/-- The memory group of an HBM address: its stack (R401, R409). -/
def State.hbmGroup (s : State) (a : Nat) : Nat := s.hbmChannel a / 16

/-- Bytes of a block that a Cullet entry redirects (R414). -/
def blockSize (g : Nat) : Nat := if g < 4 then 256 else 64

/-- The entry that redirects the block of an address. -/
def State.cullEntry (s : State) (g a : Nat) : Option Nat :=
  (List.range 16).find? (fun e => s.on (ECC_CULLET_ADDR.VALID g e) &&
    decide (s.f (ECC_CULLET_ADDR.ADDR g e) / blockSize g = a / blockSize g))

/-- The mode in which the word at an address is checked: a spare in word mode, any other word in its group's (R413, R414). -/
def State.cellMode (s : State) (g a : Nat) : Nat := if (s.cullEntry g a).isSome then 0 else s.f (ECC_GRP_CFG.MODE g)

/-- What a read of the HBM word at an address finds, its data as it stands and its check bits as stored. -/
def State.hbmChecked (s : State) (a : Nat) : Checked :=
  let w := a / 8 * 8
  if w ∈ s.mem.poison then .bad
  else match mget s.mem.checks w with
    | none => .good
    | some c => checkedRead (s.cellMode (s.hbmGroup w) w) (rdLE s.mem.hbm w 8) c

/-- Whether a range of HBM holds an uncorrectable word (R409). -/
def State.hbmBad (s : State) (a n : Nat) : Bool :=
  let hit (w : Nat) : Bool := overlaps a n w 8 && decide (s.hbmChecked w = .bad)
  s.mem.poison.any hit || s.mem.checks.any (fun e => hit e.1)

/-- The stacks that a range of HBM lies in; no grain is smaller than 256 bytes. -/
def State.stacksOf (s : State) (a n : Nat) : List Nat :=
  if n = 0 then [] else (List.range ((a + n - 1) / 256 - a / 256 + 1)).map (fun i => s.hbmGroup ((a / 256 + i) * 256))

/-- The check bits of a word of HBM after bytes of a range have been written, where they are not those of its data: in byte mode the
bytes outside the range keep theirs (R411). -/
def State.mixedCheck (s : State) (hbm : List Host.Cell) (a n w c : Nat) : Option Nat :=
  let mode := s.cellMode (s.hbmGroup w) w
  let new := rdLE hbm w 8
  let c1 := mixCheck mode new c (a - w) (min (a + n) (w + 8) - max a w)
  if c1 = checkOf mode new then none else some c1

/-- A byte range of HBM written with good check bits, and that HBM and its groups have been written since PORn (R403, R413). -/
def State.hbmWrite (s : State) (a : Nat) (l : List Byte) : State :=
  let hbm := wrBytes s.mem.hbm a l
  { s with mem := { s.mem with
      hbm := hbm, hbmWritten := true,
      grpWritten := (s.stacksOf a l.length).foldl (fun (w : List Bool) g => w.set g true) s.mem.grpWritten,
      checks := s.mem.checks.filterMap (fun (e : Nat × Nat) =>
        if overlaps a l.length e.1 8 then (s.mixedCheck hbm a l.length e.1 e.2).map (Prod.mk e.1) else some e),
      poison := s.mem.poison.filter (fun w => !overlaps a l.length w 8) } }

/-- A byte of HBM as the checker delivers it: of a corrected word where one is needed. -/
def State.hbmByte (s : State) (a : Nat) : Byte :=
  match s.hbmChecked a with
  | .corrected d _ => BitVec.ofNat 8 (d / 2 ^ (8 * (a % 8)))
  | _ => rdByte s.mem.hbm a

/-- Bytes of HBM as the checker delivers them. -/
def State.hbmRead (s : State) (a n : Nat) : List Byte :=
  if s.mem.checks.isEmpty then rdBytes s.mem.hbm a n else (List.range n).map (fun i => s.hbmByte (a + i))

/-- A little-endian number of n bytes of HBM. -/
def State.hbmLE (s : State) (a n : Nat) : Nat := ofLE (s.hbmRead a n)

def mib : Nat := 1048576

/-- The regions of R25 that no host path reaches, laid out by P ≤ 8 or P ≥ 9 (R386): the ingest area, the stripe store ring and
the cell cache, as (base, size). -/
def hiddenRegions (wide : Bool) : List (Nat × Nat) :=
  if wide then [(0x06000000, 2048 * mib), (0x86000000, 16672 * mib), (0x498000000, 46720 * mib)]
  else [(0x06000000, 2048 * mib), (0x86000000, 8352 * mib), (0x290000000, 55040 * mib)]

/-- Whether a range meets one of them; before the first admission there are none (R371). -/
def State.hidden (s : State) (a n : Nat) : Bool :=
  s.host.admitted && (hiddenRegions s.host.wide).any (fun r => overlaps a n r.1 r.2)

/-! ## CRC-32C (the Castagnoli polynomial, reflected, initial value and final XOR all ones) -/

/-- One bit of a reflected CRC whose polynomial, bit-reversed, is `p`. -/
def crcBit (p c : Nat) : Nat := if c % 2 = 1 then (c / 2).xor p else c / 2

def crcBits (p : Nat) : Nat → Nat → Nat
  | 0, c => c
  | n + 1, c => crcBits p n (crcBit p c)

/-- A byte taken into a reflected CRC. -/
def crcByte (p c : Nat) (b : Byte) : Nat := crcBits p 8 (c.xor b.toNat)

/-- CRC-32C of bytes. -/
def crc32c (l : List Byte) : Nat := (l.foldl (crcByte 0x82F63B78) 0xFFFFFFFF).xor 0xFFFFFFFF

/-! ## Journal records (R429, R430, R470) -/

/-- An event argument: its width in bits by R470 and its value, signed where negative. -/
structure Arg where
  w : Nat
  v : Int

def a8 (v : Nat) : Arg := ⟨8, v⟩
def a16 (v : Int) : Arg := ⟨16, v⟩
def a32 (v : Nat) : Arg := ⟨32, v⟩
def a36 (v : Nat) : Arg := ⟨36, v⟩
def a64 (v : Int) : Arg := ⟨64, v⟩

/-- A signed argument of 32 bits, saturated at the nearest limit (R470). -/
def s32 (v : Int) : Arg := ⟨32, max (-2147483648) (min 2147483647 v)⟩

/-- The words of an argument, low word first (R430). -/
def Arg.words (a : Arg) : List Nat :=
  if a.w ≤ 32 then [ofInt 32 a.v] else [ofInt 32 a.v, ofInt 32 (a.v / 2 ^ 32)]

/-- Arguments placed in the words that remain, and whether one was cut or dropped (R430 step 3). -/
def placeArgs : List Arg → Nat → List Nat × Bool
  | [], n => (List.replicate n 0, false)
  | a :: r, n =>
    let w := a.words
    let (t, c) := placeArgs r (n - w.length)
    (w.take n ++ t, c || decide (n < w.length))

/-- The first four short arguments, and what stays outside word 0 (R430 step 1). -/
def splitShort : List Arg → Nat → List Nat × List Arg
  | [], _ => ([], [])
  | a :: r, k =>
    if a.w ≤ 8 ∧ 0 < k then let (p, q) := splitShort r (k - 1); (ofInt 8 a.v :: p, q)
    else let (p, q) := splitShort r k; (p, a :: q)

/-- Bytes packed into a word, the first lowest. -/
def packBytes : List Nat → Nat
  | [] => 0
  | b :: r => b + 256 * packBytes r

/-- The four argument words of a record and TRUNC (R430). -/
def packArgs (l : List Arg) : List Nat × Bool :=
  if ((l.map Arg.words).flatten).length ≤ 4 then placeArgs l 4
  else if l.any (fun a => decide (a.w ≤ 8)) then
    let (p, q) := splitShort l 4
    let (t, c) := placeArgs q 3
    (packBytes p :: t, c)
  else placeArgs l 4

/-- The record that an event makes, stamped with Thyme time (R34, R429; log entry 6). -/
def State.record (s : State) (code cls : Nat) (withheld : Bool) (args : List Arg) : Record :=
  let (w, t) := packArgs args
  { time := s.now, src := code / 256, cls := cls, trunc := t, withheld := withheld, code := code,
    seq := s.f (EVJ_SEQ.SEQ (code / 256)), args := w }

/-- An event registers: its record is on its way to the journal and its source's SEQ rises, wrapping (R429). -/
def State.journalEvent (s : State) (code cls : Nat) (withheld : Bool) (args : List Arg) : State :=
  let r := s.record code cls withheld args
  { s.put (EVJ_SEQ.SEQ (code / 256)) (r.seq + 1) with
    journal := { s.journal with inFlight := s.journal.inFlight ++ [r] } }

/-- An event of class 0 or 1. -/
def State.event (s : State) (code cls : Nat) (args : List Arg) : State := s.journalEvent code cls false args

/-! ## Event lines (R290, R291) -/

/-- A pulse of a line: its bit is set in all four pending registers; a pulse that finds the bit set in a thread is merged,
counted and flagged. -/
def State.pulse (s : State) (line : Nat) : State :=
  let m := s.gaf.threads.countP (fun t => bit t.pend.toNat line)
  let s1 := { s with gaf := { s.gaf with
    threads := s.gaf.threads.map (fun t => { t with pend := BitVec.ofNat 64 (setBit t.pend.toNat line) }) } }
  if m = 0 then s1 else (s1.count GAF_CNT_EVMERGE.COUNT 1).flag GAF_STATUS.EV_MERGE

/-! ## Doorbells and vectors (R368, R377 to R379) -/

/-- Whether the mask bit of a vector's entry of the MSI-X table is set (R367, log entry 27). -/
def State.msixMasked (s : State) (v : Nat) : Bool := bit (rdLE s.host.msixTable (16 * v + 12) 1) 0

/-- An MSI-X vector is requested: sent, or pending while its entry is masked. -/
def State.msix (s : State) (v : Nat) : State :=
  if s.msixMasked v then { s with host := { s.host with pba := setBit s.host.pba v } } else s.send (.msix v)

/-- The pending vectors that are no longer masked are sent. -/
def State.msixUnmask (s : State) : State :=
  (List.range 32).foldl (fun (t : State) v =>
    if bit t.host.pba v ∧ t.msixMasked v = false then
      ({ t with host := { t.host with pba := t.host.pba - 2 ^ v } }).send (.msix v)
    else t) s

/-- Whether a unit of stage motion is in one of the states 1 to 5. -/
def State.moving (s : State) : Bool := let m := s.f MOT_STATUS.STATE; decide (1 ≤ m) && decide (m ≤ 5)

/-! ## Safe halt (R426) -/

/-- A class 4 event: journalled; MOT_STATUS.STATE reads 6 from its registration, and safe halt follows (R426). -/
def State.fatal (s : State) (code : Nat) (withheld : Bool) (args : List Arg) : State :=
  let q := s.f (EVJ_SEQ.SEQ (code / 256))
  let s1 := (s.journalEvent code 4 withheld args).put MOT_STATUS.STATE 6
  match s1.journal.safePending with
  | some _ => s1
  | none => if s1.on EVJ_STATUS.SAFE then s1
            else { s1 with journal := { s1.journal with safePending := some (code, code / 256, q) } }

/-! ## Leave (R451, R452) -/

/-- Units of leave granted and not returned. -/
def leaveUsed (l : List Leave) : Nat := (l.map Leave.units).sum

/-- USED and WAITING follow the grants and the requests. -/
def State.showLeave (s : State) : State :=
  (s.put PGV_STATE.USED (leaveUsed s.power.grants)).put PGV_STATUS.WAITING (b2n (!s.power.waiting.isEmpty))

/-- Whether a request for n units would be granted at once (R451, R452). -/
def State.grantable (s : State) (n : Nat) : Bool :=
  decide (leaveUsed s.power.grants + n ≤ s.f PGV_STATE.EFF) ||
    (decide (s.f PGV_STATE.EFF < n) && decide (leaveUsed s.power.grants = 0))

/-- The unit of a request that must wait shows LEAVE_WAIT. -/
def State.flagWait (s : State) (who : Requester) : State :=
  match who with
  | .marver _ _ => s.flag MRV_STATUS.LEAVE_WAIT
  | .coarse => s.flag GLY_STATUS.LEAVE_WAIT
  | .pixel => s.flag GLY_STATUS.LEAVE_WAIT
  | .parison => s.flag PAR_STATUS.LEAVE_WAIT
  | .training _ => s
  | .sage _ => s

/-- A request for leave, put behind those that wait. -/
def State.askLeave (s : State) (who : Requester) (units : Nat) : State :=
  let s1 := if s.power.waiting.isEmpty && s.grantable units then s else s.flagWait who
  ({ s1 with power := { s1.power with waiting := s1.power.waiting ++ [Leave.mk who units s1.mono100] } }).showLeave

/-- Whether a requester holds leave. -/
def State.holdsLeave (s : State) (who : Requester) : Bool := s.power.grants.any (fun g => decide (g.who = who))

/-- Whether a requester waits for leave or holds it. -/
def State.askedLeave (s : State) (who : Requester) : Bool :=
  s.holdsLeave who || s.power.waiting.any (fun g => decide (g.who = who))

/-- CORE cycles in a time of 100 ps (R26: 1.2 GHz). -/
def coreCycles (t : Nat) : Nat := t * 12 / 100

/-- CORE cycles that a request has waited, counted by its unit (R128, R144, R187). -/
def State.countWait (s : State) (w : Leave) : State :=
  let n := coreCycles (s.mono100 - w.since)
  match w.who with
  | .marver _ _ => s.count MRV_CNT_LEAVE_WAIT.COUNT n
  | .coarse => s.count GLY_CNT_LEAVE_WAIT.COUNT n
  | .pixel => s.count GLY_CNT_LEAVE_WAIT.COUNT n
  | .parison => s.count PAR_CNT_LEAVE_WAIT.COUNT n
  | .training _ => s
  | .sage _ => s

/-- CTRL cycles in which a request waited, counted up to now: since the oldest request that waits. -/
def State.countGovWait (s : State) : State :=
  match s.power.waiting with
  | [] => s
  | w :: _ =>
    let t := max s.power.waitMark w.since
    { s.count PGV_CNT_WAIT.COUNT ((s.mono100 - t) / 10) with power := { s.power with waitMark := s.mono100 } }

/-- The wait of a requester ends, by a grant or because it withdraws: its cycles are counted. -/
def State.endWait (s : State) (who : Requester) : State :=
  match s.power.waiting.find? (fun w => decide (w.who = who)) with
  | some w => (s.countWait w).countGovWait
  | none => s

/-- A requester returns its leave, or withdraws its request. -/
def State.giveLeave (s : State) (who : Requester) : State :=
  let s1 := s.endWait who
  ({ s1 with power := { s1.power with
      grants := s1.power.grants.filter (fun g => !decide (g.who = who)),
      waiting := s1.power.waiting.filter (fun g => !decide (g.who = who)) } }).showLeave

/-! ## Job contexts -/

/-- A job context. -/
def State.ctx (s : State) (c : Nat) : JobCtx := s.gather.ctxs.getD c JobCtx.empty

/-- A job context changed. -/
def State.modCtx (s : State) (c : Nat) (f : JobCtx → JobCtx) : State :=
  { s with gather := { s.gather with ctxs := lmod s.gather.ctxs c f } }

/-- Whether a context is open (R87). -/
def State.ctxOpen (s : State) (c : Nat) : Bool := s.on (GTH_CTX_CFG.OPEN c)

/-- Whether a context holds its key with DIAG = 1 (R345). -/
def State.diag (s : State) (c : Nat) : Bool :=
  s.ctxOpen c && (match s.sage.jobKeys[c]? with | some (some k) => k.diag | _ => false)

/-- Whether a job holds its context with DIAG = 1: its layout positions are shown (R345). -/
def State.diagJob (s : State) (c job : Nat) : Bool := s.diag c && decide ((s.ctx c).job = job)

end Sys2Proof.Machine
end

