-- ==== Sys2Proof/Machine/Wire.lean ====
section
/-! DEFINITION. The line coding of the blanker link and of the deflection links: 66-bit blocks, the scrambler, block lock, and the words
of plane frames and return messages (R196 to R203, R215). -/

namespace Sys2Proof.Machine

open Sys2Proof

/-! ## Blocks (R196, R197) -/

/-- A data block: header 0b01. -/
def Block.data (w : Nat) : Block := { hdr := 1, payload := BitVec.ofNat 64 w }

/-- A control block: header 0b10, its type in payload bits [7:0]. -/
def Block.control (w : Nat) : Block := { hdr := 2, payload := BitVec.ofNat 64 w }

def idleType : Nat := 0x1E
def markerType : Nat := 0x4B
def trailerType : Nat := 0x66
def retHeaderType : Nat := 0x2D
def retTrailerType : Nat := 0x35

/-- The types of control blocks. -/
def blockTypes : List Nat := [idleType, markerType, trailerType, retHeaderType, retTrailerType]

/-- Whether a descrambled block is valid. -/
def Block.valid (b : Block) : Bool := decide (b.hdr = 1) || (decide (b.hdr = 2) && decide (b.payload.toNat % 256 ∈ blockTypes))

/-- The fill of a line. -/
def idleBlock : Block := Block.control idleType

/-- The 66 bits of a block in the order in which they leave: header bit 0 first, then payload bit 0. -/
def Block.lineBits (b : Block) : List Bool := [bit b.hdr 0, bit b.hdr 1] ++ (List.range 64).map (bit b.payload.toNat)

/-! ## The scrambler x⁵⁸ + x³⁹ + 1 (R196) -/

/-- The last 58 bits of a scrambled stream, the oldest lowest, after n more. -/
def pushBits (h o n : Nat) : Nat := (h + o * 2 ^ 58) / 2 ^ n % 2 ^ 58

/-- The next n bits of a scrambled stream, n ≤ 39, from n bits and the last 58: each is XORed with the bits 58 and 39 before it. -/
def scrambleBits (h v n : Nat) : Nat := (v.xor (h.xor (h / 2 ^ 19))) % 2 ^ n

/-- A payload scrambled, and the last 58 bits behind it. -/
def scramble (h : Nat) (w : Word) : Word × Nat :=
  let lo := scrambleBits h w.toNat 39
  let h1 := pushBits h lo 39
  let hi := scrambleBits h1 (w.toNat / 2 ^ 39) 25
  (BitVec.ofNat 64 (lo + hi * 2 ^ 39), pushBits h1 hi 25)

/-- A scrambled payload read back from the last 58 bits received, and those bits behind it. -/
def descramble (h : Nat) (w : Word) : Word × Nat :=
  let lo := w.toNat % 2 ^ 39
  let h1 := pushBits h lo 39
  let hi := w.toNat / 2 ^ 39
  (BitVec.ofNat 64 (scrambleBits h lo 39 + scrambleBits h1 hi 25 * 2 ^ 39), pushBits h1 hi 25)

/-- Blocks with their payloads scrambled in turn; headers are not. -/
def scrambleBlocks : Nat → List Block → List Block × Nat
  | h, [] => ([], h)
  | h, b :: r =>
    let (w, h1) := scramble h b.payload
    let (l, h2) := scrambleBlocks h1 r
    ({ b with payload := w } :: l, h2)

/-- The scrambler behind n IDLE blocks. -/
def idleRun : Nat → Nat → Nat
  | 0, h => h
  | n + 1, h => idleRun n (scramble h idleBlock.payload).2

/-! ## Block lock (R203) -/

/-- Whether a header is valid: 0b01 or 0b10. -/
def headerOk (hdr : Nat) : Bool := decide (hdr = 1) || decide (hdr = 2)

/-- 64 consecutive valid headers, newest first, give block lock. -/
def lockGained (hdrs : List Nat) : Bool := decide (64 ≤ hdrs.length) && (hdrs.take 64).all headerOk

/-- 16 invalid headers within the last 64 blocks lose it. -/
def lockLost (hdrs : List Nat) : Bool := decide (16 ≤ (hdrs.take 64).countP (fun h => !headerOk h))

/-! ## The plane frame (R198 to R201) -/

/-- The MARKER payload (R199). -/
def markerWord (lane ftype flash plane alive : Nat) (first replay ks : Bool) (kslot : Nat) : Nat :=
  markerType + lane * 2 ^ 8 + ftype * 2 ^ 14 + flash % 2 ^ 24 * 2 ^ 16 + plane * 2 ^ 40 + alive * 2 ^ 44 + b2n first * 2 ^ 52 +
    b2n replay * 2 ^ 53 + b2n ks * 2 ^ 54 + kslot * 2 ^ 56

/-- The CRC of a frame: over the payloads of blocks 0 to 64 before the keystream (R201). -/
def frameCrc (marker : Nat) (data : List Word) : Nat :=
  crc32c (toLE 8 marker ++ (data.map (fun w => toLE 8 w.toNat)).flatten)

/-- The TRAILER payload (R201). -/
def trailerWord (echo crc : Nat) : Nat := trailerType + echo % 256 * 2 ^ 8 + crc * 2 ^ 32

/-- The 66 blocks of a frame (R198). -/
def frameBlocks (marker : Nat) (words : List Word) (trailer : Nat) : List Block :=
  Block.control marker :: words.map (fun w => Block.data w.toNat) ++ [Block.control trailer]

/-! ## Return messages (R215, R216) -/

/-- A return message: its type, ALIVE, the type-dependent field AF of 40 bits and the body of 128. -/
structure RetMsg where
  mtype : Nat
  alive : Nat
  af    : Nat
  body  : Nat
  deriving DecidableEq, Repr

/-- The CRC of a message over the payloads of its blocks 0 to 2. -/
def retCrc (h b0 b1 : Nat) : Nat := crc32c (toLE 8 h ++ toLE 8 b0 ++ toLE 8 b1)

/-- The payload of RET_HEADER. -/
def RetMsg.header (m : RetMsg) : Nat := retHeaderType + m.mtype % 16 * 2 ^ 8 + m.alive % 256 * 2 ^ 16 + m.af % 2 ^ 40 * 2 ^ 24

/-- The payloads of a message's four blocks. -/
def RetMsg.blocks (m : RetMsg) : List Nat :=
  let b0 := m.body % 2 ^ 64
  let b1 := m.body / 2 ^ 64 % 2 ^ 64
  [m.header, b0, b1, retTrailerType + retCrc m.header b0 b1 * 2 ^ 32]

/-- Whether payloads are those of a return message's four blocks. -/
def isReturn : List Nat → Bool
  | [h, _, _, t] => decide (h % 256 = retHeaderType) && decide (t % 256 = retTrailerType)
  | _ => false

/-- A message with a good CRC and a known MTYPE. -/
def readReturn : List Nat → Option RetMsg
  | [h, b0, b1, t] =>
    if bits t 32 32 = retCrc h b0 b1 ∧ 1 ≤ bits h 8 4 ∧ bits h 8 4 ≤ 5 then
      some { mtype := bits h 8 4, alive := bits h 16 8, af := bits h 24 40, body := b0 + b1 * 2 ^ 64 }
    else none
  | _ => none

/-- Numbers of w bits packed into one, the first lowest. -/
def packBits (w : Nat) : List Nat → Nat
  | [] => 0
  | v :: r => v % 2 ^ w + 2 ^ w * packBits w r

/-- ACK (MTYPE 1). -/
def ackMsg (alive flash plane ftype ack nak : Nat) : RetMsg :=
  { mtype := 1, alive := alive, af := flash % 2 ^ 24 + plane % 16 * 2 ^ 24 + ftype % 4 * 2 ^ 28, body := ack % 256 + nak % 256 * 2 ^ 8 }

/-- TEMP (MTYPE 2). -/
def tempMsg (alive valid : Nat) (ovt : Bool) (sensors : List Int) : RetMsg :=
  { mtype := 2, alive := alive, af := valid % 256 + b2n ovt * 2 ^ 8, body := packBits 16 ((sensors.take 8).map (ofInt 16)) }

/-- CC_RESULT (MTYPE 3). -/
def ccMsg (alive first : Nat) (results : List (Nat × Nat)) : RetMsg :=
  { mtype := 3, alive := alive, af := first % 2 ^ 18 + results.length % 8 * 2 ^ 18,
    body := packBits 24 ((results.take 5).map (fun r => r.1 % 4096 + r.2 % 4096 * 2 ^ 12)) }

/-- TAP_REQ (MTYPE 4). -/
def tapMsg (alive lane pre main post : Nat) (eqDone : Bool) : RetMsg :=
  { mtype := 4, alive := alive, af := lane % 64 + pre % 4 * 2 ^ 6 + main % 4 * 2 ^ 8 + post % 4 * 2 ^ 10 + b2n eqDone * 2 ^ 12, body := 0 }

/-- LINK_STATUS (MTYPE 5). -/
def statusMsg (alive locked aligned : Nat) : RetMsg :=
  { mtype := 5, alive := alive, af := locked % 256 + aligned % 256 * 2 ^ 8, body := 0 }

/-! ## Deflection records (R266, R267) -/

/-- The four blocks of a record on DL0. -/
def deflectBlocks (flash alive : Nat) (first halt : Bool) (dt : Nat) (ex ey vx vy : Int) : List Block :=
  let h := 0x78 + flash % 2 ^ 24 * 2 ^ 8 + alive % 256 * 2 ^ 32 + b2n first * 2 ^ 40 + b2n halt * 2 ^ 41 + dt % 2 ^ 16 * 2 ^ 48
  let e := ofInt 32 ex + ofInt 32 ey * 2 ^ 32
  let v := ofInt 32 vx + ofInt 32 vy * 2 ^ 32
  [Block.control h, Block.data e, Block.data v, Block.control (0x33 + retCrc h e v * 2 ^ 32)]

/-- A record leaves on DL0 behind IDLE blocks of 8 ns, at a free block boundary within 40 ns of its lock. Its blocks are made for the
instant at which its first bit leaves. -/
def State.dlSend (s : State) (lock : Nat) (blocks : Nat → List Block) : State :=
  let (f, s1) := s.free 16
  let n := if s.mot.dlFree ≤ lock then cdiv (lock - s.mot.dlFree) 80 + f % 5 else 0
  let start := s.mot.dlFree + 80 * n
  let (l, h) := scrambleBlocks (idleRun n s.mot.dlScr) (blocks start)
  { s1.send (.deflect n l) with
    mot := { s.mot with dlFree := start + 320, dlScr := h, dlAlive := (s.mot.dlAlive + 1) % 256 } }

/-! ## Test patterns (R224) -/

/-- The length and the second tap of a pattern's polynomial. -/
def patternTaps (p : Nat) : Nat × Nat := if p = 0 then (7, 6) else if p = 1 then (15, 14) else if p = 2 then (23, 18) else (31, 28)

/-- The next bit of a pattern, and its generator behind it. -/
def patternBit (p v : Nat) : Nat × Nat :=
  let (n, k) := patternTaps p
  let b := (bits v (n - 1) 1).xor (bits v (k - 1) 1)
  (b, v * 2 % 2 ^ n + b)

/-- n bits of a pattern, first bit lowest, and the generator behind them. -/
def patternBits (p : Nat) : Nat → Nat → Nat × Nat
  | 0, v => (0, v)
  | n + 1, v =>
    let (b, w) := patternBit p v
    let (r, z) := patternBits p n w
    (b + 2 * r, z)

/-- n words of PRBS31. -/
def prbsWords : Nat → Nat → List Word × Nat
  | 0, v => ([], v)
  | n + 1, v =>
    let (b, w) := patternBits 3 64 v
    let (l, z) := prbsWords n w
    (BitVec.ofNat 64 b :: l, z)

end Sys2Proof.Machine
end

