-- ==== Sys2Proof/Machine/Frames.lean ====
section
/-! DEFINITION. Frames and packets: Ethernet, ARP, IPv4, UDP, the WST header, cluster messages, and how a port sends them (R318, R321
to R325, R332). -/

namespace Sys2Proof.Machine

open Sys2Proof

/-! ## Ports (R322) -/

/-- Whether a port has role 2 and is on. -/
def State.chainPort (s : State) (p : Nat) : Bool := s.on (ETH_PORT_CFG.EN p) && decide (s.f (ETH_PORT_CFG.ROLE p) = 2)

/-- Whether the chain of E2 and E3 carries traffic. -/
def State.chainUp (s : State) : Bool := s.chainPort 2 && s.chainPort 3

/-- Whether a port carries traffic. -/
def State.portUp (s : State) (p : Nat) : Bool :=
  s.on (ETH_PORT_CFG.EN p) && decide (s.f (ETH_PORT_CFG.ROLE p) ≠ 0) && (decide (s.f (ETH_PORT_CFG.ROLE p) ≠ 2) || s.chainUp)

/-- Whether a port carries segment fetches: it is on with role 1; and whether some port does. -/
def State.storageOn (s : State) (p : Nat) : Bool := s.on (ETH_PORT_CFG.EN p) && decide (s.f (ETH_PORT_CFG.ROLE p) = 1)
def State.storageUp (s : State) : Bool := (List.range 4).any s.storageOn

/-- Whether the uplink is on. -/
def State.uplinkUp (s : State) : Bool := (List.range 4).any (fun p => s.on (ETH_PORT_CFG.EN p) && decide (s.f (ETH_PORT_CFG.ROLE p) = 3))

/-- Whether a port starts no frame now: a Delay_Req of it launches within 800 ns (R318). -/
def State.portHeld (s : State) (p : Nat) : Bool :=
  s.launches.any (fun l => decide (l.port = p) && decide (l.lt * 2 ^ 32 ≤ s.now * 2 ^ 32 + s.thyme.frac + 800 * 2 ^ 32))

/-- A port sends, or keeps what it sends until it may start a frame. One that carries no traffic sends nothing (R322). -/
def State.emit (s : State) (p : Nat) (o : Output) : State :=
  if s.portUp p = false then s
  else if s.portHeld p then { s with ports := s.ports ++ [(p, o)] }
  else s.send o

/-! ## Ethernet -/

/-- The FCS of a frame: the CRC-32 of IEEE 802.3. -/
def ethFcs (l : List Byte) : Nat := (l.foldl (crcByte 0xEDB88320) 0xFFFFFFFF).xor 0xFFFFFFFF

/-- The FCS with which a frame leaves: inverted where the received one was bad (R319, R324). -/
def leaveFcs (l : List Byte) (bad : Bool) : Nat := if bad then (ethFcs l).xor 0xFFFFFFFF else ethFcs l

/-- A big-endian number of n bytes at an offset. -/
def beAt (l : List Byte) (o n : Nat) : Nat := ofBE ((l.drop o).take n)

/-- Bytes with others written over them from an offset. -/
def patch (l : List Byte) (o : Nat) (v : List Byte) : List Byte := l.take o ++ v ++ l.drop (o + v.length)

/-- The destination address of a frame, and whether it is a group address. -/
def frameDst (l : List Byte) : Nat := beAt l 0 6
def isGroup (mac : Nat) : Bool := bit mac 40

def vlanType (t : Nat) : Bool := decide (t = 0x8100) || decide (t = 0x88A8)

/-- The offset of the EtherType, behind up to two VLAN tags. -/
def typeOffset (l : List Byte) : Nat := if vlanType (beAt l 12 2) then (if vlanType (beAt l 16 2) then 20 else 16) else 12

/-- Whether a frame is a PAUSE or a PFC frame: no port sends one, and each received one is discarded (R321). -/
def isPause (l : List Byte) : Bool := decide (beAt l 12 2 = 0x8808) && (decide (beAt l 14 2 = 0x0001) || decide (beAt l 14 2 = 0x0101))

/-- A frame of the device: destination, its own address, EtherType, payload. -/
def State.ownFrame (s : State) (dst type : Nat) (payload : List Byte) : List Byte :=
  toBE 6 dst ++ toBE 6 (s.f ETH_MAC.MAC) ++ toBE 2 type ++ payload

/-- A frame leaves with its FCS. -/
def State.sendFrameOn (s : State) (p : Nat) (l : List Byte) : State := s.emit p (.eth p l (ethFcs l))

/-- The ARP reply of the device to a sender (RFC 826). -/
def State.arpReply (s : State) (ip mac : Nat) : List Byte :=
  s.ownFrame mac 0x0806 (toBE 2 1 ++ toBE 2 0x0800 ++ toBE 1 6 ++ toBE 1 4 ++ toBE 2 2 ++ toBE 6 (s.f ETH_MAC.MAC) ++ toBE 4 (s.f ETH_IP.ADDR) ++
    toBE 6 mac ++ toBE 4 ip)

/-! ## IPv4 and UDP -/

/-- The sum of the big-endian 16-bit words of bytes, a last odd byte being a high one. -/
def wordSum : List Byte → Nat
  | [] => 0
  | [a] => a.toNat * 256
  | a :: b :: r => a.toNat * 256 + b.toNat + wordSum r

/-- The internet checksum of a sum. -/
def inetSum (n : Nat) : Nat :=
  let a := n % 65536 + n / 65536
  let b := a % 65536 + a / 65536
  65535 - (b % 65536 + b / 65536)

/-- The sum over a UDP datagram and its pseudo header. -/
def udpSum (src dst : Nat) (l : List Byte) : Nat := wordSum (toBE 4 src ++ toBE 4 dst ++ toBE 2 17 ++ toBE 2 l.length) + wordSum l

/-- A UDP datagram with its checksum; a checksum of 0 is sent as all ones. -/
def udpData (src dst sport dport : Nat) (payload : List Byte) : List Byte :=
  let l := toBE 2 sport ++ toBE 2 dport ++ toBE 2 (payload.length + 8) ++ toBE 2 0 ++ payload
  let c := inetSum (udpSum src dst l)
  patch l 6 (toBE 2 (if c = 0 then 65535 else c))

/-- An ICMP echo reply to what a request carries behind its checksum. -/
def echoData (rest : List Byte) : List Byte :=
  let l := toBE 4 0 ++ rest
  patch l 2 (toBE 2 (inetSum (wordSum l)))

/-- The prefix length, 1 to 32. -/
def State.prefixLen (s : State) : Nat := max 1 (min 32 (s.f ETH_IP.PREFIX))

/-- The next hop towards an address: itself within the device's prefix, else ETH_GW (R323). -/
def State.nextHop (s : State) (ip : Nat) : Nat :=
  if ip / 2 ^ (32 - s.prefixLen) = s.f ETH_IP.ADDR / 2 ^ (32 - s.prefixLen) then ip else s.f ETH_GW.ADDR

/-- The MAC address of an IPv4 multicast address (RFC 1112). -/
def groupMac (ip : Nat) : Nat := 0x01005E000000 + ip % 2 ^ 23

/-- What stands behind a good IPv4 header without options, of a packet that is no fragment. -/
structure Ip where
  src   : Nat
  dst   : Nat
  proto : Nat
  data  : List Byte
  deriving DecidableEq, Repr

/-- An IPv4 packet read; none where the device drops it (R323). -/
def readIp (l : List Byte) : Option Ip :=
  let n := beAt l 2 2
  if beAt l 0 1 = 0x45 ∧ beAt l 6 2 % 0x4000 = 0 ∧ 20 ≤ n ∧ n ≤ l.length ∧ inetSum (wordSum (l.take 20)) = 0 then
    some { src := beAt l 12 4, dst := beAt l 16 4, proto := beAt l 9 1, data := (l.take n).drop 20 }
  else none

/-- Destination port and payload of a UDP datagram whose checksum is good or 0. -/
def Ip.readUdp (i : Ip) : Option (Nat × List Byte) :=
  let n := beAt i.data 4 2
  if i.proto = 17 ∧ 8 ≤ n ∧ n ≤ i.data.length ∧ (beAt i.data 6 2 = 0 ∨ inetSum (udpSum i.src i.dst (i.data.take n)) = 0) then
    some (beAt i.data 2 2, (i.data.take n).drop 8)
  else none

/-! ## WST (R325, R326) -/

/-- The 32 bytes of a WST header. -/
def wstHeader (type : Nat) (lost done : Bool) (session seq ackNext : Nat) (sack : Word) (window len total : Nat) : List Byte :=
  toLE 4 (1 + type % 256 * 2 ^ 8 + b2n lost * 2 ^ 16 + b2n done * 2 ^ 17) ++ toLE 4 session ++ toLE 4 seq ++ toLE 4 ackNext ++
    toLE 8 sack.toNat ++ toLE 2 window ++ toLE 2 len ++ toLE 4 total

/-- A WST packet of the device: a UDP datagram from and to ETH_WST_CFG.PORT, with DF set (R323, R325). -/
def State.wstPacket (s : State) (mac : Option Nat) (hop dst : Nat) (payload : List Byte) : Packet :=
  { mac := mac, hop := hop, src := s.f ETH_IP.ADDR, dst := dst, proto := 17, df := true,
    data := udpData (s.f ETH_IP.ADDR) dst (s.f ETH_WST_CFG.PORT) (s.f ETH_WST_CFG.PORT) payload }

/-- A WST packet leaves to a storage server, on a port that carries segment fetches (R322, R327). -/
def State.sendServer (s : State) (p server : Nat) (payload : List Byte) : State :=
  let ip := s.f (ETH_SRV.ADDR server)
  if s.storageOn p then s.emit p (.packet p (s.wstPacket none (s.nextHop ip) ip payload)) else s

/-! ## Cluster messages (R332) -/

/-- The term that the device sends under: a manager's own, else the highest seen. -/
def State.ownTerm (s : State) : Nat := if s.f CLU_STATUS.STATE = 4 then s.clu.term else s.f CLU_TERM.TERM

/-- Whether this device's firmware runs the servo of a worker (R341, R384). -/
def State.slaved (s : State) : Bool := decide (s.f CLU_STATUS.STATE = 1) && s.clu.servo.isSome

/-- The ports on which cluster messages leave: the chain, or towards a higher manager the uplink. -/
def State.cluPorts (s : State) (up : Bool) : List Nat :=
  (List.range 4).filter (fun p => decide (s.f (ETH_PORT_CFG.ROLE p) = if up then 3 else 2))

/-- The payload of a cluster message from its body's 32-bit words. -/
def State.cluPayload (s : State) (up : Bool) (type dst : Nat) (body : List Nat) : List Byte :=
  let b := toLE 2 (s.f CLU_CFG.CLUSTER) ++ toLE 1 (s.f CLU_CFG.MEMBER) ++ toLE 1 dst ++ toLE 4 (if up then s.clu.upTerm else s.ownTerm) ++
    body.flatMap (toLE 4)
  wstHeader type false false 0 s.clu.seq 0 0 0 b.length 0 ++ b

/-- A cluster message leaves on each of its ports, under the next SEQ; its body is given in 32-bit words from offset +8. -/
def State.cluSend (s : State) (up : Bool) (type dst : Nat) (body : List Nat) : State :=
  let g := s.f CLU_GROUP.ADDR
  let k := s.wstPacket (some (groupMac g)) g g (s.cluPayload up type dst body)
  let s1 := (s.cluPorts up).foldl (fun (t : State) p => t.emit p (.packet p k)) s
  { s1 with clu := { s1.clu with seq := (s1.clu.seq + 1) % 2 ^ 32 } }

/-! ## What the device takes (R321, R323 to R325) -/

/-- The types of WST packets that a device takes: DATA and REFUSE of a server, the messages of a cluster. -/
def wstTypeOk (type session : Nat) : Bool :=
  decide (type = 2) || decide (type = 4) || (decide (16 ≤ type) && decide (type ≤ 24) && decide (session = 0))

/-- Whether a WST payload is one that the device takes: its header whole, VER 1, a type that it knows. -/
def wstOk (l : List Byte) : Bool :=
  decide (32 ≤ l.length) && decide (beAt l 0 1 = 1) && wstTypeOk (beAt l 1 1) (ofLE ((l.drop 4).take 4)) &&
    decide (ofLE ((l.drop 26).take 2) + 32 ≤ l.length)

/-- The IPv4 addresses to which WST packets come: a cluster message's is CLU_GROUP, any other's the device's own (R332). -/
def State.wstAddr (s : State) (b : List Byte) : Nat := if 16 ≤ beAt b 1 1 then s.f CLU_GROUP.ADDR else s.f ETH_IP.ADDR

/-- Whether PTP messages come to an IPv4 address: the device's own, or a group of IEEE 1588 Annex C, 224.0.1.129 and 224.0.0.107 (R314;
PRESUMED, log entry 26). -/
def State.ptpAddr (s : State) (ip : Nat) : Bool := decide (ip = s.f ETH_IP.ADDR) || decide (ip = 0xE0000181) || decide (ip = 0xE000006B)

/-- The UDP ports of PTP: event and general messages. -/
def ptpPort (n : Nat) : Bool := decide (n = 319) || decide (n = 320)

/-- Whether an IPv4 packet is one that the device takes: an echo request to its address, WST, the ports of PTP. -/
def State.takesIp (s : State) (l : List Byte) : Bool :=
  match readIp l with
  | none => false
  | some i =>
    (decide (i.proto = 1) && decide (i.dst = s.f ETH_IP.ADDR) && decide (beAt i.data 0 2 = 0x0800)) ||
      (match i.readUdp with
       | some (port, b) => (decide (port = s.f ETH_WST_CFG.PORT) && wstOk b && decide (i.dst = s.wstAddr b)) || (ptpPort port && s.ptpAddr i.dst)
       | none => false)

/-- Whether an ARP packet is for the device: a request for its address, or the reply that resolves a hop (R323). -/
def State.takesArp (s : State) (b : List Byte) : Bool :=
  (decide (beAt b 6 2 = 1) || decide (beAt b 6 2 = 2)) && decide (beAt b 24 4 = s.f ETH_IP.ADDR)

/-- Whether a frame is one that the device takes: of at most 9,216 bytes with its FCS, to its own or a group address, and ARP, IPv4 as
above, PTP, or PTP over IPv6. -/
def State.takes (s : State) (l : List Byte) : Bool :=
  let o := typeOffset l
  let b := l.drop (o + 2)
  decide (l.length + 4 ≤ 9216) && (decide (frameDst l = s.f ETH_MAC.MAC) || isGroup (frameDst l)) &&
    ((decide (beAt l o 2 = 0x0806) && s.takesArp b) || (decide (beAt l o 2 = 0x0800) && s.takesIp b) || decide (beAt l o 2 = 0x88F7) ||
      (decide (beAt l o 2 = 0x86DD) && decide (beAt b 6 1 = 17) && ptpPort (beAt b 42 2)))

/-! ## PTP event messages (R314) -/

/-- Where a PTP message begins in a frame, and how it is carried. -/
inductive PtpAt where
  | eth (o : Nat)       -- behind EtherType 0x88F7
  | udp (o : Nat)       -- in UDP/IPv4 to port 319
  | other               -- in UDP/IPv4 to port 320, where no event message comes, or in UDP/IPv6
  deriving DecidableEq, Repr

/-- The length of an IPv4 header, options included. -/
def ipHeader (b : List Byte) : Nat := beAt b 0 1 % 16 * 4

/-- The destination port of a UDP datagram in an IPv4 packet, whatever options and checksums it has; a later fragment shows none. -/
def udpPort (b : List Byte) : Option Nat :=
  if beAt b 0 1 / 16 = 4 ∧ 20 ≤ ipHeader b ∧ beAt b 6 2 % 0x2000 = 0 ∧ beAt b 9 1 = 17 ∧ ipHeader b + 8 ≤ b.length then
    some (beAt b (ipHeader b + 2) 2)
  else none

/-- The PTP message of a frame, to whomever it is sent: the transparent clock corrects it as the frame passes (R319). -/
def ptpAt (l : List Byte) : Option PtpAt :=
  let o := typeOffset l
  let b := l.drop (o + 2)
  if beAt l o 2 = 0x88F7 then some (.eth (o + 2))
  else if beAt l o 2 = 0x0800 then
    if udpPort b = some 319 then some (.udp (o + 2 + ipHeader b + 8)) else if udpPort b = some 320 then some .other else none
  else if beAt l o 2 = 0x86DD ∧ beAt b 6 1 = 17 ∧ ptpPort (beAt b 42 2) = true then some .other
  else none

/-- Whether a PTP message is a Sync or a Delay_Req of version 2, with its whole header and timestamp. -/
def eventAt (l : List Byte) (o : Nat) : Bool :=
  decide (beAt l o 1 % 16 ≤ 1) && decide (beAt l (o + 1) 1 % 16 = 2) && decide (o + 44 ≤ l.length)

/-- The offset of a Sync or a Delay_Req that the device acts on, and whether UDP carries it. -/
def ptpEvent (l : List Byte) : Option (Nat × Bool) :=
  match ptpAt l with
  | some (.eth o) => if eventAt l o then some (o, false) else none
  | some (.udp o) => if eventAt l o then some (o, true) else none
  | _ => none

end Sys2Proof.Machine
end

