-- ==== Sys2Proof/Machine/Cullet.lean ====
section
/-! DEFINITION. The cells of the memory groups: words with their check bits, errors counted and shown, and the Cullet remap
(R409, R410, R414 to R416, R422). -/

namespace Sys2Proof.Machine

open Sys2Proof

/-! ## Cells -/

/-- The key of a word in the lists of check bits and poison marks. -/
def wordKey (g a : Nat) : Nat := if g < 4 then a else g * 2 ^ 36 + a

/-- The code of a beam at flash f of a staging half. -/
def Half.code (h : Half) (f b : Nat) : Nat := ((mget h.codes (b / 64)).getD []).getD (f * 64 + b % 64) 0

/-- The word of Lehr's staging at an address as the corner turn has filled it (R193): half, flash of the half, plane, sector, and 64
beams from one whose bit is bit 0. A half that is not loaded reads 0. -/
def State.stagedWord (s : State) (a : Nat) : Nat :=
  let p := s.act 2 PAR_PLANES.P
  let row := a % 2 ^ 24 / 32768
  let n := if p ≤ 8 then 64 else 32
  match s.link.halves[a / 2 ^ 24]? with
  | some (some h) =>
    if h.ready = false ∨ n * p ≤ row then 0
    else
      let b := a % 32768 / 512 * 4096 + a % 512 * 8
      ((List.range 64).map (fun m => bits (h.code (h.part * 32 + row / p) (b + m)) (row % p) 1 * 2 ^ m)).sum
  | _ => 0

/-- The address of the word of staging that holds plane k of flash fh of half i for 64 beams of a sector, from word w (R193). -/
def stagedAddr (i p fh k sector w : Nat) : Nat := i * 2 ^ 24 + (fh * p + k) * 32768 + sector * 512 + 8 * w

/-- The data of a word of a group as it stands: groups 0 to 3 are HBM, 14 and 15 Gaffer's memories; of Lehr's staging (group 12) the
list keeps in which bits a word differs from what the corner turn has written. -/
def State.rawData (s : State) (g a : Nat) : Nat :=
  if g < 4 then rdLE s.mem.hbm a 8
  else if g = 14 then ((mget s.gaf.pmem (a / 8)).getD 0).toNat
  else if g = 15 then rdLE s.gaf.dmem a 8
  else
    let v := ((mget s.mem.groups (wordKey g a)).getD 0).toNat
    if g = 12 then v.xor (s.stagedWord a) else v

/-- The check bits stored with a word. -/
def State.rawCheck (s : State) (g a : Nat) : Nat :=
  (mget s.mem.checks (wordKey g a)).getD (checkOf (s.cellMode g a) (s.rawData g a))

/-- A list of words in which a word of 0 is not listed. -/
def setWord (m : Map Word) (k d : Nat) : Map Word := if d % 2 ^ 64 = 0 then mdel m k else mset m k (BitVec.ofNat 64 d)

/-- The data of a word put into its cells. -/
def State.putData (s : State) (g a d : Nat) : State :=
  if g < 4 then { s with mem := { s.mem with hbm := wrLE s.mem.hbm a 8 d } }
  else if g = 14 then { s with gaf := { s.gaf with pmem := setWord s.gaf.pmem (a / 8) d } }
  else if g = 15 then { s with gaf := { s.gaf with dmem := wrLE s.gaf.dmem a 8 d } }
  else
    let v := if g = 12 then (d % 2 ^ 64).xor (s.stagedWord a) else d
    { s with mem := { s.mem with groups := setWord s.mem.groups (wordKey g a) v } }

/-- The check bits of a word put into its cells. -/
def State.putCheck (s : State) (g a c : Nat) : State :=
  let k := wordKey g a
  { s with mem := { s.mem with
      checks := if c = checkOf (s.cellMode g a) (s.rawData g a) then mdel s.mem.checks k else mset s.mem.checks k c } }

/-- A word put into its cells, data and check bits. -/
def State.putRaw (s : State) (g a d c : Nat) : State := (s.putData g a d).putCheck g a c

/-- What a read of a word through its checker finds. -/
def State.cellChecked (s : State) (g a : Nat) : Checked :=
  if wordKey g a ∈ s.mem.poison then .bad
  else checkedRead (s.cellMode g a) (s.rawData g a) (s.rawCheck g a)

/-- A write has reached a group (R413). -/
def State.grpTouch (s : State) (g : Nat) : State := { s with mem := { s.mem with grpWritten := s.mem.grpWritten.set g true } }

/-! ## Cullet (R414 to R416) -/

/-- The lowest free entry of a group. -/
def State.cullFree (s : State) (g : Nat) : Option Nat := (List.range 16).find? (fun e => !s.on (ECC_CULLET_ADDR.VALID g e))

/-- A word copied through the checker into the spare: corrected, or marked. -/
def State.copyWord (g : Nat) (s : State) (a : Nat) : State :=
  match s.cellChecked g a with
  | .good => s
  | .corrected d _ => s.putData g a d
  | .bad => { s with mem := { s.mem with
      poison := if wordKey g a ∈ s.mem.poison then s.mem.poison else wordKey g a :: s.mem.poison } }

/-- The addresses of a block's words. -/
def blockWords (g block : Nat) : List Nat := (List.range (blockSize g / 8)).map (fun i => block + 8 * i)

/-- An install: the own cells are set aside, the spare takes the block; its words are checked in word mode, whatever the group's
MODE (R414). -/
def State.cullInstall (s : State) (g e a : Nat) (auto : Bool) : State :=
  let block := a / blockSize g * blockSize g
  let own := (blockWords g block).map (fun w => (BitVec.ofNat 64 (s.rawData g w), s.rawCheck g w))
  let s1 := (blockWords g block).foldl (State.copyWord g) s
  let keys := (blockWords g block).map (wordKey g)
  let s2 := { s1 with mem := { s1.mem with
    spares := mset s1.mem.spares (g * 16 + e) { words := own },
    checks := s1.mem.checks.filter (fun (x : Nat × Nat) => !keys.contains x.1) } }
  (((s2.flag (ECC_CULLET_ADDR.VALID g e)).put (ECC_CULLET_ADDR.AUTO g e) (b2n auto)).put (ECC_CULLET_ADDR.ADDR g e) block).event
    0x1102 0 [a8 g, a8 e, a36 block, a8 (b2n auto)]

/-- A discarded entry: the block is served from its own cells again. -/
def State.cullDrop (s : State) (g e : Nat) : State :=
  let block := s.f (ECC_CULLET_ADDR.ADDR g e)
  let own := ((mget s.mem.spares (g * 16 + e)).map Spare.words).getD []
  let keys := (blockWords g block).map (wordKey g)
  let s1 := (s.put (ECC_CULLET_ADDR.VALID g e) 0).put (ECC_CULLET_ADDR.AUTO g e) 0
  let s2 := { s1 with mem := { s1.mem with
    poison := s1.mem.poison.filter (fun w => !decide (w ∈ keys)),
    spares := mdel s1.mem.spares (g * 16 + e), fullTold := s1.mem.fullTold.set g false } }
  ((blockWords g block).zip own).foldl (fun (t : State) x => t.putRaw g x.1 x.2.1.toNat x.2.2) s2

/-- An automatic install of a failing block: CULLET_FULL once where no entry is free. -/
def State.cullAuto (s : State) (g a : Nat) : State :=
  if s.on (ECC_GRP_CFG.AUTO g) ∧ (s.cullEntry g a).isNone then
    match s.cullFree g with
    | some e => s.cullInstall g e a true
    | none =>
      if s.mem.fullTold.getD g false then s
      else (({ s with mem := { s.mem with fullTold := s.mem.fullTold.set g true } }).flag (ECC_GRP_CFG.FULL_SEEN g)).event 0x1103 0
        [a8 g, a36 (a / blockSize g * blockSize g)]
  else s

/-- The block of a withheld Gather page is installed when an entry is free (R416). -/
def State.cullPage (s : State) (a : Nat) : State :=
  let g := s.hbmGroup a
  match s.cullEntry g a, s.cullFree g with
  | none, some e => s.cullInstall g e a true
  | _, _ => s

/-! ## Errors found (R409, R410, R415) -/

/-- The last error of a group. -/
def State.lastError (s : State) (g a ue : Nat) : State := (s.put (ECC_LAST_ADDR.ADDR g) a).put (ECC_LAST_ADDR.UE g) ue

/-- An uncorrectable error outside the test window. -/
def State.noteUe (s : State) (g a : Nat) : State :=
  (((s.count (ECC_CNT_UE.COUNT g) 1).flag (ECC_GRP_CFG.UE_SEEN g)).lastError g a 1).cullAuto g a

/-- The first uncorrectable word of a range of HBM. -/
def State.badIn (s : State) (a n : Nat) : Option Nat :=
  (s.mem.poison ++ s.mem.checks.map Prod.fst).find? (fun w => overlaps a n w 8 && decide (s.hbmChecked w = .bad))

/-- The entry of a watch list with the lowest count, the oldest among equals. -/
def lowestWatch : List (Nat × Nat) → Nat
  | [] => 0
  | x :: r => r.foldl (fun m y => min m y.2) x.2

/-- The watch list after a correctable error in a block. -/
def watchCe (l : List (Nat × Nat)) (block : Nat) : List (Nat × Nat) :=
  if l.any (fun x => decide (x.1 = block)) then l.map (fun x => if x.1 = block then (x.1, x.2 + 1) else x)
  else if l.length < 8 then l ++ [(block, 1)]
  else match l.find? (fun x => decide (x.2 = lowestWatch l)) with
    | some x => (l.erase x) ++ [(block, 1)]
    | none => [(block, 1)]

/-- A correctable error outside the test window: counted, journalled, watched, written back. -/
def State.noteCe (s : State) (g a syn d c : Nat) : State :=
  let block := a / blockSize g
  let w := watchCe (s.mem.watch.getD g []) block
  let s1 := (((s.count (ECC_CNT_CE.COUNT g) 1).flag (ECC_GRP_CFG.CE_SEEN g)).lastError g a 0).event 0x1101 0
    [a8 g, a36 a, a8 syn, a8 0]
  let s2 := if s.on (ECC_GRP_CFG.WRITEBACK g) then s1.putRaw g a d c else s1
  let n := ((w.find? (fun x => decide (x.1 = block))).map Prod.snd).getD 0
  if max 1 (s.f (ECC_GRP_CFG.CE_THRESH g)) ≤ n ∧ s.on (ECC_GRP_CFG.AUTO g) then
    ({ s2 with mem := { s2.mem with watch := s2.mem.watch.set g (w.filter (fun x => !decide (x.1 = block))) } }).cullAuto g a
  else { s2 with mem := { s2.mem with watch := s2.mem.watch.set g w } }

/-- What a unit's read of a word of HBM reports (R409, R410). -/
def State.noteWord (s : State) (w : Nat) : State :=
  let g := s.hbmGroup w
  match s.hbmChecked w with
  | .good => s
  | .corrected d c => s.noteCe g w (syndrome (s.rawData g w) (s.rawCheck g w)).1 d c
  | .bad => s.noteUe g w

/-- The words of a range of HBM whose checkers find something, each once. -/
def State.suspects (s : State) (a n : Nat) : List Nat :=
  ((s.mem.checks.map Prod.fst ++ s.mem.poison.filter (fun w => !(s.mem.checks.map Prod.fst).contains w)).filter
    (fun w => overlaps a n w 8 && !decide (s.hbmChecked w = .good)))

/-- A unit's read of a range of HBM: every word corrected in it is noted, and every uncorrectable one (R409, R410, R415). -/
def State.noteRead (s : State) (a n : Nat) : State := (s.suspects a n).foldl State.noteWord s

/-! ## Clearing a group (R363, R419) -/

/-- The own cells of a block hold 0 with the check bits of the group's MODE. -/
def State.zeroSpare (s : State) (g : Nat) (p : Spare) : Spare :=
  { words := p.words.map (fun _ => (0, checkOf (s.f (ECC_GRP_CFG.MODE g)) 0)) }

/-- The words of a group, its redirected blocks' own cells and the buffers of the data path that it holds are written to 0 with correct
check bits. -/
def State.clearGroup (s : State) (g : Nat) : State :=
  let inGrp (k : Nat) : Bool := decide (k / 2 ^ 36 = g)
  let s1 := { s.grpTouch g with mem := { (s.grpTouch g).mem with
    groups := s.mem.groups.filter (fun (e : Nat × Word) => !inGrp e.1),
    checks := s.mem.checks.filter (fun (e : Nat × Nat) => !inGrp e.1),
    poison := s.mem.poison.filter (fun k => !inGrp k),
    spares := s.mem.spares.map (fun (e : Nat × Spare) => if e.1 / 16 = g then (e.1, s.zeroSpare g e.2) else e) } }
  if g = 5 then { s1 with mslots := s1.mslots.map (fun (m : Option MSlot) => m.map (fun t => { t with queue := [] })) }
  else if g = 6 then { s1 with glory := { s1.glory with src := [], corr := [] } }
  else if g = 7 then { s1 with glory := { s1.glory with halves := [[], []] } }
  else if g = 8 then { s1 with beam := { s1.beam with stagedT := BeamBank.empty, activeT := BeamBank.empty },
                               root := { s1.root with tableCleared := true } }
  else if g = 9 then { s1 with par := { s1.par with asm := [] } }
  else if g = 10 then { s1 with par := { s1.par with doses := [] } }
  else if g = 11 then { s1 with mslots := s1.mslots.map (fun (m : Option MSlot) => m.map (fun t => { t with acc := [] })) }
  else if g = 12 then { s1 with link := { s1.link with
    halves := s1.link.halves.map (fun (h : Option Half) => h.map (fun x => { x with codes := [] })) } }
  else if g = 13 then { s1 with link := { s1.link with lanes := s1.link.lanes.map (fun l => { l with kept := [] }) } }
  else s1

/-- The SRAMs of the data path (R24) hold nothing. -/
def State.clearSram (s : State) : State := [4, 5, 6, 7, 8, 9, 10, 11, 12, 13].foldl State.clearGroup s

end Sys2Proof.Machine
end

