-- ==== Sys2Proof/Machine/Profile.lean ====
section
/-! DEFINITION. The planned motion of the stage: segments of constant acceleration, evaluated exactly (R255 to R257). -/

namespace Sys2Proof.Machine

open Sys2Proof

/-- The distance that a segment covers. -/
def Seg.dist (g : Seg) : Rat := g.v0 * g.dur + g.a * g.dur * g.dur / 2

/-- The speed at a segment's end. -/
def Seg.v1 (g : Seg) : Rat := g.v0 + g.a * g.dur

def segsDist (l : List Seg) : Rat := (l.map Seg.dist).sum
def segsDur (l : List Seg) : Rat := (l.map Seg.dur).sum

/-- Position, speed and acceleration after `t` seconds of segments from position `p`, then at the speed `vEnd`. -/
def walkSegs (vEnd : Rat) : List Seg → Rat → Rat → Rat × Rat × Rat
  | [], p, t => (p + vEnd * t, vEnd, 0)
  | g :: r, p, t =>
    if t < g.dur then (p + g.v0 * t + g.a * t * t / 2, g.v0 + g.a * t, g.a)
    else walkSegs vEnd r (p + g.dist) (t - g.dur)

def Track.eval (k : Track) (t : Rat) : Rat × Rat × Rat := walkSegs k.vEnd k.segs k.p0 t

/-- A track that stands at a position. -/
def Track.rest (p : Rat) : Track := ⟨p, [], 0⟩

/-- Whether a track still moves at a time. -/
def Track.movingAt (k : Track) (t : Rat) : Bool := decide (t < segsDur k.segs) || decide (k.vEnd ≠ 0)

/-- One segment between two speeds at an acceleration of magnitude `a`; none when the speeds are equal or `a` is 0. -/
def segBetween (v0 v1 a : Rat) : List Seg :=
  if v0 = v1 ∨ a ≤ 0 then [] else
  if v0 < v1 then [⟨(v1 - v0) / a, v0, a⟩] else [⟨(v0 - v1) / a, v0, -a⟩]

/-- A change of speed in its two segments: A2 above the knee, A1 below it (R255). -/
def changeSegs (v0 v1 vk a1 a2 : Rat) : List Seg :=
  if v0 ≤ v1 then segBetween v0 (min v1 (max v0 vk)) a1 ++ segBetween (min v1 (max v0 vk)) v1 a2
  else segBetween v0 (max v1 (min v0 vk)) a2 ++ segBetween (max v1 (min v0 vk)) v1 a1

/-- Segments run in the opposite direction. -/
def negSegs (l : List Seg) : List Seg := l.map (fun g => ⟨g.dur, -g.v0, -g.a⟩)

/-- The square root of a non-negative rational, rounded down to a multiple of 2⁻³² (log entry 12). -/
def ratSqrt (q : Rat) : Rat :=
  if q ≤ 0 then 0 else ((isqrtAux 80 (q.num.toNat * 2 ^ 64 / q.den) 0 : Nat) : Rat) / 4294967296

/-- The highest peak, at most `vc`, whose rise from rest and fall to rest fit in a distance (R256). -/
def peakFor (d vc vk a1 a2 : Rat) : Rat :=
  let p1 := ratSqrt (d * a1)
  if p1 ≤ vk then min p1 vc else min (ratSqrt (d * a2 + vk * vk - vk * vk * a2 / a1)) vc

/-- A move from rest to rest over a signed distance (R256). -/
def moveSegs (d vc vk a1 a2 : Rat) : List Seg :=
  let m := if d < 0 then -d else d
  let p := peakFor m vc vk a1 a2
  if p ≤ 0 then [] else
  let up := changeSegs 0 p vk a1 a2
  let down := changeSegs p 0 vk a1 a2
  let l := up ++ [⟨(m - segsDist up - segsDist down) / p, p, 0⟩] ++ down
  if d < 0 then negSegs l else l

/-- The profile in grid units: a parameter of the latched profile times 64 (R253: one pixel is 64 grid units). -/
def State.prof (s : State) (i : Nat) : Rat := ((s.mot.prof.getD i 0 * 64 : Nat) : Rat)

/-- The stripe's cruise in grid units/s. -/
def State.vcG (s : State) : Rat := ((s.mot.vc * 64 : Nat) : Rat)

/-- The knee used, v_k = min(VKNEE, v_c) (R254). -/
def State.vkG (s : State) : Rat := min (s.prof 1) s.vcG

/-- Seconds from the plan's beginning to a Thyme time in 100 ps; 0 for a time before it. -/
def State.planTime (s : State) (t100 : Nat) : Rat := ((t100 - s.mot.plan.t0 : Nat) : Rat) / 10000000000

/-- Position, speed and acceleration of both planned axes at a Thyme time in 100 ps. -/
def State.planAt (s : State) (t100 : Nat) : (Rat × Rat × Rat) × (Rat × Rat × Rat) :=
  (s.mot.plan.x.eval (s.planTime t100), s.mot.plan.y.eval (s.planTime t100))

/-- Position, speed and acceleration of both axes of a plan at a Thyme time in 100 ps. -/
def Plan.at (p : Plan) (t100 : Nat) : (Rat × Rat × Rat) × (Rat × Rat × Rat) :=
  let t : Rat := ((t100 - p.t0 : Nat) : Rat) / 10000000000
  (p.x.eval t, p.y.eval t)

/-- The plan in force at a Thyme time: the newest that had begun, else the oldest kept. -/
def State.planOf (s : State) (t100 : Nat) : Plan :=
  ((s.mot.plan :: s.mot.past).find? (fun p => decide (p.t0 ≤ t100))).getD ((s.mot.plan :: s.mot.past).getLast?.getD s.mot.plan)

/-- A new plan. The sixteen before it are kept for samples that are still on their way (R263). -/
def Motion.setPlan (m : Motion) (p : Plan) : Motion := { m with plan := p, past := (m.plan :: m.past).take 16 }

/-- Whether the plan is moving at a Thyme time (R261). -/
def State.planMoving (s : State) (t100 : Nat) : Bool :=
  s.mot.plan.x.movingAt (s.planTime t100) || s.mot.plan.y.movingAt (s.planTime t100)

/-- An axis that decelerates from its present speed to rest along the run-out segments, without VSTOP (R257). -/
def State.brake (s : State) (p v : Rat) : Track :=
  if v < 0 then ⟨p, negSegs (changeSegs (-v) 0 s.vkG (s.prof 4) (s.prof 5)), 0⟩
  else ⟨p, changeSegs v 0 s.vkG (s.prof 4) (s.prof 5), 0⟩

/-- The plan replaced by the deceleration to rest from now (R257). -/
def State.brakePlan (s : State) : Plan :=
  let ((xp, xv, _), (yp, yv, _)) := s.planAt s.now100
  { t0 := s.now100, x := s.brake xp xv, y := s.brake yp yv }

/-- Segments of positive speed cut at a distance, and the speed there: the root is taken as in ratSqrt. -/
def cutSegs : List Seg → Rat → Rat → List Seg × Rat
  | [], _, v => ([], v)
  | g :: r, d, _ =>
    if g.dist ≤ d then
      let (l, v) := cutSegs r (d - g.dist) g.v1
      (g :: l, v)
    else if d ≤ 0 then ([], g.v0)
    else if g.a = 0 then ([⟨d / g.v0, g.v0, 0⟩], g.v0)
    else
      let v := ratSqrt (g.v0 * g.v0 + 2 * g.a * d)
      ([⟨(v - g.v0) / g.a, g.v0, g.a⟩], v)

/-- σ of a stripe (R253). -/
def Stripe.sigma (k : Stripe) : Int := if k.neg then -1 else 1

/-- The flash point XF_t in 2⁻¹⁶ grid unit (R253). -/
def Stripe.flashPoint (k : Stripe) (t : Nat) : Int := k.xf0 + k.sigma * 64 * 65536 * t

end Sys2Proof.Machine
end

