-- ==== Sys2Proof/Machine/Halts.lean ====
section
/-! DEFINITION. Halts: the stripe halt that Gaffer latches, the job halt of a context, and what the front end, Glory and
Parison report when their work on a stripe ends (R295, R425, R471). -/

namespace Sys2Proof.Machine

open Sys2Proof

/-- The lowest flash whose commit point has not passed (R214). -/
def State.openFlash (s : State) : Nat := if s.mot.armed then s.mot.committed else s.mot.t0

/-- The lowest flash whose plane 0 strobe has not begun (R246). -/
def State.unstruckFlash (s : State) : Nat :=
  if s.mot.armed then (if s.mot.struck.2 = 0 then s.mot.struck.1 else s.mot.struck.1 + 1) else s.mot.t0

/-- The flash behind the last one of a staging half: 64 flashes a chunk at P ≤ 8, 32 a half from P = 9 (R190). -/
def halfEnd (wide : Bool) (chunk part : Nat) : Nat := 64 * chunk + (if wide then 32 * part + 32 else 64)

/-- Whether a generation has nine planes or more. -/
def State.widePlanes (s : State) (gen : Nat) : Bool := decide (9 ≤ s.genF 2 gen PAR_PLANES.P)

/-- A halt at t_h discards the staging halves; a half all of whose flashes lie below t_h is served on (R194, log entry 15). -/
def State.dropHalves (s : State) (gen th : Nat) : State :=
  let w := s.widePlanes gen
  { s with link := { s.link with
      halves := s.link.halves.map (fun (h : Option Half) => h.filter (fun x => decide (halfEnd w x.chunk x.part ≤ th))),
      serve := s.link.serve.filter (fun c => decide (halfEnd w c.1 c.2 ≤ th)) } }

/-- A record on DL0 that tells of a halt at t_h (R267). -/
def State.haltRecord (s : State) (th : Nat) : State :=
  if s.on FLS_CTL.DL_EN then
    s.dlSend s.mono100 (fun _ => deflectBlocks th s.mot.dlAlive false true 0 0 0 0 0)
  else s

/-! ## STATUS of a worker (R332, R333, R336) -/

/-- The STATUS of a stripe, its SSTATE and what Gaffer shows beside it. -/
def State.sendStatus (s : State) (stripe sstate : Nat) : State :=
  s.cluSend false 18 0 [stripe, sstate + 256 * s.f MOT_STATUS.STATE, s.f GAF_HALT_FLASH.TH, s.clu.heldSeq,
    s.f GAF_HALT_CAUSE.CODE, s.f CLU_CFG.MEMBER]

/-- A change of a stripe's state is reported by a worker (R336). -/
def State.tellStripe (s : State) (stripe sstate : Nat) : State :=
  if s.f CLU_STATUS.STATE = 1 then s.sendStatus stripe sstate else s

/-- A class 2 event reaches Gaffer (R295). With a stripe in motion and HALTED clear it is latched: flash, stripe, generation
and cause, HALTED, motion state 6, the deceleration of R257, STRIPE_HALTED. In the tick of the latch the lower code is the cause. While HALTED is set
any other halt event only adds to MORE. -/
def State.latchHalt (s : State) (code th : Nat) : State :=
  if s.on GAF_STATUS.HALTED then
    let s1 := s.count GAF_HALT_CAUSE.MORE 1
    if s.gaf.haltTick = s.tick ∧ code < s.f GAF_HALT_CAUSE.CODE then
      let low := if s.mot.armed then th else s.mot.t0
      ((s1.put GAF_HALT_CAUSE.CODE code).put GAF_HALT_FLASH.TH low).dropHalves (s.f GAF_HALT_GEN.GEN) low
    else s1
  else match s.gaf.active with
    | none => s
    | some a =>
      let th := if s.mot.armed then th else s.mot.t0
      let s1 := (((((s.put GAF_HALT_FLASH.TH th).put GAF_HALT_STRIPE.STRIPE a.num).put
        GAF_HALT_GEN.GEN a.gen).put GAF_HALT_CAUSE.CODE code).put GAF_HALT_CAUSE.MORE 0).flag GAF_STATUS.HALTED
      let s2 := ((s1.put MOT_STATUS.STATE 6).dropHalves a.gen th).haltRecord th
      (({ s2 with gaf := { s2.gaf with resumeOk := false, haltTick := s.tick },
                  mot := { s2.mot.setPlan s.brakePlan with flashing := false, leadOver := false } }).pulse 3).tellStripe a.num 4

/-- A class 2 event: journalled and latched. -/
def State.halt (s : State) (code th : Nat) (args : List Arg) : State := (s.event code 2 args).latchHalt code th


/-! ## The end of a unit's work on a stripe (R471) -/

/-- An event that reports a count, journalled only when the count is not 0. -/
def State.report (s : State) (code n : Nat) (args : List Arg) : State := if n = 0 then s else s.event code 0 args

/-- DEGENERATE, PIN_REVOKE and OVERLAP of a sweep that is given up; a count that has been reported is not reported again. -/
def State.reportSweep (s : State) (w : Sweep) : State :=
  let s1 := (s.report 0x074F w.degenerate [a32 w.stripe.num, a32 w.degenerate]).report 0x0603 w.revoked [a32 w.stripe.num, a32 w.revoked]
  if w.rasterOver then s1
  else s1.report 0x0801 (w.overCnt + w.clamped) [a32 w.stripe.num, a32 w.overCnt, a32 w.clamped]

/-- UNCOMPENSABLE, LEVEL_SAT and STORE_HOLD of Parison's stripe. The pixel position is withheld unless the stripe's job
holds its context with DIAG = 1 (R345). -/
def State.reportParison (s : State) (k : Stripe) : State :=
  let d := s.diagJob k.ctx k.job
  let x := if d then s.f PAR_UNC_FIRST_X.X else 0
  let y := if d then s.f PAR_UNC_FIRST_Y.Y else 0
  let s1 := if s.par.unc = 0 then s
            else s.journalEvent 0x0B01 0 (!d) [a32 k.num, a32 s.par.unc, a32 x, a32 y]
  ((s1.report 0x0B02 s.par.lsat [a32 k.num, a32 s.par.lsat]).report 0x0B21 s.par.held [a32 k.num, a32 s.par.held])

/-- The marks of a walk's or a tile's stripe. -/
def Walk.isOf (w : Walk) (k : Stripe) : Bool := decide (w.stripe = k.num) && decide (w.ctx = k.ctx)
def MSlot.isOf (m : MSlot) (k : Stripe) : Bool := decide (m.stripe = k.num) && decide (m.ctx = k.ctx)
/-- The key of a stripe: its context and its number. -/
def Stripe.key (k : Stripe) : Nat := k.ctx * 2 ^ 32 + k.num

def Stripe.same (a b : Stripe) : Bool := decide (a.num = b.num) && decide (a.ctx = b.ctx)

/-- Leave of the Marver slots of a stripe is returned; a slot under R120 keeps it until its accumulator is cleared. -/
def State.giveSlots (s : State) (k : Stripe) : List (Option MSlot) → Nat → State
  | [], _ => s
  | m :: r, i => let s1 := match m with
                           | some t => if t.isOf k && !t.discard then s.giveLeave (.marver (i / 2) (i % 2)) else s
                           | none => s
                 State.giveSlots s1 k r (i + 1)

/-- Blowpipe and Marver discard a stripe's remaining work. -/
def State.dropFront (s : State) (k : Stripe) : State :=
  let s1 := match s.blow.sweeps.find? (fun w => w.stripe.same k) with
            | some w => s.reportSweep w
            | none => s
  let s2 := { s1 with blow := { s1.blow with
    sweeps := s1.blow.sweeps.filter (fun w => !w.stripe.same k),
    walks := s1.blow.walks.map (fun (w : Option Walk) => w.filter (fun t => !t.isOf k)) } }
  let s3 := s2.giveSlots k s2.mslots 0
  { s3 with mslots := s3.mslots.map (fun (m : Option MSlot) => m.filter (fun t => t.discard || !t.isOf k)) }

/-- The halves that hold a band from a number on are cleared. -/
def clearHalves (base : Nat) : List (Option Nat) → List (Map Nat) → List (Map Nat)
  | some n :: u, m :: r => (if base ≤ n then [] else m) :: clearHalves base u r
  | none :: u, m :: r => m :: clearHalves base u r
  | [], r => r
  | _, [] => []

/-- Glory discards a stripe's remaining work. -/
def State.dropGlory (s : State) (k : Stripe) : State :=
  let s1 := match s.glory.stripe with
    | some c => if c.same k then
        let t := (s.report 0x0902 s.glory.dsat [a32 k.num, a32 s.glory.dsat]).giveLeave .coarse
        { t with glory := { t.glory with stripe := none, dsat := 0, src := [], dens := [], corr := [], colsDone := 0 } }
      else s
    | none => s
  let s2 := match s1.glory.pix with
    | some c => if c.same k then
        let t := (s1.report 0x0901 s1.glory.sat [a32 k.num, a32 s1.glory.sat]).giveLeave .pixel
        { t with glory := { t.glory with
            pix := none, tile := none, tilesIn := [], sat := 0, bandNext := t.glory.bandBase,
            halves := clearHalves t.glory.bandBase t.glory.halfUsed t.glory.halves,
            halfUsed := t.glory.halfUsed.map (fun (h : Option Nat) => h.filter (fun n => decide (n < t.glory.bandBase))) } }
      else s1
    | none => s1
  { s2 with glory := { s2.glory with
      colsFreed := mdel s2.glory.colsFreed k.key,
      coarseIn := s2.glory.coarseIn.filter (fun d => !decide (d.stripe = k.num && d.gen = k.gen)),
      headers := s2.glory.headers.filter (fun h => !(decide (h.stripe = k.num) && decide (h.ctx = k.ctx))) } }

/-- The half of a band that Parison gives up is free. -/
def State.freeHalf (s : State) (h : Nat) : State :=
  { s with glory := { s.glory with halves := s.glory.halves.set h [], halfUsed := s.glory.halfUsed.set h none } }

def State.freeHalves (s : State) : List Band → State
  | [] => s
  | b :: r => (s.freeHalf b.half).freeHalves r

/-- Time held under R22 is counted up to now. -/
def State.countHold (s : State) : State :=
  match s.par.holdFrom with
  | none => s
  | some t =>
    let n := coreCycles (s.mono100 - t)
    let s1 := (s.count PAR_CNT_HOLD.COUNT n).put PAR_STATUS.HOLD 0
    { s1 with par := { s1.par with holdFrom := none, held := s1.par.held + n } }

/-- Parison discards a stripe's remaining columns (R185). -/
def State.dropParison (s : State) (k : Stripe) : State :=
  let s1 := match s.par.stripe with
    | some c => if c.same k then
        let t := (s.countHold.reportParison k).giveLeave .parison
        { t with par := { t.par with stripe := none, burst := 0, unc := 0, lsat := 0, held := 0, doses := [], asm := [] } }
      else s
    | none => s
  let s2 := s1.freeHalves (s1.par.bands.filter (fun b => decide (b.key = k.key)))
  { s2 with par := { s2.par with
      bcol := if (s2.par.bands.head?.map Band.key) = some k.key then 0 else s2.par.bcol,
      bands := s2.par.bands.filter (fun b => !decide (b.key = k.key)),
      next := s2.par.next.filter (fun c => !c.same k) } }

/-- The ring slots of the stripes that a test names are released, unsent chunks and all (R185). -/
def State.releaseSlots (s : State) (f : RingStripe → Bool) : State :=
  { s with par := { s.par with ring := s.par.ring.map (fun r => if f r then { r with sent := r.nc } else r) } }

/-- Every unit of the data path before the ring discards a stripe's remaining work and reports (R471). -/
def State.dropStripe (s : State) (k : Stripe) : State := ((s.dropFront k).dropGlory k).dropParison k

def State.dropStripes (s : State) : List Stripe → State
  | [] => s
  | k :: r => (s.dropStripe k).dropStripes r

/-- The stripes of a context that are in work. -/
def State.stripesOf (s : State) (c : Nat) : List Stripe :=
  ((s.blow.sweeps.map Sweep.stripe) ++ s.glory.stripe.toList ++ s.glory.pix.toList ++ s.par.stripe.toList ++ s.par.next).filter
    (fun k => decide (k.ctx = c))

/-- Columns released: the first columns all of whose tiles have drained (R111). -/
def releasedCols (rows : Nat) (drained : Map Nat) : Nat → Nat → Nat
  | 0, n => n
  | k + 1, n => if rows ≤ mnat drained n then releasedCols rows drained k (n + 1) else n

/-- Tiles of a tile column of a stripe: W / 256, with W = 2¹⁸ / N (R7, R8). -/
def State.rows (s : State) (k : Stripe) : Nat := 2 ^ (18 - s.genF 0 k.gen BMP_GEOM.LOG2N) / 256

/-- The margin in tiles and the lookahead in coarse cells of a stripe's window. -/
def State.margin (s : State) (k : Stripe) : Nat := s.genF 0 k.gen GLY_WINDOW.MARGIN
def State.lookahead (s : State) (k : Stripe) : Nat := s.genF 0 k.gen GLY_WINDOW.LOOKAHEAD

/-- The last tile column of a stripe's density sweep (R131). -/
def State.lastDensity (s : State) (k : Stripe) : Nat := ((k.len - 1) / 64 + s.lookahead k) / 4

/-- Density walks of a stripe. -/
def State.densityRows (s : State) (k : Stripe) : Nat := s.rows k + 2 * s.margin k
def State.densityTotal (s : State) (k : Stripe) : Nat := (s.lastDensity k + s.margin k + 1) * s.densityRows k
def State.rasterTotal (s : State) (k : Stripe) : Nat := cdiv k.len 256 * s.rows k

/-- The front end is done with a stripe once its raster tile columns are all released and its last density walk has ended: it loses
no walk of the coarse window (R107, R131). -/
def State.endSweep (s : State) (key : Nat) : State :=
  { s with blow := { s.blow with sweeps := s.blow.sweeps.filter (fun w =>
      !(decide (w.stripe.key = key) && w.rasterOver && decide (s.densityTotal w.stripe ≤ w.dEnded))) } }

/-- A tile of the raster sweep has drained, or has ended empty: its column is released once all its tiles have, and the sweep
reports OVERLAP once all its columns are released (R111, R471). -/
def State.tileDone (s : State) (key tcol : Nat) : State :=
  match s.blow.sweeps.find? (fun w => decide (w.stripe.key = key)) with
  | none => s
  | some w =>
    let cols := cdiv w.stripe.len 256
    let d := madd w.drained tcol 1
    let n := releasedCols (s.rows w.stripe) d cols w.released
    let done := decide (cols ≤ n)
    let s1 := { s with
      glory := { s.glory with colsFreed := mset s.glory.colsFreed key n },
      blow := { s.blow with sweeps := s.blow.sweeps.map (fun v =>
        if v.stripe.key = key then { v with drained := d, released := n, rasterOver := done } else v) } }
    if done then (s1.report 0x0801 (w.overCnt + w.clamped) [a32 w.stripe.num, a32 w.overCnt, a32 w.clamped]).endSweep key else s1

/-! ## Job halt (R425) -/

/-- Whether the stripe that is flashing keeps its work in the data path when its job halts: at a PROG_FAULT (R299) and where a
later stripe's Glory set, beam map, x lags or Parison set fail (R146, R159, R178, R188). DEDUCED (log entry 22). -/
def keepsActive (code : Nat) : Bool := code ∈ [0x0F20, 0x0910, 0x0A10, 0x0B11, 0x0B12]

/-- The ring slots of a context's stripes released, those of the ACTIVE stripe excepted. -/
def State.releaseOthers (s : State) (c : Nat) : State :=
  s.releaseSlots (fun r => decide (r.ctx = c) && !(s.gaf.active.any (fun a => decide (a.num = r.num) && decide (a.ctx = r.ctx))))

/-- A stripe that Gaffer discards is reported as abandoned by a worker (R336). -/
def State.tellDropped (s : State) (c : Nat) (k : Option Stripe) : State :=
  match k with
  | some k => if k.ctx = c then s.tellStripe k.num 6 else s
  | none => s

/-- The first class 3 event of a job: its code is kept, its PREPARED and QUEUED stripes are discarded and their ring slots
released, and the units end their work on its stripes; an ACTIVE stripe keeps the chunks that it has, or its work as well. A later
event changes nothing. -/
def State.jobHalt (s : State) (c code : Nat) : State :=
  if s.ctxOpen c then
    match (s.ctx c).halt with
    | some _ => s
    | none =>
      let s1 := s.modCtx c (fun x => { x with halt := some code })
      let s2 := { s1 with gaf := { s1.gaf with
        prepared := s1.gaf.prepared.filter (fun k => !decide (k.ctx = c)),
        queued := s1.gaf.queued.filter (fun k => !decide (k.ctx = c)) } }
      let keep (k : Stripe) : Bool := keepsActive code && s2.gaf.active.any (fun a => a.same k)
      let s3 := (s2.dropStripes ((s2.stripesOf c).filter (fun k => !keep k))).releaseOthers c
      (s3.tellDropped c s.gaf.queued).tellDropped c s.gaf.prepared
  else s

/-- A class 3 event of a context. -/
def State.jobFault (s : State) (c code : Nat) (withheld : Bool) (args : List Arg) : State :=
  (s.journalEvent code 3 withheld args).jobHalt c code

/-- A class 3 event of every open context. -/
def State.allFault (s : State) (code : Nat) (args : List Arg) : State :=
  ((s.journalEvent code 3 false args).jobHalt 0 code).jobHalt 1 code

/-! ## Bank switches (R31) -/

/-- The unit id of a switching point of R31, the argument of GEN_MISMATCH: Glory, Parison, Lehr and Punty, the flash sequencer. -/
def switchUnit (u : Nat) : Nat := if u = 0 then 0x09 else if u = 1 then 0x0B else if u = 2 then 0x0C else 0x0E

/-- A switching point takes its staged bank; with Parison's the active beam table switches, and the flash sequencer's generation
shows in GAF_GEN (R31, R157, R293). -/
def State.switchBank (s : State) (u : Nat) : State :=
  let s1 := { s with root := { s.root with banks := s.root.banks.set u s.root.staged } }
  if u = 1 then { s1 with beam := { s1.beam with activeT := s1.beam.stagedT } }
  else if u = 3 then s1.putOwned 55 GAF_GEN.ACTIVE s.root.staged.gen
  else s1

/-- GEN_MISMATCH (R31) of the unit with an id: the item's stripe halts under the rule of R214 before the item is used. -/
def State.genMismatch (s : State) (unit stripe gen : Nat) : State :=
  s.halt 0x0F11 s.openFlash [a8 unit, a32 stripe, a32 gen]

/-- An item of a stripe reaches a switching point with its generation (R31), and whether the unit uses it now. The first item of the
staged generation switches the bank; Parison waits for the fill of the staged table (R156). An item of neither bank's generation is
not used and stays where it is (log entry 49). -/
def State.itemGate (s : State) (u stripe gen : Nat) : State × Bool :=
  if s.actGen u = gen then (s, true)
  else if s.root.staged.gen = gen then (if u = 1 ∧ s.on BMP_STATUS.FILL_BUSY then (s, false) else (s.switchBank u, true))
  else (s.genMismatch (switchUnit u) stripe gen, false)

end Sys2Proof.Machine
end

