-- ==== Sys2Proof/Machine/Figures.lean ====
section
/-! DEFINITION. The geometry of figure code: orientations, transforms, exact areas, the simplicity test and the decomposition
of polygons (R40, R41, R53 to R55, R65 to R68, R104, R105, R116, R117). -/

namespace Sys2Proof.Machine

open Sys2Proof

abbrev Pt := Int × Int

/-- orient() of R53. -/
def orient (o : Nat) (p : Pt) : Pt :=
  let y := if 4 ≤ o then -p.2 else p.2
  let x := p.1
  match o % 4 with
  | 0 => (x, y)
  | 1 => (-y, x)
  | 2 => (-x, -y)
  | _ => (y, -x)

/-- The composite orientation of a parent and a child placement (R54). -/
def compose (op oc : Nat) : Nat :=
  let m := (op / 4 + oc / 4) % 2
  let r := (op % 4 + (if 4 ≤ op then (4 - oc % 4) % 4 else oc % 4)) % 4
  m * 4 + r

/-- A point of a cell in plate coordinates (R54). -/
def place (o : Nat) (d : Pt) (p : Pt) : Pt := let q := orient o p; (q.1 + d.1, q.2 + d.2)

/-- The range of a coordinate (R40). -/
def inRange (x : Int) : Bool := decide (-2147483648 ≤ x) && decide (x ≤ 2147483647)
def ptInRange (p : Pt) : Bool := inRange p.1 && inRange p.2

/-- A box by its smallest and largest coordinates. -/
structure Box where
  x0 : Int
  y0 : Int
  x1 : Int
  y1 : Int

def Box.corners (b : Box) : List Pt := [(b.x0, b.y0), (b.x1, b.y0), (b.x0, b.y1), (b.x1, b.y1)]

/-- Whether a closed box holds a point (R51). -/
def Box.holds (b : Box) (p : Pt) : Bool :=
  decide (b.x0 ≤ p.1) && decide (p.1 ≤ b.x1) && decide (b.y0 ≤ p.2) && decide (p.2 ≤ b.y1)

/-- The box of the transformed corners. -/
def Box.move (o : Nat) (d : Pt) (b : Box) : Box :=
  let p := place o d (b.x0, b.y0)
  let q := place o d (b.x1, b.y1)
  { x0 := min p.1 q.1, y0 := min p.2 q.2, x1 := max p.1 q.1, y1 := max p.2 q.2 }

/-- Whether two boxes overlap with positive area (R101). -/
def Box.overlaps (a b : Box) : Bool :=
  decide (max a.x0 b.x0 < min a.x1 b.x1) && decide (max a.y0 b.y0 < min a.y1 b.y1)

/-! ## Exact areas (R104, R105, R116, R117) -/

/-- ∫ max(0, u) over a length h on which u runs linearly from p to q. -/
def posInt (p q h : Rat) : Rat :=
  if 0 ≤ p ∧ 0 ≤ q then (p + q) / 2 * h
  else if p ≤ 0 ∧ q ≤ 0 then 0
  else if 0 < p then p * p / (2 * (p - q)) * h
  else q * q / (2 * (q - p)) * h

/-- ∫ clamp(u, lo, hi) − lo over a length h. -/
def clampInt (p q h lo hi : Rat) : Rat := posInt (p - lo) (q - lo) h - posInt (p - hi) (q - hi) h

/-- A side line through two points, u as a function of v. -/
structure Side where
  u0 : Int
  v0 : Int
  u1 : Int
  v1 : Int

/-- A side by its two points, the one with the lower v first (R55). -/
def Side.rising (u0 v0 u1 v1 : Int) : Side := if v0 ≤ v1 then ⟨u0, v0, u1, v1⟩ else ⟨u1, v1, u0, v0⟩

def Side.at (l : Side) (v : Int) : Rat :=
  if l.v1 = l.v0 then l.u0 else (l.u0 : Rat) + ((l.u1 - l.u0 : Int) : Rat) * ((v - l.v0 : Int) : Rat) / ((l.v1 - l.v0 : Int) : Rat)

/-- A trapezoid between two v bounds and two side lines; `kindY` where v is X (R104). -/
structure Trapezoid where
  kindY : Bool
  c0 : Int
  c1 : Int
  l  : Side
  r  : Side

/-- The exact area of the trapezoid within v0 ≤ v ≤ v1 and lo ≤ u ≤ hi. -/
def Trapezoid.area (t : Trapezoid) (v0 v1 lo hi : Int) : Rat :=
  let a := max t.c0 v0
  let b := min t.c1 v1
  if b ≤ a then 0 else
  let h : Rat := ((b - a : Int) : Rat)
  clampInt (t.r.at a) (t.r.at b) h lo hi - clampInt (t.l.at a) (t.l.at b) h lo hi

/-- Rounding of a rational to the nearest integer, a tie to the even one. -/
def rneQ (q : Rat) : Int := rne q.num q.den

/-! ## Figures to trapezoids -/

/-- A trapezoid whose parallel edges lie along one axis, given in its cell by v bounds and the ends of its four corners, taken
through a transform (R55). `kindY` is the cell's kind; corners are (v, u) pairs by the low and the high edge. -/
def makeTrap (o : Nat) (d : Pt) (kindY : Bool) (v0 v1 l0 r0 l1 r1 : Int) : Trapezoid :=
  let pt (v u : Int) : Pt := place o d (if kindY then (v, u) else (u, v))
  let k := if o % 2 = 1 then !kindY else kindY
  let uv (p : Pt) : Int × Int := if k then (p.2, p.1) else (p.1, p.2)
  let a0 := uv (pt v0 l0)
  let b0 := uv (pt v0 r0)
  let a1 := uv (pt v1 l1)
  let b1 := uv (pt v1 r1)
  let flip := decide (b0.1 + b1.1 < a0.1 + a1.1)
  let a := Side.rising a0.1 a0.2 a1.1 a1.2
  let b := Side.rising b0.1 b0.2 b1.1 b1.2
  { kindY := k, c0 := min a0.2 a1.2, c1 := max a0.2 a1.2, l := if flip then b else a, r := if flip then a else b }

/-- Twice the signed area of the triangle p q r. -/
def cross (p q r : Pt) : Int := (q.1 - p.1) * (r.2 - p.2) - (q.2 - p.2) * (r.1 - p.1)

/-- Whether a point that lies on the line through p and q lies between them. -/
def onSpan (p q r : Pt) : Bool :=
  decide (min p.1 q.1 ≤ r.1) && decide (r.1 ≤ max p.1 q.1) && decide (min p.2 q.2 ≤ r.2) && decide (r.2 ≤ max p.2 q.2)

def onSegment (p q r : Pt) : Bool := decide (cross p q r = 0) && onSpan p q r

/-- Whether two closed segments share a point. -/
def segsMeet (a b c d : Pt) : Bool :=
  let d1 := cross c d a
  let d2 := cross c d b
  let d3 := cross a b c
  let d4 := cross a b d
  (decide (d1 < 0 ∧ 0 < d2 ∨ 0 < d1 ∧ d2 < 0) && decide (d3 < 0 ∧ 0 < d4 ∨ 0 < d3 ∧ d4 < 0)) ||
    onSegment c d a || onSegment c d b || onSegment a b c || onSegment a b d

/-- Vertices without consecutive repetitions, the last against the first included (R67). -/
def dedup : List Pt → List Pt
  | [] => []
  | [p] => [p]
  | p :: q :: r => if p = q then dedup (q :: r) else p :: dedup (q :: r)

def distinct (l : List Pt) : List Pt :=
  let m := dedup l
  if 1 < m.length ∧ m.head? = m.getLast? then m.dropLast else m

/-- Whether the vertices all lie on one straight line (R65). -/
def collinear (l : List Pt) : Bool :=
  match l with
  | [] => true
  | p :: r => match r.find? (fun q => !decide (q = p)) with
    | none => true
    | some q => r.all (fun t => decide (cross p q t = 0))

/-- The edges of a closed polygon. -/
def edges (l : List Pt) : List (Pt × Pt) := List.zip l (l.drop 1 ++ l.take 1)

/-- Whether consecutive edges p q and q r meet only at q. -/
def foldsBack (p q r : Pt) : Bool :=
  decide (cross p q r = 0) && decide ((q.1 - p.1) * (r.1 - q.1) + (q.2 - p.2) * (r.2 - q.2) < 0)

/-- Whether a polygon of distinct consecutive vertices is simple: no two edges share a point, but consecutive ones their
common vertex (R67). -/
def isSimple (l : List Pt) : Bool :=
  let e := edges l
  let n := e.length
  (List.range n).all (fun i => (List.range n).all (fun j =>
    match e[i]?, e[j]? with
    | some (a, b), some (c, d) =>
      if i = j then true
      else if (i + 1) % n = j then !foldsBack a b d
      else if (j + 1) % n = i then true
      else !segsMeet a b c d
    | _, _ => true))

/-- The distinct Y values of a polygon in ascending order. -/
def levels (l : List Pt) : List Int := ((l.map Prod.snd).mergeSort (fun a b => decide (a ≤ b))).dedup

/-- The edges that span a band, from left to right. -/
def bandEdges (l : List Pt) (y0 y1 : Int) : List Side :=
  let sp := (edges l).filterMap (fun (p, q) =>
    if min p.2 q.2 ≤ y0 ∧ y1 ≤ max p.2 q.2 then some (Side.rising p.1 p.2 q.1 q.2) else none)
  sp.mergeSort (fun a b => decide (a.at y0 + a.at y1 ≤ b.at y0 + b.at y1))

/-- Sides taken in pairs. -/
def pairSides (y0 y1 : Int) : List Side → List Trapezoid
  | a :: b :: r => ⟨false, y0, y1, a, b⟩ :: pairSides y0 y1 r
  | _ => []

/-- The X-trapezoids of a simple polygon in plate coordinates (R68, R103). -/
def decompose (l : List Pt) : List Trapezoid :=
  let ys := levels l
  (List.zip ys (ys.drop 1)).flatMap (fun (y0, y1) => pairSides y0 y1 (bandEdges l y0 y1))

/-! ## Records and density sums -/

/-- The record that a raster walk emits for a trapezoid and a tile whose origin is given, if they overlap with positive area
(R104). -/
def Trapezoid.record (t : Trapezoid) (cls : Nat) (ox oy : Int) : Option Trap :=
  let ov := if t.kindY then ox else oy
  let ou := if t.kindY then oy else ox
  if t.area ov (ov + 16384) ou (ou + 16384) ≤ 0 then none
  else some {
    c0 := (max t.c0 ov - ov).toNat, c1 := (min t.c1 (ov + 16384) - ov).toNat, cls := cls, kind := b2n t.kindY, rsv := 0,
    lu0 := t.l.u0 - ou, lv0 := t.l.v0 - ov, lu1 := t.l.u1 - ou, lv1 := t.l.v1 - ov,
    ru0 := t.r.u0 - ou, rv0 := t.r.v0 - ov, ru1 := t.r.u1 - ou, rv1 := t.r.v1 - ov }

/-- The area of a trapezoid in coarse cell (i, j) of a tile, in 2⁻⁸ grid unit², rounded once (R105). -/
def Trapezoid.coarse (t : Trapezoid) (ox oy : Int) (i j : Nat) : Nat :=
  let x := ox + 4096 * i
  let y := oy + 4096 * j
  let a := if t.kindY then t.area x (x + 4096) y (y + 4096) else t.area y (y + 4096) x (x + 4096)
  (rneQ (256 * a)).toNat

/-- Density sums with a trapezoid's areas added, saturating at 2⁴⁸ − 1 (R105). Coarse cell (i, j) of class c is at
(4i + j)·256 + c. -/
def addDensity (m : Map Nat) (t : Trapezoid) (cls : Nat) (ox oy : Int) : Map Nat :=
  (List.range 16).foldl (fun m n =>
    let a := t.coarse ox oy (n / 4) (n % 4)
    if a = 0 then m else mset m (n * 256 + cls) (min (2 ^ 48 - 1) (mnat m (n * 256 + cls) + a))) m

end Sys2Proof.Machine
end

