-- ==== Sys2Proof/Machine/Crypto.lean ====
section
/-! DEFINITION. The public algorithms that the manual names: SHA-384 (FIPS 180-4), HMAC and HKDF over it, AES-256
(FIPS 197) in GCM and CTR and in the key wrap of RFC 3394, and ECDSA and ECDH on P-384 (log entry 8). -/

namespace Sys2Proof.Machine

open Sys2Proof

/-! ## SHA-384 -/

def shaK : List Nat :=
  [0x428A2F98D728AE22, 0x7137449123EF65CD, 0xB5C0FBCFEC4D3B2F, 0xE9B5DBA58189DBBC,
   0x3956C25BF348B538, 0x59F111F1B605D019, 0x923F82A4AF194F9B, 0xAB1C5ED5DA6D8118,
   0xD807AA98A3030242, 0x12835B0145706FBE, 0x243185BE4EE4B28C, 0x550C7DC3D5FFB4E2,
   0x72BE5D74F27B896F, 0x80DEB1FE3B1696B1, 0x9BDC06A725C71235, 0xC19BF174CF692694,
   0xE49B69C19EF14AD2, 0xEFBE4786384F25E3, 0x0FC19DC68B8CD5B5, 0x240CA1CC77AC9C65] ++
  [0x2DE92C6F592B0275, 0x4A7484AA6EA6E483, 0x5CB0A9DCBD41FBD4, 0x76F988DA831153B5,
   0x983E5152EE66DFAB, 0xA831C66D2DB43210, 0xB00327C898FB213F, 0xBF597FC7BEEF0EE4,
   0xC6E00BF33DA88FC2, 0xD5A79147930AA725, 0x06CA6351E003826F, 0x142929670A0E6E70,
   0x27B70A8546D22FFC, 0x2E1B21385C26C926, 0x4D2C6DFC5AC42AED, 0x53380D139D95B3DF,
   0x650A73548BAF63DE, 0x766A0ABB3C77B2A8, 0x81C2C92E47EDAEE6, 0x92722C851482353B] ++
  [0xA2BFE8A14CF10364, 0xA81A664BBC423001, 0xC24B8B70D0F89791, 0xC76C51A30654BE30,
   0xD192E819D6EF5218, 0xD69906245565A910, 0xF40E35855771202A, 0x106AA07032BBD1B8,
   0x19A4C116B8D2D0C8, 0x1E376C085141AB53, 0x2748774CDF8EEB99, 0x34B0BCB5E19B48A8,
   0x391C0CB3C5C95A63, 0x4ED8AA4AE3418ACB, 0x5B9CCA4F7763E373, 0x682E6FF3D6B2B8A3,
   0x748F82EE5DEFB2FC, 0x78A5636F43172F60, 0x84C87814A1F0AB72, 0x8CC702081A6439EC] ++
  [0x90BEFFFA23631E28, 0xA4506CEBDE82BDE9, 0xBEF9A3F7B2C67915, 0xC67178F2E372532B,
   0xCA273ECEEA26619C, 0xD186B8C721C0C207, 0xEADA7DD6CDE0EB1E, 0xF57D4F7FEE6ED178,
   0x06F067AA72176FBA, 0x0A637DC5A2C898A6, 0x113F9804BEF90DAE, 0x1B710B35131C471B,
   0x28DB77F523047D84, 0x32CAAB7B40C72493, 0x3C9EBE0A15C9BEBC, 0x431D67C49C100D4C,
   0x4CC5D4BECB3E42B6, 0x597F299CFC657E2A, 0x5FCB6FAB3AD6FAEC, 0x6C44198C4A475817]

def shaIV : List Nat :=
  [0xCBBB9D5DC1059ED8, 0x629A292A367CD507, 0x9159015A3070DD17, 0x152FECD8F70E5939,
   0x67332667FFC00B31, 0x8EB44A8768581511, 0xDB0C2E0D64F98FA7, 0x47B5481DBEFA4FA4]

def m64 (n : Nat) : Nat := n % 2 ^ 64
def ror64 (n k : Nat) : Nat := m64 (n / 2 ^ k + n * 2 ^ (64 - k))

/-- The message schedule, newest word first, extended by `fuel` words. -/
def shaSched : Nat → List Nat → List Nat
  | 0, l => l
  | k + 1, l =>
    let a := l.getD 1 0
    let b := l.getD 14 0
    let s1 := ((ror64 a 19).xor (ror64 a 61)).xor (a / 2 ^ 6)
    let s0 := ((ror64 b 1).xor (ror64 b 8)).xor (b / 2 ^ 7)
    shaSched k (m64 (s1 + l.getD 6 0 + s0 + l.getD 15 0) :: l)

/-- One round over the eight working variables. -/
def shaRound (v : List Nat) (kw : Nat × Nat) : List Nat :=
  match v with
  | [a, b, c, d, e, f, g, h] =>
    let s1 := ((ror64 e 14).xor (ror64 e 18)).xor (ror64 e 41)
    let ch := (e.land f).xor ((2 ^ 64 - 1 - e).land g)
    let t1 := h + s1 + ch + kw.1 + kw.2
    let s0 := ((ror64 a 28).xor (ror64 a 34)).xor (ror64 a 39)
    let mj := ((a.land b).xor (a.land c)).xor (b.land c)
    [m64 (t1 + s0 + mj), a, b, c, m64 (d + t1), e, f, g]
  | l => l

def shaBlock (h : List Nat) (words : List Nat) : List Nat :=
  let w := (shaSched 64 words.reverse).reverse
  ((List.zip shaK w).foldl shaRound h).zipWith (fun a b => m64 (a + b)) h

/-- The 64-bit big-endian words of bytes; the fuel bounds their number. -/
def beWords : Nat → List Byte → List Nat
  | 0, _ => []
  | k + 1, l => if l.isEmpty then [] else ofBE (l.take 8) :: beWords k (l.drop 8)

def shaBlocks : Nat → List Nat → List Nat → List Nat
  | 0, h, _ => h
  | k + 1, h, w => if w.isEmpty then h else shaBlocks k (shaBlock h (w.take 16)) (w.drop 16)

/-- SHA-384 of bytes. -/
def sha384 (m : List Byte) : List Byte :=
  let z := (111 + 128 - m.length % 128) % 128
  let padded := m ++ [0x80] ++ List.replicate z 0 ++ toBE 16 (m.length * 8)
  let w := beWords (padded.length / 8) padded
  ((shaBlocks (w.length / 16) shaIV w).flatMap (toBE 8)).take 48

def xorBytes (a b : List Byte) : List Byte := List.zipWith (fun x y => x ^^^ y) a b

/-- HMAC-SHA-384 (block of 128 bytes). -/
def hmac384 (key m : List Byte) : List Byte :=
  let k := if 128 < key.length then sha384 key else key
  let k := k ++ List.replicate (128 - k.length) 0
  sha384 (xorBytes k (List.replicate 128 0x5C) ++ sha384 (xorBytes k (List.replicate 128 0x36) ++ m))

/-- The blocks T(i) onwards of HKDF-Expand, after the block `t`. -/
def hkdfBlocks (prk info : List Byte) : Nat → List Byte → Nat → List Byte
  | 0, _, _ => []
  | k + 1, t, i => let t' := hmac384 prk (t ++ info ++ [BitVec.ofNat 8 i]); t' ++ hkdfBlocks prk info k t' (i + 1)

/-- HKDF-SHA-384: extract with a salt, expand with an info string to n bytes (RFC 5869). -/
def hkdf (salt ikm info : List Byte) (n : Nat) : List Byte :=
  (hkdfBlocks (hmac384 salt ikm) info (cdiv n 48) [] 1).take n

/-! ## AES-256 -/

/-- The product in GF(2⁸) modulo x⁸ + x⁴ + x³ + x + 1, over the bits of `b`. -/
def gmul : Nat → Nat → Nat → Nat
  | 0, _, _ => 0
  | k + 1, a, b =>
    let r := gmul k (if a < 128 then 2 * a else (2 * a).xor 0x11B) (b / 2)
    if b % 2 = 1 then a.xor r else r

def gm (a b : Nat) : Nat := gmul 8 a b

/-- The inverse in GF(2⁸), a²⁵⁴, with 0 for 0. -/
def ginv (a : Nat) : Nat :=
  let a2 := gm a a
  let a4 := gm a2 a2
  let a8 := gm a4 a4
  let a16 := gm a8 a8
  let a32 := gm a16 a16
  let a64 := gm a32 a32
  let a128 := gm a64 a64
  gm a2 (gm a4 (gm a8 (gm a16 (gm a32 (gm a64 a128)))))

def rol8 (a k : Nat) : Nat := (a * 2 ^ k + a / 2 ^ (8 - k)) % 256

def sbox (b : Nat) : Nat :=
  let i := ginv b
  ((((i.xor (rol8 i 1)).xor (rol8 i 2)).xor (rol8 i 3)).xor (rol8 i 4)).xor 0x63

def sboxInv (b : Nat) : Nat := ginv (((rol8 b 1).xor ((rol8 b 3).xor (rol8 b 6))).xor 0x05)

/-- The key schedule for a key of nk words: words as four bytes, newest first, `i` the index of the next word. -/
def aesSched (nk : Nat) : Nat → Nat → List (List Nat) → List (List Nat)
  | 0, _, l => l
  | k + 1, i, l =>
    let t := l.getD 0 []
    let u := if i % nk = 0 then List.zipWith Nat.xor ((t.drop 1 ++ t.take 1).map sbox) [gmul 8 (2 ^ min 7 (i / nk - 1)) (if 8 ≤ i / nk - 1 then 2 ^ (i / nk - 8) else 1), 0, 0, 0]
             else if nk = 8 ∧ i % 8 = 4 then t.map sbox else t
    aesSched nk k (i + 1) (List.zipWith Nat.xor (l.getD (nk - 1) []) u :: l)

/-- Pieces of n elements; the fuel bounds their number. -/
def chunks {α : Type} (n : Nat) : Nat → List α → List (List α)
  | 0, _ => []
  | k + 1, l => if l.isEmpty then [] else l.take n :: chunks n k (l.drop n)

/-- The round keys of AES-128 or AES-256, by the length of the key, 16 bytes each. -/
def aesKeys (key : List Byte) : List (List Nat) :=
  let nk := key.length / 4
  chunks 16 (nk + 7) ((aesSched nk (4 * (nk + 7) - nk) nk (chunks 4 nk (key.map BitVec.toNat)).reverse).reverse.flatten)

def shiftRows (s : List Nat) : List Nat := (List.range 16).map (fun i => s.getD ((i + 4 * (i % 4)) % 16) 0)
def shiftRowsInv (s : List Nat) : List Nat := (List.range 16).map (fun i => s.getD ((i + 12 * (i % 4)) % 16) 0)

/-- A circulant matrix, given by its first row, applied to each column. -/
def mixWith (m s : List Nat) : List Nat :=
  (List.range 16).map (fun i =>
    ((List.range 4).map (fun j => gm (s.getD (i / 4 * 4 + j) 0) (m.getD ((j + 4 - i % 4) % 4) 0))).foldl Nat.xor 0)

def aesRounds : List (List Nat) → List Nat → List Nat
  | [], s => s
  | [k], s => List.zipWith Nat.xor (shiftRows (s.map sbox)) k
  | k :: r, s => aesRounds r (List.zipWith Nat.xor (mixWith [2, 3, 1, 1] (shiftRows (s.map sbox))) k)

def aesRoundsInv : List (List Nat) → List Nat → List Nat
  | [], s => s
  | [k], s => List.zipWith Nat.xor ((shiftRowsInv s).map sboxInv) k
  | k :: r, s => aesRoundsInv r (mixWith [14, 11, 13, 9] (List.zipWith Nat.xor ((shiftRowsInv s).map sboxInv) k))

/-- AES of one block, AES-128 or AES-256 by the length of the key. -/
def aesEnc (key blk : List Byte) : List Byte :=
  match aesKeys key with
  | k :: r => (aesRounds r (List.zipWith Nat.xor (blk.map BitVec.toNat) k)).map (BitVec.ofNat 8)
  | [] => blk

/-- The inverse of AES-256 on one block. -/
def aesDec (key blk : List Byte) : List Byte :=
  match (aesKeys key).reverse with
  | k :: r => (aesRoundsInv r (List.zipWith Nat.xor (blk.map BitVec.toNat) k)).map (BitVec.ofNat 8)
  | [] => blk

/-- The keystream of counter blocks `pre` ‖ big-endian 32-bit counter, from counter c. -/
def ctrStream (key pre : List Byte) : Nat → Nat → List Byte
  | 0, _ => []
  | n + 1, c => aesEnc key (pre ++ toBE 4 c) ++ ctrStream key pre n (c + 1)

/-- The product in GHASH's field, over the 128 bits of `y`, the most significant first. -/
def ghMul : Nat → Nat → Nat → Nat → Nat
  | 0, _, _, z => z
  | k + 1, v, y, z =>
    ghMul k (if v % 2 = 1 then (v / 2).xor 0xE1000000000000000000000000000000 else v / 2) y
      (if bit y k then z.xor v else z)

/-- GHASH over blocks of 16 bytes. -/
def ghash (h : Nat) (m : List Byte) : Nat :=
  (chunks 16 (cdiv m.length 16) m).foldl (fun y b => ghMul 128 h (y.xor (ofBE b)) 0) 0

def pad16 (m : List Byte) : List Byte := m ++ List.replicate ((16 - m.length % 16) % 16) 0

/-- AES-256-GCM encryption or decryption of text under a 96-bit IV. -/
def gcmText (key iv text : List Byte) : List Byte := xorBytes text (ctrStream key iv (cdiv text.length 16) 2)

/-- The GCM tag over additional data and ciphertext. -/
def gcmTag (key iv aad ct : List Byte) : List Byte :=
  let h := ofBE (aesEnc key (List.replicate 16 0))
  let g := ghash h (pad16 aad ++ pad16 ct ++ toBE 8 (aad.length * 8) ++ toBE 8 (ct.length * 8))
  xorBytes (toBE 16 g) (aesEnc key (iv ++ toBE 4 1))

/-- The 6n steps of the RFC 3394 unwrap, from step t down. -/
def unwrapSteps (kek : List Byte) (n : Nat) : Nat → List Byte → List (List Byte) → List Byte × List (List Byte)
  | 0, a, r => (a, r)
  | t + 1, a, r =>
    let b := aesDec kek (xorBytes a (toBE 8 (t + 1)) ++ r.getD (t % n) [])
    unwrapSteps kek n t (b.take 8) (r.set (t % n) (b.drop 8))

/-- The RFC 3394 unwrap; none where the integrity value fails. -/
def keyUnwrap (kek wrapped : List Byte) : Option (List Byte) :=
  let c := chunks 8 (wrapped.length / 8) wrapped
  let n := c.length - 1
  let (a, r) := unwrapSteps kek n (6 * n) (c.getD 0 []) (c.drop 1)
  if a = List.replicate 8 0xA6 then some r.flatten else none

/-! ## P-384 -/

def pP : Nat := 2 ^ 384 - 2 ^ 128 - 2 ^ 96 + 2 ^ 32 - 1
def pN : Nat := 0xFFFFFFFFFFFFFFFFFFFFFFFFFFFFFFFFFFFFFFFFFFFFFFFFC7634D81F4372DDF581A0DB248B0A77AECEC196ACCC52973
def pB : Nat := 0xB3312FA7E23EE7E4988E056BE3F82D19181D9C6EFE8141120314088F5013875AC656398D8A2ED19D2A85C8EDD3EC2AEF
def pG : Nat × Nat :=
  (0xAA87CA22BE8B05378EB1C71EF320AD746E1D3B628BA79B9859F741E082542A385502F25DBF55296C3A545E3872760AB7,
   0x3617DE4A96262C6F5D9E98BF9292DC29F8F41DBD289A147CE9DA3113B5F0B8C00A60B1CE1D7E819D7A431D7C90EA0E5F)

/-- a^e modulo m, over the bits of e. -/
def powMod (m : Nat) : Nat → Nat → Nat → Nat
  | 0, _, _ => 1 % m
  | k + 1, a, e => let r := powMod m k (a * a % m) (e / 2); if e % 2 = 1 then a * r % m else r

/-- The inverse modulo a 384-bit prime. -/
def invMod (m a : Nat) : Nat := powMod m 384 (a % m) (m - 2)

/-- The sum of two points of the curve; none is the point at infinity. -/
def ecAdd : Option (Nat × Nat) → Option (Nat × Nat) → Option (Nat × Nat)
  | none, q => q
  | p, none => p
  | some (x1, y1), some (x2, y2) =>
    if x1 = x2 ∧ (y1 + y2) % pP = 0 then none else
    let l := if x1 = x2 then (3 * x1 * x1 + pP - 3) * invMod pP (2 * y1) % pP
             else (y2 + pP - y1) * invMod pP (x2 + pP - x1) % pP
    let x3 := (l * l + 2 * pP - x1 - x2) % pP
    some (x3, (l * (x1 + pP - x3) + pP - y1) % pP)

/-- A multiple of a point, over the bits of the factor. -/
def ecMul : Nat → Nat → Option (Nat × Nat) → Option (Nat × Nat)
  | 0, _, _ => none
  | k + 1, e, p => let r := ecMul k (e / 2) (ecAdd p p); if e % 2 = 1 then ecAdd p r else r

def onCurve (q : Nat × Nat) : Bool :=
  decide (q.1 < pP) && decide (q.2 < pP) && decide (q.2 * q.2 % pP = (q.1 * q.1 * q.1 + (pP - 3) * q.1 + pB) % pP)

/-- A public key of 97 bytes: 0x04, X and Y, big-endian. -/
def ecPoint (k : List Byte) : Option (Nat × Nat) :=
  let q := (ofBE ((k.drop 1).take 48), ofBE ((k.drop 49).take 48))
  if k.length = 97 ∧ k.head? = some 4 ∧ onCurve q then some q else none

def ecBytes (q : Nat × Nat) : List Byte := 4 :: (toBE 48 q.1 ++ toBE 48 q.2)

/-- ECDSA verification of a 96-byte signature r ‖ s over a SHA-384 hash. -/
def ecdsaVerify (pub hash sig : List Byte) : Bool :=
  let r := ofBE (sig.take 48)
  let s := ofBE ((sig.drop 48).take 48)
  match ecPoint pub with
  | none => false
  | some q =>
    if sig.length = 96 ∧ 0 < r ∧ r < pN ∧ 0 < s ∧ s < pN then
      let w := invMod pN s
      match ecAdd (ecMul 384 (ofBE hash * w % pN) (some pG)) (ecMul 384 (r * w % pN) (some q)) with
      | some (x, _) => decide (x % pN = r)
      | none => false
    else false

/-- The ECDSA signature of a hash under a secret key with the nonce k. -/
def ecdsaSign (d : Nat) (hash : List Byte) (k : Nat) : List Byte :=
  match ecMul 384 k (some pG) with
  | some (x, _) => let r := x % pN; toBE 48 r ++ toBE 48 (invMod pN k * (ofBE hash + r * d) % pN)
  | none => List.replicate 96 0

/-- The public key of a secret key. -/
def ecPublic (d : Nat) : List Byte :=
  match ecMul 384 d (some pG) with
  | some q => ecBytes q
  | none => []

/-- The shared x coordinate of ECDH. -/
def ecdh (d : Nat) (pub : List Byte) : Option (List Byte) :=
  match ecPoint pub with
  | some q => (ecMul 384 d (some q)).map (fun p => toBE 48 p.1)
  | none => none

end Sys2Proof.Machine
end

