-- ==== Sys2Proof/Machine/FigCode.lean ====
section
/-! DEFINITION. Figure-code instructions by themselves: their lengths and the faults that an instruction shows without its cell
(R37 to R40, R49, R51, R56, R57, R59, R62 to R64, R66, R69, R71, R74). An instruction is its header and a function to its words. -/

namespace Sys2Proof.Machine

open Sys2Proof

/-- A word as a signed coordinate (R40). -/
def w32 (v : Nat) : Int := sgn 32 v

/-- Words of an instruction by its header (R37); none for an illegal opcode (R38). -/
def instrWords (h : Nat) : Option Nat :=
  match h / 2 ^ 24 with
  | 0x01 => some 1
  | 0x10 => some 6
  | 0x11 => some 1
  | 0x20 => some 4
  | 0x21 => some 9
  | 0x30 => some 5
  | 0x31 => some 7
  | 0x32 => some 7
  | 0x33 => some (1 + 2 * (h % 256))
  | 0x40 => some 1
  | 0x50 => some 4
  | 0xFF => some 1
  | _ => none

/-- Whether a reserved bit of a header is set (R37, R39, R59, R66, R71). -/
def headReserved (h : Nat) : Bool :=
  match h / 2 ^ 24 with
  | 0x10 => false
  | 0x11 => false
  | 0x20 => false
  | 0x21 => false
  | 0x50 => false
  | 0x33 => decide (256 ≤ h % 2 ^ 24)
  | 0x40 => decide (256 ≤ h % 2 ^ 24)
  | _ => decide (h % 2 ^ 24 ≠ 0)

/-- Whether a reserved bit of an instruction is set (R39, R49, R56, R57, R69). -/
def reservedSet (h : Nat) (w : Nat → Nat) : Bool :=
  headReserved h ||
  (match h / 2 ^ 24 with
    | 0x10 => decide (2 ^ 24 ≤ w 1)
    | 0x20 => decide (8 ≤ w 1)
    | 0x21 => decide (8 ≤ w 1)
    | 0x50 => decide (2 ^ 16 ≤ w 1) || decide (2 ^ 24 ≤ w 2) || decide (2 ^ 24 ≤ w 3)
    | _ => false)

/-- Whether a polygon's vertex count lies outside 3 to 64 (R66). -/
def badVertices (h : Nat) : Bool := decide (h / 2 ^ 24 = 0x33) && !(decide (3 ≤ h % 256) && decide (h % 256 ≤ 64))

/-- BAD_COUNT: a vertex count (R66) or a zero array count (R57). -/
def badCount (h : Nat) (w : Nat → Nat) : Bool :=
  badVertices h || (decide (h / 2 ^ 24 = 0x21) && (decide (w 2 % 65536 = 0) || decide (w 2 / 65536 = 0)))

/-- BAD_ORDER: the pairs of words that must not fall (R51, R62 to R64). -/
def badOrder (h : Nat) (w : Nat → Nat) : Bool :=
  let falls (a b : Nat) : Bool := decide (w32 (w b) < w32 (w a))
  match h / 2 ^ 24 with
  | 0x10 => falls 2 4 || falls 3 5
  | 0x30 => falls 1 3 || falls 2 4
  | 0x31 => falls 1 2 || falls 3 4 || falls 5 6
  | 0x32 => falls 1 2 || falls 3 4 || falls 5 6
  | _ => false

/-- The first fault in the order of R72 that a header shows. -/
def headFault (h : Nat) : Option Nat :=
  if (instrWords h).isNone then some 0x0740
  else if headReserved h then some 0x0741
  else if badVertices h then some 0x0742
  else none

/-- The first fault in the order of R72 that an instruction shows by itself (R74). -/
def wordFault (h : Nat) (w : Nat → Nat) : Option Nat :=
  if (instrWords h).isNone then some 0x0740
  else if reservedSet h w then some 0x0741
  else if badCount h w then some 0x0742
  else if badOrder h w then some 0x0743
  else none

end Sys2Proof.Machine
end

