-- ==== Sys2Proof/Machine/Inflate.lean ====
section
/-! DEFINITION. The decompressor's decoding: raw DEFLATE (RFC 1951) and the zlib wrapper (RFC 1950), with the stops and the
error codes of R80 to R84. A task is decoded from its first byte, so a resumed run gives the bytes of an uninterrupted one. -/

namespace Sys2Proof.Machine

open Sys2Proof

/-- How decoding ended: done, out of output space, out of input, or the error code of R84. -/
inductive InfEnd where
  | done | outStop | inStop
  | err (code : Nat)
  deriving DecidableEq, Repr

/-- The decoder: input bits not yet read, bits read, output newest first and its length. -/
structure Dec where
  bits : List Bool
  used : Nat
  out  : List Byte
  n    : Nat

/-- The bits of bytes, least significant first. -/
def bitsOf (l : List Byte) : List Bool := l.flatMap (fun b => (List.range 8).map (fun i => bit b.toNat i))

/-- The number spelt by the next n bits, least significant first; none where the input ends. -/
def Dec.take : Nat → Dec → Option (Nat × Dec)
  | 0, d => some (0, d)
  | n + 1, d => match d.bits with
    | [] => none
    | b :: r => match Dec.take n { d with bits := r, used := d.used + 1 } with
      | some (v, d') => some (b2n b + 2 * v, d')
      | none => none

/-- Bits skipped up to a byte boundary. -/
def Dec.align (d : Dec) : Dec :=
  let k := (8 - d.used % 8) % 8
  { d with bits := d.bits.drop k, used := d.used + k }

/-- A code set: the number of codes of each length from 1, and the symbols in code order. -/
structure Huff where
  counts : List Nat
  syms   : List Nat

/-- The code set of a list of code lengths. -/
def huffOf (lens : List Nat) : Huff :=
  { counts := (List.range 15).map (fun l => lens.count (l + 1)),
    syms := (List.range 15).flatMap (fun l => (List.range lens.length).filter (fun i => lens.getD i 0 = l + 1)) }

/-- What a code set leaves over of the code space, in units of the longest code; negative where over-subscribed. -/
def Huff.left (h : Huff) : Int := h.counts.foldl (fun a c => 2 * a - (c : Int)) 1

/-- One symbol; `len` more lengths may follow. The answer is none inside where no code matches. -/
def Huff.sym (syms : List Nat) : List Nat → Nat → Nat → Nat → Dec → Option (Option Nat × Dec)
  | [], _, _, _, d => some (none, d)
  | c :: r, code, first, index, d =>
    match d.bits with
    | [] => none
    | b :: t =>
      let code := code + b2n b
      let d := { d with bits := t, used := d.used + 1 }
      if code < first + c then some (syms[index + (code - first)]?, d)
      else Huff.sym syms r (2 * code) (2 * (first + c)) (index + c) d

def Huff.get (h : Huff) (d : Dec) : Option (Option Nat × Dec) := Huff.sym h.syms h.counts 0 0 0 d

/-- What the output bounds allow: the error or stop that one more byte meets. The limit goes before the space. -/
def room (limit space n : Nat) : Option InfEnd :=
  if limit ≤ n then some (.err 8) else if space ≤ n then some .outStop else none

/-- A match copied byte by byte. -/
def copyMatch (limit space dist : Nat) : Nat → Dec → Option InfEnd × Dec
  | 0, d => (none, d)
  | k + 1, d => match room limit space d.n with
    | some e => (some e, d)
    | none => copyMatch limit space dist k { d with out := d.out.getD (dist - 1) 0 :: d.out, n := d.n + 1 }

def lenBase : List Nat := [3, 4, 5, 6, 7, 8, 9, 10, 11, 13, 15, 17, 19, 23, 27, 31, 35, 43, 51, 59, 67, 83, 99, 115, 131, 163, 195, 227, 258]
def lenExtra : List Nat := [0, 0, 0, 0, 0, 0, 0, 0, 1, 1, 1, 1, 2, 2, 2, 2, 3, 3, 3, 3, 4, 4, 4, 4, 5, 5, 5, 5, 0]
def distExtra (s : Nat) : Nat := (s - 2) / 2
def distBase (s : Nat) : Nat := if s < 4 then s + 1 else (2 + s % 2) * 2 ^ distExtra s + 1

/-- The symbols of a compressed block, to its end-of-block symbol. The fuel is the number of bits left. -/
def codes (limit space : Nat) (lit dst : Huff) : Nat → Dec → Option InfEnd × Dec
  | 0, d => (some .inStop, d)
  | fuel + 1, d =>
    match lit.get d with
    | none => (some .inStop, d)
    | some (none, d) => (some (.err 4), d)
    | some (some s, d) =>
      if s < 256 then
        match room limit space d.n with
        | some e => (some e, d)
        | none => codes limit space lit dst fuel { d with out := BitVec.ofNat 8 s :: d.out, n := d.n + 1 }
      else if s = 256 then (none, d)
      else if 285 < s then (some (.err 4), d)
      else match d.take (lenExtra.getD (s - 257) 0) with
        | none => (some .inStop, d)
        | some (x, d) =>
          match dst.get d with
          | none => (some .inStop, d)
          | some (none, d) => (some (.err 4), d)
          | some (some t, d) =>
            if 29 < t then (some (.err 4), d) else
            match d.take (if t < 4 then 0 else distExtra t) with
            | none => (some .inStop, d)
            | some (y, d) =>
              if d.n < distBase t + y then (some (.err 5), d) else
              match copyMatch limit space (distBase t + y) (lenBase.getD (s - 257) 0 + x) d with
              | (some e, d) => (some e, d)
              | (none, d) => codes limit space lit dst fuel d

/-- The bytes of a stored block. -/
def stored (limit space : Nat) : Nat → Dec → Option InfEnd × Dec
  | 0, d => (none, d)
  | k + 1, d => match room limit space d.n with
    | some e => (some e, d)
    | none => match d.take 8 with
      | none => (some .inStop, d)
      | some (v, d) => stored limit space k { d with out := BitVec.ofNat 8 v :: d.out, n := d.n + 1 }

def fixedLit : Huff :=
  huffOf (List.replicate 144 8 ++ List.replicate 112 9 ++ List.replicate 24 7 ++ List.replicate 8 8)
/-- All 32 distance codes have 5 bits; symbols 30 and 31 are SYMBOL (R84). -/
def fixedDist : Huff := huffOf (List.replicate 32 5)

def clOrder : List Nat := [16, 17, 18, 0, 8, 7, 9, 6, 10, 5, 11, 4, 12, 3, 13, 2, 14, 1, 15]

/-- n fields of three bits. -/
def takeLens : Nat → Dec → Option (List Nat × Dec)
  | 0, d => some ([], d)
  | n + 1, d => match d.take 3 with
    | none => none
    | some (v, d) => match takeLens n d with
      | none => none
      | some (l, d) => some (v :: l, d)

/-- The code lengths of a dynamic block, newest first, until `want` of them stand. -/
def dynLens (cl : Huff) (want : Nat) : Nat → List Nat → Dec → (InfEnd × Dec) ⊕ (List Nat × Dec)
  | 0, _, d => .inl (.inStop, d)
  | fuel + 1, l, d =>
    if want < l.length then .inl (.err 3, d) else if l.length = want then .inr (l, d) else
    match cl.get d with
    | none => .inl (.inStop, d)
    | some (none, d) => .inl (.err 3, d)
    | some (some s, d) =>
      if s < 16 then dynLens cl want fuel (s :: l) d
      else
        let (w, base) := if s = 16 then (2, 3) else if s = 17 then (3, 3) else (7, 11)
        match d.take w with
        | none => .inl (.inStop, d)
        | some (x, d) =>
          if s = 16 then match l with
            | [] => .inl (.err 3, d)
            | p :: _ => dynLens cl want fuel (List.replicate (base + x) p ++ l) d
          else dynLens cl want fuel (List.replicate (base + x) 0 ++ l) d

/-- Whether a code set is one that R84 refuses: over-subscribed, or incomplete other than a single distance code of length 1. -/
def badSet (dist : Bool) (h : Huff) : Bool :=
  decide (h.left < 0) ||
    (decide (0 < h.left) && !(dist && decide (h.counts.sum = 1) && decide (h.counts.getD 0 0 = 1)))

/-- The tables of a dynamic block. -/
def dynTables (fuel : Nat) (d : Dec) : (InfEnd × Dec) ⊕ (Huff × Huff × Dec) :=
  match d.take 14 with
  | none => .inl (.inStop, d)
  | some (v, d1) =>
    let hlit := v % 32 + 257
    let hdist := v / 32 % 32 + 1
    match takeLens (v / 1024 + 4) d1 with
    | none => .inl (.inStop, d1)
    | some (cl, d2) =>
      let h := huffOf ((List.range 19).map (fun i => match clOrder.idxOf? i with
        | some k => cl.getD k 0
        | none => 0))
      if badSet false h then .inl (.err 3, d2) else
      match dynLens h (hlit + hdist) fuel [] d2 with
      | .inl e => .inl e
      | .inr (l, d3) =>
        let l := l.reverse
        let a := huffOf (l.take hlit)
        let b := huffOf (l.drop hlit)
        if badSet false a || badSet true b then .inl (.err 3, d3) else .inr (a, b, d3)

/-- The blocks of a stream to the end of its final one. -/
def blocks (limit space : Nat) : Nat → Dec → Option InfEnd × Dec
  | 0, d => (some .inStop, d)
  | fuel + 1, d =>
    match d.take 3 with
    | none => (some .inStop, d)
    | some (v, d) =>
      let body : Option InfEnd × Dec :=
        if v / 2 = 0 then
          match d.align.take 32 with
          | none => (some .inStop, d)
          | some (x, d) => if x % 65536 + x / 65536 ≠ 65535 then (some (.err 2), d) else stored limit space (x % 65536) d
        else if v / 2 = 1 then codes limit space fixedLit fixedDist (d.bits.length + 1) d
        else if v / 2 = 2 then
          match dynTables (d.bits.length + 1) d with
          | .inl (e, d) => (some e, d)
          | .inr (a, b, d) => codes limit space a b (d.bits.length + 1) d
        else (some (.err 1), d)
      match body with
      | (some e, d) => (some e, d)
      | (none, d) => if v % 2 = 1 then (none, d) else blocks limit space fuel d

/-- Adler-32 of bytes. -/
def adler32 (l : List Byte) : Nat :=
  let (a, b) := l.foldl (fun (p : Nat × Nat) x => let a := (p.1 + x.toNat) % 65521; (a, (p.2 + a) % 65521)) (1, 0)
  b * 65536 + a

/-- What a task has done with its input: its output, whole bytes consumed, bits of the next one consumed, and its end. -/
structure Inflated where
  out  : List Byte
  used : Nat
  bits : Nat
  fin  : InfEnd

def Dec.result (d : Dec) (e : InfEnd) : Inflated := { out := d.out.reverse, used := d.used / 8, bits := d.used % 8, fin := e }

/-- A task over the input it has so far: with zlib selected, header and trailer are checked (R80). -/
def inflate (zlib : Bool) (input : List Byte) (limit space : Nat) : Inflated :=
  let d : Dec := { bits := bitsOf input, used := 0, out := [], n := 0 }
  let inStop : Inflated := { out := [], used := input.length, bits := 0, fin := .inStop }
  let run (d : Dec) : Option InfEnd × Dec := blocks limit space (d.bits.length + 1) d
  let stop (d : Dec) : Inflated := { d.result .inStop with used := input.length, bits := 0 }
  if zlib then
    match d.take 16 with
    | none => inStop
    | some (h, d) =>
      let cmf := h % 256
      let flg := h / 256
      if cmf % 16 ≠ 8 ∨ 7 < cmf / 16 ∨ (cmf * 256 + flg) % 31 ≠ 0 ∨ bit flg 5 then d.result (.err 6)
      else match run d with
        | (some .inStop, d) => stop d
        | (some e, d) => d.result e
        | (none, d) => match d.align.take 32 with
          | none => stop d
          | some (_, d') =>
            let t := input.drop (d'.used / 8 - 4) |>.take 4
            if ofBE t = adler32 d'.out.reverse then d'.result .done else d'.result (.err 7)
  else match run d with
    | (some .inStop, d) => stop d
    | (some e, d) => d.result e
    | (none, d) => d.align.result .done

end Sys2Proof.Machine
end

