-- ==== Sys2Proof/Machine/Gather.lean ====
section
/-! DEFINITION. Gather: segment fetches, the install parser, the buddy allocator, pins and evictions, page checks, tag verdicts,
job contexts (R43 to R50, R69, R70, R76 to R79, R86 to R96, R327, R359, R360). -/

namespace Sys2Proof.Machine

open Sys2Proof

/-! ## Layout of the cell cache (R86) and of the ingest area (R386) -/

/-- The HBM address of an ingest slot. -/
def slotBase (i : Nat) : Nat := 0x06000000 + i * 0x08000000

/-- The size of the cell-cache region, by the side of 8 on which P lies (R386). -/
def State.cacheBytes (s : State) : Nat := if s.host.wide then 46720 * 1048576 else 55040 * 1048576

/-- The check word of a page of the pool, behind the 1,024 MiB of cell tables. -/
def State.checkAddr (s : State) (p : Nat) : Nat := s.f GTH_REGION_BASE.BASE + 1024 * 1048576 + 4 * p

/-- The HBM address of a page: the pool ends the region (R86). -/
def State.pageAddr (s : State) (p : Nat) : Nat :=
  s.f GTH_REGION_BASE.BASE + s.cacheBytes - s.f GTH_POOL_PAGES.PAGES * 256 + p * 256

/-! ## Cell table -/

def State.cell (s : State) (c id : Nat) : Cell := (mget (s.ctx c).cells id).getD Cell.empty

def State.modCell (s : State) (c id : Nat) (f : Cell → Cell) : State :=
  s.modCtx c (fun x => { x with cells := mset x.cells id (f ((mget x.cells id).getD Cell.empty)) })

/-- Whether a walk waits on a cell, for the raster sweep or for the density sweep. -/
def State.awaited (s : State) (density : Bool) (c id : Nat) : Bool :=
  s.blow.walks.any (fun w => match w with
    | some t => decide (t.state = .waitCell) && decide (t.want = some id) && decide (t.ctx = c) && decide (t.density = density)
    | none => false)

/-- The lowest tile-column sequence of the walks that wait on a cell. -/
def State.awaitedSeq (s : State) (density : Bool) (c id : Nat) : Option Nat :=
  (s.blow.walks.filterMap (fun w => match w with
    | some t => if t.state = .waitCell ∧ t.want = some id ∧ t.ctx = c ∧ t.density = density then some t.seq else none
    | none => none)).min?

/-- The raster sequence of a job (R94): the lowest whose raster walks are not all complete. -/
def State.rasterSeq (s : State) (c : Nat) : Nat :=
  let open_ := s.blow.walks.filterMap (fun w => match w with
    | some t => if t.ctx = c ∧ t.density = false then some t.seq else none
    | none => none)
  let begun := (s.blow.sweeps.filter (fun w => decide (w.stripe.ctx = c))).filterMap (fun w =>
    if w.rStarted < cdiv w.stripe.len 256 * s.rows w.stripe then some (w.stripe.seq0 + w.rStarted / s.rows w.stripe) else none)
  (open_ ++ begun).min?.getD (s.ctx c).nextSeq

/-- Whether a cell stands on some level of a walk context's call stack (R94). -/
def State.inUse (s : State) (c id : Nat) : Bool :=
  s.blow.walks.any (fun w => match w with
    | some t => decide (t.ctx = c) && t.stack.any (fun l => decide (l.cell = id))
    | none => false)

/-- Whether a cell is pinned (R94). -/
def State.pinned (s : State) (c id : Nat) : Bool :=
  let e := s.cell c id
  (match e.pinSeq with
    | some p => decide (s.rasterSeq c ≤ p)
    | none => false) || decide (id = 0) || e.perm || s.inUse c id

/-- A cell used: it is the most recently used (R94). -/
def State.touch (s : State) (c id : Nat) : State :=
  let s1 := { s with gather := { s.gather with clock := s.gather.clock + 1 } }
  s1.modCell c id (fun e => { e with lru := s1.gather.clock })

/-! ## Buddy allocator (R88) -/

/-- The smallest k with 2^k × 64 ≥ LEN, up to 18. -/
def orderFor (len : Nat) : Nat := ((List.range 19).find? (fun k => decide (len ≤ 2 ^ k * 64))).getD 18

/-- The pool as free blocks of 64 MiB. -/
def poolBlocks (pages : Nat) : List (Nat × Nat) := (List.range (pages / 262144)).map (fun i => (18, i * 262144))

/-- Blocks of order k at the head, split from one of a higher order: the upper halves of each split stay free. -/
def splitBlock : Nat → Nat → Nat → List (Nat × Nat)
  | 0, _, _ => []
  | n + 1, k, p => (k + n, p + 2 ^ (k + n)) :: splitBlock n k p

/-- A block of order k taken from the lowest page of the smallest order that has one. -/
def takeBlock (free : List (Nat × Nat)) (k : Nat) : Option (Nat × List (Nat × Nat)) :=
  match ((List.range 19).filter (fun j => decide (k ≤ j) && free.any (fun b => decide (b.1 = j)))).head? with
  | none => none
  | some j => match ((free.filter (fun b => decide (b.1 = j))).map Prod.snd).min? with
    | none => none
    | some p => some (p, splitBlock (j - k) k p ++ free.filter (fun b => !decide (b = (j, p))))

/-- A block freed and joined with its buddy as long as that is free and the block is below order 18. -/
def giveBlock : Nat → List (Nat × Nat) → Nat → Nat → List (Nat × Nat)
  | 0, free, k, p => (k, p) :: free
  | n + 1, free, k, p =>
    let q := if p / 2 ^ k % 2 = 0 then p + 2 ^ k else p - 2 ^ k
    if k < 18 ∧ (k, q) ∈ free then giveBlock n (free.filter (fun b => !decide (b = (k, q)))) (k + 1) (min p q)
    else (k, p) :: free

def freeBlock (free : List (Nat × Nat)) (k p : Nat) : List (Nat × Nat) := giveBlock 18 free k p

/-- Pages in free blocks. -/
def freePages (free : List (Nat × Nat)) : Nat := (free.map (fun b => 2 ^ b.1)).sum

/-- GTH_FREE_PAGES follows the allocator. -/
def State.showFree (s : State) : State := s.put GTH_FREE_PAGES.FREE (freePages s.gather.free)

def State.setFree (s : State) (l : List (Nat × Nat)) : State := ({ s with gather := { s.gather with free := l } }).showFree

/-- The pages of a block freed one by one but the withheld one (R92, R93). -/
def freeExcept (free : List (Nat × Nat)) (p bad : Nat) : Nat → List (Nat × Nat)
  | 0 => free
  | n + 1 => let f := freeExcept free p bad n
             if p + n = bad then f else freeBlock f 0 (p + n)

/-- A cell made ABSENT, its block freed. -/
def State.dropCell (s : State) (c id : Nat) : State :=
  let s1 := match (s.cell c id).block with
    | some (p, k) => s.setFree (freeBlock s.gather.free k p)
    | none => s
  s1.modCell c id (fun e => { e with state := .absent, block := none })

/-! ## Eviction (R95) -/

/-- The cells of both contexts that satisfy a test, by least recent use. -/
def State.lruCells (s : State) (f : Nat → Nat → Cell → Bool) : List (Int × Nat × Nat) :=
  let l := [0, 1].flatMap (fun c => (s.ctx c).cells.filterMap (fun e => if f c e.1 e.2 then some (e.2.lru, c, e.1) else none))
  l.mergeSort (fun a b => decide (a.1 ≤ b.1))

/-- RESIDENT, unpinned cells evicted in order until a block of order k can be formed. -/
def State.evict (k : Nat) : List (Int × Nat × Nat) → State → State
  | [], s => s
  | (_, c, id) :: r, s =>
    if (takeBlock s.gather.free k).isSome then s
    else State.evict k r ((s.dropCell c id).count GTH_CNT_EVICT.COUNT 1)

/-- Density pins revoked: cells with PIN_SEQ above the raster sequence, in descending PIN_SEQ, then by least recent use. -/
def State.revocable (s : State) : List (Int × Nat × Nat) :=
  let l := s.lruCells (fun c id e => decide (e.state = .resident) && !e.perm && decide (id ≠ 0) && !s.inUse c id &&
    (match e.pinSeq with
      | some p => decide (s.rasterSeq c < p)
      | none => false))
  l.mergeSort (fun a b => decide ((s.cell b.2.1 b.2.2).pinSeq.getD 0 ≤ (s.cell a.2.1 a.2.2).pinSeq.getD 0))

/-- A revocation charged to the stripe of a context's raster sweep: the first with raster walks left to end (R95). -/
def State.chargeRevoke (c : Nat) (s : State) : State :=
  match s.blow.sweeps.find? (fun w => decide (w.stripe.ctx = c) && decide (w.rEnded < s.rasterTotal w.stripe)) with
  | none => s
  | some v => { s with blow := { s.blow with sweeps := s.blow.sweeps.map (fun (w : Sweep) =>
      if w.stripe.same v.stripe then { w with revoked := w.revoked + 1 } else w) } }

/-- Pins revoked in order until a block of order k can be formed, each one charged by `f`. -/
def State.revoke (f : State → State) (k : Nat) : List (Int × Nat × Nat) → State → State
  | [], s => s
  | (_, c, id) :: r, s =>
    if (takeBlock s.gather.free k).isSome then s
    else State.revoke f k r (f ((((s.dropCell c id).modCell c id (fun e => { e with pinSeq := none })).count GTH_CNT_EVICT.COUNT 1).flag
        GTH_STATUS.REVOKED))

/-- The outcome of making room. -/
inductive Room where
  | ok (page : Nat) | wait | full

/-- Room made for a cell of order k (R95): eviction, then for a raster walk's cell the revocation of density pins. The top
cell is taken with a raster walk's right (log entry 10). -/
def State.makeRoom (s : State) (c id k : Nat) : Room × State :=
  let s1 := State.evict k (s.lruCells (fun c id e => decide (e.state = .resident) && !s.pinned c id)) s
  match takeBlock s1.gather.free k with
  | some (p, l) => (.ok p, s1.setFree l)
  | none =>
    if s1.awaited false c id ∨ id = 0 then
      let s2 := State.revoke (State.chargeRevoke c) k s1.revocable s1
      match takeBlock s2.gather.free k with
      | some (p, l) => (.ok p, s2.setFree l)
      | none => (.full, s2)
    else (.wait, s1)

/-! ## Ingest slots -/

def State.slot (s : State) (i : Nat) : Option Ingest := (s.gather.slots[i]?).join

def State.setSlot (s : State) (i : Nat) (g : Option Ingest) : State :=
  { s with gather := { s.gather with slots := s.gather.slots.set i g } }

/-- The lowest packet not received: ACK_NEXT. -/
def firstMissing (got : List Nat) : Nat → Nat → Nat
  | 0, n => n
  | k + 1, n => if n ∈ got then firstMissing got k (n + 1) else n

def Ingest.ackNext (g : Ingest) : Nat := firstMissing g.got (g.got.length + 1) 0

/-- Bytes of the contiguous prefix in the slot (R329). -/
def Ingest.prefixBytes (g : Ingest) : Nat := min (g.ackNext * 8192) (g.total.getD 0)

/-- Whether every packet of the segment has arrived. -/
def Ingest.complete (g : Ingest) : Bool :=
  match g.total with
  | some t => decide (t ≤ g.ackNext * 8192)
  | none => false

def State.jobKeyOf (s : State) (c : Nat) : List Byte :=
  match s.sage.jobKeys[c]? with
  | some (some k) => k.key
  | _ => []

/-- What the decompressor lane of a slot has made so far of the contiguous prefix (R78, R359): Sage's plaintext, inflated
under the job's wrapper choice and limit (R80, R82). Nothing before leave is granted and a lane assigned. -/
def State.inflated (s : State) (i : Nat) (g : Ingest) : Inflated :=
  if g.decrypt ∧ (g.lane.isSome ∨ g.inflated) then
    let b := s.hbmRead (slotBase i) g.prefixBytes
    let h := b.take 48
    let n := ofLE ((h.drop 24).take 4)
    let ct := (b.drop 48).take n
    let r := inflate (s.on (GTH_CTX_CFG.ZLIB g.ctx)) (gcmText (s.jobKeyOf g.ctx) ((h.drop 32).take 12) ct)
      (min (s.f (GTH_CTX_LIMIT.LIMIT g.ctx)) 0x4000000) (2 ^ 64)
    if r.fin = .done ∧ r.used < n ∧ g.complete then { r with fin := .err 9 } else r
  else { out := [], used := 0, bits := 0, fin := .inStop }

/-- Word n of a stream, zero-extended where it is cut. -/
def wordAt (out : List Byte) (n : Nat) : Nat := ofLE ((out.drop (4 * n)).take 4)

/-- Whether word n of the stream has been delivered whole. -/
def haveWord (out : List Byte) (n : Nat) : Bool := decide (4 * n + 4 ≤ out.length)

/-- The header check and the tag of a complete segment (R359, R360). -/
def State.segmentOk (s : State) (i : Nat) (g : Ingest) : Bool :=
  let total := g.total.getD 0
  let b := s.hbmRead (slotBase i) total
  let h := b.take 48
  let ct := (b.drop 48).take (total - 64)
  decide (64 ≤ total) && !s.hbmBad (slotBase i) total && decide (ofLE (h.take 1) = 1) &&
  decide (ofLE ((h.drop 1).take 1) = s.f (GTH_CTX_CFG.ZLIB g.ctx)) && decide (ofLE ((h.drop 2).take 2) = 0) &&
  decide (ofLE ((h.drop 4).take 2) = g.seg) && decide (ofLE ((h.drop 6).take 2) = 0) &&
  decide (ofLE ((h.drop 8).take 16) = (s.ctx g.ctx).job) && decide (ofLE ((h.drop 24).take 4) + 64 = total) &&
  decide (ofLE ((h.drop 28).take 4) = 0) && decide (ofLE ((h.drop 44).take 4) = 0) &&
  decide (gcmTag (s.jobKeyOf g.ctx) ((h.drop 32).take 12) h ct = (b.drop (total - 16)).take 16)

/-! ## Figure-code faults found by the parser (R72, R89) -/

/-- A figure-code fault of a context: word offset and header are withheld unless DIAG is set (R345). A job reports one (R74). -/
def State.figFault (s : State) (c code seg woff hdr : Nat) : State :=
  if (s.ctx c).figDone then s
  else
    let d := s.diag c
    (s.modCtx c (fun x => { x with figDone := true })).jobFault c code (!d) [a16 seg, a32 (if d then woff else 0), a32 (if d then hdr else 0)]

/-- A parser fault: raised once the tag has passed, held until then; the first one counts (R74, R89). -/
def State.parseFault (s : State) (i : Nat) (g : Ingest) (code woff hdr : Nat) : State :=
  let g1 := { g with parse := { g.parse with ended := true, endAt := none } }
  match g.verdict with
  | some true => (s.setSlot i (some g1)).figFault g.ctx code g.seg woff hdr
  | _ => s.setSlot i (some { g1 with held := match g.held with
      | some h => some h
      | none => some { code := code, seg := g.seg, woff := woff, hdr := hdr } })

/-! ## Fetching (R77, R327) -/

/-- The segments wanted, as (priority, tile-column sequence, context, segment) (R77; permanent pins last, log entry 10). The walks that
a job halt has left go on (R299), so that a halted context still wants the segments of the cells on which they wait. -/
def State.wanted (s : State) : List (Nat × Nat × Nat × Nat) :=
  [0, 1].flatMap (fun c =>
    let runs := decide ((s.ctx c).halt = none)
    if s.ctxOpen c then
      (if runs && !(s.ctx c).seg0 then [(0, 0, c, 0)] else []) ++
      (s.ctx c).cells.flatMap (fun e =>
        if e.2.state = .absent ∨ e.2.state = .fetching then
          (match s.awaitedSeq false c e.1 with
            | some q => [(1, q, c, e.2.seg)]
            | none => []) ++
          (match s.awaitedSeq true c e.1 with
            | some q => [(2, q, c, e.2.seg)]
            | none => []) ++
          (if runs ∧ e.2.perm ∧ e.2.state = .absent then [(3, 0, c, e.2.seg)] else [])
        else [])
    else [])

/-- Whether the definition of a cell is still to come out of a fetch that runs: the parser of its segment has not passed it (R91). -/
def State.coming (s : State) (c : Nat) (e : Cell) : Bool :=
  s.gather.slots.any (fun g => match g with
    | some x => decide (x.ctx = c) && decide (x.seg = e.seg) && !x.parse.ended && decide (x.parse.pos ≤ e.woff) &&
        (match x.parse.cell with
          | some o => o.inst || decide (o.woff < e.woff)
          | none => true)
    | none => false)

/-- Whether a segment is being fetched. -/
def State.fetching (s : State) (c seg : Nat) : Bool :=
  s.gather.slots.any (fun g => match g with
    | some x => decide (x.ctx = c) && decide (x.seg = seg)
    | none => false)

def lexLe (a b : Nat × Nat × Nat × Nat) : Bool :=
  decide (a.1 < b.1) || (decide (a.1 = b.1) && decide (a.2.1 ≤ b.2.1))

/-- Whether a lane has no task: STATE is idle, done or error. -/
def State.laneOpen (s : State) (n : Nat) : Bool :=
  let v := s.f (DCP_STATUS.STATE n)
  decide (v = 0) || decide (v = 4) || decide (v = 5)

/-- The rank of a slot's segment in the order of R77: segment 0 comes first as long as its context is newly opened, that is until its
directory has been executed. -/
def State.slotRank (s : State) (g : Ingest) : Nat × Nat :=
  if g.seg = 0 ∧ (s.ctx g.ctx).dirDone = false then (0, 0)
  else match ((s.wanted.filter (fun w => decide (w.2.2.1 = g.ctx) && decide (w.2.2.2 = g.seg))).mergeSort lexLe).head? with
    | some w => (w.1, w.2.1)
    | none => (4, 0)

/-- The slots whose decrypted segment waits for a lane, first in the order of R77. -/
def State.laneWaiters (s : State) : List Nat :=
  let l := (List.range 16).filterMap (fun i => match s.slot i with
    | some g => if g.decrypt ∧ g.lane = none ∧ ¬ g.inflated then some (s.slotRank g, i) else none
    | none => none)
  (l.mergeSort (fun a b => decide (a.1.1 < b.1.1) || (decide (a.1.1 = b.1.1) && decide (a.1.2 ≤ b.1.2)))).map Prod.snd

/-! ## Decompressor lanes (R81) -/

def State.lane (s : State) (n : Nat) : Lane :=
  s.lanes.getD n { nextOwner := none, input := [], written := 0, before := 0, outAddr := 0, outLen := 0, limit := 0, zlib := false }

def State.modLane (s : State) (n : Nat) (f : Lane → Lane) : State := { s with lanes := lmod s.lanes n f }

/-- An OWNER value that waits takes effect once the lane has no task. -/
def State.applyOwner (s : State) (n : Nat) : State :=
  match (s.lane n).nextOwner with
  | some v => if s.laneOpen n then (s.put (DCP_CTL.OWNER n) v).modLane n (fun l => { l with nextOwner := none }) else s
  | none => s

/-- Gather's free lanes taken by the slots that wait (R81). -/
def State.giveLanes : Nat → State → State
  | 0, s => s
  | k + 1, s =>
    match (List.range 4).find? (fun n => decide (s.f (DCP_CTL.OWNER n) = 0) && s.laneOpen n), s.laneWaiters with
    | some n, i :: _ => match s.slot i with
      | some g => State.giveLanes k
          ((((s.setSlot i (some { g with lane := some n })).put (DCP_STATUS.STATE n) 1).put (DCP_STATUS.ERR n) 0).put (DCP_STATUS.IN_BITS n) 0)
      | none => s
    | _, _ => s

/-- A slot freed with its leave; its lane, if it has one, is idle: an OWNER value that waits takes effect, or the lane goes to the
next slot. -/
def State.dropSlot (s : State) (i : Nat) : State :=
  match s.slot i with
  | none => s
  | some g =>
    let s1 := (s.setSlot i none).giveLeave (.sage i)
    match g.lane with
    | some n => State.giveLanes 4 ((s1.put (DCP_STATUS.STATE n) 0).applyOwner n)
    | none => s1

/-- The segment that is fetched next (R77): not one in a slot, nor one that is not fetched again (R79, R92). -/
def State.nextFetch (s : State) : Option (Nat × Nat) :=
  ((((s.wanted.filter (fun w => !s.fetching w.2.2.1 w.2.2.2 && !decide (w.2.2.2 ∈ (s.ctx w.2.2.1).segDead))).mergeSort lexLe).head?).map
    (fun w => (w.2.2.1, w.2.2.2)))

/-- The window that a FETCH or an ACK names, 1 to 1,024 packets (R325). -/
def State.wstWindow (s : State) : Nat := min 1024 (max 1 (s.f ETH_WST_CFG.WINDOW))

/-- The bytes of packet `seq` of a segment of `total` bytes. -/
def packetLen (total seq : Nat) : Nat := min 8192 (total - seq * 8192)

/-- Ciphertext bytes outstanding on a port; a segment whose TOTAL is not yet known counts one window (log entry 10). -/
def State.outstanding (s : State) (p : Nat) : Nat :=
  (s.gather.slots.map (fun g => match g with
    | some x => if x.port = p then (match x.total with
        | some t => t - (x.got.map (packetLen t)).sum
        | none => s.wstWindow * 8192) else 0
    | none => 0)).sum

/-- The storage port of a FETCH: the least loaded, the lowest among equals (R327). -/
def State.storagePort (s : State) : Option Nat :=
  let l := (List.range 4).filter s.storageOn
  l.find? (fun p => l.all (fun q => decide (s.outstanding p ≤ s.outstanding q)))

/-- The free ingest slot with the lowest number (R76). -/
def State.freeSlot (s : State) : Option Nat :=
  (List.range (s.f GTH_CTL.SLOTS + 1)).find? (fun i => (s.slot i).isNone)

/-- The number of servers, at least 1. -/
def State.servers (s : State) : Nat := max 1 (s.f ETH_WST_TMO.SRV_COUNT)

/-- The payload of a FETCH: JOB, SEG and START behind the header (R326). -/
def State.fetchPayload (s : State) (g : Ingest) : List Byte :=
  wstHeader 1 false false g.session 0 0 0 s.wstWindow 22 0 ++ toLE 16 (s.ctx g.ctx).job ++ toLE 2 g.seg ++ toLE 4 g.start

/-- A FETCH leaves for a slot. -/
def State.fetchOut (s : State) (g : Ingest) : State := s.sendServer g.port g.server (s.fetchPayload g)

/-- A FETCH sent for a slot with a new SESSION (R326, R327). -/
def State.sendFetch (s : State) (i : Nat) (g : Ingest) : State :=
  let n := (s.gather.session + 1) % 2 ^ 32
  let s1 := { s with gather := { s.gather with session := n } }
  (s1.setSlot i (some { g with session := n })).fetchOut { g with session := n }

/-- SEGMENT_FETCH (R77): the fetch that comes first in the order of R77 starts, once GTH_CTL.ENABLE is 1, an ingest slot is
free and a storage port is configured. Cells of the segment on which walks wait are FETCHING (R91). -/
def execSegmentFetch (s : State) : Host.Outcome State Fault Refusal :=
  if s.runs GTH_CTL.ENABLE ∧ ¬ s.on EVJ_STATUS.SAFE then
    match s.freeSlot, s.nextFetch, s.storagePort with
    | some i, some (c, seg), some p =>
      let g : Ingest := {
        ctx := c, seg := seg, session := 0, port := p, server := seg % s.servers, tries := 1, start := 0,
        total := none, got := [], lastAck := 0, uncovered := false, lossSent := [], timeouts := 0, answered := false,
        decrypt := false, lane := none, verdict := none, stopped := false, inflated := false, err := 0, parse := Parse.start,
        held := none }
      let s1 := (s.sendFetch i g).count GTH_CNT_FETCH.COUNT 1
      .next (s1.modCtx c (fun x => { x with
        seg0 := x.seg0 || decide (seg = 0),
        cells := x.cells.map (fun e => if e.2.seg = seg ∧ e.2.state = .absent ∧
          (s.awaited false c e.1 ∨ s.awaited true c e.1 ∨ e.2.perm) then (e.1, { e.2 with state := .fetching }) else e) }))
    | _, _, _ => .next s
  else .next s

/-! ## The install parser (R89, R90) -/

/-- The position of the next word that is no NOP; the fuel bounds the words skipped. -/
def skipNops (out : List Byte) : Nat → Nat → Nat
  | 0, p => p
  | k + 1, p => if haveWord out p ∧ wordAt out p = 0x01000000 then skipNops out k (p + 1) else p

/-- The number of whole words of a stream, its last END left out where one stands at its end (R43, R50). -/
def bodyWords (out : List Byte) : Nat :=
  let n := out.length / 4
  if 0 < n ∧ wordAt out (n - 1) = 0xFF000000 then n - 1 else n

/-- The word and header that STREAM_LEN carries where a stream ends without END (R43). -/
def streamEnd (g : Ingest) (r : Inflated) : Nat × Nat :=
  let p := skipNops r.out (r.out.length / 4 + 1) g.parse.pos
  if 4 * p < r.out.length then (p, wordAt r.out p) else (r.out.length / 4, 0)

/-- Words that the parser must see of what stands at word p outside a cell before it can act on it: of a CELL_BEGIN the first two. -/
def headWords (h : Nat) : Nat := if h / 2 ^ 24 = 0x10 then 2 else (instrWords h).getD 1

/-- Whether the parser can read no further: the stream has ended inside a definition, inside an instruction outside cells, or
between instructions. -/
def stuck (g : Ingest) (r : Inflated) : Bool :=
  match g.parse.cell with
  | some o => !haveWord r.out (o.woff + o.len - 1)
  | none =>
    let p := skipNops r.out (r.out.length / 4 + 1) g.parse.pos
    !haveWord r.out p || !haveWord r.out (p + headWords (wordAt r.out p) - 1)

/-- SEGREFs that name a segment and whose word at WOFF, within [lo, hi), is not the matching CELL_BEGIN (R70). -/
def State.badRefs (s : State) (c seg lo hi : Nat) (out : List Byte) : List (Nat × Nat) :=
  (s.ctx c).cells.filterMap (fun e =>
    if e.2.listed ∧ e.2.seg = seg ∧ lo ≤ e.2.woff ∧ e.2.woff < hi ∧
       ¬ (wordAt out e.2.woff = 0x10000000 + e.1 ∧ wordAt out (e.2.woff + 1) % 2 ^ 24 = e.2.len)
    then some (e.2.woff, wordAt out e.2.woff) else none)

/-- Of several failing SEGREFs the one with the lowest WOFF. DESIGN CHOICE (log entry 10). -/
def firstRef (l : List (Nat × Nat)) : Option (Nat × Nat) := (l.mergeSort (fun a b => decide (a.1 ≤ b.1))).head?

/-- SEGREF_MISMATCH at the NOPs that the parser skips up to word p (R70). -/
def State.nopRefs (s : State) (g : Ingest) (p : Nat) (out : List Byte) : Option (Nat × Nat) :=
  if g.seg = 0 then none else firstRef (s.badRefs g.ctx g.seg g.parse.pos p out)

/-- What a stream that is over shows between or inside its instructions: a definition that runs past its end (R50; where a stream without END
is cut inside a definition, CELL_NEST at its CELL_BEGIN is taken before STREAM_LEN: DESIGN CHOICE, log entry 10), SEGREFs that
name a NOP (R70), an instruction cut short with a fault in its header (R74), STREAM_LEN (R43). -/
def State.cutFault (s : State) (g : Ingest) (r : Inflated) : Nat × Nat × Nat :=
  match g.parse.cell with
  | some o => (0x0744, o.woff, wordAt r.out o.woff)
  | none =>
    let (w, h) := streamEnd g r
    match s.nopRefs g w r.out with
    | some (o, x) => (0x074C, o, x)
    | none =>
      if g.parse.begun ∧ g.parse.pos = r.out.length / 4 ∧ bodyWords r.out < g.parse.pos then (0x0744, g.parse.last, wordAt r.out g.parse.last)
      else if haveWord r.out w ∧ h / 2 ^ 24 ≠ 0x10 ∧ ¬ (h / 2 ^ 24 = 0x50 ∧ g.seg = 0 ∧ ¬ g.parse.begun) then
        ((headFault h).getD 0x0744, w, h)
      else (0x074B, w, h)

/-- The faults of an authenticated segment's stream, at the later of the verdict and its end: INFLATE_ERROR, SEG_OVERSIZE, data
behind END (R43), what `cutFault` says where there is no END. -/
def State.streamFaults (s : State) (i : Nat) (g : Ingest) : State :=
  if g.verdict ≠ some true ∨ ¬ g.inflated then s else
  let r := s.inflated i g
  if g.err = 8 then s.jobFault g.ctx 0x0613 false [a16 g.seg, a32 (min (s.f (GTH_CTX_LIMIT.LIMIT g.ctx)) 0x4000000)]
  else if g.err ≠ 0 then s.jobFault g.ctx 0x0612 false [a16 g.seg, a8 g.err, a32 r.used, a32 r.out.length]
  else if g.parse.ended then match g.parse.endAt with
    | some q => if 4 * q < r.out.length then s.figFault g.ctx 0x074B g.seg q (wordAt r.out q) else s
    | none => s
  else if stuck g r then
    let (c, w, h) := s.cutFault g r
    s.figFault g.ctx c g.seg w h
  else s

/-- A cell made ABSENT, its block freed, for each cell of a segment whose definition has not been inflated. -/
def State.absentRest (s : State) (c seg : Nat) : List Nat → State
  | [] => s
  | id :: r =>
    let e := s.cell c id
    (if e.seg = seg ∧ e.state = .fetching then s.dropCell c id else s).absentRest c seg r

/-- What has been read of an authenticated segment reaches the cell table (R19): the directory's entries and the definitions. The
directory has been executed once something other than SEGREF and NOP has been read behind it (R48). -/
def State.commitParse (s : State) (g : Ingest) : State :=
  let p := g.parse
  s.modCtx g.ctx (fun x =>
    let listed := p.refs.foldl (fun m (e : Nat × Nat × Nat × Nat) => mset m e.1
      { (mget m e.1).getD Cell.empty with listed := true, seg := e.2.1, woff := e.2.2.1, len := e.2.2.2 }) x.cells
    let defined := p.defs.foldl (fun m (e : Nat × Nat × Nat) =>
      let c := (mget m e.1).getD Cell.empty
      if c.state = .resident ∧ c.defined then m
      else mset m e.1 { c with defined := true, seg := g.seg, woff := e.2.1, len := e.2.2 }) listed
    { x with
      cells := defined, dirDone := x.dirDone || (decide (g.seg = 0) && (p.begun || p.endAt.isSome)),
      seg0Done := x.seg0Done || (decide (g.seg = 0) && p.endAt.isSome) })

/-- A slot whose task has ended and whose verdict has been reached is free; cells of its segment that were not installed are
ABSENT again, their blocks freed. -/
def State.retire (s : State) (i : Nat) (g : Ingest) : State :=
  if g.verdict.isSome ∧ g.inflated ∧ (g.parse.ended ∨ g.err ≠ 0 ∨ stuck g (s.inflated i g)) then
    (s.setSlot i none).absentRest g.ctx g.seg ((s.ctx g.ctx).cells.map Prod.fst)
  else s

/-- What a step of the parser or the end of a slot's task brings: what may be used is used, the faults of the stream's end are
raised, the slot is freed. -/
def State.settle (s : State) (i : Nat) : State :=
  match s.slot i with
  | some g =>
    let s1 := if g.verdict = some true then s.commitParse g else s
    (s1.streamFaults i g).retire i g
  | none => s

/-- Pages of a definition written to its block, each with its check word, as far as its words have been delivered; the last
used page is filled with zeros (R88, R89). -/
def State.writePages (s : State) (base : Nat) (body : List Byte) : Nat → State
  | 0 => s
  | n + 1 =>
    let s1 := s.writePages base body n
    let d := (body.drop (256 * n)).take 256
    let pg := d ++ List.replicate (256 - d.length) 0
    let s2 := s1.hbmWrite (s1.pageAddr (base + n)) pg
    s2.hbmWrite (s2.checkAddr (base + n)) (toLE 4 (crc32c pg))

/-- The words of a definition delivered so far, written: whole pages, and the last page once the definition is complete. -/
def State.putCell (s : State) (base woff len : Nat) (out : List Byte) : State :=
  let body := (out.drop (4 * woff)).take (4 * len)
  s.writePages base body (if body.length = 4 * len then cdiv len 64 else body.length / 256)

/-- Whether the parser installs a cell (R90), and whether it is cold. A permanently pinned cell is installed like a cell that
is waited for (log entry 10). -/
def State.installs (s : State) (c id len : Nat) : Bool × Bool :=
  let e := s.cell c id
  if e.state = .resident ∨ e.state = .pending ∨ e.block.isSome then (false, false)
  else if s.awaited false c id ∨ s.awaited true c id ∨ id = 0 ∨ e.perm then (true, false)
  else if s.f GTH_COLD_RESERVE.PAGES + 2 ^ orderFor len < freePages s.gather.free then (true, true)
  else (false, false)

/-- STATE of the lane of a slot's task. -/
def State.showLane (s : State) (g : Ingest) (v : Nat) : State :=
  match g.lane with
  | some n => s.put (DCP_STATUS.STATE n) v
  | none => s

/-- STATE of the lane of a task that stops, and the bits of its next input byte that it has consumed (R83). -/
def State.stopLane (s : State) (g : Ingest) (v bits : Nat) : State :=
  match g.lane with
  | some n => (s.put (DCP_STATUS.STATE n) v).put (DCP_STATUS.IN_BITS n) bits
  | none => s

/-- A slot's task out-stopped at a CELL_BEGIN for which there is no room: its output space is used up behind the word that gives LEN.
DESIGN CHOICE (log entry 10). -/
def State.outStop (s : State) (i : Nat) (g : Ingest) (woff : Nat) : Inflated :=
  let b := s.hbmRead (slotBase i) g.prefixBytes
  let n := ofLE (((b.take 48).drop 24).take 4)
  inflate (s.on (GTH_CTX_CFG.ZLIB g.ctx)) (gcmText (s.jobKeyOf g.ctx) (((b.take 48).drop 32).take 12) ((b.drop 48).take n))
    (min (s.f (GTH_CTX_LIMIT.LIMIT g.ctx)) 0x4000000) (4 * woff + 8)

/-- The parser past a CELL_BEGIN. -/
def Parse.enter (p : Parse) (id woff len : Nat) (inst : Bool) : Parse :=
  { p with
    cell := some ⟨id, woff, len, inst⟩, begun := true, defs := mset p.defs id (woff, len), last := woff,
    made := if inst then id :: p.made else p.made, top := p.top || decide (id = 0) }

/-- Installing a cell at its CELL_BEGIN: a block is found, the words delivered so far are written. Without room the parser
out-stops (SPACE_WAIT) or the job ends (WORKING_SET, with the lowest tile-column sequence of the raster walks that wait on the cell;
log entry 10); a cold cell without room is skipped. A cold cell enters the LRU order below every other (R90), another keeps the
time of its last use until a walk enters it (log entry 10). -/
def State.install (s : State) (i : Nat) (g : Ingest) (id woff len : Nat) (cold : Bool) : State :=
  let out := (s.inflated i g)
  let k := orderFor len
  let done (s : State) (p : Nat) : State :=
    let s0 := if cold then { s with gather := { s.gather with cold := s.gather.cold + 1 } } else s
    let s1 := s0.modCell g.ctx id (fun e => { e with
      state := .fetching, block := some (p, k), lru := if cold then -(s0.gather.cold : Int) else e.lru })
    let s2 := (s1.putCell p woff len out.out).showLane g 1
    s2.setSlot i (some { g with stopped := false, parse := g.parse.enter id woff len true })
  if cold then
    match takeBlock s.gather.free k with
    | some (p, l) => done (s.setFree l) p
    | none => s.setSlot i (some { g with parse := g.parse.enter id woff len false })
  else
    match s.makeRoom g.ctx id k with
    | (.ok p, s1) => done s1 p
    | (.full, s1) =>
      (s1.setSlot i (some { g with parse := { g.parse with ended := true } })).jobFault g.ctx 0x0614 false
        [a32 ((s1.awaitedSeq false g.ctx id).getD (s1.rasterSeq g.ctx)), a32 (2 ^ k)]
    | (.wait, s1) =>
      if g.stopped then s1
      else
        let st := s.outStop i g woff
        (((s1.setSlot i (some { g with stopped := true })).stopLane g 2 st.bits).flag GTH_STATUS.SPACE_WAIT).event 0x0604 0
          [a16 g.seg, a32 st.used, a32 st.out.length]

/-- The fault of a CELL_BEGIN at word p, the lowest in the order of R72 (R74): a LEN below 7 or past the end of a stream that is
known whole (R50), a second definition (R46), an offset that no SEGREF names or another LEN (R70). -/
def State.beginFault (s : State) (g : Ingest) (r : Inflated) (p : Nat) : Option Nat :=
  let id := wordAt r.out p % 2 ^ 24
  let len := wordAt r.out (p + 1) % 2 ^ 24
  let e := s.cell g.ctx id
  let whole := decide (r.fin = .done) || (decide (r.fin = .inStop) && g.complete)
  if len < 7 ∨ (whole ∧ bodyWords r.out < p + len) then some 0x0744
  else if (mget g.parse.defs id).isSome ∨ (g.seg = 0 ∧ (e.listed ∨ (mget g.parse.refs id).isSome)) ∨ (e.defined ∧ e.seg ≠ g.seg) then some 0x0745
  else if g.seg ≠ 0 ∧ ¬ (e.listed ∧ e.seg = g.seg ∧ e.woff = p ∧ e.len = len) then some 0x074C
  else if s.badRefs g.ctx g.seg p (p + 1) r.out ≠ [] then some 0x074C
  else none

/-- INSTALL_CELL (R89, R90): the parser of a slot reads the next word outside a cell that is no NOP. A CELL_BEGIN is
checked (R45, R46, R50, R70) and its cell installed, installed cold or skipped; any word that may not stand there raises
CELL_NEST, or the lower fault that it shows by itself (R74). Behind END any word raises STREAM_LEN (R43). SEGREF and END have
commands of their own. -/
def execInstallCell (i : Fin 16) (s : State) : Host.Outcome State Fault Refusal :=
  match s.slot i with
  | none => .next s
  | some g =>
    let r := s.inflated i g
    let p := skipNops r.out (r.out.length / 4 + 1) g.parse.pos
    let h := wordAt r.out p
    if ¬ s.runs GTH_CTL.ENABLE ∨ g.parse.cell.isSome then .next s
    else match g.parse.endAt with
    | some q => .next (if haveWord r.out q then (s.parseFault i g 0x074B q (wordAt r.out q)).settle i else s)
    | none =>
      if g.parse.ended ∨ ¬ haveWord r.out p then .next s
      else if h / 2 ^ 24 = 0xFF ∨ (h / 2 ^ 24 = 0x50 ∧ g.seg = 0 ∧ ¬ g.parse.begun) then .next s
      else match s.nopRefs g p r.out with
      | some (w, x) => .next ((s.parseFault i g 0x074C w x).settle i)
      | none =>
        let g := { g with parse := { g.parse with pos := p } }
        if ¬ haveWord r.out (p + headWords h - 1) then .next s
        else if h / 2 ^ 24 ≠ 0x10 then
          .next ((s.parseFault i g ((wordFault h (fun n => wordAt r.out (p + n))).getD 0x0744) p h).settle i)
        else match s.beginFault g r p with
        | some c => .next ((s.parseFault i g c p h).settle i)
        | none =>
          let id := h % 2 ^ 24
          let len := wordAt r.out (p + 1) % 2 ^ 24
          match s.installs g.ctx id len with
          | (true, cold) => .next ((s.install i g id p len cold).settle i)
          | (false, _) => .next ((s.setSlot i (some { g with parse := g.parse.enter id p len false })).settle i)

/-- SPACE_RESUME (R95): a block of the order that an out-stopped task needs can be formed, and the task goes on with its
cell; a cell that a raster walk has come to wait on falls under the raster case. -/
def execSpaceResume (i : Fin 16) (s : State) : Host.Outcome State Fault Refusal :=
  match s.slot i with
  | none => .next s
  | some g =>
    let r := s.inflated i g
    if g.stopped ∧ ¬ g.parse.ended then
      let id := wordAt r.out g.parse.pos % 2 ^ 24
      let len := wordAt r.out (g.parse.pos + 1) % 2 ^ 24
      .next ((s.install i g id g.parse.pos len false).settle i)
    else .next s

/-- CELL_INFLATED (R91): the last word of the open definition is delivered. An installed cell is written whole and is PENDING,
or RESIDENT once the tag has passed. -/
def execCellInflated (i : Fin 16) (s : State) : Host.Outcome State Fault Refusal :=
  match s.slot i with
  | none => .next s
  | some g =>
    match g.parse.cell with
    | none => .next s
    | some o =>
      let r := s.inflated i g
      if ¬ haveWord r.out (o.woff + o.len - 1) then .next s
      else
        let g1 := { g with parse := { g.parse with pos := o.woff + o.len, cell := none } }
        let bad := if g.seg = 0 then none else firstRef (s.badRefs g.ctx g.seg (o.woff + 1) (o.woff + o.len) r.out)
        let s1 := match o.inst, (s.cell g.ctx o.id).block with
          | true, some (p, _) =>
            (s.putCell p o.woff o.len r.out).modCell g.ctx o.id (fun e => { e with
              state := if g.verdict = some true then .resident else .pending })
          | _, _ => s
        match bad with
        | some (w, h) => .next ((s1.parseFault i g1 0x074C w h).settle i)
        | none => .next ((s1.setSlot i (some g1)).settle i)

/-- SEGREF (R69, R70): Blowpipe engine 0 executes the next entry of the directory of segment 0 and hands it to Gather. A second entry
for one id in the stream is DUP_CELL (R46). -/
def execFcSegref (i : Fin 16) (s : State) : Host.Outcome State Fault Refusal :=
  match s.slot i with
  | none => .next s
  | some g =>
    let r := s.inflated i g
    let p := skipNops r.out (r.out.length / 4 + 1) g.parse.pos
    let h := wordAt r.out p
    if g.parse.ended ∨ g.parse.cell.isSome ∨ ¬ haveWord r.out (p + 3) ∨ h / 2 ^ 24 ≠ 0x50 ∨ g.seg ≠ 0 ∨ g.parse.begun then .next s
    else
      let g := { g with parse := { g.parse with pos := p } }
      let id := h % 2 ^ 24
      let w1 := wordAt r.out (p + 1)
      let w2 := wordAt r.out (p + 2)
      let w3 := wordAt r.out (p + 3)
      if 2 ^ 16 ≤ w1 ∨ 2 ^ 24 ≤ w2 ∨ 2 ^ 24 ≤ w3 then .next ((s.parseFault i g 0x0741 p h).settle i)
      else if id = 0 ∨ (mget g.parse.refs id).isSome then .next ((s.parseFault i g 0x0745 p h).settle i)
      else if w1 = 0 then .next ((s.parseFault i g 0x0746 p h).settle i)
      else
        .next ((s.setSlot i (some { g with parse := { g.parse with pos := p + 4, refs := mset g.parse.refs id (w1, w2, w3) } })).settle i)

/-- What the END at word p shows (R44, R70): a missing top cell, SEGREFs that name a NOP before it, or a word at or behind it. -/
def State.endChecks (s : State) (g : Ingest) (r : Inflated) (p : Nat) : Option (Nat × Nat × Nat) :=
  if g.seg = 0 then (if g.parse.top then none else some (0x0746, p, 0xFF000000))
  else match s.nopRefs g p r.out with
    | some (w, x) => some (0x074C, w, x)
    | none =>
      let l := (s.ctx g.ctx).cells.filterMap (fun e =>
        if e.2.listed ∧ e.2.seg = g.seg ∧ p ≤ e.2.woff then some (e.2.woff, 0) else none)
      (firstRef l).map (fun e => (0x074C, e.1, 0))

/-- END (R43, R44, R71): the parser reads the END of the stream and makes the checks that it allows. For segment 0 the directory is
then complete. What follows END raises STREAM_LEN when the parser comes to it. -/
def execFcEnd (i : Fin 16) (s : State) : Host.Outcome State Fault Refusal :=
  match s.slot i with
  | none => .next s
  | some g =>
    let r := s.inflated i g
    let p := skipNops r.out (r.out.length / 4 + 1) g.parse.pos
    let h := wordAt r.out p
    if g.parse.ended ∨ g.parse.cell.isSome ∨ ¬ haveWord r.out p ∨ h / 2 ^ 24 ≠ 0xFF then .next s
    else if h ≠ 0xFF000000 then .next ((s.parseFault i g 0x0741 p h).settle i)
    else match s.endChecks g r p with
      | some (c, w, x) => .next ((s.parseFault i g c w x).settle i)
      | none =>
        let g1 := { g with parse := { g.parse with pos := p + 1, ended := true, endAt := some (p + 1) } }
        .next (if haveWord r.out (p + 1) then (s.parseFault i g1 0x074B (p + 1) (wordAt r.out (p + 1))).settle i
               else (s.setSlot i (some g1)).settle i)

/-! ## End of a task and tag verdict (R78, R79, R82, R89) -/

/-- Cells freed. -/
def State.unmake (s : State) (c : Nat) : List Nat → State
  | [] => s
  | id :: r => (s.dropCell c id).unmake c r

/-- Cells whose definitions are wholly inflated become RESIDENT with the tag. -/
def State.release (s : State) (c : Nat) : List Nat → State
  | [] => s
  | id :: r =>
    let s1 := if (s.cell c id).state = .pending then s.modCell c id (fun e => { e with state := .resident }) else s
    s1.release c r

/-- TAG_VERDICT (R78, R79, R360): every byte of the segment has arrived and has been decrypted. A failing header or tag is
SEG_AUTH, or SEG_AUTH_LIMIT after RETRY_MAX consecutive failures, and discards everything made from the segment. A passing
one releases its cells, clears the count of failures and raises what was held. The leave is returned. -/
def execTagVerdict (i : Fin 16) (s : State) : Host.Outcome State Fault Refusal :=
  match s.slot i with
  | none => .next s
  | some g =>
    if ¬ g.complete ∨ ¬ g.decrypt ∨ g.verdict.isSome then .next s
    else
      let s0 := (s.giveLeave (.sage i)).noteRead (slotBase i) (g.total.getD 0)
      if s.segmentOk i g then
        let g1 := { g with verdict := some true, held := none }
        let s1 := (((s0.setSlot i (some g1)).modCtx g.ctx (fun x => { x with segFails := mdel x.segFails g.seg })).commitParse g).release
          g.ctx g.parse.made
        let s2 := match g.held with
          | some h => s1.figFault g.ctx h.code h.seg h.woff h.hdr
          | none => s1
        .next (s2.settle i)
      else
        let n := mnat (s.ctx g.ctx).segFails g.seg + 1
        let s1 := (((s0.count SAG_CNT_TAGFAIL.COUNT 1).flag SAG_STATUS.TAG_SEEN).dropSlot i).unmake g.ctx g.parse.made
        let s2 := s1.modCtx g.ctx (fun x => { x with
          segFails := mset x.segFails g.seg n, seg0 := x.seg0 && !decide (g.seg = 0) })
        let s2 := s2.absentRest g.ctx g.seg ((s2.ctx g.ctx).cells.map Prod.fst)
        if max 1 (s.f GTH_CTL.RETRY_MAX) < n then
          .next ((s2.modCtx g.ctx (fun x => { x with segDead := g.seg :: x.segDead })).jobFault g.ctx 0x0611 false [a8 g.ctx, a16 g.seg])
        else .next ((s2.flag GTH_STATUS.SEG_RETRY).event 0x0602 1 [a8 g.ctx, a16 g.seg])

/-! ## Contexts, pins, enable -/

/-- Every cell of a context freed. -/
def State.freeCells (s : State) (c : Nat) : State := s.unmake c ((s.ctx c).cells.map Prod.fst)

/-- A context's ingest slots dropped. -/
def State.dropSlots (s : State) (c : Nat) : List (Option Ingest) → Nat → State
  | [], _ => s
  | g :: r, i =>
    let s1 := match g with
      | some x => if x.ctx = c then s.dropSlot i else s
      | none => s
    s1.dropSlots c r (i + 1)

/-- A job key zeroised: the slot, KEY_VALID and DIAG of the context (R354). -/
def State.zeroKey (s : State) (c : Nat) : State :=
  let s1 := ({ s with sage := { s.sage with jobKeys := s.sage.jobKeys.set c none } }).setPointer (56 + c) false
  (s1.put SAG_STATUS.JOB_KEY (clrBit (s1.f SAG_STATUS.JOB_KEY) c)).put SAG_STATUS.DIAG (clrBit (s1.f SAG_STATUS.DIAG) c)

/-- The pool as it stands after a layout: every page free, none withheld. -/
def State.layPool (s : State) : State :=
  ({ s with gather := { s.gather with withheld := [] } }).setFree (poolBlocks (s.f GTH_POOL_PAGES.PAGES))

/-- ENABLE is 0 and both contexts are closed: all cells and withheld pages are free (R93). -/
def State.freePool (s : State) : State :=
  if ¬ s.ctxOpen 0 ∧ ¬ s.ctxOpen 1 ∧ ¬ s.on GTH_CTL.ENABLE then
    ((s.modCtx 0 (fun x => { x with cells := [] })).modCtx 1 (fun x => { x with cells := [] })).layPool
  else s

/-- The ring entries of a context's stripes belong to a job that is over. -/
def State.closeRing (s : State) (c : Nat) : State :=
  { s with par := { s.par with ring := s.par.ring.map (fun r => if r.ctx = c then { r with closed := true } else r) } }

/-- A context closes (R87): its cells are freed, its key is zeroised, OPEN is cleared and JOB_CLOSE pulses. -/
def State.closeCtx (s : State) (c : Nat) : State :=
  let s1 := (s.freeCells c).dropSlots c (s.freeCells c).gather.slots 0
  let s2 := ((s1.modCtx c (fun _ => JobCtx.empty)).zeroKey c).put (GTH_CTX_CFG.OPEN c) 0
  (({ s2 with blow := { s2.blow with
      walks := s2.blow.walks.map (fun (w : Option Walk) => w.filter (fun t => !decide (t.ctx = c))) } }).closeRing c).freePool.pulse 12

/-- CONTEXT_CLOSE (R87): the last stripe that JOB_END named is DONE and its last flash acknowledged. -/
def execContextClose (c : Fin 2) (s : State) : Host.Outcome State Fault Refusal :=
  match (s.ctx c).endAfter, (s.ctx c).lastDone with
  | some n, some d => if s.ctxOpen c ∧ n ≤ d ∧ (s.ctx c).halt = none then .next (s.closeCtx c) else .next s
  | _, _ => .next s

/-- A write of GTH_PIN (R94): SET marks the cell permanent, so that it is fetched if ABSENT, or takes the mark away. -/
def State.pinWrite (s : State) (v : Nat) : State :=
  s.modCell (bits v 24 1) (bits v 0 24) (fun e => { e with perm := bit v 31 })

/-- PIN_SET (R94). -/
def execPinSet (v : Word) (s : State) : Host.Outcome State Fault Refusal :=
  if bit v.toNat 31 then .next (s.pinWrite v.toNat) else .next s

/-- PIN_CLEAR (R94). -/
def execPinClear (v : Word) (s : State) : Host.Outcome State Fault Refusal :=
  if bit v.toNat 31 then .next s else .next (s.pinWrite v.toNat)

/-- GTH_CTL written. Clearing ENABLE frees all cells and withheld pages once both contexts are closed (R93); setting it over an
empty table lays the pool out. -/
def State.gthCtlWrite (s : State) (v : Nat) : State :=
  let s1 := ((s.put GTH_CTL.ENABLE (bits v 0 1)).put GTH_CTL.SLOTS (bits v 1 4)).put GTH_CTL.RETRY_MAX (bits v 8 4)
  if ¬ s.ctxOpen 0 ∧ ¬ s.ctxOpen 1 ∧ bit v 0 ∧ ¬ s.on GTH_CTL.ENABLE then
    ((s1.modCtx 0 (fun x => { x with cells := [] })).modCtx 1 (fun x => { x with cells := [] })).layPool
  else s1.freePool

/-- GATHER_DISABLE (R93): GTH_CTL written with ENABLE = 0. -/
def execGatherDisable (v : Word) (s : State) : Host.Outcome State Fault Refusal :=
  if bit v.toNat 0 then .next s else .next (s.gthCtlWrite v.toNat)

end Sys2Proof.Machine
end

