-- ==== Sys2Proof/Machine/Blowpipe.lean ====
section
/-! DEFINITION. Blowpipe and the tile scheduler: walks, page reads, the figure-code instructions (R36 to R68, R92 to R95,
R99 to R111). -/

namespace Sys2Proof.Machine

open Sys2Proof

/-! ## Walk contexts -/

def State.walk (s : State) (w : Nat) : Option Walk := (s.blow.walks[w]?).join

def State.setWalk (s : State) (w : Nat) (t : Option Walk) : State :=
  { s with blow := { s.blow with walks := s.blow.walks.set w t } }

/-- The innermost level of a walk changed. -/
def Walk.modTop (t : Walk) (f : Level → Level) : Walk :=
  match t.stack with
  | l :: r => { t with stack := f l :: r }
  | [] => t

/-- Word n of a walk's innermost cell, of the pages that it has read and verified (R92). -/
def Walk.word (t : Walk) (n : Nat) : Nat := ((mget t.pages (n / 64)).getD []).getD (n % 64) 0

/-- Whether a walk has read a page of its innermost cell. -/
def Walk.hasPage (t : Walk) (p : Nat) : Bool := (mget t.pages p).isSome

/-- Word n of a RESIDENT cell; 0 behind its definition. -/
def State.cellWord (s : State) (c id n : Nat) : Nat :=
  let e := s.cell c id
  match e.block with
  | some (p, _) => if n < e.len then s.hbmLE (s.pageAddr p + 4 * n) 4 else 0
  | none => 0

/-- The lower corner of a walk's tile in plate coordinates (R42). -/
def Walk.ox (t : Walk) : Int := t.orgX + 16384 * t.tcol
def Walk.oy (t : Walk) : Int := t.orgY + 16384 * t.trow
def Walk.tileBox (t : Walk) : Box := ⟨t.ox, t.oy, t.ox + 16384, t.oy + 16384⟩

def State.modSweep (s : State) (t : Walk) (f : Sweep → Sweep) : State :=
  { s with blow := { s.blow with sweeps := s.blow.sweeps.map (fun w => if t.isOf w.stripe then f w else w) } }

/-! ## Page checks (R92, R93) -/

/-- The walks that are in a cell have to read its pages again. -/
def State.forgetPages (s : State) (c id : Nat) : State :=
  { s with blow := { s.blow with walks := s.blow.walks.map (fun (w : Option Walk) => w.map (fun t =>
      if t.ctx = c ∧ t.stack.head?.map Level.cell = some id then { t with pages := [] } else t)) } }

/-- The reads of page n of a block and of its check word. -/
def State.notePage (s : State) (p : Nat) : State := (s.noteRead (s.pageAddr p) 256).noteRead (s.checkAddr p) 4

/-- A page read by Blowpipe fails its check: the cell becomes ABSENT, its other pages are freed, the page is withheld, and the
cell's segment is fetched again; the fault after RETRY_MAX in a row ends that. With 4,096 pages withheld one more is QUARANTINE_FULL
for the context of the cell; that page is neither withheld nor free (log entry 10). -/
def State.pageFail (s : State) (c id n : Nat) : State :=
  let e := s.cell c id
  match e.block with
  | none => s
  | some (p, k) =>
    let fails := e.fails + 1
    let s1 := s.setFree (freeExcept s.gather.free p (p + n) (2 ^ k))
    let s2 := (s1.modCell c id (fun e => { e with state := .absent, block := none, fails := fails })).forgetPages c id
    let s3 := (s2.notePage (p + n)).count GTH_CNT_PAGEFAIL.COUNT 1
    let full := decide (4096 ≤ s3.gather.withheld.length)
    let s4 := ({ s3 with gather := { s3.gather with
      withheld := if full then s3.gather.withheld else (p + n) :: s3.gather.withheld } }).cullPage (s.pageAddr (p + n))
    let d := s.diag c
    let s5 :=
      if max 1 (s.f GTH_CTL.RETRY_MAX) < fails then
        (s4.modCtx c (fun x => { x with segDead := e.seg :: x.segDead })).jobFault c 0x0610 (!d) [a8 c, a32 (if d then id else 0)]
      else (s4.flag GTH_STATUS.PAGE_RETRY).journalEvent 0x0601 1 (!d) [a8 c, a32 (if d then id else 0), a36 (s.pageAddr (p + n))]
    if full then s5.jobFault c 0x0615 false [a36 (s.pageAddr (p + n))] else s5

/-- Whether page n of a RESIDENT cell matches its check word. -/
def State.pageOk (s : State) (c id n : Nat) : Bool :=
  match (s.cell c id).block with
  | some (p, _) =>
    !s.hbmBad (s.pageAddr (p + n)) 256 && !s.hbmBad (s.checkAddr (p + n)) 4 &&
      decide (crc32c (s.hbmRead (s.pageAddr (p + n)) 256) = s.hbmLE (s.checkAddr (p + n)) 4)
  | none => false

/-- A page of a cell has verified: its words corrected on the way are noted, and its cell's faults are no longer consecutive. -/
def State.pageGood (s : State) (c id n : Nat) : State :=
  let s1 := match (s.cell c id).block with
    | some (p, _) => s.notePage (p + n)
    | none => s
  s1.modCell c id (fun e => { e with fails := 0 })

/-- Whether a CALL or ARRAY may name a cell: the directory lists it or segment 0 defines it (R46). -/
def State.known (s : State) (c id : Nat) : Bool := (s.cell c id).listed || (s.cell c id).defined

/-- A walk context waits on a cell; the request is a miss. A cell whose definition is still to come out of a fetch that runs is
FETCHING (R91). -/
def State.waitFor (s : State) (w : Nat) (t : Walk) (id : Nat) : State :=
  let e := s.cell t.ctx id
  let s1 := if e.state = .absent ∧ (s.coming t.ctx e ∨ (s.known t.ctx id = false ∧ s.fetching t.ctx 0)) then
      s.modCell t.ctx id (fun e => { e with state := .fetching }) else s
  (s1.setWalk w (some { t with state := .waitCell, want := some id, pages := [] })).count GTH_CNT_MISS.COUNT 1

/-- The pages that hold words [n, n + k) of a cell, up to the end of its definition. -/
def pagesOf (n k len : Nat) : List Nat :=
  let hi := min (n + k) len
  if hi ≤ n then [] else (List.range ((hi - 1) / 64 - n / 64 + 1)).map (fun i => n / 64 + i)

/-- The next page that a context must read before it can execute its next instruction. -/
def State.pageNeeded (s : State) (t : Walk) : Option Nat :=
  match t.stack with
  | [] => none
  | l :: _ =>
    let len := (s.cell t.ctx l.cell).len
    match (pagesOf l.woff 1 len).find? (fun p => !t.hasPage p) with
    | some p => some p
    | none => (pagesOf l.woff ((instrWords (t.word l.woff)).getD 1) len).find? (fun p => !t.hasPage p)

/-- The words of a page of a cell. -/
def State.pageWords (s : State) (c id p : Nat) : List Nat := (List.range 64).map (fun i => s.cellWord c id (64 * p + i))

/-- PAGE_READ (R92): a ready context reads the next page that it needs, and Gather checks it. A context whose cell is no longer
RESIDENT waits for it at the same word offset (R96). -/
def execPageRead (w : Fin 32) (s : State) : Host.Outcome State Fault Refusal :=
  match s.walk w with
  | none => .next s
  | some t =>
    match t.stack with
    | [] => .next s
    | l :: _ =>
      if t.state ≠ .ready then .next s
      else if (s.cell t.ctx l.cell).state ≠ .resident then .next (s.waitFor w t l.cell)
      else match s.pageNeeded t with
        | none => .next s
        | some p =>
          if s.pageOk t.ctx l.cell p then
            .next ((s.setWalk w (some { t with pages := mset t.pages p (s.pageWords t.ctx l.cell p) })).pageGood t.ctx l.cell p)
          else .next ((s.waitFor w t l.cell).pageFail t.ctx l.cell p)

/-! ## Tile queue (R108, R109) -/

/-- Queue blocks that a tile's records occupy. -/
def MSlot.blocks (m : MSlot) : Nat :=
  if m.queue = [] then 0 else cdiv (m.consumed + m.queue.length) 64 - m.consumed / 64

/-- Queue blocks in use. -/
def State.blocksUsed (s : State) : Nat :=
  (s.mslots.map (fun m => match m with
    | some t => t.blocks
    | none => 0)).sum

def State.mslot (s : State) (e k : Nat) : Option MSlot := (s.mslots[2 * e + k]?).join

def State.setMslot (s : State) (e k : Nat) (m : Option MSlot) : State := { s with mslots := s.mslots.set (2 * e + k) m }

/-- Unconsumed records of an engine. -/
def State.engineLoad (s : State) (e : Nat) : Nat :=
  (([s.mslot e 0, s.mslot e 1].filterMap id).map (fun m => m.queue.length)).sum

/-- The engine and slot that take the next tile (R108): enabled, with a free slot and the fewest unconsumed records. -/
def State.assign (s : State) : Option (Nat × Nat) :=
  if s.runs MRV_CTL.ENABLE then
    let l := (List.range 32).filter (fun e => bit (s.f BLP_TS_MASK.MASK) e && ((s.mslot e 0).isNone || (s.mslot e 1).isNone))
    (l.find? (fun e => l.all (fun q => decide (s.engineLoad e ≤ s.engineLoad q)))).map
      (fun e => (e, if (s.mslot e 0).isNone then 0 else 1))
  else none

/-! ## The dispatcher (R100, R107, R131) -/

/-- The sweep whose raster walks come next: the oldest with walks not started; its job's directory has been executed (R48). -/
def State.rasterSweep (s : State) : Option Sweep :=
  (s.blow.sweeps.find? (fun w => decide (w.rStarted < s.rasterTotal w.stripe))).filter (fun w => (s.ctx w.stripe.ctx).dirDone)

/-- The sweep whose density walks come next: the oldest whose density sweep has not finished (R288), unless Glory's coarse
stage still holds another stripe (R107, R132). The spec gives the coarse grid no capacity in columns: it holds the whole stripe that Glory
has, and never holds up that stripe's own density walks (DESIGN CHOICE, log entry 48). -/
def State.densitySweep (s : State) : Option Sweep :=
  (s.blow.sweeps.find? (fun w => decide (w.dEnded < s.densityTotal w.stripe))).filter (fun w =>
    decide (w.dStarted < s.densityTotal w.stripe) && (s.ctx w.stripe.ctx).dirDone &&
    (match s.glory.stripe with
      | some k => k.same w.stripe
      | none => true))

/-- A walk of a stripe before its first instruction: the top cell at level 1 (R47). -/
def newWalk (density : Bool) (k : Stripe) (seq : Nat) (tcol trow : Int) (eng slot : Nat) : Walk :=
  { density := density, ctx := k.ctx, stripe := k.num, gen := k.gen, seq := seq, tcol := tcol, trow := trow, orgX := k.orgX,
    orgY := k.orgY, stack := [], state := .ready, pages := [], want := none, eng := eng, slot := slot, sums := [] }

/-- Entry into a cell (R94, R100): a level is pushed, the cell is the most recently used and, for a density walk, pinned; the
context waits where the cell is not RESIDENT. -/
def State.enter (s : State) (w : Nat) (t : Walk) (l : Level) : State :=
  let t1 := { t with stack := l :: t.stack, pages := [] }
  let s1 := (s.touch t.ctx l.cell).put BLP_MAXDEPTH.LEVEL (max (s.f BLP_MAXDEPTH.LEVEL) t1.stack.length)
  let s2 := if t.density then
      s1.modCell t.ctx l.cell (fun e => { e with pinSeq := some (max (e.pinSeq.getD 0) t.seq) }) else s1
  if (s2.cell t.ctx l.cell).state = .resident then s2.setWalk w (some { t1 with state := .ready, want := none })
  else s2.waitFor w t1 l.cell

/-- The level of the top cell. -/
def topLevel : Level := { cell := 0, woff := 0, orient := 0, dx := 0, dy := 0, cls := 0, box := none, arr := none }

/-- A raster walk started: its tile is assigned to a Marver slot, which requests leave (R108, R114). -/
def State.startRaster (s : State) (w : Nat) (v : Sweep) (e k : Nat) : State :=
  let rows := s.rows v.stripe
  let col := v.rStarted / rows
  let t := newWalk false v.stripe (v.stripe.seq0 + col) col (v.rStarted % rows : Nat) e k
  let m : MSlot := {
    ctx := v.stripe.ctx, job := v.stripe.job, stripe := v.stripe.num, gen := v.stripe.gen, seq := v.stripe.seq0 + col, tcol := col,
    trow := v.rStarted % rows, started := false, queue := [], ended := false, acc := [], consumed := 0, discard := false,
    draining := false, word := 0 }
  let s1 := (s.setMslot e k (some m)).askLeave (.marver e k) (max 1 (s.f MRV_LEAVE.UNITS))
  (s1.modSweep t (fun x => { x with rStarted := x.rStarted + 1 })).enter w t topLevel

/-- A density walk started. -/
def State.startDensity (s : State) (w : Nat) (v : Sweep) : State :=
  let r := s.densityRows v.stripe
  let m := s.margin v.stripe
  let col : Int := (v.dStarted / r : Nat) - (m : Int)
  let row : Int := (v.dStarted % r : Nat) - (m : Int)
  let last := cdiv v.stripe.len 256 - 1
  let seq := v.stripe.seq0 + min last col.toNat
  let t := newWalk true v.stripe seq col row 0 0
  ((s.put BLP_SEQ_DENSITY.SEQ (max (s.f BLP_SEQ_DENSITY.SEQ) seq)).modSweep t (fun x => { x with dStarted := x.dStarted + 1 })).enter
    w t topLevel

/-- Whether the density sweep of a stripe is ahead of its next raster walk by Glory's lookahead, so that the raster walk is the one
needed first (R20, R100, log entry 11). -/
def State.rasterDue (s : State) (r : Sweep) : Bool :=
  decide (s.densityTotal r.stripe ≤ r.dStarted) ||
    decide (4 * ((r.rStarted / s.rows r.stripe : Nat) : Int) + s.lookahead r.stripe ≤
      4 * (((r.dStarted / s.densityRows r.stripe : Nat) : Int) - s.margin r.stripe))

/-- WALK_START (R20, R99, R100, R107, R108): the dispatcher starts the next walk in a free context of an enabled engine: the raster
walk that comes next once the density sweep is ahead of it and a Marver slot takes its tile, else the next density walk. -/
def execWalkStart (w : Fin 32) (s : State) : Host.Outcome State Fault Refusal :=
  if s.runs BLP_CTL.ENABLE ∧ bit (s.f BLP_CTL.ENGINE_EN) (w / 4) ∧ s.walk w = none then
    match s.rasterSweep.filter s.rasterDue, s.densitySweep, s.assign with
    | some r, _, some (e, k) => .next (s.startRaster w r e k)
    | _, some d, _ => .next (s.startDensity w d)
    | _, _, _ => .next s
  else .next s

/-- WALK_RESUME (R91, R107): the cell that a context waits on is RESIDENT, or a queue block is free: it is ready again. So it is where
segment 0 has come to its END without the cell, which its instruction then finds undefined (R46). -/
def execWalkResume (w : Fin 32) (s : State) : Host.Outcome State Fault Refusal :=
  match s.walk w with
  | none => .next s
  | some t =>
    let go := s.setWalk w (some { t with state := .ready, want := none })
    match t.state, t.want with
    | .waitCell, some id =>
      if (s.cell t.ctx id).state = .resident ∨ ((s.ctx t.ctx).seg0Done ∧ s.known t.ctx id = false) then .next go else .next s
    | .waitQueue, _ => if s.blocksUsed < 2730 then .next go else .next s
    | _, _ => .next s

/-! ## Executing an instruction -/

/-- A figure-code fault of a walk: the walk ends and the job halts (R72, R73). -/
def State.walkFault (s : State) (w : Nat) (t : Walk) (l : Level) (code : Nat) : State :=
  let e := s.cell t.ctx l.cell
  (s.setWalk w none).figFault t.ctx code e.seg (e.woff + l.woff) (t.word l.woff)

/-- What every figure-code instruction shares: the context is ready and the pages that hold the instruction have been read. A fault
that the instruction shows by itself comes first, then CELL_NEST for one that may not stand in a cell or that runs to the last word
of the definition, where CELL_END must stand (R45, R50, R74). An instruction that runs past the definition's last word shows its header's
faults only, and none of the operand words that lie inside it (DESIGN CHOICE, log entry 10). A context that is not at an instruction of the command's opcode
does not take the step. -/
def State.fcStep (s : State) (w op : Nat) (run : Walk → Level → (Nat → Nat) → State) : State :=
  match s.walk w with
  | none => s
  | some t => match t.stack with
    | [] => s
    | l :: _ =>
      let e := s.cell t.ctx l.cell
      let wd (n : Nat) := t.word (l.woff + n)
      let h := wd 0
      let n := l.woff + (instrWords h).getD 1
      if t.state ≠ .ready ∨ e.state ≠ .resident ∨ (s.pageNeeded t).isSome then s
      else if e.len ≤ l.woff then s.walkFault w t l 0x0744
      else match (if n ≤ e.len then wordFault h wd else headFault h) with
        | some c => s.walkFault w t l c
        | none =>
          let o := h / 2 ^ 24
          if o = 0x50 ∨ o = 0xFF ∨ (o ≠ 0x10 ∧ l.box = none) ∨ (o ≠ 0x11 ∧ e.len ≤ n) then s.walkFault w t l 0x0744
          else if o = op then run t l wd else s

/-- The context at the instruction behind its present one. -/
def Walk.advance (t : Walk) (n : Nat) : Walk := t.modTop (fun l => { l with woff := l.woff + n })

/-- NOP (R71). -/
def execFcNop (w : Fin 32) (s : State) : Host.Outcome State Fault Refusal :=
  .next (s.fcStep w 0x01 (fun t _ _ => s.setWalk w (some (t.advance 1))))

/-- CELL_BEGIN (R49, R51): at the first word of its cell, with an ordered box. -/
def execFcCellBegin (w : Fin 32) (s : State) : Host.Outcome State Fault Refusal :=
  .next (s.fcStep w 0x10 (fun t l wd =>
    let b := (w32 (wd 2), w32 (wd 3), w32 (wd 4), w32 (wd 5))
    if l.woff ≠ 0 ∨ wd 0 % 2 ^ 24 ≠ l.cell then s.walkFault w t l 0x0744
    else s.setWalk w (some ((t.advance 6).modTop (fun l => { l with box := some b })))))

/-- DOSE (R59, R60). -/
def execFcDose (w : Fin 32) (s : State) : Host.Outcome State Fault Refusal :=
  .next (s.fcStep w 0x40 (fun t _ wd => s.setWalk w (some ((t.advance 1).modTop (fun l => { l with cls := wd 0 % 256 })))))

/-! ## Placements (R46, R47, R51, R52, R56 to R58, R101, R102) -/

def Level.boxOf (l : Level) : Box :=
  match l.box with
  | some (a, b, c, d) => ⟨a, b, c, d⟩
  | none => ⟨0, 0, 0, 0⟩

/-- The bounding box of a RESIDENT cell. -/
def State.cellBox (s : State) (c id : Nat) : Box :=
  ⟨w32 (s.cellWord c id 2), w32 (s.cellWord c id 3), w32 (s.cellWord c id 4), w32 (s.cellWord c id 5)⟩

/-- The level that an instance of a cell opens. -/
def childLevel (l : Level) (id oc : Nat) (d : Pt) : Level :=
  let p := place l.orient (l.dx, l.dy) d
  { cell := id, woff := 0, orient := compose l.orient oc, dx := p.1, dy := p.2, cls := l.cls, box := none, arr := none }

/-- Whether an instance's origin and box corners lie in range (R41). -/
def placeInRange (l : Level) (oc : Nat) (d : Pt) (b : Box) : Bool :=
  let c := childLevel l 0 oc d
  ptInRange (c.dx, c.dy) && (b.corners.all (fun q => ptInRange (place c.orient (c.dx, c.dy) q)))

/-- Whether an instance's box lies in the caller's (R51). -/
def placeInBox (l : Level) (oc : Nat) (d : Pt) (b : Box) : Bool :=
  b.corners.all (fun q => l.boxOf.holds (place oc d q))

/-- Whether an instance's box overlaps the tile with positive area (R101). -/
def placeMeets (t : Walk) (l : Level) (oc : Nat) (d : Pt) (b : Box) : Bool :=
  let c := childLevel l 0 oc d
  (b.move c.orient (c.dx, c.dy)).overlaps t.tileBox

/-- What a placement needs before its box is known: a legal cell, a stack level, the cell RESIDENT and its first page intact. A cell
that no SEGREF lists may still be defined in what is to come of segment 0 (R46). `go` receives the state, in which the read of the
page has verified (R92), and the cell's box. -/
def State.placing (s : State) (w : Nat) (t : Walk) (l : Level) (id : Nat) (go : State → Box → State) : State :=
  if id = 0 ∨ (s.known t.ctx id = false ∧ (s.ctx t.ctx).seg0Done) then s.walkFault w t l 0x0746
  else if 32 ≤ t.stack.length then s.walkFault w t l 0x0747
  else if (s.cell t.ctx id).state ≠ .resident then s.waitFor w t id
  else if ¬ s.pageOk t.ctx id 0 then (s.waitFor w t id).pageFail t.ctx id 0
  else go (s.pageGood t.ctx id 0) (s.cellBox t.ctx id)

/-- CALL (R56): one placement, entered unless its box misses the tile. -/
def execFcCall (w : Fin 32) (s : State) : Host.Outcome State Fault Refusal :=
  .next (s.fcStep w 0x20 (fun t l wd =>
    let id := wd 0 % 2 ^ 24
    let d : Pt := (w32 (wd 2), w32 (wd 3))
    s.placing w t l id (fun s b =>
      if ¬ placeInRange l (wd 1) d b then s.walkFault w t l 0x0748
      else if ¬ placeInBox l (wd 1) d b then s.walkFault w t l 0x0749
      else if placeMeets t l (wd 1) d b then s.enter w (t.advance 4) (childLevel l id (wd 1) d)
      else (s.setWalk w (some (t.advance 4))).count BLP_CNT_CULL.COUNT 1)))

/-- The offset of instance (i, j) (R57). -/
def ArrayIter.offset (a : ArrayIter) (i j : Nat) : Pt := (a.dx + i * a.ax + j * a.bx, a.dy + i * a.ay + j * a.byy)

/-- The instances of an array whose boxes overlap the tile, in ascending j, then i (R102). -/
def arrayHits (t : Walk) (l : Level) (a : ArrayIter) (b : Box) (nx ny : Nat) : List (Nat × Nat) :=
  (List.range ny).flatMap (fun j => (List.range nx).filterMap (fun i =>
    if placeMeets t l a.orient (a.offset i j) b then some (i, j) else none))

/-- The next instance of the array of the innermost level entered, or the array done with. -/
def State.nextInstance (s : State) (w : Nat) (t : Walk) : State :=
  match t.stack with
  | [] => s
  | l :: r => match l.arr with
    | none => s.setWalk w (some { t with pages := [] })
    | some a => match a.todo with
      | [] => s.setWalk w (some { t with stack := { l with arr := none } :: r, pages := [] })
      | (i, j) :: rest =>
        s.enter w { t with stack := { l with arr := some { a with todo := rest } } :: r }
          (childLevel l a.cell a.orient (a.offset i j))

/-- ARRAY (R57, R102): the instances whose boxes overlap the tile are entered in turn. Range and box are checked at the four
extreme instances, between which every other lies. -/
def execFcArray (w : Fin 32) (s : State) : Host.Outcome State Fault Refusal :=
  .next (s.fcStep w 0x21 (fun t l wd =>
    let nx := wd 2 % 65536
    let ny := wd 2 / 65536
    let a : ArrayIter := {
      cell := wd 0 % 2 ^ 24, orient := wd 1, dx := w32 (wd 3), dy := w32 (wd 4), ax := w32 (wd 5), ay := w32 (wd 6),
      bx := w32 (wd 7), byy := w32 (wd 8), todo := [] }
    s.placing w t l a.cell (fun s b =>
      let ends := [(0, 0), (nx - 1, 0), (0, ny - 1), (nx - 1, ny - 1)]
      if ¬ ends.all (fun e => placeInRange l a.orient (a.offset e.1 e.2) b) then s.walkFault w t l 0x0748
      else if ¬ ends.all (fun e => placeInBox l a.orient (a.offset e.1 e.2) b) then s.walkFault w t l 0x0749
      else
        let hits := arrayHits t l a b nx ny
        let t1 := (t.advance 9).modTop (fun l => { l with arr := some { a with todo := hits } })
        (s.count BLP_CNT_CULL.COUNT (nx * ny - hits.length)).nextInstance w t1)))

/-! ## Figures (R51, R55, R62 to R68, R103 to R105) -/

/-- A degenerate figure: dropped, and counted by a raster walk (R65). -/
def State.degenerate (s : State) (w : Nat) (t : Walk) (n : Nat) : State :=
  let s1 := s.setWalk w (some (t.advance n))
  if t.density then s1 else s1.modSweep t (fun x => { x with degenerate := x.degenerate + 1 })

/-- The trapezoids of a figure emitted: areas for a density walk, records for a raster walk, which waits where the tile queue has
no block for them (R104, R105, R107). -/
def State.emitTraps (s : State) (w : Nat) (t : Walk) (l : Level) (n : Nat) (traps : List Trapezoid) : State :=
  if t.density then
    s.setWalk w (some { t.advance n with sums := traps.foldl (fun m z => addDensity m z l.cls t.ox t.oy) t.sums })
  else
    let recs := traps.filterMap (fun z => z.record l.cls t.ox t.oy)
    match s.mslot t.eng t.slot with
    | none => s.setWalk w (some (t.advance n))
    | some m =>
      let m1 := { m with queue := m.queue ++ recs }
      if 2730 < s.blocksUsed + (m1.blocks - m.blocks) then s.setWalk w (some { t with state := .waitQueue })
      else (((s.grpTouch 5).setMslot t.eng t.slot (some m1)).setWalk w (some (t.advance n))).count BLP_CNT_TRAP.COUNT recs.length

/-- The checks of a figure's vertices, in the order of R72: COORD_RANGE, BBOX_VIOLATION. -/
def State.figure (s : State) (w : Nat) (t : Walk) (l : Level) (n : Nat) (pts : List Pt) (degen : Bool)
    (go : Unit → State) : State :=
  if ¬ pts.all (fun p => ptInRange (place l.orient (l.dx, l.dy) p)) then s.walkFault w t l 0x0748
  else if ¬ pts.all l.boxOf.holds then s.walkFault w t l 0x0749
  else if degen then s.degenerate w t n
  else go ()

/-- RECT (R62): emitted as an X-trapezoid with vertical sides. -/
def execFcRect (w : Fin 32) (s : State) : Host.Outcome State Fault Refusal :=
  .next (s.fcStep w 0x30 (fun t l wd =>
    let x0 := w32 (wd 1)
    let y0 := w32 (wd 2)
    let x1 := w32 (wd 3)
    let y1 := w32 (wd 4)
    s.figure w t l 5 [(x0, y0), (x1, y0), (x0, y1), (x1, y1)]
      (decide (x0 = x1) || decide (y0 = y1)) (fun _ =>
        let b := (Box.mk x0 y0 x1 y1).move l.orient (l.dx, l.dy)
        s.emitTraps w t l 5 [makeTrap 0 (0, 0) false b.y0 b.y1 b.x0 b.x1 b.x0 b.x1])))

/-- XTRAP (R62). -/
def execFcXtrap (w : Fin 32) (s : State) : Host.Outcome State Fault Refusal :=
  .next (s.fcStep w 0x31 (fun t l wd =>
    let y0 := w32 (wd 1)
    let y1 := w32 (wd 2)
    let bl := w32 (wd 3)
    let br := w32 (wd 4)
    let tl := w32 (wd 5)
    let tr := w32 (wd 6)
    s.figure w t l 7 [(bl, y0), (br, y0), (tl, y1), (tr, y1)]
      (decide (y0 = y1) || (decide (bl = br) && decide (tl = tr))) (fun _ =>
        s.emitTraps w t l 7 [makeTrap l.orient (l.dx, l.dy) false y0 y1 bl br tl tr])))

/-- YTRAP (R63). -/
def execFcYtrap (w : Fin 32) (s : State) : Host.Outcome State Fault Refusal :=
  .next (s.fcStep w 0x32 (fun t l wd =>
    let x0 := w32 (wd 1)
    let x1 := w32 (wd 2)
    let lb := w32 (wd 3)
    let lt := w32 (wd 4)
    let rb := w32 (wd 5)
    let rt := w32 (wd 6)
    s.figure w t l 7 [(x0, lb), (x0, lt), (x1, rb), (x1, rt)]
      (decide (x0 = x1) || (decide (lb = lt) && decide (rb = rt))) (fun _ =>
        s.emitTraps w t l 7 [makeTrap l.orient (l.dx, l.dy) true x0 x1 lb lt rb rt])))

/-- POLY (R66 to R68, R103): tested for simplicity and decomposed in plate Y. -/
def execFcPoly (w : Fin 32) (s : State) : Host.Outcome State Fault Refusal :=
  .next (s.fcStep w 0x33 (fun t l wd =>
    let n := wd 0 % 256
    let pts := (List.range n).map (fun i => ((w32 (wd (1 + 2 * i)), w32 (wd (2 + 2 * i))) : Pt))
    s.figure w t l (1 + 2 * n) pts (collinear pts) (fun _ =>
      let q := distinct (pts.map (place l.orient (l.dx, l.dy)))
      if isSimple q then s.emitTraps w t l (1 + 2 * n) (decompose q) else s.walkFault w t l 0x074A)))

/-! ## CELL_END and the end of a walk (R50, R60, R65, R99, R105, R110) -/

/-- The header that a tile is offered to Glory with (R124). -/
def MSlot.hdr (m : MSlot) (e k : Nat) : TileHdr :=
  { ctx := m.ctx, stripe := m.stripe, gen := m.gen, seq := m.seq, tcol := m.tcol, trow := m.trow, empty := false, eng := e,
    slot := k }

/-- A tile that is complete begins its drain: its header is offered to Glory (R109, R124, R126). -/
def State.completeTile (s : State) (e k : Nat) : State :=
  match s.mslot e k with
  | none => s
  | some m =>
    if m.ended ∧ m.queue = [] ∧ ¬ m.discard ∧ ¬ m.draining then
      let s1 := s.setMslot e k (some { m with draining := true })
      { s1 with glory := { s1.glory with headers := s1.glory.headers ++ [m.hdr e k] } }
    else s

/-- A raster walk ends: a tile without a record frees its slot and reaches Glory as empty; the last raster walk of a stripe
reports DEGENERATE and PIN_REVOKE; a stripe that is given up before reports them then. DESIGN CHOICE for PIN_REVOKE (log entry 10). -/
def State.endRaster (s : State) (t : Walk) : State :=
  let s1 := match s.mslot t.eng t.slot with
    | none => s
    | some m =>
      if m.queue = [] ∧ m.consumed = 0 then
        let h : TileHdr := {
          ctx := m.ctx, stripe := m.stripe, gen := m.gen, seq := m.seq, tcol := m.tcol, trow := m.trow, empty := true, eng := 0,
          slot := 0 }
        let s2 := ((s.setMslot t.eng t.slot none).giveLeave (.marver t.eng t.slot)).count BLP_TS_CNT_EMPTY.COUNT 1
        { s2 with glory := { s2.glory with headers := s2.glory.headers ++ [h] } }
      else (s.setMslot t.eng t.slot (some { m with ended := true })).completeTile t.eng t.slot
  let s2 := s1.modSweep t (fun x => { x with rEnded := x.rEnded + 1 })
  match s2.blow.sweeps.find? (fun w => t.isOf w.stripe) with
  | none => s2
  | some v =>
    if v.rEnded = s2.rasterTotal v.stripe then
      let s3 := (s2.report 0x074F v.degenerate [a32 v.stripe.num, a32 v.degenerate]).report 0x0603 v.revoked
        [a32 v.stripe.num, a32 v.revoked]
      s3.modSweep t (fun x => { x with degenerate := 0, revoked := 0 })
    else s2

/-- A density walk ends: its sums go to Glory's coarse stage. -/
def State.endDensity (s : State) (t : Walk) : State :=
  let d : DensItem := { stripe := t.stripe, gen := t.gen, tcol := t.tcol, trow := t.trow, sums := t.sums }
  let s1 := s.modSweep t (fun x => { x with dEnded := x.dEnded + 1 })
  ({ s1 with glory := { s1.glory with coarseIn := s1.glory.coarseIn ++ [d] } }).endSweep (t.ctx * 2 ^ 32 + t.stripe)

/-- An empty tile counts as drained (R110, R111). -/
def State.endWalk (s : State) (w : Nat) (t : Walk) : State :=
  let s1 := s.setWalk w none
  if t.density then s1.endDensity t
  else
    let e := match s.mslot t.eng t.slot with
      | some m => decide (m.queue = []) && decide (m.consumed = 0)
      | none => false
    let s2 := s1.endRaster t
    if e then s2.tileDone (t.ctx * 2 ^ 32 + t.stripe) t.tcol.toNat else s2

/-- CELL_END (R50): the id of the open cell at word LEN − 1; the caller goes on, with the next instance of its array where one is
left; at the top cell the walk ends. -/
def execFcCellEnd (w : Fin 32) (s : State) : Host.Outcome State Fault Refusal :=
  .next (s.fcStep w 0x11 (fun t l wd =>
    if wd 0 % 2 ^ 24 ≠ l.cell ∨ l.woff + 1 ≠ (s.cell t.ctx l.cell).len then s.walkFault w t l 0x0744
    else match t.stack with
      | _ :: c :: r => s.nextInstance w { t with stack := c :: r }
      | _ => s.endWalk w t))

end Sys2Proof.Machine
end

