-- ==== Sys2Proof/Machine/Marver.lean ====
section
/-! DEFINITION. Marver: the raster engines (R113 to R129). -/

namespace Sys2Proof.Machine

open Sys2Proof

/-- The region of a record (R116). -/
def Trap.region (r : Trap) : Trapezoid :=
  { kindY := false, c0 := r.c0, c1 := r.c1, l := ⟨r.lu0, r.lv0, r.lu1, r.lv1⟩, r := ⟨r.ru0, r.rv0, r.ru1, r.rv1⟩ }

/-- The checks that a record must pass (R123). -/
def Trap.ok (r : Trap) : Bool :=
  decide (r.c0 < r.c1) && decide (r.c1 ≤ 16384) && decide (r.lv1 ≠ r.lv0) && decide (r.rv1 ≠ r.rv0) &&
  decide (r.kind ≤ 1) && decide (r.rsv = 0) &&
  decide (r.region.l.at r.c0 ≤ r.region.r.at r.c0) && decide (r.region.l.at r.c1 ≤ r.region.r.at r.c1)

/-- The index of the pixel word of a pixel at `px` along u in band `band` (R126). -/
def Trap.word (r : Trap) (px band : Nat) : Nat := if r.kind = 0 then px * 256 + band else band * 256 + px

/-- A count q added to a pixel's sum of a class, saturating (R119); none when a fifth class meets a full pixel (R120). -/
def addClass (cls q : Nat) : List (Nat × Nat) → Nat → Option (List (Nat × Nat))
  | [], n => if 4 ≤ n then none else some [(cls, min q 16777215)]
  | (c, v) :: r, n =>
    if c = cls then some ((c, min (v + q) 16777215) :: r)
    else if cls < c then (if 4 ≤ n + 1 + r.length then none else some ((cls, min q 16777215) :: (c, v) :: r))
    else (addClass cls q r (n + 1)).map (fun t => (c, v) :: t)

/-- A q added to the accumulator; a q of 0 is ignored. -/
def addPixel (acc : Map (List (Nat × Nat))) (word cls q : Nat) : Option (Map (List (Nat × Nat))) :=
  if q = 0 then some acc else (addClass cls q ((mget acc word).getD []) 0).map (mset acc word)

/-- What a record has added so far: the accumulator, the edge pixels and the interior pixels in units of 32, and the word index
at which a fifth class was met. -/
structure Added where
  acc  : Map (List (Nat × Nat))
  edge : Nat
  fill : Nat
  full : Option Nat

/-- The pixels [p, p + n) of one pixel row band of a record (R117). Where one record meets several full pixels, CLASS_OVERFLOW
names the lowest one of the lowest pixel row band, and the counts of edge and interior pixels stop there: DESIGN CHOICE (log
entry 48). -/
def bandPixels (r : Trap) (vb : Nat) (p : Int) : Nat → Added → Nat → Added
  | 0, a, inner => { a with fill := a.fill + cdiv inner 32 }
  | n + 1, a, inner =>
    if a.full.isSome then a else
    let t := r.region
    let v0 : Int := max r.c0 vb
    let v1 : Int := min (r.c1 : Int) (vb + 64)
    let ulMax := max (t.l.at v0) (t.l.at v1)
    let urMin := min (t.r.at v0) (t.r.at v1)
    let lo := 64 * p
    let inside := decide (v0 = vb) && decide (v1 = vb + 64) && decide (ulMax ≤ (lo : Rat)) && decide (((lo + 64 : Int) : Rat) ≤ urMin)
    let q := if inside then 1048576 else (rneQ (256 * t.area v0 v1 lo (lo + 64))).toNat
    let w := r.word p.toNat (vb / 64)
    match addPixel a.acc w r.cls q with
    | none => { a with full := some w, edge := a.edge + b2n (!inside) }
    | some acc => bandPixels r vb (p + 1) n { a with acc := acc, edge := a.edge + b2n (!inside) } (inner + b2n inside)

/-- One pixel row band of a record: the pixels between the floor and the ceiling of its sides. -/
def oneBand (r : Trap) (vb : Nat) (a : Added) : Added :=
  let t := r.region
  let v0 : Int := max r.c0 vb
  let v1 : Int := min (r.c1 : Int) (vb + 64)
  if v1 ≤ v0 then a else
  let ulMin := min (t.l.at v0) (t.l.at v1)
  let urMax := max (t.r.at v0) (t.r.at v1)
  let p0 := (max ulMin 0 / 64).floor
  let p1 := (min urMax 16384 / 64).ceil
  bandPixels r vb p0 (p1 - p0).toNat a 0

/-- All the bands of a record. -/
def bands (r : Trap) (acc : Map (List (Nat × Nat))) : Added :=
  (List.range 256).foldl (fun a i => if a.full.isSome then a else oneBand r (64 * i) a) ⟨acc, 0, 0, none⟩

/-- A slot whose tile may be rasterised: leave granted, started, records waiting (R114, R115). A discarded tile's records are consumed
in the same turn (R120). -/
def State.slotReady (s : State) (e k : Nat) : Bool :=
  match s.mslot e k with
  | some m => s.holdsLeave (.marver e k) && (m.started || s.runs MRV_CTL.ENABLE) && !m.draining && !m.queue.isEmpty
  | none => false

/-- The slot from which an engine takes its next record (R115): the current one, or the other where the current one has none to
give. -/
def State.rasterSlot (s : State) (e : Nat) : Option Nat :=
  let k := s.current.getD e 0
  if s.slotReady e k then some k else if s.slotReady e (1 - k) then some (1 - k) else none

/-- CLASS_OVERFLOW of a tile (R120, R129); row, word and class are layout positions (R345). -/
def State.classOverflow (s : State) (m : MSlot) (word cls : Nat) : State :=
  let d := s.diagJob m.ctx m.job
  s.jobFault m.ctx 0x0810 (!d) [a32 m.seq, a16 (if d then m.trow else 0), a32 (if d then word else 0), a8 (if d then cls else 0)]

/-- RECORD_CONSUME (R114 to R123): engine e takes the next record of the slot that it rasterises. A discarded tile's record is consumed
and nothing else. A record that fails its checks is RECORD_FORMAT; a fifth class in a pixel discards the tile and halts the job; else its
areas are added. A tile that is refused for its record goes the way of a discarded one, its slot freed by DISCARD_END: DESIGN CHOICE
(log entry 48). -/
def execRecordConsume (e : Fin 32) (s : State) : Host.Outcome State Fault Refusal :=
  match s.rasterSlot e with
  | none => .next s
  | some k => match s.mslot e k with
    | none => .next s
    | some m => match m.queue with
      | [] => .next s
      | r :: rest =>
        let s0 := { s with current := s.current.set e k }
        let m1 := { m with queue := rest, consumed := m.consumed + 1, started := true }
        if m.discard then .next (s0.setMslot e k (some m1))
        else if ¬ r.ok then
          .next ((s0.setMslot e k (some { m1 with discard := true })).fatal 0x0818 false [a8 e, a32 m.seq, a16 m.trow, a32 m.consumed])
        else
          let a := bands r m.acc
          let s1 := ((s0.grpTouch 11).count MRV_CNT_EDGE.COUNT a.edge).count MRV_CNT_FILL.COUNT a.fill
          match a.full with
          | some w => .next ((s1.setMslot e k (some { m1 with discard := true, acc := [] })).classOverflow m w r.cls)
          | none => .next ((s1.setMslot e k (some { m1 with acc := a.acc })).completeTile e k)

/-- Whether a raster walk still makes records for a slot. -/
def State.fed (s : State) (e k : Nat) : Bool :=
  s.blow.walks.any (fun w => w.any (fun t => !t.density && decide (t.eng = e) && decide (t.slot = k)))

/-- DISCARD_END (R120): the remaining records of a discarded tile are consumed and its accumulator cleared; the slot is free and
its leave returned. The tile's records end with its raster walk, if that goes on. -/
def execDiscardEnd (e : Fin 32) (k : Fin 2) (s : State) : Host.Outcome State Fault Refusal :=
  match s.mslot e k with
  | none => .next s
  | some m =>
    if m.discard ∧ s.fed e k = false then .next ((s.setMslot e k none).giveLeave (.marver e k)) else .next s

/-- DRAIN_END (R126): the last pixel word of a tile has been accepted by Glory. -/
def execDrainEnd (e : Fin 32) (k : Fin 2) (s : State) : Host.Outcome State Fault Refusal :=
  match s.mslot e k with
  | none => .next s
  | some m =>
    if m.draining ∧ m.word = 65536 then
      .next ((((s.setMslot e k none).giveLeave (.marver e k)).count MRV_CNT_TILE.COUNT 1).tileDone (m.ctx * 2 ^ 32 + m.stripe) m.tcol)
    else .next s

/-! ## Pixel words (R118, R121, R122, R125) -/

/-- The coverage of a class sum before its clamp. -/
def rawCover (q : Nat) : Nat := (q * 4095 + 524288) / 1048576

/-- The 32-bit entry of a class sum under a threshold of MRV_OVL_THRESH: COV, CLAMPED, OVER, CLASS and VALID (R125). -/
def pixelEntry (thresh : Nat) (e : Nat × Nat) : Nat :=
  min 4095 (rawCover e.2) + b2n (decide (4095 < rawCover e.2)) * 2 ^ 12 + b2n (decide (1048576 + thresh < e.2)) * 2 ^ 13 +
    e.1 % 256 * 2 ^ 16 + 2 ^ 31

/-- Entries packed into a word, the first lowest. -/
def packEntries : List Nat → Nat
  | [] => 0
  | e :: r => e + 2 ^ 32 * packEntries r

/-- The 128-bit pixel word of a pixel's class sums: the classes with coverage 1 or more in ascending order from entry 0; unused
entries are zero (R125). -/
def pixelWord (thresh : Nat) (l : List (Nat × Nat)) : Nat :=
  packEntries ((l.filter (fun e => decide (0 < rawCover e.2))).map (pixelEntry thresh))

/-- Entry e of a pixel word. -/
def wordEntry (w e : Nat) : Nat := bits w (32 * e) 32

/-- The valid entries of a pixel word from entry 0 up to the first that is not valid: class and coverage (R139). -/
def validEntries (w : Nat) : List (Nat × Nat) :=
  (((List.range 4).map (wordEntry w)).takeWhile (fun e => bit e 31)).map (fun e => (bits e 16 8, bits e 0 12))

/-- How many valid entries of a pixel word have a flag. -/
def flaggedEntries (w n : Nat) : Nat :=
  (((List.range 4).map (wordEntry w)).takeWhile (fun e => bit e 31)).countP (fun e => bit e n)

end Sys2Proof.Machine
end

