-- ==== Sys2Proof/Machine/Decomp.lean ====
section
/-! DEFINITION. The decompressor lanes: Gather's tasks and software tasks (R78, R80 to R85). -/

namespace Sys2Proof.Machine

open Sys2Proof

/-- The slot whose task a lane runs. -/
def State.slotOfLane (s : State) (n : Nat) : Option Nat :=
  (List.range 16).find? (fun i => match s.slot i with
    | some g => decide (g.lane = some n)
    | none => false)

/-- Whether a buffer of a software task is refused (R85). Address bits [63:36], beyond the 64 GiB, are ignored. DESIGN CHOICE (log entry 36). -/
def State.badBuffer (s : State) (a n : Nat) : Bool := s.hidden (a % 2 ^ 36) n

/-- A lane stopped with REGION. -/
def State.regionStop (s : State) (n : Nat) : State := (s.put (DCP_STATUS.STATE n) 5).put (DCP_STATUS.ERR n) 10

/-- A software task started from the buffer registers (R85). -/
def State.dcpStart (s : State) (n : Nat) : State :=
  if s.f (DCP_CTL.OWNER n) = 1 ∧ s.laneOpen n then
    let s1 := ((((s.put (DCP_IN_CONSUMED.COUNT n) 0).put (DCP_OUT_PRODUCED.COUNT n) 0).put (DCP_STATUS.ERR n) 0).put
      (DCP_STATUS.IN_BITS n) 0).put (DCP_STATUS.STATE n) 1
    let ia := s.f (DCP_IN_ADDR.ADDR n)
    let il := s.f (DCP_IN_LEN.LEN n)
    let oa := s.f (DCP_OUT_ADDR.ADDR n)
    let ol := s.f (DCP_OUT_LEN.LEN n)
    if s.badBuffer ia il ∨ s.badBuffer oa ol then s1.regionStop n
    else (s1.noteRead (ia % 2 ^ 36) il).modLane n (fun l => { l with
      input := s.hbmRead (ia % 2 ^ 36) il, written := 0, before := 0, outAddr := oa % 2 ^ 36, outLen := ol,
      limit := s.f (DCP_OUT_LIMIT.LIMIT n), zlib := s.on (DCP_CTL.ZLIB n) })
  else s

/-- A stopped software task resumed with a new output buffer after out-stop, with more input after in-stop (R83). -/
def State.dcpResume (s : State) (n : Nat) : State :=
  if s.f (DCP_CTL.OWNER n) ≠ 1 then s
  else if s.f (DCP_STATUS.STATE n) = 2 then
    let oa := s.f (DCP_OUT_ADDR.ADDR n)
    let ol := s.f (DCP_OUT_LEN.LEN n)
    if s.badBuffer oa ol then s.regionStop n
    else (s.put (DCP_STATUS.STATE n) 1).modLane n (fun l => { l with before := l.written, outAddr := oa % 2 ^ 36, outLen := ol })
  else if s.f (DCP_STATUS.STATE n) = 3 then
    let ia := s.f (DCP_IN_ADDR.ADDR n)
    let il := s.f (DCP_IN_LEN.LEN n)
    if s.badBuffer ia il then s.regionStop n
    else ((s.put (DCP_STATUS.STATE n) 1).noteRead (ia % 2 ^ 36) il).modLane n (fun l => { l with
      input := l.input ++ s.hbmRead (ia % 2 ^ 36) il })
  else s

/-- A software task ended by ABORT. -/
def State.dcpAbort (s : State) (n : Nat) : State :=
  if s.f (DCP_CTL.OWNER n) = 1 then (s.put (DCP_STATUS.STATE n) 0).put (DCP_STATUS.ERR n) 0 else s

/-- DCP_CTL written: OWNER and ZLIB are taken first, then START, RESUME and ABORT in the order of their bits; Gather's lanes are
given out again (log entry 13). -/
def State.dcpCtlWrite (s : State) (n v : Nat) : State :=
  let s1 := ((s.put (DCP_CTL.ZLIB n) (bits v 1 1)).modLane n (fun l => { l with nextOwner := some (bits v 0 1) })).applyOwner n
  let s2 := if bit v 2 then s1.dcpStart n else s1
  let s3 := if bit v 3 then s2.dcpResume n else s2
  let s4 := if bit v 4 then s3.dcpAbort n else s3
  State.giveLanes 4 (s4.applyOwner n)

/-- DCP_START (R85). -/
def execDcpStart (n : Fin 4) (v : Word) (s : State) : Host.Outcome State Fault Refusal :=
  if bit v.toNat 2 then .next (s.dcpCtlWrite n v.toNat) else .next s

/-- DCP_RESUME (R83). -/
def execDcpResume (n : Fin 4) (v : Word) (s : State) : Host.Outcome State Fault Refusal :=
  if bit v.toNat 3 then .next (s.dcpCtlWrite n v.toNat) else .next s

/-- DCP_ABORT (R83). -/
def execDcpAbort (n : Fin 4) (v : Word) (s : State) : Host.Outcome State Fault Refusal :=
  if bit v.toNat 4 then .next (s.dcpCtlWrite n v.toNat) else .next s

/-- DCP_OWNER_WRITE (R81): a write of DCP_CTL gives the lane to Gather or to software. -/
def execDcpOwnerWrite (n : Fin 4) (v : Word) (s : State) : Host.Outcome State Fault Refusal := .next (s.dcpCtlWrite n v.toNat)

/-- STATE and ERR that show how a task has stopped. -/
def State.showEnd (s : State) (n : Nat) (e : InfEnd) : State :=
  match e with
  | .done => s.put (DCP_STATUS.STATE n) 4
  | .outStop => s.put (DCP_STATUS.STATE n) 2
  | .inStop => s.put (DCP_STATUS.STATE n) 3
  | .err c => (s.put (DCP_STATUS.STATE n) 5).put (DCP_STATUS.ERR n) c

/-- A software task stops: what it has produced is in its output buffer and its counts stand (R83, R84). -/
def State.endSoft (s : State) (n : Nat) : State :=
  let l := s.lane n
  let r := inflate l.zlib l.input l.limit (l.before + l.outLen)
  let s1 := s.hbmWrite (l.outAddr + (l.written - l.before)) (r.out.drop l.written)
  let s2 := ((((if r.out.length = l.written then s else s1).put (DCP_IN_CONSUMED.COUNT n) r.used).put
    (DCP_OUT_PRODUCED.COUNT n) r.out.length).put (DCP_STATUS.IN_BITS n) r.bits).modLane n (fun x => { x with written := r.out.length })
  (s2.showEnd n r.fin).applyOwner n

/-- A Gather task ends: done, in error, or with its segment's bytes used up before the stream has ended. A stream that ends before its
segment is in ends the task only with the segment, whose further input is TRAILING (R84). The lane goes to the next
segment, and the end is settled with the parser (R78, R82). -/
def State.endGather (s : State) (n i : Nat) (g : Ingest) : State :=
  let r := s.inflated i g
  if g.stopped ∨ ((r.fin = .inStop ∨ r.fin = .done) ∧ ¬ g.complete) then s
  else
    let e := match r.fin with
      | .err c => c
      | _ => 0
    let s1 := ((s.setSlot i (some { g with lane := none, inflated := true, err := e })).put (DCP_STATUS.IN_BITS n) r.bits).showEnd n r.fin
    let s2 := if r.fin = .inStop then s1.put (DCP_STATUS.STATE n) 4 else s1
    (State.giveLanes 4 (s2.applyOwner n)).settle i

/-- DCP_TASK_END (R82 to R84): the running task of a lane stops. -/
def execDcpTaskEnd (n : Fin 4) (s : State) : Host.Outcome State Fault Refusal :=
  if s.f (DCP_STATUS.STATE n) ≠ 1 then .next s
  else if s.f (DCP_CTL.OWNER n) = 1 then .next (State.giveLanes 4 (s.endSoft n))
  else match s.slotOfLane n with
    | none => .next s
    | some i => match s.slot i with
      | some g => .next (s.endGather n i g)
      | none => .next s

end Sys2Proof.Machine
end

