-- ==== Sys2Proof/Machine/Glory.lean ====
section
/-! DEFINITION. Glory: the coarse stage and the pixel stage (R130 to R147). -/

namespace Sys2Proof.Machine

open Sys2Proof

/-! ## Configuration check (R132, R146) -/

/-- The two inequalities of R132. -/
def windowOk (rd : Fld → Nat) : Bool :=
  let need := rd GLY_CTL.ITER * rd GLY_KERNEL_CTL.RADIUS + 1
  rd GLY_CTL.ITER = 0 || (decide (need ≤ rd GLY_WINDOW.LOOKAHEAD) && decide (need ≤ 4 * rd GLY_WINDOW.MARGIN))

/-- w_k[0] + 2 × (w_k[1] + … + w_k[R]). -/
def tapSum (rd : Fld → Nat) (k : Nat) : Nat :=
  rd (GLY_TAP.W k 0) + 2 * ((List.range (rd GLY_KERNEL_CTL.RADIUS)).map (fun d => rd (GLY_TAP.W k (d + 1)))).sum

/-- The lowest failing check of a Glory set, 0 when none fails (R146). Check 7 takes GLY_REGION_BASE and GLY_REGION_SIZE as they stand
when it is made, for a committed set at its first density item: DESIGN CHOICE (log entry 48). -/
def State.glyCause (s : State) (rd : Fld → Nat) : Nat :=
  let la := rd GLY_WINDOW.LOOKAHEAD
  let fog := rd GLY_CTL.FOG_EN = 1
  let sh := rd GLY_FOG_GEOM.SHIFT
  let fw := rd GLY_FOG_GEOM.FW
  let fh := rd GLY_FOG_GEOM.FH
  let a := rd GLY_FOG_BASE.ADDR
  let lo := s.f GLY_REGION_BASE.BASE
  if rd GLY_CTL.ITER = 3 then 1
  else if 4 < rd GLY_KERNEL_CTL.TERMS ∨ 16 < rd GLY_KERNEL_CTL.RADIUS then 2
  else if (List.range (rd GLY_KERNEL_CTL.TERMS)).any (fun k => decide (tapSum rd k ≠ 65536)) then 3
  else if la = 0 ∨ 64 < la ∨ 16 < rd GLY_WINDOW.MARGIN ∨ windowOk rd = false then 4
  else if rd GLY_NORM.NORM = 0 then 5
  else if fog ∧ (sh < 6 ∨ 14 < sh ∨ fw = 0 ∨ 4096 < fw ∨ fh = 0 ∨ 4096 < fh ∨ 8388608 < fw * fh ∨ a % 256 ≠ 0) then 6
  else if fog ∧ (a < lo ∨ lo + s.f GLY_REGION_SIZE.SIZE < a + 2 * (fw * fh)) then 7
  else 0

/-! ## Coarse stage (R130 to R136) -/

/-- The key of coarse cell (i, j), whose indices may be negative (R130). -/
def cellKey (i j : Int) : Nat := (i + 16777216).toNat * 2 ^ 32 + (j + 16777216).toNat

/-- The source density of a cell from its class areas (R133), and whether an area was clamped. -/
def sourceOf (base : Nat → Nat) (areas : List (Nat × Nat)) : Nat × Bool :=
  let n : Nat := (areas.map (fun e => min e.2 4294967296 * base e.1)).sum
  ((min 0xFFFFFFFF (rne n 67108864)).toNat, areas.any (fun e => decide (4294967296 < e.2)))

/-- The class areas of coarse cell n of a tile. -/
def cellAreas (sums : Map Nat) (n : Nat) : List (Nat × Nat) :=
  sums.filterMap (fun e => if e.1 / 256 = n then some (e.1 % 256, e.2) else none)

/-- The stripe that a density item belongs to. -/
def State.densStripe (s : State) (d : DensItem) : Option Stripe :=
  (s.blow.sweeps.map Sweep.stripe ++ s.par.next ++ s.par.stripe.toList).find? (fun k => decide (k.num = d.stripe) && decide (k.gen = d.gen))

/-- The sources of the sixteen cells of a density item taken into the window. -/
def State.takeDensity (s : State) (k : Stripe) (d : DensItem) : State :=
  let base (c : Nat) := s.genF 0 k.gen (GLY_BASE_DOSE.DOSE c)
  let one (t0 : State) (n : Nat) : State :=
    let t := t0.grpTouch 6
    let (v, c) := sourceOf base (cellAreas d.sums n)
    let t1 := if v = 0 then t else
      { t with glory := { t.glory with src := mset t.glory.src (cellKey (4 * d.tcol + (n / 4 : Nat)) (4 * d.trow + (n % 4 : Nat))) v } }
    if c then
      { (t1.count GLY_CNT_DSAT.COUNT 1).flag GLY_STATUS.DSAT_SEEN with glory := { t1.glory with dsat := t1.glory.dsat + 1 } }
    else t1
  let s1 := (List.range 16).foldl one s
  { s1 with glory := { s1.glory with dens := (d.tcol, d.trow) :: s1.glory.dens } }

/-- Coarse columns of a stripe that are corrected: from column −1 to the one right of its last pixel. -/
def coarseCols (k : Stripe) : Nat := (k.len - 1) / 64 + 3

/-- Whether the density of every tile column up to coarse column c has arrived, as far as the window goes. -/
def State.densityTo (s : State) (k : Stripe) (c : Int) : Bool :=
  let last := min (c / 4) (s.lastDensity k : Int)
  let want := (last + s.margin k + 1).toNat * s.densityRows k
  decide (want ≤ (s.glory.dens.filter (fun p => decide (p.1 ≤ last))).length)

/-- The coarse stage requests leave for its next column once the density that the column needs is complete (R132, R144). -/
def State.kickCoarse (s : State) : State :=
  match s.glory.stripe with
  | none => s
  | some k =>
    if s.runs GLY_CTL.ENABLE ∧ ¬ s.askedLeave .coarse ∧ s.glory.colsDone < coarseCols k ∧
        s.densityTo k ((s.glory.colsDone : Int) - 2 + s.lookahead k) then
      s.askLeave .coarse (max 1 (s.f GLY_LEAVE.COARSE))
    else s

/-- DENSITY_ITEM (R31, R131, R133, R146): the coarse stage takes the next density item. The first of a stripe switches the bank; where
the stripe's Glory set fails its checks it raises GLY_CONFIG, and no item of that stripe is processed. -/
def execDensityItem (s : State) : Host.Outcome State Fault Refusal :=
  match s.glory.coarseIn with
  | [] => .next s
  | d :: rest =>
    let s0 := { s with glory := { s.glory with coarseIn := rest } }
    match s.glory.stripe with
    | some k =>
      if k.num = d.stripe ∧ k.gen = d.gen then .next (s0.takeDensity k d).kickCoarse else .next s
    | none => match s.densStripe d with
      | none => .next s0
      | some k =>
        let (g, use) := s.itemGate 0 k.num k.gen
        if use = false then .next g else
        let g0 := { g with glory := { g.glory with coarseIn := rest } }
        let c := g.glyCause (g.genF 0 k.gen)
        if c ≠ 0 then .next ((g0.jobFault k.ctx 0x0910 false [a32 k.num, a32 k.gen, a8 c]).dropStripe k)
        else
          let s1 := { g0 with glory := { g0.glory with stripe := some k, src := [], dens := [], corr := [], colsDone := 0, dsat := 0 } }
          .next (s1.takeDensity k d).kickCoarse

/-- The grid of the fogging map in grid units, and the place of the centre of coarse cell (i, j) of a stripe on the map (R136). -/
def State.fogGrid (s : State) (k : Stripe) : Int := 64 * 2 ^ s.genF 0 k.gen GLY_FOG_GEOM.SHIFT
def State.fogX (s : State) (k : Stripe) (i : Int) : Int :=
  let rd := s.genF 0 k.gen
  max 0 (min (((rd GLY_FOG_GEOM.FW : Int) - 1) * s.fogGrid k) (k.orgX + 64 * (64 * i + 32) - sgn 32 (rd GLY_FOG_ORG_X.FOX)))
def State.fogY (s : State) (k : Stripe) (j : Int) : Int :=
  let rd := s.genF 0 k.gen
  max 0 (min (((rd GLY_FOG_GEOM.FH : Int) - 1) * s.fogGrid k) (k.orgY + 64 * (64 * j + 32) - sgn 32 (rd GLY_FOG_ORG_Y.FOY)))

/-- The address of the map's entry at column p and row r. -/
def State.fogAddr (s : State) (k : Stripe) (p r : Int) : Nat :=
  s.genF 0 k.gen GLY_FOG_BASE.ADDR + 2 * (r * s.genF 0 k.gen GLY_FOG_GEOM.FW + p).toNat

/-- The fog term at the centre of coarse cell (i, j) of a stripe (R136). -/
def State.fog (s : State) (k : Stripe) (i j : Int) : Int :=
  let rd := s.genF 0 k.gen
  if rd GLY_CTL.FOG_EN ≠ 1 then 0 else
  let g := s.fogGrid k
  let p0 := s.fogX k i / g
  let r0 := s.fogY k j / g
  let fx := s.fogX k i - p0 * g
  let fy := s.fogY k j - r0 * g
  let p1 := min (p0 + 1) ((rd GLY_FOG_GEOM.FW : Int) - 1)
  let r1 := min (r0 + 1) ((rd GLY_FOG_GEOM.FH : Int) - 1)
  let e (p r : Int) : Int := s.hbmLE (s.fogAddr k p r) 2
  rne (e p0 r0 * (g - fx) * (g - fy) + e p1 r0 * fx * (g - fy) + e p0 r1 * (g - fx) * fy + e p1 r1 * fx * fy) (g * g)

/-- The words of the fogging map whose checkers find something, in the map columns that coarse column i takes its fog terms from. The
iteration's other columns read theirs in their own turn: DESIGN CHOICE (log entry 48). -/
def State.fogSuspects (s : State) (k : Stripe) (i : Int) : List Nat :=
  let rd := s.genF 0 k.gen
  let p0 := s.fogX k i / s.fogGrid k
  let p1 := min (p0 + 1) ((rd GLY_FOG_GEOM.FW : Int) - 1)
  let rows := (List.range (rd GLY_FOG_GEOM.FH)).map (fun (r : Nat) => (r : Int))
  if rd GLY_CTL.FOG_EN = 1 ∧ rd GLY_CTL.ITER ≠ 0 then
    (s.suspects (rd GLY_FOG_BASE.ADDR) (2 * (rd GLY_FOG_GEOM.FW * rd GLY_FOG_GEOM.FH))).filter (fun w =>
      rows.any (fun r => overlaps (s.fogAddr k p0 r) 2 w 8 || overlaps (s.fogAddr k p1 r) 2 w 8))
  else []

/-- The first uncorrectable word that a coarse column's fog terms meet (R409). -/
def State.fogBad (s : State) (k : Stripe) (i : Int) : Option Nat := (s.fogSuspects k i).find? (fun w => decide (s.hbmChecked w = .bad))

/-- What the iteration of R135 reads. -/
structure Kernel where
  terms  : Nat
  radius : Nat
  norm   : Nat
  eta    : Nat → Nat
  tap    : Nat → Nat → Nat
  src    : Int → Int → Nat
  fogAt  : Int → Int → Int

/-- m_n of a coarse cell (R135). -/
def Kernel.m (e : Kernel) : Nat → Int → Int → Nat
  | 0, _, _ => 4096
  | n + 1, i, j =>
    let offs : List Int := (List.range (2 * e.radius + 1)).map (fun d => (d : Int) - e.radius)
    let u (k : Nat) : Nat := (offs.map (fun dx => (offs.map (fun dy =>
      e.tap k dx.natAbs * e.tap k dy.natAbs * (e.src (i + dx) (j + dy) * e.m n (i + dx) (j + dy)))).sum)).sum
    let t : Nat := ((List.range e.terms).map (fun k => e.eta k * u k)).sum
    let b := (min 0xFFFFFFFF (rne t (2 ^ 56) + e.fogAt i j)).toNat
    let m := e.m n i j
    if m = 0 then 0 else (min 65535 (rne ((e.norm * 16 * m : Nat) : Int) ((16 * m + 2 * b : Nat) : Int))).toNat

/-- The kernel of a stripe's generation over the sources in the window. -/
def State.kernel (s : State) (k : Stripe) : Kernel :=
  let rd := s.genF 0 k.gen
  { terms := rd GLY_KERNEL_CTL.TERMS, radius := rd GLY_KERNEL_CTL.RADIUS, norm := rd GLY_NORM.NORM,
    eta := fun n => rd (GLY_ETA.ETA n), tap := fun n d => rd (GLY_TAP.W n d),
    src := fun i j => mnat s.glory.src (cellKey i j), fogAt := s.fog k }

/-- COARSE_COLUMN_DONE (R135, R144): m_ITER of the coarse column that holds leave is complete; its leave is returned and the next
column may begin. The last column of the window ends the coarse stage's work on the stripe (R471). -/
def execCoarseColumnDone (s : State) : Host.Outcome State Fault Refusal :=
  match s.glory.stripe with
  | none => .next s
  | some k =>
    if ¬ s.holdsLeave .coarse ∨ coarseCols k ≤ s.glory.colsDone then .next s
    else
    let i : Int := (s.glory.colsDone : Int) - 1
    let n := (s.fogSuspects k i).foldl State.noteWord s
    match s.fogBad k i with
    | some w => .next (n.jobFault k.ctx 0x1110 false [a8 (s.hbmGroup w), a36 w, a8 0])
    | none =>
      let it := s.genF 0 k.gen GLY_CTL.ITER
      let e := s.kernel k
      let js : List Int := (List.range (4 * s.rows k + 2)).map (fun j => (j : Int) - 1)
      let corr := js.foldl (fun m j => mset m (cellKey i j) (e.m it i j)) s.glory.corr
      let s1 := ({ n with glory := { n.glory with corr := corr, colsDone := n.glory.colsDone + 1 } }).giveLeave .coarse
      let s2 := if s1.glory.colsDone = coarseCols k then
          { s1.report 0x0902 s1.glory.dsat [a32 k.num, a32 s1.glory.dsat] with glory := { s1.glory with dsat := 0 } }
        else s1
      .next s2.kickCoarse

/-! ## Pixel stage (R138 to R145) -/

/-- Bands of a tile column: rows of 64 tiles (R141). -/
def State.bandsPer (s : State) (k : Stripe) : Nat := max 1 (s.rows k / 64)

/-- The number of the band that a tile belongs to, while its stripe is in the pixel stage. -/
def State.bandOf (s : State) (k : Stripe) (h : TileHdr) : Nat := s.glory.bandBase + h.tcol * s.bandsPer k + h.trow / 64

/-- Whether the half of a band already holds it, or is free and the band is one of the two that come next: the half belongs to the
bands n, n + 2, … in turn (R141). -/
def State.bandFits (s : State) (n : Nat) : Bool :=
  match s.glory.halfUsed[n % 2]? with
  | some (some m) => decide (m = n)
  | some none => decide (n ≤ s.glory.bandNext + 1)
  | none => false

/-- The stripe whose tiles the pixel stage takes: the one it is in, or the next one, whose coarse window stands. -/
def State.pixStripe (s : State) : Option Stripe :=
  match s.glory.pix with
  | some k => some k
  | none => s.glory.stripe

/-- The first header offered whose band has a half (R141). -/
def State.nextHeader (s : State) (k : Stripe) : Option TileHdr :=
  s.glory.headers.find? (fun h => decide (h.stripe = k.num) && decide (h.ctx = k.ctx) && s.bandFits (s.bandOf k h))

/-- TILE_HEADER (R31, R124, R140, R141, R142, R144): the pixel stage receives the header of the next tile whose band has a half, and requests
leave for it. -/
def execTileHeader (s : State) : Host.Outcome State Fault Refusal :=
  match s.glory.tile, s.pixStripe with
  | none, some k =>
    if s.runs GLY_CTL.ENABLE ∧ ¬ s.askedLeave .pixel then
      match s.nextHeader k with
      | none => .next s
      | some h =>
        if s.genKnown 1 h.gen = false then .next (s.genMismatch 0x09 h.stripe h.gen) else
        let n := s.bandOf k h
        let sat := match s.glory.pix with
          | some _ => s.glory.sat
          | none => 0
        let s1 := { s with glory := { s.glory with
          pix := some k, tile := some h, sat := sat, headers := s.glory.headers.filter (fun x => !decide (x = h)),
          halfUsed := s.glory.halfUsed.set (n % 2) (some n) } }
        .next (s1.askLeave .pixel (max 1 (s.f GLY_LEAVE.PIXEL)))
    else .next s
  | _, _ => .next s

/-- The pixel stage, enabled again, requests leave for the tile whose header it holds. -/
def State.kickPixel (s : State) : State :=
  if s.runs GLY_CTL.ENABLE ∧ s.glory.tile.isSome ∧ ¬ s.askedLeave .pixel then s.askLeave .pixel (max 1 (s.f GLY_LEAVE.PIXEL)) else s

/-- A tile written: it counts in its band and its leave is returned. -/
def State.tileWritten (s : State) (k : Stripe) (h : TileHdr) : State :=
  ({ s with glory := { s.glory with tile := none, tilesIn := madd s.glory.tilesIn (s.bandOf k h) 1 } }).giveLeave .pixel

/-- The pixel stage's leave is granted: an empty tile is written, every pixel with dose 0, which the buffer does not list (R140,
R144). -/
def State.pixelGranted (s : State) : State :=
  match s.glory.tile, s.glory.pix with
  | some h, some k => if h.empty then s.tileWritten k h else s
  | _, _ => s

/-- M interpolated at pixel (x, y) of a stripe (R138); 4,096 everywhere with ITER = 0 (R135). A coarse column that the window does not
correct, right of the one behind the last pixel, counts as 0: DESIGN CHOICE (log entry 48). -/
def State.mAt (s : State) (k : Stripe) (x y : Nat) : Nat :=
  if s.genF 0 k.gen GLY_CTL.ITER = 0 then 4096 else
  let ux : Int := 2 * x - 63
  let uy : Int := 2 * y - 63
  let i := ux / 128
  let j := uy / 128
  let a := ux - 128 * i
  let e := uy - 128 * j
  let c (i j : Int) : Int := mnat s.glory.corr (cellKey i j)
  (rne (c i j * (128 - a) * (128 - e) + c (i + 1) j * a * (128 - e) + c i (j + 1) * (128 - a) * e + c (i + 1) (j + 1) * a * e)
    16384).toNat

/-- The dose of a pixel and its sat mark (R139). -/
def doseOf (base curve : Nat → Nat) (m : Nat) (l : List (Nat × Nat)) : Nat × Bool :=
  let acc : Nat := (l.map (fun e => e.2 * base e.1)).sum
  let d := (rne ((acc * m : Nat) : Int) (4095 * 4096)).toNat
  (curve (min d 4095), decide (4095 < d))

/-- PIXEL_WORD (R121, R122, R125, R126, R138, R139): the pixel stage takes the next pixel word of the tile that it writes, once leave
is granted and the corrections around its coarse column are finished; the drain clears the entry it reads. -/
def execPixelWord (s : State) : Host.Outcome State Fault Refusal :=
  match s.glory.tile, s.glory.pix with
  | some h, some k => match s.mslot h.eng h.slot with
    | none => .next s
    | some m =>
      let xt := h.tcol * 256 + m.word / 256
      let y := h.trow * 256 + m.word % 256
      if h.empty ∨ ¬ m.draining ∨ 65536 ≤ m.word ∨ ¬ s.holdsLeave .pixel ∨
          s.glory.colsDone < min (xt / 64 + 3) (coarseCols k) then .next s
      else
        let sums := (mget m.acc m.word).getD []
        let pw := pixelWord (s.f MRV_OVL_THRESH.UNITS) sums
        let cl := flaggedEntries pw 12
        let ov := flaggedEntries pw 13
        let s1 := (s.count MRV_CNT_CLAMP.COUNT cl).count MRV_CNT_OVER.COUNT ov
        let s2 := if 0 < cl then s1.flag MRV_STATUS.CLAMP_SEEN else s1
        let s3 := if 0 < ov then s2.flag MRV_STATUS.OVER_SEEN else s2
        let s4 := { s3 with blow := { s3.blow with sweeps := s3.blow.sweeps.map (fun (w : Sweep) =>
          if w.stripe.same k then { w with overCnt := w.overCnt + ov, clamped := w.clamped + cl } else w) } }
        let rd := s.genF 1 k.gen
        let (d, sat) := doseOf (fun c => rd (GLY_BASE_DOSE.DOSE c)) (fun c => if c = 0 then 0 else rd (GLY_CURVE.OUT c)) (s.mAt k xt y)
          (validEntries pw)
        let v := d + (if sat then 4096 else 0)
        let n := s.bandOf k h
        let s5 := if v = 0 then s4.grpTouch 7 else { s4.grpTouch 7 with glory := { s4.glory with
          halves := lmod s4.glory.halves (n % 2) (fun b => mset b (xt * 2 ^ 18 + y) v) } }
        let s6 := if sat then
            { (s5.count GLY_CNT_SAT.COUNT 1).flag GLY_STATUS.SAT_SEEN with glory := { s5.glory with sat := s5.glory.sat + 1 } }
          else s5
        let s7 := s6.setMslot h.eng h.slot (some { m with acc := mdel m.acc m.word, word := m.word + 1 })
        if m.word + 1 = 65536 then .next (s7.tileWritten k h) else .next s7
  | _, _ => .next s

/-- Parison requests leave for a burst while a released band is left to process and nothing holds it (R187). -/
def State.kickParison (s : State) : State :=
  match s.par.stripe, s.par.bands with
  | some k, b :: _ =>
    if s.runs PAR_CTL.ENABLE ∧ b.key = k.key ∧ s.par.burst = 0 ∧ ¬ s.askedLeave .parison then
      s.askLeave .parison (max 1 (s.f PAR_LEAVE.UNITS))
    else s
  | _, _ => s

/-- BAND_RELEASE (R132, R141): the next band is released to Parison once all its tiles are written, the scheduler has released its
tile column and the coarse correction around it is complete. The last band ends the pixel stage's work on the stripe and frees
its coarse window. -/
def execBandRelease (s : State) : Host.Outcome State Fault Refusal :=
  match s.glory.pix with
  | none => .next s
  | some k =>
    let n := s.glory.bandNext
    let per := s.bandsPer k
    let b := n - s.glory.bandBase
    let col := b / per
    let total := cdiv k.len 256 * per
    if b < total ∧ mnat s.glory.tilesIn n = min 64 (s.rows k) ∧ col < mnat s.glory.colsFreed k.key ∧
        min (4 * col + 6) (coarseCols k) ≤ s.glory.colsDone then
      let s1 := ({ s with
        glory := { s.glory with bandNext := n + 1, tilesIn := mdel s.glory.tilesIn n },
        par := { s.par with bands := s.par.bands ++ [({ key := k.key, gen := k.gen, no := b, half := n % 2 } : Band)] } }).put GLY_SEQ_RELEASED.SEQ (k.seq0 + col)
      let s2 := if b + 1 = total then
          { s1.report 0x0901 s1.glory.sat [a32 k.num, a32 s1.glory.sat] with
            glory := { s1.glory with
              pix := none, sat := 0, bandBase := n + 1, colsFreed := mdel s1.glory.colsFreed k.key, stripe := none, src := [],
              dens := [], corr := [], colsDone := 0, dsat := 0 } }
        else s1
      .next s2.kickParison
    else .next s

end Sys2Proof.Machine
end

