-- ==== Sys2Proof/Machine/BeamMap.lean ====
section
/-! DEFINITION. Beam map and calibration sets: temperature, the fill of the active beam table, map checks, the idle cell check
(R148 to R167). -/

namespace Sys2Proof.Machine

open Sys2Proof

/-! ## Tables of the region (R149 to R152) -/

def State.mapAddr (s : State) (bank b : Nat) : Nat := s.f BMP_REGION_BASE.BASE + bank * (2 * mib) + 8 * b
def State.setAddr (s : State) (slot b : Nat) : Nat := s.f BMP_REGION_BASE.BASE + 4 * mib + slot * (2 * mib) + 8 * b
def State.winAddr (s : State) (b : Nat) : Nat := s.f BMP_REGION_BASE.BASE + 28 * mib + 8 * b
def State.resAddr (s : State) (b : Nat) : Nat := s.f BMP_REGION_BASE.BASE + 30 * mib + 8 * b

def beams : Nat := 262144

/-- A map entry read (R150). -/
structure MapEntry where
  yb     : Nat
  x0     : Nat
  pass   : Nat
  status : Nat
  rsv    : Bool

def mapEntry (v : Nat) : MapEntry :=
  { yb := bits v 0 18, x0 := bits v 32 15, pass := bits v 48 5, status := bits v 56 2,
    rsv := decide (bits v 18 14 ≠ 0) || bit v 47 || decide (bits v 53 3 ≠ 0) || decide (bits v 58 6 ≠ 0) }

/-- A set entry read (R152). -/
structure SetEntry where
  dx   : Int
  dy   : Int
  gain : Nat
  rsv  : Bool

def setEntry (v : Nat) : SetEntry :=
  { dx := sgn 16 (bits v 0 16), dy := sgn 16 (bits v 16 16), gain := bits v 32 16, rsv := decide (bits v 48 16 ≠ 0) }

/-- The word at an address of the region; what an uncorrectable word reads as is a free value (log entry 4). -/
def State.tableWord (s : State) (a : Nat) : Nat :=
  if s.hbmChecked a = .bad then (Config.freeWord (s.freeCount * 2 ^ 36 + a)).toNat else s.hbmLE a 8

/-! ## Tables that live generations name (R153) -/

/-- The banks of the generations that are live and numbered 1 or higher. -/
def State.liveBanks (s : State) : List Bank := (s.root.staged :: s.root.banks).filter (fun b => decide (1 ≤ b.gen))

def Bank.rd (b : Bank) (x : Fld) : Nat := (mget b.vals x.key).getD x.reset

def State.liveMap (s : State) (bank : Nat) : Bool := s.liveBanks.any (fun b => decide (b.rd BMP_SEL.MAP_BANK = bank))

def State.liveSlot (s : State) (slot : Nat) : Bool :=
  s.liveBanks.any (fun b => (List.range (min 8 (b.rd BMP_SEL.SETS))).any (fun k => decide (b.rd (BMP_SET.SLOT k) = slot)))

/-- Whether a write to a range of HBM meets a table that a live generation names. -/
def State.liveRange (s : State) (a n : Nat) : Bool :=
  (List.range 2).any (fun k => s.liveMap k && overlaps a n (s.mapAddr k 0) (2 * mib)) ||
  (List.range 12).any (fun k => s.liveSlot k && overlaps a n (s.setAddr k 0) (2 * mib))

/-- A write to such a table is discarded, shown and journalled. -/
def State.liveRefused (s : State) (a : Nat) : State := (s.flag BMP_STATUS.LIVE_WRITE).event 0x0A05 0 [a36 a]

/-! ## Temperature (R154, R155) -/

/-- The mean of the enabled and valid sensors; none where there is none. -/
def State.formT (s : State) (valid : Nat) (sensors : List Int) : Option Int :=
  let m := s.f BMP_TEMP_CTL.SENSOR_MASK
  let m := if m = 0 then 1 else m
  let l := (List.range 8).filterMap (fun i => if bit m i ∧ bit valid i then some (sensors.getD i 0) else none)
  if l.isEmpty then none else some (rne l.sum l.length)

/-- T and the time of the last report completely received before the present SEQ tick. -/
def State.lastTemp (s : State) : Option (Int × Nat) :=
  match s.beam.tempTick with
  | some r => if r = s.mono100 then s.beam.prevTemp else some (s.fs BMP_TEMP_NOW.T, r)
  | none => none

/-- A temperature report: it forms T, or TEMP_INVALID is set. -/
def State.tempReport (s : State) (valid : Nat) (sensors : List Int) : State :=
  match s.formT valid sensors with
  | some t => { s.puts BMP_TEMP_NOW.T t with beam := { s.beam with tempTick := some s.mono100, prevTemp := s.lastTemp } }
  | none => s.flag BMP_STATUS.TEMP_INVALID

/-- Whether a selection fails cause 2 of R158. -/
def selBad (rd : Fld → Nat) : Bool :=
  let n := rd BMP_SEL.SETS
  let t (k : Nat) : Int := sgn 16 (rd (BMP_SET.TEMP k))
  decide (n = 0) || decide (8 < n) || (List.range n).any (fun k => decide (11 < rd (BMP_SET.SLOT k))) ||
    (List.range (n - 1)).any (fun k => decide (t (k + 1) ≤ t k))

/-- k and f of R155 for a temperature. -/
def interpol (rd : Fld → Nat) (t : Int) : Nat × Nat :=
  let n := rd BMP_SEL.SETS
  let ts (k : Nat) : Int := sgn 16 (rd (BMP_SET.TEMP k))
  if n ≤ 1 ∨ t ≤ ts 0 then (0, 0)
  else if ts (n - 1) ≤ t then (n - 1, 0)
  else
    let k := ((List.range n).filter (fun i => decide (ts i ≤ t))).foldl max 0
    (k, (rne ((t - ts k) * 65536) (ts (k + 1) - ts k)).toNat)

/-- An interpolated field (R155). -/
def interp (f : Nat) (a b : Int) : Int := if f = 0 then a else rne (a * (65536 - f) + b * f) 65536

/-- The commit of a generation latches T, k, f and the selection, and the fill begins (R154 to R156). A report that completes in the
tick of the commit serves the next one. -/
def State.startFill (s : State) (gen : Nat) : State :=
  let rd := s.stg
  let n := rd BMP_SEL.SETS
  let t0 := sgn 16 (rd (BMP_SET.TEMP 0))
  let age := match s.lastTemp with
    | some (_, r) => min 65535 ((s.mono100 - r) / 10000000)
    | none => 65535
  let t := match s.lastTemp with
    | some (v, _) => v
    | none => t0
  let stale := match s.lastTemp with
    | some (_, r) => decide (s.f BMP_TEMP_CTL.MAX_AGE * 10000000 < s.mono100 - r)
    | none => true
  let s1 := if stale then (s.flag BMP_STATUS.TEMP_STALE).event 0x0A03 0 [a32 gen, a32 age] else s
  let bad := selBad rd
  let out := !bad && decide (2 ≤ n) && (decide (t < t0) || decide (sgn 16 (rd (BMP_SET.TEMP (n - 1))) < t))
  let s2 := if out then (s1.flag BMP_STATUS.TEMP_RANGE).event 0x0A04 0 [a32 gen, a16 t] else s1
  let kf := if bad then (0, 0) else interpol rd t
  let lo := rd (BMP_SET.SLOT kf.1)
  let hi := if kf.2 = 0 then lo else rd (BMP_SET.SLOT (kf.1 + 1))
  let s3 := ((((((s2.puts BMP_GEN_TEMP.T t).put BMP_GEN_TEMP.F kf.2).put BMP_GEN_SETS.K kf.1).put BMP_GEN_SETS.SLOT_LO lo).put
    BMP_GEN_SETS.SLOT_HI hi).put BMP_GEN_SETS.MAP_BANK (rd BMP_SEL.MAP_BANK))
  let s4 := ((s3.flag BMP_STATUS.FILL_BUSY).put BMP_STATUS.FILL_ERR 0).put BMP_CHECK_RESULT.DONE 0
  { s4 with beam := { s4.beam with fill := some {
      gen := gen, log2n := rd BMP_GEOM.LOG2N, bank := rd BMP_SEL.MAP_BANK, lo := lo, hi := hi, f := kf.2, selBad := bad } } }

/-! ## Validation (R158, R160) -/

/-- Beams that fail checks 3 and 4 and 6 to 8, in a map bank and the sets given, by cause. -/
def State.beamFails (s : State) (log2n bank : Nat) (slots : List Nat) (cause b : Nat) : Bool :=
  let m := mapEntry (s.tableWord (s.mapAddr bank b))
  let cs := slots.map (fun k => setEntry (s.tableWord (s.setAddr k b)))
  match cause with
  | 3 => m.rsv || decide (m.status = 3) || cs.any SetEntry.rsv
  | 4 => decide (2 ^ (18 - log2n) ≤ m.yb) || decide (2 ^ log2n ≤ m.pass)
  | 6 => decide ((32705 : Int) - s.f MOT_LEAD_CFG.START < m.x0)
  | 7 => cs.any (fun c => decide (c.dx < -1024) || decide (1023 < c.dx) || decide (c.dy < -1024) || decide (1023 < c.dy))
  | 8 => decide (m.status = 0) && cs.any (fun c => decide (c.gain = 0))
  | _ => false

/-- The pair of a beam. -/
def State.pairOf (s : State) (bank b : Nat) : Nat × Nat :=
  let m := mapEntry (s.tableWord (s.mapAddr bank b))
  (m.yb, m.pass)

/-- The lowest beam whose pair a lower beam already holds (cause 5). -/
def State.repeated (s : State) (bank : Nat) : Option Nat :=
  (List.range beams).find? (fun b => (List.range b).any (fun c => decide (s.pairOf bank c = s.pairOf bank b)))

/-- The lowest failing cause and the lowest beam that fails it (R158). -/
def State.validate (s : State) (log2n bank : Nat) (slots : List Nat) (sel : Bool) : Nat × Nat :=
  if 5 < log2n then (1, 0)
  else if sel then (2, 0)
  else
    let first (c : Nat) := (List.range beams).find? (s.beamFails log2n bank slots c)
    match first 3, first 4, s.repeated bank, first 6, first 7, first 8 with
    | some b, _, _, _, _, _ => (3, b)
    | _, some b, _, _, _, _ => (4, b)
    | _, _, some b, _, _, _ => (5, b)
    | _, _, _, some b, _, _ => (6, b)
    | _, _, _, _, some b, _ => (7, b)
    | _, _, _, _, _, some b => (8, b)
    | _, _, _, _, _, _ => (0, 0)

/-- An entry of the active beam table (R157); an all-zero one is not listed. -/
def State.activeEntry (s : State) (j : FillJob) (b : Nat) : Option (Nat × BeamEntry) :=
  let m := mapEntry (s.tableWord (s.mapAddr j.bank b))
  let lo := setEntry (s.tableWord (s.setAddr j.lo b))
  let hi := setEntry (s.tableWord (s.setAddr j.hi b))
  let e : BeamEntry := {
    yb := m.yb, x0 := m.x0, pass := m.pass, status := m.status, dx := interp j.f lo.dx hi.dx, dy := interp j.f lo.dy hi.dy,
    gain := (interp j.f lo.gain hi.gain).toNat }
  if e = { yb := 0, x0 := 0, pass := 0, status := 0, dx := 0, dy := 0, gain := 0 } then none else some (b, e)

/-- The entry of a beam in a bank of the active beam table. -/
def BeamBank.entry (t : BeamBank) (b : Nat) : BeamEntry :=
  (mget t.entries b).getD { yb := 0, x0 := 0, pass := 0, status := 0, dx := 0, dy := 0, gain := 0 }

/-- What a fill reads: its map bank and its sets. -/
def State.fillReads (s : State) (j : FillJob) : State :=
  let s1 := (s.noteRead (s.mapAddr j.bank 0) (2 * mib)).noteRead (s.setAddr j.lo 0) (2 * mib)
  if j.f = 0 then s1 else s1.noteRead (s.setAddr j.hi 0) (2 * mib)

/-- The uncorrectable word that a fill meets in its map bank and sets. -/
def State.fillBad (s : State) (j : FillJob) : Option Nat :=
  match s.badIn (s.mapAddr j.bank 0) (2 * mib), s.badIn (s.setAddr j.lo 0) (2 * mib) with
  | some w, _ => some w
  | none, some w => some w
  | none, none => if j.f = 0 then none else s.badIn (s.setAddr j.hi 0) (2 * mib)

/-- The lowest group of 64 beams of a map bank that does not share one x lag, as the fill engine reports it whatever else fails
(R178, R188). -/
def State.splitGroup (s : State) (bank : Nat) : Option Nat :=
  let lag (b : Nat) : Nat := (mapEntry (s.tableWord (s.mapAddr bank b))).x0
  (List.range (beams / 64)).find? (fun j => (List.range 64).any (fun i => decide (lag (64 * j + i) ≠ lag (64 * j))))

/-- FILL_DONE (R156 to R158, R178): the fill of the staged bank ends. -/
def execFillDone (s : State) : Host.Outcome State Fault Refusal :=
  match s.beam.fill with
  | none => .next s
  | some j =>
    let slots := if j.f = 0 then [j.lo] else [j.lo, j.hi]
    let reads := decide (j.log2n ≤ 5) && !j.selBad
    let bad := if reads then s.fillBad j else none
    let (c, b) := s.validate j.log2n j.bank slots j.selBad
    let t : BeamBank := {
      gen := j.gen, filled := true, cause := c, beam := b,
      entries := if c = 0 then (List.range beams).filterMap (s.activeEntry j) else [], lagGroup := s.splitGroup j.bank, bad := bad }
    let s1 := (((((if reads then s.fillReads j else s).put BMP_STATUS.FILL_BUSY 0).put BMP_STATUS.FILL_ERR (b2n (decide (c ≠ 0)))).put BMP_CHECK_RESULT.CAUSE c).put
      BMP_CHECK_RESULT.BEAM b).flag BMP_CHECK_RESULT.DONE
    .next (({ s1 with
      beam := { s1.beam with fill := none, stagedT := t }, freeCount := s1.freeCount + 1,
      root := { s1.root with tableCleared := false } }.grpTouch 8).pulse 5)

/-- The bank of the active beam table that a generation filled. -/
def State.beamTable (s : State) (gen : Nat) : Option BeamBank :=
  if s.beam.activeT.filled ∧ s.beam.activeT.gen = gen then some s.beam.activeT
  else if s.beam.stagedT.filled ∧ s.beam.stagedT.gen = gen then some s.beam.stagedT
  else none

/-- BMP_CHECK written: BANK, and with START a check unless one runs (R160). -/
def State.bmpCheckWrite (s : State) (v : Nat) : State :=
  if s.on BMP_STATUS.CHECK_BUSY then s.put BMP_CHECK.BANK (bits v 1 1)
  else
    let s1 := s.put BMP_CHECK.BANK (bits v 1 1)
    if bit v 0 then
      { (s1.flag BMP_STATUS.CHECK_BUSY).put BMP_CHECK_RESULT.DONE 0 with beam := { s1.beam with chkBank := some (bits v 1 1) } }
    else s1

/-- BMP_CHECK (R160). -/
def execBmpCheck (v : Word) (s : State) : Host.Outcome State Fault Refusal :=
  if bit v.toNat 0 then .next (s.bmpCheckWrite v.toNat) else .next s

/-- The ok beams of every landing row, by row. -/
def State.okRows (s : State) (bank : Nat) : Map Nat :=
  (List.range beams).foldl (fun m b =>
    let e := mapEntry (s.tableWord (s.mapAddr bank b))
    if e.status = 0 then madd m e.yb 1 else m) []

/-- An uncorrectable word of the region that no stripe reads: ECC_UE, class 0 (R409). -/
def State.cellUe (s : State) (a : Nat) : State :=
  (s.noteUe (s.hbmGroup a) (a / 8 * 8)).event 0x1110 0 [a8 (s.hbmGroup a), a36 (a / 8 * 8), a8 0]

/-- A word of the region read for no stripe. -/
def State.noteCell (s : State) (a : Nat) : State := if s.hbmChecked a = .bad then s.cellUe a else s.noteWord (a / 8 * 8)

/-- A range of the region read for no stripe. -/
def State.noteCells (s : State) (a n : Nat) : State := (s.suspects a n).foldl State.noteCell s

/-- CHECK_DONE (R158, R160): a map check ends with its cause, its dead rows and MIN_OK. An uncorrectable word that it meets is
reported like that of a cell check, for it belongs to no stripe: DEDUCED (log entry 50). BANK is taken at its START, while LOG2N, SETS,
BMP_SET and the start lead are read here, and a fill's start lead at FILL_DONE: the spec gives no moment (DESIGN CHOICE, log entry 50). -/
def execCheckDone (s : State) : Host.Outcome State Fault Refusal :=
  match s.beam.chkBank with
  | none => .next s
  | some bank =>
    let n := min 8 (s.f BMP_SEL.SETS)
    let lg := s.f BMP_GEOM.LOG2N
    let slots := (List.range n).map (fun k => s.f (BMP_SET.SLOT k))
    let (c, b) := s.validate lg bank slots (selBad s.f)
    let rows := s.okRows bank
    let w := 2 ^ (18 - lg)
    let dead := (List.range w).countP (fun y => decide (mnat rows y = 0))
    let least := (List.range w).foldl (fun m y => min m (mnat rows y)) 63
    let s1 := (((((s.put BMP_STATUS.CHECK_BUSY 0).put BMP_CHECK_RESULT.CAUSE c).put BMP_CHECK_RESULT.BEAM b).flag
      BMP_CHECK_RESULT.DONE).put BMP_CHECK_ROWS.DEAD_ROWS dead).put BMP_CHECK_ROWS.MIN_OK least
    let s2 := (if lg ≤ 5 ∧ selBad s.f = false then slots else []).foldl (fun (t : State) k => t.noteCells (s.setAddr k 0) (2 * mib))
      (s1.noteCells (s.mapAddr bank 0) (2 * mib))
    .next (({ s2 with beam := { s2.beam with chkBank := none }, freeCount := s2.freeCount + 1 }).pulse 6)

/-! ## Idle cell check (R161 to R166) -/

/-- A range of HBM cleared to 0. -/
def State.hbmClear (s : State) (a n : Nat) : State :=
  { s with mem := { s.mem with
      hbm := s.mem.hbm.filter (fun (c : Host.Cell) => decide (c.1 < a) || decide (a + n ≤ c.1)), hbmWritten := true,
      grpWritten := (s.stacksOf a n).foldl (fun (w : List Bool) g => w.set g true) s.mem.grpWritten,
      checks := s.mem.checks.filter (fun (e : Nat × Nat) => !overlaps a n e.1 8),
      poison := s.mem.poison.filter (fun w => !overlaps a n w 8) } }

/-- A cell check accepted: STATE 1, SRC_BANK the map bank of the last committed generation (R163). -/
def State.startCellCheck (s : State) : State :=
  let s1 := (((((s.put BMP_CC_STATUS.STATE 1).put BMP_CC_STATUS.SRC_BANK (s.stg BMP_SEL.MAP_BANK)).flag BMP_STATUS.CC_BUSY).put
    BMP_CC_FAIL.COUNT 0).put BMP_CC_PROP.COUNT 0).put BMP_CC_MISS.COUNT 0
  { s1 with beam := { s1.beam with ccNumber := s1.beam.ccNumber + 1, ccGot := 0, ccSent := false } }

/-- An action code: 3 acts as 2 (R165). -/
def State.actCode (s : State) (x : Fld) : Nat := min 2 (s.f x)

/-- The window of a cell: RLO, RHI, LHI and whether a result may pass it (R162). -/
def State.window (s : State) (b : Nat) : Nat × Nat × Nat × Bool :=
  if s.on BMP_CC_CTL.GLOBAL then (s.f BMP_CC_GWIN.RLO, s.f BMP_CC_GWIN.RHI, s.f BMP_CC_GWIN_LEAK.LHI, true)
  else
    let v := s.hbmLE (s.winAddr b) 8
    (bits v 0 12, bits v 12 12, bits v 32 12, decide (bits v 24 8 = 0) && decide (bits v 44 20 = 0))

/-- The proposal for a cell (R165). -/
def State.propose (s : State) (cur : Nat) (rlo rhi leak miss failed : Bool) : Nat :=
  let act := max (max (if rlo then s.actCode BMP_CC_CTL.ACT_RLO else 0) (if rhi then s.actCode BMP_CC_CTL.ACT_RHI else 0))
    (max (if leak then s.actCode BMP_CC_CTL.ACT_LEAK else 0) (if miss then s.actCode BMP_CC_CTL.ACT_MISS else 0))
  if act ≠ 0 then max cur act
  else if !failed ∧ cur = 1 ∧ s.on BMP_CC_CTL.RESTORE then 0 else cur

/-- A result entry written (R164) and the counts raised. -/
def State.putResult (s : State) (b r l : Nat) (valid rlo rhi leak miss : Bool) (cur prop : Nat) : State :=
  let chg := decide (prop ≠ cur)
  let v := r + l * 2 ^ 12 + b2n valid * 2 ^ 24 + b2n rlo * 2 ^ 25 + b2n rhi * 2 ^ 26 + b2n leak * 2 ^ 27 + b2n miss * 2 ^ 28 +
    cur * 2 ^ 32 + prop * 2 ^ 34 + b2n chg * 2 ^ 36
  let s1 := s.hbmWrite (s.resAddr b) (toLE 8 v)
  let s2 := if rlo || rhi || leak || miss then s1.put BMP_CC_FAIL.COUNT (s1.f BMP_CC_FAIL.COUNT + 1) else s1
  let s3 := if chg then s2.put BMP_CC_PROP.COUNT (s2.f BMP_CC_PROP.COUNT + 1) else s2
  if miss then s3.put BMP_CC_MISS.COUNT (s3.f BMP_CC_MISS.COUNT + 1) else s3

/-- STATUS of a cell in SRC_BANK. -/
def State.srcStatus (s : State) (b : Nat) : Nat := (mapEntry (s.tableWord (s.mapAddr (s.f BMP_CC_STATUS.SRC_BANK) b))).status

/-- The read of a cell's entry in SRC_BANK. -/
def State.noteSrc (s : State) (b : Nat) : State := s.noteCell (s.mapAddr (s.f BMP_CC_STATUS.SRC_BANK) b)

/-- A cell marked missing and proposed under ACT_MISS. -/
def State.missCell (s : State) (b : Nat) : State :=
  let cur := s.srcStatus b
  s.putResult b 0 0 false false false false true cur (s.propose cur false false false true true)

/-- The words of a cell that a comparison reads. -/
def State.cellBadWord (s : State) (b : Nat) : Option Nat :=
  let src := s.mapAddr (s.f BMP_CC_STATUS.SRC_BANK) b
  if s.hbmChecked src = .bad then some src
  else if ¬ s.on BMP_CC_CTL.GLOBAL ∧ s.hbmChecked (s.winAddr b) = .bad then some (s.winAddr b)
  else none

/-- Whether a cell has a result, or has been marked missing for an uncorrectable word. -/
def State.cellHas (s : State) (b : Nat) : Bool :=
  let v := s.hbmLE (s.resAddr b) 8
  bit v 24 || bit v 28

/-- One result compared with its window (R162 to R165). A second one for a cell is ignored. -/
def State.cellResult (s : State) (b r l : Nat) : State :=
  if s.cellHas b then s
  else
    let s0 := { s with beam := { s.beam with ccGot := s.beam.ccGot + 1 } }
    match s.cellBadWord b with
    | some a => { (s0.cellUe a).missCell b with freeCount := s.freeCount + 1 }
    | none =>
      let (lo, hi, lk, clean) := s.window b
      let rlo := decide (r < lo)
      let rhi := decide (hi < r)
      let leak := decide (lk < l)
      let cur := s.srcStatus b
      let s1 := if s.on BMP_CC_CTL.GLOBAL then s0.noteSrc b else (s0.noteSrc b).noteCell (s.winAddr b)
      s1.putResult b r l true rlo rhi leak false cur (s.propose cur rlo rhi leak false (rlo || rhi || leak || !clean))

/-- The check ends: STATE 2, CELL_CHECK_DONE (R163). -/
def State.endCellCheck (s : State) : State :=
  let s1 := (s.put BMP_CC_STATUS.STATE 2).put BMP_STATUS.CC_BUSY (b2n s.beam.ccAccept.isSome)
  ({ s1.event 0x0A01 0 [a32 (s1.f BMP_CC_FAIL.COUNT), a32 (s1.f BMP_CC_PROP.COUNT), a32 (s1.f BMP_CC_MISS.COUNT)] with
    beam := { s1.beam with ccCheck := true, ccSent := false } }).pulse 7

/-- Results taken in turn; a beam outside the group's sectors is ignored and counted (R219). The last result ends the check. A result
that comes before the request has left answers no request, and is ignored: DESIGN CHOICE (log entry 50). -/
def State.cellResults (g : Nat) : List (Nat × Nat) → Nat → State → State
  | [], _, s => s
  | (r, l) :: rest, b, s =>
    let s1 := if b / 32768 = g ∧ b < beams then (if s.f BMP_CC_STATUS.STATE = 1 ∧ s.beam.ccSent then s.cellResult b r l else s)
              else s.count PUN_CNT_STRAY.COUNT 1
    let s2 := if s1.f BMP_CC_STATUS.STATE = 1 ∧ s1.beam.ccGot = beams then s1.endCellCheck else s1
    State.cellResults g rest (b + 1) s2

/-- The unanswered cells marked missing. An uncorrectable entry of SRC_BANK that this reads is reported (R409). -/
def State.missRest (s : State) : State :=
  (List.range beams).foldl (fun t b => if t.cellHas b then t else (t.noteSrc b).missCell b) s

/-- CELL_CHECK_TIMEOUT (R163): TIMEOUT after the request. -/
def execCellCheckTimeout (s : State) : Host.Outcome State Fault Refusal :=
  if s.f BMP_CC_STATUS.STATE = 1 ∧ s.beam.ccSent then
    let s1 := s.missRest
    .next { s1.endCellCheck with freeCount := s1.freeCount + 1 }
  else .next s

/-- BMP_CC_ACCEPT written: its fields, and with START the copy of R166, or its refusal in the order of the codes of ERR. A START
while a copy runs is ignored (log entry 14). -/
def State.ccAcceptWrite (s : State) (v : Nat) : State :=
  let s1 := (((s.put BMP_CC_ACCEPT.DST (bits v 1 1)).put BMP_CC_ACCEPT.TAKE_EXCL (bits v 2 1)).put
    BMP_CC_ACCEPT.TAKE_STUCK (bits v 3 1)).put BMP_CC_ACCEPT.TAKE_RESTORE (bits v 4 1)
  if ¬ bit v 0 ∨ s.beam.ccAccept.isSome then s1
  else if s.liveMap (bits v 1 1) then s1.put BMP_CC_ACCEPT.ERR 1
  else if ¬ s.beam.ccCheck then s1.put BMP_CC_ACCEPT.ERR 2
  else if s.f BMP_CC_STATUS.STATE = 1 then s1.put BMP_CC_ACCEPT.ERR 3
  else
    let s2 := ((s1.put BMP_CC_ACCEPT.ERR 0).put BMP_CC_ACCEPT.DONE 0).flag BMP_STATUS.CC_BUSY
    { s2 with beam := { s2.beam with ccCheck := false, ccAccept := some (s.f BMP_CC_STATUS.SRC_BANK, bits v 1 1) } }

/-- CC_ACCEPT (R166). -/
def execCcAccept (v : Word) (s : State) : Host.Outcome State Fault Refusal :=
  if bit v.toNat 0 then .next (s.ccAcceptWrite v.toNat) else .next s

/-- The entry that the copy writes for a map entry and its result (R166). The TAKE bits are those of the copy's end, DST and SRC_BANK
those of its START: DESIGN CHOICE (log entry 50). -/
def State.accepted (s : State) (m res : Nat) : Nat :=
  let prop := bits res 34 2
  let take := bit res 36 && ((decide (prop = 1) && s.on BMP_CC_ACCEPT.TAKE_EXCL) ||
    (decide (prop = 2) && s.on BMP_CC_ACCEPT.TAKE_STUCK) || (decide (prop = 0) && s.on BMP_CC_ACCEPT.TAKE_RESTORE))
  if take then m - bits m 56 2 * 2 ^ 56 + prop * 2 ^ 56 else m

/-- The copy from beam b on; it stops at an uncorrectable word, which it answers. -/
def State.acceptCopy (src dst : Nat) : Nat → Nat → State → State × Option Nat
  | 0, _, s => (s, none)
  | n + 1, b, s =>
    if s.hbmChecked (s.mapAddr src b) = .bad then (s, some (s.mapAddr src b))
    else if s.hbmChecked (s.resAddr b) = .bad then (s, some (s.resAddr b))
    else State.acceptCopy src dst n (b + 1)
      (((s.noteCell (s.mapAddr src b)).noteCell (s.resAddr b)).hbmWrite (s.mapAddr dst b) (toLE 8 (s.accepted (s.hbmLE (s.mapAddr src b) 8) (s.hbmLE (s.resAddr b) 8))))

/-- CC_ACCEPT_DONE (R166, R409): the copy ends, or stops at an uncorrectable word with error 4. -/
def execCcAcceptDone (s : State) : Host.Outcome State Fault Refusal :=
  match s.beam.ccAccept with
  | none => .next s
  | some (src, dst) =>
    let (s1, bad) := State.acceptCopy src dst beams 0 s
    let s2 := match bad with
      | some a => (s1.cellUe a).put BMP_CC_ACCEPT.ERR 4
      | none => s1
    let s3 := (s2.flag BMP_CC_ACCEPT.DONE).put BMP_STATUS.CC_BUSY (b2n (decide (s2.f BMP_CC_STATUS.STATE = 1)))
    .next { s3 with beam := { s3.beam with ccAccept := none } }

end Sys2Proof.Machine
end

