-- ==== Sys2Proof/Machine/Parison.lean ====
section
/-! DEFINITION. Parison: pass splitting, store blocks and the stripe store ring (R168 to R189). -/

namespace Sys2Proof.Machine

open Sys2Proof

/-! ## Planes, shares and codes (R168 to R174) -/

/-- The weights of a set's planes. -/
def planeWeights (rd : Fld → Nat) : List Nat := (List.range (rd PAR_PLANES.P)).map (fun k => rd (PAR_PLANE_WEIGHT.W k))

/-- Q, the levels per pass. -/
def levelsQ (rd : Fld → Nat) : Nat := (planeWeights rd).sum

/-- The rules of R168 on the weights, from the second on, with the sum and the last weight so far. -/
def weightsRise : List Nat → Nat → Nat → Bool
  | [], _, _ => true
  | w :: r, sum, last => decide (last ≤ w) && decide (w ≤ 1 + sum) && weightsRise r (sum + w) w

def weightsOk (l : List Nat) : Bool :=
  match l with
  | [] => false
  | w :: r => decide (w = 1) && weightsRise r 1 1 && decide ((w :: r).sum ≤ 4095)

/-- The lowest failing cause of a Parison set, 0 when none fails (R188). -/
def State.parCause (s : State) (rd : Fld → Nat) : Nat :=
  let p := rd PAR_PLANES.P
  let n := 2 ^ rd BMP_GEOM.LOG2N
  if p = 0 ∨ 12 < p then 1
  else if weightsOk (planeWeights rd) = false then 2
  else if rd PAR_LNOM.LNOM = 0 ∨ n * levelsQ rd < rd PAR_LNOM.LNOM then 3
  else if (9 ≤ p ∧ ¬ s.on PAR_RING_CFG.WIDE) ∨ (p ≤ 8 ∧ s.on PAR_RING_CFG.WIDE) then 4
  else 0

/-- The plane code of a pass level, over the weights from the highest plane down (R169). -/
def planeCode : List Nat → Nat → Nat
  | [], _ => 0
  | w :: r, c => if w ≤ c then 2 ^ r.length + planeCode r (c - w) else planeCode r c

/-- The code of a level under a set. -/
def codeOf (rd : Fld → Nat) (c : Nat) : Nat := planeCode (planeWeights rd).reverse c

/-- The dose of a stripe pixel: 0 outside the stripe, else what the band in process or the edge store holds (R172, R173). -/
def doseAt (len w : Nat) (half edge : Map Nat) (u v : Int) : Nat :=
  if u < 0 ∨ (len : Int) ≤ u ∨ v < 0 ∨ (w : Int) ≤ v then 0
  else
    let k := u.toNat * 2 ^ 18 + v.toNat
    (match mget half k with
      | some d => d
      | none => mnat edge k) % 4096

/-- The sample of a pass at its beam's landing point (R172). -/
def sampleAt (d : Int → Int → Nat) (e : BeamEntry) (x y : Nat) : Nat :=
  if e.status ≠ 0 then 4096 * d x y
  else
    let ix : Int := x + e.dx / 64
    let iy : Int := y + e.dy / 64
    let fx := (e.dx % 64).toNat
    let fy := (e.dy % 64).toNat
    d ix iy * (64 - fx) * (64 - fy) + d (ix + 1) iy * fx * (64 - fy) + d ix (iy + 1) * (64 - fx) * fy + d (ix + 1) (iy + 1) * fx * fy

/-- A pass of a pixel: its beam, the beam's entry and its share. -/
structure Pass where
  beam  : Nat
  entry : BeamEntry
  share : Nat

/-- The share of a pass and whether it was capped (R171). -/
def shareOf (rd : Fld → Nat) (n q s : Nat) : Nat × Bool :=
  let v := (rne ((s * rd PAR_LNOM.LNOM : Nat) : Int) ((64 * n : Nat) : Int)).toNat
  (min (q * 65536) v, decide (q * 65536 < v))

/-- The carry that excluded and stuck-on passes bring (R174). -/
def deadCarry (q : Nat) (l : List Pass) : Int :=
  (l.map (fun (p : Pass) => if p.entry.status = 1 then (p.share : Int) else if p.entry.status = 2 then (p.share : Int) - q * 65536 else 0)).sum

/-- The ok passes quantised in ascending order; codes by beam, and the last carry (R174). -/
def quantise (rd : Fld → Nat) (q : Nat) : List Pass → Int → List (Nat × Nat) × Int
  | [], c => ([], c)
  | p :: r, c =>
    if p.entry.status = 1 then let (l, e) := quantise rd q r c; ((p.beam, 0) :: l, e)
    else if p.entry.status = 2 then let (l, e) := quantise rd q r c; ((p.beam, codeOf rd q) :: l, e)
    else
      let want := (p.share : Int) + c
      let g : Int := 4 * p.entry.gain
      let lv := max 0 (min (q : Int) (rne want g))
      let (l, e) := quantise rd q r (want - lv * g)
      ((p.beam, codeOf rd lv.toNat) :: l, e)

/-! ## Store blocks (R179 to R182) -/

/-- Pieces of the store codec: a control word, and the literals of a group of words after a given word (R181). -/
def codecGroup : List Nat → Nat → Nat → Nat × List Nat
  | [], _, _ => (0, [])
  | w :: r, i, prev =>
    let (c, l) := codecGroup r (i + 1) w
    if w = prev then (c, l) else (c + 2 ^ i, w :: l)

/-- The compressed words of a block's words, group by group. -/
def codecGroups : Nat → List Nat → Nat → List Nat
  | 0, _, _ => []
  | k + 1, l, prev =>
    if l.isEmpty then [] else
    let g := l.take 64
    let (c, lits) := codecGroup g 0 prev
    (c :: lits) ++ codecGroups k (l.drop 64) (g.getLastD prev)

/-- 64-bit little-endian words of bytes. -/
def leWords (l : List Byte) : List Nat := (chunks 8 (l.length / 8 + 1) l).map ofLE

/-- The bytes of a block's codes in index order: one byte each at P ≤ 8, two at P ≥ 9 (R179). -/
def codeBytes (p : Nat) (codes : List Nat) : List Byte := (codes.map (toLE (if p ≤ 8 then 1 else 2))).flatten

/-- A whole block: its header and its compressed codes (R180, R181). -/
def blockBytes (p stripe gen j k : Nat) (codes : List Nat) : List Byte :=
  let raw := codeBytes p codes
  let pay := ((codecGroups 17 (leWords raw) 0).map (toLE 8)).flatten
  toLE 2 pay.length ++ toLE 1 (if p ≤ 8 then 1 else 2) ++ toLE 1 0 ++ toLE 3 k ++ toLE 1 stripe ++ toLE 2 (j % 4096) ++
    toLE 2 gen ++ toLE 4 (crc32c raw) ++ pay

/-- BLK, the bytes of a block's slot (R183). -/
def State.blk (s : State) : Nat := if s.on PAR_RING_CFG.WIDE then 8336 else 4176

/-- The address of block (j, k) of a stripe whose chunk 0 lies in slot B (R183). -/
def State.blockAddr (s : State) (b j k : Nat) : Nat :=
  s.f PAR_RING_BASE.BASE + (b + k) % 512 * 4096 * s.blk + j * s.blk

/-! ## The ring (R183 to R185) -/

/-- The stripe's place in the ring. -/
def RingStripe.isOf (r : RingStripe) (k : Stripe) : Bool := decide (r.num = k.num) && decide (r.ctx = k.ctx) && !r.closed

def State.ringOf (s : State) (k : Stripe) : Option RingStripe := s.par.ring.find? (fun r => r.isOf k)

def State.modRing (s : State) (k : Stripe) (f : RingStripe → RingStripe) : State :=
  { s with par := { s.par with ring := s.par.ring.map (fun r => if r.isOf k then f r else r) } }

/-- The slot in which the next stripe's chunk 0 lies (R183). A stripe that Parison never begins, discarded before its column 0 or failing the
checks there, is not the previous stripe of this rule (DESIGN CHOICE, log entry 49). -/
def State.nextBase (s : State) : Nat :=
  match s.par.ring.getLast? with
  | some r => (r.base + r.nc) % 512
  | none => 0

/-- Whether one of the slots of chunks 0 to k of the last stripe of a list of stripes in ring order still holds an unsent chunk. An older
stripe's unsent chunks end `gap` chunks before that stripe's chunk 0, and two chunks share a slot where they lie a multiple of 512
apart. -/
def chunkHeld : List RingStripe → Nat → Bool
  | [], _ => false
  | [r], k => decide (r.sent + 512 ≤ k)
  | r :: q :: l, k =>
    let gap := (((q :: l).dropLast).map RingStripe.nc).sum
    let far := gap + (r.nc - r.sent) + k
    (decide (r.sent < r.nc) && decide (gap + 1 ≤ far / 512 * 512)) || chunkHeld (q :: l) k

/-- Whether the slot of chunk k of the stripe in process, or of one before it, still holds an unsent chunk (R22, R183). -/
def State.slotHeld (s : State) (k : Nat) : Bool := chunkHeld s.par.ring k

/-! ## Processing columns (R172 to R182) -/

/-- What Parison works with while it processes a burst of a stripe. -/
structure Split where
  k     : Stripe
  rd    : Fld → Nat
  n     : Nat
  q     : Nat
  w     : Nat
  table : BeamBank
  beam  : Map Nat                 -- beam by landing row and pass
  half  : Map Nat
  maxX0 : Nat
  minX0 : Nat

/-- The x lags of a table. -/
def BeamBank.maxX0 (t : BeamBank) : Nat := (t.entries.map (fun e => e.2.x0)).foldl max 0
def BeamBank.minX0 (t : BeamBank) : Nat :=
  if t.entries.length < beams then 0 else (t.entries.map (fun e => e.2.x0)).foldl min 32767

/-- The beam that writes each (landing row, pass) place. -/
def BeamBank.places (t : BeamBank) : Map Nat :=
  (List.range beams).foldl (fun m b => let e := t.entry b; mset m (e.yb * 32 + e.pass) b) []

/-- The passes of pixel (x, y) with their shares, and how many shares were capped. -/
def Split.passes (e : Split) (edge : Map Nat) (x y : Nat) : List Pass × Nat :=
  let d := doseAt e.k.len e.w e.half edge
  let l := (List.range e.n).map (fun p =>
    let b := mnat e.beam (y * 32 + p)
    let t := e.table.entry b
    let (v, c) := shareOf e.rd e.n e.q (sampleAt d t x y)
    (({ beam := b, entry := t, share := v } : Pass), c))
  (l.map Prod.fst, l.countP (fun t => t.2))

/-- A pixel's codes, its error E and its capped shares (R174). -/
def Split.pixel (e : Split) (edge : Map Nat) (x y : Nat) : List (Nat × Nat) × Int × Nat :=
  let (l, c) := e.passes edge x y
  let (codes, err) := quantise e.rd e.q l (deadCarry e.q l)
  (codes, err, c)

/-- An uncompensable pixel recorded (R176). -/
def State.recordUnc (s : State) (k : Stripe) (x y : Nat) : State :=
  let n := s.f PAR_UNC_LOG_HEAD.NEXT
  let s1 := ((((s.count PAR_CNT_UNC.COUNT 1).flag PAR_STATUS.UNC_SEEN).put (PAR_UNC_LOG.X n) x).put (PAR_UNC_LOG.Y n) y).put
    (PAR_UNC_LOG.STRIPE n) k.num
  let s2 := s1.put PAR_UNC_LOG_HEAD.NEXT (n + 1)
  let s3 := if s2.on PAR_UNC_FIRST_Y.VALID then s2
            else ((s2.put PAR_UNC_FIRST_X.X x).put PAR_UNC_FIRST_Y.Y y).flag PAR_UNC_FIRST_Y.VALID
  { s3 with par := { s3.par with unc := s3.par.unc + 1, logOwner := mset s3.par.logOwner n s3.par.owner } }

/-- The rows [y, y + n) of a column: the codes so far, and the row and E of a pixel that stops Parison under UNC_HALT. -/
def Split.rows (e : Split) (x : Nat) : Nat → Nat → State → List (Nat × Nat) → State × List (Nat × Nat) × Option (Nat × Int)
  | 0, _, s, acc => (s, acc, none)
  | n + 1, y, s, acc =>
    let (codes, err, c) := e.pixel s.par.doses x y
    let s1 := if c = 0 then s else
      { (s.count PAR_CNT_LSAT.COUNT c).flag PAR_STATUS.LSAT_SEEN with par := { s.par with lsat := s.par.lsat + c } }
    if (e.rd PAR_TOL.TOL : Int) < err.natAbs then
      let s2 := s1.recordUnc e.k x y
      if e.rd PAR_CTL.UNC_HALT = 1 then (s2, acc, some (y, err)) else e.rows x n (y + 1) s2 (codes ++ acc)
    else e.rows x n (y + 1) s1 (codes ++ acc)

/-- Flashes of a codec group: 8 at P ≤ 8, 4 from P = 9 (R182). -/
def groupFlashes (p : Nat) : Nat := if p ≤ 8 then 8 else 4

/-- The codes of the first n flashes of block (j, k), in index order. -/
def State.blockCodes (s : State) (j k n : Nat) : List Nat :=
  (List.range (64 * n)).map (fun i => mnat s.par.asm ((64 * k + i / 64) * 2 ^ 18 + 64 * j + i % 64))

/-- The header of block (j, k), written last: the block is in its slot and its codes leave the assembly SRAM. -/
def State.writeHeader (s : State) (e : Split) (base j k : Nat) : State :=
  let b := blockBytes (e.rd PAR_PLANES.P) e.k.num e.k.gen j k (s.blockCodes j k 64)
  let s1 := s.hbmWrite (s.blockAddr base j k) (b.take 16)
  { s1.count PAR_CNT_BLOCK.COUNT 1 with par := { s1.par with
      asm := s1.par.asm.filter (fun (c : Nat × Nat) => !(decide (c.1 / 2 ^ 18 / 64 = k) && decide (c.1 % 2 ^ 18 / 64 = j))) } }

/-- Codec group n of the beams of group j, counted from flash 0, has filled: its compressed words are written behind those of the
block's groups before it, and with the last of them the header (R182). -/
def State.writeGroup (s : State) (e : Split) (base j n : Nat) : State :=
  let p := e.rd PAR_PLANES.P
  let per := 64 / groupFlashes p
  let g := n % per
  let words := leWords (codeBytes p (s.blockCodes j (n / per) ((g + 1) * groupFlashes p)))
  let before := (codecGroups g words 0).length
  let s1 := s.hbmWrite (s.blockAddr base j (n / per) + 16 + 8 * before) (((codecGroups (g + 1) words 0).drop before).map (toLE 8)).flatten
  if g + 1 = per then s1.writeHeader e base j (n / per) else s1

/-- The codec groups of a group of beams that are full once column x has been processed: [from, to), counted from flash 0. -/
def groupsDone (p len nc x0 x : Nat) : Nat × Nat :=
  let lo := if x = 0 then 0 else (x + x0) / groupFlashes p
  let hi := if x + 1 = len then nc * (64 / groupFlashes p) else (x + 1 + x0) / groupFlashes p
  (lo, min hi (nc * (64 / groupFlashes p)))

def State.writeGroups (s : State) (e : Split) (base j lo : Nat) : Nat → State
  | 0 => s
  | n + 1 => (s.writeGroups e base j lo n).writeGroup e base j (lo + n)

/-- Every codec group that column x fills, in ascending group of beams. -/
def State.endColumn (s : State) (e : Split) (base nc x : Nat) : State :=
  (List.range 4096).foldl (fun t j =>
    let (lo, hi) := groupsDone (e.rd PAR_PLANES.P) e.k.len nc (e.table.entry (64 * j)).x0 x
    t.writeGroups e base j lo (hi - lo)) s

/-- Rows of a band: r0 and their number (R173). -/
def Split.bandRows (e : Split) (b : Nat) : Nat × Nat :=
  let per := max 1 (e.w / 16384)
  let r0 := if b = 0 then 0 else 16384 * b - 16
  let r1 := if b + 1 = per then e.w else 16384 * (b + 1) - 16
  (r0, r1 - r0)

/-- Columns of a band: the first and the one behind the last (R173). -/
def Split.bandCols (e : Split) (a : Nat) : Nat × Nat :=
  (if a = 0 then 0 else 256 * a - 16, if a + 1 = cdiv e.k.len 256 then e.k.len else min e.k.len (256 * a + 240))

/-- One column of the band in process. UNC_HALT ends the job (R176). -/
def State.oneColumn (s : State) (e : Split) (band : Nat) (r : RingStripe) : State × Bool :=
  let per := max 1 (e.w / 16384)
  let x := (e.bandCols (band / per)).1 + s.par.bcol
  let (r0, n) := e.bandRows (band % per)
  match e.rows x n r0 s [] with
  | (s1, _, some (y, err)) =>
    let d := s.diagJob e.k.ctx e.k.job
    (s1.jobFault e.k.ctx 0x0B10 (!d) [a32 e.k.num, a32 (if d then x else 0), a32 (if d then y else 0), s32 (if d then err else 0)], false)
  | (s1, codes, none) =>
    let asm := codes.foldl (fun m c => if c.2 = 0 then m else mset m ((x + (e.table.entry c.1).x0) * 2 ^ 18 + c.1) c.2) s1.par.asm
    let s2 := { s1.grpTouch 9 with par := { s1.par with asm := asm, bcol := s1.par.bcol + 1, burst := s1.par.burst - 1 } }
    if band % per + 1 = per then
      let s3 := s2.endColumn e r.base r.nc x
      let done := if x + 1 = e.k.len then r.nc else min r.nc ((x + 1 + e.minX0) / 64)
      ((({ s3 with par := { s3.par with col := x + 1, total := s3.par.total + 1 } }).put PAR_COL_DONE.COL (x + 1)).modRing e.k (fun q => { q with done := done, cols := x + 1 }), true)
    else (s2, true)

/-- Whether Parison must hold at the next column of a band: the slot of the last chunk it reaches is not free (R22). -/
def State.mustHold (s : State) (e : Split) (band : Nat) : Bool :=
  s.slotHeld (((e.bandCols (band / max 1 (e.w / 16384))).1 + s.par.bcol + e.maxX0) / 64)

/-- The columns that are left of a burst; Parison holds where a slot is not free (R22). -/
def State.runBurst (e : Split) (band : Nat) : Nat → State → State
  | 0, s => s
  | n + 1, s =>
    if s.par.burst = 0 then s else
    match s.ringOf e.k with
    | none => s
    | some r =>
      if s.mustHold e band then
        { s.flag PAR_STATUS.HOLD with par := { s.par with holdFrom := some s.mono100 } }
      else match s.oneColumn e band r with
        | (s1, true) => State.runBurst e band n s1
        | (s1, false) => s1

/-- The tables and settings of the stripe in process. -/
def State.split (s : State) (k : Stripe) (half : Nat) : Split :=
  let rd := s.genF 1 k.gen
  let t := (s.beamTable k.gen).getD BeamBank.empty
  { k := k, rd := rd, n := 2 ^ rd BMP_GEOM.LOG2N, q := levelsQ rd, w := 2 ^ (18 - rd BMP_GEOM.LOG2N), table := t, beam := t.places,
    half := s.glory.halves.getD half [], maxX0 := t.maxX0, minX0 := t.minX0 }

/-- A band finished: what later samples need is copied into the edge store, the half is free (R141, R173). -/
def State.endBand (s : State) (e : Split) (band half : Nat) : State :=
  let per := max 1 (e.w / 16384)
  let all := e.half.foldl (fun m c => mset m c.1 (c.2 % 4096)) s.par.doses
  let kept := if band % per + 1 = per then all.filter (fun (c : Nat × Nat) => decide (256 * (band / per) + 224 ≤ c.1 / 2 ^ 18)) else all
  let s1 := (s.freeHalf half).grpTouch 10
  { s1 with par := { s1.par with doses := kept.filter (fun (c : Nat × Nat) => decide (c.2 ≠ 0)), bands := s1.par.bands.drop 1, bcol := 0 } }

/-- Parison's work on a stripe is over: its events, and the next stripe (R471). -/
def State.endParison (s : State) (k : Stripe) : State :=
  let s1 := s.reportParison k
  { s1 with par := { s1.par with stripe := none, unc := 0, lsat := 0, held := 0, doses := [], asm := [] } }

/-- A burst run as far as it goes; when it is over its leave is returned, the band and the stripe end where they do, and the next
burst is requested (R187). -/
def State.burst (s : State) : State :=
  match s.par.stripe, s.par.bands with
  | some k, b :: _ =>
    let e := s.split k b.half
    let s1 := State.runBurst e b.no 8 s
    if s1.par.stripe = none ∨ s1.par.burst ≠ 0 then s1
    else
      let (lo, hi) := e.bandCols (b.no / max 1 (e.w / 16384))
      let s2 := s1.giveLeave .parison
      let s3 := if hi ≤ lo + s2.par.bcol then s2.endBand e b.no b.half else s2
      let s4 := if s3.par.col = k.len then s3.endParison k else s3
      s4.kickParison
  | _, _ => s

/-- Leave for a burst is granted: 8 pixel columns of the band in process (R187). -/
def State.parisonGranted (s : State) : State :=
  match s.par.stripe, s.par.bands with
  | some k, b :: _ =>
    let e := s.split k b.half
    let (lo, hi) := e.bandCols (b.no / max 1 (e.w / 16384))
    ({ s with par := { s.par with burst := min 8 (hi - lo - s.par.bcol) } }).burst
  | _, _ => s.giveLeave .parison

/-- A check of column 0 and what it journals where it fails. -/
def State.zeroChecks (s : State) (k : Stripe) (t : BeamBank) : State :=
  let c := s.parCause (s.genF 1 k.gen)
  let s1 := if t.cause = 0 then s else s.jobFault k.ctx 0x0A10 false [a32 k.num, a32 k.gen, a8 t.cause, a32 t.beam]
  let s2 := if c = 0 then s1 else s1.jobFault k.ctx 0x0B11 false [a32 k.num, a32 k.gen, a8 c]
  let s3 := match t.lagGroup with
    | some j => s2.jobFault k.ctx 0x0B12 false [a32 k.num, a32 k.gen, a32 j]
    | none => s2
  match t.bad with
  | some w => s3.jobFault k.ctx 0x1110 false [a8 (s3.hbmGroup w), a36 w, a8 0]
  | none => s3

/-- Whether a stripe passes the checks of its column 0 (R159, R178, R188, R409). -/
def State.zeroOk (s : State) (k : Stripe) (t : BeamBank) : Bool :=
  decide (t.cause = 0) && decide (s.parCause (s.genF 1 k.gen) = 0) && t.lagGroup.isNone && t.bad.isNone

/-- The place of a stripe that Parison begins in the ring (R183). -/
def State.ringPlace (s : State) (k : Stripe) (t : BeamBank) : RingStripe :=
  { num := k.num, gen := k.gen, ctx := k.ctx, base := s.nextBase, nc := cdiv (k.len + t.maxX0) 64, done := 0, cols := 0, sent := 0,
    flashes := k.len + t.maxX0, minX0 := t.minX0, closed := false }

/-- Parison begins a stripe: it takes its place behind the stripes that the ring still holds, counted with all their chunks. -/
def State.beginStripe (s : State) (k : Stripe) (t : BeamBank) : State :=
  let s1 := { s with par := { s.par with
    stripe := some k, next := s.par.next.drop 1, bcol := 0, burst := 0, col := 0, doses := [], asm := [], unc := 0, lsat := 0, held := 0,
    ring := s.par.ring.dropWhile (fun (q : RingStripe) => decide (q.nc ≤ q.sent)) ++ [s.ringPlace k t],
    owner := k.ctx * 2 ^ 128 + k.job } }
  (((((s1.put PAR_STRIPE.STRIPE k.num).put PAR_COL_DONE.COL 0).put PAR_RING_POS.BASE_POS s.nextBase).put
    PAR_UNC_FIRST_X.X 0).put PAR_UNC_FIRST_Y.Y 0).put PAR_UNC_FIRST_Y.VALID 0

/-- STRIPE_COLUMN_ZERO (R31, R159, R178, R188): Parison reaches column 0 of the next stripe, whose first band has been released and
whose fill has ended; the band carries the stripe's generation, and Parison's bank switches. The beam map, the lag groups and Parison's own set are checked together; a stripe that
fails a check is not processed. -/
def execStripeColumnZero (s : State) : Host.Outcome State Fault Refusal :=
  match s.par.stripe, s.par.next, s.par.bands with
  | none, k :: _, b :: _ =>
    if b.key ≠ k.key ∨ ¬ s.runs PAR_CTL.ENABLE then .next s
    else
      let (g, use) := s.itemGate 1 k.num b.gen
      if use = false then .next g else
      match g.beamTable k.gen with
      | none => .next g
      | some t => if g.zeroOk k t then .next (g.beginStripe k t).kickParison else .next ((g.zeroChecks k t).dropStripe k)
  | _, _, _ => .next s

/-- Whether every flash of the next chunk of a stripe in the ring that the stripe strobes is complete (R184): the stripe is ACTIVE
and its strobes have passed the chunk, those of flashes below t_h after a resume among them, or the stripe is over. -/
def State.chunkSent (s : State) (r : RingStripe) : Bool :=
  if s.gaf.prepared.any (fun k => r.isOf k) || s.gaf.queued.any (fun k => r.isOf k) then false
  else match s.gaf.active with
    | some a => if r.isOf a then decide (min (64 * (r.sent + 1)) r.flashes ≤ s.mot.struck.1) else true
    | none => true

/-- The chunk of the oldest stripe released, and OLDEST with it. -/
def releaseFirst : List RingStripe → Option (RingStripe × List RingStripe)
  | [] => none
  | r :: l => if r.sent < r.nc then some (r, { r with sent := r.sent + 1 } :: l)
              else (releaseFirst l).map (fun p => (p.1, r :: p.2))

/-- A held Parison goes on once the slot it waits for is free; slots of a discarded stripe become free together (R185). -/
def State.endHold (s : State) : State :=
  match s.par.holdFrom, s.par.stripe, s.par.bands with
  | some _, some k, b :: _ => if s.mustHold (s.split k b.half) b.no then s else s.countHold.burst
  | _, _, _ => s

/-- CHUNK_RELEASE (R22, R184): the oldest retained chunk counts as sent, its slot is free, and a held Parison goes on. -/
def execChunkRelease (s : State) : Host.Outcome State Fault Refusal :=
  match releaseFirst s.par.ring with
  | none => .next s.endHold
  | some (r, l) =>
    if ¬ s.chunkSent r ∨ r.done ≤ r.sent then .next s.endHold
    else .next ({ s with par := { s.par with ring := l } }).endHold

end Sys2Proof.Machine
end

