-- ==== Sys2Proof/Machine/Threads.lean ====
section
/-! DEFINITION. Gaffer's threads and memories: register access, the program counter, program faults (R273 to R281, R299). -/

namespace Sys2Proof.Machine

open Sys2Proof

/-! ## Memory groups -/

/-- A unit's read of a word of a group: its data as the checker delivers them, none where they are uncorrectable; an error is
counted (R409, R410). -/
def State.readWord (s : State) (g a : Nat) : Option Nat × State :=
  match s.cellChecked g a with
  | .good => (some (s.rawData g a), s)
  | .corrected d c => (some d, s.noteCe g a (syndrome (s.rawData g a) (s.rawCheck g a)).1 d c)
  | .bad => (none, s.noteUe g a)

/-- Bytes [lo, lo + n) of the word of a group at an address have been written: its check bits follow, its poison mark is gone, and
the group has been written since PORn (R413). -/
def State.grpWrote (s : State) (g a old new lo n : Nat) : State :=
  let key := g * 2 ^ 36 + a
  let mode := s.cellMode g a
  let c := mixCheck mode new ((mget s.mem.checks key).getD (checkOf mode old)) lo n
  { s with mem := { s.mem with
      checks := if c = checkOf mode new then mdel s.mem.checks key else mset s.mem.checks key c,
      poison := s.mem.poison.filter (fun w => !decide (w = key)),
      grpWritten := s.mem.grpWritten.set g true } }

/-! ## Threads -/

/-- A thread. -/
def State.thread (s : State) (t : Nat) : Thread := s.gaf.threads.getD t Thread.cleared

/-- A thread changed. -/
def State.modThread (s : State) (t : Nat) (f : Thread → Thread) : State :=
  { s with gaf := { s.gaf with threads := lmod s.gaf.threads t f } }

/-- A general register; G0 reads 0 (R274). -/
def Thread.reg (h : Thread) (r : Nat) : Word := if r = 0 then 0 else h.g.getD r 0

/-- A general register written; a write to G0 is discarded (R274). -/
def Thread.setReg (h : Thread) (r : Nat) (v : Word) : Thread := if r = 0 then h else { h with g := h.g.set r v }

/-- A thread's general register written. -/
def State.setG (s : State) (t r : Nat) (v : Word) : State := s.modThread t (fun h => h.setReg r v)

/-- The instruction word at a PC, as its checker delivers it. -/
def State.progWord (s : State) (pc : Nat) : Nat :=
  match s.cellChecked 14 (8 * pc) with
  | .corrected d _ => d
  | _ => s.rawData 14 (8 * pc)

/-- The fault causes of R299. -/
def causeIllegal : Nat := 1
def causePcRange : Nat := 2
def causeDmem : Nat := 3
def causeStackOvf : Nat := 4
def causeStackUnf : Nat := 5
def causeRegAccess : Nat := 6
def causeRegError : Nat := 7

/-- PROG_FAULT (R299): the thread stops at the faulting instruction, and every open job halts. -/
def State.progFault (s : State) (t cause : Nat) : State :=
  let h := s.thread t
  let s1 := (s.modThread t (fun x => { x with running := false, wait := .none, fault := true, cause := cause })).flag
    GAF_STATUS.FAULT_SEEN
  s1.allFault 0x0F20 [a8 t, a16 h.pc, a8 cause, a32 (s.progWord h.pc / 2 ^ 32)]

/-- The instruction at a thread's PC is complete: the PC advances; at PC 32,767 it raises PC_RANGE instead (R280). -/
def State.nextPc (s : State) (t : Nat) : State :=
  if (s.thread t).pc = 32767 then s.progFault t causePcRange
  else s.modThread t (fun h => { h with pc := h.pc + 1, wait := .none })

/-- A result is written to D and the thread goes on. -/
def State.threadDone (s : State) (t d : Nat) (v : Word) : State := (s.setG t d v).nextPc t

/-- A thread whose state has been cleared and which starts at a PC (R276). -/
def Thread.startAt (pc : Nat) : Thread := { Thread.cleared with pc := pc, running := true }

/-! ## Data memory (R281) -/

/-- A 64-bit word of the data memory. -/
def State.dmemWord (s : State) (a : Nat) : Nat := rdLE s.gaf.dmem a 8

/-- Bytes of one word of the data memory written. -/
def State.dmemWrite (s : State) (a : Nat) (l : List Byte) : State :=
  let w := a / 8 * 8
  let m := wrBytes s.gaf.dmem a l
  { s.grpWrote 15 w (s.dmemWord w) (rdLE m w 8) (a % 8) l.length with gaf := { s.gaf with dmem := m } }

end Sys2Proof.Machine
end

