-- ==== Sys2Proof/Machine/Root.lean ====
section
/-! DEFINITION. The configuration root and generations: shadow writes, their broadcast, the copy of a commit, and the switch of
each unit's bank (R28 to R31, R292 to R294). -/

namespace Sys2Proof.Machine

open Sys2Proof

/-! ## The register map -/

/-- The indices at which a row of the register map lists an offset. -/
def RegRow.find (r : RegRow) (a : Nat) : Option (Nat × Nat) :=
  (List.range r.n2).findSome? (fun j =>
    let b := r.base + r.s2 * j
    if b ≤ a ∧ (a - b) % r.s1 = 0 ∧ (a - b) / r.s1 < r.n1 then some ((a - b) / r.s1, j) else none)

/-- The register at an offset of the BAR: its width in bytes and its fields. -/
def regAt (a : Nat) : Option (Nat × List (Fld × FType)) :=
  regTable.findSome? (fun r => (r.find a).map (fun (i, j) => (r.bytes, r.fields i j)))

/-- Whether a field is an SH field. -/
def isShKey (key : Nat) : Bool :=
  match regAt (key / 64) with
  | some (_, l) => l.any (fun e => decide (e.1.key = key) && decide (e.2 = .sh))
  | none => false

/-- Whether a register has an SH field. -/
def isShReg (a : Nat) : Bool :=
  match regAt a with
  | some (_, l) => l.any (fun e => decide (e.2 = .sh))
  | none => false

/-! ## Shadow writes (R28) -/

/-- The shadow of a field as a read returns it (R13, R283): the last write that has landed at the root. -/
def State.shadow (s : State) (x : Fld) : Nat :=
  match s.root.queue.reverse.find? (fun w => decide (w.addr = x.addr)) with
  | some w => bits w.val.toNat x.lo x.w
  | none => s.f x

/-- A write to an SH register lands at the root, stamped with its SEQ tick. -/
def State.landWrite (s : State) (a v : Nat) : State :=
  { s with root := { s.root with queue := s.root.queue ++ [{ tick := s.tick, addr := a, val := BitVec.ofNat 64 v }] } }

/-- A write reaches every unit's shadow. -/
def State.broadcast (s : State) (w : RootWrite) : State :=
  match regAt w.addr with
  | some (_, l) => l.foldl (fun t e => if e.2 = .sh then t.put e.1 (bits w.val.toNat e.1.lo e.1.w) else t) s
  | none => s

/-- CONFIG_BROADCAST (R28): the oldest write that the root has held for 16 ticks is broadcast. -/
def execConfigBroadcast (s : State) : Host.Outcome State Fault Refusal :=
  match s.root.queue with
  | [] => .next s
  | w :: r => if w.tick + 16 < s.tick then .next ({ s with root := { s.root with queue := r } }.broadcast w) else .next s

/-! ## Commit (R29, R30, R292 to R294) -/

/-- Every unit has entered the last committed generation (R30). -/
def State.allEntered (s : State) : Bool := s.root.banks.all (fun b => decide (b.gen = s.root.staged.gen))

/-- A waiting COMMIT may be given its tick now (R292 steps 1 to 3). A stripe counts as halted until it flashes again (R298,
example). -/
def State.commitReady (s : State) (c : CommitReq) : Bool :=
  s.allEntered && !s.on GAF_STATUS.HALTED && !s.gaf.resumeOk && !s.later.any (fun e => e.2.postOf c.thread) &&
    decide (c.lastTick + 17 ≤ s.tick)

/-- The copy at tick C: writes up to C − 17 have been broadcast, later ones are late; every unit's staged bank takes its
shadows; the fill starts. -/
def State.copyGeneration (s : State) : State :=
  let late := s.root.queue.filter (fun w => !decide (w.tick + 17 ≤ s.tick))
  let s1 := (s.root.queue.filter (fun w => decide (w.tick + 17 ≤ s.tick))).foldl State.broadcast s
  let gen := if s.tripleHeld 54 then s.root.staged.gen else (s.root.staged.gen + 1) % 2 ^ 32
  let s2 := { s1 with root := { s1.root with
    queue := late, staged := { gen := gen, vals := s1.regs.filter (fun (e : Nat × Nat) => isShKey e.1) } } }
  let s3 := s2.putOwned 54 GAF_GEN.COMMITTED gen
  let s4 := if late.isEmpty then s3 else
    ((s3.flag GAF_STATUS.LATE_WRITE).count GAF_CNT_LATE.COUNT late.length).event 0x0F05 0 [a32 ((gen + 1) % 2 ^ 32), a32 late.length]
  s4.startFill gen

/-- GENERATION_COPY (R29, R292, R294): the commit tick of the oldest waiting COMMIT; all units acknowledge, and COMMIT returns its
generation number. -/
def execGenerationCopy (s : State) : Host.Outcome State Fault Refusal :=
  match s.root.commits with
  | [] => .next s
  | c :: r =>
    if s.commitReady c then
      let s1 := { s with root := { s.root with commits := r } }.copyGeneration
      .next ((s1.pulse 4).threadDone c.thread c.dst (BitVec.ofNat 64 s1.root.staged.gen))
    else .next s

/-! ## Bank switches (R31) -/

/-- BANK_SWITCH (R30, R31): an item of a stripe reaches a unit with its generation. -/
def execBankSwitch (u : Fin 4) (stripe gen : Nat) (s : State) : Host.Outcome State Fault Refusal :=
  .next (s.itemGate u stripe gen).1

end Sys2Proof.Machine
end

