-- ==== Sys2Proof/Machine/Stage.lean ====
section
/-! DEFINITION. What the flash sequencer computes: plane slots, store lead and the predicted strobe time (R21, R206, R253, R263). -/

namespace Sys2Proof.Machine

open Sys2Proof

/-- The flashes of a stripe, NF = L + max(x0_b) (R253): as the ring keeps it from column 0 on, before that by its beam table. -/
def State.nf (s : State) (k : Stripe) : Nat :=
  match s.ringOf k with
  | some r => r.flashes
  | none => k.len + ((s.beamTable k.gen).getD BeamBank.empty).maxX0

/-- P of a generation, as Lehr and Punty hold it (R31). -/
def State.planes (s : State) (gen : Nat) : Nat := s.genF 2 gen PAR_PLANES.P

/-! ## Plane slots (R206) -/

/-- W_k of a generation in 100 ps; 0 acts as 1. -/
def State.strobeWidth (s : State) (gen k : Nat) : Nat := max 1 (s.genF 3 gen (FLS_STB_WIDTH.W k))

/-- S_k = max(1,320, W_k + GAP) in 100 ps. -/
def State.slotLen (s : State) (gen k : Nat) : Nat := max 1320 (s.strobeWidth gen k + s.genF 3 gen FLS_STB_CTL.GAP)

/-- Sum of the slots of planes 0 to n − 1: A(t, n) − A(t, 0). -/
def State.slotsTo (s : State) (gen n : Nat) : Nat := ((List.range n).map (s.slotLen gen)).sum

/-- T_F of a generation in 100 ps. -/
def State.flashTime (s : State) (gen : Nat) : Nat := s.slotsTo gen (s.planes gen)

/-- T_min of R264 in 100 ps. -/
def State.tMin (s : State) (gen : Nat) : Nat := max (s.flashTime gen) 10000

/-- τ, the length of a plane frame, in 100 ps (R198). -/
def tau100 : Nat := 1320

/-! ## Store lead (R21) -/

/-- The columns of a stripe that Parison has written into the ring. -/
def State.columns (s : State) (k : Stripe) : Nat :=
  match s.ringOf k with
  | some r => r.cols
  | none => 0

/-- The next flash to be strobed of the ACTIVE stripe: below t_h the flashes of a halt are still strobed, and none above (R21, R295). -/
def State.nextFlash (s : State) : Nat :=
  if s.on GAF_STATUS.HALTED then min s.unstruckFlash (s.f GAF_HALT_FLASH.TH) else s.unstruckFlash

/-- λ. -/
def State.lambda (s : State) : Int :=
  match s.gaf.active, s.gaf.queued, s.gaf.prepared with
  | some k, _, _ => (s.columns k : Int) - s.nextFlash
  | none, some k, _ => s.columns k
  | none, none, some k => s.columns k
  | none, none, none => 0

/-! ## Axes (R244) -/

/-- A position of an axis's source mapped to the axis under the active bank, in 2⁻¹⁶ grid unit. -/
def State.axisMap (s : State) (a : Nat) (pos : Int) : Int :=
  sgn 64 (ofInt 64 (s.acts 3 (SFB_AXIS_OFFSET.OFFSET a) + rne (pos * s.acts 3 (SFB_AXIS_SCALE.SCALE a)) 65536))

/-- A speed of an axis's source mapped to the axis, in 2⁻⁸ grid unit/s. -/
def State.speedMap (s : State) (a : Nat) (speed : Int) : Int :=
  sgn 48 (ofInt 48 (rne (speed * s.acts 3 (SFB_AXIS_SCALE.SCALE a)) 4294967296))

/-- SFB_AXIS_POS. -/
def State.axisPos (s : State) (a : Nat) : Int := s.axisMap a (s.fs (SFB_CH_POS.POS (s.act 3 (SFB_AXIS_CFG.SRC a))))

/-- SFB_AXIS_SPEED.SPEED. -/
def State.axisSpeed (s : State) (a : Nat) : Int := s.speedMap a (s.fs (SFB_CH_SPEED.SPEED (s.act 3 (SFB_AXIS_CFG.SRC a))))

/-! ## The predicted crossing (R263) -/

/-- An axis as the sequencer last saw it: position in grid units, speed in grid units/s, stamp in 100 ps. -/
structure AxisView where
  pos   : Rat
  speed : Rat
  stamp : Nat

/-- The value of an axis's source that has registered in SEQ. -/
def State.seenOf (s : State) (a : Nat) : Seen := (s.chans.getD (s.act 3 (SFB_AXIS_CFG.SRC a)) Chan.reset).seen

/-- Position and speed of an axis as the sequencer knows them. -/
def State.seenPos (s : State) (a : Nat) : Int := s.axisMap a (s.seenOf a).pos
def State.seenSpeed (s : State) (a : Nat) : Int := s.speedMap a (s.seenOf a).speed

/-- The values of an axis under the active bank (R244). -/
def State.axisView (s : State) (a : Nat) : AxisView :=
  { pos := (s.seenPos a : Rat) / 65536, speed := (s.seenSpeed a : Rat) / 256, stamp := (s.seenOf a).stamp }

/-- The planned acceleration of an axis at a Thyme time, under the plan then in force, grid units/s². -/
def State.planAcc (s : State) (a t100 : Nat) : Rat :=
  let p := (s.planOf t100).at t100
  if a = 0 then p.1.2.2 else p.2.2.2

/-- The largest r with r² ≤ n, for any n. -/
def sqrtFloor (n : Nat) : Nat := isqrtAux (Nat.log2 n / 2 + 1) n 0

/-- ⌊(p + √q) / r⌋ and, for a negative root, ⌊(p − √q) / r⌋, for r > 0. -/
def rootFloor (p : Int) (q : Nat) (neg : Bool) (r : Int) : Int :=
  let f := sqrtFloor q
  if neg then (p - (if f * f = q then f else f + 1 : Nat)) / r else (p + f) / r

/-- The smallest positive root of D = V·t + A·t²/2, as ⌊10¹⁰·t + 1/2⌋; none where there is none. -/
def crossing (d v a : Int) : Option Int :=
  if a = 0 then
    if (0 < v ∧ 0 < d) ∨ (v < 0 ∧ d < 0) then some ((2 * 10 ^ 10 * d.natAbs + v.natAbs : Int) / (2 * v.natAbs)) else none
  else
    let disc := v * v + 2 * a * d
    if disc < 0 then none else
    let q : Nat := 4 * 10 ^ 20 * disc.toNat
    let m : Int := a.natAbs
    let w : Int := if 0 < a then -v else v
    -- the roots are (w ± √disc) / |a|; their product has the sign of −d·a
    let lowRoot := decide (0 < w) && decide (0 < (if 0 < a then -d else d))
    if lowRoot then some (rootFloor (2 * 10 ^ 10 * w + m) q true (2 * m))
    else if 0 < w ∨ 0 < (if 0 < a then d else -d) then some (rootFloor (2 * 10 ^ 10 * w + m) q false (2 * m))
    else none

/-- The predicted A(t, 0) of a flash of a stripe, in 100 ps; none when no crossing exists. -/
def State.predict (s : State) (k : Stripe) (t : Nat) : Option Int :=
  let x := s.axisView 0
  let ap := s.planAcc 0 x.stamp
  let d : Int := k.sigma * (k.flashPoint t - s.seenPos 0) * ap.den
  let v : Int := k.sigma * s.seenSpeed 0 * 256 * ap.den
  let a : Int := k.sigma * ap.num * 65536
  (crossing d v a).map (fun n => (x.stamp : Int) + n + sgn 16 (s.genF 3 k.gen FLS_DELAY.DELAY))

/-- vs of R263 in 2⁻⁸ grid unit/s. -/
def State.vs (s : State) (k : Stripe) : Int := k.sigma * s.seenSpeed 0

/-- vs < VMIN of the latched profile. -/
def State.slow (s : State) (k : Stripe) : Bool := decide (s.vs k < (s.mot.prof.getD 7 0 * 64 * 256 : Nat))

/-- vs in px/s. -/
def State.vsPx (s : State) (k : Stripe) : Int := rne (s.vs k) (64 * 256)

/-- The predicted position and speed of an axis at a Thyme time in 100 ps (R263). -/
def State.axisAt (s : State) (a : Nat) (t100 : Int) : Rat × Rat :=
  let x := s.axisView a
  let dt : Rat := ((t100 - x.stamp : Int) : Rat) / 10000000000
  let acc := s.planAcc a x.stamp
  (x.pos + x.speed * dt + acc * dt * dt / 2, x.speed + acc * dt)

/-! ## Commit points (R213) -/

/-- C_t where it is known: A(t − 1, P − 1), and A(t₀, 0) − τ for the first flash; before A(t₀, 0) is fixed, its prediction less τ. -/
def State.commitTime (s : State) (k : Stripe) (t : Nat) : Option Int :=
  if t = s.mot.t0 then
    match mget s.mot.a0 t with
    | some a => some ((a : Int) - tau100)
    | none => (s.predict k t).map (fun a => a - tau100)
  else (mget s.mot.a0 (t - 1)).map (fun a => ((a + s.slotsTo k.gen (s.planes k.gen - 1) : Nat) : Int))

/-- Whether a flash of the ACTIVE stripe is still to be carried out: no halt has been latched at or below it (R295), and its
t₀ is armed; behind an accepted RESUME the flashes below the new t₀ are still carried out. -/
def State.live (s : State) (t : Nat) : Bool :=
  (if s.mot.armed then !s.on GAF_STATUS.HALTED || decide (t < s.f GAF_HALT_FLASH.TH) else s.mot.begun && decide (t < s.mot.t0)) &&
    (!(s.on EVJ_STATUS.SAFE || s.journal.safePending.isSome) || decide (t < s.mot.committed))

end Sys2Proof.Machine
end

