-- ==== Sys2Proof/Machine/Axes.lean ====
section
/-! DEFINITION. The auxiliary axes: moves, steps, the stall check (R268 to R271). -/

namespace Sys2Proof.Machine

open Sys2Proof

/-- An auxiliary axis beside its registers. -/
def State.axis (s : State) (a : Nat) : Aux := s.aux.getD a { vel := 0, neg := false, s0 := 0, e0 := 0 }

/-- It changed. -/
def State.modAxis (s : State) (a : Nat) (f : Aux → Aux) : State := { s with aux := lmod s.aux a f }

def State.axState (s : State) (a : Nat) : Nat := s.f (MOT_AX_STATUS.STATE a)

/-- An axis at rest where it stands, in a state; its event line pulses. -/
def State.restAxis (s : State) (a st : Nat) : State :=
  ((s.put (MOT_AX_STATUS.STATE a) st).modAxis a (fun x => { x with vel := 0 })).pulse (36 + a)

/-- Motion ended at once: TARGET is set to POS (R270). -/
def State.stopAxis (s : State) (a st : Nat) : State := (s.puts (MOT_AX_TARGET.TARGET a) (s.fs (MOT_AX_POS.POS a))).restAxis a st

/-! ## Pins (R268, R461) -/

/-- AXa_EN. -/
def State.driveEn (s : State) (a : Nat) (high : Bool) : State := (s.send (.axEnable a high)).drive (.axEn a) high

/-- AXa_CUR. -/
def State.driveCur (s : State) (a : Nat) (reduced : Bool) : State := (s.send (.axCurrent a reduced)).drive (.axCur a) reduced

/-- AXa_DIR of a direction under DIR_INV, driven where it does not stand there already. -/
def State.driveDir (s : State) (a : Nat) (neg : Bool) : State :=
  let h := neg != s.on (MOT_AX_CTL.DIR_INV a)
  if s.pin (.axDir a) = (if h then .high else .low) then s else (s.send (.axDir a h)).drive (.axDir a) h

/-! ## Stall check (R271) -/

/-- The deviation from the check encoder. -/
def State.axDev (s : State) (a : Nat) : Int :=
  let x := s.axis a
  let mul : Int := max 1 (s.f (MOT_AX_CHK.MUL a))
  let div : Int := if s.f (MOT_AX_CHK.DIV a) = 0 then 65536 else s.f (MOT_AX_CHK.DIV a)
  (s.fs (SFB_CH_POS.POS (10 + s.f (MOT_AX_CTL.CHK_SRC a))) - x.e0) - (s.fs (MOT_AX_POS.POS a) - x.s0) * mul / div

/-- A value saturated to 32 bits. -/
def sat32 (v : Int) : Int := max (-2147483648) (min 2147483647 v)

/-- A stall (R271). -/
def State.stall (s : State) (a : Nat) (dev : Int) : State :=
  ((s.stopAxis a 3).flag (MOT_AX_STATUS.STALL a)).event 0x0E03 0 [a8 a, s32 dev]

/-- The check of an axis, on every step and every count. -/
def State.checkAxis (s : State) (a : Nat) : State :=
  if s.on (MOT_AX_CTL.CHK_EN a) then
    let d := s.axDev a
    let s1 := s.puts (MOT_AX_STATUS.DEV a) (sat32 d)
    if s.f (MOT_AX_CHK.LIMIT a) < d.natAbs then s1.stall a d else s1
  else s

/-- The axes that check against a channel. -/
def State.axesOn (s : State) (n : Nat) : List Nat :=
  (List.range 8).filter (fun a => s.on (MOT_AX_CTL.CHK_EN a) && decide (10 + s.f (MOT_AX_CTL.CHK_SRC a) = n))

/-- A count of a low-speed channel is checked. -/
def State.checkAxes (s : State) (n : Nat) : State := (s.axesOn n).foldl State.checkAxis s

/-- A fault of a channel stalls the axes that check against it. -/
def State.stallAxes (s : State) (n : Nat) : State :=
  (s.axesOn n).foldl (fun t a => t.stall a (t.fs (MOT_AX_STATUS.DEV a))) s

/-! ## Moves (R268, R269) -/

/-- VMAX and VSS as they act, squared. -/
def State.axVmax (s : State) (a : Nat) : Nat := min 5000000 (s.f (MOT_AX_SPEED.VMAX a)) ^ 2
def State.axVss (s : State) (a : Nat) : Nat := min (min 5000000 (s.f (MOT_AX_SPEED.VMAX a))) (s.f (MOT_AX_SPEED.VSS a)) ^ 2

/-- A write to MOT_AX_TARGET (R268, R269): a move towards it; reduced current ends with a new motion. -/
def State.axTargetWrite (s : State) (a v : Nat) : State :=
  let s1 := s.put (MOT_AX_TARGET.TARGET a) v
  if ¬ s.on (MOT_AX_CTL.EN a) then s1
  else if s1.fs (MOT_AX_TARGET.TARGET a) = s1.fs (MOT_AX_POS.POS a) ∧ (s1.axis a).vel = 0 then s1.restAxis a 0
  else
    let s2 := s1.put (MOT_AX_STATUS.STATE a) 1
    if s2.on (MOT_AX_STATUS.CUR a) then (s2.put (MOT_AX_STATUS.CUR a) 0).driveCur a false else s2

/-- AX_TARGET (R268). -/
def execAxTarget (a : Fin 8) (v : Word) (s : State) : Host.Outcome State Fault Refusal := .next (s.axTargetWrite a v.toNat)

/-- The square of the speed after a step, d steps ahead of the target in the present direction; 0 at rest. Between two steps the
square of the speed changes by 2·ACC. -/
def State.nextVel (s : State) (a v2 : Nat) (d : Int) : Nat :=
  let acc := 2 * max 1 (s.f (MOT_AX_ACC.ACC a))
  let ss := s.axVss a
  if d ≤ 0 then (if v2 ≤ ss + acc then 0 else v2 - acc)
  else if acc * d.toNat ≤ v2 - ss then max ss (v2 - acc)
  else if s.axVmax a < v2 then max (s.axVmax a) (v2 - acc)
  else min (max ss (s.axVmax a)) (v2 + acc)

/-- One step pulse: from rest the direction is taken up first, and its pin driven where it does not show it yet (log entry 54). -/
def State.axStep (s : State) (a : Nat) : State :=
  let x := s.axis a
  let ahead := s.fs (MOT_AX_TARGET.TARGET a) - s.fs (MOT_AX_POS.POS a)
  let neg := if x.vel = 0 then decide (ahead < 0) else x.neg
  let s1 := s.driveDir a neg
  let v2 := if x.vel = 0 then s.axVss a else x.vel
  let s2 := (s1.send (.step a neg (max 2 (s.f (MOT_AX_TIMING.PW a))))).puts (MOT_AX_POS.POS a) (s.fs (MOT_AX_POS.POS a) + (if neg then -1 else 1))
  let d := if neg then -(ahead + 1) else ahead - 1
  let v := s.nextVel a v2 d
  let s3 := s2.modAxis a (fun y => { y with vel := v, neg := neg })
  (if d = 0 ∧ v = 0 then s3.restAxis a 0 else s3).checkAxis a

/-- AX_STEP (R268, R271). -/
def execAxStep (a : Fin 8) (s : State) : Host.Outcome State Fault Refusal :=
  if s.on (MOT_AX_CTL.EN a) ∧ s.axState a = 1 then .next (s.axStep a) else .next s

/-- A write to MOT_AX_CTL (R270, R271): enabling the check latches S0 and E0; STOP ends motion. -/
def State.axCtlWrite (s : State) (a v : Nat) : State :=
  let s1 := ((((s.put (MOT_AX_CTL.EN a) (bits v 0 1)).put (MOT_AX_CTL.DIR_INV a) (bits v 2 1)).put (MOT_AX_CTL.CUR_EN a)
    (bits v 3 1)).put (MOT_AX_CTL.CHK_EN a) (bits v 4 1)).put (MOT_AX_CTL.CHK_SRC a) (bits v 5 3)
  let s2 := if bit v 4 && !s.on (MOT_AX_CTL.CHK_EN a) then
      s1.modAxis a (fun x => { x with s0 := s1.fs (MOT_AX_POS.POS a), e0 := s1.fs (SFB_CH_POS.POS (10 + bits v 5 3)) })
    else s1
  let s0 := if bits v 0 1 = s.f (MOT_AX_CTL.EN a) then s2 else s2.driveEn a (bit v 0)
  let s3 := if s.pin (.axDir a) = .highZ then s0 else s0.driveDir a (s.axis a).neg
  if bit v 1 then
    if s.axState a = 1 then s3.stopAxis a 2
    else (s3.puts (MOT_AX_TARGET.TARGET a) (s3.fs (MOT_AX_POS.POS a))).put (MOT_AX_STATUS.STATE a) 2
  else s3

/-- AX_STOP (R270). -/
def execAxStop (a : Fin 8) (v : Word) (s : State) : Host.Outcome State Fault Refusal :=
  if bit v.toNat 1 then .next (s.axCtlWrite a v.toNat) else .next s

/-- AX_IDLE (R269): no step for IDLE ms. -/
def execAxIdle (a : Fin 8) (s : State) : Host.Outcome State Fault Refusal :=
  if s.on (MOT_AX_CTL.CUR_EN a) ∧ ¬ s.on (MOT_AX_STATUS.CUR a) then
    .next ((s.put (MOT_AX_STATUS.CUR a) 1).driveCur a true)
  else .next s

end Sys2Proof.Machine
end

