-- ==== Sys2Proof/Machine/Wst.lean ====
section
/-! DEFINITION. WST: the transport of segments (R325 to R330). -/

namespace Sys2Proof.Machine

open Sys2Proof

/-- A frame dropped (R323). -/
def State.dropFrame (s : State) : State := (s.grpTouch 4).count ETH_CNT_DROP.COUNT 1

/-- The slot whose session a packet names. -/
def State.slotOf (s : State) (session : Nat) : Option Nat :=
  (List.range 16).find? (fun i => match s.slot i with
    | some g => decide (g.session = session)
    | none => false)

/-- SACK: bit i is set when SEQ ACK_NEXT + 1 + i has been received (R325). -/
def sackBits (got : List Nat) (next : Nat) : Nat :=
  ((List.range 64).map (fun i => if next + 1 + i ∈ got then 2 ^ i else 0)).sum

/-- An ACK sent for a slot (R325, R330). -/
def State.sendAck (s : State) (i : Nat) (g : Ingest) (lost done : Bool) : State :=
  let s1 := (s.setSlot i (some { g with lastAck := g.ackNext, uncovered := false })).sendServer g.port g.server
    (wstHeader 3 lost done g.session 0 g.ackNext (BitVec.ofNat 64 (sackBits g.got g.ackNext)) s.wstWindow 0 0)
  if lost then s1.count ETH_CNT_LOST.COUNT 1 else s1

/-- The packets that are missing with three higher ones received, and not yet reported (R330). -/
def Ingest.newlyLost (g : Ingest) : List Nat :=
  let top := g.got.foldl max 0
  (List.range top).filter (fun m => !decide (m ∈ g.got) && !decide (m ∈ g.lossSent) &&
    decide (3 ≤ (g.got.filter (fun q => decide (m < q))).length))

/-- A fetch ended for good: class 3 (R329, R330). -/
def State.fetchFail (s : State) (i : Nat) (g : Ingest) (reason : Nat) : State :=
  ((s.dropSlot i).unmake g.ctx g.parse.made).jobFault g.ctx 0x1210 false [a16 g.seg, a8 reason]

/-- The session moves to the next server, on its port or where that is no storage port any more on another, with START = ACK_NEXT, or ends once every server has been tried twice (R330). -/
def State.nextServer (s : State) (i : Nat) (g : Ingest) : State :=
  if 2 * s.servers ≤ g.tries then s.fetchFail i g 1
  else
    let n := (g.server + 1) % s.servers
    let p := if s.storageOn g.port then g.port else s.storagePort.getD g.port
    let g1 := { g with port := p, server := n, tries := g.tries + 1, start := g.ackNext, timeouts := 0, answered := false }
    ((s.sendFetch i g1).flag ETH_STATUS.RETRY_SEEN).event 0x1201 1 [a16 g.seg, a8 n, a32 g.ackNext]

/-- DATA (R329, R330): a packet is placed in its slot and acknowledged when an ACK is due, or dropped. The first packet of a
segment has Sage request leave for it (R361). None comes while no port has role 1 (R322). -/
def execWstData (session seq len total : Nat) (payload : List Byte) (s : State) : Host.Outcome State Fault Refusal :=
  if s.storageUp = false then .next s
  else match s.slotOf session with
  | none => .next s.dropFrame
  | some i => match s.slot i with
    | none => .next s.dropFrame
    | some g =>
      if g.total.isSome ∧ g.total ≠ some total then .next s.dropFrame
      else if 0x08000000 < total then .next (s.fetchFail i g 2)
      else if total ≤ seq * 8192 ∨ len ≠ packetLen total seq ∨ payload.length ≠ len then .next s.dropFrame
      else if seq ∈ g.got then .next (s.dropFrame.setSlot i (some { g with answered := true }))
      else
        let g1 := { g with total := some total, got := seq :: g.got, answered := true, timeouts := 0 }
        let s1 := (s.grpTouch 4).hbmWrite (slotBase i + seq * 8192) payload
        let s2 := if g.decrypt ∨ s1.power.waiting.any (fun l => decide (l.who = .sage i)) ∨ g.verdict.isSome then s1
                  else s1.askLeave (.sage i) (max 1 (s1.f SAG_LEAVE.UNITS))
        if g1.complete then .next (s2.sendAck i g1 false true)
        else match g1.newlyLost with
          | _ :: _ =>
            let g2 := { g1 with lossSent := g1.newlyLost ++ g1.lossSent }
            .next (s2.sendAck i g2 true false)
          | [] => if g1.lastAck + 32 ≤ g1.ackNext then .next (s2.sendAck i g1 false false)
                  else .next (s2.setSlot i (some { g1 with uncovered := true }))

/-- REFUSE (R330): the session moves to the next server. -/
def execWstRefuse (session _reason : Nat) (s : State) : Host.Outcome State Fault Refusal :=
  if s.storageUp = false then .next s
  else match s.slotOf session with
  | none => .next s.dropFrame
  | some i => match s.slot i with
    | none => .next s.dropFrame
    | some g => if g.complete then .next s.dropFrame else .next (s.nextServer i g)

/-- ACK_DELAY_TIMEOUT (R330): 20 µs after a packet that no ACK covers. -/
def execAckDelayTimeout (i : Fin 16) (s : State) : Host.Outcome State Fault Refusal :=
  match s.slot i with
  | none => .next s
  | some g => if g.uncovered then .next (s.sendAck i g false false) else .next s

/-- WST_RTO (R330): no new DATA for RTO. After RETRY timeouts in a row the session moves to the next server; before that an
ACK with LOST is sent, or the FETCH again where it has had no answer. -/
def execWstRto (i : Fin 16) (s : State) : Host.Outcome State Fault Refusal :=
  match s.slot i with
  | none => .next s
  | some g =>
    if g.complete then .next s
    else if max 1 (s.f ETH_WST_TMO.RETRY) ≤ g.timeouts + 1 then .next (s.nextServer i g)
    else
      let g1 := { g with timeouts := g.timeouts + 1 }
      if g.answered then .next (s.sendAck i g1 true false)
      else .next ((s.setSlot i (some g1)).fetchOut g1)

end Sys2Proof.Machine
end

