-- ==== Sys2Proof/Machine/Ether.lean ====
section
/-! DEFINITION. The Ethernet ports: roles, link state, the IPv4 that the device answers itself, and the cluster chain (R321 to
R324). -/

namespace Sys2Proof.Machine

open Sys2Proof

/-! ## Ports (R321, R322) -/

/-- ETH_PORT_STATUS.CHAIN_WAIT: the port waits for its partner (R322). -/
def State.chainWait (s : State) (p : Nat) : Bool := s.chainPort p && !s.chainUp

/-- Whether a role may be given to a port (R322). -/
def State.roleFits (s : State) (p role : Nat) : Bool :=
  (decide (role ≠ 2) || decide (2 ≤ p)) &&
    (decide (role ≠ 3) || (decide (p < 2) && (List.range 4).all (fun q => decide (q = p) || decide (s.f (ETH_PORT_CFG.ROLE q) ≠ 3))))

/-- A write to ETH_PORT_CFG (R322). -/
def State.portCfgWrite (s : State) (p v : Nat) : State :=
  if s.roleFits p (bits v 1 2) then
    ((s.put (ETH_PORT_CFG.EN p) (bits v 0 1)).put (ETH_PORT_CFG.ROLE p) (bits v 1 2)).put (ETH_PORT_CFG.FEC p) (bits v 3 1)
  else s.flag ETH_STATUS.CFG_REFUSED

/-- PORT_ROLE_WRITE (R322). -/
def execPortRoleWrite (p : Fin 4) (v : Word) (s : State) : Host.Outcome State Fault Refusal := .next (s.portCfgWrite p v.toNat)

/-- ETH_LINK_UP (R321). -/
def execEthLinkUp (p : Fin 4) (s : State) : Host.Outcome State Fault Refusal := .next (s.put (ETH_PORT_STATUS.LINK p) 1)

/-- A port's link goes down. -/
def State.linkDown (s : State) (p : Nat) : State :=
  if s.on (ETH_PORT_STATUS.LINK p) then (s.put (ETH_PORT_STATUS.LINK p) 0).flag (ETH_PORT_STATUS.DOWN_SEEN p) else s

/-- ETH_LINK_DOWN (R321). -/
def execEthLinkDown (p : Fin 4) (s : State) : Host.Outcome State Fault Refusal := .next (s.linkDown p)

/-! ## Frames that the device answers or drops (R321, R323) -/

/-- PAUSE_FRAME (R321): discarded and counted. -/
def execPauseFrame (p : Fin 4) (s : State) : Host.Outcome State Fault Refusal :=
  .next (if s.on (ETH_PORT_CFG.EN p) then s.dropFrame else s)

/-- Whether a frame received on a port is the chain's alone: it goes on, and is not for this device (R324). -/
def State.passesBy (s : State) (p : Nat) (frame : List Byte) : Bool :=
  s.chainUp && decide (2 ≤ p) && !isPause frame && !isGroup (frameDst frame) && decide (frameDst frame ≠ s.f ETH_MAC.MAC)

/-- ETH_FRAME_DROP (R319, R323): of a port, a frame and whether its FCS is bad. A frame that the device does not take, or whose FCS is
bad, is dropped and counted. -/
def execEthFrameDrop (r : Fin 4 × List Byte × Bool) (s : State) : Host.Outcome State Fault Refusal :=
  let (p, frame, badFcs) := r
  .next (if s.on (ETH_PORT_CFG.EN p) ∧ (badFcs = true ∨ s.takes frame = false) ∧ s.passesBy p frame = false then s.dropFrame else s)

/-- ARP_REQUEST (R323): a request for the device's own address is answered, any other dropped. -/
def execArpRequest (p : Fin 4) (ip sender mac : Nat) (s : State) : Host.Outcome State Fault Refusal :=
  if s.portUp p then .next (if ip = s.f ETH_IP.ADDR then s.sendFrameOn p (s.arpReply sender mac) else s.dropFrame) else .next s

/-- ICMP_ECHO (R323): a request for the device's own address, in a frame of at most 9,216 bytes, is answered to its sender, of
which `sender` gives the IPv4 and the MAC address. `payload` is
what stands behind the ICMP checksum; the frame has 42 bytes beside it: Ethernet header and FCS 18, IPv4 20, ICMP 4. -/
def execIcmpEcho (p : Fin 4) (ip : Nat) (sender : Nat × Nat) (payload : List Byte) (s : State) : Host.Outcome State Fault Refusal :=
  if s.portUp p then
    .next (if ip = s.f ETH_IP.ADDR ∧ payload.length + 42 ≤ 9216 then
        s.emit p (.packet p { mac := some sender.2, hop := sender.1, src := ip, dst := sender.1, proto := 1, df := true, data := echoData payload })
      else s.dropFrame)
  else .next s

/-! ## The chain (R324) -/

/-- A frame received on E2 or E3 leaves on the other port. -/
def State.passOn (s : State) (p : Nat) (frame : List Byte) (badFcs : Bool) : State :=
  s.emit (5 - p) (.eth (5 - p) frame (leaveFcs frame badFcs))

/-- Whether a frame received on a port goes on: it is not for this device alone, and neither PAUSE nor PFC (R321, R324). -/
def State.goesOn (s : State) (p : Nat) (frame : List Byte) : Bool :=
  s.chainUp && decide (2 ≤ p) && !isPause frame && (isGroup (frameDst frame) || decide (frameDst frame ≠ s.f ETH_MAC.MAC))

/-- A frame: its two MAC addresses and what stands behind them. -/
def macFrame (dst src : Nat) (rest : List Byte) : List Byte := toBE 6 dst ++ toBE 6 src ++ rest

/-- CHAIN_FORWARD (R324): a frame received on E2 or E3 that is not for this device alone leaves on the other port; one with a bad FCS
leaves with an inverted one. A PTP message is TC_FORWARD's. -/
def execChainForward (p : Fin 4) (dst src : Nat) (rest : List Byte) (badFcs : Bool) (s : State) : Host.Outcome State Fault Refusal :=
  let frame := macFrame dst src rest
  if s.goesOn p frame ∧ ptpAt frame = none then .next (s.passOn p frame badFcs) else .next s

end Sys2Proof.Machine
end

