-- ==== Sys2Proof/Machine/Mailbox.lean ====
section
/-! DEFINITION. Mailboxes, doorbells, locks and the HBM window (R370 to R381). Commands of one cycle are taken in the order of the
queue, which R366, R374 and R380 fix. -/

namespace Sys2Proof.Machine

open Sys2Proof

/-! ## Doorbells (R377 to R379) -/

/-- Pending, mask and wake mask of a receiver. -/
def State.dbPend (s : State) (r : Nat) : Nat := (s.host.dbPend.getD r 0).toNat
def State.dbMask (s : State) (r : Nat) : Nat := (s.host.dbMask.getD r 0).toNat
def State.dbWake (s : State) (r : Nat) : Nat := (s.host.dbWake.getD r 0).toNat

/-- The signal that a receiver gets (R378): vector 0, a core interrupt or Gaffer's event line 13; the cluster agent gets none. -/
def State.signal (s : State) (r : Nat) : State :=
  if r = 0 then s.msix 0 else if r ≤ 5 then s.send (.coreInt r) else if r = 6 then s.pulse 13 else s

/-- Whether a pending bit would keep a receiver awake. -/
def State.wakePending (s : State) (r : Nat) : Bool := decide ((s.dbPend r).land (s.dbWake r) ≠ 0)

/-- A sleeping service core with such a bit pending is powered up (R379). Receiver r is core r − 1. -/
def State.wakeCheck (s : State) (r : Nat) : State :=
  if 1 ≤ r ∧ r ≤ 4 ∧ s.on (PWR_SC_CTL.ASLEEP (r - 1)) ∧ s.wakePending r then
    ((s.put (PWR_SC_CTL.ASLEEP (r - 1)) 0).put (PWR_SC_CTL.RUNNING (r - 1)) 1).send (.wake r)
  else s

/-- A receiver's pending bits and mask replaced; bits of PEND & MASK that go from 0 to 1 signal (R368, R378). -/
def State.setDb (s : State) (r pend mask : Nat) : State :=
  let rise := (pend.land mask).land ((s.dbPend r).land (s.dbMask r)) ≠ pend.land mask
  let s1 := { s with host := { s.host with
    dbPend := s.host.dbPend.set r (BitVec.ofNat 64 pend), dbMask := s.host.dbMask.set r (BitVec.ofNat 64 mask) } }
  (if rise then s1.signal r else s1).wakeCheck r

/-- Doorbell bits of a receiver are set. -/
def State.ring (s : State) (r n : Nat) : State := s.setDb r ((s.dbPend r).lor n) (s.dbMask r)

/-- A receiver clears pending bits. -/
def State.dbClear (s : State) (r n : Nat) : State :=
  s.setDb r ((s.dbPend r).land ((2 ^ 32 - 1).xor (n % 2 ^ 32))) (s.dbMask r)

/-- A receiver writes its mask. -/
def State.dbMaskWrite (s : State) (r n : Nat) : State := s.setDb r (s.dbPend r) (n % 2 ^ 32)

/-- A receiver writes its wake mask. -/
def State.dbWakeWrite (s : State) (r n : Nat) : State :=
  { s with host := { s.host with dbWake := s.host.dbWake.set r (BitVec.ofNat 64 (n % 2 ^ 32)) } }.wakeCheck r

/-- DB_SET (R377): bits 0 to 23 of a receiver; bits 24 to 31 are ignored. -/
def execDbSet (_m r : Fin 8) (v : Word) (s : State) : Host.Outcome State Fault Refusal := .next (s.ring r (v.toNat % 2 ^ 24))

/-! ## Mailbox channels (R373 to R376) -/

/-- The channel from a sender to a receiver. -/
def State.channel (s : State) (m r : Nat) : Channel := s.host.channels.getD (6 * m + r) { msgs := [], seq := 0 }

/-- A channel changed. -/
def State.setChannel (s : State) (m r : Nat) (c : Channel) : State :=
  { s with host := { s.host with channels := s.host.channels.set (6 * m + r) c } }

/-- Word 0 of a queued message (R375): the sender and SEQ are stamped, LEN is the sender's. -/
def stampMsg (m seq : Nat) (l : List Byte) : List Byte := BitVec.ofNat 8 m :: l.getD 1 0 :: (toLE 2 seq ++ (l.drop 4).take 60)

/-- A message is queued; the receiver's bit 24 + s is set (R376). -/
def State.deliver (s : State) (m r : Nat) (l : List Byte) : State :=
  let c := s.channel m r
  (s.setChannel m r { msgs := c.msgs ++ [stampMsg m c.seq l], seq := (c.seq + 1) % 65536 }).ring r (2 ^ (24 + m))

/-- A PUSH on an existing channel (R374). -/
def State.push (s : State) (m r : Nat) (l : List Byte) : State :=
  if 4 ≤ (s.channel m r).msgs.length then
    { s.count MBX_CNT_FULL.COUNT 1 with host := { s.host with fullSeen := s.host.fullSeen.set (6 * m + r) true } }
  else s.deliver m r l

/-- PUSH (R373, R374): a PUSH where there is no channel is refused. -/
def execPush (m r : Fin 8) (s : State) : Host.Outcome State Fault Refusal :=
  if m.val ≤ 5 ∧ r.val ≤ 5 ∧ m ≠ r then .next (s.push m r (s.host.windows.getD (6 * m + r) [])) else .next s

/-- The oldest message of a channel is removed; a POP on an empty channel is ignored. -/
def State.pop (s : State) (m r : Nat) : State :=
  let c := s.channel m r
  s.setChannel m r { c with msgs := c.msgs.drop 1 }

/-- POP (R375). -/
def execPop (m : Fin 8) (from_ : Fin 6) (s : State) : Host.Outcome State Fault Refusal :=
  if m.val ≤ 5 then .next (s.pop from_ m) else .next s

/-! ## Locks (R380, R381) -/

/-- The owner of a lock. -/
def State.lockOwner (s : State) (n : Nat) : Option Nat := s.host.locks.getD n none

/-- A lock given an owner, or freed. -/
def State.setLock (s : State) (n : Nat) (o : Option Nat) : State :=
  { s with host := { s.host with locks := s.host.locks.set n o } }

/-- MBX_LOCK as a read returns it: OWNER, HELD, GOT. -/
def lockWord (o : Option Nat) (got : Bool) : Nat :=
  match o with
  | none => 0
  | some w => w + 256 + 512 * b2n got

/-- A read of a lock: by any master but Gaffer it acquires a free lock. -/
def State.lockRead (s : State) (m n : Nat) : Nat × State :=
  match s.lockOwner n with
  | some w => (lockWord (some w) (decide (w = m)), s)
  | none => if m = 6 then (lockWord none false, s) else (lockWord (some m) true, s.setLock n (some m))

/-- LOCK_READ (R380, R381). -/
def execLockRead (m : Fin 8) (n : Fin 64) (s : State) : Host.Outcome State Fault Refusal :=
  let (v, t) := s.lockRead m n
  .next { t with host := { t.host with readData := BitVec.ofNat 64 v, readErr := false } }

/-- A write to MBX_LOCK: RELEASE by the owner frees the lock, by another master it is counted. -/
def State.lockWrite (s : State) (m n v : Nat) : State :=
  if bit v 0 then
    if s.lockOwner n = some m then s.setLock n none else s.count MBX_CNT_LOCKERR.COUNT 1
  else s

/-- LOCK_RELEASE (R380). -/
def execLockRelease (m : Fin 8) (n : Fin 64) (v : Word) (s : State) : Host.Outcome State Fault Refusal :=
  .next (s.lockWrite m n v.toNat)

/-- Every lock of a master is released (R381). -/
def State.dropLocks (s : State) (m : Nat) : State :=
  { s with host := { s.host with locks := s.host.locks.map (fun (o : Option Nat) => o.filter (fun w => !decide (w = m))) } }

/-- Every channel from or to a mailbox user is emptied (R443, R444). -/
def State.emptyChannels (s : State) (m : Nat) : State :=
  { s with host := { s.host with channels := s.host.channels.mapIdx (fun i (c : Channel) =>
      if i / 6 = m ∨ i % 6 = m then { c with msgs := [] } else c) } }

/-! ## HBM window (R370 to R372) -/

/-- Whether a range may not be reached at all by a host path (R371). -/
def State.protectedRange (s : State) (a n : Nat) : Bool := s.hidden a n || decide (hbmSize < a + n)

/-- Whether a write is narrower than the words of its group (R412). -/
def State.narrow (s : State) (a n : Nat) : Bool :=
  decide (s.f (ECC_GRP_CFG.MODE (s.hbmGroup a)) = 0) && (decide (a % 8 ≠ 0) || decide (n % 8 ≠ 0))

/-- A write reported through AER as a non-fatal Completer Abort, its header logged (R372, R412). -/
def State.aerReport (s : State) (a n : Nat) : State := { s with host := { s.host with aer := some (a, n) } }.send (.aer a n)

/-- A refused access of n bytes, of kind 1, 2 or 3 (R372): a read is completed with Completer Abort, a write is reported. -/
def State.refuseHost (s : State) (kind a n : Nat) : State :=
  let s1 := (((s.flag GLB_HOST_ERR.REFUSED).put GLB_HOST_ERR.KIND kind).put GLB_HOST_ERR_ADDR.ADDR a).event 0x0001 0
    [a8 kind, a36 a]
  let s2 := if kind = 1 then s1.send (.completerAbort a) else s1.aerReport a n
  if kind = 3 then s2.liveRefused a else s2

/-- The HBM address behind an offset of the window. -/
def State.winAddress (s : State) (off : Nat) : Nat := s.f GLB_HBM_WIN.BASE * 2 ^ 19 + off % 2 ^ 19

/-- A write through the window by a master; false where it is refused or discarded. -/
def State.winWrite (s : State) (m a : Nat) (l : List Byte) : State × Bool :=
  if s.protectedRange a l.length then (s.refuseHost 2 a l.length, false)
  else if s.host.admitted ∧ s.liveRange a l.length then (s.refuseHost 3 a l.length, false)
  else if s.narrow a l.length then ((s.event 0x1104 0 [a8 (s.hbmGroup a), a36 a, a8 m]).aerReport a l.length, false)
  else (s.hbmWrite a l, true)

/-- A read through the window: its bytes, or none where it is refused; what its checkers find is noted (R409, R410). Uncorrectable data
read free (log entry 4). -/
def State.winRead (s : State) (a len : Nat) : Option (List Byte) × State :=
  if s.protectedRange a len then (none, s.refuseHost 1 a len)
  else if s.hbmBad a len then
    let (w, t) := s.free (8 * len)
    (some (toLE len w), t.noteRead a len)
  else (some (s.hbmRead a len), s.noteRead a len)

/-- The data of a read are returned to the master that asked. -/
def State.answer64 (s : State) (v : Nat) : State :=
  { s with host := { s.host with readData := BitVec.ofNat 64 v, readErr := false } }

/-- A read is answered with an error. -/
def State.answerErr (s : State) : State := { s with host := { s.host with readErr := true } }

/-- HBM_WINDOW_ACCESS (R370 to R372, R412): an access of the tool host at an offset of the window. -/
def execHbmWindowAccess (off : Nat) (write : Bool) (bytes : List Byte) (len : Nat) (s : State) :
    Host.Outcome State Fault Refusal :=
  let a := s.winAddress off
  if write then .next (s.winWrite 0 a bytes).1
  else match s.winRead a len with
    | (some d, t) => .next ((t.send (.completion a d)).answer64 (ofLE d))
    | (none, t) => .next t.answerErr

end Sys2Proof.Machine
end

