-- ==== Sys2Proof/Machine/Cluster.lean ====
section
/-! DEFINITION. The cluster agent: roles, terms, grants, status, the standby's mirror, takeover and joining (R331 to R342). -/

namespace Sys2Proof.Machine

open Sys2Proof

/-! ## Messages (R332, R338) -/

/-- The agent's state: 0 none, 1 worker, 2 joining, 3 standby, 4 manager, 5 standby failed. -/
def State.cluState (s : State) : Nat := s.f CLU_STATUS.STATE

/-- A member accepts a message of its own cluster that is sent to it, to the manager or to all (R332). It comes over the chain, or from the
upper tier over the uplink, and only while those carry traffic (R322). -/
def State.cluAccepts (s : State) (up : Bool) (cluster dst : Nat) : Bool :=
  (if up then s.uplinkUp else s.chainUp) && decide (s.cluState ≠ 0) && decide (cluster = s.f CLU_CFG.CLUSTER) &&
    (decide (dst = s.f CLU_CFG.MEMBER) || decide (dst = 0) || decide (dst = 255))

/-- The highest term seen follows a message (R338); under a higher one no Sync has come yet, and a worker's servo sets HOLD (R341). -/
def State.seeTerm (s : State) (term : Nat) : State :=
  let s1 := s.put CLU_TERM.TERM (max (s.f CLU_TERM.TERM) term)
  if s.slaved ∧ s.f CLU_TERM.TERM < term then s1.put THY_REF_CTL.HOLD 1 else s1

/-- GRANT, JOURNAL, DIGEST and TAKEOVER under a term below the highest seen are discarded and counted (R338). -/
def State.staleTerm (s : State) (term : Nat) : Bool := decide (term < s.f CLU_TERM.TERM)

/-- The manager-capable device beside this one: 17 or 18 (R331). -/
def State.otherManager (s : State) : Nat := if s.f CLU_CFG.MEMBER = 17 then 18 else 17

/-! ## Member records (R336, R337) -/

/-- The record of member m, 1 to 16. -/
def State.member (s : State) (m : Nat) : Member := s.clu.members.getD (m - 1) Member.reset

/-- The sixteen 32-bit words of a record. -/
def Member.words (r : Member) : List Nat :=
  [r.state, r.sent, r.acked, r.stripe, r.sstate, r.th, r.held] ++ List.replicate 9 0

/-- The record that sixteen words spell. -/
def memberOf (l : List Nat) : Member :=
  { state := l.getD 0 0 % 4, sent := l.getD 1 0, acked := l.getD 2 0, stripe := l.getD 3 0, sstate := l.getD 4 0 % 8, th := l.getD 5 0,
    held := l.getD 6 0 }

/-- The body of a JOURNAL message. -/
def JournalMsg.body (j : JournalMsg) : List Nat := [j.jseq, j.member + 256 * b2n j.full] ++ j.record.words

/-- Whether grants do not wait for a standby: it has failed, or none has joined (R337, R340). -/
def State.unmirrored (s : State) : Bool := s.clu.sbFailed || s.clu.alone

/-- The manager journals a member's record with the standby: the next JSEQ, kept until it is acknowledged. A standby that has
failed is not told any more. -/
def State.journalMember (s : State) (m : Nat) (full : Bool) : State :=
  let j : JournalMsg := { jseq := (s.clu.applied + 1) % 2 ^ 32, member := m, full := full, record := s.member m }
  let s1 := { s with clu := { s.clu with applied := j.jseq } }
  if s.unmirrored then s1
  else { s1 with clu := { s1.clu with journals := s1.clu.journals ++ [j] } }.cluSend false 20 s.otherManager j.body

/-- A member record changed by the manager, journalled if that changes it (R337). -/
def State.setMember (s : State) (m : Nat) (r : Member) : State :=
  if s.member m = r then s
  else { s with clu := { s.clu with members := s.clu.members.set (m - 1) r } }.journalMember m false

/-! ## Granting (R334, R337) -/

/-- The stripe list of a worker. -/
def State.cluList (s : State) (w : Nat) : List (List Word) := s.clu.lists.getD (w - 1) []

/-- The stripe number of a descriptor (R287). -/
def descStripe (d : List Word) : Nat := (d.getD 0 0).toNat % 2 ^ 32

/-- The list entries that a report shows to have become ACTIVE: with SSTATE 3 or higher those up to the stripe that it names; with QUEUED
those before it; with PREPARED those before the one ahead of it, which may still be QUEUED. -/
def State.shownStarted (s : State) (w stripe sstate : Nat) : Nat :=
  match (s.cluList w).findIdx? (fun d => decide (descStripe d = stripe)) with
  | some i => if sstate = 0 then 0 else if sstate = 1 then i - 1 else if sstate = 2 then i else i + 1
  | none => 0

/-- The list entries of a worker known to have become ACTIVE: by all its reports. -/
def State.cluStarted (s : State) (w : Nat) : Nat := s.clu.started.getD (w - 1) 0

/-- A worker's report is taken in. -/
def State.noteStarted (s : State) (w stripe sstate : Nat) : State :=
  { s with clu := { s.clu with started := lmod s.clu.started (w - 1) (fun n => max n (s.shownStarted w stripe sstate)) } }

/-- CLU_GRANT_CFG.DEPTH, 1 to 4. -/
def State.grantDepth (s : State) : Nat := max 1 (min 4 (s.f CLU_GRANT_CFG.DEPTH))

/-- The device to which a worker's grants go: the worker, or the manager that relays its STATUS (R342). -/
def State.routeTo (s : State) (w : Nat) : Nat := if s.clu.routes.getD (w - 1) 0 = 0 then w else s.clu.routes.getD (w - 1) 0

/-- A GRANT leaves: GSEQ, WORKER, the descriptor (R333). -/
def State.sendGrant (s : State) (w gseq : Nat) (d : List Word) : State :=
  s.cluSend false 16 (s.routeTo w) ([gseq, w] ++ d.flatMap (fun x => [x.toNat % 2 ^ 32, x.toNat / 2 ^ 32]))

/-- The descriptor of a grant: the one relayed from above, else the entry of the worker's list (R334, R342). -/
def State.grantDesc (s : State) (g : GrantMsg) : Option (List Word) :=
  match g.desc with
  | some d => some d
  | none => (s.cluList g.worker)[g.gseq - 1]?

/-- A grant leaves; one whose list entry this manager does not hold is not sent. -/
def State.sendMsg (s : State) (g : GrantMsg) : State :=
  match s.grantDesc g with
  | some d => s.sendGrant g.worker g.gseq d
  | none => s

/-- Whether the manager may grant to a worker now. -/
def State.mayGrant (s : State) (w : Nat) : Bool :=
  let r := s.member w
  decide (s.cluState = 4) && decide (r.state = 1) && !decide (w ∈ s.clu.conflict) && !decide (w ∈ s.clu.owed) &&
    decide (r.sent < (s.cluList w).length) && decide (r.sent - s.cluStarted w < s.grantDepth)

/-- The next entry is granted: recorded with the standby, and sent once that is acknowledged, or at once when the standby has
failed. -/
def State.grantNext (s : State) (w : Nat) : State :=
  if s.mayGrant w then
    let r := s.member w
    let s1 := s.setMember w { r with sent := r.sent + 1 }
    let g : GrantMsg :=
      { worker := w, gseq := r.sent + 1, jseq := s1.clu.applied, ready := s1.unmirrored, sent := s1.unmirrored, desc := none }
    let s2 := { s1 with clu := { s1.clu with grants := s1.clu.grants ++ [g] } }
    if g.sent then s2.sendMsg g else s2
  else s

/-- A worker is granted up to the depth. -/
def State.grantUp (s : State) (w : Nat) : State := ((((s.grantNext w).grantNext w).grantNext w).grantNext w)

/-- Every worker is granted up to the depth. -/
def State.grantAll (s : State) : State := (List.range 16).foldl (fun s i => s.grantUp (i + 1)) s

/-- Whether grants go to a worker: it is present, and has not answered with RESULT 3 (R335, R336). -/
def State.grantTo (s : State) (w : Nat) : Bool := decide ((s.member w).state = 1) && !decide (w ∈ s.clu.conflict)

/-- The grants that may be sent and have not been leave, to the workers that take them. -/
def State.sendReady (s : State) : State :=
  let due (g : GrantMsg) : Bool := g.ready && !g.sent && s.grantTo g.worker
  let s1 := { s with clu := { s.clu with grants := s.clu.grants.map (fun (g : GrantMsg) => if due g then { g with sent := true } else g) } }
  (s.clu.grants.filter due).foldl State.sendMsg s1

/-- The grants that a test names need wait no longer. -/
def State.releaseGrants (s : State) (ok : GrantMsg → Bool) : State :=
  { s with clu := { s.clu with grants := s.clu.grants.map (fun (g : GrantMsg) => if ok g then { g with ready := true } else g) } }.sendReady

/-! ## Roles (R331, R339) -/

/-- The agent begins to listen (R339). -/
def State.cluListen (s : State) : State :=
  { (s.put CLU_STATUS.STATE 2).put CLU_STATUS.STANDBY_OK 0 with
    clu := { s.clu with grants := [], journals := [], digest := none, sbFailed := false, alone := true, heardMgr := false, joinLeft := 16,
                        conflict := [], owed := [] } }

/-- The role that a value of CLU_CFG.ROLE gives: 3, and 2 without the manager feature, act as 0 (R348). -/
def State.roleOf (s : State) (r : Nat) : Nat := if r = 3 ∨ (r = 2 ∧ !bit (s.f SAG_FEATURE.FEATURE) 1) then 0 else r

/-- A write to CLU_CFG: fields other than ROLE only while ROLE is, or acts as, 0. -/
def State.cluCfgWrite (s : State) (v : Nat) : State :=
  let old := s.roleOf (s.f CLU_CFG.ROLE)
  let role := s.roleOf (bits v 0 2)
  let s1 := if old = 0 then
      (((s.put CLU_CFG.MEMBER (bits v 2 5)).put CLU_CFG.UPLINK (bits v 7 1)).put CLU_CFG.DOMAIN (bits v 8 8)).put CLU_CFG.CLUSTER
        (bits v 16 16)
    else s
  let s2 := s1.put CLU_CFG.ROLE (bits v 0 2)
  if role = old then s2
  else if role = 2 then s2.cluListen
  else (s2.put CLU_STATUS.STATE role).put CLU_STATUS.STANDBY_OK 0

/-- A manager stops (R338). -/
def State.stepDown (s : State) (term : Nat) : State :=
  ((s.event 0x1205 0 [a32 s.ownTerm, a32 term]).seeTerm term).cluListen

/-- Whether a term and a sender make this manager stop (R338). -/
def State.outranked (s : State) (src term : Nat) : Bool :=
  decide (s.cluState = 4) && (decide (s.ownTerm < term) || (decide (term = s.ownTerm) && decide (src < s.f CLU_CFG.MEMBER)))

/-- The standby fails for a reason (R337): 1 digest, 3 told by the manager. -/
def State.standbyFails (s : State) (reason : Nat) : State :=
  ((s.put CLU_STATUS.STATE 5).flag CLU_STATUS.SB_FAIL_SEEN).event 0x1203 0 [a8 reason]

/-! ## Worker (R335, R336) -/

/-- The address of a grant's slot in Gaffer's data memory. -/
def State.slotAddr (s : State) (gseq : Nat) : Nat := (s.f CLU_GRANT_CFG.BASE / 64 * 64 + 64 * (gseq % 4)) % 65536

/-- Words written to the data memory at rising addresses. -/
def State.dmemWords (s : State) (a : Nat) : List Word → State
  | [] => s
  | w :: r => (s.dmemWrite a (toLE 8 w.toNat)).dmemWords (a + 8) r

/-- The result of a GRANT at a worker and the state after it (R335): a slot whose STATE cannot be read counts as full. -/
def State.placeGrant (s : State) (gseq : Nat) (d : List Word) : Nat × State :=
  let a := s.slotAddr gseq
  match s.clu.placed.find? (fun e => decide (e.1 = gseq)) with
  | some (_, e) => (if e = d then 1 else 3, s)
  | none =>
    match s.readWord 15 (a + 48) with
    | (none, t) => (2, t)
    | (some n, t) =>
      if n = 1 then (2, t) else
      let s1 := (t.dmemWords a d).dmemWrite (a + 40) (toLE 8 gseq)
      let s2 := s1.dmemWrite (a + 48) (toLE 8 1)
      let s3 := { s2 with clu := { s2.clu with
        placed := s2.clu.placed.filter (fun (e : Nat × List Word) => !decide (e.1 % 4 = gseq % 4)) ++ [(gseq, d)], heldSeq := max s2.clu.heldSeq gseq } }
      (0, s3.ring 6 (2 ^ min 23 (s.f CLU_GRANT_CFG.DB)))

/-- Whether a grant to a worker awaits its acknowledgement. -/
def State.granting (s : State) (w gseq : Nat) : Bool := s.clu.grants.any (fun g => decide (g.worker = w) && decide (g.gseq = gseq))

/-- A grant from above is recorded with this tier's standby, and sent to its worker once that is acknowledged and the worker takes grants
(R336, R337, R342). -/
def State.relayTo (s : State) (w gseq : Nat) (desc : List Word) : State :=
  let r := s.member w
  let s1 := s.setMember w { r with sent := max r.sent gseq }
  let g : GrantMsg := { worker := w, gseq := gseq, jseq := s1.clu.applied, ready := s1.unmirrored || s1.clu.journals.isEmpty, sent := false,
                        desc := some desc }
  ({ s1 with clu := { s1.clu with grants := s1.clu.grants ++ [g] } }).sendReady

/-- A GRANT of the higher manager at a manager that is its worker: under a term below the highest of that tier it is discarded; else it is
relayed with its GSEQ to the worker that it names (R338, R342). -/
def State.relayGrant (s : State) (term gseq worker : Nat) (desc : List Word) : State :=
  if term < s.clu.upTerm then s.count CLU_CNT_STALE.COUNT 1
  else
    let s1 := { s with clu := { s.clu with upTerm := term } }
    if 1 ≤ worker ∧ worker ≤ 16 ∧ s1.granting worker gseq = false then s1.relayTo worker gseq desc else s1

/-- GRANT (R335, R338, R342), received on the uplink (src.2) or in the device's own cluster: a worker places it; a manager that is a worker of a
higher one relays what comes from above. -/
def execGrant (cluster : Nat) (src : Nat × Bool) (dst term gseq worker : Nat) (desc : List Word) (s : State) : Host.Outcome State Fault Refusal :=
  if s.cluAccepts src.2 cluster dst then
    if src.2 then
      if s.cluState = 4 ∧ s.on CLU_CFG.UPLINK then .next (s.relayGrant term gseq worker desc) else .next s
    else if s.staleTerm term then .next (s.count CLU_CNT_STALE.COUNT 1)
    else if s.cluState = 1 then
      let (r, t) := (s.seeTerm term).placeGrant gseq desc
      .next (t.cluSend false 17 0 [gseq, r])
    else .next (s.seeTerm term)
  else .next s

/-- The stripe that a worker reports at its timer: the ACTIVE one, else the QUEUED, else the PREPARED, else the last to end. -/
def State.stripeNow (s : State) : Nat × Nat :=
  match s.gaf.active, s.gaf.queued, s.gaf.prepared with
  | some k, _, _ => (k.num, if s.gaf.ending then 6 else if s.on GAF_STATUS.HALTED then 4 else 3)
  | none, some k, _ => (k.num, 2)
  | none, none, some k => (k.num, 1)
  | none, none, none => s.gaf.last

/-- STATUS_TIMER (R336). -/
def execStatusTimer (s : State) : Host.Outcome State Fault Refusal :=
  if s.cluState = 1 then .next (s.sendStatus s.stripeNow.1 s.stripeNow.2) else .next s

/-! ## Manager (R334 to R337) -/

/-- The grants that a worker may not have received are sent again, after a takeover (R340): those of its list. What was relayed from above
the higher manager sends again. -/
def State.regrant (s : State) (w : Nat) : State :=
  let r := s.member w
  let l := ((List.range (r.sent - max r.acked r.held)).map (fun i => max r.acked r.held + 1 + i)).filter
    (fun g => decide (g ≤ (s.cluList w).length))
  l.foldl (fun (s : State) (n : Nat) =>
    let g : GrantMsg := { worker := w, gseq := n, jseq := s.clu.applied, ready := true, sent := true, desc := none }
    State.sendMsg { s with clu := { s.clu with grants := s.clu.grants ++ [g] } } g) s

/-- The worker of which a message of a source tells: the source itself, or the one that a manager which is a worker names (R342). -/
def workerOf (src named : Nat) : Option Nat :=
  if 1 ≤ src ∧ src ≤ 16 then some src else if (src = 17 ∨ src = 18) ∧ 1 ≤ named ∧ named ≤ 16 then some named else none

/-- A STATUS of worker w that came from a source: the record follows it, a lost worker is back, and granting goes on; a manager that is a
worker relays it upward (R336, R340, R342). -/
def State.statusOf (s : State) (w src stripe sstate motion th held cause : Nat) : State :=
  let r := s.member w
  let owed := decide (w ∈ s.clu.owed)
  let s1 := if s.on CLU_CFG.UPLINK then
      s.cluSend true 18 0 [stripe, sstate % 8 + 256 * (motion % 8), th, held, cause % 65536, w]
    else s
  let s2 := s1.setMember w { r with state := 1, stripe := stripe, sstate := sstate % 8, th := th, held := held,
                                    sent := if owed then max r.sent held else r.sent }
  let s3 := s2.noteStarted w stripe (sstate % 8)
  let s4 := { s3 with clu := { s3.clu with
    tails := s3.clu.tails.set (w - 1) (motion % 8, cause % 65536), routes := s3.clu.routes.set (w - 1) (if src = w then 0 else src) } }
  let s5 := if owed then { s4 with clu := { s4.clu with owed := s4.clu.owed.filter (fun x => !decide (x = w)) } }.regrant w else s4
  s5.sendReady.grantUp w

/-- STATUS (R336, R338, R340, R342): every member takes up its term, the manager its report. -/
def execStatus (cluster src dst term stripe sstate motion th held cause worker : Nat) (s : State) :
    Host.Outcome State Fault Refusal :=
  if s.cluAccepts false cluster dst then
    let t := s.seeTerm term
    if s.cluState = 4 then
      match workerOf src worker with
      | some w => .next (t.statusOf w src stripe sstate motion th held cause)
      | none => .next t
    else .next t
  else .next s

/-- The worker whose grant a GRANT_ACK of a source settles: the source, or of a manager that is a worker the one with the oldest such
grant (R342; the message names no worker: DESIGN CHOICE, log entry 29). -/
def State.ackOf (s : State) (src gseq : Nat) : Option Nat :=
  if 1 ≤ src ∧ src ≤ 16 then some src
  else (s.clu.grants.find? (fun g => decide (g.gseq = gseq) && decide (s.routeTo g.worker = src))).map GrantMsg.worker

/-- A grant settled with RESULT 0, 1 or 3 at the manager: one relayed is acknowledged upward, 3 ends granting to the worker (R335,
R342). -/
def State.settleGrant (s : State) (w gseq result : Nat) (g : GrantMsg) : State :=
  let s1 := if g.desc.isSome then s.cluSend true 17 0 [gseq, result] else s
  let s2 := { s1 with clu := { s1.clu with
    grants := s1.clu.grants.filter (fun (g : GrantMsg) => !(decide (g.worker = w) && decide (g.gseq = gseq))) } }
  if result = 3 then
    { s2 with clu := { s2.clu with conflict := w :: s2.clu.conflict.filter (fun x => !decide (x = w)) } }.event 0x1207 0 [a8 w, a32 gseq]
  else
    let r := s2.member w
    (s2.setMember w { r with acked := max r.acked gseq }).grantUp w

/-- GRANT_ACK (R335, R338, R342): every member takes up its term; at the manager RESULT 2 leaves the grant to its retransmission, any
other settles it. -/
def execGrantAck (cluster src dst term gseq result : Nat) (s : State) : Host.Outcome State Fault Refusal :=
  if s.cluAccepts false cluster dst then
    let t := s.seeTerm term
    if s.cluState = 4 ∧ result ≠ 2 then
      match (s.ackOf src gseq).bind (fun w => s.clu.grants.find? (fun g => decide (g.worker = w) && decide (g.gseq = gseq))) with
      | some g => .next (t.settleGrant g.worker gseq result g)
      | none => .next t
    else .next t
  else .next s

/-- GRANT_RETRANSMIT (R334): the grants sent to member w + 1 and not acknowledged are sent again, while granting to it goes on. -/
def execGrantRetransmit (w : Fin 16) (s : State) : Host.Outcome State Fault Refusal :=
  if s.cluState = 4 then
    .next ((s.clu.grants.filter (fun g => g.sent && decide (g.worker = w.val + 1) && s.grantTo g.worker)).foldl State.sendMsg s)
  else .next s

/-- MEMBER_TIMEOUT (R336): no STATUS of member w + 1 for 3.0 ms. -/
def execMemberTimeout (w : Fin 16) (s : State) : Host.Outcome State Fault Refusal :=
  let m : Nat := w.val + 1
  let r := s.member m
  if s.cluState = 4 ∧ r.state = 1 then
    .next (((s.flag CLU_STATUS.LOST_SEEN).event 0x1202 0 [a8 m]).setMember m { r with state := 2 })
  else .next s

/-! ## Heartbeats (R337 to R339) -/

/-- A device that hears the manager while it joins sends JOIN, until the first full record comes. -/
def State.hearManager (s : State) : State :=
  let s1 := { s with clu := { s.clu with heardMgr := true } }
  if s.clu.joinLeft = 16 then s1.cluSend false 24 0 [] else s1

/-- The highest term seen of the upper tier, at a manager that is its worker (R342). -/
def State.seeUpper (s : State) (term : Nat) : State :=
  if s.cluState = 4 ∧ s.on CLU_CFG.UPLINK then { s with clu := { s.clu with upTerm := max s.clu.upTerm term } } else s

/-- HEARTBEAT (R338, R339, R342), received on the uplink (src.2) or in the device's own cluster; a standby's only tells its term. -/
def execHeartbeat (cluster : Nat) (src : Nat × Bool) (dst term _jseq : Nat) (standby sbFailed : Bool) (s : State) : Host.Outcome State Fault Refusal :=
  if s.cluAccepts src.2 cluster dst then
    if src.2 then .next (s.seeUpper term)
    else if standby then .next (s.seeTerm term)
    else if s.outranked src.1 term then .next (s.stepDown term)
    else if s.cluState = 4 ∨ s.staleTerm term = true then .next s
    else if s.cluState = 2 then .next ((s.seeTerm term).hearManager)
    else if s.cluState = 3 ∧ sbFailed = true then .next ((s.seeTerm term).standbyFails 3)
    else .next (s.seeTerm term)
  else .next s

/-- The body of a HEARTBEAT: JSEQ, its flags and Thyme time. -/
def State.heartbeatBody (s : State) : List Nat :=
  [s.clu.applied, (if s.cluState = 4 then 2 * b2n s.clu.sbFailed else 1), s.now % 2 ^ 32, s.now / 2 ^ 32]

/-- HEARTBEAT_TIMER (R337). -/
def execHeartbeatTimer (s : State) : Host.Outcome State Fault Refusal :=
  if s.cluState = 3 ∨ s.cluState = 4 then .next (s.cluSend false 19 255 s.heartbeatBody) else .next s

/-! ## The standby's mirror (R337, R339) -/

/-- The digest of R337. -/
def State.memberDigest (s : State) : List Byte :=
  (sha384 (s.clu.members.flatMap (fun r => r.words.flatMap (toLE 4)))).take 16

/-- A digest whose JSEQ has been applied is compared. -/
def State.checkDigest (s : State) : State :=
  match s.clu.digest with
  | some (j, d) =>
    if j = s.clu.applied then
      let s1 := { s with clu := { s.clu with digest := none } }
      if d = s.memberDigest then s1 else s1.standbyFails 1
    else s
  | none => s

/-- A device that has taken all full records becomes standby (R339). -/
def State.joined (s : State) (src : Nat) : State :=
  if s.cluState = 2 ∧ s.clu.joinLeft = 0 then
    (s.put CLU_STATUS.STATE 3).event 0x1206 0 [a8 src, a32 (s.f CLU_TERM.TERM)]
  else s

/-- Whether no record of a joining has been applied yet. -/
def State.joinFresh (s : State) : Bool := decide (s.cluState = 2) && decide (s.clu.joinLeft = 16)

/-- Whether a journal message is the next to apply: the one after the last; to a device that joins, first the full record of member 1. -/
def State.journalDue (s : State) (jseq member : Nat) (full : Bool) : Bool :=
  if s.joinFresh then full && decide (member = 1) else decide (jseq = (s.clu.applied + 1) % 2 ^ 32)

/-- JOURNAL (R337 to R339): applied in order of JSEQ and acknowledged; one applied before is acknowledged again. -/
def execJournal (cluster src dst term jseq member : Nat) (full : Bool) (record : List Nat) (s : State) :
    Host.Outcome State Fault Refusal :=
  if s.cluAccepts false cluster dst then
    if s.staleTerm term then .next (s.count CLU_CNT_STALE.COUNT 1)
    else if s.cluState = 3 ∨ (s.cluState = 2 ∧ (full = true ∨ s.clu.joinLeft < 16)) then
      let s1 := s.seeTerm term
      if s.journalDue jseq member full then
        let s2 := { s1 with clu := { s1.clu with
          members := s1.clu.members.set (member - 1) (memberOf record), applied := jseq,
          joinLeft := if s.cluState = 2 ∧ full = true then s1.clu.joinLeft - 1 else s1.clu.joinLeft } }
        .next (((s2.cluSend false 21 0 [jseq]).joined src).checkDigest)
      else if s.joinFresh = false ∧ jseq ≤ s.clu.applied then .next (s1.cluSend false 21 0 [jseq])
      else .next s1
    else .next (s.seeTerm term)
  else .next s

/-- JOURNAL_ACK (R337 to R339): every member takes up its term; at the manager the grant that it records is sent, and with the last full
record acknowledged a standby mirrors. -/
def execJournalAck (cluster _src dst term jseq : Nat) (s : State) : Host.Outcome State Fault Refusal :=
  if s.cluAccepts false cluster dst then
    let t := s.seeTerm term
    if s.cluState = 4 then
      let full := t.clu.journals.any (fun j => decide (j.jseq = jseq) && j.full)
      let s1 := { t with clu := { t.clu with journals := t.clu.journals.filter (fun j => !decide (j.jseq = jseq)) } }
      let s2 := if full ∧ s1.clu.journals.all (fun j => !j.full) then s1.put CLU_STATUS.STANDBY_OK 1 else s1
      .next ((s2.releaseGrants (fun g => decide (g.jseq = jseq))).grantAll)
    else .next t
  else .next s

/-- JOURNAL_RETRANSMIT (R337). -/
def execJournalRetransmit (s : State) : Host.Outcome State Fault Refusal :=
  if s.cluState = 4 then .next (s.clu.journals.foldl (fun s j => s.cluSend false 20 s.otherManager j.body) s) else .next s

/-- JOURNAL_TIMEOUT (R337): the standby is marked failed, and grants no longer wait for it. -/
def execJournalTimeout (s : State) : Host.Outcome State Fault Refusal :=
  if s.cluState = 4 ∧ s.clu.journals ≠ [] then
    let s1 := (((s.put CLU_STATUS.STANDBY_OK 0).flag CLU_STATUS.SB_FAIL_SEEN).event 0x1203 0 [a8 2])
    .next (({ s1 with clu := { s1.clu with journals := [], sbFailed := true } }.releaseGrants (fun _ => true)).grantAll)
  else .next s

/-- DIGEST at the standby (R337, R338). -/
def execDigest (cluster _src dst term jseq : Nat) (digest : List Byte) (s : State) : Host.Outcome State Fault Refusal :=
  if s.cluAccepts false cluster dst then
    if s.staleTerm term then .next (s.count CLU_CNT_STALE.COUNT 1)
    else if s.cluState = 3 then
      let s1 := s.seeTerm term
      .next ({ s1 with clu := { s1.clu with digest := some (jseq, digest) } }.checkDigest)
    else .next (s.seeTerm term)
  else .next s

/-- The 32-bit words that bytes spell. -/
def words32 : List Byte → List Nat
  | a :: b :: c :: d :: r => ofLE [a, b, c, d] :: words32 r
  | [] => []
  | l => [ofLE l]

/-- DIGEST_TIMER (R337). -/
def execDigestTimer (s : State) : Host.Outcome State Fault Refusal :=
  if s.cluState = 4 then .next (s.cluSend false 22 s.otherManager ([s.clu.applied, 0] ++ words32 s.memberDigest)) else .next s

/-- JOIN (R338, R339): every member takes up its term; at the manager all sixteen full records are journalled, and with a standby present,
or joining, it is ignored. -/
def execJoin (cluster _src dst term : Nat) (s : State) : Host.Outcome State Fault Refusal :=
  if s.cluAccepts false cluster dst then
    let t := s.seeTerm term
    if s.cluState = 4 ∧ ¬ s.on CLU_STATUS.STANDBY_OK ∧ ¬ s.clu.journals.any JournalMsg.full then
      let s1 := { t with clu := { t.clu with sbFailed := false, alone := false } }
      .next ((List.range 16).foldl (fun s i => s.journalMember (i + 1) true) s1)
    else .next t
  else .next s

/-! ## Terms and takeover (R338 to R340) -/

/-- A device becomes manager under the next term; no standby mirrors it yet. -/
def State.becomeManager (s : State) : State :=
  let n := (s.f CLU_TERM.TERM + 1) % 2 ^ 32
  let s1 := ((s.put CLU_TERM.TERM n).put CLU_STATUS.STATE 4).put CLU_STATUS.STANDBY_OK 0
  { s1 with clu := { s1.clu with grants := [], journals := [], digest := none, sbFailed := false, alone := true, term := n, conflict := [] } }

/-- JOIN_LISTEN_TIMEOUT (R339): nothing heard in 10 ms. -/
def execJoinListenTimeout (s : State) : Host.Outcome State Fault Refusal :=
  if s.cluState = 2 ∧ s.clu.heardMgr = false then .next (s.becomeManager.grantAll) else .next s

/-- MANAGER_TIMEOUT (R340): the standby takes over; each worker that has been present is granted to again once it reports. -/
def execManagerTimeout (s : State) : Host.Outcome State Fault Refusal :=
  if s.cluState = 3 then
    let s1 := s.becomeManager
    let s2 := { s1 with clu := { s1.clu with owed := (List.range 16).filterMap (fun i =>
      if (s1.member (i + 1)).state = 0 then none else some (i + 1)) } }
    .next (((s2.flag CLU_STATUS.TAKEOVER_SEEN).event 0x1204 0 [a32 (s2.f CLU_TERM.TERM), a32 s2.clu.applied]).cluSend false 23 255
      [s2.clu.applied])
  else .next s

/-- What a manager has last heard of a worker, told upward as its STATUS (R342). -/
def State.relayStatus (s : State) (w : Nat) : State :=
  let r := s.member w
  let t := s.clu.tails.getD (w - 1) (0, 0)
  s.cluSend true 18 0 [r.stripe, r.sstate + 256 * t.1, r.th, r.held, t.2, w]

/-- A TAKEOVER of the upper tier at a manager that is its worker: it answers with the STATUS of its workers (R336, R338, R342). -/
def State.takeoverAbove (s : State) (term : Nat) : State :=
  if s.cluState = 4 ∧ s.on CLU_CFG.UPLINK then
    if term < s.clu.upTerm then s.count CLU_CNT_STALE.COUNT 1
    else (((List.range 16).map (· + 1)).filter (fun w => decide ((s.member w).state ≠ 0))).foldl State.relayStatus (s.seeUpper term)
  else s

/-- TAKEOVER (R336, R338, R342), received on the uplink (src.2) or in the device's own cluster: the term is accepted, a worker answers with
STATUS, an older manager stops. -/
def execTakeover (cluster : Nat) (src : Nat × Bool) (dst term _jseq : Nat) (s : State) : Host.Outcome State Fault Refusal :=
  if s.cluAccepts src.2 cluster dst then
    if src.2 then .next (s.takeoverAbove term)
    else if s.staleTerm term then .next (s.count CLU_CNT_STALE.COUNT 1)
    else if s.outranked src.1 term then .next (s.stepDown term)
    else if s.cluState = 1 then
      let t := s.seeTerm term
      .next (t.sendStatus t.stripeNow.1 t.stripeNow.2)
    else .next (s.seeTerm term)
  else .next s

end Sys2Proof.Machine
end

