-- ==== Sys2Proof/Machine/Lehr.lean ====
section
/-! DEFINITION. Lehr: loading, checking and serving flash chunks (R190 to R194). -/

namespace Sys2Proof.Machine

open Sys2Proof

/-! ## The store codec, read (R181) -/

/-- The words of a codec group of n words whose control bits remain, and the words behind it. -/
def ungroup : Nat → Nat → Nat → List Nat → Option (List Nat × List Nat)
  | 0, _, _, l => some ([], l)
  | n + 1, c, prev, l =>
    if c % 2 = 1 then match l with
      | [] => none
      | w :: r => (ungroup n (c / 2) w r).map (fun p => (w :: p.1, p.2))
    else (ungroup n (c / 2) prev l).map (fun p => (prev :: p.1, p.2))

/-- The words of n codec groups that take up a list of words exactly. -/
def ungroups : Nat → Nat → List Nat → Option (List Nat)
  | 0, _, l => if l.isEmpty then some [] else none
  | _ + 1, _, [] => none
  | n + 1, prev, c :: l =>
    match ungroup 64 c prev l with
    | none => none
    | some (o, r) => (ungroups n (o.getLastD prev) r).map (fun q => o ++ q)

/-! ## Block checks (R191) -/

/-- The codes that block (j, k) of a stripe holds in index order; none where a check of R191 fails or a word of it is uncorrectable
(R409). -/
def State.readBlock (s : State) (k : Stripe) (base j c : Nat) : Option (List Nat) :=
  let p := s.planes k.gen
  let a := s.blockAddr base j c
  let h0 := s.hbmLE a 4
  let h1 := s.hbmLE (a + 4) 4
  let h2 := s.hbmLE (a + 8) 4
  let len := bits h0 0 16
  if s.hbmBad a (16 + len) then none
  else if bits h0 16 8 ≠ (if p ≤ 8 then 1 else 2) then none
  else if bits h1 0 24 ≠ c % 2 ^ 24 ∨ bits h2 0 12 ≠ j then none
  else if bits h1 24 8 ≠ k.num % 256 ∨ bits h2 16 16 ≠ k.gen % 65536 then none
  else if len % 8 ≠ 0 then none
  else match ungroups (if p ≤ 8 then 8 else 16) 0 (leWords (s.hbmRead (a + 16) len)) with
    | none => none
    | some ws =>
      let raw := (ws.map (toLE 8)).flatten
      let codes := (chunks (if p ≤ 8 then 1 else 2) 4097 raw).map ofLE
      if codes.any (fun v => decide (2 ^ p ≤ v)) then none
      else if crc32c raw ≠ s.hbmLE (a + 12) 4 then none
      else some codes

/-- The blocks of a chunk by group, all-zero ones not listed; the first group whose block fails. -/
def State.readChunk (s : State) (k : Stripe) (base c : Nat) : Nat → Map (List Nat) → Map (List Nat) × Option Nat
  | 0, m => (m, none)
  | n + 1, m =>
    let j := 4095 - n
    match s.readBlock k base j c with
    | none => (m, some j)
    | some l => State.readChunk s k base c n (if l.all (fun v => v == 0) then m else m ++ [(j, l)])

/-! ## Loading (R190) -/

/-- The first flash that a lane has still to send; before t₀ is armed that is t₀. -/
def State.lehrNext (s : State) : Nat :=
  if s.mot.armed then (s.link.lanes.map (fun (l : PLane) => l.next.1)).foldl min ((s.link.lanes.headD PLane.reset).next.1) else s.mot.t0

/-- The half of a flash. -/
def State.partOf (s : State) (gen t : Nat) : Nat := if s.widePlanes gen then t % 64 / 32 else 0

/-- Whether a half of a chunk is in staging or on its way there. -/
def State.hasHalf (s : State) (c p : Nat) : Bool :=
  s.link.halves.any (fun h => h.any (fun x => decide (x.chunk = c) && decide (x.part = p)))

/-- A half of a complete chunk begins to be loaded into a free staging half. -/
def State.beginLoad (s : State) (k : Stripe) (c p : Nat) : State :=
  match s.ringOf k, s.link.halves.findIdx? (fun h => h.isNone) with
  | some r, some i =>
    if c < r.done ∧ s.hasHalf c p = false then
      { s with link := { s.link with halves := s.link.halves.set i (some {
        stripe := k.num, gen := k.gen, chunk := c, part := p, ready := false, codes := [] }) } }
    else s
  | _, _ => s

/-- Lehr begins to load the chunk of the first flash to send when staging is empty (R185, R190). -/
def State.kickLehr (s : State) : State :=
  match s.gaf.active with
  | none => s
  | some k =>
    if s.runs LEH_CTL.ENABLE ∧ s.link.halves.all (fun h => h.isNone) ∧ s.lehrNext < s.nf k ∧ (¬ s.on GAF_STATUS.HALTED ∨ s.live s.lehrNext) then
      s.beginLoad k (s.lehrNext / 64) (s.partOf k.gen s.lehrNext)
    else s

/-- A block read a second time: STORE_REREAD. The number that names the failed check is a free value, given here. -/
def State.reread (s : State) (chunk j check : Nat) : State :=
  ((s.count LEH_CNT_REREAD.COUNT 1).flag LEH_STATUS.REREAD_SEEN).event 0x0C02 1 [a32 chunk, a32 j, a8 check]

/-- The words of a half of the staging SRAM are written with their check bits. -/
def State.stageWritten (s : State) (i : Nat) : State :=
  let here (k : Nat) : Bool := decide ((k - 12 * 2 ^ 36) / 2 ^ 24 = i) && decide (12 * 2 ^ 36 ≤ k)
  let t := s.grpTouch 12
  { t with mem := { t.mem with
      groups := t.mem.groups.filter (fun (e : Nat × Word) => !here e.1),
      checks := t.mem.checks.filter (fun (e : Nat × Nat) => !here e.1),
      poison := t.mem.poison.filter (fun k => !here k) } }

/-- The reads of a chunk in the ring: of every block its header and what that counts. -/
def State.noteChunk (s : State) (base c : Nat) : State :=
  let a := s.blockAddr base 0 c
  ((s.suspects a (4096 * s.blk)).filter (fun w =>
    let b := a + (w - a) / s.blk * s.blk
    decide (w < b + 16 + s.hbmLE b 2))).foldl State.noteWord s

/-- CHUNK_LOAD_DONE (R31, R190 to R193): the half on its way, with its stripe and generation, is in staging; the first one of a stripe
switches the bank. A block that is
bad in the ring fails both reads and halts the stripe; whether some good block takes a transient fault on its first read, and which,
is a free value (log entry 20). -/
def execChunkLoadDone (s00 : State) : Host.Outcome State Fault Refusal :=
  let s0 := s00.kickLehr
  match s0.gaf.active, s0.link.halves.findIdx? (fun h => h.any (fun x => !x.ready)) with
  | some k, some i =>
    match s0.link.halves.getD i none, s0.ringOf k with
    | some h, some r =>
      let (s, use) := s0.itemGate 2 h.stripe h.gen
      if use = false then .next s else
      let (c, s1) := s.free 8
      match s.readChunk k r.base h.chunk 4096 [] with
      | (m, none) =>
        let (v, s2) := s1.free 13
        let s3 := if bit v 12 then (s2.noteChunk r.base h.chunk).reread h.chunk (v % 4096) c else s2.noteChunk r.base h.chunk
        .next { s3.stageWritten i with link := { s3.link with halves := s3.link.halves.set i (some { h with ready := true, codes := m }) } }
      | (_, some j) =>
        let s2 := (s1.noteRead (s.blockAddr r.base j h.chunk) (if s.widePlanes k.gen then 8336 else 4176)).reread h.chunk j c
        .next (({ s2 with link := { s2.link with halves := s2.link.halves.set i none } }).halt 0x0C12 s.openFlash
          [a32 h.chunk, a32 j, a8 c])
    | _, _ => .next s0
  | _, _ => .next s0

/-- CHUNK_SERVE_START (R23, R190): Lehr begins to serve the half of the first flash to send and begins to load the next one. A next
chunk that is not complete halts the stripe at its first flash. -/
def execChunkServeStart (s : State) : Host.Outcome State Fault Refusal :=
  match s.gaf.active, s.link.serve with
  | some k, none =>
    let c := s.lehrNext / 64
    let p := s.partOf k.gen s.lehrNext
    if s.runs LEH_CTL.ENABLE ∧ s.live s.lehrNext ∧ s.lehrNext < s.nf k ∧
        s.link.halves.any (fun h => h.any (fun x => x.ready && decide (x.chunk = c) && decide (x.part = p))) then
      let s1 := ({ s with link := { s.link with serve := some (c, p) } }).put LEH_CHUNK.CHUNK c
      let more := decide (64 * (c + 1) < s.nf k)
      let full := match s.ringOf k with
        | some r => decide (c + 1 < r.done)
        | none => false
      let s2 := if more && !full && !s.on GAF_STATUS.HALTED then s1.halt 0x0C13 (64 * (c + 1)) [a32 (c + 1)] else s1
      if s.widePlanes k.gen ∧ p = 0 then .next (s2.beginLoad k c 1)
      else if more then .next (s2.beginLoad k (c + 1) 0)
      else .next s2
    else .next s
  | _, _ => .next s

/-- The staging half that is being served. -/
def State.servedHalf (s : State) : Option Nat :=
  s.link.halves.findIdx? (fun h => h.any (fun x => x.ready && decide (s.link.serve = some (x.chunk, x.part))))

/-- Whether the half of a flash is being served. -/
def State.serves (s : State) (gen t : Nat) : Bool := decide (s.link.serve = some (t / 64, s.partOf gen t))

/-- The half being served is freed once every lane has sent the first transmission of every plane in it (R194). -/
def State.freeServed (s : State) (k : Stripe) : State :=
  match s.link.serve with
  | none => s
  | some (c, p) =>
    let e := min (halfEnd (s.widePlanes k.gen) c p) (s.nf k)
    if s.link.lanes.all (fun (l : PLane) => decide (e ≤ l.next.1)) then
      { s with link := { s.link with serve := none, halves := s.link.halves.map (fun (h : Option Half) =>
          h.filter (fun x => !(decide (x.chunk = c) && decide (x.part = p)))) } }
    else s

end Sys2Proof.Machine
end

