-- ==== Sys2Proof/Machine/Punty.lean ====
section
/-! DEFINITION. Punty and the blanker link: plane frames, acknowledgements, replays, return lanes, training, PRBS test
(R195 to R228). -/

namespace Sys2Proof.Machine

open Sys2Proof

/-! ## Lane states (R220, R221) -/

def State.laneState (s : State) (l : Nat) : Nat := s.f (PUN_LANE_STATE.STATE l)

def State.setLane (s : State) (l st : Nat) : State := s.put (PUN_LANE_STATE.STATE l) st

/-- A plane lane's data. -/
def State.pln (s : State) (l : Nat) : PLane := s.link.lanes.getD l PLane.reset

def State.modPln (s : State) (l : Nat) (f : PLane → PLane) : State :=
  { s with link := { s.link with lanes := lmod s.link.lanes l f } }

/-- A return lane's data. -/
def State.ret (s : State) (g : Nat) : RLane := s.link.rets.getD g RLane.reset

def State.modRet (s : State) (g : Nat) (f : RLane → RLane) : State :=
  { s with link := { s.link with rets := lmod s.link.rets g f } }

/-- All 64 plane lanes and all 8 return lanes are READY. -/
def State.allReady (s : State) : Bool := (List.range 72).all (fun l => decide (s.laneState l = 5))

/-- The plane lanes of a group. -/
def groupLanes (g : Nat) : List Nat := (List.range 8).map (fun i => 8 * g + i)

/-- A group that no longer trains returns its leave, and a TRAIN whose lanes have all ended is done (R220, R228). -/
def State.settleTrain (s : State) : State :=
  let idle (t : State) (g : Nat) : Bool := (groupLanes g).all (fun l => t.laneState l = 0 || decide (5 ≤ t.laneState l))
  let s1 := (List.range 8).foldl (fun t g => if idle t g && t.askedLeave (.training g) then t.giveLeave (.training g) else t) s
  match s1.link.train with
  | none => s1
  | some mask =>
    let l := (List.range 64).filter (fun l => bit mask l)
    if l.all (fun l => s1.laneState l = 0 || decide (5 ≤ s1.laneState l)) then
      let bad := l.filter (fun l => !decide (s1.laneState l = 5))
      let s2 := (s1.put GAF_TRAIN_FAIL.FAILED (bad.foldl setBit 0)).event 0x0C04 0 [a32 (l.length - bad.length), a32 bad.length]
      ({ s2 with link := { s2.link with train := none } }).pulse 8
    else s1

/-- What a lane has still to replay is dropped. -/
def State.dropReplay (s : State) (l : Nat) : State := s.modPln l (fun q => { q with replay := [], ccDue := false })

/-- A lane leaves READY for DOWN, or goes DOWN out of its training; only the former is journalled (R228). A lane that is DOWN sends
nothing (R221). -/
def State.laneDown (s : State) (l cause : Nat) : State :=
  let st := s.laneState l
  if st = 5 then ((((s.setLane l 0).dropReplay l).flag PUN_STATUS.DOWN_SEEN).event 0x0C03 0 [a8 l, a8 cause])
  else if 2 ≤ st ∧ st ≤ 4 then s.setLane l 0
  else s

/-- The IDLE blocks that a plane lane has sent behind its last block, up to now (R197). -/
def State.idleLine (s : State) (l : Nat) : State :=
  if l < 64 then
    let p := s.pln l
    let idle := cdiv (s.mono100 - p.freeAt) 20
    (s.send (.line l idle [])).modPln l (fun q => { q with freeAt := p.freeAt + 20 * idle, scr := idleRun idle p.scr })
  else s

/-- A lane leaves TEST: the pattern of its generator ends, and IDLE blocks follow from now on (R224). -/
def State.leaveTest (s : State) (l : Nat) : State :=
  (if s.on (PUN_PRBS_CTL.GEN_EN l) then s.send (.patternEnd l) else s).modPln l (fun q => { q with freeAt := s.mono100 })

/-- A lane goes DOWN from whatever state it is in. -/
def State.forceDown (s : State) (l cause : Nat) : State :=
  let st := s.laneState l
  if st = 5 then s.laneDown l cause
  else if st = 7 then (s.leaveTest l).setLane l 0
  else s.setLane l 0

/-- A return lane goes DOWN, and its group's plane lanes with it (R217, R220). -/
def State.retDown (s : State) (g cause : Nat) : State :=
  let s1 := (s.laneDown (64 + g) cause).modRet g (fun r => { r with echo := 0, good := false })
  ((groupLanes g).foldl (fun t l => t.laneDown l 3) s1).settleTrain

/-- The PLL of a group has lost its lock: its return lane and all of its plane lanes go DOWN (R441). -/
def State.groupDown (s : State) (g : Nat) : State :=
  let s1 := (s.forceDown (64 + g) 6).modRet g (fun r => { r with echo := 0, good := false })
  ((groupLanes g).foldl (fun t l => t.forceDown l 3) s1).settleTrain

/-- A training lane ends FAILED; CAUSE shows the state that failed. -/
def State.laneFail (s : State) (l : Nat) : State :=
  ((s.put (PUN_LANE_STATE.CAUSE l) (s.laneState l)).setLane l 6).settleTrain

/-- The lanes of a group that wait for its return lane ask for the group's leave once that lane is READY, and begin to send when
the group holds it (R220, R221). -/
def State.trainAsk (s : State) (g : Nat) : State :=
  if s.laneState (64 + g) = 5 ∧ (groupLanes g).any (fun l => decide (s.laneState l = 1)) then
    if s.holdsLeave (.training g) then
      (groupLanes g).foldl (fun t l => if t.laneState l = 1 then t.setLane l 2 else t) s
    else if s.askedLeave (.training g) then s
    else s.askLeave (.training g) (max 1 (s.f PUN_CTL.TRAIN_LEAVE))
  else s

/-- Leave for a group's training is granted. -/
def State.trainingGranted (s : State) (g : Nat) : State := (s.trainAsk g).settleTrain

/-- The taps of R223. -/
def boardTaps : List (Nat × Nat × Nat) :=
  [(0, 63, 0), (0, 59, 4), (0, 55, 8), (0, 51, 12), (2, 57, 4), (2, 53, 8), (2, 49, 12), (2, 45, 16), (4, 55, 4), (4, 51, 8),
   (4, 47, 12), (4, 43, 16), (6, 49, 8), (6, 45, 12), (6, 41, 16)]

/-- The taps from which a lane starts. -/
def State.presetTaps (s : State) (l : Nat) : Nat × Nat × Nat :=
  let id := s.f (PUN_GROUP_CFG.BOARD_ID (l / 8))
  if id = 15 then (s.f (PUN_TAP.PRE l), s.f (PUN_TAP.MAIN l), s.f (PUN_TAP.POST l)) else boardTaps.getD id (0, 63, 0)

/-- A lane begins to train; a lane in TEST does not (R221, R224). PUN_GROUP_CFG and PUN_TAP act from here on (R223). -/
def State.startLane (s : State) (l : Nat) : State :=
  if s.laneState l = 7 then s
  else
    (((s.setLane l 1).put (PUN_LANE_STATE.AT_LIMIT l) 0).put (PUN_LANE_STATE.CAUSE l) 0).modPln l
      (fun p => { p with
        taps := s.presetTaps l, preset := s.presetTaps l, cable := s.on (PUN_GROUP_CFG.REACH (l / 8)) && bit (s.f SAG_FEATURE.FEATURE) 2,
        tapReqs := 0, applied := 0, verify := 0, out := [], replay := [] })

/-- A TRAIN of a mask of lanes (R220, R286). -/
def State.startTrain (s : State) (mask : Nat) : State :=
  let s1 := { s with link := { s.link with train := some mask } }
  let s2 := ((List.range 64).filter (fun l => bit mask l)).foldl State.startLane s1
  ((List.range 8).foldl State.trainAsk s2).settleTrain

/-! ## Frames (R198 to R202, R222, R226) -/

/-- The words that a lane's keystream XORs into a frame (R226). A slot without a key gives free words. -/
def State.laneStream (s : State) (slot nonce lane flash plane : Nat) : List Word :=
  match s.sage.laneKeys[slot]? with
  | some (some key) =>
    ((List.range 32).map (fun a =>
      let o := aesEnc key (toLE 16 (nonce + lane * 2 ^ 64 + plane * 2 ^ 70 + flash % 2 ^ 24 * 2 ^ 74 + a * 2 ^ 98))
      [BitVec.ofNat 64 (ofLE (o.take 8)), BitVec.ofNat 64 (ofLE (o.drop 8))])).flatten
  | _ => (List.range 64).map (fun i => Config.freeWord (s.freeCount * 2 ^ 36 + i))

/-- Whether the frames of a generation's stripe are encrypted, and with which slot (R225). -/
def State.ksOf (s : State) (gen ftype : Nat) : Bool × Nat :=
  let en := decide (ftype = 0) && decide (s.genF 2 gen PUN_KS_CTL.EN = 1)
  (en, if en then s.genF 2 gen PUN_KS_CTL.SLOT else 0)

/-- The newest entry of a lane's replay buffer for a frame (R212). -/
def PLane.keptOf (p : PLane) (f : FrameSent) : Option (FrameSent × List Word × List Word) :=
  p.kept.reverse.find? (fun x => decide (x.1 = f))

/-- A frame leaves on a lane (R197 to R202, R226): IDLE blocks up to its start, then its 66 blocks, scrambled; its ALIVE, the lane's
time, the unanswered frames and the replay buffer follow. A replay carries the words of the frame that it repeats. -/
def State.sendFrame (s : State) (l gen : Nat) (f : FrameSent) (replay : Bool) (data : List Word) : State :=
  let p := s.pln l
  let (ks, slot) := s.ksOf gen f.ftype
  let m := markerWord l f.ftype f.flash f.plane p.alive f.first replay ks slot
  let fresh := if ks then List.zipWith (fun a b => a ^^^ b) data (s.laneStream slot s.link.nonce l f.flash f.plane) else data
  let words := if replay then ((p.keptOf f).map (fun x => x.2.2)).getD fresh else fresh
  let echo := (s.ret (l / 8)).echo
  let crc := frameCrc m data
  let idle := cdiv (s.mono100 - p.freeAt) 20
  let (blocks, scr) := scrambleBlocks (idleRun idle p.scr) (frameBlocks m words (trailerWord echo crc))
  let s1 := ((s.grpTouch 13).send (.frame l (f.flash % 2 ^ 24) f.plane f.ftype p.alive f.first replay ks slot echo words crc)).send
    (.line l idle blocks)
  { s1.modPln l (fun q => { q with
      alive := (q.alive + 1) % 256, freeAt := p.freeAt + 20 * idle + tau100, out := q.out ++ [f], scr := scr,
      kept := (q.kept ++ [(f, data, words)]).drop (q.kept.length - 3) }) with freeCount := s.freeCount + (if ks then 1 else 0) }

/-- The data blocks of plane k of a flash on a lane, read from staging (R193, R200). -/
def State.planeData (s : State) (l t k : Nat) : List Word :=
  let p := s.act 2 PAR_PLANES.P
  match s.servedHalf with
  | some i => (List.range 64).map (fun w => BitVec.ofNat 64 (s.stagedWord (stagedAddr i p (if p ≤ 8 then t % 64 else t % 32) k l w)))
  | none => List.replicate 64 0

/-- The cell-check request of a check on a lane (R218). -/
def State.requestFrame (s : State) (l : Nat) : State :=
  (s.sendFrame l 0 { flash := 0, plane := 0, ftype := 1, first := false, ver := false } false
    (BitVec.ofNat 64 (1 + s.beam.ccNumber % 256 * 256) :: List.replicate 63 0)).modPln l (fun q => { q with ccDue := false })

/-- A training frame (R222). FLASH and PLANE of frames that carry no plane are 0 (log entry 16). -/
def State.trainFrame (s : State) (l : Nat) : State :=
  let p := s.pln l
  let (w, z) := prbsWords 63 p.prbs
  let b1 := p.taps.1 + p.taps.2.1 * 2 ^ 8 + p.taps.2.2 * 2 ^ 16 + p.applied % 256 * 2 ^ 24 + s.f (PUN_LANE_STATE.AT_LIMIT l) * 2 ^ 32
  (s.sendFrame l 0 { flash := 0, plane := 0, ftype := 2, first := false, ver := decide (s.laneState l = 4) } false
    (BitVec.ofNat 64 b1 :: w)).modPln l (fun q => { q with prbs := z })

/-- The keystream sync frame of a stripe or resume (R227). -/
def State.syncFrame (s : State) (l : Nat) (k : Stripe) : State :=
  let d := BitVec.ofNat 64 s.link.nonce :: BitVec.ofNat 64 (s.genF 2 k.gen PUN_KS_CTL.SLOT) :: List.replicate 62 0
  (s.sendFrame l k.gen { flash := s.mot.t0, plane := 0, ftype := 3, first := false, ver := false } false d).modPln l
    (fun q => { q with sync := false })

/-- Whether the frames of a flash may leave: those of t₀ and t₀ + 1 from the arming, later ones from A(t − 2, 0) (R209). -/
def State.frameDue (s : State) (t : Nat) : Bool := decide (t ≤ s.mot.t0 + 1) || (mget s.mot.a0 (t - 2)).isSome

/-- PLANE_FRAME (R198 to R202, R209, R212, R222): a lane sends its next frame: a training frame while it trains, a cell-check
request that waits, the keystream sync frame, or the next plane of the half being served. -/
def execPlaneFrame (l : Fin 64) (s : State) : Host.Outcome State Fault Refusal :=
  let p := s.pln l
  let st := s.laneState l
  if ¬ s.runs PUN_CTL.ENABLE ∨ 4 ≤ p.out.length ∨ p.replay ≠ [] then .next s
  else if st = 2 ∨ st = 3 ∨ (st = 4 ∧ p.verify + p.out.countP (fun f => f.ver) < 4096) then .next (s.trainFrame l)
  else if st = 5 ∧ p.ccDue ∧ s.f BMP_CC_STATUS.STATE = 1 then .next (s.requestFrame l)
  else match s.gaf.active with
    | none => .next s
    | some k =>
      let (t, n) := p.next
      if st = 5 ∧ s.live t ∧ t < s.nf k ∧ s.frameDue t then
        if p.sync then .next (s.syncFrame l k)
        else if s.serves k.gen t then
          let s1 := s.sendFrame l k.gen { flash := t, plane := n, ftype := 0, first := decide (t = s.mot.t0), ver := false } false
            (s.planeData l t n)
          let nxt := if n + 1 < s.planes k.gen then (t, n + 1) else (t + 1, 0)
          .next ((s1.modPln l (fun q => { q with next := nxt })).freeServed k)
        else .next s
      else .next s

/-! ## Answers (R211 to R214, R216) -/

/-- A frame refused: by a NAK (kind 0) or for want of an answer (kind 1). A cell-check request is replayed until its check ends
(R218). -/
def State.refused (s : State) (l : Nat) (f : FrameSent) (kind : Nat) : State :=
  let again (t : State) : State :=
    (t.event 0x0C01 1 [a8 l, a32 f.flash, a8 f.plane, a8 kind]).modPln l (fun q => { q with replay := q.replay ++ [f] })
  if f.ftype = 2 then (if f.ver && decide (s.laneState l = 4) then s.laneFail l else s)
  else if f.ftype = 1 then (if s.f BMP_CC_STATUS.STATE = 1 then again s else s)
  else match s.gaf.active with
    | none => s
    | some k =>
      if s.live f.flash = false then s
      else match s.commitTime k f.flash with
        | none => again s
        | some c =>
          let left := c - s.now100
          if 2 * tau100 ≤ left then again s
          else s.halt 0x0C10 s.openFlash [a8 l, a32 f.flash, a8 f.plane, s32 (left / 10)]

/-- Whether an answer names a frame. -/
def FrameSent.answers (f : FrameSent) (flash plane ftype : Nat) : Bool :=
  decide (f.flash % 2 ^ 24 = flash) && decide (f.plane = plane) && decide (f.ftype = ftype)

/-- One lane's ACK or NAK bit. -/
def State.answer (s : State) (l flash plane ftype : Nat) (nak : Bool) : State :=
  let p := s.pln l
  let s0 := if nak then s.count PUN_CNT_NAK.COUNT 1 else s
  match p.out.find? (fun f => f.answers flash plane ftype) with
  | none => s0.count PUN_CNT_STRAY.COUNT 1
  | some f =>
    let s1 := s0.modPln l (fun q => { q with out := q.out.eraseP (fun x => x.answers flash plane ftype) })
    if nak then s1.refused l f 0
    else if f.ftype = 0 then
      if s.live f.flash && decide (s.mot.committed ≤ f.flash) then
        let key := f.flash * 16 + f.plane
        { s1 with link := { s1.link with acks := mset s1.link.acks key (setBit (mnat s1.link.acks key) l) } }
      else s1
    else if f.ver && decide (s.laneState l = 4) then
      let s2 := s1.modPln l (fun q => { q with verify := q.verify + 1 })
      if 4096 ≤ p.verify + 1 then (s2.setLane l 5).settleTrain else s2
    else s1

/-- Whether a return lane takes messages: it holds block lock and is not in TEST. -/
def State.listens (s : State) (g : Nat) : Bool :=
  s.runs PUN_CTL.ENABLE && (s.ret g).lock && !decide (s.laneState (64 + g) = 7)

/-- A message is discarded (R192, R215). -/
def State.retBad (s : State) : State := (s.count PUN_CNT_RETBAD.COUNT 1).flag PUN_STATUS.RETBAD_SEEN

/-- The message that four block payloads carry, unless the lane discards it: for its CRC, its MTYPE, or an ALIVE equal to that of the
message before it (R215). That message is the last one taken: a discarded one leaves the comparison as it was (DESIGN CHOICE, log entry
16). -/
def State.readMessage (s : State) (g : Nat) (l : List Nat) : Option RetMsg :=
  match readReturn l with
  | some m => if (s.ret g).alive = some m.alive then none else some m
  | none => none

/-- The bits of an ACK message in the order of its lanes. -/
def State.answers (s : State) (g flash plane ftype ack nak : Nat) : State :=
  (List.range 8).foldl (fun t i =>
    if bit nak i then t.answer (8 * g + i) flash plane ftype true
    else if bit ack i then t.answer (8 * g + i) flash plane ftype false
    else t) s

/-- REPLAY_SEND (R202, R214, R221, R226): a lane that is READY sends a refused frame again as its next frame. -/
def execReplaySend (l : Fin 64) (s : State) : Host.Outcome State Fault Refusal :=
  let p := s.pln l
  match p.replay with
  | [] => .next s
  | f :: r =>
    if ¬ s.runs PUN_CTL.ENABLE ∨ s.laneState l ≠ 5 then .next s else
    let s1 := s.modPln l (fun q => { q with replay := r })
    let gen := (s.gaf.active.map Stripe.gen).getD 0
    if (if f.ftype = 1 then decide (s.f BMP_CC_STATUS.STATE ≠ 1) else !s.live f.flash) then .next s1
    else match p.keptOf f with
      | none => .next s1
      | some (_, data, _) => .next (((s1.count PUN_CNT_REPLAY.COUNT 1).flag PUN_STATUS.REPLAY_SEEN).sendFrame l gen f true data)

/-- ACK_TIMEOUT (R211): the oldest unanswered frame of a lane counts as refused. -/
def execAckTimeout (l : Fin 64) (s : State) : Host.Outcome State Fault Refusal :=
  match (s.pln l).out with
  | [] => .next s
  | f :: r =>
    .next ((((s.modPln l (fun q => { q with out := r })).count PUN_CNT_TMO.COUNT 1).flag PUN_STATUS.TMO_SEEN).refused l f 1)

/-- Lanes that lack an ACK of some plane of a flash. -/
def State.lanesWithout (s : State) (t p : Nat) : Nat :=
  (List.range 64).countP (fun l => (List.range p).any (fun k => !bit (mnat s.link.acks (t * 16 + k)) l))

/-- COMMIT_POINT (R213): the commit point of the next flash passes; every plane must hold an ACK on all lanes. -/
def execCommitPoint (s : State) : Host.Outcome State Fault Refusal :=
  match s.gaf.active with
  | none => .next s
  | some k =>
    let t := s.mot.committed
    let known := if t = s.mot.t0 then (mget s.mot.a0 t).isSome else (mget s.mot.a0 (t - 1)).isSome
    if s.live t ∧ t < s.nf k ∧ known then
      let n := s.lanesWithout t (s.planes k.gen)
      if n = 0 then
        .next { s with
          mot := { s.mot with committed := t + 1 },
          link := { s.link with acks := s.link.acks.filter (fun (e : Nat × Nat) => decide (t < e.1 / 16)) } }
      else .next (s.halt 0x0C11 t [a32 t, a32 n])
    else .next s

/-! ## Return lanes (R203, R217, R220) -/

/-- What a LINK_STATUS tells of a plane lane. -/
def State.lockBit (s : State) (l : Nat) (ok : Bool) : State :=
  let st := s.laneState l
  if st = 5 ∧ ok = false then s.laneDown l 4
  else if st = 2 ∧ ok = true then s.setLane l (if (s.pln l).cable then 3 else 4)
  else s

/-- What a LINK_STATUS does (R220, R221). -/
def State.takeStatus (s : State) (g locked aligned : Nat) : State :=
  let t1 := (s.modRet g (fun r => { r with good := true })).setLane (64 + g) 5
  let t2 := (List.range 8).foldl (fun u i => u.lockBit (8 * g + i) (bit locked i && bit aligned i)) t1
  (t2.trainAsk g).settleTrain

/-- A tap after a request code: 0 hold, 1 increment, 2 decrement, 3 preset (R216); none below 0. -/
def tapStep (code cur preset : Nat) : Option Nat :=
  if code = 0 then some cur else if code = 1 then some (cur + 1) else if code = 2 then (if cur = 0 then none else some (cur - 1))
  else some preset

/-- The taps that a request asks for; none where it would break a limit of R223. -/
def tapRequest (cur preset : Nat × Nat × Nat) (pre main post : Nat) : Option (Nat × Nat × Nat) :=
  match tapStep pre cur.1 preset.1, tapStep main cur.2.1 preset.2.1, tapStep post cur.2.2 preset.2.2 with
  | some a, some b, some c => if a ≤ 15 ∧ 16 ≤ b ∧ b ≤ 63 ∧ c ≤ 31 ∧ a + b + c ≤ 63 then some (a, b, c) else none
  | _, _, _ => none

/-- What a TAP_REQ does (R221, R223). -/
def State.takeTap (t : State) (g l pre main post : Nat) (eqDone : Bool) : State :=
  if l / 8 = g ∧ t.laneState l = 3 then
    let p := t.pln l
    let t1 := match tapRequest p.taps p.preset pre main post with
      | some taps => t.modPln l (fun q => { q with taps := taps, tapReqs := q.tapReqs + 1, applied := q.applied + 1 })
      | none => ((t.flag (PUN_LANE_STATE.AT_LIMIT l)).flag PUN_STATUS.LIMIT_SEEN).modPln l
                  (fun q => { q with tapReqs := q.tapReqs + 1 })
    if eqDone then t1.setLane l 4
    else if 4096 ≤ p.tapReqs + 1 then t1.laneFail l
    else t1
  else t

/-- RETURN_LANE_TIMEOUT (R217): no valid message for 50 µs. -/
def execReturnLaneTimeout (g : Fin 8) (s : State) : Host.Outcome State Fault Refusal :=
  if s.laneState (64 + g) = 5 then .next (s.retDown g 1) else .next s

/-- BLOCK_LOCK_LOSS (R203). -/
def execBlockLockLoss (g : Fin 8) (s : State) : Host.Outcome State Fault Refusal :=
  .next ((s.retDown g 2).modRet g (fun r => { r with lock := false }))

/-- BLOCK_LOCK_ACQUIRE (R203, R220): the lane becomes READY with the next valid LINK_STATUS. -/
def execBlockLockAcquire (g : Fin 8) (s : State) : Host.Outcome State Fault Refusal :=
  if (s.ret g).lock then .next s else .next (s.modRet g (fun r => { r with lock := true, good := false }))

/-- TRAIN_STATE_TIMEOUT (R221): the timeout of WAIT_RET, SEND or EQ. -/
def execTrainStateTimeout (l : Fin 64) (s : State) : Host.Outcome State Fault Refusal :=
  let st := s.laneState l
  if 1 ≤ st ∧ st ≤ 3 then .next (s.laneFail l) else .next s

/-- The highest reading among the sensors that a report marks valid; a free value where none is. -/
def State.hottest (s : State) (valid : Nat) (sensors : List Int) : Int × State :=
  match (List.range 8).filterMap (fun i => if bit valid i then sensors[i]? else none) with
  | [] => let (v, t) := s.free 16; (sgn 16 v, t)
  | a :: l => (l.foldl max a, s)

/-- What a TEMP does: T is formed, and OVT halts the stripe (R154, R217). -/
def State.takeTemp (t : State) (valid : Nat) (ovt : Bool) (sensors : List Int) : State :=
  let t1 := (t.tempReport valid sensors).pulse 9
  if ovt then
    let (h, t2) := t1.hottest valid sensors
    t2.halt 0x0C14 t1.openFlash [a8 valid, a16 h]
  else t1

/-- What a message does, by its MTYPE (R216). A COUNT of CC_RESULT beyond five names five results. -/
def State.takeMessage (t : State) (g : Nat) (m : RetMsg) : State :=
  if m.mtype = 1 then t.answers g (bits m.af 0 24) (bits m.af 24 4) (bits m.af 28 2) (bits m.body 0 8) (bits m.body 8 8)
  else if m.mtype = 2 then
    t.takeTemp (bits m.af 0 8) (bit m.af 8) ((List.range 8).map (fun n => sgn 16 (bits m.body (16 * n) 16)))
  else if m.mtype = 3 then
    t.cellResults g ((List.range (min 5 (bits m.af 18 3))).map (fun n => (bits m.body (24 * n) 12, bits m.body (24 * n + 12) 12))) (bits m.af 0 18)
  else if m.mtype = 4 then t.takeTap g (bits m.af 0 6) (bits m.af 6 2) (bits m.af 8 2) (bits m.af 10 2) (bit m.af 12)
  else t.takeStatus g (bits m.af 0 8) (bits m.af 8 8)

/-- The payloads of four blocks arrive on a return lane. -/
def State.receive (s : State) (g : Nat) (l : List Nat) : State :=
  if s.listens g = false ∨ isReturn l = false then s
  else match s.readMessage g l with
    | none => s.retBad
    | some m => (s.modRet g (fun r => { r with alive := some m.alive, echo := m.alive })).takeMessage g m

/-- ACK (R211, R214 to R216): the message of these fields arrives on return lane g. -/
def execAck (g : Fin 8) (alive flash plane ftype ack nak : Nat) (s : State) : Host.Outcome State Fault Refusal :=
  .next (s.receive g (ackMsg alive flash plane ftype ack nak).blocks)

/-- LINK_STATUS (R215, R216, R220, R221). -/
def execLinkStatus (g : Fin 8) (alive locked aligned : Nat) (s : State) : Host.Outcome State Fault Refusal :=
  .next (s.receive g (statusMsg alive locked aligned).blocks)

/-- TAP_REQ (R215, R216, R221, R223). -/
def execTapReq (g : Fin 8) (alive : Nat) (lane : Fin 64) (pre main post : Nat) (eqDone : Bool) (s : State) :
    Host.Outcome State Fault Refusal :=
  .next (s.receive g (tapMsg alive lane pre main post eqDone).blocks)

/-- TEMP (R154, R215 to R217): a temperature report; OVT halts the stripe. -/
def execTempReport (g : Fin 8) (alive valid : Nat) (ovt : Bool) (sensors : List Int) (s : State) :
    Host.Outcome State Fault Refusal :=
  .next (s.receive g (tempMsg alive valid ovt sensors).blocks)

/-- CC_RESULT (R215, R216, R219): the results of 1 to 5 consecutive beams of one sector. -/
def execCcResult (g : Fin 8) (alive first : Nat) (results : List (Nat × Nat)) (s : State) : Host.Outcome State Fault Refusal :=
  if results.isEmpty ∨ 5 < results.length then .fault (.illFormed "CC_RESULT")
  else .next (s.receive g (ccMsg alive first results).blocks)

/-- RETURN_MESSAGE_DISCARD (R192, R215): of a return lane, the payloads of a message that the lane discards; a message that it takes is another command. -/
def execReturnMessageDiscard (m : Fin 8 × List Word) (s : State) : Host.Outcome State Fault Refusal :=
  let l := m.2.map BitVec.toNat
  if s.listens m.1 ∧ isReturn l ∧ s.readMessage m.1 l = none then .next s.retBad else .next s

/-- The request leaves on a lane, or waits while four of the lane's frames are unanswered or a replay is due (R212). A lane that is not
READY sends none. -/
def State.requestOn (s : State) (l : Nat) : State :=
  let p := s.pln l
  if s.laneState l ≠ 5 then s
  else if 4 ≤ p.out.length ∨ p.replay ≠ [] then s.modPln l (fun q => { q with ccDue := true })
  else s.requestFrame l

/-- CELL_CHECK_REQUEST (R163, R218): the result table has been cleared and the request leaves on the plane lanes. -/
def execCellCheckRequest (s : State) : Host.Outcome State Fault Refusal :=
  if s.f BMP_CC_STATUS.STATE = 1 ∧ s.beam.ccSent = false then
    let s1 := s.hbmClear (s.resAddr 0) (2 * mib)
    let s2 := (List.range 64).foldl State.requestOn s1
    .next { s2 with beam := { s2.beam with ccSent := true } }
  else .next s

/-! ## PRBS test (R224) -/

/-- Whether a write of PUN_PRBS_CTL puts the lane into TEST. -/
def testOn (v : Nat) : Bool := bit v 0 || bit v 1

/-- A bit error that a lane's synchronised checker counts. -/
def State.prbsError (s : State) (l : Nat) : State :=
  if s.on (PUN_PRBS_CTL.CHK_EN l) ∧ s.on (PUN_PRBS_CTL.SYNC l) then s.count (PUN_PRBS_ERR.COUNT l) 1 else s

/-- The lane's own generator flips one bit; its checker sees it through the internal loopback. -/
def State.flipBit (s : State) (l : Nat) : State :=
  if s.laneState l = 7 ∧ s.on (PUN_PRBS_CTL.GEN_EN l) then
    let t := s.send (.patternFlip l)
    if s.on (PUN_PRBS_CTL.LOOP l) then t.prbsError l else t
  else s

/-- Whether a lane's checker sees a pattern: its own generator's through the loopback, and without it only a return lane, which sees the
blanker's. -/
def State.checkerFed (s : State) (l : Nat) : Bool :=
  if s.on (PUN_PRBS_CTL.LOOP l) then s.on (PUN_PRBS_CTL.GEN_EN l) else decide (64 ≤ l)

/-- The generator of a lane in TEST starts: the raw line carries the pattern, uncoded, from the all-ones state (log entry 51). -/
def State.startPattern (s : State) (l : Nat) : State :=
  let p := s.f (PUN_PRBS_CTL.PATTERN l)
  s.send (.pattern l p (2 ^ (patternTaps p).1 - 1))

/-- PUN_PRBS_CTL written: the test fields, TEST entered or left, and the injected error. A write that would enter TEST while a
stripe is flashing is ignored. -/
def State.prbsWrite (s : State) (l v : Nat) : State :=
  let on := decide (s.laneState l = 7)
  if testOn v && !on && s.mot.flashing then s
  else
    let s1 := ((((s.put (PUN_PRBS_CTL.GEN_EN l) (bits v 0 1)).put (PUN_PRBS_CTL.CHK_EN l) (bits v 1 1)).put
      (PUN_PRBS_CTL.PATTERN l) (bits v 2 2)).put (PUN_PRBS_CTL.LOOP l) (bits v 4 1)).put (PUN_PRBS_CTL.RATE l) (bits v 8 8)
    let same := decide (s.f (PUN_PRBS_CTL.PATTERN l) = bits v 2 2) && decide (s.f (PUN_PRBS_CTL.CHK_EN l) = bits v 1 1) &&
      decide (s.f (PUN_PRBS_CTL.LOOP l) = bits v 4 1)
    let s2 := if same then s1 else s1.put (PUN_PRBS_CTL.SYNC l) 0
    let newPattern := bit v 0 && (!on || !s.on (PUN_PRBS_CTL.GEN_EN l) || !decide (s.f (PUN_PRBS_CTL.PATTERN l) = bits v 2 2))
    let ends := on && s.on (PUN_PRBS_CTL.GEN_EN l) && (!bit v 0 || newPattern)
    let s3 := if testOn v && !on then
        (((if l < 64 then s2.laneDown l 5 else s2.retDown (l - 64) 5).idleLine l).setLane l 7).settleTrain
      else
        let t := if ends then s2.send (.patternEnd l) else s2
        if !testOn v && on then (t.setLane l 0).modPln l (fun q => { q with freeAt := s.mono100 }) else t
    let s4 := if newPattern then s3.startPattern l else s3
    if bit v 5 then s4.flipBit l else s4

/-- PRBS_TEST_ENTER (R224). -/
def execPrbsTestEnter (l : Fin 72) (v : Word) (s : State) : Host.Outcome State Fault Refusal :=
  if testOn v.toNat then .next (s.prbsWrite l v.toNat) else .next s

/-- PRBS_INJ (R224). -/
def execPrbsInj (l : Fin 72) (v : Word) (s : State) : Host.Outcome State Fault Refusal :=
  if bit v.toNat 5 then .next (s.prbsWrite l v.toNat) else .next s

/-- PRBS_CHECKER_SYNC (R224): 64 error-free bits; the error count runs from here. -/
def execPrbsCheckerSync (l : Fin 72) (s : State) : Host.Outcome State Fault Refusal :=
  if s.laneState l = 7 ∧ s.on (PUN_PRBS_CTL.CHK_EN l) ∧ s.checkerFed l ∧ ¬ s.on (PUN_PRBS_CTL.SYNC l) then
    .next ((s.flag (PUN_PRBS_CTL.SYNC l)).put (PUN_PRBS_ERR.COUNT l) 0)
  else .next s

/-- PRBS_BIT_ERROR (R224): an error on the line. -/
def execPrbsBitError (l : Fin 72) (s : State) : Host.Outcome State Fault Refusal :=
  if s.laneState l = 7 ∧ s.checkerFed l then .next (s.prbsError l) else .next s

/-- PRBS_RATE_ERROR (R224): RATE × 2²⁰ bits have passed and the generator flips one. -/
def execPrbsRateError (l : Fin 72) (s : State) : Host.Outcome State Fault Refusal :=
  if s.laneState l = 7 ∧ s.f (PUN_PRBS_CTL.RATE l) ≠ 0 then .next (s.flipBit l) else .next s

end Sys2Proof.Machine
end

