-- ==== Sys2Proof/Machine/Motion.lean ====
section
/-! DEFINITION. The motion unit and flash sequencer: go, the phases of a stripe, arming, strobes, pacing, setpoint frames and the
servo's return (R253 to R267, R289). A command that tells that a time has come is taken at its word (log entry 2). -/

namespace Sys2Proof.Machine

open Sys2Proof

/-- Whether a class 4 event has registered: the motion unit stays halted (R426). -/
def State.safeNow (s : State) : Bool := s.on EVJ_STATUS.SAFE || s.journal.safePending.isSome

/-! ## The plan of a stripe (R254 to R257) -/

/-- Where a track ends. -/
def Track.final (k : Track) : Rat := k.p0 + segsDist k.segs

/-- A track taken in direction σ from segments of positive speed, with the speed kept after them. -/
def Stripe.track (k : Stripe) (p : Rat) (l : List Seg) (vEnd : Rat) : Track :=
  if k.neg then ⟨p, negSegs l, -vEnd⟩ else ⟨p, l, vEnd⟩

/-- The run-in and its settle (R255). -/
def State.runIn (s : State) : List Seg :=
  changeSegs (s.prof 0) s.vcG s.vkG (s.prof 4) (s.prof 5) ++ (if s.vcG ≤ 0 then [] else [⟨s.prof 6 / s.vcG, s.vcG, 0⟩])

/-- X_in of a stripe for a first flash (R255). -/
def State.xIn (s : State) (k : Stripe) (t0 : Nat) : Rat :=
  (k.flashPoint t0 : Rat) / 65536 - (k.sigma : Rat) * segsDist s.runIn

/-- A move of both axes from rest to X_in and YS (R256 phase 1). -/
def State.positioning (s : State) (k : Stripe) (t0 : Nat) : Plan :=
  let move (p d : Rat) : Track := ⟨p, moveSegs d s.vcG s.vkG (s.prof 4) (s.prof 5), 0⟩
  let x := s.mot.plan.x.final
  let y := s.mot.plan.y.final
  { t0 := s.now100, x := move x (s.xIn k t0 - x), y := move y ((k.yax : Rat) / 65536 - y) }

/-- Settle and run-out at a speed: on at it over SETTLE, then down to VSTOP (R255). -/
def State.runOut (s : State) (v : Rat) : List Seg :=
  (if v ≤ 0 then [] else [⟨s.prof 6 / v, v, 0⟩]) ++ changeSegs v (min v (s.prof 3)) s.vkG (s.prof 4) (s.prof 5)

/-- The flashing distance that lies ahead of a planned X position, to the last flash point (R255). -/
def State.flashAhead (s : State) (k : Stripe) (x : Rat) : Rat := (k.sigma : Rat) * ((k.flashPoint (s.nf k - 1) : Rat) / 65536 - x)

/-- The rest of a stripe's motion from a speed, a distance before its last flash point: a change of speed to the target, cruise at it up
to that point, settle and run-out at the speed reached there (R255, R258). -/
def State.flashSegs (s : State) (v goal d : Rat) : List Seg :=
  let l := changeSegs v goal s.vkG (s.prof 4) (s.prof 5)
  if segsDist l ≤ d then l ++ (if goal ≤ 0 then [] else [⟨(d - segsDist l) / goal, goal, 0⟩]) ++ s.runOut goal
  else
    let (c, w) := cutSegs l d v
    c ++ s.runOut w

/-- The X axis takes up a new speed from where the plan stands (R258, R259). -/
def State.replan (s : State) (k : Stripe) (target : Nat) : Plan :=
  let ((xp, xv, _), (yp, _, _)) := s.planAt s.now100
  { t0 := s.now100, y := Track.rest yp,
    x := k.track xp (s.flashSegs ((k.sigma : Rat) * xv) ((target * 64 : Nat) : Rat) (s.flashAhead k xp)) 0 }

/-- The motion of a stripe from the beginning of its run-in (R255). -/
def State.stripePlan (s : State) (k : Stripe) : Plan :=
  { t0 := s.now100, y := Track.rest ((k.yax : Rat) / 65536),
    x := k.track (s.xIn k s.mot.t0) (s.runIn ++ s.flashSegs s.vcG s.vcG (s.flashAhead k ((k.flashPoint s.mot.t0 : Rat) / 65536))) 0 }

/-- Whether the plan has come to its closing settle (R258). -/
def State.closing (s : State) (k : Stripe) : Bool := decide (s.flashAhead k (s.planAt s.now100).1.1 ≤ 0)

/-! ## Go (R254, R256, R289) -/

/-- A profile parameter as its register holds it. -/
def State.profReg (s : State) (i : Nat) : Nat := s.f (MOT_PROF.VALUE i)

/-- The index that PROFILE_INVALID reports, if a condition of R254 fails. -/
def State.profBad (s : State) : Option Nat :=
  if s.profReg 1 < s.profReg 0 then some 0
  else if s.profReg 1 < s.profReg 3 then some 3
  else if s.profReg 7 = 0 then some 7
  else if s.profReg 2 < s.profReg 7 then some 7
  else if s.profReg 4 = 0 then some 4
  else if s.profReg 5 = 0 then some 5
  else none

/-- cap = rne(0.97 × f_max), f_max = min(1,000,000, 10¹⁰ / T_F) (R254). -/
def State.cruiseCap (s : State) (gen : Nat) : Nat :=
  if s.flashTime gen ≤ 10000 then 970000 else (rne 9700000000 (s.flashTime gen)).toNat

/-- The queued stripe becomes ACTIVE: the profile is latched and positioning starts. FLS_XF0, FLS_YS and FLS_CTL.DIR show the stripe from
here on and stay as they are at its preparation (R253 gives no moment; DESIGN CHOICE, log entry 55). -/
def State.activate (s : State) (k : Stripe) : State :=
  let cap := s.cruiseCap k.gen
  let vc := min (s.profReg 2) cap
  let s1 := ((((s.put FLS_CTL.DIR (b2n k.neg)).puts FLS_XF0.XF0 k.xf0).puts FLS_YS.YS k.yax).put MOT_STATUS.CAPPED
    (b2n (decide (cap < s.profReg 2)))).put MOT_STATUS.PACED 0
  let s2 := (s1.put MOT_VPLAN.V vc).put MOT_STATUS.STATE 1
  let s3 := { s2 with
    gaf := { s2.gaf with active := some k, queued := none, resumeOk := false, ending := false },
    mot := { s2.mot with
      prof := (List.range 8).map s.profReg, vc := vc, t0 := 0, leadOver := false, armed := false, begun := false, badNonce := false,
      flashing := false, next := 0, a0 := [], committed := 0, struck := (0, 0), warned := false },
    link := { s2.link with halves := [none, none], serve := none, acks := [] } }
  let s4 := { s3 with mot := s3.mot.setPlan (s3.positioning k 0) }
  ((s4.modCtx k.ctx (fun c => { c with lastAct := k.num })).tellStripe k.num 3).kickLehr

/-- Whether the device exposes a column: a manager without workers does; one with workers, a standby and a device that joins do not
(R4, R331). A manager is taken to have workers once a member record is not absent, present or lost: one to which no worker has reported yet
still exposes (DESIGN CHOICE, log entry 29). -/
def State.exposes (s : State) : Bool :=
  let c := s.f CLU_STATUS.STATE
  decide (c ≤ 1) || (decide (c = 4) && s.clu.members.all (fun r => decide (r.state = 0)))

/-- STRIPE_ACTIVATE (R4, R254, R256, R289). -/
def execStripeActivate (s : State) : Host.Outcome State Fault Refusal :=
  match s.gaf.queued, s.gaf.active with
  | some k, none =>
    if ¬ s.on MOT_CTL.ENABLE ∨ s.safeNow ∨ s.exposes = false then .next s
    else match s.profBad with
      | some i => .next (s.jobFault k.ctx 0x0E20 false [a32 k.num, a8 i])
      | none => .next (s.activate k)
  | _, _ => .next s

/-- POSITIONING_DONE (R256). -/
def execPositioningDone (s : State) : Host.Outcome State Fault Refusal :=
  if s.f MOT_STATUS.STATE = 1 then .next (s.put MOT_STATUS.STATE 2) else .next s

/-- RUN_IN_START (R23, R256): the lead wait is over. -/
def execRunInStart (s : State) : Host.Outcome State Fault Refusal :=
  match s.gaf.active with
  | some k =>
    if s.f MOT_STATUS.STATE = 2 ∧ (s.f MOT_LEAD_CFG.START : Int) ≤ s.lambda then
      .next { s.put MOT_STATUS.STATE 3 with mot := { s.mot.setPlan (s.stripePlan k) with leadOver := true } }
    else .next s
  | none => .next s

/-! ## Arming (R209, R227, R265) -/

/-- The minimum time ahead of A(t₀, 0), in 100 ps: (P + 2) × 132.0 + 142 ns. -/
def State.armMin (s : State) (k : Stripe) : Int := (s.planes k.gen + 2) * 1320 + 1420

/-- How far ahead the predicted A(t₀, 0) lies, in 100 ps. -/
def State.armAhead (s : State) (k : Stripe) : Option Int := (s.predict k s.mot.t0).map (fun a => a - s.now100)

/-- Whether the sequencer watches for an arming: the lead wait is over, t₀ is not armed and no class 4 event has registered (R426). -/
def State.watching (s : State) : Bool := s.mot.leadOver && !s.mot.armed && !s.on GAF_STATUS.HALTED && !s.safeNow

/-- ARM_LATE, when the prediction lies less than the minimum ahead (R265). -/
def State.watchArm (s : State) : State :=
  match s.gaf.active with
  | some k =>
    if s.watching then
      match s.armAhead k with
      | some d => if d < s.armMin k then s.halt 0x0E13 s.mot.t0 [a32 s.mot.t0, s32 (d / 10)] else s
      | none => s
    else s
  | none => s

/-- Whether the chunk of t₀ is complete, and the one after it unless t₀ lies in the last chunk. -/
def State.chunksReady (s : State) (k : Stripe) : Bool :=
  match s.ringOf k with
  | some r =>
    let c := s.mot.t0 / 64
    decide (c < r.done) && (decide (s.nf k ≤ 64 * (c + 1)) || decide (c + 1 < r.done))
  | none => false

/-- The conditions of R265. -/
def State.mayArm (s : State) (k : Stripe) : Bool :=
  s.watching && s.exposes && s.allReady && s.chunksReady k && !s.slow k &&
    (match s.armAhead k with
     | some d => decide (d ≤ max (s.armMin k) (s.f FLS_ARM.LEAD * 100 : Nat))
     | none => false)

/-- Stripes armed under a generation so far. -/
def State.startedIn (s : State) (gen : Nat) : Nat := if s.root.started.1 = gen then s.root.started.2 else 0

/-- The effective nonce of a stripe: its own on a resume, else PUN_KS_NONCE + n (R227). -/
def State.nonceOf (s : State) (k : Stripe) : Nat :=
  if s.mot.begun then s.link.nonce else (s.genF 2 k.gen PUN_KS_NONCE.NONCE + s.startedIn k.gen) % 2 ^ 64

/-- Whether a new stripe's nonce does not exceed the last one of its slot. -/
def State.nonceBad (s : State) (k : Stripe) : Bool :=
  !s.mot.begun && decide (s.genF 2 k.gen PUN_KS_CTL.EN = 1) &&
    (match s.link.nonces.getD (s.genF 2 k.gen PUN_KS_CTL.SLOT) none with
     | some l => decide (s.nonceOf k ≤ l)
     | none => false)

/-- t₀ is armed: the frames of t₀ and t₀ + 1 are released, behind a keystream sync frame where the stripe is encrypted. -/
def State.arm (s : State) (k : Stripe) : State :=
  let en := decide (s.genF 2 k.gen PUN_KS_CTL.EN = 1)
  let n := s.nonceOf k
  let t := s.mot.t0
  let s1 := { s with
    gaf := { s.gaf with resumeOk := false },
    root := { s.root with started := if s.mot.begun then s.root.started else (k.gen, s.startedIn k.gen + 1) },
    link := { s.link with
      nonce := n, acks := [],
      nonces := if en then s.link.nonces.set (s.genF 2 k.gen PUN_KS_CTL.SLOT) (some n) else s.link.nonces,
      lanes := s.link.lanes.map (fun (p : PLane) => { p with next := (t, 0), sync := en, out := [], replay := [] }) },
    mot := { s.mot with armed := true, begun := true, flashing := true, next := t, committed := t, struck := (t, 0), a0 := [], colMark := s.par.total } }
  ((s1.put MOT_STATUS.STATE 4).pulse 0).kickLehr

/-- The stripe is armed, unless its nonce does not exceed the last one of its slot (R227). -/
def State.armChecked (s : State) (k : Stripe) : State :=
  if s.nonceBad k then
    if s.mot.badNonce then s
    else { s with mot := { s.mot with badNonce := true } }.jobFault k.ctx 0x0C20 false
      [a32 k.num, a8 (s.genF 2 k.gen PUN_KS_CTL.SLOT), a32 (s.nonceOf k % 2 ^ 32)]
  else s.arm k

/-- T0_ARM (R31, R227, R265): with the first flash of a stripe the sequencer takes up its generation. -/
def execT0Arm (s : State) : Host.Outcome State Fault Refusal :=
  let s0 := s.watchArm
  match s0.gaf.active with
  | some k =>
    if s0.mayArm k then
      let (g, use) := s0.itemGate 3 k.num k.gen
      .next (if use then g.armChecked k else g)
    else .next s0
  | none => .next s0

/-! ## Strobes (R206, R207, R263, R264, R266, R267) -/

/-- The record of a flash on DL0. DT is A(t, 0) less the record's first bit. -/
def State.deflect (s : State) (k : Stripe) (t a lock : Nat) : State :=
  if s.on FLS_CTL.DL_EN then
    let (px, vx) := s.axisAt 0 a
    let (py, vy) := s.axisAt 1 a
    let ex := rneQ (px * 65536 - k.flashPoint t)
    let ey := rneQ (py * 65536 - k.yax)
    s.dlSend ((s.mono100 : Int) + lock - s.now100).toNat (fun start =>
      deflectBlocks t s.mot.dlAlive (decide (t = s.mot.t0)) false (a - s.timeAt start) ex ey (rneQ vx) (rneQ vy))
  else s

/-- A write to FLS_CTL: DL0 runs from the write that enables it. -/
def State.flsCtlWrite (s : State) (v : Nat) : State :=
  let s1 := s.put FLS_CTL.DL_EN (bits v 1 1)
  if bit v 1 && !s.on FLS_CTL.DL_EN then { s1 with mot := { s1.mot with dlFree := s.mono100 } } else s1

/-- A(t, 0) of a flash is fixed; the last four are kept. -/
def State.fixFlash (s : State) (k : Stripe) (t a lock : Nat) : State :=
  let s1 := ({ s with mot := { s.mot with
      next := t + 1, a0 := (mset s.mot.a0 t a).filter (fun (e : Nat × Nat) => decide (t < e.1 + 4)) } }.put FLS_FLASH.T t).put FLS_A0.A0 a
  s1.deflect k t a lock

/-- A flash whose interval is short of T_min / 0.98 is counted, and the first of the stripe journalled (R264). -/
def State.warnSpeed (s : State) (k : Stripe) (t interval : Nat) : State :=
  if 98 * interval < 100 * s.tMin k.gen then
    let s1 := (s.count FLS_CNT_WARN.COUNT 1).flag MOT_STATUS.WARN_SEEN
    if s.mot.warned then s1
    else { s1.event 0x0E01 0 [a32 k.num, a32 t, a32 interval] with mot := { s1.mot with warned := true } }
  else s

/-- Whether the first flash is predicted further ahead than 2τ: its lock instant has not come (R263). -/
def State.lockFar (s : State) (k : Stripe) (t : Nat) : Bool :=
  decide (t = s.mot.t0) && (s.predict k t).any (fun a => decide ((s.now100 : Int) + 2 * tau100 < a))

/-- STROBE_LOCK (R263, R264, R267): A(t, 0) of the next flash is fixed from its prediction, or the stripe halts at it. -/
def execStrobeLock (s : State) : Host.Outcome State Fault Refusal :=
  match s.gaf.active with
  | none => .next s
  | some k =>
    let t := s.mot.next
    if s.live t = false ∨ s.nf k ≤ t then .next s
    else
      let stall := s.halt 0x0E11 t [a32 t, s32 (s.vsPx k)]
      if s.lockFar k t then .next s
      else if s.slow k then .next stall
      else match s.predict k t with
        | none => .next stall
        | some a =>
          if t = s.mot.t0 then .next (s.fixFlash k t a.toNat s.now100)
          else match mget s.mot.a0 (t - 1) with
            | none => .next s
            | some p =>
              if a < (p : Int) + s.tMin k.gen then .next (s.halt 0x0E10 t [a32 t, s32 (a - p)])
              else .next ((s.warnSpeed k t (a.toNat - p)).fixFlash k t a.toNat (p + s.slotsTo k.gen (s.planes k.gen - 1)))

/-- The last flash of the stripe is complete: the stripe is no longer flashing, and the plan's settle and run-out go on. -/
def State.endFlashing (s : State) : State :=
  let s1 := s.pulse 1
  if s.on GAF_STATUS.HALTED ∨ s.safeNow then s1
  else { s1.put MOT_STATUS.STATE 5 with mot := { s1.mot with flashing := false } }

/-- PLANE_STROBE (R206, R207): the pulse of the next plane of a flash whose commit point has passed. -/
def execPlaneStrobe (s : State) : Host.Outcome State Fault Refusal :=
  match s.gaf.active with
  | none => .next s
  | some k =>
    let (t, n) := s.mot.struck
    match mget s.mot.a0 t with
    | none => .next s
    | some a =>
      if s.live t ∧ t < s.mot.committed ∧ t < s.nf k then
        let s1 := s.send (.strobe t n (a + s.slotsTo k.gen n) (s.strobeWidth k.gen n) (decide (s.genF 3 k.gen FLS_STB_CTL.MIRROR_EN = 1)))
        let nxt := if n + 1 < s.planes k.gen then (t, n + 1) else (t + 1, 0)
        let s2 := { s1 with mot := { s1.mot with struck := nxt } }
        .next (if nxt = (s.nf k, 0) then s2.endFlashing else s2)
      else .next s

/-! ## The end of a stripe (R256, R289, R297, R298) -/

/-- A stripe becomes DONE and the motion unit idle. -/
def State.stripeDone (s : State) (k : Stripe) : State :=
  let e := if s.gaf.ending then 6 else 5
  let s1 := (s.put MOT_STATUS.STATE 0).modCtx k.ctx (fun c => { c with lastDone := some k.num })
  let s2 := { s1 with gaf := { s1.gaf with active := none, resumeOk := false, ending := false, last := (k.num, e) },
                      mot := { s1.mot with flashing := false, armed := false, leadOver := false },
                      link := { s1.link with halves := [none, none], serve := none } }
  (s2.pulse 2).tellStripe k.num e

/-- RUNOUT_DONE (R256, R289, R298): the run-out is over, or an abandoned stripe's stage is at rest. -/
def execRunoutDone (s : State) : Host.Outcome State Fault Refusal :=
  match s.gaf.active with
  | some k =>
    if ¬ s.safeNow ∧ (s.f MOT_STATUS.STATE = 5 ∨ s.gaf.ending) then .next (s.stripeDone k) else .next s
  | none => .next s

/-- REST_REACHED (R257, R297): an accepted RESUME takes effect at rest; with no flash left to write the stripe is DONE. -/
def execRestReached (s : State) : Host.Outcome State Fault Refusal :=
  match s.gaf.active with
  | some k =>
    if s.f MOT_STATUS.STATE = 6 ∧ s.gaf.resumeOk ∧ ¬ s.on GAF_STATUS.HALTED ∧ ¬ s.safeNow then
      let t := s.mot.t0
      if s.nf k ≤ t then .next (s.stripeDone k)
      else
        let s1 := ((s.put MOT_STATUS.STATE 1).put MOT_VPLAN.V s.mot.vc).put MOT_STATUS.PACED 0
        let s2 := { s1 with mot := { s1.mot.setPlan (s1.positioning k t) with leadOver := false, armed := false } }
        .next s2.kickLehr
    else .next s
  | none => .next s

/-! ## Pacing (R258, R259) -/

/-- The target that R258 forms from the columns completed in an interval of INTERVAL × 0.1 ms. -/
def State.paceTarget (s : State) : Nat :=
  let cols : Int := s.par.total - s.mot.colMark
  let n := (rne (cols * 10000 * s.f MOT_PACE_CFG.FACTOR) (max 1 (s.f MOT_PACE_CFG.INTERVAL) * 4096 : Nat)).toNat
  max (s.mot.prof.getD 7 0) (min (s.f MOT_VPLAN.V) n)

/-- PACE_EVAL (R258, R259). -/
def execPaceEval (s : State) : Host.Outcome State Fault Refusal :=
  match s.gaf.active with
  | some k =>
    if s.mot.flashing ∧ s.f MOT_STATUS.STATE = 4 ∧ s.closing k = false then
      let v := s.paceTarget
      let s0 := { s with mot := { s.mot with colMark := s.par.total } }
      if s.lambda < (s.f MOT_LEAD_CFG.PACE : Int) ∧ v < s.f MOT_VPLAN.V then
        let s1 := (((s0.put MOT_VPLAN.V v).put MOT_STATUS.PACED 1).flag MOT_STATUS.PACE_SEEN).event 0x0E02 0
          [a32 k.num, a32 v, s32 s.lambda]
        .next ({ s1 with mot := s1.mot.setPlan (s.replan k v) }.pulse 10)
      else if (s.f MOT_LEAD_CFG.START : Int) ≤ s.lambda ∧ s.f MOT_VPLAN.V < s.mot.vc then
        let s1 := (s0.put MOT_VPLAN.V s.mot.vc).put MOT_STATUS.PACED 0
        .next { s1 with mot := s1.mot.setPlan (s.replan k s.mot.vc) }
      else .next s0
    else .next s
  | none => .next s

/-! ## Setpoint ports (R260 to R262) -/

def spEn (p : Nat) : Fld := if p = 0 then MOT_CTL.SP0_EN else MOT_CTL.SP1_EN
def retEn (p : Nat) : Fld := if p = 0 then MOT_CTL.RET0_EN else MOT_CTL.RET1_EN

/-- Whether the returns of a port are checked. -/
def State.checksPort (s : State) (p : Nat) : Bool := s.on (spEn p) && s.on (retEn p)

/-- The start of the frame: the multiple of 20,000 ns not after now. -/
def State.frameStart (s : State) : Nat := s.now / 20000 * 20000

/-- The setpoint frame (R261) for a stripe number. -/
def State.setpointBytes (s : State) (stripe : Nat) : List Byte :=
  let t := s.frameStart + s.f MOT_SP_CFG.AHEAD * 1000
  let ((xp, xv, xa), (yp, yv, ya)) := s.planAt (t * 10)
  let x := rneQ (xp * 65536)
  let y := rneQ (yp * 65536)
  let w (n : Nat) (i : Int) : List Byte := toLE n (ofInt (8 * n) i)
  let b := w 1 0xA5 ++ w 1 (if s.planMoving (t * 10) then 1 else 2) ++ toLE 2 s.mot.spSeq ++ toLE 4 (t % 2 ^ 32) ++
    w 4 (x / 65536) ++ w 4 (y / 65536) ++ w 2 (x % 65536) ++ w 2 (y % 65536) ++ w 4 (rneQ xv) ++ w 4 (rneQ yv) ++
    w 4 (rneQ (xa / 16)) ++ w 4 (rneQ (ya / 16)) ++
    toLE 2 (s.f MOT_STATUS.STATE + 8 * s.f MOT_STATUS.PACED) ++ toLE 2 (stripe % 65536)
  b ++ toLE 4 (crc32c b)

/-- SERVO_FAULT of a port: class 2 while a stripe is flashing, else class 0. Its SEQ lag is a free value while no valid return has
arrived. -/
def State.servoFault (s : State) (p missed : Nat) : State :=
  let sent := (s.mot.spSeq + 65535) % 65536
  let (lag, s1) := match s.mot.retSeq.getD p none with
    | some e => ((sent + 65536 - e) % 65536, s)
    | none => s.free 16
  let args := [a8 p, a8 (s.mot.retStat.getD p 0), a32 missed, a32 lag]
  let s2 := s1.flag MOT_STATUS.SERVO_SEEN
  if s.mot.flashing then s2.halt 0x0E12 s.openFlash args else s2.event 0x0E12 0 args

/-- A frame leaves on a port; the third frame in a row without a valid return before it raises SERVO_FAULT, and so each third after
it. -/
def State.sendSetpoint (s : State) (b : List Byte) (p : Nat) : State :=
  if s.on (spEn p) then
    let s1 := s.send (.setpoint p b)
    if s.on (retEn p) then
      let m := s.mot.retMiss.getD p 0
      let s2 := if 0 < m ∧ m % 3 = 0 then s1.servoFault p m else s1
      { s2 with mot := { s2.mot with retMiss := s2.mot.retMiss.set p (m + 1) } }
    else s1
  else s

/-- SETPOINT_FRAME (R260 to R262). While no stripe is ACTIVE, the frame's stripe number is a free value. -/
def execSetpointFrame (s0 : State) : Host.Outcome State Fault Refusal :=
  if s0.on MOT_CTL.ENABLE then
    let (n, s) : Nat × State := match s0.gaf.active with
      | some k => (k.num, s0)
      | none => s0.free 16
    let b := s.setpointBytes n
    let s1 := { s with mot := { s.mot with spSeq := (s.mot.spSeq + 1) % 65536 } }
    .next ((s1.sendSetpoint b 0).sendSetpoint b 1)
  else .next s0

/-- Whether a return frame is intact: its length, SYNC and CRC. -/
def returnOk (b : List Byte) : Bool :=
  decide (b.length = 16) && decide (b.getD 0 0 = 0x5A) && decide (ofLE (b.drop 12) = crc32c (b.take 12))

/-- SERVO_RETURN (R262). -/
def execServoReturn (port : Fin 2) (bytes : List Byte) (s : State) : Host.Outcome State Fault Refusal :=
  if ¬ s.on MOT_CTL.ENABLE ∨ s.checksPort port = false then .next s
  else if returnOk bytes = false then .next (s.count MOT_CNT_SPBAD.COUNT 1)
  else
    let stat := (bytes.getD 1 0).toNat
    let seq := ofLE ((bytes.drop 2).take 2)
    let s1 := { s with mot := { s.mot with
      retSeq := s.mot.retSeq.set port (some seq), retStat := s.mot.retStat.set port stat, retMiss := s.mot.retMiss.set port 0 } }
    let lag := (s.mot.spSeq + 131071 - seq) % 65536
    if bit stat 1 ∨ !bit stat 0 ∨ 2 < lag then .next (s1.servoFault port 0) else .next s1

end Sys2Proof.Machine
end

