-- ==== Sys2Proof/Machine/Thyme.lean ====
section
/-! DEFINITION. Thyme: the time, its adjustment, the references, timed pulses and captures (R301 to R313). An operation written to
a Thyme register acts when its command is carried out (log entry 17). -/

namespace Sys2Proof.Machine

open Sys2Proof

/-! ## Time (R301 to R306) -/

/-- A second in units of 2⁻³² ns. -/
def secUnits : Nat := 1000000000 * 2 ^ 32

/-- Thyme time in units of 2⁻³² ns. -/
def State.acc (s : State) : Nat := s.now * 2 ^ 32 + s.thyme.frac

/-- Thyme time set from units of 2⁻³² ns; SEC has 48 bits. -/
def State.setAcc (s : State) (n : Int) : State :=
  let u := (n % ((2 ^ 48 * secUnits : Nat) : Int)).toNat
  { s with thyme := { s.thyme with sec := u / secUnits, ns := u % secUnits / 2 ^ 32, frac := u % 2 ^ 32 } }

/-- The slew of one tick (R306): RATE, 0 acting as 1 and at most 2²², of the sign of the remainder; the last tick adds only the
remainder. -/
def State.slewStep (s : State) : Int :=
  let r : Int := max 1 (min (s.f THY_SLEW_RATE.RATE) (2 ^ 22))
  max (-r) (min r s.thyme.slew)

/-- One SEQ tick: Thyme adds INC and the slew (R302, R306). -/
def State.thymeTick (s : State) : State :=
  let d := s.slewStep
  let s1 := s.setAcc (s.acc + s.f THY_INC.INC + d)
  { s1 with tick := s.tick + 1, thyme := { s1.thyme with slew := s.thyme.slew - d } }

/-- A write to THY_INC (R303), which triple 53 holds (R417). -/
def State.incWrite (s : State) (v : Nat) : State :=
  let n := v % 2 ^ 36
  if n < 0x180000000 ∨ 0x1B3333333 < n then (s.flag THY_STATUS.INC_REFUSED).event 0x0206 0 [a36 n]
  else s.putOwned 53 THY_INC.INC n

/-- INC_WRITE (R303). -/
def execIncWrite (v : Word) (s : State) : Host.Outcome State Fault Refusal := .next (s.incWrite v.toNat)

/-- The value of THY_TIME_SEC and the state after the read, in which NS and FRAC are latched (R304). -/
def State.timeSecRead (s : State) : Nat × State :=
  (s.thyme.sec, (s.put THY_TIME_NS.NS s.thyme.ns).put THY_TIME_FRAC.FRAC s.thyme.frac)

/-- TIME_SEC_READ (R304): a read of the low `width` bytes. -/
def execTimeSecRead (width : Nat) (s : State) : Host.Outcome State Fault Refusal :=
  let (v, t) := s.timeSecRead
  .next { t with host := { t.host with readData := BitVec.ofNat 64 (v % 2 ^ (8 * width)), readErr := false } }

/-! ## Timed pulses (R310 to R312) -/

/-- The period used: 1 to 15 ns act as 16 ns (R310). -/
def State.tpPeriod (s : State) (n : Nat) : Nat :=
  let q := s.f (THY_TP_PERIOD.Q n)
  if q = 0 then 0 else max 16 q

/-- Whether a start lies at least 16 ns ahead. -/
def State.ahead16 (s : State) (start : Nat) : Bool := decide (s.acc + 16 * 2 ^ 32 ≤ start * 2 ^ 32)

/-- TP_MISSED. -/
def State.tpMissed (s : State) (n start skipped : Nat) : State :=
  (s.flag THY_STATUS.TP_MISS_SEEN).event 0x0201 0 [a8 n, a64 start, a32 skipped]

/-- Arming of a timed pulse from its registers (R310). -/
def State.armPulse (s : State) (n : Nat) : State :=
  let start := s.f (THY_TP_START.S n)
  if s.ahead16 start then s.put (THY_TP_CTL.ARMED n) 1 else (s.put (THY_TP_CTL.ARMED n) 0).tpMissed n start 0

/-- A write to THY_TP_CTL: PIN_EN and WIDTH, then ARM, then DISARM. -/
def State.tpCtlWrite (s : State) (n v : Nat) : State :=
  let s1 := (s.put (THY_TP_CTL.PIN_EN n) (bits v 3 1)).put (THY_TP_CTL.WIDTH n) (bits v 16 16)
  let s2 := if bit v 0 then s1.armPulse n else s1
  if bit v 1 then s2.put (THY_TP_CTL.ARMED n) 0 else s2

/-- TP_ARM (R310). -/
def execTpArm (n : Fin 8) (v : Word) (s : State) : Host.Outcome State Fault Refusal :=
  if bit v.toNat 0 then .next (s.tpCtlWrite n v.toNat) else .next s

/-- TP_DISARM (R310). -/
def execTpDisarm (n : Fin 8) (v : Word) (s : State) : Host.Outcome State Fault Refusal :=
  if bit v.toNat 1 then .next (s.tpCtlWrite n v.toNat) else .next s

/-- What a change of time to later does to an armed pulse whose start it has passed (R312). -/
def State.skipPulse (s : State) (n : Nat) : State :=
  let start := s.f (THY_TP_START.S n)
  if s.on (THY_TP_CTL.ARMED n) ∧ start * 2 ^ 32 < s.acc then
    let q := s.tpPeriod n
    if q = 0 then ((s.put (THY_TP_CTL.ARMED n) 0).count (THY_TP_SKIPPED.COUNT n) 1).tpMissed n start 1
    else
      let k := cdiv (s.acc + 16 * 2 ^ 32 - start * 2 ^ 32) (q * 2 ^ 32)
      ((s.put (THY_TP_START.S n) (start + k * q)).count (THY_TP_SKIPPED.COUNT n) k).tpMissed n start k
  else s

/-! ## Captures (R313) -/

/-- A capture: an entry of the FIFO and a pulse of event line 24 + n, or an overflow, journalled once until OVF is cleared. -/
def State.capture (s : State) (n t : Nat) : State :=
  let l := s.thyme.fifos.getD n []
  if 8 ≤ l.length then
    if s.on (THY_TC_CTL.OVF n) then s else (s.flag (THY_TC_CTL.OVF n)).event 0x0202 0 [a8 n]
  else
    (({ s with thyme := { s.thyme with fifos := s.thyme.fifos.set n (l ++ [t]) } }).put (THY_TC_CTL.COUNT n)
      (l.length + 1)).pulse (24 + n)

/-- Whether a capture is on, takes a source and selects an edge; EDGE 0 acts as 1. -/
def State.captures (s : State) (n src : Nat) (falling : Bool) : Bool :=
  s.on (THY_TC_CTL.EN n) && decide (s.f (THY_TC_CTL.SRC n) = src) &&
    bit (max 1 (s.f (THY_TC_CTL.EDGE n))) (if falling then 1 else 0)

/-- An edge of an internal source at a time in 100 ps reaches every capture that selects it. -/
def State.captureSource (s : State) (src : Nat) (falling : Bool) (t : Nat) : State :=
  (List.range 8).foldl (fun s n => if s.captures n src falling then s.capture n t else s) s

/-- CAPTURE_EDGE (R313): an edge of pin TCn; one less than 8 ns after the last edge taken, whatever Thyme time does in between, is
ignored. -/
def execCaptureEdge (n : Fin 8) (falling : Bool) (s : State) : Host.Outcome State Fault Refusal :=
  if (s.thyme.tcLast.getD n none).any (fun l => decide (s.mono100 < l + 80)) then .next s
  else
    let s1 := { s with thyme := { s.thyme with tcLast := s.thyme.tcLast.set n (some s.mono100) } }
    .next (if s1.captures n 0 falling then s1.capture n s.now100 else s1)

/-- The value of THY_TC_TIME and the state after the read, which removes the oldest entry. -/
def State.tcTimeRead (s : State) (n : Nat) : Nat × State :=
  match s.thyme.fifos.getD n [] with
  | [] => (0, s)
  | t :: r => (t % 2 ^ 63 + 2 ^ 63,
      ({ s with thyme := { s.thyme with fifos := s.thyme.fifos.set n r } }).put (THY_TC_CTL.COUNT n) r.length)

/-- TC_TIME_READ (R313). -/
def execTcTimeRead (n : Fin 8) (s : State) : Host.Outcome State Fault Refusal :=
  let (v, t) := s.tcTimeRead n
  .next { t with host := { t.host with readData := BitVec.ofNat 64 v, readErr := false } }

/-- The instant since PORn at which Thyme time, going on at 1 ns per ns, is t, in 100 ps. -/
def State.instantOf (s : State) (t : Nat) : Nat := ((s.mono100 : Int) - s.now100 + t).toNat

/-- TP_FIRE (R311): the pulse leaves at its start, with its width, cut 1.6 ns before the next start; its event line pulses, captures
see its edges as they leave, a periodic start advances and a single pulse is disarmed. -/
def execTpFire (n : Fin 8) (s : State) : Host.Outcome State Fault Refusal :=
  if s.on (THY_TP_CTL.ARMED n) then
    let start := s.f (THY_TP_START.S n)
    let q := s.tpPeriod n
    let w := max 1 (s.f (THY_TP_CTL.WIDTH n)) * 16
    let width := if q = 0 then w else min w (q * 10 - 16)
    let s1 := if s.on (THY_TP_CTL.PIN_EN n) then s.send (.timedPulse n (start * 10) width) else s
    let s2 := ((s1.pulse (16 + n)).captureSource (8 + n) false (start * 10)).at (s.instantOf (start * 10 + width))
      (.capture (8 + n) true)
    .next (if q = 0 then s2.put (THY_TP_CTL.ARMED n) 0 else s2.put (THY_TP_START.S n) (start + q))
  else .next s

/-! ## Setting and adjusting (R305, R306) -/

/-- An accepted SET or STEP: the time changes, armed pulses that it passes are skipped, TIME_STEP tells the change in ns. -/
def State.changeTime (s : State) (n : Int) : State :=
  let s1 := s.setAcc n
  let s2 := s1.event 0x0204 0 [a64 ((s1.now : Int) - s.now)]
  if s.acc < s1.acc then (List.range 8).foldl State.skipPulse s2 else s2

/-- A write to THY_ADJ_CTL (R305, R306): SET, else STEP, is refused while a stripe is flashing. -/
def State.adjCtlWrite (s : State) (v : Nat) : State :=
  let s1 :=
    if bit v 0 || bit v 1 then
      if s.mot.flashing then (s.flag THY_STATUS.STEP_REFUSED).event 0x0205 0 [a8 (if bit v 0 then 1 else 2)]
      else if bit v 0 then
        s.changeTime ((s.f THY_SET_SEC.SEC * 1000000000 + min (s.f THY_SET_NS.NS) 999999999) * 2 ^ 32 : Nat)
      else s.changeTime (s.acc + s.fs THY_ADJ.ADJ * 2 ^ 16)
    else s
  if bit v 2 then { s1 with thyme := { s1.thyme with slew := s1.fs THY_ADJ.ADJ * 2 ^ 16 } } else s1

/-- THY_SET (R305). -/
def execThySet (v : Word) (s : State) : Host.Outcome State Fault Refusal :=
  if bit v.toNat 0 then .next (s.adjCtlWrite v.toNat) else .next s

/-- THY_STEP (R305). -/
def execThyStep (v : Word) (s : State) : Host.Outcome State Fault Refusal :=
  if bit v.toNat 1 then .next (s.adjCtlWrite v.toNat) else .next s

/-- THY_SLEW (R306). -/
def execThySlew (v : Word) (s : State) : Host.Outcome State Fault Refusal :=
  if bit v.toNat 2 then .next (s.adjCtlWrite v.toNat) else .next s

/-! ## References (R308, R309) -/

def okBit (r : Nat) : Fld := if r = 0 then THY_STATUS.OK_A else THY_STATUS.OK_B

/-- A reference pair changed. -/
def State.modRef (s : State) (r : Nat) (f : RefPair → RefPair) : State :=
  { s with thyme := { s.thyme with refs := lmod s.thyme.refs r f } }

/-- REF_LOST for a reason: the pair is no longer good. -/
def State.refLost (s : State) (r reason : Nat) : State :=
  (((s.modRef r (fun p => { p with good := 0 })).put (okBit r) 0).flag THY_STATUS.REF_LOST_SEEN).event 0x0203 0
    [a8 r, a8 reason]

/-- TREF_EDGE (R308). -/
def execTrefEdge (r : Fin 2) (s : State) : Host.Outcome State Fault Refusal :=
  .next (s.modRef r (fun p => { p with tref := s.now100, count := p.count + 1 }))

/-- TREF_TIMEOUT (R309). -/
def execTrefTimeout (r : Fin 2) (s : State) : Host.Outcome State Fault Refusal := .next (s.refLost r 1)

/-- PPS_TIMEOUT (R309). -/
def execPpsTimeout (r : Fin 2) (s : State) : Host.Outcome State Fault Refusal := .next (s.refLost r 2)

/-- A PPS edge of the selected polarity: three values are latched, and the interval that it ends is judged (R308, R309). -/
def State.ppsEdge (s : State) (r : Nat) : State :=
  let p := s.thyme.refs.getD r RefPair.reset
  let t := s.now100
  let s1 := ((s.put (THY_REF_PPS.TIME r) t).put (THY_REF_TREF.TIME r) p.tref).put (THY_REF_COUNT.COUNT r) p.count
  let s2 := s1.modRef r (fun q => { q with lastPps := some t, count := 0 })
  match p.lastPps with
  | none => s2
  | some l =>
    let badTime := decide (10 * s.f THY_REF_CTL.PPS_TOL < ((t : Int) - l - 10000000000).natAbs)
    let badCount := decide (p.count ≠ 10000000)
    let s3 := if badTime then s2.refLost r 3 else s2
    if badCount then s3.refLost r 4
    else if badTime then s3
    else
      let s4 := s3.modRef r (fun q => { q with good := min 2 (q.good + 1) })
      if 1 ≤ p.good then s4.put (okBit r) 1 else s4

/-- PPS_EDGE (R308, R309, R313). -/
def execPpsEdge (r : Fin 2) (falling : Bool) (s : State) : Host.Outcome State Fault Refusal :=
  let s1 := if falling = s.on THY_REF_CTL.PPS_EDGE then s.ppsEdge r else s
  .next (s1.captureSource (5 + r) falling s.now100)

/-- THY_STATUS.HOLDOVER (R309). -/
def State.holdover (s : State) : Bool :=
  s.on THY_REF_CTL.HOLD || (decide (s.f THY_REF_CTL.SEL = 1) && !s.on THY_STATUS.OK_A) ||
    (decide (s.f THY_REF_CTL.SEL = 2) && !s.on THY_STATUS.OK_B)

/-- THY_SLEW_LEFT (R306): what remains of a slew, in 2⁻¹⁶ ns, rounded toward 0. -/
def State.slewLeft (s : State) : Int := Int.tdiv s.thyme.slew 65536

end Sys2Proof.Machine
end

