-- ==== Sys2Proof/Machine/Feedback.lean ====
section
/-! DEFINITION. The stage feedback unit: channels, faults, speed, index, the axes' checks, position compare, encoder emulation (R229
to R252). A command of a sample or an edge comes at its sampling instant, that of a frame when the frame has come in; what reaches the
pins or SEQ later waits in State.later (R239). -/

namespace Sys2Proof.Machine

open Sys2Proof

/-! ## Channels (R229, R230) -/

/-- A channel beside its registers. -/
def State.chan (s : State) (n : Nat) : Chan := s.chans.getD n Chan.reset
def State.modChan (s : State) (n : Nat) (f : Chan → Chan) : State := { s with chans := lmod s.chans n f }

def State.chPos (s : State) (n : Nat) : Int := s.fs (SFB_CH_POS.POS n)

/-- Whether a channel is on. -/
def State.chOn (s : State) (n : Nat) : Bool := s.on SFB_CTL.ENABLE && s.on (SFB_CH_CFG.EN n)

/-- The kinds of channel (R229). -/
def isAe (n : Nat) : Bool := decide (n < 4)
def isSe (n : Nat) : Bool := decide (n = 8) || decide (n = 9)
def isQuad (n : Nat) : Bool := (decide (4 ≤ n) && decide (n < 8)) || (decide (10 ≤ n) && decide (n < 18))

/-- From a sampling instant to the compare pin, in 100 ps (R239). -/
def State.pinLatency (s : State) (n : Nat) : Nat :=
  let f := s.f (SFB_CH_CFG.FILT n) + 1
  if isAe n then 2000
  else if isSe n then
    let b := max 8 (min 48 (s.f (SFB_SE_CFG.BITS (n - 8))))
    let periods := if s.on (SFB_SE_CFG.DOUBLE (n - 8)) then 2 * b + 1 else b
    periods * max 10 (min 1000 (s.f (SFB_SE_CFG.CLKDIV (n - 8)))) * 100 + 250
  else if n < 8 then (25 * f + 1) / 2 + 250 else 50 * f + 250

/-- From a sampling instant to SEQ, in 100 ps (R239). -/
def State.seqLatency (s : State) (n : Nat) : Nat := s.pinLatency n - 2

/-- The crossing from the feedback unit to SEQ, in 100 ps (R27). -/
def sfbToSeq : Nat := 98

/-- The present value of a channel is on its way to SEQ. -/
def State.toSeq (s : State) (n due : Nat) : State :=
  s.at due (.sample n { pos := s.chPos n, speed := s.fs (SFB_CH_SPEED.SPEED n), stamp := s.f (SFB_CH_STAMP.NS n) * 10 })

/-! ## Compare units (R248 to R250) -/

/-- COMPARE_MISSED of a compare that is not, or no longer, armed. -/
def State.cmpMissed (s : State) (c : Nat) (pos : Int) (invalid : Bool) : State :=
  ((s.put (SFB_CMP_CTL.ARMED c) 0).flag SFB_STATUS.MISS_SEEN).event 0x0D02 0
    [a8 c, a64 (s.fs (SFB_CMP_TARGET.TARGET c)), a64 pos, a8 (b2n invalid)]

/-- The compares armed on a channel. -/
def State.comparesOn (s : State) (n : Nat) : List Nat :=
  (List.range 4).filter (fun c => s.on (SFB_CMP_CTL.ARMED c) && decide (s.f (SFB_CMP_CTL.SRC c) = n))

/-- A write to SFB_CMP_CTL: ARM arms the target if it lies ahead of a valid position (R248). -/
def State.cmpCtlWrite (s : State) (c v : Nat) : State :=
  let s1 := (((s.put (SFB_CMP_CTL.SRC c) (bits v 0 5)).put (SFB_CMP_CTL.DIR c) (bits v 5 1)).put (SFB_CMP_CTL.PIN_EN c)
    (bits v 7 1)).put (SFB_CMP_CTL.WIDTH c) (bits v 8 8)
  if bit v 6 then
    let n := bits v 0 5
    let p := s1.chPos n
    let t := s1.fs (SFB_CMP_TARGET.TARGET c)
    let valid := decide (n < 18) && s1.on (SFB_CH_STATUS.POS_VALID n)
    if valid && (if bit v 5 then decide (t < p) else decide (p < t)) then s1.put (SFB_CMP_CTL.ARMED c) 1
    else s1.cmpMissed c p (!valid)
  else s1

/-- COMPARE_ARM (R248). -/
def execCompareArm (c : Fin 4) (v : Word) (s : State) : Host.Outcome State Fault Refusal :=
  if bit v.toNat 6 then .next (s.cmpCtlWrite c v.toNat) else .next s

/-- A sample of a channel, taken at an instant since PORn, at a compare on it: one pulse when it reaches or passes the target, which
leaves at its latency; STEP advances the target past the position (R249, R250). -/
def State.compareAt (s : State) (n at_ : Nat) (p : Int) (c : Nat) : State :=
  let t := s.fs (SFB_CMP_TARGET.TARGET c)
  let down := s.on (SFB_CMP_CTL.DIR c)
  let past := if down then t - p else p - t
  if past < 0 then s
  else
    let w := max 1 (s.f (SFB_CMP_CTL.WIDTH c))
    let s1 := s.count (SFB_CMP_FIRED.COUNT c) 1
    let due := at_ + s.pinLatency n
    let s3 := (s1.at due (.compare c (s.on (SFB_CMP_CTL.PIN_EN c)) w)).at (due + w * 50) (.capture (1 + c) true)
    let step := s.f (SFB_CMP_STEP.STEP c)
    if step = 0 then s3.put (SFB_CMP_CTL.ARMED c) 0
    else
      let k := past.toNat / step + 1
      let s4 := s3.puts (SFB_CMP_TARGET.TARGET c) (if down then t - k * step else t + k * step)
      if 1 < k then (s4.count (SFB_CMP_SKIPPED.COUNT c) (k - 1)).event 0x0D03 0 [a8 c, a32 (k - 1)] else s4

/-! ## Encoder emulation (R251) -/

/-- The target count of an emulation output. -/
def State.emuTarget (s : State) (e : Nat) : Int :=
  let div : Int := if s.f (SFB_EMU_RATIO.DIV e) = 0 then 65536 else s.f (SFB_EMU_RATIO.DIV e)
  (s.chPos (s.f (SFB_EMU_CTL.SRC e)) - (s.emus.getD e { c0 := 0, out := 0 }).c0) * max 1 (s.f (SFB_EMU_RATIO.MUL e)) / div

/-- The lag of an output, target − output. -/
def State.emuLag (s : State) (e : Nat) : Int := s.emuTarget e - (s.emus.getD e { c0 := 0, out := 0 }).out

/-- A lag above 65,535 sets OVR and is journalled, once until OVR is cleared. -/
def State.emuCheck (s : State) (e : Nat) : State :=
  if s.on (SFB_EMU_CTL.EN e) ∧ ¬ s.on (SFB_EMU_CTL.OVR e) ∧ 65535 < (s.emuLag e).natAbs then
    ((s.flag (SFB_EMU_CTL.OVR e)).flag SFB_STATUS.OVR_SEEN).event 0x0D04 0 [a8 e]
  else s

/-- A write to SFB_EMU_RATIO. -/
def State.emuRatioWrite (s : State) (e v : Nat) : State :=
  ((s.put (SFB_EMU_RATIO.MUL e) (bits v 0 16)).put (SFB_EMU_RATIO.DIV e) (bits v 16 16)).emuCheck e

/-- The outputs of a channel are checked. -/
def State.emuChecks (s : State) (n : Nat) : State :=
  ((List.range 2).filter (fun e => decide (s.f (SFB_EMU_CTL.SRC e) = n))).foldl State.emuCheck s

/-- A write to SFB_EMU_CTL: enabling latches C0. -/
def State.emuCtlWrite (s : State) (e v : Nat) : State :=
  let s1 := ((s.put (SFB_EMU_CTL.EN e) (bits v 0 1)).put (SFB_EMU_CTL.SRC e) (bits v 1 5)).put (SFB_EMU_CTL.SPACING e) (bits v 8 8)
  let s2 := if bit v 16 then s1.put (SFB_EMU_CTL.OVR e) 0 else s1
  (if bit v 0 && !s.on (SFB_EMU_CTL.EN e) then { s2 with emus := s2.emus.set e { c0 := s2.chPos (bits v 1 5), out := 0 } }
   else s2).emuCheck e

/-- EMU_ENABLE (R251). -/
def execEmuEnable (e : Fin 2) (v : Word) (s : State) : Host.Outcome State Fault Refusal :=
  if bit v.toNat 0 then .next (s.emuCtlWrite e v.toNat) else .next s

/-- The place of a level A + 2·B in the sequence of the positive direction, A leading B (PRESUMED, log entry 32), and the level of a
place. -/
def grayPlace (l : Nat) : Nat := if l = 0 then 0 else if l = 1 then 1 else if l = 3 then 2 else 3
def grayLevel (p : Nat) : Nat := if p % 4 = 0 then 0 else if p % 4 = 1 then 1 else if p % 4 = 2 then 3 else 2

/-- The level at which an emulation output stands. -/
def State.emLevel (s : State) (e : Nat) : Nat :=
  b2n (decide (s.pin (.em e false) = .high)) + 2 * b2n (decide (s.pin (.em e true) = .high))

/-- One edge on the pins EMeA and EMeB. -/
def State.emMove (s : State) (e : Nat) (up : Bool) : State :=
  let l := grayLevel (grayPlace (s.emLevel e) + (if up then 1 else 3))
  (s.drive (.em e false) (bit l 0)).drive (.em e true) (bit l 1)

/-- EMU_EDGE (R251): one edge towards the target. -/
def execEmuEdge (e : Fin 2) (s : State) : Host.Outcome State Fault Refusal :=
  if s.on (SFB_EMU_CTL.EN e) ∧ s.emuLag e ≠ 0 then
    let up := decide (0 < s.emuLag e)
    let x := s.emus.getD e { c0 := 0, out := 0 }
    let out := if up then x.out + 1 else x.out - 1
    .next (({ s with emus := s.emus.set e { x with out := out } }.emMove e up).send (.emu e out))
  else .next s

/-! ## Faults (R232, R246, R252) -/

/-- Whether an axis names a channel as its source, or as its check channel with CHK_EN. -/
def State.axisNames (s : State) (a n : Nat) : Bool :=
  decide (s.act 3 (SFB_AXIS_CFG.SRC a) = n) ||
    (decide (s.act 3 (SFB_AXIS_CFG.CHK_EN a) = 1) && decide (s.act 3 (SFB_AXIS_CFG.CHK_SRC a) = n))

/-- The event of a channel fault: POS_LOST of each axis that names it while a stripe is flashing, else CH_FAULT. -/
def State.faultEvent (s : State) (n cause : Nat) : State :=
  let l := (List.range 2).filter (fun a => s.axisNames a n)
  if s.mot.flashing && !l.isEmpty then
    let th := s.unstruckFlash
    l.foldl (fun t a => (t.flag SFB_STATUS.LOST_SEEN).halt 0x0D10 th [a8 a, a8 n, a8 cause]) s
  else s.event 0x0D05 0 [a8 n, a8 cause]

/-- A fault of a channel: its position is no longer valid, its reference is lost, its compares disarm, axes that check against it
stall; its event registers in SEQ. -/
def State.chFault (s : State) (n cause due : Nat) : State :=
  let s1 := (((s.put (SFB_CH_STATUS.POS_VALID n) 0).flag (SFB_CH_STATUS.REF_LOST n)).flag (SFB_CH_STATUS.FAULT n)).put
    (SFB_CH_STATUS.CAUSE n) cause
  let s2 := s1.modChan n (fun c => { c with track := false, bad := 0, reading := false })
  let s3 := (s2.comparesOn n).foldl (fun t c => t.cmpMissed c (t.chPos n) true) s2
  (s3.stallAxes n).at due (.fault n cause)

/-! ## Axis checks (R244, R245, R247) -/

/-- The deviation of an axis from its check channel, in 2⁻¹⁶ grid unit. -/
def State.axisDev (s : State) (a : Nat) : Rat :=
  let n := s.act 3 (SFB_AXIS_CFG.SRC a)
  let m := s.act 3 (SFB_AXIS_CFG.CHK_SRC a)
  let scale := s.acts 3 (SFB_AXIS_CHK_SCALE.SCALE a)
  let p := s.acts 3 (SFB_AXIS_CHK_OFFSET.OFFSET a) + rne (s.chPos m * scale) 65536
  let v := rne (s.fs (SFB_CH_SPEED.SPEED m) * scale) 4294967296
  let dt : Int := s.f (SFB_CH_STAMP.NS n) - s.f (SFB_CH_STAMP.NS m)
  ((s.axisPos a - p : Int) : Rat) - ((v * 256 * dt : Int) : Rat) / 1000000000

/-- Whether the deviation of an axis lies above CHK_TOL. -/
def State.deviates (s : State) (a : Nat) : Bool :=
  let d := s.axisDev a
  decide (((s.act 3 (SFB_AXIS_CHK_TOL.TOL a) * 65536 : Nat) : Rat) < (if d < 0 then -d else d))

/-- A source sample is compared with the check channel; a deviation registers in SEQ. -/
def State.checkDev (due : Nat) (s : State) (a : Nat) : State :=
  if decide (s.act 3 (SFB_AXIS_CFG.CHK_EN a) = 1) && s.deviates a then s.at due (.deviation a (rneQ (s.axisDev a / 65536)))
  else s

/-- POS_DEVIATION registers (R246). -/
def State.deviationEvent (s : State) (a : Nat) (dev : Int) : State :=
  let s1 := s.flag SFB_STATUS.DEV_SEEN
  let args := [a8 a, s32 dev]
  if s.mot.flashing then s1.halt 0x0D11 s.unstruckFlash args else s1.event 0x0D11 0 args

/-- Whether every axis channel is valid for a resume (R247). -/
def State.axesValid (s : State) : Bool :=
  (List.range 2).all (fun a =>
    (List.range 18).all (fun n => !s.axisNames a n || (s.on (SFB_CH_STATUS.POS_VALID n) && !s.on (SFB_CH_STATUS.REF_LOST n))) &&
      (decide (s.act 3 (SFB_AXIS_CFG.CHK_EN a) ≠ 1) || !s.deviates a))

/-- What a new sample of a channel, taken at an instant since PORn, brings about: its compares, the emulation outputs, the axis checks and
the stall checks, and its way to SEQ. -/
def State.newSample (s : State) (n at_ : Nat) : State :=
  let due := at_ + s.seqLatency n
  let s1 := (s.comparesOn n).foldl (fun t c => t.compareAt n at_ (t.chPos n) c) s
  let s2 := (s1.emuChecks n).toSeq n due
  let s3 := ((List.range 2).filter (fun a => decide (s.act 3 (SFB_AXIS_CFG.SRC a) = n))).foldl (State.checkDev due) s2
  s3.checkAxes n

/-! ## Speed (R240 to R242) -/

/-- The integer nearest to the square root of a number. -/
def nearRoot (n : Nat) : Nat := (sqrtFloor (4 * n) + 1) / 2

/-- The estimate of R242 in 2⁻⁸ count/s; AMAX counts 256 count/s². -/
def State.vEst (s : State) (n : Nat) : Nat :=
  nearRoot (2 * (s.f (SFB_CH_AMAX.AMAX n) * 256) * 2 ^ s.f (SFB_CH_CFG.SPD_SHIFT n) * 65536)

/-- The speed reading of a channel. -/
def State.setSpeed (s : State) (n : Nat) (v : Int) (neg estimate standstill : Bool) : State :=
  ((((s.puts (SFB_CH_SPEED.SPEED n) v).put (SFB_CH_SPEED.DIR n) (b2n neg)).put (SFB_CH_SPEED.ESTIMATE n) (b2n estimate)).put
    (SFB_CH_SPEED.STANDSTILL n) (b2n standstill)).put (SFB_CH_STATUS.STANDSTILL n) (b2n standstill)

/-- The edge from which a new edge is measured: the oldest of the run within the window, else the last one. -/
def measureFrom (win t : Nat) (run : List Edge) : Option Edge :=
  match (run.filter (fun e => decide (t ≤ e.t + win))).getLast? with
  | some e => some e
  | none => run.head?

/-- A new edge of a channel (R240 to R242); edges older than any window are dropped. -/
def State.newEdge (s : State) (n : Nat) (pos : Int) (t : Nat) (neg : Bool) : State :=
  let c := s.chan n
  let e : Edge := { pos := pos, t := t }
  let keep (l : List Edge) : State → State := fun t => t.modChan n (fun c => { c with run := l, dir := some neg, edgeAt := s.mono100 })
  match c.dir with
  | none => keep [e] (s.setSpeed n (if neg then -(s.vEst n) else s.vEst n) neg true false)
  | some d =>
    if d ≠ neg then keep [e] (s.setSpeed n 0 neg false false)
    else
      let win := max 1 (s.f (SFB_CH_SPD_CFG.WIN n)) * 1000
      let run := e :: (c.run.take 1 ++ (c.run.drop 1).filter (fun x => decide (e.t ≤ x.t + 1023000)))
      match measureFrom win e.t c.run with
      | some m => keep run (s.setSpeed n (rne ((pos - m.pos) * 2560000000000) ((e.t : Int) - m.t)) neg false false)
      | none => keep run (s.setSpeed n 0 neg false false)

/-- A new position of an AE, QE or LQ channel, true at an instant since PORn. -/
def State.moveTo (s : State) (n : Nat) (pos : Int) (at_ : Nat) : State :=
  let t := s.timeAt at_
  let old := s.chPos n / 2 ^ s.f (SFB_CH_CFG.SPD_SHIFT n)
  let new := pos / 2 ^ s.f (SFB_CH_CFG.SPD_SHIFT n)
  let s1 := (s.puts (SFB_CH_POS.POS n) pos).put (SFB_CH_STAMP.NS n) (t / 10)
  (if new = old then s1 else s1.newEdge n pos t (decide (new < old))).newSample n at_

/-! ## Sin/cos (R231 to R233) -/

/-- atan(2⁻ⁱ) in 2⁻³² count of 1/4,096 period; beyond the list each is half the one before. -/
def atanTable : List Int :=
  [2199023255552, 1298159229407, 685911684590, 348179481054, 174765388006, 87467890064, 43744617923, 21873643805, 10936988781,
   5468515251, 2734260233, 1367130443, 683565262, 341782636, 170891319, 85445659, 42722830, 21361415, 10680707, 5340354]

def atanStep (i : Nat) : Int := if i < 20 then atanTable.getD i 0 else 5340354 / 2 ^ (i - 19)

/-- The angle of a vector in the right half plane, by rotations of atan(2⁻ⁱ). -/
def rotate : Nat → Nat → Int → Int → Int → Int
  | 0, _, _, _, acc => acc
  | k + 1, i, x, y, acc =>
    if 0 ≤ y then rotate k (i + 1) (x + y / 2 ^ i) (y - x / 2 ^ i) (acc + atanStep i)
    else rotate k (i + 1) (x - y / 2 ^ i) (y + x / 2 ^ i) (acc - atanStep i)

/-- atan2(s, c) in 2⁻³² count, to within 2⁻²⁴ count. -/
def phase (s c : Int) : Int :=
  let m : Int := 2 ^ 48
  if c < 0 then rotate 36 0 (-c * m) (-s * m) 0 + 2048 * 2 ^ 32 else rotate 36 0 (c * m) (s * m) 0

/-- A phase within 0.6 count of exact (R231): where two counts are, either of them. The phase of a vector of length 0 is free. -/
def State.phi (st : State) (s c : Int) : Nat × State :=
  if s = 0 ∧ c = 0 then st.free 12
  else
    let x : Int := Sys2Proof.Machine.phase s c
    let k : Int := x / 2 ^ 32
    let r : Int := x % 2 ^ 32
    if 10 * r < 4 * 2 ^ 32 then ((k % 4096).toNat, st)
    else if 6 * 2 ^ 32 < 10 * r then (((k + 1) % 4096).toNat, st)
    else
      let (b, t) := st.free 1
      (((k + (b : Int)) % 4096).toNat, t)

/-- A sample within the window, with its phase. -/
def State.aePhase (s : State) (n phi : Nat) : State :=
  let keep (t : State) : State := t.modChan n (fun c => { c with phi := some phi })
  match (s.chan n).phi with
  | none => (keep (s.put (SFB_CH_STATUS.POS_VALID n) 1)).moveTo n (s.chPos n) s.mono100
  | some p =>
    let d : Int := ((((phi : Int) - p + 2048) % 4096)) - 2048
    if 1536 < d.natAbs then s.chFault n 2 (s.mono100 + s.seqLatency n)
    else (keep s).moveTo n (s.chPos n + (if s.on (SFB_CH_CFG.DIR_INV n) then -d else d)) s.mono100

/-- AE_SAMPLE (R231 to R233). -/
def execAeSample (n : Fin 4) (rawS rawC : Nat) (s0 : State) : Host.Outcome State Fault Refusal :=
  if s0.chOn n = false then .next s0
  else
    let s := (s0.put (SFB_AE_RAW.SIN n) rawS).put (SFB_AE_RAW.COS n) rawC
    if (s.chan n).track = false then .next s
    else
      let y : Int := ((rawS % 4096 : Nat) : Int) - 2048 - s.fs (SFB_AE_CORR.OFF_S n)
      let x : Int := rne ((((rawC % 4096 : Nat) : Int) - 2048 - s.fs (SFB_AE_CORR.OFF_C n)) * s.f (SFB_AE_GAIN.GAIN_C n)) 4096
      let a2 := y * y + x * x
      if a2 < s.f (SFB_AE_AMP_LO.A2 n) ∨ s.f (SFB_AE_AMP_HI.A2 n) < a2 then
        let b := (s.chan n).bad + 1
        if s.f (SFB_CH_CFG.FILT n) + 1 ≤ b then .next (s.chFault n 1 (s.mono100 + s.seqLatency n))
        else .next (s.modChan n (fun c => { c with bad := b }))
      else
        let (p, t) := (s.modChan n (fun c => { c with bad := 0 })).phi y x
        .next (t.aePhase n p)

/-! ## Quadrature (R234) -/

/-- Half-units of 100 ps between two samples of a QE or an LQ channel (R234). -/
def sampleGap (n : Nat) : Nat := if n < 8 then 25 else 100

/-- The instant of a sample in 100 ps since PORn. -/
def quadInstant (n k : Nat) : Nat := k * sampleGap n / 2

/-- Just after the sample that ends the filter of a change first seen in sample k: samples k to k + FILT saw it (R234). -/
def State.quadDue (s : State) (n k : Nat) : Nat := quadInstant n (k + s.f (SFB_CH_CFG.FILT n)) + 1

/-- QUAD_EDGE (R234): the inputs of a channel take a new level. The next sample sees it, and what has changed counts once FILT + 1 samples
have seen it. -/
def execQuadEdge (n : Fin 18) (level : Nat) (s : State) : Host.Outcome State Fault Refusal :=
  let r := level % 4
  let c := s.chan n
  if isQuad n = false ∨ r = c.raw then .next s
  else
    let k := cdiv (s.mono100 * 2) (sampleGap n)
    .next ((s.modChan n (fun c => { c with
      raw := r, aAt := if bit r 0 = bit c.raw 0 then c.aAt else k, bAt := if bit r 1 = bit c.raw 1 then c.bAt else k })).at
        (s.quadDue n k) (.quad n k))

/-- An input that changed in a sample and has not changed since passes the filter: one count, or the QUAD fault where both did (R234). -/
def State.quadStable (s : State) (n k : Nat) : State :=
  let c := s.chan n
  let a := decide (c.aAt = k) && (bit c.raw 0 != bit c.level 0)
  let b := decide (c.bAt = k) && (bit c.raw 1 != bit c.level 1)
  let l := b2n (if a then bit c.raw 0 else bit c.level 0) + 2 * b2n (if b then bit c.raw 1 else bit c.level 1)
  let s1 := s.modChan n (fun c => { c with level := l })
  if (!a && !b) || !s.chOn n || !c.track then s1
  else if a && b then s1.chFault n 3 (quadInstant n k + s.seqLatency n)
  else
    let d : Int := if (grayPlace l + 4 - grayPlace c.level) % 4 = 1 then 1 else -1
    s1.moveTo n (s.chPos n + (if s.on (SFB_CH_CFG.DIR_INV n) then -d else d)) (quadInstant n k)

/-! ## Standstill (R240, R242) -/

/-- Whether two instants lie in one SFB cycle of 5 ns. -/
def sameCycle (t u : Nat) : Bool := decide (t / 50 = u / 50)

/-- The channel with the edges that still pass its filter in the present SFB cycle. -/
def State.soon (s : State) (n : Nat) : State :=
  s.later.foldl (fun t e => match e.2 with
    | .quad m k => if m = n ∧ sameCycle e.1 s.mono100 then t.quadStable n k else t
    | _ => t) s

/-- Whether an edge of a channel comes in the present SFB cycle. -/
def State.edgeNow (s : State) (n : Nat) : Bool :=
  let c := (s.soon n).chan n
  !c.run.isEmpty && sameCycle c.edgeAt s.mono100

/-- STANDSTILL_TIMEOUT (R242); an edge in the same SFB cycle wins (R240). -/
def execStandstillTimeout (n : Fin 18) (s : State) : Host.Outcome State Fault Refusal :=
  if s.chOn n ∧ isSe n = false ∧ s.edgeNow n = false then
    .next (((s.setSpeed n 0 (s.on (SFB_CH_SPEED.DIR n)) false true).modChan n (fun c => { c with run := [], dir := none })).toSeq n
      (s.mono100 + sfbToSeq))
  else .next s

/-! ## SSI (R235, R236, R243) -/

/-- Frame bits and position bits of an SE channel, within their ranges. -/
def State.seBits (s : State) (n : Nat) : Nat := max 8 (min 48 (s.f (SFB_SE_CFG.BITS n)))
def State.sePbits (s : State) (n : Nat) : Nat := max 1 (min (s.seBits n) (s.f (SFB_SE_CFG.PBITS n)))

/-- SSI_READ (R235): the clock begins; its first falling edge is the stamp. -/
def execSsiRead (n : Fin 2) (s : State) : Host.Outcome State Fault Refusal :=
  if s.chOn (8 + n) ∧ (s.chan (8 + n)).reading = false then
    let b := s.seBits n
    .next ((s.modChan (8 + n) (fun c => { c with reading := true, latch := s.now, latchAt := s.mono100 })).send
      (.ssiClock n (if s.on (SFB_SE_CFG.DOUBLE n) then 2 * b + 1 else b)))
  else .next s

/-- The number that bits spell, most significant first, Gray-decoded or not. -/
def msbFirst (gray : Bool) : List Bool → Bool → Nat → Nat
  | [], _, v => v
  | b :: r, p, v => let x := if gray then xor p b else b; msbFirst gray r x (2 * v + b2n x)

/-- Why a frame is refused, in the order of R236; 0 when it is accepted with a position. -/
def State.seCause (s : State) (n : Nat) (lineHigh : Bool) (frame : List Bool) (pos : Nat) : Nat :=
  let b := s.seBits n
  if lineHigh = false then 4
  else if s.on (SFB_SE_CFG.ERR_EN n) ∧ b2n (frame.getD (s.f (SFB_SE_CFG.ERR_IDX n)) false) = s.f (SFB_SE_CFG.ERR_POL n) then 5
  else if s.on (SFB_SE_CFG.DOUBLE n) ∧ (frame.getD b false = true ∨ frame.take b ≠ (frame.drop (b + 1)).take b) then 6
  else match (s.chan (8 + n)).lastSsi with
    | some e => if s.f (SFB_SE_JUMP.JUMP n) ≠ 0 ∧ s.f (SFB_SE_JUMP.JUMP n) < ((pos : Int) - e.pos).natAbs then 7 else 0
    | none => 0

/-- An accepted position (R236, R243). -/
def State.seAccept (s : State) (n pos : Nat) : State :=
  let c := s.chan (8 + n)
  let s1 := ((s.put (SFB_CH_POS.POS (8 + n)) pos).put (SFB_CH_STAMP.NS (8 + n)) c.latch).put (SFB_CH_STATUS.POS_VALID (8 + n)) 1
  let s2 := match c.lastSsi with
    | some e =>
      let v := rne (((pos : Int) - e.pos) * 2560000000000) ((c.latch * 10 : Nat) - (e.t : Int))
      (s1.puts (SFB_CH_SPEED.SPEED (8 + n)) v).put (SFB_CH_SPEED.DIR (8 + n)) (b2n (decide (v < 0)))
    | none => s1
  (s2.modChan (8 + n) (fun c => { c with lastSsi := some { pos := pos, t := c.latch * 10 } })).newSample (8 + n) c.latchAt

/-- SSI_FRAME (R235, R236): the frame of the read in progress has come in. -/
def execSsiFrame (n : Fin 2) (lineHigh : Bool) (bits_ : List Bool) (s : State) : Host.Outcome State Fault Refusal :=
  if s.chOn (8 + n) ∧ (s.chan (8 + n)).reading then
    let s1 := s.modChan (8 + n) (fun c => { c with reading := false })
    if (s.chan (8 + n)).track = false then .next s1
    else
      let pos := msbFirst (s.on (SFB_SE_CFG.GRAY n)) (bits_.take (s.sePbits n)) false 0
      let cause := s1.seCause n lineHigh bits_ pos
      .next (if cause = 0 then s1.seAccept n pos else s1.chFault (8 + n) cause ((s.chan (8 + n)).latchAt + s.seqLatency (8 + n)))
  else .next s

/-! ## Enabling, disabling, re-arming (R230, R232, R246) -/

/-- A channel begins to track from where its inputs stand; a QE or LQ position is valid at once, an AE one with the first good sample,
an SE one with the first accepted frame. The edges, the direction and the last accepted frame before a fault still count (R236, R240, R243). -/
def State.trackFrom (s : State) (n : Nat) : State :=
  (if isQuad n then s.put (SFB_CH_STATUS.POS_VALID n) 1 else s).modChan n (fun c =>
    { c with track := true, phi := none, bad := 0, level := c.raw, aAt := 0, bAt := 0, reading := false })

/-- A channel is enabled: its count starts at 0, from standstill; an SE channel knows none (R230, R243). The spec is silent on what an
enable does to an SE channel: its position reads 0 and its last accepted position is forgotten, so its first frame is neither checked for
SSI_JUMP nor gives a speed (DESIGN CHOICE, log entry 32). -/
def State.chStart (s : State) (n : Nat) : State :=
  ((((s.put (SFB_CH_POS.POS n) 0).setSpeed n 0 false false (!isSe n)).modChan n (fun c =>
    { c with idxRef := none, run := [], dir := none, lastSsi := none })).trackFrom n).emuChecks n

/-- A channel is disabled, cause 8. R252 gives that cause to a channel that an axis names; one that no axis names sets FAULT and REF_LOST
and journals CH_FAULT alike (DESIGN CHOICE, log entry 32). -/
def State.chStop (s : State) (n : Nat) : State := s.chFault n 8 (s.mono100 + sfbToSeq)

/-- A channel follows a change of its enables. -/
def State.chSwitch (s : State) (was : Bool) (n : Nat) : State :=
  if s.chOn n = was then s else if was then s.chStop n else s.chStart n

/-- A write to SFB_CH_CFG (R230, R232). -/
def State.chCfgWrite (s : State) (n v : Nat) : State :=
  let s1 := (((((s.put (SFB_CH_CFG.EN n) (bits v 0 1)).put (SFB_CH_CFG.DIR_INV n) (bits v 1 1)).put (SFB_CH_CFG.IDX_EN n)
    (bits v 2 1)).put (SFB_CH_CFG.IDX_EDGE n) (bits v 3 1)).put (SFB_CH_CFG.FILT n) (bits v 4 4)).put (SFB_CH_CFG.SPD_SHIFT n) (bits v 8 4)
  let s2 := s1.chSwitch (s.chOn n) n
  if bit v 12 && s2.chOn n && !(s2.chan n).track then s2.trackFrom n else s2

/-- REARM (R232). -/
def execRearm (n : Fin 18) (v : Word) (s : State) : Host.Outcome State Fault Refusal :=
  if bit v.toNat 12 then .next (s.chCfgWrite n v.toNat) else .next s

/-- CHANNEL_DISABLE (R246). -/
def execChannelDisable (n : Fin 18) (v : Word) (s : State) : Host.Outcome State Fault Refusal :=
  if bit v.toNat 0 then .next s else .next (s.chCfgWrite n v.toNat)

/-- A write to SFB_CTL: clearing ENABLE disables every channel. -/
def State.sfbCtlWrite (s : State) (v : Nat) : State :=
  (List.range 18).foldl (fun t n => t.chSwitch (s.chOn n) n) (s.put SFB_CTL.ENABLE (bits v 0 1))

/-! ## Index (R237, R238) -/

/-- The position where a channel stands is latched for an index edge stamped at a time in ns (R237, R238). -/
def State.latchIndex (s : State) (n stamp : Nat) : State :=
  if s.on (SFB_CH_STATUS.POS_VALID n) then
    let p := s.chPos n
    let s1 := ((s.puts (SFB_CH_IDX_POS.POS n) p).put (SFB_CH_IDX_STAMP.NS n) stamp).flag (SFB_CH_STATUS.IDX_SEEN n)
    match (s.chan n).idxRef with
    | none => s1.modChan n (fun c => { c with idxRef := some p })
    | some r =>
      let pitch : Int := s.f (SFB_CH_IDX_PITCH.PITCH n)
      let d := p - r
      let drift := if pitch = 0 then d else d - rne d pitch * pitch
      if s.f (SFB_CH_IDX_TOL.TOL n) < drift.natAbs then
        (s1.flag (SFB_CH_STATUS.DRIFT n)).event 0x0D01 0 [a8 n, a64 p, s32 drift]
      else s1
  else s

/-- The last sample of a channel not after an instant. -/
def lastSample (n t : Nat) : Nat := t * 2 / sampleGap n

/-- INDEX_EDGE (R237, R238): an AE channel latches its last sample at once; a QE channel once every edge at or before the index edge has
passed its filter. -/
def execIndexEdge (n : Fin 8) (falling : Bool) (s : State) : Host.Outcome State Fault Refusal :=
  if s.chOn n ∧ s.on (SFB_CH_CFG.IDX_EN n) ∧ s.on (SFB_CH_CFG.IDX_EDGE n) = falling ∧ s.on (SFB_CH_STATUS.POS_VALID n) then
    if isAe n then .next (s.latchIndex n s.now)
    else .next (s.at (s.quadDue n (lastSample n s.mono100) + 1) (.index n s.now))
  else .next s

/-- A write to SFB_CH_IDX_TOL. -/
def State.idxTolWrite (s : State) (n v : Nat) : State :=
  let s1 := s.put (SFB_CH_IDX_TOL.TOL n) (bits v 0 31)
  if bit v 31 then s1.modChan n (fun c => { c with idxRef := none }) else s1

/-- REF_CLR (R238): the next latch becomes the reference. -/
def execRefClr (n : Fin 18) (v : Word) (s : State) : Host.Outcome State Fault Refusal :=
  if bit v.toNat 31 then .next (s.idxTolWrite n v.toNat) else .next s

end Sys2Proof.Machine
end

