-- ==== Sys2Proof/Machine/Crc.lean ====
section
/-! DEFINITION. The four CRC engines (R397 to R399). -/

namespace Sys2Proof.Machine

open Sys2Proof

/-- WIDTH as it acts: 8 to 64. -/
def State.crcWidth (s : State) (e : Nat) : Nat := max 8 (min 64 (s.f (CHK_CTL.WIDTH e)))

/-- The low w bits of a number in reverse order. -/
def reflect : Nat → Nat → Nat
  | 0, _ => 0
  | w + 1, v => v % 2 * 2 ^ w + reflect w (v / 2)

/-- One shift of a w-bit CRC. -/
def chkShift (w poly s : Nat) : Nat := if bit s (w - 1) then (2 * s).xor poly % 2 ^ w else 2 * s % 2 ^ w

def chkShifts (w poly : Nat) : Nat → Nat → Nat
  | 0, s => s
  | n + 1, s => chkShifts w poly n (chkShift w poly s)

/-- A byte taken into a w-bit CRC. -/
def chkByte (w poly : Nat) (refin : Bool) (s : Nat) (x : Byte) : Nat :=
  let b := if refin then reflect 8 x.toNat else x.toNat
  chkShifts w poly 8 (s.xor (b * 2 ^ (w - 8)))

def State.crcState (s : State) (e : Nat) : Nat := (s.host.crc.getD e 0).toNat

/-- Engine e's state set. -/
def State.setCrc (s : State) (e v : Nat) : State :=
  { s with host := { s.host with crc := s.host.crc.set e (BitVec.ofNat 64 v) } }

/-- ALIVE increases by 1, wrapping. -/
def State.chkAlive (s : State) (e : Nat) : State := s.put (CHK_STATUS.ALIVE e) (s.f (CHK_STATUS.ALIVE e) + 1)

/-- A reset of engine e. -/
def State.crcReset (s : State) (e : Nat) : State :=
  (s.setCrc e (s.f (CHK_INIT.INIT e) % 2 ^ s.crcWidth e)).chkAlive e

/-- Bytes fed into engine e. -/
def State.crcFeed (s : State) (e : Nat) (l : List Byte) : State :=
  let w := s.crcWidth e
  s.setCrc e (l.foldl (chkByte w (s.f (CHK_POLY.POLY e) % 2 ^ w) (s.on (CHK_CTL.REFIN e))) (s.crcState e))

/-- The result of engine e. -/
def State.crcResult (s : State) (e : Nat) : Nat :=
  let w := s.crcWidth e
  ((if s.on (CHK_CTL.REFOUT e) then reflect w (s.crcState e) else s.crcState e).xor (s.f (CHK_XOROUT.XOROUT e))) % 2 ^ w

/-- A write that an engine discards. -/
def State.chkDrop (s : State) (e : Nat) : State := s.flag (CHK_STATUS.DROP_SEEN e)

/-- A write of a configuration register of engine e: 0 CHK_CTL, 1 CHK_POLY, 2 CHK_INIT, 3 CHK_XOROUT. -/
def State.chkCfgWrite (s : State) (e reg v : Nat) : State :=
  if s.on (CHK_CTL.CLAIMED e) then s.chkDrop e
  else
    let s1 : State :=
      if reg = 0 then
        (((s.put (CHK_CTL.WIDTH e) (bits v 0 7)).put (CHK_CTL.REFIN e) (bits v 7 1)).put (CHK_CTL.REFOUT e) (bits v 8 1)).put
          (CHK_CTL.INW e) (bits v 9 2)
      else if reg = 1 then s.put (CHK_POLY.POLY e) v
      else if reg = 2 then s.put (CHK_INIT.INIT e) v
      else s.put (CHK_XOROUT.XOROUT e) v
    s1.crcReset e

/-- A write of CHK_DATA of a width in bytes: its low 2^INW bytes are fed. A write of 32 bits to this 64-bit register is discarded
(R369). -/
def State.chkData (s : State) (e width v : Nat) : State :=
  let n := 2 ^ s.f (CHK_CTL.INW e)
  if s.on (CHK_CTL.CLAIMED e) ∨ width < n then s.chkDrop e
  else if width = 8 then (s.crcFeed e (toLE n v)).chkAlive e
  else s

/-- CHK_DATA (R399). -/
def execChkData (e : Fin 4) (width : Nat) (v : Word) (s : State) : Host.Outcome State Fault Refusal :=
  .next (s.chkData e width v.toNat)

/-- CHK_INIT (R397): CHK_CTL written with INIT = 1. -/
def execChkInit (e : Fin 4) (v : Word) (s : State) : Host.Outcome State Fault Refusal :=
  if bit v.toNat 11 then .next (s.chkCfgWrite e 0 v.toNat) else .next s

/-- CHK_CONFIG_WRITE (R397, R399). -/
def execChkConfigWrite (e reg : Fin 4) (v : Word) (s : State) : Host.Outcome State Fault Refusal :=
  .next (s.chkCfgWrite e reg v.toNat)

end Sys2Proof.Machine
end

