-- ==== Sys2Proof/Machine/Dma.lean ====
section
/-! DEFINITION. Host memory and DMA channels (R388 to R395). -/

namespace Sys2Proof.Machine

open Sys2Proof

/-! ## Host memory (R388, R392) -/

/-- A host address: SPACE in bits [63:62] and an offset (R388). -/
def hostWord (space offs : Nat) : Nat := space * 2 ^ 62 + offs

/-- The offset in host memory of a host address, where its SPACE is 1 (R388). -/
def hostAddr (a : Nat) : Option Nat := if a / 2 ^ 62 = 1 then some (a % 2 ^ 62) else none

/-- Bytes of host memory. -/
def State.hostRead (s : State) (a n : Nat) : List Byte := rdBytes s.host.mem a n

/-- Bytes written to host memory. -/
def State.hostWrite (s : State) (a : Nat) (l : List Byte) : State :=
  { s with host := { s.host with mem := wrBytes s.host.mem a l } }

/-- The lowest address of a range of host memory that the host answers with an error completion (R392; log entry 35). -/
def State.hostBad (s : State) (a n : Nat) : Option Nat :=
  (s.host.bad.filterMap (fun r => if overlaps a n r.1 r.2 then some (max a r.1) else none)).min?

/-! ## Channels -/

def State.dmaCh (s : State) (c : Nat) : DmaCh := s.host.dma.getD c DmaCh.idle

def State.modDma (s : State) (c : Nat) (f : DmaCh → DmaCh) : State :=
  { s with host := { s.host with dma := lmod s.host.dma c f } }

def State.dmaRunning (s : State) (c : Nat) : Bool := decide (s.f (DMA_CH_STATUS.STATE c) = 1)

/-- The engine that a channel has claimed is free again. -/
def State.dmaUnclaim (s : State) (c : Nat) : State :=
  let e := s.f (DMA_CH_CTL.CRC_ENG c)
  if s.on (CHK_CTL.CLAIMED e) ∧ s.f (CHK_CTL.CHANNEL e) = c then (s.put (CHK_CTL.CLAIMED e) 0).put (CHK_CTL.CHANNEL e) 0 else s

/-- A channel's vector for the end of a chain with IRQ, unless an earlier such end requested it and DONE_SEEN still stands (R368). -/
def State.dmaVector (s : State) (c : Nat) : State :=
  if s.on (DMA_CH_STATUS.DONE_SEEN c) ∧ (s.dmaCh c).asked then s else (s.msix (1 + c)).modDma c (fun d => { d with asked := true })

/-- A channel's vector for an error stop, unless an earlier one has not been serviced. -/
def State.dmaErrVector (s : State) (c : Nat) : State := if s.on (DMA_CH_STATUS.ERR_SEEN c) then s else s.msix (1 + c)

/-- A channel stops with an error: its vector and DMA_ERROR. -/
def State.dmaStop (s : State) (c err : Nat) : State :=
  let s1 := (((s.dmaErrVector c).put (DMA_CH_STATUS.STATE c) 3).put (DMA_CH_STATUS.ERR c) err).flag (DMA_CH_STATUS.ERR_SEEN c)
  ((s1.modDma c (fun d => { d with fetch := none, moved := false, aborting := none, flush := none })).dmaUnclaim c).event 0x0401 0
    [a8 c, a8 err, a64 (s1.f (DMA_CH_ERR_ADDR.ADDR c))]

/-- A stop that latches an address. -/
def State.dmaStopAt (s : State) (c err a : Nat) : State := (s.put (DMA_CH_ERR_ADDR.ADDR c) a).dmaStop c err

/-! ## Addresses (R371, R388, R390) -/

/-- Whether a DMA address has a valid SPACE. -/
def dmaValid (a : Nat) : Bool := decide (a / 2 ^ 62 = 1) || decide (a < 2 ^ 36)

def isHbm (a : Nat) : Bool := decide (a / 2 ^ 62 = 0)

/-- The first address of a range of HBM that is refused to every access. -/
def State.firstRefused (s : State) (a n : Nat) : Option Nat :=
  let regions := (if s.host.admitted then hiddenRegions s.host.wide else []) ++ [(2 ^ 36, 2 ^ 36)]
  let hits := regions.filterMap (fun r => if overlaps a n r.1 r.2 then some (max a r.1) else none)
  match hits with
  | [] => none
  | x :: r => some (r.foldl min x)

/-- The same for a DMA address; host memory refuses nothing. -/
def State.dmaRefused (s : State) (a n : Nat) : Option Nat := if isHbm a then s.firstRefused a n else none

/-- n bytes at a DMA address; none where an HBM word of them is uncorrectable, or the host answers with an error completion (R392). -/
def State.dmaRead (s : State) (a n : Nat) : Option (List Byte) :=
  if isHbm a then (if s.hbmBad a n then none else some (s.hbmRead a n))
  else if (s.hostBad (a % 2 ^ 62) n).isSome then none else some (s.hostRead (a % 2 ^ 62) n)

/-- What the checkers of HBM find in a read at a DMA address is noted (R409, R410). -/
def State.dmaNote (s : State) (a n : Nat) : State := if isHbm a then s.noteRead a n else s

def State.dmaPut (s : State) (a : Nat) (l : List Byte) : State :=
  if isHbm a then s.hbmWrite a l else s.hostWrite (a % 2 ^ 62) l

/-- Why a write at a DMA address stops the channel: 2 PROTECT for a live table, 5 BUS for a narrow write. -/
def State.dmaWriteStop (s : State) (a n : Nat) : Option Nat :=
  if isHbm a then (if s.host.admitted ∧ s.liveRange a n then some 2 else if s.narrow a n then some 5 else none) else none

/-- The last host write of a channel lies at an address (R391). -/
def State.dmaFlush (s : State) (c a : Nat) : State := if isHbm a then s else s.modDma c (fun d => { d with flush := some (a % 2 ^ 62) })

/-- A channel's write: what stops it is recorded by the unit that refuses it (R153, R412). -/
def State.dmaWrite (s : State) (c a : Nat) (l : List Byte) : State × Bool :=
  match s.dmaWriteStop a l.length with
  | none => ((s.dmaPut a l).dmaFlush c a, true)
  | some 2 => ((s.liveRefused a).dmaStopAt c 2 a, false)
  | some _ => ((s.event 0x1104 0 [a8 (s.hbmGroup a), a36 a, a8 (s.dmaCh c).master]).dmaStopAt c 5 a, false)

/-! ## Descriptors (R389) -/

/-- A descriptor as it is fetched. -/
def descOf (l : List Byte) : Desc :=
  { src := ofLE (l.take 8), dst := ofLE ((l.drop 8).take 8), len := ofLE ((l.drop 16).take 4), flags := ofLE ((l.drop 20).take 4),
    next := ofLE ((l.drop 24).take 8) }

def Desc.op (d : Desc) : Nat := bits d.flags 0 2
def Desc.sw (d : Desc) : Nat := 2 ^ bits d.flags 2 2
def Desc.dw (d : Desc) : Nat := 2 ^ bits d.flags 4 2
def Desc.crc (d : Desc) : Bool := bit d.flags 6
def Desc.irq (d : Desc) : Bool := bit d.flags 7
def Desc.last (d : Desc) : Bool := bit d.flags 8

/-- Whether a descriptor breaks a rule of its table; `use` is CRC_USE of the channel (R394). -/
def Desc.broken (d : Desc) (use : Bool) : Bool :=
  decide (2 ≤ d.op) || decide (d.flags / 2 ^ 9 ≠ 0) || ((d.crc || decide (d.op = 1)) && !use) || !dmaValid d.dst ||
  (!d.last && (!dmaValid d.next || decide (d.next % 32 ≠ 0))) ||
  (if d.op = 0 then
    !dmaValid d.src || decide (d.len = 0) || decide (d.len % d.sw ≠ 0) || decide (d.len % d.dw ≠ 0) || decide (d.src % d.sw ≠ 0) ||
      decide (d.dst % d.dw ≠ 0)
   else decide (d.len ≠ 0) || decide (d.src ≠ 0) || decide (bits d.flags 2 4 ≠ 0))

/-- The destination writes that the holding register allows; false where one stops the channel. -/
def State.dmaDrain (c dw : Nat) : Nat → State → List Byte → Nat → State × List Byte × Nat × Bool
  | 0, s, hold, a => (s, hold, a, true)
  | n + 1, s, hold, a =>
    if hold.length < dw then (s, hold, a, true)
    else match s.dmaWrite c a (hold.take dw) with
      | (t, true) => State.dmaDrain c dw n t (hold.drop dw) (a + dw)
      | (t, false) => (t, hold, a, false)

/-- The copy of R390: source reads of SW bytes, each followed by the writes that it makes possible; false where the channel has
stopped. `n` source accesses are left. -/
def State.dmaCopy (c : Nat) (d : Desc) : Nat → State → List Byte → Nat → Nat → State × Bool
  | 0, s, _, _, _ => (s, true)
  | n + 1, s, hold, src, dst =>
    match s.dmaRead src d.sw with
    | none => ((s.dmaNote src d.sw).dmaStopAt c 5 src, false)
    | some l =>
      let s0 := s.dmaNote src d.sw
      let s1 := if d.crc then s0.crcFeed (s.f (DMA_CH_CTL.CRC_ENG c)) l else s0
      match State.dmaDrain c d.dw 8 s1 (hold ++ l) dst with
      | (t, h, a, true) => State.dmaCopy c d n t h (src + d.sw) a
      | (t, _, _, false) => (t, false)

/-- What a descriptor's operation does; false where the channel has stopped. -/
def State.dmaOp (s : State) (c : Nat) (d : Desc) : State × Bool :=
  if d.op = 0 then
    match s.dmaRefused d.src d.len, s.dmaRefused d.dst d.len with
    | some a, _ => (s.dmaStopAt c 2 a, false)
    | none, some a => (s.dmaStopAt c 2 a, false)
    | none, none => State.dmaCopy c d (d.len / d.sw) s [] d.src d.dst
  else
    let e := s.f (DMA_CH_CTL.CRC_ENG c)
    let l := toLE (cdiv (s.crcWidth e) 8) (s.crcResult e)
    match s.dmaRefused d.dst l.length with
    | some a => (s.dmaStopAt c 2 a, false)
    | none => s.dmaWrite c d.dst l

/-- A fetched descriptor: checked, carried out, and the next one named (R389 to R394). -/
def State.dmaRun (s : State) (c a : Nat) (d : Desc) : State :=
  let s1 := (s.put (DMA_CH_CUR.ADDR c) a).put (DMA_CH_HOPS.COUNT c) (s.f (DMA_CH_HOPS.COUNT c) + 1)
  if d.broken (s1.on (DMA_CH_CTL.CRC_USE c)) then s1.dmaStop c 1
  else match s1.dmaOp c d with
    | (s2, false) => s2
    | (s2, true) =>
      let s3 := s2.modDma c (fun x => { x with irq := x.irq || d.irq })
      if d.last then s3.modDma c (fun x => { x with fetch := none, moved := true })
      else if d.next = s3.f (DMA_CH_HEAD.ADDR c) then s3.dmaStopAt c 4 a
      else s3.modDma c (fun x => { x with fetch := some d.next })

/-- Whether an ABORT of a channel waits for outstanding answers. -/
def State.dmaAborting (s : State) (c : Nat) : Bool := (s.dmaCh c).aborting.isSome

/-- DMA_DESCRIPTOR (R389): the next descriptor of a running channel that no ABORT ends. -/
def execDmaDescriptor (c : Fin 16) (s : State) : Host.Outcome State Fault Refusal :=
  match s.dmaRunning c && !s.dmaAborting c, (s.dmaCh c).fetch with
  | true, some a =>
    if max 1 (s.f DMA_CFG.HOP_LIMIT) ≤ s.f (DMA_CH_HOPS.COUNT c) then .next (s.dmaStopAt c 4 (s.f (DMA_CH_CUR.ADDR c)))
    else if ¬ dmaValid a ∨ a % 32 ≠ 0 then .next (s.dmaStop c 1)
    else match s.dmaRefused a 32 with
      | some x => .next (s.dmaStopAt c 2 x)
      | none => match s.dmaRead a 32 with
        | none => .next ((s.dmaNote a 32).dmaStopAt c 5 a)
        | some l => .next ((s.dmaNote a 32).dmaRun c a (descOf l))
  | _, _ => .next s

/-! ## Start, abort, end (R391, R392, R395) -/

/-- Whether a master may start a channel: the host and the service cores 0 to 13, the firmware's service cores 14 and 15. -/
def dmaMay (m c : Nat) : Bool := decide (m ≤ 4) && (decide (c ≤ 13) || decide (1 ≤ m))

/-- A chain starts at HEAD; a claimed engine stops it at once. -/
def State.dmaStart (s : State) (m c : Nat) : State :=
  let s1 := ((s.put (DMA_CH_STATUS.STATE c) 1).put (DMA_CH_STATUS.ERR c) 0).put (DMA_CH_HOPS.COUNT c) 0
  let s2 := s1.modDma c (fun d => { DmaCh.idle with fetch := some (s.f (DMA_CH_HEAD.ADDR c)), asked := d.asked, master := m })
  if s.on (DMA_CH_CTL.CRC_USE c) then
    let e := s.f (DMA_CH_CTL.CRC_ENG c)
    if s.on (CHK_CTL.CLAIMED e) then s2.dmaStop c 6
    else
      let s3 := (s2.flag (CHK_CTL.CLAIMED e)).put (CHK_CTL.CHANNEL e) c
      if s.on (DMA_CH_CTL.CRC_INIT c) then s3.crcReset e else s3
  else s2

/-- An abort of a running chain (R395): it ends once the answers of the descriptors carried out have come, and at once where there is
none. -/
def State.dmaAbort (s : State) (c : Nat) : State :=
  if s.dmaRunning c = false then s
  else if s.f (DMA_CH_HOPS.COUNT c) = 0 then s.dmaStop c 7
  else s.modDma c (fun d => { d with aborting := some (d.aborting.getD s.tick) })

/-- DMA_CH_CTL written by a master: the fields of an idle channel, then START, then ABORT. -/
def State.dmaCtlWrite (s : State) (m c v : Nat) : State :=
  let s1 := if s.dmaRunning c then s else
    ((s.put (DMA_CH_CTL.CRC_ENG c) (bits v 2 2)).put (DMA_CH_CTL.CRC_USE c) (bits v 4 1)).put (DMA_CH_CTL.CRC_INIT c) (bits v 5 1)
  let s2 := if bit v 0 ∧ s1.dmaRunning c = false ∧ dmaMay m c then s1.dmaStart m c else s1
  if bit v 1 then s2.dmaAbort c else s2

/-- DMA_START (R395): DMA_CH_CTL written with START. -/
def execDmaStart (m : Fin 8) (c : Fin 16) (v : Word) (s : State) : Host.Outcome State Fault Refusal :=
  if bit v.toNat 0 then .next (s.dmaCtlWrite m c v.toNat) else .next s

/-- DMA_ABORT (R395): DMA_CH_CTL written with ABORT. -/
def execDmaAbort (m : Fin 8) (c : Fin 16) (v : Word) (s : State) : Host.Outcome State Fault Refusal :=
  if bit v.toNat 1 then .next (s.dmaCtlWrite m c v.toNat) else .next s

/-- A chain ends DONE. -/
def State.dmaEnd (s : State) (c : Nat) : State :=
  let s0 := if s.on (DMA_CH_STATUS.DONE_SEEN c) then s else s.modDma c (fun d => { d with asked := false })
  let s1 := if (s.dmaCh c).irq then s0.dmaVector c else s0
  (((s1.put (DMA_CH_STATUS.STATE c) 2).flag (DMA_CH_STATUS.DONE_SEEN c)).modDma c (fun d =>
    { d with moved := false, aborting := none, flush := none })).dmaUnclaim c

/-- The address at which the zero-length read behind a channel's last host write has an error completion (R391, R392). -/
def State.flushBad (s : State) (c : Nat) : Option Nat := (s.dmaCh c).flush.bind (fun a => s.hostBad a 1)

/-- DMA_DONE (R391, R392, R395): every outstanding write has been answered. The chain ends DONE, or ABORTED where an ABORT waited for
these answers; where the last answer of a chain came in the tick of the ABORT it ends DONE. -/
def execDmaDone (c : Fin 16) (s : State) : Host.Outcome State Fault Refusal :=
  let d := s.dmaCh c
  if s.dmaRunning c ∧ (d.moved ∨ d.aborting.isSome) then
    match s.flushBad c with
    | some a => .next (s.dmaStopAt c 5 (hostWord 1 a))
    | none => if d.moved ∧ (d.aborting = none ∨ d.aborting = some s.tick) then .next (s.dmaEnd c) else .next (s.dmaStop c 7)
  else .next s

/-- DMA_TIMEOUT (R392, R395): the request at an address has had no answer for TMO; a chain that an ABORT ends is ABORTED. -/
def execDmaTimeout (c : Fin 16) (addr : Nat) (s : State) : Host.Outcome State Fault Refusal :=
  if s.dmaRunning c then .next (if s.dmaAborting c then s.dmaStop c 7 else s.dmaStopAt c 3 addr) else .next s

/-! ## The firmware's transfers (R382) -/

/-- A transfer of the firmware over channel 14 or 15 has ended. Its chain is the firmware's: HEAD, CUR and HOPS are free values (log
entry 35). -/
def State.fwMoved (s : State) (c : Nat) : State :=
  let (h, s1) := s.free 64
  let (u, s2) := s1.free 64
  let (n, s3) := s2.free 17
  ((((s3.put (DMA_CH_HEAD.ADDR c) h).put (DMA_CH_CUR.ADDR c) u).put (DMA_CH_HOPS.COUNT c) n).put (DMA_CH_STATUS.STATE c) 2).flag
    (DMA_CH_STATUS.DONE_SEEN c)

end Sys2Proof.Machine
end

