-- ==== Sys2Proof/Machine/Sage.lean ====
section
/-! DEFINITION. Sage: fuses, lifecycle, device keys, wrapped keys, authorisation tokens, signed images (R344 to R358, R363). -/

namespace Sys2Proof.Machine

open Sys2Proof

/-! ## Service responses (R382, R383, R385) -/

/-- Whether SC0 carries out a request now: it runs, the boot has not failed, and the response has a place in its channel (R374, R446,
R448). -/
def State.canServe (s : State) : Bool :=
  s.on (PWR_SC_CTL.RUNNING 0) && decide (s.f PWR_BOOT_STATUS.STAGE ≠ 7) && decide ((s.channel 1 0).msgs.length < 4)

/-- A response: word 0 with LEN, SERVICE with RESP, TAG, STATUS and the payload from +12. -/
def responseBytes (tag service status : Nat) (payload : List Byte) : List Byte :=
  let l := toLE 4 ((8 + payload.length) * 256) ++ toLE 4 (service % 2 ^ 15 + 2 ^ 15 + tag % 2 ^ 16 * 2 ^ 16) ++ toLE 4 status ++ payload
  (l ++ List.replicate (64 - l.length) 0).take 64

/-- The response of a service is pushed. -/
def State.respond (s : State) (tag service status : Nat) (payload : List Byte) : State :=
  s.deliver 1 0 (responseBytes tag service status payload)

/-- The codes of R384. -/
def serviceCodes : List Nat := [0x01, 0x10, 0x11, 0x12, 0x20, 0x30, 0x31, 0x40, 0x50, 0x51, 0x52, 0x53]

/-- The oldest request of the tool host that has not been carried out. -/
def State.request (s : State) : Option (List Byte) := (s.channel 0 1).msgs.head?

/-- SERVICE with RESP of a message, and its TAG (R383). -/
def reqCode (m : List Byte) : Nat := ofLE ((m.drop 4).take 2)
def reqTag (m : List Byte) : Nat := ofLE ((m.drop 6).take 2)

/-- Requests at the head of the channel that name no service are answered with status 1 (R385). -/
def State.answerUnknown : Nat → State → State
  | 0, s => s
  | n + 1, s =>
    match s.request with
    | some m => if reqCode m ∈ serviceCodes ∨ s.canServe = false then s
                else ((s.pop 0 1).respond (reqTag m) (reqCode m) 1 []).answerUnknown n
    | none => s

/-- Whether the request at the head of the channel is this one: its SERVICE, its TAG and its arguments from +8. -/
def State.asks (s : State) (tag service : Nat) (args : List Byte) : Bool :=
  match s.request with
  | some m => decide (reqCode m = service ∧ reqTag m = tag) &&
      decide (ofLE ((m.drop 8).take args.length) = ofLE args)
  | none => false

/-- A service carried out on the request at the head of the channel, which it takes off (R382): in safe halt those that are not exempt
are answered with status 5 (R426). A command whose request is not at the head, or whose response has no place yet, leaves it there. -/
def State.serve (s : State) (tag service : Nat) (args : List Byte) (exempt : Bool) (k : State → State) : State :=
  let t := s.answerUnknown 4
  if t.canServe ∧ t.asks tag service args then
    if t.on EVJ_STATUS.SAFE ∧ exempt = false then (t.pop 0 1).respond tag service 5 [] else k (t.pop 0 1)
  else t

/-- A service whose arguments begin with a host address: status 2 where it is malformed. -/
def State.serveAt (s : State) (tag service addr : Nat) (args : List Byte) (exempt : Bool) (k : State → Nat → State) : State :=
  s.serve tag service (toLE 8 addr ++ args) exempt (fun t => match hostAddr addr with
    | some a => k t a
    | none => t.respond tag service 2 [])

/-- A service's data in host memory, read over channel 14, or status 4 where a read has an error completion: that channel stops with BUS
(R382, R385, R392). -/
def State.fetchHost (s : State) (tag service a n : Nat) (k : State → List Byte → State) : State :=
  match s.hostBad a n with
  | some x => (s.dmaStopAt 14 5 (hostWord 1 x)).respond tag service 4 []
  | none => k (if n = 0 then s else s.fwMoved 14) (s.hostRead a n)

/-- A service's data written to host memory over channel 15, or status 4 where the read behind the writes has an error completion. -/
def State.storeHost (s : State) (tag service a : Nat) (l : List Byte) (k : State → State) : State :=
  match s.hostBad (a + l.length - 1) 1 with
  | some x => (s.dmaStopAt 15 5 (hostWord 1 x)).respond tag service 4 []
  | none => k ((s.fwMoved 15).hostWrite a l)

/-! ## Fuses (R346, R347) -/

/-- Bits that read 1 in bytes of the fuse array. -/
def popBits : Nat → Nat → Nat
  | 0, _ => 0
  | n + 1, v => v % 2 + popBits n (v / 2)

def State.fuseLE (s : State) (o n : Nat) : Nat := rdLE s.sage.fuses o n

/-- A 32-bit marker is blown when at least 24 of its bits read 1. -/
def State.marker32 (s : State) (o : Nat) : Bool := decide (24 ≤ popBits 32 (s.fuseLE o 4))

/-- An 8-bit marker is blown when at least 6 of its bits read 1. -/
def State.marker8 (s : State) (o : Nat) : Bool := decide (6 ≤ popBits 8 (s.fuseLE o 1))

/-- A thermometer's value. -/
def State.thermo (s : State) (o : Nat) : Nat := popBits 128 (s.fuseLE o 16)

/-- The corrected word of a checked field; none where it is uncorrectable. -/
def State.fuseWord (s : State) (o : Nat) : Option Nat :=
  let d := s.fuseLE o 8
  match secdedRead d (s.fuseLE (0x200 + o / 8) 1) with
  | .good => some d
  | .corrected v _ => some v
  | .bad => none

/-- The corrected words from an offset. -/
def State.fuseWords (s : State) : Nat → Nat → Option (List Byte)
  | _, 0 => some []
  | o, n + 1 => (s.fuseWord o).bind (fun d => (s.fuseWords (o + 8) n).map (fun l => toLE 8 d ++ l))

/-- A checked field of n bytes; none where it is invalid. -/
def State.checked (s : State) (o n : Nat) : Option (List Byte) := (s.fuseWords o (cdiv n 8)).map (fun l => l.take n)

def State.serial (s : State) : Option Nat := (s.checked 0x010 8).map ofLE
def State.features (s : State) : Option Nat := (s.checked 0x018 4).map ofLE
def opOff (k : Nat) : Nat := 0x080 + 48 * k
def kytOff (k : Nat) : Nat := 0x020 + 48 * k

/-- Whether no bit of a hash slot and of its check bytes is blown. -/
def State.slotBlank (s : State) (o : Nat) : Bool :=
  decide (s.fuseLE o 48 = 0) && decide (s.fuseLE (0x200 + o / 8) 6 = 0)

/-- A hash slot burned with a correct check. -/
def State.slotValid (s : State) (o : Nat) : Bool := !s.slotBlank o && (s.checked o 48).isSome

def State.opValid (s : State) (k : Nat) : Bool := s.slotValid (opOff k)
def State.opRevoked (s : State) (k : Nat) : Bool := s.marker8 (0x140 + k) || (s.checked (opOff k) 48).isNone
def State.kytValid (s : State) (k : Nat) : Bool := s.slotValid (kytOff k)
def State.kytRevoked (s : State) (k : Nat) : Bool := s.marker8 (0x144 + k) || (s.checked (kytOff k) 48).isNone
def State.opUsable (s : State) (k : Nat) : Bool := decide (k < 4) && s.opValid k && !s.opRevoked k
def State.kytUsable (s : State) (k : Nat) : Bool := decide (k < 2) && s.kytValid k && !s.kytRevoked k

/-- A mask of the first n numbers that satisfy a test. -/
def maskOf (n : Nat) (p : Nat → Bool) : Nat := ((List.range n).map (fun i => if p i then 2 ^ i else 0)).sum

/-- The lifecycle (R349): 0 BLANK, 1 PROVISIONED, 2 SECURED, 3 RETIRED. -/
def State.lifecycle (s : State) : Nat :=
  if s.marker32 8 then 3 else if s.marker32 4 then 2 else if s.marker32 0 then 1 else 0

def State.debugLock (s : State) : Bool := s.marker32 0x00C

/-- A register that shows a checked field: its value, free where the field is invalid. -/
def State.putChecked (s : State) (x : Fld) (v : Option Nat) : State :=
  match v with
  | some n => s.put x n
  | none => let (n, t) := s.free x.w; t.put x n

/-- The fuse shadow follows the fuses (R347, R417), but for words whose copies disagree (R418). -/
def State.loadTriples (s : State) : State :=
  { s with mem := { s.mem with tmr := (List.range 52).filterMap (fun i =>
      let w := if s.tripleHeld i then mnat s.mem.tmr i else s.fuseLE (8 * i) 8
      if w = 0 then none else some (i, w)) ++ s.mem.tmr.filter (fun (e : Nat × Nat) => decide (52 ≤ e.1)) } }

/-- Sage's registers and the shadow follow the fuses. -/
def State.showFuses (s : State) : State :=
  let s1 := (s.putOwned 52 SAG_STATUS.LIFECYCLE s.lifecycle).putOwned 52 SAG_STATUS.DEBUG_LOCK (b2n s.debugLock)
  let s2 := (s1.put SAG_SLOTS.OP_VALID (maskOf 4 s.opValid)).put SAG_SLOTS.OP_REVOKED (maskOf 4 s.opRevoked)
  let s3 := (s2.put SAG_SLOTS.KYT_VALID (maskOf 2 s.kytValid)).put SAG_SLOTS.KYT_REVOKED (maskOf 2 s.kytRevoked)
  let s4 := (s3.put SAG_ROLLBACK.FW_CTR (s.thermo 0x150)).put SAG_ROLLBACK.PROG_CTR (s.thermo 0x160)
  ((s4.putChecked SAG_SERIAL.SERIAL s.serial).putChecked SAG_FEATURE.FEATURE s.features).loadTriples

/-! ## Burning (R356): whether every bit blows is free -/

/-- The bits of a byte that blow: all of them, or a free choice where the burn fails. -/
def State.burnByte (s : State) (fails : Bool) (o : Nat) (v : Byte) : State :=
  let (m, t) : Byte × State := if fails then let (n, u) := s.free 8; (v &&& BitVec.ofNat 8 n, u) else (v, s)
  { t with sage := { t.sage with fuses := wrByte t.sage.fuses o (rdByte t.sage.fuses o ||| m) } }

def State.burnRun (s : State) (fails : Bool) : Nat → List Byte → State
  | _, [] => s
  | o, b :: r => (s.burnByte fails o b).burnRun fails (o + 1) r

/-- Bits of a marker or thermometer field burned, with three retries. -/
def State.burn (s : State) (o : Nat) (l : List Byte) : State :=
  let (f, t) := s.free 1
  t.burnRun (decide (f = 1)) o l

/-- The check bytes of the n words from an offset, for their data with bytes burned in. -/
def checkBytes (m : List Host.Cell) : Nat → Nat → List Byte
  | _, 0 => []
  | o, n + 1 => BitVec.ofNat 8 (secdedCheck (rdLE m o 8)) :: checkBytes m (o + 8) n

/-- Bytes ORed into the fuse array. -/
def orBytes : List Host.Cell → Nat → List Byte → List Host.Cell
  | m, _, [] => m
  | m, o, b :: r => orBytes (wrByte m o (rdByte m o ||| b)) (o + 1) r

/-- A checked field burned with its check bytes, and whether it reads as intended. -/
def State.burnChecked (s : State) (o : Nat) (l : List Byte) : State × Bool :=
  let aim := orBytes s.sage.fuses o l
  let w := o / 8 * 8
  let n := cdiv (o + l.length - w) 8
  let (f, t) := s.free 1
  let t1 := (t.burnRun (decide (f = 1)) o l).burnRun (decide (f = 1)) (0x200 + w / 8) (checkBytes aim w n)
  (t1, decide (t1.checked o l.length = some (rdBytes aim o l.length)))

/-! ## Device keys (R351) -/

def ascii (t : String) : List Byte := t.toList.map (fun c => BitVec.ofNat 8 c.toNat)

/-- A secret key from the seed: the expanded 48 bytes modulo n − 1, plus 1. -/
def deviceKey (serial : Nat) (seed : List Byte) (info : String) : Nat :=
  ofBE (hkdf (toLE 8 serial) seed (ascii info) 48) % (pN - 1) + 1

/-- The identity and key-agreement secret keys, where the seed is valid. -/
def State.deviceKeys (s : State) : Option (Nat × Nat) :=
  match s.checked 0x1A0 32, s.serial with
  | some seed, some n => some (deviceKey n seed "KYT-F2620-ID", deviceKey n seed "KYT-F2620-KA")
  | _, _ => none

/-- The hash of the two public keys. -/
def keysHash (k : Nat × Nat) : List Byte := sha384 (ecPublic k.1 ++ ecPublic k.2)

/-- Both key pairs are derived and their hash is compared with fuse 0x170. -/
def State.deriveKeys (s : State) : State :=
  match s.deviceKeys with
  | some k =>
    if s.checked 0x170 48 = some (keysHash k) then { s with sage := { s.sage with keysOk := true } }
    else ({ s with sage := { s.sage with keysOk := false } }).allFault 0x1311 [a8 0]
  | none => ({ s with sage := { s.sage with keysOk := false } }).allFault 0x1311 [a8 0]

/-- An ECDSA signature by the identity key over a hash, under a fresh nonce. -/
def State.identitySign (s : State) (hash : List Byte) : List Byte × State :=
  let (k, t) := s.free 384
  match s.deviceKeys with
  | some d => (ecdsaSign d.1 hash (k % (pN - 1) + 1), t)
  | none => (List.replicate 96 0, t)

/-! ## Refusals (R358) -/

/-- The first code of a list of checks that fails. -/
def firstCode : List (Nat × Bool) → Option Nat
  | [] => none
  | (n, bad) :: r => if bad then some n else firstCode r

/-- A blob, image or token is refused: counted and shown. -/
def State.sageRefuse (s : State) (code : Nat) (args : List Arg) : State :=
  ((s.flag SAG_STATUS.REFUSE_SEEN).count SAG_CNT_REFUSE.COUNT 1).event code 0 args

/-- Whether keys and programs are permitted (R349). -/
def State.inService (s : State) : Bool := decide (s.lifecycle = 1) || decide (s.lifecycle = 2)

/-! ## Wrapped keys (R352 to R354) -/

/-- The fields of a blob. -/
def blobType (b : List Byte) : Nat := ofLE ((b.drop 1).take 1)
def blobTarget (b : List Byte) : Nat := ofLE ((b.drop 2).take 1)
def blobFlags (b : List Byte) : Nat := ofLE ((b.drop 3).take 1)
def blobSerial (b : List Byte) : Nat := ofLE ((b.drop 8).take 8)
def blobJob (b : List Byte) : Nat := ofLE ((b.drop 16).take 16)
def blobEpub (b : List Byte) : List Byte := (b.drop 32).take 97
def blobWrapped (b : List Byte) : List Byte := (b.drop 136).take 40

/-- A version, type, target, DIAG or reserved field of a blob is wrong (code 2). -/
def blobMalformed (b : List Byte) : Bool :=
  decide (b.length ≠ 176) || decide (ofLE (b.take 1) ≠ 1) || !(decide (blobType b = 1) || decide (blobType b = 2)) ||
  decide ((if blobType b = 1 then 2 else 4) ≤ blobTarget b) || decide (2 ≤ blobFlags b) ||
  (decide (blobType b = 2) && decide (blobFlags b ≠ 0)) || decide (ofLE ((b.drop 4).take 4) ≠ 0) ||
  decide (ofLE ((b.drop 129).take 7) ≠ 0) || (decide (blobType b = 2) && decide (ofLE ((b.drop 160).take 16) ≠ 0))

/-- The unwrapped key of a blob (R353). -/
def State.unwrapBlob (s : State) (b : List Byte) : Option (List Byte) :=
  if s.sage.keysOk then
    match s.deviceKeys with
    | none => none
    | some k => (ecdh k.2 (blobEpub b)).bind (fun z =>
        let info := ascii "KYT-F2620-KEK" ++ toLE 1 (blobType b) ++ toLE 1 (blobFlags b) ++ toLE 8 (blobSerial b) ++ blobEpub b
        keyUnwrap (hkdf (toLE 16 (blobJob b)) z info 32) ((blobWrapped b).take (if blobType b = 1 then 40 else 24)))
  else none

/-- Whether a live generation names a lane key slot with PUN_KS_CTL.EN = 1 (R354). -/
def State.laneSlotLive (s : State) (n : Nat) : Bool :=
  s.liveBanks.any (fun b => decide (b.rd PUN_KS_CTL.EN = 1) && decide (b.rd PUN_KS_CTL.SLOT = n))

/-- The target of a blob is busy (code 9). -/
def State.targetBusy (s : State) (b : List Byte) : Bool :=
  if blobType b = 1 then (match s.sage.jobKeys[blobTarget b]? with | some (some _) => true | _ => false)
  else s.laneSlotLive (blobTarget b)

/-- The code under which a blob is refused. -/
def State.blobCode (s : State) (b : List Byte) : Option Nat :=
  firstCode [(1, !s.inService), (2, blobMalformed b), (3, decide (s.serial ≠ some (blobSerial b))), (9, s.targetBusy b),
    (10, (s.unwrapBlob b).isNone), (12, decide (blobType b = 2) && !bit (s.f SAG_FEATURE.FEATURE) 0), (13, s.on SAG_STATUS.DEBUG_OPEN)]

/-- A key is loaded into its slot, whose pointer word follows (R417), KEY_LOADED; a lane key clears the slot's nonce record. -/
def State.loadKey (s : State) (b key : List Byte) : State :=
  let n := blobTarget b
  let s1 : State :=
    if blobType b = 1 then
      let d := decide (blobFlags b = 1)
      let t := { s with sage := { s.sage with
        jobKeys := s.sage.jobKeys.set n (some (JobKey.mk key (blobJob b) d)) } }
      (t.put SAG_STATUS.JOB_KEY (setBit (t.f SAG_STATUS.JOB_KEY) n)).put SAG_STATUS.DIAG
        (if d then setBit (t.f SAG_STATUS.DIAG) n else clrBit (t.f SAG_STATUS.DIAG) n)
    else
      let t := { s with sage := { s.sage with laneKeys := s.sage.laneKeys.set n (some key) },
                        link := { s.link with nonces := s.link.nonces.set n none } }
      t.put SAG_STATUS.LANE_KEY (setBit (t.f SAG_STATUS.LANE_KEY) n)
  (s1.setPointer ((if blobType b = 1 then 56 else 58) + n) true).event 0x1301 0 [a8 (blobType b), a8 n, a32 (blobJob b % 2 ^ 32)]

/-- A blob presented: the key loaded, or a refusal with its code. -/
def State.presentBlob (s : State) (b : List Byte) : State × Option Nat :=
  match s.blobCode b with
  | some c => (s.sageRefuse 0x1302 [a8 (blobType b), a8 (blobTarget b), a8 c], some c)
  | none => match s.unwrapBlob b with
    | some k => (s.loadKey b k, none)
    | none => (s, some 10)

/-- Every key slot is zeroised (R354). -/
def State.zeroKeys (s : State) : State :=
  let s0 := (s.zeroKey 0).zeroKey 1
  let s1 := (List.range 4).foldl (fun (t : State) i => t.setPointer (58 + i) false) s0
  { s1 with sage := { s1.sage with laneKeys := List.replicate 4 none } }.put SAG_STATUS.LANE_KEY 0

/-! ## Signed images (R357, R358) -/

/-- The code under which an image of a kind is refused; an image that is accepted unsigned is not checked for its signer. -/
def State.imageCode (s : State) (kind : Nat) (unsigned : Bool) (img : List Byte) : Option Nat :=
  let fld (o n : Nat) : Nat := ofLE ((img.drop o).take n)
  let len := fld 4 4
  let slot := fld 12 1
  let pub := (img.drop 96).take 97
  let hash := if kind = 1 then s.checked (kytOff slot) 48 else s.checked (opOff slot) 48
  let usable := if kind = 1 then s.kytUsable slot else s.opUsable slot
  firstCode [(1, decide (kind = 2) && !s.inService),
    (2, decide (img.length ≠ 296 + len) || decide (fld 0 1 ≠ kind) || decide (fld 1 1 ≠ 1) || decide (fld 2 2 ≠ 0) ||
        (if kind = 1 then decide (16 * mib < len) else decide (262144 < len) || decide (len % 8 ≠ 0)) || decide (128 < fld 8 4) ||
        decide (fld 13 3 ≠ 0) || decide (fld 72 24 ≠ 0) || decide (fld 193 7 ≠ 0)),
    (3, decide (fld 64 8 ≠ 0) && decide (s.serial ≠ some (fld 64 8))),
    (4, !unsigned && (!usable || decide (hash ≠ some (sha384 pub)))),
    (5, !unsigned && !ecdsaVerify pub (sha384 (img.take 200)) ((img.drop 200).take 96)),
    (7, decide (fld 8 4 < s.thermo (if kind = 1 then 0x150 else 0x160))),
    (8, decide ((img.drop 16).take 48 ≠ sha384 (img.drop 296)))]

/-- The signed fields that an accepted image gives: BODY_HASH, SV and SLOT. -/
def imageHash (img : List Byte) : List Byte := (img.drop 16).take 48
def imageSv (img : List Byte) : Nat := ofLE ((img.drop 8).take 4)
def imageSlot (img : List Byte) : Nat := ofLE ((img.drop 12).take 1)

/-! ## Authorisation tokens (R355, R356) -/

/-- A token's action, argument, signer kind and slot. -/
structure Token where
  action : Nat
  arg    : Nat
  ahash  : List Byte
  kyt    : Bool
  slot   : Nat

def tokenOf (t : List Byte) : Token :=
  { action := ofLE ((t.drop 1).take 1), arg := ofLE ((t.drop 4).take 4), ahash := (t.drop 48).take 48,
    kyt := decide (ofLE ((t.drop 96).take 1) = 0), slot := ofLE ((t.drop 97).take 1) }

/-- Whether the lifecycle permits an action. -/
def permits (action lc : Nat) : Bool :=
  if action = 1 then decide (lc = 0) else if action = 2 ∨ action = 8 then decide (lc = 1) else decide (lc = 1) || decide (lc = 2)

/-- Whether an action's argument or action hash is wrong (code 2). -/
def State.tokenMalformed (s : State) (t : List Byte) (action : Nat) : Bool :=
  let k := tokenOf t
  let argBad : Bool :=
    if action = 4 ∨ action = 5 then decide (4 ≤ k.arg)
    else if action = 6 then decide (2 ≤ k.arg)
    else if action = 8 then decide (16 ≤ k.arg)
    else if action = 9 then decide (128 < k.arg) || decide (k.arg < s.thermo 0x150)
    else if action = 10 then decide (128 < k.arg) || decide (k.arg < s.thermo 0x160)
    else if action = 11 then decide (2 ≤ k.arg)
    else decide (k.arg ≠ 0)
  decide (ofLE (t.take 1) ≠ 1) || decide (action = 0) || decide (11 < action) || decide (ofLE ((t.drop 2).take 2) ≠ 0) ||
    argBad || (decide (action ≠ 4) && decide (ofLE k.ahash ≠ 0)) || decide (2 ≤ ofLE ((t.drop 96).take 1)) ||
    decide (ofLE ((t.drop 98).take 6) ≠ 0)

/-- Whether a signer may sign an action. -/
def signerKind (action : Nat) (k : Token) : Bool :=
  if action = 1 ∨ action = 8 ∨ action = 9 then k.kyt
  else if action = 2 ∨ action = 7 ∨ action = 10 then !k.kyt
  else if action = 4 ∨ action = 5 then k.kyt || decide (k.slot ≠ k.arg)
  else if action = 11 then k.kyt && decide (k.slot ≠ k.arg)
  else true

/-- Operator slots valid and unrevoked. -/
def State.opCount (s : State) : Nat := ((List.range 4).filter s.opUsable).length

/-- The code under which a token is refused. -/
def State.tokenCode (s : State) (action : Nat) (t pub : List Byte) : Option Nat :=
  let k := tokenOf t
  let hash := s.checked (if k.kyt then kytOff k.slot else opOff k.slot) 48
  let usable := if k.kyt then s.kytUsable k.slot else s.opUsable k.slot
  firstCode [(1, !permits action s.lifecycle), (2, s.tokenMalformed t action),
    (3, decide (s.serial ≠ some (ofLE ((t.drop 8).take 8)))),
    (4, !usable || !signerKind action k || decide (hash ≠ some (sha384 pub))),
    (5, !ecdsaVerify pub (sha384 (t.take 104)) ((t.drop 104).take 96)),
    (6, decide (s.sage.chal ≠ some ((t.drop 16).take 32))),
    (9, (decide (action = 4) && !s.slotBlank (opOff k.arg)) ||
        (decide (action = 6) && decide (k.arg = 0) && (s.ctxOpen 0 || s.ctxOpen 1))),
    (11, decide (action ≠ 6) && !s.on SAG_STATUS.FUSE_PWR),
    (13, decide (action = 6) && s.debugLock),
    (14, (decide (action = 2) && decide (s.opCount = 0)) ||
         (decide (action = 5) && decide (s.lifecycle = 2) && decide (s.opCount - b2n (s.opUsable k.arg) = 0)))]

/-- The challenge is consumed. -/
def State.dropChal (s : State) : State := { s with sage := { s.sage with chal := none } }.put SAG_STATUS.CHAL 0

/-- A lifecycle transition is journalled. -/
def State.tellLifecycle (s : State) (old : Nat) : State :=
  if s.lifecycle = old then s else s.event 0x1305 0 [a8 old, a8 s.lifecycle]

/-- The response to a token: its ACTION. -/
def State.answerToken (s : State) (tag action status : Nat) : State := s.respond tag 0x51 status (toLE 4 action)

/-- A completed burn: FUSE_BURN, the registers that follow the fuses, the lifecycle's record, and the response. -/
def State.burnDone (s : State) (tag action arg old : Nat) : State :=
  ((s.showFuses.event 0x1306 0 [a8 action, a32 arg]).tellLifecycle old).answerToken tag action 0

/-- A checked field failed: FUSE_BURN_FAIL, and a refusal to which the manual gives no status. -/
def State.burnFail (s : State) (tag action o : Nat) : State :=
  let (v, t) := s.showFuses.free 32
  (t.sageRefuse 0x1307 [a8 action, a16 o]).answerToken tag action v

/-- The ACTION of the token at an address of host memory (R355). -/
def State.actionAt (s : State) (a : Nat) : Nat := (tokenOf (s.hostRead a 200)).action

/-- Whether a command of an ACTION handles the token at a host address: its own, or one whose ACTION R356 does not list. -/
def State.tokenFor (s : State) (action addr : Nat) : Bool :=
  match hostAddr addr with
  | some a => decide (s.actionAt a = action) || decide (s.actionAt a = 0) || decide (11 < s.actionAt a) || (s.hostBad a 297).isSome
  | none => true

/-- A token presented through the TOKEN service, with the signer's public key behind it in host memory (R355, R384): a refusal with
its code, or the action. Safe halt permits none (R426). -/
def State.token (s : State) (tag action addr : Nat) (act : State → Token → State) : State :=
  if s.tokenFor action addr then
    s.serveAt tag 0x51 addr [] false (fun v a => v.fetchHost tag 0x51 a 297 (fun u l =>
      let t := l.take 200
      match u.tokenCode (tokenOf t).action t (l.drop 200) with
      | some c => (u.dropChal.sageRefuse 0x1304 [a8 (tokenOf t).action, a8 c]).answerToken tag (tokenOf t).action (0x100 + c)
      | none => act u.dropChal (tokenOf t)))
  else s

/-- Free bytes: what the true random generator draws. -/
def State.freeBytes (s : State) (n : Nat) : List Byte × State := let (v, t) := s.free (8 * n); (toLE n v, t)

/-- PROVISION's action (R350): the seed, both key pairs, their hash, PROV, and the public keys signed with the identity key. -/
def State.provision (s : State) (tag : Nat) : State :=
  let (seed, s1) := s.freeBytes 32
  let (s2, ok) := s1.burnChecked 0x1A0 seed
  if ok then
    match s2.deviceKeys with
    | none => s2.burnFail tag 1 0x010
    | some k =>
      let (s3, ok2) := s2.burnChecked 0x170 (keysHash k)
      if ok2 then
        let s4 := ({ s3 with sage := { s3.sage with keysOk := true } }).burn 0 (List.replicate 4 0xFF)
        let (sig, s5) := s4.identitySign (keysHash k)
        (s5.send (.provisioned (ecPublic k.1) (ecPublic k.2) sig)).burnDone tag 1 0 s.lifecycle
      else s3.burnFail tag 1 0x170
  else s2.burnFail tag 1 0x1A0

/-- PROVISION (R350, R356). -/
def execProvision (tag space offs : Nat) (s : State) : Host.Outcome State Fault Refusal :=
  .next (s.token tag 1 (hostWord space offs) (fun t _ => t.provision tag))

/-- SECURE (R350). -/
def execSecure (tag space offs : Nat) (s : State) : Host.Outcome State Fault Refusal :=
  .next (s.token tag 2 (hostWord space offs) (fun t _ => (t.burn 4 (List.replicate 4 0xFF)).burnDone tag 2 0 t.lifecycle))

/-- All of HBM is written to 0, the own cells behind its Cullet entries included. -/
def State.clearHbm (s : State) : State :=
  { s with mem := { s.mem with
    hbm := [], checks := s.mem.checks.filter (fun (e : Nat × Nat) => decide (2 ^ 36 ≤ e.1)),
    poison := s.mem.poison.filter (fun a => decide (2 ^ 36 ≤ a)), hbmWritten := true,
    spares := s.mem.spares.map (fun (e : Nat × Spare) => if e.1 / 16 < 4 then (e.1, s.zeroSpare (e.1 / 16) e.2) else e),
    grpWritten := s.mem.grpWritten.mapIdx (fun g w => w || decide (g < 4)) } }

/-- RETIRE's action: keys zeroised, HBM cleared, RET blown before the seed is touched, every bit of the seed burned. -/
def State.retireDevice (s : State) (tag : Nat) : State :=
  let s1 := (s.zeroKeys.clearHbm.burn 8 (List.replicate 4 0xFF)).burn 0x1A0 (List.replicate 32 0xFF)
  ({ s1 with sage := { s1.sage with keysOk := false } }).burnDone tag 3 0 s.lifecycle

/-- RETIRE (R350). -/
def execRetire (tag space offs : Nat) (s : State) : Host.Outcome State Fault Refusal :=
  .next (s.token tag 3 (hostWord space offs) (fun t _ => t.retireDevice tag))

/-- BURN_OPERATOR (R356): a slot that fails its check is revoked in the same operation. -/
def execBurnOperator (tag space offs : Nat) (s : State) : Host.Outcome State Fault Refusal :=
  .next (s.token tag 4 (hostWord space offs) (fun t k =>
    let (u, ok) := t.burnChecked (opOff k.arg) k.ahash
    if ok then u.burnDone tag 4 k.arg t.lifecycle else (u.burn (0x140 + k.arg) [0xFF]).burnFail tag 4 (opOff k.arg)))

/-- REVOKE_OPERATOR (R356). -/
def execRevokeOperator (tag space offs : Nat) (s : State) : Host.Outcome State Fault Refusal :=
  .next (s.token tag 5 (hostWord space offs) (fun t k => (t.burn (0x140 + k.arg) [0xFF]).burnDone tag 5 k.arg t.lifecycle))

/-- The contexts that are open. -/
def State.openCtxs (s : State) : List Nat := [0, 1].filter s.ctxOpen

/-- A stripe that flashes halts at the flash of R214 with UNLOCK_HALT. -/
def State.unlockHalt (s : State) : State :=
  match s.gaf.active with
  | some a => if s.mot.flashing then s.halt 0x1312 s.openFlash [a32 a.num, a32 s.openFlash] else s
  | none => s

/-- DEBUG_UNLOCK's action (R363). -/
def State.unlock (s : State) : State :=
  let c := s.openCtxs
  let s1 := c.foldl (fun t n => t.jobFault n 0x1310 false [a8 n]) s
  let s2 := s1.zeroKeys.unlockHalt.clearHbm.clearSram
  (s2.putOwned 52 SAG_STATUS.DEBUG_OPEN 1).event 0x1308 0 [a8 c.length]

/-- DEBUG_UNLOCK (R356, R363). -/
def execDebugUnlock (tag space offs : Nat) (s : State) : Host.Outcome State Fault Refusal :=
  .next (s.token tag 6 (hostWord space offs) (fun t _ => t.unlock.answerToken tag 6 0))

/-- LOCK_DEBUG (R356). -/
def execLockDebug (tag space offs : Nat) (s : State) : Host.Outcome State Fault Refusal :=
  .next (s.token tag 7 (hostWord space offs) (fun t _ => (t.burn 0x00C (List.replicate 4 0xFF)).burnDone tag 7 0 t.lifecycle))

/-- BURN_FEATURE (R356): further bits of a checked field, with its check byte. -/
def execBurnFeature (tag space offs : Nat) (s : State) : Host.Outcome State Fault Refusal :=
  .next (s.token tag 8 (hostWord space offs) (fun t k =>
    let (u, ok) := t.burnChecked 0x018 (toLE 4 k.arg)
    if ok then u.burnDone tag 8 k.arg t.lifecycle else u.burnFail tag 8 0x018))

/-- A number with its lowest bits that read 0 set, until n bits read 1. -/
def fillBits : Nat → Nat → Nat → Nat → Nat
  | 0, v, _, _ => v
  | fuel + 1, v, i, n => if popBits 128 v < n then fillBits fuel (setBit v i) (i + 1) n else v

/-- A thermometer advanced to a value. -/
def State.advance (s : State) (o n : Nat) : State := s.burn o (toLE 16 (fillBits 128 (s.fuseLE o 16) 0 n))

/-- ADVANCE_FW (R356). -/
def execAdvanceFw (tag space offs : Nat) (s : State) : Host.Outcome State Fault Refusal :=
  .next (s.token tag 9 (hostWord space offs) (fun t k => (t.advance 0x150 k.arg).burnDone tag 9 k.arg t.lifecycle))

/-- ADVANCE_PROG (R356). -/
def execAdvanceProg (tag space offs : Nat) (s : State) : Host.Outcome State Fault Refusal :=
  .next (s.token tag 10 (hostWord space offs) (fun t k => (t.advance 0x160 k.arg).burnDone tag 10 k.arg t.lifecycle))

/-- REVOKE_KYTUEST (R356). -/
def execRevokeKytuest (tag space offs : Nat) (s : State) : Host.Outcome State Fault Refusal :=
  .next (s.token tag 11 (hostWord space offs) (fun t k => (t.burn (0x144 + k.arg) [0xFF]).burnDone tag 11 k.arg t.lifecycle))

/-- CHALLENGE_EXPIRY (R355): the outstanding challenge expires 60 s after it was issued. -/
def execChallengeExpiry (s : State) : Host.Outcome State Fault Refusal :=
  match s.sage.chal with
  | none => .next s
  | some _ => if s.sage.chalAt + 600000000000 ≤ s.mono100 then .next s.dropChal else .next s

end Sys2Proof.Machine
end

