-- ==== Sys2Proof/Machine/Services.lean ====
section
/-! DEFINITION. The services of SC0 (R382 to R387), the attestation report (R362) and the program load (R275). -/

namespace Sys2Proof.Machine

open Sys2Proof

/-- The stored value of a register. -/
def State.rawReg (s : State) (a : Nat) : Nat :=
  match regAt a with
  | some (_, l) => (l.map (fun e => s.f e.1 * 2 ^ e.1.lo)).sum
  | none => 0

/-! ## Identity, telemetry, challenge, attestation -/

/-- INFO (R384). -/
def execInfo (tag : Nat) (s : State) : Host.Outcome State Fault Refusal :=
  .next (s.serve tag 0x0001 [] true (fun t =>
    t.respond tag 0x0001 0 (toLE 4 (t.f SAG_ROLLBACK.FW_SV) ++ toLE 8 (t.f SAG_SERIAL.SERIAL))))

/-- TELEMETRY (R384): the power that it reports is a free value. -/
def execTelemetry (tag : Nat) (s : State) : Host.Outcome State Fault Refusal :=
  .next (s.serve tag 0x0040 [] true (fun t =>
    let (p, u) := t.free 16
    u.respond tag 0x0040 0 (toLE 2 (t.f PWR_TJ.TJ) ++ toLE 2 p ++ toLE 4 (t.f PGV_BUDGET.BUDGET) ++ toLE 4 (ofInt 32 t.lambda) ++
      toLE 4 (t.f GAF_GEN.COMMITTED))))

/-- CHALLENGE (R355, R384): a fresh challenge takes the place of one that is outstanding. -/
def execChallenge (tag addr : Nat) (s : State) : Host.Outcome State Fault Refusal :=
  .next (s.serveAt tag 0x0050 addr [] false (fun t a =>
    let (c, u) := t.freeBytes 32
    u.storeHost tag 0x0050 a c (fun v =>
      (({ v with sage := { v.sage with chal := some c, chalAt := v.mono100 } }).flag SAG_STATUS.CHAL).respond tag 0x0050 0 [])))

/-- The fuse bytes 0x000 to 0x19F as Sage reads them: checked words corrected (R347, R362). -/
def State.fusesRead (s : State) : List Byte :=
  (List.range 52).flatMap (fun i => match s.fuseWord (8 * i) with
    | some d => if 2 ≤ i ∧ ¬ (40 ≤ i ∧ i < 46) then toLE 8 d else toLE 8 (s.fuseLE (8 * i) 8)
    | none => toLE 8 (s.fuseLE (8 * i) 8))

/-- GAF_PROG_HASH as bytes. -/
def State.progHash (s : State) : List Byte := (List.range 12).flatMap (fun i => toLE 4 (s.f (GAF_PROG_HASH.HASH i)))

/-- The job of the key in a context, or 0. -/
def State.keyJob (s : State) (c : Nat) : Nat :=
  match s.sage.jobKeys[c]? with
  | some (some k) => k.job
  | _ => 0

/-- Bytes 0 to 255 of the attestation report. -/
def State.reportBody (s : State) (nonce : List Byte) : List Byte :=
  let pv := s.f GAF_STATUS.PROG_VALID
  let w164 := pv + 2 * s.f SAG_STATUS.DEBUG_OPEN + 4 * s.f SAG_STATUS.DEBUG_LOCK + 256 * maskOf 4 s.opUsable +
    4096 * (if pv = 1 then s.gaf.progSlot else 0)
  toLE 4 (1 + 256 * s.lifecycle) ++ toLE 4 0 ++ toLE 8 (s.f SAG_SERIAL.SERIAL) ++ nonce ++ toLE 8 s.now ++ sha384 s.fusesRead ++
    (s.sage.fwHash ++ List.replicate (48 - s.sage.fwHash.length) 0) ++ toLE 4 (s.f SAG_ROLLBACK.FW_SV) ++ toLE 4 (s.thermo 0x150) ++
    toLE 4 (s.thermo 0x160) ++ toLE 4 w164 ++ (if pv = 1 then s.progHash else List.replicate 48 0) ++ toLE 16 (s.keyJob 0) ++
    toLE 16 (s.keyJob 1) ++ toLE 8 0

/-- ATTEST (R362): refused where the lifecycle does not permit it, or where no identity key has been derived (R351). -/
def execAttest (tag addr : Nat) (s : State) : Host.Outcome State Fault Refusal :=
  .next (s.serveAt tag 0x0052 addr [] true (fun t a =>
    if ¬ t.inService then t.respond tag 0x0052 0x101 []
    else if ¬ t.sage.keysOk then t.respond tag 0x0052 5 []
    else t.fetchHost tag 0x0052 a 32 (fun v nonce =>
      let body := v.reportBody nonce
      let (sig, u) := v.identitySign (sha384 body)
      u.storeHost tag 0x0052 (a + 32) (body ++ sig) (fun w => w.respond tag 0x0052 0 []))))

/-! ## Admission (R386, R86, R87) -/

/-- The largest pool, in MiB, that fits a cell cache of n MiB (R86). -/
def poolFits (n p : Nat) : Bool := decide (p + p / 64 + cdiv p 1024 + 5 + 1024 ≤ n)

def poolSearch (n : Nat) : Nat → Nat
  | 0 => 0
  | k + 1 => if poolFits n (64 * (k + 1)) then 64 * (k + 1) else poolSearch n k

/-- Pages of the pool of a cell cache of n MiB. -/
def poolPagesOf (n : Nat) : Nat := poolSearch n (n / 64) * 4096

/-- GTH_CTL with another ENABLE. -/
def State.gthEnable (s : State) (e : Nat) : State := s.gthCtlWrite (e + 2 * s.f GTH_CTL.SLOTS + 256 * s.f GTH_CTL.RETRY_MAX)

/-- HBM laid out afresh: Gather and Parison stopped, the partition for P with the registers of its regions (R25, R183, R386),
PAR_CTL.ENABLE as it was. -/
def State.layOut (s : State) (wide : Bool) : State :=
  let en := s.f PAR_CTL.ENABLE
  let s1 := ((s.put PAR_CTL.ENABLE 0).gthEnable 0).giveLeave .parison
  let s2 := { s1 with host := { s1.host with admitted := true, wide := wide }, par := { s1.par with ring := [] } }
  let s3 := (((((s2.put PAR_RING_BASE.BASE 0x86000000).put PAR_RING_CFG.WIDE (b2n wide)).put PAR_RING_POS.BASE_POS 0).put
    BMP_REGION_BASE.BASE 0).put GLY_REGION_BASE.BASE 0x2000000).put GLY_REGION_SIZE.SIZE (64 * mib)
  let s4 := (s3.put GTH_REGION_BASE.BASE (if wide then 0x498000000 else 0x290000000)).put GTH_POOL_PAGES.PAGES
    (poolPagesOf (if wide then 46720 else 55040))
  s4.put PAR_CTL.ENABLE en

/-- Context c opens for a job: its limit and wrapper, Gather enabled, OPEN last. -/
def State.openCtx (s : State) (c job limit zlib : Nat) : State :=
  let s1 := ((s.put (GTH_CTX_LIMIT.LIMIT c) limit).put (GTH_CTX_CFG.ZLIB c) zlib).gthEnable 1
  ((s1.modCtx c (fun _ => { JobCtx.empty with job := job })).flag (GTH_CTX_CFG.OPEN c)).pulse 11

/-- The status with which an admission block is refused before Sage sees the key. -/
def State.admitStatus (s : State) (b : List Byte) : Option Nat :=
  let w0 := ofLE (b.take 4)
  let c := bits w0 8 1
  let p := bits w0 10 4
  let blob := (b.drop 32).take 176
  if bits w0 0 8 ≠ 1 ∨ p = 0 ∨ 12 < p ∨ w0 / 2 ^ 14 ≠ 0 ∨ ofLE ((b.drop 24).take 8) ≠ 0 ∨ 2 ^ 27 ≤ ofLE ((b.drop 4).take 4) then some 2
  else if blobJob blob ≠ ofLE ((b.drop 8).take 16) ∨ blobType blob ≠ 1 ∨ blobTarget blob ≠ c then some 2
  else if s.ctxOpen c then some 3
  else if s.ctxOpen (1 - c) ∧ s.host.wide ≠ decide (9 ≤ p) then some 5
  else none

/-- An admission: nothing is laid out for a key that Sage refuses. -/
def State.admitJob (s : State) (tag : Nat) (b : List Byte) : State :=
  let w0 := ofLE (b.take 4)
  let c := bits w0 8 1
  let blob := (b.drop 32).take 176
  match s.admitStatus b with
  | some n => s.respond tag 0x0010 n []
  | none =>
    let s1 := if (s.blobCode blob).isNone ∧ ¬ s.ctxOpen (1 - c) then s.layOut (decide (9 ≤ bits w0 10 4)) else s
    match s1.presentBlob blob with
    | (s2, some n) => s2.respond tag 0x0010 (0x100 + n) []
    | (s2, none) =>
      let s3 := s2.openCtx c (ofLE ((b.drop 8).take 16)) (ofLE ((b.drop 4).take 4)) (bits w0 9 1)
      s3.respond tag 0x0010 0 (toLE 4 c ++ toLE 4 (s3.f GTH_POOL_PAGES.PAGES))

/-- ADMIT (R386). -/
def execAdmitJob (tag addr : Nat) (s : State) : Host.Outcome State Fault Refusal :=
  .next (s.serveAt tag 0x0010 addr [] false (fun t a => t.fetchHost tag 0x0010 a 208 (fun u b => u.admitJob tag b)))

/-- JOB_END (R384, R87): the context closes when that stripe is DONE. -/
def execJobEnd (tag ctx last : Nat) (s : State) : Host.Outcome State Fault Refusal :=
  .next (s.serve tag 0x0011 (toLE 4 ctx ++ toLE 4 last) false (fun t =>
    if 2 ≤ ctx then t.respond tag 0x0011 2 []
    else if ¬ t.ctxOpen ctx then t.respond tag 0x0011 5 []
    else (t.modCtx ctx (fun x => { x with endAfter := some last })).respond tag 0x0011 0 []))

/-- KEY_UNWRAP (R354, R384): a lane key; a blob of another TYPE is malformed here. -/
def execKeyUnwrap (tag addr : Nat) (s : State) : Host.Outcome State Fault Refusal :=
  .next (s.serveAt tag 0x0012 addr [] false (fun t a =>
    t.fetchHost tag 0x0012 a 176 (fun v b =>
      if blobType b = 1 then v.respond tag 0x0012 2 []
      else match v.presentBlob b with
        | (u, some n) => u.respond tag 0x0012 (0x100 + n) []
        | (u, none) => u.respond tag 0x0012 0 [BitVec.ofNat 8 (blobType b), BitVec.ofNat 8 (blobTarget b)])))

/-! ## Tables and cluster -/

/-- The HBM address of the table that TARGET names. -/
def State.calAddr (s : State) (target : Nat) : Nat :=
  if target < 2 then s.mapAddr target 0 else if target < 14 then s.setAddr (target - 2) 0 else s.winAddr 0

/-- Whether a live generation names the table. -/
def State.calLive (s : State) (target : Nat) : Bool :=
  if target < 2 then s.liveMap target else if target < 14 then s.liveSlot (target - 2) else false

/-- The selection images behind a table, as one write stamped in one tick. -/
def State.writeSel (s : State) (l : List Byte) : State :=
  let w := ofLE (l.take 4)
  (List.range (bits w 4 4)).foldl (fun t k => t.landWrite (BMP_SET.off k) (ofLE ((l.drop (4 + 4 * k)).take 4))) (s.landWrite BMP_SEL.off w)

/-- CAL_LOAD (R387). -/
def execCalLoad (tag addr target : Nat) (sel : Bool) (len : Nat) (s : State) : Host.Outcome State Fault Refusal :=
  .next (s.serveAt tag 0x0020 addr (toLE 4 (target + 16 * b2n sel) ++ toLE 4 len) false (fun t a =>
    if 14 < target ∨ 2 * mib < len ∨ t.narrow (t.calAddr target) len then t.respond tag 0x0020 2 []
    else if t.calLive target then t.respond tag 0x0020 3 []
    else t.fetchHost tag 0x0020 a (if sel then len + 64 else len) (fun u l =>
      let u1 := u.hbmWrite (u.calAddr target) (l.take len)
      (if sel then u1.writeSel (l.drop len) else u1).respond tag 0x0020 0 [])))

/-- The firmware runs the PTP servo of a device of a cluster at a Sync interval; a worker's sets HOLD, since it has had no Sync yet
(R341). -/
def State.startServo (s : State) (sync : Nat) : State :=
  let t := { s with clu := { s.clu with servo := if s.f CLU_STATUS.STATE = 0 then none else some (sgn 8 (sync % 256)) } }
  if t.slaved then t.put THY_REF_CTL.HOLD 1 else t

/-- CLUSTER_ROLE (R341, R384): CLU_CFG and CLU_GROUP, and the PTP servo starts. -/
def execClusterRole (tag cfg group sync : Nat) (s : State) : Host.Outcome State Fault Refusal :=
  .next (s.serve tag 0x0030 (toLE 4 cfg ++ toLE 4 group ++ toLE 1 sync) false (fun t =>
    if t.ctxOpen 0 ∨ t.ctxOpen 1 then t.respond tag 0x0030 5 []
    else if cfg % 4 = 2 ∧ bit (t.f SAG_FEATURE.FEATURE) 1 = false then t.respond tag 0x0030 0x10C []
    else
      let t1 := ((t.cluCfgWrite cfg).put CLU_GROUP.ADDR group).startServo sync
      t1.respond tag 0x0030 0 (toLE 4 (t1.rawReg CLU_STATUS.off))))

/-- A descriptor of 40 bytes as five words. -/
def descWords (l : List Byte) : List Word := (List.range 5).map (fun i => BitVec.ofNat 64 (ofLE ((l.drop (8 * i)).take 8)))

/-- A worker's stripe list at the manager: a new one begins with none of its entries ACTIVE, and what may be granted is (R334). -/
def State.setList (s : State) (w : Nat) (fresh : Bool) (l : List (List Word)) : State :=
  ({ s with clu := { s.clu with
    lists := s.clu.lists.set (w - 1) l, started := if fresh then s.clu.started.set (w - 1) 0 else s.clu.started } }).grantUp w

/-- CLUSTER_LIST (R334, R384): a worker's stripe list loaded or appended to. -/
def execClusterList (tag addr worker : Nat) (append : Bool) (count : Nat) (s : State) : Host.Outcome State Fault Refusal :=
  .next (s.serveAt tag 0x0031 addr (toLE 4 (worker + 256 * b2n append) ++ toLE 4 count) false (fun t a =>
    let old := if append then t.cluList worker else []
    if worker = 0 ∨ 16 < worker ∨ 65536 < old.length + count then t.respond tag 0x0031 2 []
    else if append = false ∧ 0 < (t.clu.members.getD (worker - 1) Member.reset).sent then t.respond tag 0x0031 3 []
    else if t.ctxOpen 0 ∨ t.ctxOpen 1 then t.respond tag 0x0031 5 []
    else t.fetchHost tag 0x0031 a (40 * count) (fun u b =>
      let l := old ++ (List.range count).map (fun i => descWords ((b.drop (40 * i)).take 40))
      (u.setList worker (!append) l).respond tag 0x0031 0 (toLE 4 l.length))))

/-! ## Program load (R275, R300) -/

/-- A load is refused: PROG_VALID is cleared, the program memory stands. -/
def State.loadRefused (s : State) (tag reason status : Nat) : State :=
  ((s.put GAF_STATUS.PROG_VALID 0).event 0x0F03 0 [a8 reason]).respond tag 0x0053 status []

/-- The words of a program, from PC 0. -/
def progWords (body : List Byte) : Map Word :=
  (List.range (body.length / 8)).filterMap (fun i =>
    let w := ofLE ((body.drop (8 * i)).take 8)
    if w = 0 then none else some (i, BitVec.ofNat 64 w))

/-- An accepted image is written whole, its hash and signer slot kept, PROG_LOADED. -/
def State.loadProg (s : State) (img : List Byte) : State :=
  let body := img.drop 296
  let h := imageHash img
  let s1 := { s.grpTouch 14 with gaf := { s.gaf with pmem := progWords body, progSlot := imageSlot img } }
  let s2 := { s1 with mem := { s1.mem with
    checks := s1.mem.checks.filter (fun (e : Nat × Nat) => !decide (e.1 / 2 ^ 36 = 14)),
    poison := s1.mem.poison.filter (fun k => !decide (k / 2 ^ 36 = 14)) } }
  let s3 := (List.range 12).foldl (fun t i => t.put (GAF_PROG_HASH.HASH i) (ofLE ((h.drop (4 * i)).take 4))) s2
  (s3.flag GAF_STATUS.PROG_VALID).event 0x0F02 0 [a32 (ofLE (h.take 4))]

/-- PROG_LOAD (R275, R357). -/
def execProgLoad (tag addr len : Nat) (s : State) : Host.Outcome State Fault Refusal :=
  .next (s.serveAt tag 0x0053 addr (toLE 4 len) false (fun t a =>
    if t.on GAF_CTL.RUN then t.loadRefused tag 1 5
    else if t.gaf.threads.any Thread.running then t.loadRefused tag 2 5
    else t.fetchHost tag 0x0053 a (min len (296 + 262144 + 1)) (fun u img =>
      match u.imageCode 2 false img with
      | some c => (u.sageRefuse 0x1303 [a8 2, a8 c]).loadRefused tag 3 (0x100 + c)
      | none => (u.loadProg img).respond tag 0x0053 0 (toLE 4 ((u.loadProg img).f (GAF_PROG_HASH.HASH 0))))))

end Sys2Proof.Machine
end

