-- ==== Sys2Proof/Machine/Memory.lean ====
section
/-! DEFINITION. The HBM controllers, checked accesses, the Cullet entries, the voters and the test window (R401 to R421). -/

namespace Sys2Proof.Machine

open Sys2Proof

/-! ## Scheduling (R402, R405, R406) -/

/-- The bank of an HBM address among the 128 of its channel: pseudo-channel, bank, bank group (R402). -/
def State.bankOf (s : State) (a : Nat) : Nat := let l := s.hbmLocal a; l / 64 % 2 * 64 + l / 2048 % 64

/-- The row of an HBM address. -/
def State.rowOf (s : State) (a : Nat) : Nat := s.hbmLocal a / 131072

/-- A bank at PORn: no open row, history 2, refreshed. -/
def HbmBank.reset : HbmBank := { row := none, hist := 2, refreshed := true }

def State.bank (s : State) (ch b : Nat) : HbmBank := (mget s.mem.banks (ch * 128 + b)).getD HbmBank.reset

def State.setBank (s : State) (ch b : Nat) (v : HbmBank) : State :=
  { s with mem := { s.mem with
      banks := if v = HbmBank.reset then mdel s.mem.banks (ch * 128 + b) else mset s.mem.banks (ch * 128 + b) v } }

/-- The requests that wait at a channel, oldest first. -/
def State.waitingAt (s : State) (ch : Nat) : List HbmReq := s.mem.queue.filter (fun q => decide (s.hbmChannel q.addr = ch))

/-- Whether a request waits for a bank. -/
def State.bankBusy (s : State) (ch b : Nat) : Bool := (s.waitingAt ch).any (fun q => decide (s.bankOf q.addr = b))

/-- The TARGET of a port, in 100 ps. -/
def State.portTarget (s : State) (p : Nat) : Nat := max 1 (s.f (HBM_QOS_TARGET.TARGET p)) * 100

/-- The urgency of a request (R405). -/
def State.urgency (s : State) (q : HbmReq) : Nat :=
  let t : Int := s.portTarget q.port
  let slack : Int := (q.deadline : Int) - s.mono100
  if slack ≤ 0 then 3 else if 4 * slack < t then 2 else if 2 * slack < t then 1 else 0

/-- Whether a request finds its row open. -/
def State.rowHit (s : State) (q : HbmReq) : Bool :=
  decide ((s.bank (s.hbmChannel q.addr) (s.bankOf q.addr)).row = some (s.rowOf q.addr))

/-- Whether the first request is picked ahead of the second, which is older (R405). -/
def State.ahead (s : State) (q p : HbmReq) : Bool :=
  decide (s.urgency p < s.urgency q) || (decide (s.urgency q = s.urgency p) && s.rowHit q && !s.rowHit p)

/-- Whether a request is the oldest of its source: those of one source are carried out in issue order (R404). -/
def HbmReq.isHead (q : HbmReq) (l : List HbmReq) : Bool := decide ((l.find? (fun p => decide (p.port = q.port ∧ p.src = q.src))) = some q)

/-- Whether a request is a row hit behind an older request of urgency 3 to the same bank, of which it is not taken ahead (R405). -/
def State.blocked (s : State) (q : HbmReq) (l : List HbmReq) : Bool :=
  s.rowHit q && (l.takeWhile (fun p => !decide (p = q))).any (fun p => decide (s.urgency p = 3) && decide (s.bankOf p.addr = s.bankOf q.addr))

/-- The request of a channel's waiting ones that is picked: urgency, then row hit, then oldest (R404, R405). -/
def State.pickReq (s : State) (l : List HbmReq) : Option HbmReq :=
  match l.filter (fun q => q.isHead l && !s.blocked q l) with
  | [] => none
  | q :: r => some (r.foldl (fun b c => if s.ahead c b then c else b) q)

/-- The history of a bank at an access to a row (R406). -/
def HbmBank.access (b : HbmBank) (row : Nat) : HbmBank :=
  match b.row with
  | none => { b with row := some row }
  | some r => if r = row then { b with hist := min (b.hist + 1) 3 } else { b with row := some row, hist := b.hist - 1 }

/-- A bank that is due gets its refresh. -/
def State.refreshBank (s : State) (ch b : Nat) : State := s.setBank ch b { s.bank ch b with refreshed := true }

/-- A request is served: its bank's page policy, a late one counted, the port's longest latency; a bank that is due and has no request left
gets its refresh. -/
def State.serveReq (s : State) (q : HbmReq) : State :=
  let ch := s.hbmChannel q.addr
  let b := s.bankOf q.addr
  let s1 := ({ s with mem := { s.mem with queue := s.mem.queue.erase q } }).setBank ch b ((s.bank ch b).access (s.rowOf q.addr))
  let s2 := if q.deadline < s.mono100 then (s1.count HBM_CNT_LATE.COUNT 1).flag HBM_STATUS.LATE_SEEN else s1
  let s3 := s2.put (HBM_PORT_MAXLAT.NS q.port) (max (s.f (HBM_PORT_MAXLAT.NS q.port)) (min ((s.mono100 - q.arrival) / 10) (2 ^ 32 - 1)))
  if s3.bankBusy ch b then s3 else s3.refreshBank ch b

/-- A channel serves up to n of the requests that it had before this tick. -/
def State.serveChannel (ch : Nat) : Nat → State → State
  | 0, s => s
  | n + 1, s =>
    match s.pickReq ((s.waitingAt ch).filter (fun q => decide (q.arrival < s.mono100))) with
    | some q => State.serveChannel ch n (s.serveReq q)
    | none => s

/-- How many of a channel's requests have been served by now is free (log entry 38). -/
def State.serveSome (s : State) (ch : Nat) : State :=
  let (n, t) := s.free 8
  State.serveChannel ch n t

/-- The source of a request within its port (R404): one DMA channel or the window on port 6, one walk context or Gather on port 2, which the
command does not name and which is free; on every other port the port itself. -/
def State.reqSource (s : State) (port : Nat) : Nat × State := if port = 2 ∨ port = 6 then s.free 6 else (0, s)

/-- HBM_REQUEST (R404, R405): a request arrives and gets its deadline; its channel wakes. -/
def execHbmRequest (port : Fin 8) (addr : Nat) (write : Bool) (s : State) : Host.Outcome State Fault Refusal :=
  if hbmSize ≤ addr then .fault (.illFormed "HBM_REQUEST")
  else
    let ch := s.hbmChannel addr
    let (src, s1) := (s.serveSome ch).reqSource port
    let q : HbmReq :=
      { port := port, src := src, addr := addr, write := write, arrival := s.mono100, deadline := s.mono100 + s.portTarget port }
    .next { s1 with mem := { s1.mem with queue := s1.mem.queue ++ [q], asleep := s1.mem.asleep.filter (fun c => !decide (c = ch)) } }

/-! ## Page policy, refresh, power-down (R406 to R408) -/

/-- PAGE_IDLE_PRECHARGE (R406): IDLE cycles without a request to the bank. -/
def execPageIdlePrecharge (ch : Fin 64) (bank : Fin 128) (s0 : State) : Host.Outcome State Fault Refusal :=
  let s := s0.serveSome ch
  let b := s.bank ch bank
  if s.bankBusy ch bank = false ∧ b.hist < s.f HBM_PAGE_CFG.THRESH then .next (s.setBank ch bank { b with row := none }) else .next s

/-- PAGE_MAXOPEN (R406): a row open for MAXOPEN cycles; a request to the open row that arrives now drops the precharge. -/
def execPageMaxopen (ch : Fin 64) (bank : Fin 128) (s : State) : Host.Outcome State Fault Refusal :=
  if (s.waitingAt ch).any (fun q => decide (q.arrival = s.mono100) && decide (s.bankOf q.addr = bank) && s.rowHit q) then .next s
  else .next (s.setBank ch bank { s.bank ch bank with row := none })

/-- REFRESH_INTERVAL (R407): every bank is due; those with no pending request are refreshed, lowest index first, the others once their
requests have been served, or by FORCED_REFRESH. -/
def execRefreshInterval (ch : Fin 64) (s : State) : Host.Outcome State Fault Refusal :=
  let s1 := s.serveSome ch
  let s2 := { s1 with mem := { s1.mem with asleep := s1.mem.asleep.filter (fun c => !decide (c = ch.val)) } }
  .next ((List.range 128).foldl (fun (t : State) b =>
    if t.bankBusy ch b then t.setBank ch b { t.bank ch b with refreshed := false } else t.refreshBank ch b) s2)

/-- FORCED_REFRESH (R407): a bank still due at FORCE_MARGIN is refreshed at once. -/
def execForcedRefresh (ch : Fin 64) (bank : Fin 128) (s : State) : Host.Outcome State Fault Refusal :=
  if (s.bank ch bank).refreshed then .next s else .next ((s.refreshBank ch bank).count HBM_CNT_FORCED.COUNT 1)

/-- HBM_TEMP_CROSSING (R407): a stack's sensor reads a new temperature; HBM_HOT at each crossing of 85 °C. -/
def execHbmTempCrossing (n : Fin 4) (celsius : Nat) (s : State) : Host.Outcome State Fault Refusal :=
  let hot := decide (85 ≤ celsius)
  let was := bit (s.f HBM_STATUS.HOT) n
  let s1 := s.put (HBM_TEMP.T n) (min celsius 255)
  if hot = was then .next s1
  else .next ((s1.put HBM_STATUS.HOT (if hot then setBit (s.f HBM_STATUS.HOT) n else clrBit (s.f HBM_STATUS.HOT) n)).event 0x1001 0
    [a8 n, a8 (b2n hot)])

/-- POWER_DOWN_IDLE (R408): a channel with no pending request and no refresh due for IDLE cycles. -/
def execPowerDownIdle (ch : Fin 64) (s0 : State) : Host.Outcome State Fault Refusal :=
  let s := s0.serveSome ch
  if s.on HBM_PD_CFG.EN ∧ (s.waitingAt ch).isEmpty ∧ (List.range 128).all (fun b => (s.bank ch b).refreshed) ∧ ch.val ∉ s.mem.asleep then
    .next { s with mem := { s.mem with asleep := s.mem.asleep ++ [ch.val] } }
  else .next s

/-! ## Configuration (R403, R413, R416) -/

/-- HBM_MAP_CFG written. -/
def State.mapCfgWrite (s : State) (v : Nat) : State :=
  if s.on HBM_CTL.ENABLE ∨ s.mem.hbmWritten then s.flag HBM_STATUS.MAP_REFUSED
  else (s.put HBM_MAP_CFG.GRAIN (bits v 0 5)).put HBM_MAP_CFG.HASH (bits v 5 1)

/-- MAP_CFG_WRITE (R403). -/
def execMapCfgWrite (v : Word) (s : State) : Host.Outcome State Fault Refusal := .next (s.mapCfgWrite v.toNat)

/-- A one-bit flag of type W1C after a write of the register. -/
def State.w1c (s : State) (x : Fld) (v : Nat) : State := if bit v x.lo then s.put x 0 else s

/-- ECC_GRP_CFG of a group written: MODE only before the group's first write, and never for groups 16 and 17; a refusal that
coincides with the clearing of its flag sets it (R432). -/
def State.grpCfgWrite (s : State) (g v : Nat) : State :=
  let s1 := ((s.put (ECC_GRP_CFG.AUTO g) (bits v 1 1)).put (ECC_GRP_CFG.WRITEBACK g) (bits v 2 1)).put (ECC_GRP_CFG.CE_THRESH g) (bits v 8 4)
  let s2 := (((s1.w1c (ECC_GRP_CFG.CFG_REFUSED g) v).w1c (ECC_GRP_CFG.CE_SEEN g) v).w1c (ECC_GRP_CFG.UE_SEEN g) v).w1c (ECC_GRP_CFG.FULL_SEEN g) v
  if bits v 0 1 = s.f (ECC_GRP_CFG.MODE g) ∨ s.tripleHeld 63 then s2
  else if 16 ≤ g ∨ s.mem.grpWritten.getD g false then s2.flag (ECC_GRP_CFG.CFG_REFUSED g)
  else s2.put (ECC_GRP_CFG.MODE g) (bits v 0 1)

/-- GROUP_MODE_WRITE (R413). -/
def execGroupModeWrite (grp : Fin 18) (v : Word) (s : State) : Host.Outcome State Fault Refusal := .next (s.grpCfgWrite grp v.toNat)

/-- ECC_CULLET_ADDR of an entry written: an install, or a discard. -/
def State.cullWrite (s : State) (g e v : Nat) : State :=
  let s1 := if s.on (ECC_CULLET_ADDR.VALID g e) then s.cullDrop g e else s
  if bit v 0 then s1.cullInstall g e (bits v 8 36) false
  else s1.put (ECC_CULLET_ADDR.ADDR g e) (bits v 8 36)

/-- CULLET_ENTRY_WRITE (R416). -/
def execCulletEntryWrite (grp : Fin 18) (e : Fin 16) (v : Word) (s : State) : Host.Outcome State Fault Refusal :=
  .next (s.cullWrite grp e v.toNat)

/-! ## Checked accesses (R409 to R412) -/

/-- Whether an aligned word lies in a group: a stack holds the words that R401 gives it. -/
def State.inGroup (s : State) (g a : Nat) : Bool := wordOk g a && (decide (4 ≤ g) || decide (s.hbmGroup a = g))

/-- Bits of a stored word, data and then check bits, that have changed since it was written. -/
def State.upsetWord (s : State) (g a upset : Nat) : State :=
  if upset % 2 ^ 72 = 0 then s
  else
    let c := s.rawCheck g a
    s.putRaw g a ((s.rawData g a).xor (upset % 2 ^ 64)) (c.xor (upset / 2 ^ 64 % 256))

/-- What an uncorrectable word does by its group (R409). `reader` names the job context of the item (groups 0 to 3 and 5 to 11; 2
and above: no job), or the thread that reads (groups 14 and 15; 4 and above: the host). A reader of HBM other than a fill acts by
its own command. -/
def State.ueOutcome (s : State) (g a reader : Nat) : State :=
  let args := [a8 g, a36 a, a8 0]
  if g < 4 then (if reader < 2 then s.jobFault reader 0x1110 false args else if reader = 2 then s.event 0x1110 0 args else s)
  else if g = 4 then s.dropFrame.event 0x1110 1 args
  else if g ≤ 11 then (if reader < 2 then s.jobFault reader 0x1110 false args else s.journalEvent 0x1110 3 false args)
  else if g ≤ 13 then s.halt 0x1110 s.openFlash args
  else if g = 14 then (if reader < 4 then s.progFault reader causeIllegal else s)
  else if g = 15 then (if reader < 4 then s.progFault reader causeDmem else s.send (.completerAbort a))
  else s.fatal 0x1110 false args

/-- MEMORY_READ (R409, R410): a word of a group is read through its checker. -/
def execMemoryRead (grp : Fin 18) (addr reader upset : Nat) (s : State) : Host.Outcome State Fault Refusal :=
  let g := grp.val
  if wordOk g addr = false then .fault (.illFormed "MEMORY_READ")
  else if s.inGroup g addr then
    let s1 := s.upsetWord g addr upset
    match s1.cellChecked g addr with
    | .good => .next s1
    | .corrected d c => .next (s1.noteCe g addr (syndrome (s1.rawData g addr) (s1.rawCheck g addr)).1 d c)
    | .bad => .next ((s1.noteUe g addr).ueOutcome g addr reader)
  else .next s

/-- Bytes of one word put into it, with the check bits that R411 and R412 give them. -/
def State.writeCell (s : State) (g a : Nat) (l : List Byte) : State :=
  let w := a / 8 * 8
  let old := toLE 8 (s.rawData g w)
  let k := a % 8
  let new := ofLE (old.take k ++ l ++ old.drop (k + l.length))
  let c := mixCheck (s.cellMode g w) new (s.rawCheck g w) k l.length
  let s1 := (s.putRaw g w new c).grpTouch g
  { s1 with mem := { s1.mem with
      poison := s1.mem.poison.filter (fun x => !decide (x = wordKey g w)), hbmWritten := s1.mem.hbmWritten || decide (g < 4) } }

/-- A run of bytes written word by word; the fuel bounds the words. -/
def State.writeCells (g : Nat) : Nat → State → Nat → List Byte → State
  | 0, s, _, _ => s
  | n + 1, s, a, l =>
    if l.isEmpty then s
    else State.writeCells g n (s.writeCell g a (l.take (8 - a % 8))) (a / 8 * 8 + 8) (l.drop (8 - a % 8))

/-- Whether a range of a group is one to which the tool host and the service cores have no path: the ingest area, the cell cache and the
stripe store, and the tile queues (R97, R371). -/
def State.noPath (s : State) (g a n : Nat) : Bool := if g < 4 then s.protectedRange a n else decide (g = 5)

/-- MEMORY_WRITE (R97, R153, R411, R412): a write of the tool host or a service core where it has no path, or to a live table, is discarded
with an error response; in word mode a write narrower than aligned words changes nothing and is NARROW_WRITE. -/
def execMemoryWrite (grp : Fin 18) (addr m : Nat) (bytes : List Byte) (s : State) : Host.Outcome State Fault Refusal :=
  let g := grp.val
  if groupSpan g < addr + bytes.length then .fault (.illFormed "MEMORY_WRITE")
  else if s.inGroup g (addr / 8 * 8) then
    if m ≤ 4 ∧ s.noPath g addr bytes.length then .next s.answerErr
    else if g < 4 ∧ m ≤ 4 ∧ s.liveRange addr bytes.length then .next (s.liveRefused addr).answerErr
    else if s.f (ECC_GRP_CFG.MODE g) = 0 ∧ (addr % 8 ≠ 0 ∨ bytes.length % 8 ≠ 0) then .next (s.event 0x1104 0 [a8 g, a36 addr, a8 m])
    else .next (State.writeCells g (bytes.length / 8 + 2) s addr bytes)
  else .next s

/-! ## Triplicated words (R417, R418) -/

/-- A key slot whose pointer word has changed holds what stands where the word points: free bytes (log entry 53). -/
def State.moveKey (s : State) (i : Nat) : State :=
  let (k, t) := s.freeBytes (if i < 58 then 32 else 16)
  if i < 58 then
    { t with sage := { t.sage with jobKeys := lmod t.sage.jobKeys (i - 56) (fun o => o.map (fun (x : JobKey) => { x with key := k })) } }
  else { t with sage := { t.sage with laneKeys := lmod t.sage.laneKeys (i - 58) (fun o => o.map (fun _ => k)) } }

/-- The value that a voter drives put into the word of an index, for all that use it. -/
def State.putTriple (s : State) (i v : Nat) : State :=
  if i = 52 then (s.put SAG_STATUS.LIFECYCLE (bits v 0 2) |>.put SAG_STATUS.DEBUG_OPEN (bits v 2 1)).put SAG_STATUS.DEBUG_LOCK (bits v 3 1)
  else if i = 53 then s.put THY_INC.INC v
  else if i = 54 then
    { s.put GAF_GEN.COMMITTED v with root := { s.root with staged := { s.root.staged with gen := v % 2 ^ 32 } } }
  else if i = 55 then
    { s.put GAF_GEN.ACTIVE v with root := { s.root with banks := lmod s.root.banks 3 (fun (b : Bank) => { b with gen := v % 2 ^ 32 }) } }
  else if i = 62 then s.put SAG_ROLLBACK.FW_SV v
  else if i = 63 then (List.range 18).foldl (fun t g => t.put (ECC_GRP_CFG.MODE g) (bits v g 1)) s
  else
    let t := { s with mem := { s.mem with tmr := setTriple s.mem.tmr i v } }
    if 56 ≤ i ∧ mnat s.mem.tmr i ≠ v then t.moveKey i else t

/-- Whether the copies of a triple are listed: those of one in disagreement are, as long as they disagree. -/
def State.putCopies (s : State) (i : Nat) (l : Option (List (Nat × Bool))) : State :=
  { s with mem := { s.mem with copies := match l with
      | some c => mset s.mem.copies i c
      | none => mdel s.mem.copies i } }

/-- The voter's result over three copies, each with its parity: the value and how many copies are rewritten; none on a
disagreement. -/
def vote (l : List (Nat × Bool)) : Option (Nat × Nat) :=
  match (l.filter Prod.snd).map Prod.fst with
  | [a] => some (a, 2)
  | [a, b] => if a = b then some (a, 1) else none
  | [a, b, c] =>
    if a = b ∧ b = c then some (a, 0)
    else if a = b then some (a, 1) else if a = c then some (a, 1) else if b = c then some (b, 1) else none
  | _ => none

/-- TMR_VOTE (R418): the voter finds the copies of a triple as given. While they disagree it holds what it drives, and the owner's writes
are discarded. -/
def execTmrVote (i : Fin 64) (copies : List (Nat × Bool)) (s : State) : Host.Outcome State Fault Refusal :=
  if copies.length ≠ 3 then .fault (.illFormed "TMR_VOTE")
  else match vote copies with
    | some (_, 0) => .next (s.putCopies i none)
    | some (v, n) =>
      .next (((((s.putCopies i none).putTriple i v).put ECC_TMR_STATUS.INDEX i).flag ECC_TMR_STATUS.CORR_SEEN).count ECC_CNT_TMR.COUNT 1 |>.event 0x1105 1
        [a8 i, a8 n])
    | none => .next ((((s.putCopies i (some copies)).put ECC_TMR_STATUS.INDEX i).flag ECC_TMR_STATUS.DISAGREE).fatal 0x1120 false [a8 i])

/-! ## Test window (R419 to R421) -/

/-- The ENABLE fields of the unit of a group. -/
def grpEnables (g : Nat) : List Fld :=
  if g = 4 then (List.range 4).map ETH_PORT_CFG.EN
  else if g = 5 then [BLP_CTL.ENABLE, MRV_CTL.ENABLE]
  else if g = 6 ∨ g = 7 then [GLY_CTL.ENABLE]
  else if g = 8 ∨ g = 9 ∨ g = 10 then [PAR_CTL.ENABLE]
  else if g = 11 then [MRV_CTL.ENABLE]
  else if g = 12 then [LEH_CTL.ENABLE]
  else [PUN_CTL.ENABLE]

/-- Whether a raw access may reach a word (R419). -/
def State.testAllowed (s : State) (g a : Nat) (write : Bool) : Bool :=
  if g < 4 then s.inGroup g a && !s.protectedRange a 8 && !(write && s.liveRange a 8)
  else if g ≤ 13 then
    s.inGroup g a && (grpEnables g).all (fun x => !s.on x) && !s.mot.flashing && !s.ctxOpen 0 && !s.ctxOpen 1
  else if g ≤ 15 then s.inGroup g a && !s.on GAF_CTL.RUN
  else false

/-- The own cells of a word, which the test window reaches past any entry. -/
def State.ownCell (s : State) (g a : Nat) : Nat × Nat :=
  match s.cullEntry g a with
  | none => (s.rawData g a, s.rawCheck g a)
  | some e =>
    match (((mget s.mem.spares (g * 16 + e)).map Spare.words).getD [])[a % blockSize g / 8]? with
    | some w => (w.1.toNat, w.2)
    | none => (0, 0)

/-- A raw word written to its own cells. -/
def State.setOwn (s : State) (g a d c : Nat) : State :=
  match s.cullEntry g a with
  | none =>
    let t := s.putRaw g a d c
    if g < 4 then { t with mem := { t.mem with hbmWritten := true, grpWritten := t.mem.grpWritten.set g true } } else t.grpTouch g
  | some e =>
    let l := ((mget s.mem.spares (g * 16 + e)).map Spare.words).getD []
    let t := s.grpTouch g
    { t with mem := { t.mem with
      hbmWritten := t.mem.hbmWritten || decide (g < 4),
      spares := mset s.mem.spares (g * 16 + e) { words := l.set (a % blockSize g / 8) (BitVec.ofNat 64 d, c) } } }

/-- WR, RD or RDC of a word (R420, R421). -/
def State.testOp (s : State) (t : TestAcc) : State :=
  let a := t.addr
  let g := t.grp
  let op := t.op
  let (d, c) := s.ownCell g a
  if op = 0 then s.setOwn g a t.data t.check
  else if op = 1 then (s.put ECC_TEST_DATA.DATA d).put ECC_TEST_CHECK.CHECK c
  else
    let mode := s.f (ECC_GRP_CFG.MODE g)
    let (syn, e) := if mode = 1 then (0, 0) else syndrome d c
    let r := checkedRead mode d c
    let s1 := ((s.put ECC_TEST_RESULT.SYNDROME syn).put ECC_TEST_RESULT.E e).put ECC_TEST_RESULT.BYTE_FAIL (if mode = 1 then byteFails d c else 0)
    match r with
    | .good => (s1.put ECC_TEST_RESULT.OUTCOME 0).put ECC_TEST_DATA.DATA d
    | .corrected v _ => ((s1.put ECC_TEST_RESULT.OUTCOME 1).put ECC_TEST_DATA.DATA v).event 0x1101 0 [a8 g, a36 a, a8 syn, a8 1]
    | .bad => ((s1.put ECC_TEST_RESULT.OUTCOME 2).put ECC_TEST_DATA.DATA d).event 0x1110 0 [a8 g, a36 a, a8 1]

/-- Whether a group must be cleared before a test access: groups 5 to 13, once since their unit was last enabled (R419). -/
def State.needsClear (s : State) (g : Nat) : Bool := decide (5 ≤ g) && decide (g ≤ 13) && !s.mem.cleared.getD g false

/-- Test accesses in their order: carried out up to one that waits for a clear of its group. -/
def State.testRun (s : State) : List TestAcc → State
  | [] => s
  | t :: r =>
    if s.needsClear t.grp then ({ s with mem := { s.mem with clearing := some (t.grp, t :: r) } }).flag ECC_TEST_CTL.CLEARING
    else (s.testOp t).testRun r

/-- The test access that a command asks for, from the window's registers. -/
def State.testAsked (s : State) (op : Nat) : TestAcc :=
  { op := op, grp := s.f ECC_TEST_CTL.GROUP, addr := s.f ECC_TEST_ADDR.ADDR, data := s.f ECC_TEST_DATA.DATA, check := s.f ECC_TEST_CHECK.CHECK }

/-- A test access: refused, behind a clear of its group, or carried out (R419). An access while a group is being cleared waits. -/
def State.testAccess (s : State) (op : Nat) : State :=
  let t := s.testAsked op
  if ¬ s.testAllowed t.grp t.addr (decide (op = 0)) then s.flag ECC_TEST_CTL.ERR
  else match s.mem.clearing with
    | some (h, l) => { s with mem := { s.mem with clearing := some (h, l ++ [t]) } }
    | none => s.testRun [t]

/-- ECC_TEST_CTL written: the group, ERR's clear, and the accesses in the order WR, RD, RDC. -/
def State.testCtlWrite (s : State) (v : Nat) : State :=
  let s1 := (s.put ECC_TEST_CTL.GROUP (bits v 0 5)).w1c ECC_TEST_CTL.ERR v
  [0, 1, 2].foldl (fun (t : State) op => if bit v (5 + op) then t.testAccess op else t) s1

/-- TEST_WR (R420). -/
def execTestWr (v : Word) (s : State) : Host.Outcome State Fault Refusal :=
  if bit v.toNat 5 then .next (s.testCtlWrite v.toNat) else .next s

/-- TEST_RD (R420). -/
def execTestRd (v : Word) (s : State) : Host.Outcome State Fault Refusal :=
  if bit v.toNat 6 then .next (s.testCtlWrite v.toNat) else .next s

/-- TEST_RDC (R420, R421). -/
def execTestRdc (v : Word) (s : State) : Host.Outcome State Fault Refusal :=
  if bit v.toNat 7 then .next (s.testCtlWrite v.toNat) else .next s

/-- TEST_CLEAR_DONE (R419): the group holds zeros, and the accesses that waited are carried out. -/
def execTestClearDone (s : State) : Host.Outcome State Fault Refusal :=
  match s.mem.clearing with
  | none => .next s
  | some (g, l) =>
    let s1 := s.clearGroup g
    let s2 := { s1 with mem := { s1.mem with clearing := none, cleared := s1.mem.cleared.set g true } }
    .next ((s2.put ECC_TEST_CTL.CLEARING 0).testRun l)

/-- The units of a written register are enabled: their groups must be cleared again before a test access (R419). -/
def State.enabled (s : State) (x : Fld) : State :=
  { s with mem := { s.mem with cleared := s.mem.cleared.mapIdx (fun g c => c && !decide (x ∈ grpEnables g)) } }

end Sys2Proof.Machine
end

