-- ==== Sys2Proof/Machine/Faults.lean ====
section
/-! DEFINITION. Safe halt, the end of a halted job, and the journal's buffer and ring (R425, R426, R433, R434). -/

namespace Sys2Proof.Machine

open Sys2Proof

/-! ## Safe halt (R426) -/

/-- GAF_CTL.RUN = 0 (R276): every thread stops; a COMMIT that waits takes its course for no thread. -/
def State.runStop (s : State) : State :=
  let s1 := { s with
    gaf := { s.gaf with threads := s.gaf.threads.map (fun (t : Thread) => { t with running := false, wait := .none }) },
    root := { s.root with commits := s.root.commits.map (fun (c : CommitReq) => { c with thread := 4 }) } }
  s1.put GAF_CTL.RUN 0

/-- The stage decelerates along the run-out segments, and no flash that has not been committed follows. -/
def State.safeStop (s : State) : State :=
  let s1 := s.haltRecord s.openFlash
  { s1 with mot := { s1.mot.setPlan s.brakePlan with flashing := false, leadOver := false } }

/-- SAFE_HALT (R426): the halt that a class 4 event has registered takes effect. -/
def execSafeHalt (s : State) : Host.Outcome State Fault Refusal :=
  match s.journal.safePending with
  | none => .next s
  | some (code, src, seq) =>
    let s1 := (List.range 8).foldl (fun (t : State) a => if t.axState a = 1 then t.stopAxis a 2 else t) s.safeStop
    let s2 := (s1.runStop.put GAF_STATUS.PROG_VALID 0).zeroKeys
    let s3 := (((((s2.gthEnable 0).put BLP_CTL.ENABLE 0).put MRV_CTL.ENABLE 0).put GLY_CTL.ENABLE 0).put PAR_CTL.ENABLE 0).put LEH_CTL.ENABLE 0
    let s4 := { s3 with journal := { s3.journal with safePending := none } }
    .next (((s4.flag EVJ_STATUS.SAFE).put EVJ_SAFE_CAUSE.CODE code).event 0x1404 0 [a16 code, a8 src, a32 seq])

/-- JOB_HALTED (R425): no stripe of the halted job is ACTIVE; JOB_HALTED is recorded and the context closes.
A Parison held on the slots that the job's halt has released goes on (R185). -/
def execJobHalted (c : Fin 2) (s : State) : Host.Outcome State Fault Refusal :=
  match (s.ctx c).halt with
  | none => .next s
  | some code =>
    if s.ctxOpen c ∧ s.gaf.active.all (fun k => !decide (k.ctx = c.val)) then
      .next ((s.event 0x1401 0 [a8 c, a16 code, a32 (s.ctx c).lastAct]).closeCtx c).endHold
    else .next s

/-! ## The buffer (R433) -/

/-- Places of the buffer that are free: all but those of the records that wait. -/
def State.bufFree (s : State) : Nat := 2048 - s.journal.waiting.length

/-- A record is lost. -/
def State.loseRecord (s : State) (r : Record) : State :=
  let s1 := (s.count EVJ_CNT_LOST.COUNT 1).flag EVJ_STATUS.LOST_SEEN
  { s1 with journal := { s1.journal with
      lost := s1.journal.lost + 1,
      first := match s1.journal.first with
        | some x => some x
        | none => some (r.src, r.seq) } }

/-- EVJ_BUF_COUNT follows the records that wait. -/
def State.showBuf (s : State) : State := s.put EVJ_BUF_COUNT.COUNT s.journal.waiting.length

/-- The first free place from an index on. -/
def freePlace (used : List Nat) : Nat → Nat → Nat
  | 0, p => p
  | n + 1, p => if p ∈ used then freePlace used n ((p + 1) % 2048) else p

/-- A record takes a place of the buffer, behind the others. -/
def State.putRecord (s : State) (p : Nat) (r : Record) : State :=
  ({ s with journal := { s.journal with
      waiting := s.journal.waiting ++ [(p, r)], written := s.journal.written.filter (fun (e : Nat × Record) => !decide (e.1 = p)) } }).showBuf

/-- A record takes the next free place. -/
def State.keepRecord (s : State) (r : Record) : State :=
  let p := freePlace (s.journal.waiting.map Prod.fst) 2048 (s.f EVJ_BUF_COUNT.HEAD)
  (s.putRecord p r).put EVJ_BUF_COUNT.HEAD ((p + 1) % 2048)

/-- A record reaches the buffer. -/
def State.bufferRecord (s : State) (r : Record) : State :=
  if r.cls ≤ 1 then (if s.bufFree < 65 then s.loseRecord r else s.keepRecord r)
  else if 0 < s.bufFree then s.keepRecord r
  else match s.journal.waiting.find? (fun e => decide (e.2.cls ≤ 1)) with
    | some e =>
      let s1 := s.loseRecord e.2
      ({ s1 with journal := { s1.journal with
          waiting := s1.journal.waiting.filter (fun (x : Nat × Record) => !decide (x.1 = e.1)) } }).putRecord e.1 r
    | none => s.loseRecord r

/-- JOURNAL_RECORD (R433): the oldest record on its way arrives. -/
def execJournalRecord (s : State) : Host.Outcome State Fault Refusal :=
  match s.journal.inFlight with
  | [] => .next s
  | r :: l => .next (({ s with journal := { s.journal with inFlight := l } }).bufferRecord r)

/-! ## The ring (R434) -/

/-- A record's 32 bytes (R429). -/
def Record.bytes (r : Record) : List Byte :=
  toLE 8 r.time ++ [BitVec.ofNat 8 r.src, BitVec.ofNat 8 (r.cls + 8 * b2n r.trunc + 16 * b2n r.withheld)] ++ toLE 2 r.code ++ toLE 4 r.seq ++
    r.args.flatMap (toLE 4)

/-- The largest power of two up to n, by fuel. -/
def lowPow2 : Nat → Nat → Nat
  | 0, _ => 1
  | k + 1, n => if 2 ^ (k + 1) ≤ n then 2 ^ (k + 1) else lowPow2 k n

/-- SIZE as it acts. -/
def State.ringSize (s : State) : Nat := max 64 (lowPow2 22 (s.f EVJ_RING_SIZE.SIZE))

/-- EVJ_WR − EVJ_RD. -/
def State.ringHeld (s : State) : Nat := (s.f EVJ_WR.COUNT + 2 ^ 32 - s.f EVJ_RD.COUNT) % 2 ^ 32

def State.showRing (s : State) : State := s.put EVJ_STATUS.RING_FULL (b2n (decide (s.ringHeld = s.ringSize)))

/-- Vector 17 is requested, unless it has been and EVJ_RD has not been written since (R368). -/
def State.ringIrq (s : State) : State :=
  if s.journal.irq then s else ({ s with journal := { s.journal with irq := true } }).msix 17

/-- Whether a write at a DMA address is refused to the journal unit. -/
def State.ringRefused (s : State) (a : Nat) : Bool :=
  !dmaValid a || (s.dmaRefused a 32).isSome || (s.dmaWriteStop a 32).isSome

/-- RECORDS_LOST once 65 places are free again (R433). -/
def State.reportLost (s : State) : State :=
  match s.journal.first with
  | some (src, seq) =>
    if 65 ≤ s.bufFree then
      ({ s with journal := { s.journal with lost := 0, first := none } }).event 0x1402 0 [a32 s.journal.lost, a8 src, a32 seq]
    else s
  | none => s

/-- RING_WRITE_DONE (R434): the write of the oldest record that waits is answered, or fails. -/
def execRingWriteDone (ok : Bool) (s : State) : Host.Outcome State Fault Refusal :=
  match s.journal.waiting with
  | [] => .next s
  | (p, r) :: l =>
    if s.on EVJ_CTL.RING_EN ∧ s.ringHeld < s.ringSize then
      let n := s.f EVJ_WR.COUNT
      let a := s.f EVJ_RING_BASE.ADDR + 32 * (n % s.ringSize)
      if ¬ ok ∨ s.ringRefused a then .next ((s.put EVJ_CTL.RING_EN 0).flag EVJ_STATUS.RING_ERR)
      else
        let s1 := (s.dmaPut a r.bytes).put EVJ_WR.COUNT (n + 1)
        let s2 := ({ s1 with journal := { s1.journal with waiting := l, written := s1.journal.written ++ [(p, r)] } }).showBuf.showRing
        let s3 := if s2.ringHeld = max 1 (s.f EVJ_CTL.IRQ_THRESH) ∨ min 4 (s.f EVJ_CTL.IRQ_CLASS) ≤ r.cls then s2.ringIrq else s2
        .next s3.reportLost
    else .next s

/-- EVJ_RD written: a value outside EVJ_WR − SIZE to EVJ_WR is ignored. -/
def State.evjRdWrite (s : State) (v : Nat) : State :=
  let n := v % 2 ^ 32
  if (s.f EVJ_WR.COUNT + 2 ^ 32 - n) % 2 ^ 32 ≤ s.ringSize then
    ({ s.put EVJ_RD.COUNT n with journal := { s.journal with irq := false } }).showRing
  else s

/-- EVJ_RD_WRITE (R434). -/
def execEvjRdWrite (v : Word) (s : State) : Host.Outcome State Fault Refusal := .next (s.evjRdWrite v.toNat)

end Sys2Proof.Machine
end

