-- ==== Sys2Proof/Machine/Governor.lean ====
section
/-! DEFINITION. The power governor: grants and returns of leave, the effective budget (R451 to R453). -/

namespace Sys2Proof.Machine

open Sys2Proof

/-- What a granted requester begins. A column, a tile or a burst that its unit may no longer begin returns the leave (R144, R187). -/
def State.leaveStart (s : State) (who : Requester) : State :=
  match who with
  | .marver e k =>
    match s.mslot e k with
    | some m => if s.runs MRV_CTL.ENABLE then s.setMslot e k (some { m with started := true }) else s
    | none => s.giveLeave who
  | .coarse => if s.runs GLY_CTL.ENABLE then s else s.giveLeave who
  | .pixel => if s.runs GLY_CTL.ENABLE then s.pixelGranted else s.giveLeave who
  | .parison => if s.runs PAR_CTL.ENABLE then s.parisonGranted else s.giveLeave who
  | .training g => s.trainingGranted g
  | .sage i =>
    match s.slot i with
    | some g => State.giveLanes 4 (s.setSlot i (some { g with decrypt := true }))
    | none => s.giveLeave who

/-- LEAVE_GRANT (R451, R452): the request at the head, where it is grantable. -/
def execLeaveGrant (s : State) : Host.Outcome State Fault Refusal :=
  match s.power.waiting with
  | [] => .next s
  | w :: r =>
    if s.grantable w.units then
      let s1 := s.endWait w.who
      let s2 := if s.f PGV_STATE.EFF < w.units then s1.count PGV_CNT_OVERSIZE.COUNT 1 else s1
      let s3 := ({ s2 with power := { s2.power with waiting := r, grants := s2.power.grants ++ [w] } }).showLeave
      .next (s3.leaveStart w.who)
    else .next s

/-- Whether the operation of a holder is over. -/
def State.leaveOver (s : State) (who : Requester) : Bool :=
  match who with
  | .marver e k => (s.mslot e k).isNone
  | .coarse => s.glory.stripe.isNone
  | .pixel => s.glory.tile.isNone
  | .parison => decide (s.par.burst = 0)
  | .training g => (groupLanes g).all (fun l => !(decide (1 ≤ s.laneState l) && decide (s.laneState l ≤ 4)))
  | .sage i => (match s.slot i with | some g => g.verdict.isSome | none => true)

/-- LEAVE_RETURN (R452): a holder whose operation is over returns its units. -/
def execLeaveReturn (i : Nat) (s : State) : Host.Outcome State Fault Refusal :=
  match s.power.grants[i]? with
  | some g => if s.leaveOver g.who then .next (s.giveLeave g.who) else .next s
  | none => .next s

/-- EFF for a junction temperature (R453). -/
def State.effFor (s : State) (tj : Int) : Nat :=
  let budget : Int := max 1 (s.f PGV_BUDGET.BUDGET)
  let floor : Int := min budget (s.f PGV_BUDGET.FLOOR)
  let start := s.fs PGV_THERM.T_START
  let top := max (s.fs PGV_THERM.T_FLOOR) (start + 1)
  let lim := if tj ≤ start then budget else if top ≤ tj then floor
             else budget - (budget - floor) * (tj - start) / (top - start)
  (min budget (max floor lim)).toNat

/-- EFF recomputed: THROTTLED, and BUDGET_CHANGE after a change by more than 10 % of BUDGET since the last report. -/
def State.setEff (s : State) : State :=
  let tj := s.fs PWR_TJ.TJ
  let e := s.effFor tj
  let b := max 1 (s.f PGV_BUDGET.BUDGET)
  let s1 := (s.put PGV_STATE.EFF e).put PGV_STATUS.THROTTLED (b2n (decide (e < b)))
  let s2 := if e < b ∧ ¬ s.on PGV_STATUS.THROTTLED then s1.flag PGV_STATUS.THROTTLE_SEEN else s1
  if b < 10 * ((e : Int) - s.power.reported).natAbs then
    ({ s2 with power := { s2.power with reported := e } }).event 0x1501 0 [a16 e, a16 tj]
  else s2

/-- TJ_SAMPLE (R453): the readings of the 16 sensors. -/
def execTjSample (temps : List Int) (s : State) : Host.Outcome State Fault Refusal :=
  match temps with
  | [] => .fault (.illFormed "TJ_SAMPLE")
  | t :: r =>
    if temps.length ≠ 16 then .fault (.illFormed "TJ_SAMPLE")
    else
      let m := r.foldl max t
      .next ((s.puts PWR_TJ.TJ m).put PWR_TJ.SENSOR (temps.findIdx (fun x => decide (x = m)))).setEff

/-- PGV_BUDGET written: EFF follows for the last temperature sampled. -/
def State.budgetWrite (s : State) (v : Nat) : State :=
  ((s.put PGV_BUDGET.BUDGET (bits v 0 16)).put PGV_BUDGET.FLOOR (bits v 16 16)).setEff

/-- PGV_BUDGET_WRITE (R452). -/
def execPgvBudgetWrite (v : Word) (s : State) : Host.Outcome State Fault Refusal := .next (s.budgetWrite v.toNat)

end Sys2Proof.Machine
end

