-- ==== Sys2Proof/Machine/Power.lean ====
section
/-! DEFINITION. Supplies, PLLs, resets, boot and service-core sleep (R438 to R450). -/

namespace Sys2Proof.Machine

open Sys2Proof

/-! ## Boot (R446 to R448) -/

/-- Whether the ROM accepts a pushed image without a signature check: BLANK with no valid Kytuest slot (R349, R447). -/
def State.openBoot (s : State) : Bool := decide (s.lifecycle = 0) && !s.kytValid 0 && !s.kytValid 1

/-- An interrupted RETIRE is completed (R350). -/
def State.finishRetire (s : State) : State :=
  if s.lifecycle = 3 then s.zeroKeys.clearHbm.burn 0x1A0 (List.replicate 32 0xFF) else s

/-- Stage 1: the fuses, the shadow, an interrupted RETIRE, the device keys; then the QSPI images, or a push. -/
def State.bootFuses (s : State) : State :=
  let s1 := s.showFuses.finishRetire
  let s2 := if s1.inService then s1.deriveKeys else s1
  (s2.put SAG_STATUS.FUSE_PWR (b2n s2.power.fuseV)).put PWR_BOOT_STATUS.STAGE (if s2.openBoot then 4 else 2)

/-- The voltage of each bank is measured, in mV: free values (R458). -/
def State.measureBanks (s : State) : State :=
  (List.range 4).foldl (fun (t : State) i =>
    let (v, u) := t.free 12
    { u with power := { u.power with bankV := u.power.bankV.set i (some v) } }) s

/-- PORN_RELEASE (R446, R458): PORn rises, the banks' voltages are measured, and the ROM carries out stage 1. -/
def execPornRelease (s : State) : Host.Outcome State Fault Refusal :=
  if s.f PWR_BOOT_STATUS.STAGE = 1 then .next (({ s with power := { s.power with porn := true } }).measureBanks).bootFuses else .next s

/-- The body of an image in service-core memory, which is group 16. -/
def State.loadCores (s : State) (body : List Byte) : State :=
  let words := (List.range (cdiv body.length 8)).map (fun i => (16 * 2 ^ 36 + 8 * i, BitVec.ofNat 64 (ofLE ((body.drop (8 * i)).take 8))))
  let low := s.mem.groups.filter (fun (e : Nat × Word) => decide (e.1 < 16 * 2 ^ 36))
  let high := s.mem.groups.filter (fun (e : Nat × Word) => decide (17 * 2 ^ 36 ≤ e.1))
  { s.grpTouch 16 with
    mem := { (s.grpTouch 16).mem with
      groups := low ++ words.filter (fun (e : Nat × Word) => decide (e.2 ≠ 0)) ++ high,
      checks := s.mem.checks.filter (fun (e : Nat × Nat) => !decide (e.1 / 2 ^ 36 = 16)),
      poison := s.mem.poison.filter (fun k => !decide (k / 2 ^ 36 = 16)) },
    power := { s.power with fwLen := body.length } }

/-- The units of the data path that have been enabled set to work at stage 6 (R446). -/
def State.releaseUnits (s : State) : State :=
  ({ s with power := { s.power with released := true } }).kickCoarse.kickPixel.kickParison.kickLehr

/-- An accepted firmware image: SC0 to SC3 start, BOOT_FW, and the units are released. -/
def State.runFirmware (s : State) (img : List Byte) (source : Nat) : State :=
  let s1 := s.loadCores (img.drop 296)
  let s2 := { s1 with sage := { s1.sage with fwHash := imageHash img } }
  let s3 := (((s2.put PWR_BOOT_STATUS.STAGE 6).put PWR_BOOT_STATUS.SOURCE source).put PWR_BOOT_STATUS.SV (imageSv img)).putOwned 62
    SAG_ROLLBACK.FW_SV (imageSv img)
  (((List.range 4).foldl (fun t n => t.put (PWR_SC_CTL.RUNNING n) 1) s3).event 0x0101 0 [a8 source, a8 (imageSv img)]).releaseUnits

/-- A refused firmware image: its code and the stage that follows. -/
def State.bootRefused (s : State) (code stage : Nat) : State :=
  ((s.sageRefuse 0x1303 [a8 1, a8 code]).put PWR_BOOT_STATUS.CODE code).put PWR_BOOT_STATUS.STAGE stage

/-- QSPI_IMAGE_READ (R446, R448): the ROM has read image A in stage 2, image B in stage 3. -/
def execQspiImageRead (image : List Byte) (s : State) : Host.Outcome State Fault Refusal :=
  let st := s.f PWR_BOOT_STATUS.STAGE
  if st = 2 ∨ st = 3 then
    match s.imageCode 1 false image with
    | none => .next (s.runFirmware image (st - 2))
    | some c => .next (s.bootRefused c (if st = 2 then 3 else if bit (s.f SAG_FEATURE.FEATURE) 3 then 4 else 7))
  else .next s

/-- PWR_BOOT_PUSH written: in stage 4 the pushed image is checked. -/
def State.bootPush (s : State) (len : Nat) : State :=
  if s.f PWR_BOOT_STATUS.STAGE = 4 then
    let img := rdBytes s.power.image 0 (bits len 0 25)
    match s.imageCode 1 s.openBoot img with
    | none => s.runFirmware img 2
    | some c => s.bootRefused c 4
  else s

/-- BOOT_PUSH (R447). -/
def execBootPush (v : Word) (s : State) : Host.Outcome State Fault Refusal := .next (s.bootPush v.toNat)

/-! ## Resets (R441 to R445) -/

/-- The reset causes that survive a reset of the device. -/
def State.keepCauses (s t : State) : State :=
  [PWR_RST_CAUSE.POR, PWR_RST_CAUSE.CLKFAIL, PWR_RST_CAUSE.WARM, PWR_RST_CAUSE.PERST].foldl (fun u x => u.put x (s.f x)) t

/-- Everything returns to its reset value but the fuses, what lies outside the device, the banks' voltages and the recorded causes; the
pins take their states of R461. -/
def State.porReset (s : State) : State :=
  let t := { State.reset with
    pending := s.pending, freeCount := s.freeCount, out := s.releasePins.out,
    sage := { State.reset.sage with fuses := s.sage.fuses },
    host := { State.reset.host with mem := s.host.mem, bad := s.host.bad },
    power := { State.reset.power with porn := s.power.porn, thermN := s.power.thermN, fuseV := s.power.fuseV, bankV := s.power.bankV } }
  (s.keepCauses t).put PWR_STATUS.THERMTRIP (b2n (!s.power.thermN))

/-- PORN_ASSERT (R438, R442): PORn goes low; THERMTRIP_N returns high. -/
def execPornAssert (s : State) : Host.Outcome State Fault Refusal :=
  let s1 := if s.power.thermN then s else s.send (.thermtrip true)
  .next (({ s1 with power := { s1.power with porn := false, thermN := true } }).porReset.flag PWR_RST_CAUSE.POR)

/-- A PLL has lost its lock or its input: PLL_OK, UNLOCK_SEEN, PLL_UNLOCK. -/
def State.pllLost (s : State) (n : Nat) : State :=
  ((s.put PWR_PLL_STATUS.PLL_OK (clrBit (s.f PWR_PLL_STATUS.PLL_OK) n)).flag PWR_STATUS.UNLOCK_SEEN).event 0x0102 0 [a8 n]

/-- Clock-fail reset (R441): as at PORn; CLKFAIL and the loss of the SYS PLL are recorded behind it, and the boot restarts. -/
def State.clockFail (s : State) : State := ((s.porReset.flag PWR_RST_CAUSE.CLKFAIL).pllLost 0).bootFuses

/-- PLL_LOSS (R441). -/
def execPllLoss (pll : Fin 11) (s : State) : Host.Outcome State Fault Refusal :=
  let n := pll.val
  let s1 := s.pllLost n
  if n = 0 then .next s.clockFail
  else if n ≤ 8 then .next (s1.groupDown (n - 1))
  else if n = 9 then .next ((List.range 4).foldl State.linkDown s1)
  else .next s1

/-- PLL_RELOCK (R441): the lanes stay DOWN until the next TRAIN. -/
def execPllRelock (pll : Fin 11) (s : State) : Host.Outcome State Fault Refusal :=
  .next (s.put PWR_PLL_STATUS.PLL_OK (setBit (s.f PWR_PLL_STATUS.PLL_OK) pll))

/-- The registers of a range of the BAR return to their reset values. -/
def State.resetRegs (s : State) (p : Nat → Bool) : State :=
  { s with regs := s.regs.filter (fun (e : Nat × Nat) => !p (e.1 / 64) || isShKey e.1) }

/-- A DMA channel is aborted and reset. -/
def State.resetDma (s : State) (c : Nat) : State :=
  let s1 := (if s.dmaRunning c then s.dmaStop c 7 else s).resetRegs (fun a =>
    decide (0x401000 + 0x40 * c ≤ a) && decide (a < 0x401040 + 0x40 * c))
  s1.modDma c (fun _ => DmaCh.idle)

/-- Whether a channel of the mailbox unit is from or to the tool host. -/
def hostChannel (i : Nat) : Bool := decide (i / 6 = 0) || decide (i % 6 = 0)

/-- A host warm reset (R443). -/
def State.warmReset (s : State) (perst : Bool) : State :=
  let s1 := (List.range 14).foldl State.resetDma s
  let s2 := s1.resetRegs (fun a => decide (a = GLB_HBM_WIN.off) || decide (a = GLB_HOST_ERR.off))
  let s3 := s2.dropLocks 0
  let s4 := { s3 with host := { s3.host with
    msixTable := msixReset, pba := 0, aer := none,
    channels := s3.host.channels.mapIdx (fun i (c : Channel) => if hostChannel i then { msgs := [], seq := 0 } else c),
    fullSeen := s3.host.fullSeen.mapIdx (fun i (b : Bool) => b && !hostChannel i),
    dbPend := s3.host.dbPend.set 0 0, dbMask := s3.host.dbMask.set 0 0, dbWake := s3.host.dbWake.set 0 0 } }
  let s5 := s4.flag PWR_RST_CAUSE.WARM
  if perst then s5.flag PWR_RST_CAUSE.PERST else s5

/-- HOST_WARM_RESET (R442, R443). -/
def execHostWarmReset (perst : Bool) (s : State) : Host.Outcome State Fault Refusal := .next (s.warmReset perst)

/-! ## Service cores (R444, R450) -/

/-- SHA-384 of the image in service-core memory. -/
def State.coreHash (s : State) : List Byte :=
  sha384 (((List.range (cdiv s.power.fwLen 8)).flatMap (fun i => toLE 8 (s.rawData 16 (8 * i)))).take s.power.fwLen)

/-- No service core runs any more: the boot has failed (R448). -/
def State.bootFailed (s : State) : State :=
  ((List.range 4).foldl (fun (t : State) k => (t.put (PWR_SC_CTL.RUNNING k) 0).put (PWR_SC_CTL.ASLEEP k) 0) s).put PWR_BOOT_STATUS.STAGE 7

/-- A service core is stopped, and restarted where its image's hash is that of the running firmware; else the boot has failed. -/
def State.coreReset (s : State) (n : Nat) : State :=
  let s1 := (s.dropLocks (n + 1)).emptyChannels (n + 1)
  if s1.coreHash = s1.sage.fwHash then (s1.put (PWR_SC_CTL.RUNNING n) 1).put (PWR_SC_CTL.ASLEEP n) 0
  else (s1.bootFailed.flag (PWR_SC_CTL.HASH_FAIL n)).event 0x0103 0 [a8 n]

/-- A core goes to sleep, unless a pending doorbell bit would wake it. Receiver n + 1 is core n. -/
def State.coreSleep (s : State) (n : Nat) : State :=
  if s.on (PWR_SC_CTL.RUNNING n) ∧ s.wakePending (n + 1) = false then
    (s.put (PWR_SC_CTL.ASLEEP n) 1).put (PWR_SC_CTL.RUNNING n) 0
  else s

/-- PWR_SC_CTL of core n written by a master: HASH_FAIL's clear, RST by the host or SC0 and never of SC0, SLEEP by the core itself. -/
def State.scCtlWrite (s : State) (m n v : Nat) : State :=
  let s1 := s.w1c (PWR_SC_CTL.HASH_FAIL n) v
  let s2 := if bit v 0 ∧ m ≤ 1 ∧ n ≠ 0 ∧ s.f PWR_BOOT_STATUS.STAGE = 6 then s1.coreReset n else s1
  if bit v 1 ∧ m = n + 1 then s2.coreSleep n else s2

/-- SC_RESET (R444). -/
def execScReset (m : Fin 8) (n : Fin 4) (v : Word) (s : State) : Host.Outcome State Fault Refusal :=
  if bit v.toNat 0 then .next (s.scCtlWrite m n v.toNat) else .next s

/-- SC_SLEEP (R450). -/
def execScSleep (m : Fin 8) (n : Fin 4) (v : Word) (s : State) : Host.Outcome State Fault Refusal :=
  if bit v.toNat 1 then .next (s.scCtlWrite m n v.toNat) else .next s

/-! ## Unit reset (R445) -/

/-- The ENABLE fields of a unit that can be reset. -/
def unitEnables (u : Nat) : List Fld :=
  if u = 6 then [GTH_CTL.ENABLE] else if u = 7 then [BLP_CTL.ENABLE] else if u = 8 then [MRV_CTL.ENABLE]
  else if u = 9 then [GLY_CTL.ENABLE] else if u = 11 then [PAR_CTL.ENABLE] else if u = 12 then [LEH_CTL.ENABLE, PUN_CTL.ENABLE]
  else if u = 13 then [SFB_CTL.ENABLE] else if u = 14 then [MOT_CTL.ENABLE] else []

/-- Whether a unit may be reset now. -/
def State.unitIdle (s : State) (u : Nat) : Bool :=
  (unitEnables u).all (fun x => !s.on x) && (decide (u ≠ 4) || (List.range 16).all (fun c => !s.dmaRunning c)) &&
    (decide (u ≠ 6) || (!s.ctxOpen 0 && !s.ctxOpen 1))

/-- The requesters of leave that belong to a unit. -/
def Requester.unit : Requester → Nat
  | .marver _ _ => 8
  | .coarse => 9
  | .pixel => 9
  | .parison => 11
  | .training _ => 12
  | .sage _ => 19

/-- What the lanes have sent so far, before they go DOWN: IDLE blocks, or in TEST the pattern, which ends (R197, R224). -/
def State.linesEnd (s : State) : State :=
  (List.range 64).foldl (fun (t : State) l => if t.laneState l = 7 then t.leaveTest l else t.idleLine l) s

/-- The motion unit at reset: its pins are driven low; safe halt shows on (R426, R461). -/
def State.resetMotion (s : State) : State :=
  let axes (p : Nat → Pin) : List Nat := (List.range 8).filter (fun a => decide (s.pin (p a) = .high))
  let s1 := (axes .axEn).foldl (fun (t : State) a => t.driveEn a false) { s with mot := Motion.reset, aux := State.reset.aux }
  let s2 := (axes .axCur).foldl (fun (t : State) a => t.driveCur a false) s1
  if s.safeNow then s2.put MOT_STATUS.STATE 6 else s2

/-- A unit's internal state at reset. The active beam table belongs to the generations and is kept. -/
def State.resetUnit (s : State) (u : Nat) : State :=
  let s1 := s.resetRegs (fun a => decide (a / 2 ^ 20 = u))
  let s2 := ({ s1 with power := { s1.power with
    grants := s1.power.grants.filter (fun (g : Leave) => !decide (g.who.unit = u)),
    waiting := s1.power.waiting.filter (fun (g : Leave) => !decide (g.who.unit = u)) } }).showLeave
  if u = 4 then { s2 with host := { s2.host with dma := HostIf.reset.dma } }
  else if u = 5 then { s2 with host := { s2.host with crc := HostIf.reset.crc }, lanes := State.reset.lanes }
  else if u = 6 then { s2 with gather := Gather.reset }
  else if u = 7 then { s2 with blow := State.reset.blow }
  else if u = 8 then { s2 with mslots := State.reset.mslots, current := State.reset.current }
  else if u = 9 then { s2 with glory := Glory.reset }
  else if u = 10 then { s2 with beam := { Beam.reset with stagedT := s2.beam.stagedT, activeT := s2.beam.activeT } }
  else if u = 11 then { s2 with par := Parison.reset }
  else if u = 12 then
    { s2 with link := { Link.reset with
        nonces := s2.link.nonces, lanes := Link.reset.lanes.map (fun (p : PLane) => { p with freeAt := s2.mono100 }) } }
  else if u = 13 then { s2 with chans := State.reset.chans, emus := State.reset.emus, later := s2.later.filter (fun e => !e.2.ofSfb) }
  else if u = 14 then s2.resetMotion
  else s2

/-- PWR_UNIT_RST written: every lane goes DOWN first where Lehr and Punty are named. -/
def State.unitReset (s : State) (v : Nat) : State :=
  let us := ((List.range 11).map (· + 4)).filter (bit v)
  if s.gaf.active.isSome ∨ us.any (fun u => !s.unitIdle u) then s.flag PWR_STATUS.RST_REFUSED
  else
    let s1 := if bit v 12 then ((List.range 8).foldl (fun (t : State) g => t.retDown g 7) s).linesEnd else s
    us.foldl State.resetUnit s1

/-- UNIT_RESET (R445). -/
def execUnitReset (v : Word) (s : State) : Host.Outcome State Fault Refusal := .next (s.unitReset v.toNat)

/-! ## Supplies and temperature (R439, R453) -/

/-- VDD_FUSE_PRESENT (R439). -/
def execVddFusePresent (s : State) : Host.Outcome State Fault Refusal :=
  .next (({ s with power := { s.power with fuseV := true } }).put SAG_STATUS.FUSE_PWR 1)

/-- VDD_FUSE_LOSS (R439). A burn is one step, in which any of its bits may stay unblown (log entry 4). -/
def execVddFuseLoss (s : State) : Host.Outcome State Fault Refusal :=
  .next (({ s with power := { s.power with fuseV := false } }).put SAG_STATUS.FUSE_PWR 0)

/-- THERMTRIP (R453): THERMTRIP_N goes low and stays low until PORn. -/
def execThermtrip (s : State) : Host.Outcome State Fault Refusal :=
  .next ((({ s with power := { s.power with thermN := false } }).put PWR_STATUS.THERMTRIP 1).send (.thermtrip false))

end Sys2Proof.Machine
end

