-- ==== Sys2Proof/Machine/Views.lean ====
section
/-! DEFINITION. What registers show: the fields that a read computes from the state of their unit (R13, R345). All other fields
hold their value. -/

namespace Sys2Proof.Machine

open Sys2Proof

/-! ## Windows that no field covers -/

/-- A word of the on-die journal buffer's window: a record waiting or written at its place (R433). -/
def State.bufBytes (s : State) (place : Nat) : List Byte :=
  match (s.journal.waiting ++ s.journal.written).find? (fun e => decide (e.1 = place)) with
  | some (_, r) => r.bytes
  | none => List.replicate 32 0

/-- A 32-bit word of the member records; on a worker every one reads 0 (R336). -/
def State.memberWord (s : State) (a : Nat) : Nat :=
  if s.f CLU_STATUS.STATE = 1 then 0 else (s.member ((a - 0x1280400) / 64)).words.getD (a % 64 / 4) 0

/-! ## Fields -/

/-- A field of the data path that is shown from its unit's state. -/
def State.viewPath (s : State) (x : Fld) : Option Nat :=
  let walks (e : Nat) : List Walk := (List.range 4).filterMap (fun c => s.walk (4 * e + c))
  let engines (p : Walk → Bool) : Nat := maskOf 8 (fun e => (walks e).any p)
  if x = BLP_STATUS.BUSY then some (engines (fun w => decide (w.state = .ready)))
  else if x = BLP_STATUS.WAIT_CELL then some (engines (fun w => decide (w.state = .waitCell)))
  else if x = BLP_STATUS.WAIT_QUEUE then some (engines (fun w => decide (w.state = .waitQueue)))
  else if x = BLP_SEQ_RASTER.SEQ then
    some (s.rasterSeq (((s.blow.sweeps.map Sweep.stripe) ++ s.gaf.active.toList).head?.map Stripe.ctx |>.getD 0) % 2 ^ 32)
  else if x = BLP_TS_STATUS.FREE_BLOCKS then some (2730 - s.blocksUsed)
  else if x = BLP_TS_STATUS.IN_FLIGHT then some (s.mslots.countP (fun m => m.any (fun t => !(t.ended && t.queue.isEmpty))))
  else if x = MRV_BUSY.BUSY then some (maskOf 32 (fun e => (s.mslot e 0).isSome || (s.mslot e 1).isSome))
  else if x = GLY_STATUS.CFG_ERR then some (b2n (s.glyCause s.f ≠ 0))
  else if x = GLY_STATUS.CFG_CAUSE then some (s.glyCause s.f)
  else if x = PAR_STATUS.CFG_ERR then some (b2n (s.parCause s.f ≠ 0))
  else if x = PAR_STATUS.CFG_CAUSE then some (s.parCause s.f)
  else if x = BMP_TEMP_NOW.AGE then
    some (match s.beam.tempTick with
      | some t => min 0xFFFF ((s.mono100 - t) / 10000000)
      | none => 0xFFFF)
  else none

/-- The state of a tile slot as MRV_ENG_STATUS shows it. -/
def State.slotShows (s : State) (e k : Nat) : Nat :=
  match s.mslot e k with
  | none => 0
  | some m => if m.draining then 3 else if s.holdsLeave (.marver e k) then 2 else 1

/-- MRV_ENG_STATUS of engine e. -/
def State.viewEngine (s : State) (e : Nat) (x : Fld) : Option Nat :=
  if x = MRV_ENG_STATUS.SLOT0 e then some (s.slotShows e 0)
  else if x = MRV_ENG_STATUS.SLOT1 e then some (s.slotShows e 1)
  else if x = MRV_ENG_STATUS.CURRENT e then some (s.current.getD e 0)
  else if x = MRV_ENG_STATUS.RECORDS e then
    some (match s.mslot e (s.current.getD e 0) with
      | some m => min 0xFFFFFF m.consumed
      | none => 0)
  else none

/-- Whether a layout position of a job is shown now (R345): its context is open, holds the job, and its key has DIAG = 1. The
owner is the context times 2^128 plus the job. -/
def State.shows (s : State) (owner : Nat) : Bool :=
  let c := owner / 2 ^ 128
  s.diag c && decide ((s.ctx c).job = owner % 2 ^ 128)

/-- The slot of the oldest retained chunk (R184). While none is retained the spec gives OLDEST no value but right after a layout: it shows the
slot that the next stripe's chunk 0 would take (DESIGN CHOICE, log entry 49). -/
def State.oldestSlot (s : State) : Nat :=
  match s.par.ring.find? (fun r => decide (r.sent < r.nc)) with
  | some r => (r.base + r.sent) % 512
  | none => s.nextBase

/-- A field of Parison, of its log entry n, of Lehr or of Punty. -/
def State.viewStore (s : State) (n : Nat) (x : Fld) : Option Nat :=
  if x = PAR_RING_POS.OLDEST then some s.oldestSlot
  else if x = PAR_UNC_FIRST_X.X ∨ x = PAR_UNC_FIRST_Y.Y then (if s.shows s.par.owner then none else some 0)
  else if x = PAR_UNC_LOG.X n ∨ x = PAR_UNC_LOG.Y n then (if s.shows (mnat s.par.logOwner n) then none else some 0)
  else if x = LEH_STATUS.LOADING then some (b2n (s.link.halves.any (fun h => h.any (fun y => !y.ready))))
  else if x = LEH_STATUS.SERVING then some (b2n s.link.serve.isSome)
  else if x = PUN_KS_CTL.KEY_VALID then some (s.f SAG_STATUS.LANE_KEY)
  else if x = PUN_TAP.PRE n then some (s.pln n).taps.1
  else if x = PUN_TAP.MAIN n then some (s.pln n).taps.2.1
  else if x = PUN_TAP.POST n then some (s.pln n).taps.2.2
  else none

/-- A field of the stage feedback or of the motion unit; n is the axis or the emulation output. -/
def State.viewStage (s : State) (n : Nat) (x : Fld) : Option Nat :=
  let c := s.act 3 (SFB_AXIS_CFG.SRC n)
  if x = SFB_AXIS_POS.POS n then some (ofInt 64 (s.axisPos n))
  else if x = SFB_AXIS_SPEED.SPEED n then some (ofInt 48 (s.axisSpeed n))
  else if x = SFB_AXIS_SPEED.FLAGS n then
    some (s.f (SFB_CH_SPEED.DIR c) + 2 * s.f (SFB_CH_SPEED.ESTIMATE c) + 4 * s.f (SFB_CH_SPEED.STANDSTILL c))
  else if x = SFB_EMU_LAG.LAG n then some (ofInt 32 (max (-2147483648) (min 2147483647 (s.emuLag n))))
  else if x = MOT_LEAD.LAMBDA then some (ofInt 32 s.lambda)
  else none

/-- A field of Gaffer; n is the thread. -/
def State.viewGaffer (s : State) (n : Nat) (x : Fld) : Option Nat :=
  let h := s.thread n
  if x = GAF_STATUS.RUNNING then some (maskOf 4 (fun t => (s.thread t).running))
  else if x = GAF_STATUS.FAULTED then some (maskOf 4 (fun t => (s.thread t).fault))
  else if x = GAF_STRIPE_STATE.PREPARED then some (b2n s.gaf.prepared.isSome)
  else if x = GAF_STRIPE_STATE.QUEUED then some (b2n s.gaf.queued.isSome)
  else if x = GAF_STRIPE_STATE.ACTIVE then some (b2n s.gaf.active.isSome)
  else if x = GAF_STRIPE_ACTIVE.STRIPE then some ((s.gaf.active.map Stripe.num).getD 0)
  else if x = GAF_THREAD.PC n then some h.pc
  else if x = GAF_THREAD.RUNNING n then some (b2n h.running)
  else if x = GAF_THREAD.WAITING n then some (b2n (h.wait ≠ .none))
  else if x = GAF_THREAD.FAULT n then some (b2n h.fault)
  else if x = GAF_THREAD.CAUSE n then some h.cause
  else if x = GAF_THREAD.DEPTH n then some h.stack.length
  else if x = GAF_THREAD_PEND.PEND n then some h.pend.toNat
  else none

/-- A field of Thyme, of a port, or of a CRC engine; n is the port or the engine. -/
def State.viewOther (s : State) (n : Nat) (x : Fld) : Option Nat :=
  if x = THY_STATUS.HOLDOVER then some (b2n s.holdover)
  else if x = THY_STATUS.SLEWING then some (b2n (s.thyme.slew ≠ 0))
  else if x = THY_NOW.NS then some s.now
  else if x = THY_TIME_SEC.SEC then some s.thyme.sec
  else if x = THY_SLEW_LEFT.LEFT then some (ofInt 64 s.slewLeft)
  else if x = ETH_PORT_STATUS.CHAIN_WAIT n then some (b2n (s.chainWait n))
  else if x = CHK_RESULT.RESULT n then some (s.crcResult n)
  else none

/-- Whether a field is one of the buffer and count registers of lane n, which read 0 while Gather owns the lane (R85). -/
def laneBuffer (n : Nat) (x : Fld) : Bool :=
  x ∈ [DCP_IN_ADDR.ADDR n, DCP_IN_LEN.LEN n, DCP_OUT_ADDR.ADDR n, DCP_OUT_LEN.LEN n, DCP_IN_CONSUMED.COUNT n, DCP_OUT_PRODUCED.COUNT n]

/-- POISON of entry e of group g: the marked words of its block (R415). -/
def State.poisonMask (s : State) (g e : Nat) : Nat :=
  if s.on (ECC_CULLET_ADDR.VALID g e) then
    maskOf 32 (fun w => decide (w < blockSize g / 8) && decide (wordKey g (s.f (ECC_CULLET_ADDR.ADDR g e) + 8 * w) ∈ s.mem.poison))
  else 0

/-- The value that a read of a field returns (R13): its register's indices are i and j. -/
def State.readFld (s : State) (i j : Nat) (x : Fld) (ty : FType) : Nat :=
  match ty with
  | .wo => 0
  | .w1s => 0
  | .sh => s.shadow x
  | _ =>
    if x = ECC_CULLET_POISON.POISON i j then s.poisonMask i j
    else if laneBuffer i x ∧ ¬ s.on (DCP_CTL.OWNER i) then 0
    else (s.viewPath x <|> s.viewEngine i x <|> s.viewStore i x <|> s.viewStage i x <|> s.viewGaffer i x <|> s.viewOther i x).getD (s.f x)

end Sys2Proof.Machine
end

