-- ==== Sys2Proof/Machine/Bus.lean ====
section
/-! DEFINITION. The register bus: what a read or a write of any address of the BAR does, by its master and its width (R13, R15, R98,
R365, R366, R369). -/

namespace Sys2Proof.Machine

open Sys2Proof

/-! ## Gaffer's run control (R276) -/

/-- GAF_CTL.RUN going from 0 to 1 with a valid program: every thread is cleared and T0 starts at PC 0. -/
def State.runStart (s : State) : State :=
  ({ s with gaf := { s.gaf with threads := Thread.startAt 0 :: List.replicate 3 Thread.cleared } }).put GAF_CTL.RUN 1

/-- GAF_CTL written: a 1 is ignored while PROG_VALID = 0 and changes nothing while RUN = 1. -/
def State.gafCtlWrite (s : State) (v : Nat) : State :=
  if bit v 0 then (if s.on GAF_STATUS.PROG_VALID ∧ ¬ s.on GAF_CTL.RUN then s.runStart else s) else s.runStop

/-- GAF_EVSET written by the tool host or a service core (R290). -/
def State.evsetWrite (s : State) (m v : Nat) : State :=
  if m ≤ 4 then ((List.range 16).filter (bit v)).foldl (fun (t : State) n => t.pulse (48 + n)) s else s

/-! ## Typed writes (R13) -/

/-- The bits of a W1C field that a write leaves set. -/
def w1cBits (old written w : Nat) : Nat := old.land ((2 ^ w - 1).xor written)

/-- A write's effect on one field by its type; an SH field changes through the configuration root. -/
def State.writeFld (s : State) (v : Nat) (e : Fld × FType) : State :=
  match e.2 with
  | .rw => s.put e.1 (bits v e.1.lo e.1.w)
  | .w1c => s.put e.1 (w1cBits (s.f e.1) (bits v e.1.lo e.1.w) e.1.w)
  | _ => s

/-- A write's effect on the fields of a register, and the write to the root where it has an SH field. -/
def State.writeTyped (s : State) (a v : Nat) (l : List (Fld × FType)) : State :=
  let s1 := l.foldl (fun (t : State) e => t.writeFld v e) s
  if l.any (fun e => decide (e.2 = .sh)) then s1.landWrite a v else s1

/-- The same for a register with the ENABLE of a unit, which then sets to work. -/
def State.writeEnable (s : State) (a v : Nat) (l : List (Fld × FType)) (x : Fld) (kick : State → State) : State :=
  let s1 := s.writeTyped a v l
  if s1.on x then kick (if s.on x then s1 else s1.enabled x) else s1

/-- A context opened or closed by a write of GTH_CTX_CFG, as an admission or a close does (R87). -/
def State.ctxCfgWrite (s : State) (c v : Nat) : State :=
  let s1 := s.put (GTH_CTX_CFG.ZLIB c) (bits v 1 1)
  if bit v 0 then
    if s.ctxOpen c then s1
    else
      let job := match s.sage.jobKeys[c]? with
        | some (some k) => k.job
        | _ => 0
      ((s1.modCtx c (fun _ => { JobCtx.empty with job := job })).flag (GTH_CTX_CFG.OPEN c)).pulse 11
  else if s.ctxOpen c then s1.closeCtx c else s1

/-! ## Registers whose write does more (each with its rule at its operation) -/

/-- Registers of the units before the stage: none where the write is a plain one. `i` and `j` are the register's indices. -/
def State.writePath (s : State) (a i v : Nat) (l : List (Fld × FType)) : Option State :=
  if a = DCP_CTL.off i then some (s.dcpCtlWrite i v)
  else if a = GTH_CTL.off then some (s.gthCtlWrite v)
  else if a = GTH_REGION_BASE.off ∨ a = GTH_POOL_PAGES.off then (if s.on GTH_CTL.ENABLE then some s else none)
  else if a = GTH_CTX_CFG.off i then some (s.ctxCfgWrite i v)
  else if a = GTH_PIN.off then some (s.pinWrite v)
  else if a = BLP_CTL.off then some (s.writeEnable a v l BLP_CTL.ENABLE id)
  else if a = MRV_CTL.off then some (s.writeEnable a v l MRV_CTL.ENABLE id)
  else if a = GLY_CTL.off then some (s.writeEnable a v l GLY_CTL.ENABLE (fun t => t.kickCoarse.kickPixel))
  else if a = GLY_CURVE.off 0 then some s
  else if a = BMP_CHECK.off then some (s.bmpCheckWrite v)
  else if a = BMP_CC_ACCEPT.off then some (s.ccAcceptWrite v)
  else if a = PAR_CTL.off then some (s.writeEnable a v l PAR_CTL.ENABLE State.kickParison)
  else if a = PAR_RING_BASE.off ∨ a = PAR_RING_CFG.off then (if s.on PAR_CTL.ENABLE then some s else none)
  else if a = LEH_CTL.off then some (s.writeEnable a v l LEH_CTL.ENABLE State.kickLehr)
  else if a = PUN_CTL.off then some (s.writeEnable a v l PUN_CTL.ENABLE id)
  else if a = PUN_PRBS_CTL.off i then some (s.prbsWrite i v)
  else none

/-- Registers of the stage feedback, motion, Gaffer and Thyme. -/
def State.writeStage (s : State) (m a i v : Nat) : Option State :=
  if a = SFB_CTL.off then some (s.sfbCtlWrite v)
  else if a = SFB_CH_CFG.off i then some (s.chCfgWrite i v)
  else if a = SFB_CH_IDX_TOL.off i then some (s.idxTolWrite i v)
  else if a = SFB_CMP_CTL.off i then some (s.cmpCtlWrite i v)
  else if a = SFB_EMU_CTL.off i then some (s.emuCtlWrite i v)
  else if a = SFB_EMU_RATIO.off i then some (s.emuRatioWrite i v)
  else if a = FLS_CTL.off then some (s.flsCtlWrite v)
  else if a = MOT_AX_CTL.off i then some (s.axCtlWrite i v)
  else if a = MOT_AX_TARGET.off i then some (s.axTargetWrite i v)
  else if a = GAF_CTL.off then some (s.gafCtlWrite v)
  else if a = GAF_EVSET.off then some (s.evsetWrite m v)
  else if a = THY_INC.off then some (s.incWrite v)
  else if a = THY_ADJ_CTL.off then some (s.adjCtlWrite v)
  else if a = THY_TP_CTL.off i then some (s.tpCtlWrite i v)
  else none

/-- ENABLE trains HBM, but never where the boot has failed (R448). -/
def State.hbmTrain (s : State) (en : Bool) : State := if en ∧ s.f PWR_BOOT_STATUS.STAGE ≠ 7 then s.put HBM_CTL.READY 1 else s

/-- Registers of the ports, DMA, CRC engines, memories, journal, power and the governor. -/
def State.writeCore (s : State) (m a i j v : Nat) (l : List (Fld × FType)) : Option State :=
  if a = ETH_PORT_CFG.off i then some (s.portCfgWrite i v)
  else if a = CLU_CFG.off then some (s.cluCfgWrite v)
  else if a = CLU_GRANT_CFG.off then some (s.writeTyped a v l).grantAll
  else if a = DMA_CH_CTL.off i then some (s.dmaCtlWrite m i v)
  else if a = DMA_CH_HEAD.off i then (if s.dmaRunning i then some s else none)
  else if a = CHK_CTL.off i then some (s.chkCfgWrite i 0 v)
  else if a = CHK_POLY.off i then some (s.chkCfgWrite i 1 v)
  else if a = CHK_INIT.off i then some (s.chkCfgWrite i 2 v)
  else if a = CHK_XOROUT.off i then some (s.chkCfgWrite i 3 v)
  else if a = CHK_DATA.off i then some (s.chkData i 8 v)
  else if (a = CHK_STATUS.off i ∨ a = CHK_RESULT.off i) ∧ s.on (CHK_CTL.CLAIMED i) then some (s.chkDrop i)
  else if a = HBM_CTL.off then some ((s.writeTyped a v l).hbmTrain (bit v 0))
  else if a = HBM_MAP_CFG.off then some (s.mapCfgWrite v)
  else if a = ECC_GRP_CFG.off i then some (s.grpCfgWrite i v)
  else if a = ECC_CULLET_ADDR.off i j then some (s.cullWrite i j v)
  else if a = ECC_TEST_CTL.off then some (s.testCtlWrite v)
  else if a = EVJ_RING_BASE.off ∨ a = EVJ_RING_SIZE.off then (if s.on EVJ_CTL.RING_EN then some s else none)
  else if a = EVJ_RD.off then some (s.evjRdWrite v)
  else if a = PWR_RST_CTL.off then some (if bit v 0 ∧ m = 0 then s.warmReset false else s)
  else if a = PWR_UNIT_RST.off then some (s.unitReset v)
  else if a = PWR_SC_CTL.off i then some (s.scCtlWrite m i v)
  else if a = PWR_BOOT_PUSH.off then some (s.bootPush v)
  else if a = PGV_BUDGET.off then some (s.budgetWrite v)
  else if a = PGV_THERM.off then some (s.writeTyped a v l).setEff
  else none

/-- The row of the register map and the indices that an offset belongs to. -/
def regRow (a : Nat) : Option (RegRow × Nat × Nat) := regTable.findSome? (fun r => (r.find a).map (fun p => (r, p.1, p.2)))

/-- A whole register written by a master. -/
def State.writeReg (s : State) (m a v : Nat) (r : RegRow) (i j : Nat) : State :=
  let l := r.fields i j
  (s.writePath a i v l <|> s.writeStage m a i v <|> s.writeCore m a i j v l).getD (s.writeTyped a v l)

/-! ## The mailbox unit (R374 to R381) -/

/-- Whether a master has a channel to a receiver. -/
def hasChannel (m r : Nat) : Bool := decide (m ≤ 5) && decide (r ≤ 5) && decide (m ≠ r)

/-- A 32-bit word of the mailbox unit read by a master, at an offset from 0x0030_1000. Where doorbell bits are set in the cycle of Gaffer's
clearing read the set wins (R432): what it has read stays pending. -/
def State.mbxRead (s : State) (m o : Nat) (coincident : Bool) : Nat × State :=
  let r := o % 0x1000 / 0x100
  let k := o % 0x100
  if o < 0x1000 then
    if k < 0x40 then ((if hasChannel m r then rdLEBytes (s.host.windows.getD (6 * m + r) []) k else 0), s)
    else if k = 0x40 ∧ r ≤ 5 then
      ((if hasChannel m r then (4 - (s.channel m r).msgs.length) * 2 ^ 8 + b2n (s.host.fullSeen.getD (6 * m + r) false) * 2 ^ 16
        else 4 * 2 ^ 8), s)
    else (0, s)
  else if o < 0x2000 then
    if hasChannel r m then
      let c := (s.channel r m).msgs
      if k < 0x40 then (rdLEBytes (c.headD []) k, s) else if k = 0x40 then (c.length * 2 ^ 8, s) else (0, s)
    else (0, s)
  else if o = 0x2000 then (s.dbPend m, if m = 6 ∧ coincident = false then s.dbClear 6 (2 ^ 32 - 1) else s)
  else if o = 0x2004 then (s.dbMask m, s)
  else if o = 0x2008 then (s.dbWake m, s)
  else if o = 0x2200 then (s.f MBX_CNT_FULL.COUNT, s.put MBX_CNT_FULL.COUNT (b2n coincident))
  else if o = 0x2204 then (s.f MBX_CNT_LOCKERR.COUNT, s.put MBX_CNT_LOCKERR.COUNT (b2n coincident))
  else if 0x3000 ≤ o ∧ o < 0x3100 then s.lockRead m ((o - 0x3000) / 4)
  else (0, s)
where
  /-- A 32-bit word of a message. -/
  rdLEBytes (l : List Byte) (k : Nat) : Nat := ofLE ((l.drop (k / 4 * 4)).take 4)

/-- A message with the 32-bit word at an offset replaced. -/
def setMsgWord (l : List Byte) (k v : Nat) : List Byte := l.take k ++ toLE 4 v ++ l.drop (k + 4)

/-- A 32-bit word of the mailbox unit written by a master. -/
def State.mbxWrite (s : State) (m o v : Nat) : State :=
  let r := o % 0x1000 / 0x100
  let k := o % 0x100
  if o < 0x1000 then
    if hasChannel m r then
      if k < 0x40 then
        { s with host := { s.host with windows := lmod s.host.windows (6 * m + r) (fun l => setMsgWord l (k / 4 * 4) v) } }
      else if k = 0x40 then
        let s1 := if bit v 16 then { s with host := { s.host with fullSeen := s.host.fullSeen.set (6 * m + r) false } } else s
        if bit v 0 then s1.push m r (s1.host.windows.getD (6 * m + r) []) else s1
      else s
    else s
  else if o < 0x2000 then (if hasChannel r m ∧ k = 0x40 ∧ bit v 0 then s.pop r m else s)
  else if o = 0x2000 then (if m = 6 then s else s.dbClear m v)
  else if o = 0x2004 then s.dbMaskWrite m v
  else if o = 0x2008 then s.dbWakeWrite m v
  else if 0x2100 ≤ o ∧ o < 0x2120 then s.ring ((o - 0x2100) / 4) (v % 2 ^ 24)
  else if 0x3000 ≤ o ∧ o < 0x3100 then s.lockWrite m ((o - 0x3000) / 4) v
  else s

/-! ## Reads with effects (R98, R304, R313) -/

/-- The fields of a register after it has been read: an RC field is 0, and a counter that rose in the same cycle 1. -/
def State.clearRc (s : State) (a : Nat) (coincident : Bool) (l : List (Fld × FType)) : State :=
  let one := coincident && !decide (a = BLP_MAXDEPTH.off) && !decide (0x1000140 ≤ a ∧ a < 0x1000180)
  l.foldl (fun (t : State) e => if e.2 = .rc then t.put e.1 (b2n one) else t) s

/-- A whole register read. -/
def State.readReg (s : State) (a : Nat) (coincident : Bool) (r : RegRow) (i j : Nat) : Nat × State :=
  let l := r.fields i j
  if a = THY_TC_TIME.off i then s.tcTimeRead i
  else if a = THY_TIME_SEC.off then s.timeSecRead
  else ((l.map (fun e => s.readFld i j e.1 e.2 * 2 ^ e.1.lo)).sum, s.clearRc a coincident l)

/-! ## Widths (R369) -/

/-- A 32-bit read: a 32-bit register, or a half of a 64-bit one. -/
def State.read32 (s : State) (a : Nat) (coincident : Bool) : Nat × State :=
  match regRow a, regRow (a - 4) with
  | some (r, i, j), _ => let (v, t) := s.readReg a coincident r i j; (v % 2 ^ 32, t)
  | none, some (r, i, j) =>
    if r.bytes = 8 ∧ a % 8 = 4 then let (v, t) := s.readReg (a - 4) coincident r i j; (v / 2 ^ 32, t) else (0, s)
  | none, none => (0, s)

/-- Whether an offset is one of the 64-bit registers of CRC engine i, whose claimed engine drops every write (R399). -/
def chkReg (i a : Nat) : Bool :=
  decide (a = CHK_POLY.off i) || decide (a = CHK_INIT.off i) || decide (a = CHK_XOROUT.off i) || decide (a = CHK_DATA.off i) ||
    decide (a = CHK_RESULT.off i)

/-- A 32-bit write to half of a 64-bit register is discarded; a CRC engine's flag tells of a dropped one (R369, R399). -/
def State.writeHalf (s : State) (a v i : Nat) (low : Bool) : State :=
  if low ∧ a = CHK_DATA.off i then s.chkData i 4 v
  else if chkReg i a ∧ s.on (CHK_CTL.CLAIMED i) then s.chkDrop i
  else s

/-- A 32-bit write: a 32-bit register, or a half of a 64-bit one. -/
def State.write32 (s : State) (m a v : Nat) : State :=
  match regRow a, regRow (a - 4) with
  | some (r, i, j), _ => if r.bytes = 4 then s.writeReg m a (v % 2 ^ 32) r i j else s.writeHalf a v i true
  | none, some (r, i, _) => if r.bytes = 8 ∧ a % 8 = 4 then s.writeHalf (a - 4) v i false else s
  | none, none => s

/-- A 64-bit read: a 64-bit register, or a 32-bit register and the one above it. -/
def State.read64 (s : State) (a : Nat) (coincident : Bool) : Nat × State :=
  match regRow a with
  | some (r, i, j) =>
    if r.bytes = 8 then s.readReg a coincident r i j
    else
      let (v, t) := s.read32 a coincident
      let (w, u) := t.read32 (a + 4) coincident
      (v + 2 ^ 32 * w, u)
  | none => let (w, u) := s.read32 (a + 4) coincident; (2 ^ 32 * w, u)

/-- A 64-bit write. -/
def State.write64 (s : State) (m a v : Nat) : State :=
  match regRow a with
  | some (r, i, j) => if r.bytes = 8 then s.writeReg m a v r i j else (s.write32 m a (v % 2 ^ 32)).write32 m (a + 4) (v / 2 ^ 32)
  | none => s.write32 m (a + 4) (v / 2 ^ 32)

/-! ## Windows (R369) -/

/-- The windows of the BAR that hold no registers. -/
inductive Window where
  | fuses | msix | hbm | boot | mailbox | dmem | pmem | members | records
  deriving DecidableEq, Repr

/-- The window of an offset. -/
def windowOf (a : Nat) : Option Window :=
  if 0x1000 ≤ a ∧ a < 0x11A0 then some .fuses
  else if 0x2000 ≤ a ∧ a < 0x3200 then some .msix
  else if 0x80000 ≤ a ∧ a < 0x100000 then some .hbm
  else if 0x180000 ≤ a ∧ a < 0x200000 then some .boot
  else if 0x301000 ≤ a ∧ a < 0x304400 then some .mailbox
  else if 0xF10000 ≤ a ∧ a < 0xF20000 then some .dmem
  else if 0xF40000 ≤ a ∧ a < 0xF80000 then some .pmem
  else if 0x1280440 ≤ a ∧ a < 0x1280840 then some .members
  else if 0x1410000 ≤ a ∧ a < 0x1420000 then some .records
  else none

/-- The n bytes at an offset of a 64-bit word. -/
def wordPart (v a n : Nat) : Nat := v / 2 ^ (8 * (a % 8)) % 2 ^ (8 * n)

/-- A read of Gaffer's program or data memory, group 14 or 15. Uncorrectable program words read free (log entry 4); those of the data
memory are answered with an error (R409). -/
def State.readGroup (s : State) (m g a n : Nat) : Option Nat × State :=
  match s.readWord g (a / 8 * 8) with
  | (some v, t) => (some (wordPart v a n), t)
  | (none, t) => if g = 15 then (none, if m = 0 then t.send (.completerAbort a) else t) else let (v, u) := t.free (8 * n); (some v, u)

/-- A read of `n` bytes of a window by a master; none is an error response. -/
def State.readWindow (s : State) (m : Nat) (w : Window) (a n : Nat) (coincident : Bool) : Option Nat × State :=
  match w with
  | .fuses => (some (wordPart (mnat s.mem.tmr ((a - 0x1000) / 8)) a n), s)
  | .msix => (some (if a < 0x2200 then rdLE s.host.msixTable (a - 0x2000) n
                    else if 0x3000 ≤ a ∧ a < 0x3008 then wordPart s.host.pba a n else 0), s)
  | .hbm => let (d, t) := s.winRead (s.winAddress (a - 0x80000)) n; (d.map ofLE, t)
  | .boot => (some 0, s)
  | .mailbox =>
    let (v, t) := s.mbxRead m (a - 0x301000) coincident
    if n = 8 then let (u, t2) := t.mbxRead m (a + 4 - 0x301000) coincident; (some (v + 2 ^ 32 * u), t2) else (some v, t)
  | .dmem => s.readGroup m 15 (a - 0xF10000) n
  | .pmem => s.readGroup m 14 (a - 0xF40000) n
  | .members => (some (s.memberWord a + (if n = 8 then 2 ^ 32 * s.memberWord (a + 4) else 0)), s)
  | .records => (some (ofLE (((s.bufBytes ((a - 0x1410000) / 32)).drop (a % 32)).take n)), s)

/-- A write of `n` bytes of a window by a master; false is an error response. -/
def State.writeWindow (s : State) (m : Nat) (w : Window) (a n v : Nat) : State × Bool :=
  match w with
  | .msix =>
    (if a < 0x2200 then State.msixUnmask { s with host := { s.host with msixTable := wrLE s.host.msixTable (a - 0x2000) n v } }
     else s, true)
  | .hbm => s.winWrite m (s.winAddress (a - 0x80000)) (toLE n v)
  | .boot =>
    (if s.f PWR_BOOT_STATUS.STAGE = 4 then
      { s with power := { s.power with image := wrLE s.power.image (s.f PWR_BOOT_WIN.PART * 2 ^ 19 + (a - 0x180000)) n v } } else s, true)
  | .mailbox =>
    let t := s.mbxWrite m (a - 0x301000) (v % 2 ^ 32)
    (if n = 8 then t.mbxWrite m (a + 4 - 0x301000) (v / 2 ^ 32) else t, true)
  | .dmem =>
    (if n < 8 ∧ s.f (ECC_GRP_CFG.MODE 15) = 0 then s.event 0x1104 0 [a8 15, a36 (a - 0xF10000), a8 m]
     else s.dmemWrite (a - 0xF10000) (toLE n v), true)
  | _ => (s, true)

/-! ## The bus -/

/-- A read of `n` bytes at an offset of the BAR by a master: its data, or none for an error response. -/
def State.busRead (s : State) (m a n : Nat) (coincident : Bool) : Option Nat × State :=
  match windowOf a with
  | some w => s.readWindow m w a n coincident
  | none => let (v, t) := if n = 8 then s.read64 a coincident else s.read32 a coincident; (some v, t)

/-- A write of `n` bytes at an offset of the BAR by a master; false is an error response. -/
def State.busWrite (s : State) (m a n v : Nat) : State × Bool :=
  match windowOf a with
  | some w => s.writeWindow m w a n v
  | none => (if n = 8 then s.write64 m a v else s.write32 m a v, true)

/-- The answer of a read that the command names. -/
def State.readCommand (s : State) (m a n : Nat) (coincident : Bool) : State :=
  match s.busRead m a n coincident with
  | (some v, t) => t.answer64 v
  | (none, t) => t.answerErr

/-- RC_READ (R13, R98): a read by a master; an RC field is cleared, and restarts at 1 where it rose in the same cycle. -/
def execRcRead (m : Fin 8) (addr width : Nat) (coincident : Bool) (s : State) : Host.Outcome State Fault Refusal :=
  if accessOk addr width then .next (s.readCommand m addr width coincident) else .fault (.illFormed "RC_READ")

/-- REGISTER_WRITE (R13, R369): a write by a master, applied by the field types. -/
def execRegisterWrite (m : Fin 8) (addr width : Nat) (v : Word) (s : State) : Host.Outcome State Fault Refusal :=
  if accessOk addr width then .next (s.busWrite m addr width v.toNat).1 else .fault (.illFormed "REGISTER_WRITE")

/-- SH_REGISTER_WRITE (R28): a write by a master to a register with an SH field; to any other register it is not this command. -/
def execShRegisterWrite (m : Fin 8) (addr width : Nat) (v : Word) (s : State) : Host.Outcome State Fault Refusal :=
  if accessOk addr width then
    .next (if isShReg addr || (decide (width = 8) && isShReg (addr + 4)) then (s.busWrite m addr width v.toNat).1 else s)
  else .fault (.illFormed "SH_REGISTER_WRITE")

end Sys2Proof.Machine
end

