-- ==== Sys2Proof/Machine/Triso.lean ====
section
/-! DEFINITION. The Triso instructions that a thread carries out by itself: arithmetic, control flow, the data memory, the register
bus, SPAWN and EXIT (R277 to R284). A command names the thread that issues, and acts when the instruction at that thread's PC is its
own (log entry 2). -/

namespace Sys2Proof.Machine

open Sys2Proof

/-! ## Issue (R277, R409) -/

/-- A thread that runs and does not wait issues the instruction at its PC. An illegal encoding and an uncorrectable program word raise
PROG_FAULT with cause ILLEGAL; an instruction of another operation is not this command's. -/
def State.issue (s : State) (t : Nat) (op : Op) (run : Triso → State → State) : Host.Outcome State Fault Refusal :=
  let h := s.thread t
  if h.running = true ∧ h.wait = .none then
    match s.readWord 14 (8 * h.pc) with
    | (none, u) => .next (u.progFault t causeIllegal)
    | (some w, u) =>
      match Triso.decode (BitVec.ofNat 64 w) with
      | none => .next (u.progFault t causeIllegal)
      | some i => if i.op = op then .next (run i u) else .next s
  else .next s

/-- The register that a field names. -/
def State.reg (s : State) (t : Nat) (r : BitVec 4) : Word := (s.thread t).reg r.toNat

/-- D takes a value and the thread goes on. -/
def State.result (s : State) (t : Nat) (i : Triso) (v : Word) : State := s.threadDone t i.d.toNat v

/-! ## Operands (R278, R279) -/

/-- The condition of F over two registers (R278). -/
def condHolds (f : BitVec 4) (a b : Word) : Bool :=
  match f.toNat with
  | 0 => true
  | 1 => decide (a = b)
  | 2 => decide (a ≠ b)
  | 3 => a.slt b
  | 4 => !a.slt b
  | 5 => a.ult b
  | _ => !a.ult b

/-- The condition of an instruction. -/
def State.cond (s : State) (t : Nat) (i : Triso) : Bool := condHolds i.f (s.reg t i.a) (s.reg t i.b)

/-- D = A op B. -/
def State.alu (t : Nat) (f : Word → Word → Word) (i : Triso) (s : State) : State := s.result t i (f (s.reg t i.a) (s.reg t i.b))

/-! ## Arithmetic (R279) -/

/-- NOP. -/
def execTrisoNop (t : Fin 4) (s : State) : Host.Outcome State Fault Refusal := s.issue t .nop (fun _ u => u.nextPc t)

/-- ADD. -/
def execTrisoAdd (t : Fin 4) (s : State) : Host.Outcome State Fault Refusal := s.issue t .add (State.alu t (fun a b => a + b))

/-- SUB. -/
def execTrisoSub (t : Fin 4) (s : State) : Host.Outcome State Fault Refusal := s.issue t .sub (State.alu t (fun a b => a - b))

/-- AND. -/
def execTrisoAnd (t : Fin 4) (s : State) : Host.Outcome State Fault Refusal := s.issue t .and (State.alu t (fun a b => a &&& b))

/-- OR. -/
def execTrisoOr (t : Fin 4) (s : State) : Host.Outcome State Fault Refusal := s.issue t .or (State.alu t (fun a b => a ||| b))

/-- XOR. -/
def execTrisoXor (t : Fin 4) (s : State) : Host.Outcome State Fault Refusal := s.issue t .xor (State.alu t (fun a b => a ^^^ b))

/-- SHL by B[5:0]. -/
def execTrisoShl (t : Fin 4) (s : State) : Host.Outcome State Fault Refusal :=
  s.issue t .shl (State.alu t (fun a b => a <<< (b.toNat % 64)))

/-- SHR by B[5:0], logical. -/
def execTrisoShr (t : Fin 4) (s : State) : Host.Outcome State Fault Refusal :=
  s.issue t .shr (State.alu t (fun a b => a >>> (b.toNat % 64)))

/-- SRA by B[5:0], arithmetic. -/
def execTrisoSra (t : Fin 4) (s : State) : Host.Outcome State Fault Refusal :=
  s.issue t .sra (State.alu t (fun a b => a.sshiftRight (b.toNat % 64)))

/-- MUL: bits [63:0] of the product. -/
def execTrisoMul (t : Fin 4) (s : State) : Host.Outcome State Fault Refusal := s.issue t .mul (State.alu t (fun a b => a * b))

/-- SET: 1 where the condition holds, else 0. -/
def execTrisoSet (t : Fin 4) (s : State) : Host.Outcome State Fault Refusal :=
  s.issue t .set (fun i u => u.result t i (if u.cond t i then 1 else 0))

/-- ADDI. -/
def execTrisoAddi (t : Fin 4) (s : State) : Host.Outcome State Fault Refusal :=
  s.issue t .addi (fun i u => u.result t i (u.reg t i.a + i.sext))

/-- ANDI. -/
def execTrisoAndi (t : Fin 4) (s : State) : Host.Outcome State Fault Refusal :=
  s.issue t .andi (fun i u => u.result t i (u.reg t i.a &&& i.zext))

/-- ORI. -/
def execTrisoOri (t : Fin 4) (s : State) : Host.Outcome State Fault Refusal :=
  s.issue t .ori (fun i u => u.result t i (u.reg t i.a ||| i.zext))

/-- XORI. -/
def execTrisoXori (t : Fin 4) (s : State) : Host.Outcome State Fault Refusal :=
  s.issue t .xori (fun i u => u.result t i (u.reg t i.a ^^^ i.zext))

/-- SHLI. -/
def execTrisoShli (t : Fin 4) (s : State) : Host.Outcome State Fault Refusal :=
  s.issue t .shli (fun i u => u.result t i (u.reg t i.a <<< (i.imm.toNat % 64)))

/-- SHRI, logical. -/
def execTrisoShri (t : Fin 4) (s : State) : Host.Outcome State Fault Refusal :=
  s.issue t .shri (fun i u => u.result t i (u.reg t i.a >>> (i.imm.toNat % 64)))

/-- SRAI, arithmetic. -/
def execTrisoSrai (t : Fin 4) (s : State) : Host.Outcome State Fault Refusal :=
  s.issue t .srai (fun i u => u.result t i ((u.reg t i.a).sshiftRight (i.imm.toNat % 64)))

/-- MOVI. -/
def execTrisoMovi (t : Fin 4) (s : State) : Host.Outcome State Fault Refusal := s.issue t .movi (fun i u => u.result t i i.sext)

/-- MOVHI: D[63:32] = IMM, D[31:0] unchanged. -/
def execTrisoMovhi (t : Fin 4) (s : State) : Host.Outcome State Fault Refusal :=
  s.issue t .movhi (fun i u => u.result t i (i.imm ++ (u.reg t i.d).extractLsb' 0 32))

/-! ## Control flow (R279, R280) -/

/-- The thread goes to a PC. -/
def State.jump (s : State) (t pc : Nat) : State := s.modThread t (fun h => { h with pc := pc })

/-- BR. -/
def execTrisoBr (t : Fin 4) (s : State) : Host.Outcome State Fault Refusal :=
  s.issue t .br (fun i u => if u.cond t i then u.jump t i.target else u.nextPc t)

/-- CALL: a taken one with 16 entries on the return stack raises STACK_OVF. -/
def execTrisoCall (t : Fin 4) (s : State) : Host.Outcome State Fault Refusal :=
  s.issue t .call (fun i u =>
    if u.cond t i then
      if 16 ≤ (u.thread t).stack.length then u.progFault t causeStackOvf
      else u.modThread t (fun h => { h with stack := (h.pc + 1) :: h.stack, pc := i.target })
    else u.nextPc t)

/-- RET: an empty stack raises STACK_UNF, an entry of 32,768 PC_RANGE. -/
def execTrisoRet (t : Fin 4) (s : State) : Host.Outcome State Fault Refusal :=
  s.issue t .ret (fun _ u =>
    match (u.thread t).stack with
    | [] => u.progFault t causeStackUnf
    | p :: r => if 32768 ≤ p then u.progFault t causePcRange else u.modThread t (fun h => { h with stack := r, pc := p }))

/-- JMPR: a target of 32,768 or more raises PC_RANGE. -/
def execTrisoJmpr (t : Fin 4) (s : State) : Host.Outcome State Fault Refusal :=
  s.issue t .jmpr (fun i u =>
    let p := (u.reg t i.a).toNat
    if 32768 ≤ p then u.progFault t causePcRange else u.jump t p)

/-! ## Data memory (R281) -/

/-- The data address A + sext(IMM); none where it raises DMEM. -/
def State.dataAddr (s : State) (t : Nat) (i : Triso) : Option Nat :=
  let a := (s.reg t i.a + i.sext).toNat
  if a % 8 = 0 ∧ a < 65536 then some a else none

/-- LD. An uncorrectable word raises DMEM (R409). -/
def execTrisoLd (t : Fin 4) (s : State) : Host.Outcome State Fault Refusal :=
  s.issue t .ld (fun i u =>
    match u.dataAddr t i with
    | none => u.progFault t causeDmem
    | some a => match u.readWord 15 a with
      | (none, v) => v.progFault t causeDmem
      | (some w, v) => v.result t i (BitVec.ofNat 64 w))

/-- ST. -/
def execTrisoSt (t : Fin 4) (s : State) : Host.Outcome State Fault Refusal :=
  s.issue t .st (fun i u =>
    match u.dataAddr t i with
    | none => u.progFault t causeDmem
    | some a => (u.dmemWrite a (toLE 8 (u.reg t i.b).toNat)).nextPc t)

/-- XCHG: B is the register before D is written. -/
def execTrisoXchg (t : Fin 4) (s : State) : Host.Outcome State Fault Refusal :=
  s.issue t .xchg (fun i u =>
    match u.dataAddr t i with
    | none => u.progFault t causeDmem
    | some a => match u.readWord 15 a with
      | (none, v) => v.progFault t causeDmem
      | (some w, v) => (v.dmemWrite a (toLE 8 (u.reg t i.b).toNat)).result t i (BitVec.ofNat 64 w))

/-! ## Registers (R282, R283) -/

/-- The units that RDREG reaches, by id. -/
def readsUnit (u : Nat) : Bool := decide (u ≤ 0x12) || decide (u = 0x14) || decide (u = 0x15)

/-- The units that WRREG reaches, by id. -/
def writesUnit (u : Nat) : Bool := decide (u = 0x02) || (decide (0x07 ≤ u) && decide (u ≤ 0x0E)) || decide (u = 0x15)

/-- The BAR offset A + zext(IMM) of an access and its width in bytes; none where it raises REG_ACCESS. -/
def State.regAddr (s : State) (t : Nat) (i : Triso) (ok : Nat → Bool) : Option (Nat × Nat) :=
  let a := (s.reg t i.a + i.zext).toNat
  let n := if i.f = 1 then 8 else 4
  if a < 0x1600000 ∧ a % n = 0 ∧ ok (a / 2 ^ 20) = true then some (a, n) else none

/-- A thread's write to an SH register has landed in this tick: a COMMIT of the thread counts from it (R292). -/
def State.markWrite (s : State) (t : Nat) : State :=
  { s with root := { s.root with
      threadTick := s.root.threadTick.set t s.tick,
      commits := s.root.commits.map (fun c => if c.thread = t then { c with lastTick := s.tick } else c) } }

/-- A posted write reaches its register, and its slot is free; an error response is the fault of the WRREG at its PC (R282, R283). -/
def State.landPost (s : State) (t pc a n : Nat) (v : Word) : State :=
  let s1 := s.modThread t (fun h => if h.wait = .slot then { h with wait := .none } else h)
  match s1.busWrite 6 a n v.toNat with
  | (u, false) => (u.modThread t (fun h => { h with pc := pc })).progFault t causeRegError
  | (u, true) => u.markWrite t

/-- The posted writes of a thread reach their registers in program order, ahead of a read or a list of the same thread. -/
def State.drainPosts (s : State) (t : Nat) : State :=
  (s.later.filter (fun e => e.2.postOf t)).foldl (fun (u : State) e => match e.2 with
    | .posted k pc a n v => u.landPost k pc a n v
    | _ => u) { s with later := s.later.filter (fun e => !e.2.postOf t) }

/-- RDREG: the thread's posted writes come first; one of them that fails has stopped the thread. -/
def execTrisoRdreg (t : Fin 4) (s : State) : Host.Outcome State Fault Refusal :=
  s.issue t .rdreg (fun i u0 =>
    match u0.regAddr t i readsUnit with
    | none => u0.progFault t causeRegAccess
    | some (a, n) =>
      let u := u0.drainPosts t
      if (u.thread t).running = false then u
      else match u.busRead 6 a n false with
        | (none, v) => v.progFault t causeRegError
        | (some w, v) => v.result t i (BitVec.ofNat 64 w))

/-- The instant at which a write posted now reaches its register: no earlier than those before it, and no later than a response may
take (R284); else it is free. -/
def State.postDue (s : State) (t f : Nat) : Nat :=
  (s.later.filter (fun e => e.2.postOf t)).foldl (fun m e => max m e.1) (s.mono100 + 10 * (1 + f % 250))

/-- WRREG: the write is posted; with 32 outstanding the thread waits, and issues it when one has completed. -/
def execTrisoWrreg (t : Fin 4) (s : State) : Host.Outcome State Fault Refusal :=
  s.issue t .wrreg (fun i u =>
    match u.regAddr t i writesUnit with
    | none => u.progFault t causeRegAccess
    | some (a, n) =>
      if 32 ≤ u.later.countP (fun e => e.2.postOf t) then u.modThread t (fun h => { h with wait := .slot })
      else
        let (f, v) := u.free 16
        (v.at (u.postDue t f) (.posted t (u.thread t).pc a n (BitVec.ofNat 64 ((u.reg t i.b).toNat % 2 ^ (8 * n))))).nextPc t)

/-! ## Threads (R276, R279) -/

/-- SPAWN: a thread that runs is left alone, with D = 1; else it is cleared and starts with G1 = A. -/
def execTrisoSpawn (t : Fin 4) (s : State) : Host.Outcome State Fault Refusal :=
  s.issue t .spawn (fun i u =>
    let n := i.f.toNat
    if (u.thread n).running then u.result t i 1
    else (u.modThread n (fun _ => (Thread.startAt i.target).setReg 1 (u.reg t i.a))).result t i 0)

/-- EXIT: the thread stops and its return stack is clear; at PC 32,767 it raises PC_RANGE as every instruction that is no taken branch,
CALL, RET or JMPR (R280). -/
def execTrisoExit (t : Fin 4) (s : State) : Host.Outcome State Fault Refusal :=
  s.issue t .exit (fun _ u =>
    let v := u.modThread t (fun h => { h with running := false, stack := [] })
    if (u.thread t).pc = 32767 then v.progFault t causePcRange else v)

end Sys2Proof.Machine
end

