-- ==== Sys2Proof/Machine/GafferCmds.lean ====
section
/-! DEFINITION. The unit commands: stripes, generations, events, halt, resume and abandon, and Gaffer's run control (R276, R285 to
R298). -/

namespace Sys2Proof.Machine

open Sys2Proof

/-! ## PREP and GO (R287 to R289, R425) -/

/-- Words of the data memory from an address, read through their checker; none where one is uncorrectable. -/
def State.dmemList (s : State) (a : Nat) : Nat → Option (List Nat) × State
  | 0 => (some [], s)
  | n + 1 =>
    match s.readWord 15 a with
    | (none, u) => (none, u)
    | (some w, u) => let (l, v) := u.dmemList (a + 8) n; (l.map (fun r => w :: r), v)

/-- The stripe of a descriptor's five words under a generation and its first column number. -/
def stripeOf (l : List Nat) (gen seq0 job : Nat) : Stripe :=
  let w (k : Nat) : Nat := l.getD k 0
  { num := bits (w 0) 0 32, len := bits (w 0) 32 32, orgX := sgn 32 (bits (w 1) 0 32), orgY := sgn 32 (bits (w 1) 32 32),
    xf0 := sgn 64 (w 2), yax := sgn 64 (w 3), neg := bit (w 4) 0, ctx := bits (w 4) 1 1, gen := gen, seq0 := seq0, job := job }

/-- Whether a descriptor's five words keep R287: L in its range, the reserved bits 0. -/
def descriptorOk (l : List Nat) : Bool :=
  let len := bits (l.getD 0 0) 32 32
  decide (256 ≤ len) && decide (len ≤ 1073741824) && decide (l.getD 4 0 < 4)

/-- The sweeps of a stripe that has just been prepared. -/
def Sweep.start (k : Stripe) : Sweep :=
  { stripe := k, dStarted := 0, dEnded := 0, rStarted := 0, rEnded := 0, degenerate := 0, revoked := 0, overCnt := 0, clamped := 0,
    drained := [], released := 0, rasterOver := false }

/-- The lowest code of R288 that refuses a descriptor, 0 where none does. -/
def State.prepCode (s : State) (l : List Nat) : Nat :=
  let k := stripeOf l 0 0 0
  if s.gaf.prepared.isSome then 1
  else if s.f GAF_GEN.COMMITTED = 0 ∨ s.root.tableCleared = true then 2
  else if descriptorOk l = false then 3
  else if s.ctxOpen k.ctx = false then 4
  else if (s.ctx k.ctx).lastPrep.any (fun p => decide (k.num ≤ p)) then 5
  else 0

/-- A stripe is PREPARED under the last committed generation, and the front end has it. -/
def State.prepare (s : State) (l : List Nat) : State :=
  let c := bits (l.getD 4 0) 1 1
  let k := stripeOf l s.root.staged.gen (s.ctx c).nextSeq (s.ctx c).job
  let s1 := s.modCtx c (fun x => { x with lastPrep := some k.num, nextSeq := x.nextSeq + cdiv k.len 256 })
  ({ s1 with
    gaf := { s1.gaf with prepared := some k },
    blow := { s1.blow with sweeps := s1.blow.sweeps ++ [Sweep.start k] },
    par := { s1.par with next := s1.par.next ++ [k] } }).tellStripe k.num 1

/-- PREP with a descriptor that has been read. The context of a halted job accepts none; its code is a free value other than 0. -/
def State.prepWith (s : State) (t : Nat) (i : Triso) (l : List Nat) : State :=
  let code := s.prepCode l
  if code ≠ 0 then s.result t i (BitVec.ofNat 64 code)
  else if (s.ctx (bits (l.getD 4 0) 1 1)).halt.isSome then
    let (v, u) := s.free 64
    u.result t i (BitVec.ofNat 64 (1 + v % (2 ^ 64 - 1)))
  else (s.prepare l).result t i 0

/-- The address of a structure of n bytes in the data memory; none where it is not a multiple of 8 or the structure runs past the
memory. -/
def State.dataBlock (s : State) (t : Nat) (i : Triso) (n : Nat) : Option Nat :=
  let a := (s.reg t i.a + i.sext).toNat
  if a % 8 = 0 ∧ a + n ≤ 65536 then some a else none

/-- PREP. -/
def execPrep (t : Fin 4) (s : State) : Host.Outcome State Fault Refusal :=
  s.issue t .prep (fun i u =>
    match u.dataBlock t i 40 with
    | none => u.result t i (BitVec.ofNat 64 (u.prepCode []))
    | some a => match u.dmemList a 5 with
      | (none, v) => v.progFault t causeDmem
      | (some l, v) => v.prepWith t i l)

/-- GO. -/
def execGo (t : Fin 4) (s : State) : Host.Outcome State Fault Refusal :=
  s.issue t .go (fun i u =>
    match u.gaf.prepared, u.gaf.queued with
    | none, _ => u.result t i 1
    | some _, some _ => u.result t i 2
    | some k, none =>
      (({ u with gaf := { u.gaf with prepared := none, queued := some k } }).tellStripe k.num 2).result t i 0)

/-! ## COMMIT and SELCAL (R292, R293) -/

/-- COMMIT: it waits at the root until GENERATION_COPY gives it its tick. -/
def execCommit (t : Fin 4) (s : State) : Host.Outcome State Fault Refusal :=
  s.issue t .commit (fun i u =>
    let c : CommitReq := { thread := t, lastTick := u.root.threadTick.getD t 0, dst := i.d.toNat }
    { u.modThread t (fun h => { h with wait := .commit }) with root := { u.root with commits := u.root.commits ++ [c] } })

/-- The list of a SELCAL lands at the root in one tick. -/
def State.landList (s : State) : List Nat → State
  | [] => s
  | e :: r =>
    let s1 := s.landWrite BMP_SEL.off (e % 2 ^ 32)
    ((r.zipIdx).foldl (fun (u : State) x => u.landWrite (BMP_SET.off x.2) (x.1 % 2 ^ 32)) s1)

/-- The entries of a SELCAL list behind entry 0: SETS, of which BMP_SET has eight. -/
def listSets (e : Nat) : Nat := min 8 (bits e BMP_SEL.SETS.lo BMP_SEL.SETS.w)

/-- SELCAL. -/
def execSelcal (t : Fin 4) (s : State) : Host.Outcome State Fault Refusal :=
  s.issue t .selcal (fun i u =>
    match u.dataBlock t i 8 with
    | none => u.progFault t causeDmem
    | some a => match u.readWord 15 a with
      | (none, v) => v.progFault t causeDmem
      | (some e, v) =>
        if 65536 < a + 8 + 8 * listSets e then v.progFault t causeDmem
        else match v.dmemList (a + 8) (listSets e) with
          | (none, w) => w.progFault t causeDmem
          | (some l, w) =>
            let x := w.drainPosts t
            if (x.thread t).running = false then x else ((x.landList (e :: l)).markWrite t).nextPc t)

/-! ## Events (R290, R291) -/

/-- All ones: a timeout's result. -/
def allOnes : Word := BitVec.ofNat 64 (2 ^ 64 - 1)

/-- The lowest pending bit of a thread among those of a mask. -/
def State.waitHit (s : State) (t : Nat) (mask : Nat) : Option Nat :=
  (List.range 64).find? (fun e => bit mask e && bit (s.thread t).pend.toNat e)

/-- A WAIT takes a pending bit: it is cleared and its number returned. -/
def State.takeEvent (s : State) (t d e : Nat) : State :=
  (s.modThread t (fun h => { h with pend := BitVec.ofNat 64 (clrBit h.pend.toNat e) })).threadDone t d (BitVec.ofNat 64 e)

/-- The mask of a WAIT: event IMM[5:0], or any of B. -/
def State.waitMask (s : State) (t : Nat) (i : Triso) : Nat := if i.f = 1 then (s.reg t i.b).toNat else 2 ^ (i.imm.toNat % 64)

/-- WAIT. -/
def execWait (t : Fin 4) (s : State) : Host.Outcome State Fault Refusal :=
  s.issue t .wait (fun i u =>
    let m := u.waitMask t i
    match u.waitHit t m with
    | some e => u.takeEvent t i.d.toNat e
    | none =>
      if u.reg t i.a = 0 then u.result t i allOnes
      else
        let timed := decide (u.reg t i.a ≠ allOnes)
        u.modThread t (fun h => { h with wait := .event i.d.toNat m timed }))

/-- WAIT_RETURN: a bit that the thread waits for is pending. -/
def execWaitReturn (t : Fin 4) (s : State) : Host.Outcome State Fault Refusal :=
  match (s.thread t).wait with
  | .event d m _ =>
    match s.waitHit t m with
    | some e => .next (s.takeEvent t d e)
    | none => .next s
  | _ => .next s

/-- WAIT_TIMEOUT: the timeout of a WAIT has expired; a bit that has become pending is taken all the same. -/
def execWaitTimeout (t : Fin 4) (s : State) : Host.Outcome State Fault Refusal :=
  match (s.thread t).wait with
  | .event d m timed =>
    match s.waitHit t m with
    | some e => .next (s.takeEvent t d e)
    | none => if timed then .next (s.threadDone t d allOnes) else .next s
  | _ => .next s

/-- SIG. -/
def execSig (t : Fin 4) (s : State) : Host.Outcome State Fault Refusal :=
  s.issue t .sig (fun i u => (u.pulse (48 + i.imm.toNat % 16)).nextPc t)

/-- RING: bits 24 to 31 are not set by software (R377). -/
def execRing (t : Fin 4) (s : State) : Host.Outcome State Fault Refusal :=
  s.issue t .ring (fun i u =>
    (if i.imm.toNat < 24 then u.ring (i.f.toNat % 8) (2 ^ i.imm.toNat) else u).nextPc t)

/-! ## Time (R34, R286, R310) -/

/-- STAMP: with F = 1 it journals USER. -/
def execStamp (t : Fin 4) (s : State) : Host.Outcome State Fault Refusal :=
  s.issue t .stamp (fun i u =>
    let v := BitVec.ofNat 64 u.now
    let u1 := if i.f = 1 then u.event 0x0F01 0 [a8 t, a32 i.imm.toNat, a64 (u.reg t i.a).toNat] else u
    u1.result t i v)

/-- ARMTP: a start that is not ahead arms nothing, and no pulse follows it; what was armed before stays (R285, R310). -/
def execArmtp (t : Fin 4) (s : State) : Host.Outcome State Fault Refusal :=
  s.issue t .armtp (fun i u =>
    let n := i.f.toNat % 8
    let start := (u.reg t i.a).toNat
    if u.ahead16 start then
      let u1 := ((u.put (THY_TP_START.S n) start).put (THY_TP_PERIOD.Q n) (u.reg t i.b).toNat).put (THY_TP_CTL.WIDTH n) i.imm.toNat
      (u1.armPulse n).result t i 0
    else (u.tpMissed n start 0).result t i 1)

/-! ## CCHK and TRAIN (R161, R167, R220) -/

/-- The reason of CELL_CHECK_REFUSED, 0 where a cell check may start; of several the lowest, since R161 gives no order (DESIGN CHOICE, log
entry 50). -/
def State.cchkCode (s : State) : Nat :=
  if s.mot.flashing then 1 else if s.allReady = false then 2 else if s.f BMP_CC_STATUS.STATE = 1 then 3 else 0

/-- CCHK. -/
def execCchk (t : Fin 4) (s : State) : Host.Outcome State Fault Refusal :=
  s.issue t .cchk (fun i u =>
    let r := u.cchkCode
    if r = 0 then u.startCellCheck.result t i 0 else (u.event 0x0A02 0 [a8 r]).result t i (BitVec.ofNat 64 r))

/-- TRAIN. -/
def execTrain (t : Fin 4) (s : State) : Host.Outcome State Fault Refusal :=
  s.issue t .train (fun i u =>
    if u.mot.flashing then u.result t i 1
    else if u.link.train.isSome then u.result t i 2
    else (u.startTrain (u.reg t i.a).toNat).result t i 0)

/-! ## HALT, RESUME and ABANDON (R296 to R298, R428) -/

/-- Whether a stripe is in motion states 1 to 5. -/
def State.inMotion (s : State) : Bool :=
  s.gaf.active.isSome && decide (1 ≤ s.f MOT_STATUS.STATE) && decide (s.f MOT_STATUS.STATE ≤ 5)

/-- HALT. -/
def execHalt (t : Fin 4) (s : State) : Host.Outcome State Fault Refusal :=
  s.issue t .halt (fun i u =>
    if u.inMotion then (u.halt 0x0F10 u.openFlash [a8 t, a32 u.openFlash]).result t i 0 else u.result t i 1)

/-- The lowest code of R297 that refuses a RESUME of a generation, 0 where none does. -/
def State.resumeCode (s : State) (gen : Nat) : Nat :=
  if s.on GAF_STATUS.HALTED = false ∧ s.gaf.resumeOk = false then 1
  else if gen ≠ s.f GAF_HALT_GEN.GEN then 2
  else if s.allReady = false then 3
  else if s.axesValid = false then 4
  else if s.gaf.resumeOk then 5
  else if s.gaf.active.any (fun k => (s.ctx k.ctx).halt.isSome) then 6
  else 0

/-- An accepted RESUME: HALTED clears, and the stripe restarts at t_h once the stage is at rest (REST_REACHED). -/
def State.acceptResume (s : State) : State :=
  let s1 := s.put GAF_STATUS.HALTED 0
  let s2 := { s1 with
    gaf := { s1.gaf with resumeOk := true },
    mot := { s1.mot with armed := false, t0 := s.f GAF_HALT_FLASH.TH } }
  match s.gaf.active with
  | some k => s2.tellStripe k.num 3
  | none => s2

/-- RESUME. -/
def execResume (t : Fin 4) (s : State) : Host.Outcome State Fault Refusal :=
  s.issue t .resume (fun i u =>
    let c := u.resumeCode (u.reg t i.b).toNat
    if c = 0 then u.acceptResume.result t i 0 else u.result t i (BitVec.ofNat 64 c))

/-- X_FULL and X_NONE of a stripe abandoned at t_h (R428). -/
def State.abandonRegion (s : State) (k : Stripe) (th : Nat) : Nat × Nat :=
  let (far, near) := match s.ringOf k with
    | some r => (r.flashes - k.len, r.minX0)
    | none => let b := (s.beamTable k.gen).getD BeamBank.empty; (b.maxX0, b.minX0)
  (th - far, min k.len (th - near))

/-- The halted stripe is abandoned: its remaining work is discarded, its unsent slots are released, for which a held
Parison may have waited, and the motion unit brings the stage to rest (R185, R298). -/
def State.abandon (s : State) (k : Stripe) : State :=
  let th := s.f GAF_HALT_FLASH.TH
  let (full, none_) := s.abandonRegion k th
  let s1 := (s.dropStripe k).releaseSlots (fun r => decide (r.num = k.num) && decide (r.ctx = k.ctx))
  let s2 := (s1.event 0x0F04 0 [a32 k.num, a32 th]).event 0x1403 0 [a32 k.num, a32 k.gen, a32 full, a32 none_]
  let s3 := s2.put GAF_STATUS.HALTED 0
  (({ s3 with gaf := { s3.gaf with ending := true } }).tellStripe k.num 6).endHold

/-- ABANDON. -/
def execAbandon (t : Fin 4) (s : State) : Host.Outcome State Fault Refusal :=
  s.issue t .abandon (fun i u =>
    match u.gaf.active with
    | some k => if u.on GAF_STATUS.HALTED then (u.abandon k).result t i 0 else u.result t i 1
    | none => u.result t i 1)

/-! ## Run control and software events (R276, R290) -/

/-- RUN_START: GAF_CTL.RUN is written 1. -/
def execRunStart (v : Word) (s : State) : Host.Outcome State Fault Refusal :=
  if bit v.toNat 0 then .next (s.gafCtlWrite v.toNat) else .next s

/-- RUN_STOP: GAF_CTL.RUN is written 0. -/
def execRunStop (v : Word) (s : State) : Host.Outcome State Fault Refusal :=
  if bit v.toNat 0 then .next s else .next (s.gafCtlWrite v.toNat)

/-- EVSET_WRITE: GAF_EVSET is written by a master. -/
def execEvsetWrite (m : Fin 8) (v : Word) (s : State) : Host.Outcome State Fault Refusal := .next (s.evsetWrite m v.toNat)

end Sys2Proof.Machine
end

