-- ==== Sys2Proof/Machine/Ptp.lean ====
section
/-! DEFINITION. IEEE 1588 messages: stamps, one-step Sync, Delay_Req with a launch time, the transparent clock (R314 to R319). Times
at a port are in 2⁻¹⁶ ns of Thyme time. -/

namespace Sys2Proof.Machine

open Sys2Proof

/-- The fixed TX and RX latency of a port in 2⁻¹⁶ ns (R315): 54.25 and 141.75 ns with RS-FEC, 9.50 and 15.75 ns without. -/
def State.ptpLatency (s : State) (p : Nat) : Int × Int :=
  if s.on (ETH_PORT_CFG.FEC p) then (3555328, 9289728) else (622592, 1032192)

/-- The egress stamp of a message whose timestamp point crosses the PCS/PMA boundary at a time (R315). -/
def State.egress (s : State) (p : Nat) (boundary : Int) : Int := boundary + (s.ptpLatency p).1 + s.fs (THY_PTP_LAT.TX p)

/-- The ingress stamp (R315). -/
def State.ingress (s : State) (p : Nat) (boundary : Int) : Int := boundary - (s.ptpLatency p).2 - s.fs (THY_PTP_LAT.RX p)

/-- Seconds, nanoseconds and 2⁻¹⁶ ns of a stamp. -/
def stampParts (t : Int) : Nat × Nat × Nat :=
  let u := ofInt 94 t
  (u / 65536 / 1000000000 % 2 ^ 48, u / 65536 % 1000000000, u % 65536)

/-- The 16-byte receive stamp (R316). -/
def stampBytes (p mtype : Nat) (onPath : Bool) (t : Int) : List Byte :=
  let (sec, ns, frac) := stampParts t
  toLE 6 sec ++ toLE 2 frac ++ toLE 4 ns ++ toLE 4 (p + 4 * (mtype % 16) + 64 * b2n onPath)

/-- A message that is not stamped is passed on; it is counted here unless the chain forwards it, and counts it there (R314). -/
def State.ptpUnsupported (s : State) (p : Nat) (frame : List Byte) : State :=
  (if s.goesOn p frame then s else s.count THY_PTP_CNT_UNSUP.COUNT 1).send (.ptpPass p frame)

/-- A worker's servo hears a Sync of its domain: there is one of the present term, and HOLD ends (R341). -/
def State.hearSync (s : State) (frame : List Byte) (o : Nat) : State :=
  if s.slaved ∧ beAt frame o 1 % 16 = 0 ∧ beAt frame (o + 4) 1 = s.f CLU_CFG.DOMAIN then s.put THY_REF_CTL.HOLD 0 else s

/-- A PTP message received on a port for the device: a Sync or Delay_Req with its stamp, any other without (R314 to R316). ONPATH tells
that the transparent clock forwards it too. A frame that the device does not take is ETH_FRAME_DROP's. -/
def State.ptpReceive (s : State) (p : Nat) (frame : List Byte) (boundary : Int) : State :=
  if s.portUp p = false ∨ s.takes frame = false then s
  else match ptpEvent frame with
    | some (o, _) =>
      (s.send (.ptpRx p frame (stampBytes p (beAt frame o 1) (s.goesOn p frame) (s.ingress p boundary)))).hearSync frame o
    | none => if (ptpAt frame).isSome then s.ptpUnsupported p frame else s

/-- PTP_EVENT_RX (R314 to R316). A frame whose FCS is bad is not received (R319): ETH_FRAME_DROP drops it. -/
def execPtpEventRx (p : Fin 4) (frame : List Byte) (boundary : Int) (badFcs : Bool) (s : State) : Host.Outcome State Fault Refusal :=
  if badFcs then .next s else .next (s.ptpReceive p frame boundary)

/-- PTP_UNSUPPORTED_MESSAGE (R314): of a port and a frame, a message that the device does not act on. -/
def execPtpUnsupportedMessage (r : Fin 4 × List Byte) (s : State) : Host.Outcome State Fault Refusal :=
  if ptpEvent r.2 = none then .next (s.ptpReceive r.1 r.2 0) else .next s

/-! ## Fields of a message (IEEE 1588) -/

/-- correctionField of a message at an offset. -/
def ptpCorr (l : List Byte) (o : Nat) : Int := sgn 64 (beAt l (o + 8) 8)

/-- A message with another correctionField. -/
def setCorr (l : List Byte) (o : Nat) (c : Int) : List Byte := patch l (o + 8) (toBE 8 (ofInt 64 c))

/-- A message with another originTimestamp. -/
def setOrigin (l : List Byte) (o sec ns : Nat) : List Byte := patch l (o + 34) (toBE 6 sec ++ toBE 4 ns)

/-- A frame's UDP checksum computed anew where UDP carries the message (R323); `o` is the offset of the message. -/
def resum (l : List Byte) (o : Nat) (udp : Bool) : List Byte :=
  if udp then
    let l0 := patch l (o - 2) (toBE 2 0)
    let h := typeOffset l + 2
    let c := inetSum (udpSum (beAt l (h + 12) 4) (beAt l (h + 16) 4) ((l0.drop (o - 8)).take (beAt l (o - 4) 2)))
    patch l0 (o - 2) (toBE 2 (if c = 0 then 65535 else c))
  else l

/-! ## One-step Sync (R317, R341) -/

/-- A Sync as it leaves a port: the egress stamp in originTimestamp and correctionField, twoStepFlag clear, and a manager's domain. -/
def State.syncFrameOn (s : State) (p : Nat) (frame : List Byte) (o : Nat) (udp : Bool) (boundary : Int) : List Byte :=
  let (sec, ns, frac) := stampParts (s.egress p boundary)
  let l := setCorr (setOrigin frame o sec ns) o (ptpCorr frame o + frac)
  let l1 := patch l (o + 6) (toBE 1 (clrBit (beAt l (o + 6) 1) 1))
  resum (if s.f CLU_STATUS.STATE = 4 then patch l1 (o + 4) (toBE 1 (s.f CLU_CFG.DOMAIN)) else l1) o udp

/-- SYNC_TX (R317, R338, R341): a manager's Sync leaves on both chain ports, or on its only cluster port, which has role 2 and sends
nothing while it waits for its partner (R322); a device of a cluster that is not its manager sends none. `at2` gives the boundary time at
E2 or at the only port, and that at E3. -/
def execSyncTx (p : Fin 4) (frame : List Byte) (at2 : Int × Int) (s : State) : Host.Outcome State Fault Refusal :=
  match ptpEvent frame with
  | none => .next s
  | some (o, udp) =>
    let one (t : State) (q : Nat) (b : Int) : State := t.sendFrameOn q (s.syncFrameOn q frame o udp b)
    if s.f CLU_STATUS.STATE = 4 then
      if s.chainUp then .next (one (one s 2 at2.1) 3 at2.2)
      else if s.f (ETH_PORT_CFG.ROLE p) = 2 then .next (one s p at2.1)
      else .next s
    else if s.f CLU_STATUS.STATE = 0 then .next (one s p at2.1)
    else .next s

/-! ## Delay_Req with launch time (R318) -/

/-- DELAY_REQ_LAUNCH (R318): a message queued less than 2 µs before its launch time is not sent; else it waits for it. Without the
LAUNCH flag it leaves as it stands. -/
def execDelayReqLaunch (p : Fin 4) (frame : List Byte) (launch : Bool) (lt : Nat) (s : State) : Host.Outcome State Fault Refusal :=
  if s.portUp p then
    if launch = false then .next (s.sendFrameOn p frame)
    else if lt * 2 ^ 32 < s.acc + 2000 * 2 ^ 32 then
      .next ((s.count THY_PTP_CNT_LATE.COUNT 1).event 0x0207 0 [a8 p, a64 lt])
    else .next { s with launches := s.launches ++ [{ port := p, lt := lt, frame := frame }] }
  else .next s

/-- The 0.64 ns of a block slot in 2⁻¹⁶ ns, rounded up. -/
def blockSlot : Nat := 41944

/-- A Delay_Req leaves at the first block slot at or after its launch time: the difference is a free value below a slot. -/
def State.launch (s : State) (l : Launch) : State :=
  let (f, t) := s.free 32
  match ptpEvent l.frame with
  | some (o, udp) =>
    let m := setCorr (setOrigin l.frame o (l.lt / 1000000000) (l.lt % 1000000000)) o (ptpCorr l.frame o + (f % blockSlot : Nat))
    t.sendFrameOn l.port (resum m o udp)
  | none => t.sendFrameOn l.port l.frame

/-- The launch times that have come, and then the frames that waited behind them. -/
def State.launchDue (s : State) : State :=
  let s1 := (s.launches.filter (fun l => decide (l.lt * 2 ^ 32 ≤ s.acc))).foldl State.launch
    { s with launches := s.launches.filter (fun l => decide (s.acc < l.lt * 2 ^ 32)) }
  s1.ports.foldl (fun (t : State) e => t.emit e.1 e.2) { s1 with ports := [] }

/-! ## The transparent clock (R319) -/

/-- The correctionField that a residence time leaves (R319). -/
def addResidence (corr d : Int) : Int :=
  let top : Int := 0x7FFFFFFFFFFFFFFF
  if corr = top ∨ top < corr + d ∨ corr + d < -top - 1 then top else corr + d

/-- A forwarded message with its residence time; a UDP checksum becomes 0. -/
def State.residence (s : State) (p : Nat) (frame : List Byte) (o : Nat) (udp : Bool) (rx tx : Int) : List Byte :=
  let l := setCorr frame o (addResidence (ptpCorr frame o) (s.egress (5 - p) tx - s.ingress p rx))
  if udp then patch l (o - 2) (toBE 2 0) else l

/-- TC_FORWARD (R314, R319, R324): a Sync or Delay_Req forwarded between E2 and E3 gains its residence time and is counted; another PTP
message is counted and unchanged. -/
def execTcForward (p : Fin 4) (frame : List Byte) (rx tx : Int) (badFcs : Bool) (s : State) : Host.Outcome State Fault Refusal :=
  if s.goesOn p frame then
    match ptpEvent frame with
    | some (o, udp) => .next ((s.count THY_PTP_CNT_TC.COUNT 1).passOn p (s.residence p frame o udp rx tx) badFcs)
    | none => if (ptpAt frame).isSome then .next ((s.count THY_PTP_CNT_UNSUP.COUNT 1).passOn p frame badFcs) else .next s
  else .next s

end Sys2Proof.Machine
end

