-- ==== Sys2Proof/Machine/Ticks.lean ====
section
/-! DEFINITION. The SEQ tick: Thyme goes on, and what was still to come has its time (R239, R249, R283, R302, R306, R313, R318). -/

namespace Sys2Proof.Machine

open Sys2Proof

/-- A value of a channel registers in SEQ: the sequencer's latest, and its watch for a late arming (R263, R265). -/
def State.seqSample (s : State) (n : Nat) (v : Seen) : State :=
  let s1 := s.modChan n (fun c => { c with seen := v })
  if s.act 3 (SFB_AXIS_CFG.SRC 0) = n then s1.watchArm else s1

/-- The pulse of a compare leaves: its pin, its event line, its rising edge to the captures (R249). -/
def State.comparePulse (s : State) (c : Nat) (pin : Bool) (w t : Nat) : State :=
  ((if pin then s.send (.compare c w) else s).pulse (32 + c)).captureSource (1 + c) false t

/-- Something has its time, the instant t since PORn. -/
def State.come (s : State) (t : Nat) : Later → State
  | .quad n k => s.quadStable n k
  | .index n stamp => s.latchIndex n stamp
  | .sample n v => s.seqSample n v
  | .fault n cause => s.faultEvent n cause
  | .deviation a dev => s.deviationEvent a dev
  | .compare c pin w => s.comparePulse c pin w (s.timeAt t)
  | .capture src falling => s.captureSource src falling (s.timeAt t)
  | .posted k pc a n v => s.landPost k pc a n v

/-- What comes up to now, in order. -/
def State.comeDue (s : State) : State :=
  (s.later.filter (fun e => decide (e.1 ≤ s.mono100))).foldl (fun (t : State) e => t.come e.1 e.2)
    { s with later := s.later.filter (fun e => !decide (e.1 ≤ s.mono100)) }

/-- One SEQ tick. -/
def State.seqTick (s : State) : State := s.thymeTick.comeDue.launchDue

/-- THYME_TICK (R302). -/
def execThymeTick (s : State) : Host.Outcome State Fault Refusal := .next s.seqTick

/-- SLEW_END (R306): the tick that adds the remainder of the slew in progress. -/
def execSlewEnd (s : State) : Host.Outcome State Fault Refusal :=
  if s.thyme.slew ≠ 0 ∧ s.thyme.slew - s.slewStep = 0 then .next s.seqTick else .next s

end Sys2Proof.Machine
end

