-- ==== Sys2Proof/Machine/Dispatch.lean ====
section
/-! DEFINITION. The meaning of every command: one arm for each constructor of Instr. -/

namespace Sys2Proof.Machine

open Sys2Proof

def exec (i : Instr) (s : State) : Host.Outcome State Fault Refusal :=
  match i with
  | .shRegisterWrite m addr width v => Sys2Proof.Machine.execShRegisterWrite m addr width v s
  | .configBroadcast => Sys2Proof.Machine.execConfigBroadcast s
  | .generationCopy => Sys2Proof.Machine.execGenerationCopy s
  | .bankSwitch u stripe gen => Sys2Proof.Machine.execBankSwitch u stripe gen s
  | .leaveGrant => Sys2Proof.Machine.execLeaveGrant s
  | .leaveReturn k => Sys2Proof.Machine.execLeaveReturn k s
  | .tjSample temps => Sys2Proof.Machine.execTjSample temps s
  | .pgvBudgetWrite v => Sys2Proof.Machine.execPgvBudgetWrite v s
  | .segmentFetch => Sys2Proof.Machine.execSegmentFetch s
  | .wstData session seq len total payload => Sys2Proof.Machine.execWstData session seq len total payload s
  | .wstRefuse session reason => Sys2Proof.Machine.execWstRefuse session reason s
  | .ackDelayTimeout slot => Sys2Proof.Machine.execAckDelayTimeout slot s
  | .wstRto slot => Sys2Proof.Machine.execWstRto slot s
  | .tagVerdict slot => Sys2Proof.Machine.execTagVerdict slot s
  | .installCell slot => Sys2Proof.Machine.execInstallCell slot s
  | .spaceResume slot => Sys2Proof.Machine.execSpaceResume slot s
  | .pageRead w => Sys2Proof.Machine.execPageRead w s
  | .contextClose c => Sys2Proof.Machine.execContextClose c s
  | .pinSet v => Sys2Proof.Machine.execPinSet v s
  | .pinClear v => Sys2Proof.Machine.execPinClear v s
  | .gatherDisable v => Sys2Proof.Machine.execGatherDisable v s
  | .dcpStart n v => Sys2Proof.Machine.execDcpStart n v s
  | .dcpResume n v => Sys2Proof.Machine.execDcpResume n v s
  | .dcpAbort n v => Sys2Proof.Machine.execDcpAbort n v s
  | .dcpOwnerWrite n v => Sys2Proof.Machine.execDcpOwnerWrite n v s
  | .dcpTaskEnd n => Sys2Proof.Machine.execDcpTaskEnd n s
  | .rcRead m addr width coincident => Sys2Proof.Machine.execRcRead m addr width coincident s
  | .registerWrite m addr width v => Sys2Proof.Machine.execRegisterWrite m addr width v s
  | .walkStart w => Sys2Proof.Machine.execWalkStart w s
  | .walkResume w => Sys2Proof.Machine.execWalkResume w s
  | .fcNop w => Sys2Proof.Machine.execFcNop w s
  | .fcCellBegin w => Sys2Proof.Machine.execFcCellBegin w s
  | .fcCellEnd w => Sys2Proof.Machine.execFcCellEnd w s
  | .fcCall w => Sys2Proof.Machine.execFcCall w s
  | .fcArray w => Sys2Proof.Machine.execFcArray w s
  | .fcRect w => Sys2Proof.Machine.execFcRect w s
  | .fcXtrap w => Sys2Proof.Machine.execFcXtrap w s
  | .fcYtrap w => Sys2Proof.Machine.execFcYtrap w s
  | .fcPoly w => Sys2Proof.Machine.execFcPoly w s
  | .fcDose w => Sys2Proof.Machine.execFcDose w s
  | .fcSegref slot => Sys2Proof.Machine.execFcSegref slot s
  | .fcEnd slot => Sys2Proof.Machine.execFcEnd slot s
  | .recordConsume e => Sys2Proof.Machine.execRecordConsume e s
  | .discardEnd e k => Sys2Proof.Machine.execDiscardEnd e k s
  | .drainEnd e k => Sys2Proof.Machine.execDrainEnd e k s
  | .densityItem => Sys2Proof.Machine.execDensityItem s
  | .coarseColumnDone => Sys2Proof.Machine.execCoarseColumnDone s
  | .tileHeader => Sys2Proof.Machine.execTileHeader s
  | .pixelWord => Sys2Proof.Machine.execPixelWord s
  | .bandRelease => Sys2Proof.Machine.execBandRelease s
  | .fillDone => Sys2Proof.Machine.execFillDone s
  | .bmpCheck v => Sys2Proof.Machine.execBmpCheck v s
  | .checkDone => Sys2Proof.Machine.execCheckDone s
  | .cchk t => Sys2Proof.Machine.execCchk t s
  | .cellCheckRequest => Sys2Proof.Machine.execCellCheckRequest s
  | .ccResult g alive first results => Sys2Proof.Machine.execCcResult g alive first results s
  | .cellCheckTimeout => Sys2Proof.Machine.execCellCheckTimeout s
  | .ccAccept v => Sys2Proof.Machine.execCcAccept v s
  | .ccAcceptDone => Sys2Proof.Machine.execCcAcceptDone s
  | .tempReport g alive valid ovt sensors => Sys2Proof.Machine.execTempReport g alive valid ovt sensors s
  | .stripeColumnZero => Sys2Proof.Machine.execStripeColumnZero s
  | .chunkRelease => Sys2Proof.Machine.execChunkRelease s
  | .chunkServeStart => Sys2Proof.Machine.execChunkServeStart s
  | .chunkLoadDone => Sys2Proof.Machine.execChunkLoadDone s
  | .planeFrame l => Sys2Proof.Machine.execPlaneFrame l s
  | .ack g alive flash plane ftype ack nak => Sys2Proof.Machine.execAck g alive flash plane ftype ack nak s
  | .replaySend l => Sys2Proof.Machine.execReplaySend l s
  | .ackTimeout l => Sys2Proof.Machine.execAckTimeout l s
  | .commitPoint => Sys2Proof.Machine.execCommitPoint s
  | .linkStatus g alive locked aligned => Sys2Proof.Machine.execLinkStatus g alive locked aligned s
  | .tapReq g alive lane pre main post eqDone => Sys2Proof.Machine.execTapReq g alive lane pre main post eqDone s
  | .returnLaneTimeout g => Sys2Proof.Machine.execReturnLaneTimeout g s
  | .blockLockLoss g => Sys2Proof.Machine.execBlockLockLoss g s
  | .blockLockAcquire g => Sys2Proof.Machine.execBlockLockAcquire g s
  | .train t => Sys2Proof.Machine.execTrain t s
  | .trainStateTimeout l => Sys2Proof.Machine.execTrainStateTimeout l s
  | .prbsTestEnter l v => Sys2Proof.Machine.execPrbsTestEnter l v s
  | .prbsInj l v => Sys2Proof.Machine.execPrbsInj l v s
  | .aeSample n rawS rawC => Sys2Proof.Machine.execAeSample n rawS rawC s
  | .quadEdge n level => Sys2Proof.Machine.execQuadEdge n level s
  | .ssiRead n => Sys2Proof.Machine.execSsiRead n s
  | .ssiFrame n lineHigh bits => Sys2Proof.Machine.execSsiFrame n lineHigh bits s
  | .rearm n v => Sys2Proof.Machine.execRearm n v s
  | .indexEdge n falling => Sys2Proof.Machine.execIndexEdge n falling s
  | .refClr n v => Sys2Proof.Machine.execRefClr n v s
  | .standstillTimeout n => Sys2Proof.Machine.execStandstillTimeout n s
  | .channelDisable n v => Sys2Proof.Machine.execChannelDisable n v s
  | .compareArm c v => Sys2Proof.Machine.execCompareArm c v s
  | .emuEnable e v => Sys2Proof.Machine.execEmuEnable e v s
  | .emuEdge e => Sys2Proof.Machine.execEmuEdge e s
  | .go t => Sys2Proof.Machine.execGo t s
  | .stripeActivate => Sys2Proof.Machine.execStripeActivate s
  | .positioningDone => Sys2Proof.Machine.execPositioningDone s
  | .runInStart => Sys2Proof.Machine.execRunInStart s
  | .t0Arm => Sys2Proof.Machine.execT0Arm s
  | .strobeLock => Sys2Proof.Machine.execStrobeLock s
  | .planeStrobe => Sys2Proof.Machine.execPlaneStrobe s
  | .runoutDone => Sys2Proof.Machine.execRunoutDone s
  | .restReached => Sys2Proof.Machine.execRestReached s
  | .paceEval => Sys2Proof.Machine.execPaceEval s
  | .setpointFrame => Sys2Proof.Machine.execSetpointFrame s
  | .servoReturn port bytes => Sys2Proof.Machine.execServoReturn port bytes s
  | .axTarget a v => Sys2Proof.Machine.execAxTarget a v s
  | .axStep a => Sys2Proof.Machine.execAxStep a s
  | .axStop a v => Sys2Proof.Machine.execAxStop a v s
  | .axIdle a => Sys2Proof.Machine.execAxIdle a s
  | .trisoNop t => Sys2Proof.Machine.execTrisoNop t s
  | .trisoAdd t => Sys2Proof.Machine.execTrisoAdd t s
  | .trisoSub t => Sys2Proof.Machine.execTrisoSub t s
  | .trisoAnd t => Sys2Proof.Machine.execTrisoAnd t s
  | .trisoOr t => Sys2Proof.Machine.execTrisoOr t s
  | .trisoXor t => Sys2Proof.Machine.execTrisoXor t s
  | .trisoShl t => Sys2Proof.Machine.execTrisoShl t s
  | .trisoShr t => Sys2Proof.Machine.execTrisoShr t s
  | .trisoSra t => Sys2Proof.Machine.execTrisoSra t s
  | .trisoMul t => Sys2Proof.Machine.execTrisoMul t s
  | .trisoSet t => Sys2Proof.Machine.execTrisoSet t s
  | .trisoAddi t => Sys2Proof.Machine.execTrisoAddi t s
  | .trisoAndi t => Sys2Proof.Machine.execTrisoAndi t s
  | .trisoOri t => Sys2Proof.Machine.execTrisoOri t s
  | .trisoXori t => Sys2Proof.Machine.execTrisoXori t s
  | .trisoShli t => Sys2Proof.Machine.execTrisoShli t s
  | .trisoShri t => Sys2Proof.Machine.execTrisoShri t s
  | .trisoSrai t => Sys2Proof.Machine.execTrisoSrai t s
  | .trisoMovi t => Sys2Proof.Machine.execTrisoMovi t s
  | .trisoMovhi t => Sys2Proof.Machine.execTrisoMovhi t s
  | .trisoBr t => Sys2Proof.Machine.execTrisoBr t s
  | .trisoCall t => Sys2Proof.Machine.execTrisoCall t s
  | .trisoRet t => Sys2Proof.Machine.execTrisoRet t s
  | .trisoJmpr t => Sys2Proof.Machine.execTrisoJmpr t s
  | .trisoLd t => Sys2Proof.Machine.execTrisoLd t s
  | .trisoSt t => Sys2Proof.Machine.execTrisoSt t s
  | .trisoXchg t => Sys2Proof.Machine.execTrisoXchg t s
  | .trisoRdreg t => Sys2Proof.Machine.execTrisoRdreg t s
  | .trisoWrreg t => Sys2Proof.Machine.execTrisoWrreg t s
  | .trisoSpawn t => Sys2Proof.Machine.execTrisoSpawn t s
  | .trisoExit t => Sys2Proof.Machine.execTrisoExit t s
  | .prep t => Sys2Proof.Machine.execPrep t s
  | .commit t => Sys2Proof.Machine.execCommit t s
  | .selcal t => Sys2Proof.Machine.execSelcal t s
  | .wait t => Sys2Proof.Machine.execWait t s
  | .waitReturn t => Sys2Proof.Machine.execWaitReturn t s
  | .waitTimeout t => Sys2Proof.Machine.execWaitTimeout t s
  | .sig t => Sys2Proof.Machine.execSig t s
  | .ring t => Sys2Proof.Machine.execRing t s
  | .stamp t => Sys2Proof.Machine.execStamp t s
  | .armtp t => Sys2Proof.Machine.execArmtp t s
  | .halt t => Sys2Proof.Machine.execHalt t s
  | .resume t => Sys2Proof.Machine.execResume t s
  | .abandon t => Sys2Proof.Machine.execAbandon t s
  | .runStart v => Sys2Proof.Machine.execRunStart v s
  | .runStop v => Sys2Proof.Machine.execRunStop v s
  | .evsetWrite m v => Sys2Proof.Machine.execEvsetWrite m v s
  | .incWrite v => Sys2Proof.Machine.execIncWrite v s
  | .timeSecRead width => Sys2Proof.Machine.execTimeSecRead width s
  | .thySet v => Sys2Proof.Machine.execThySet v s
  | .thyStep v => Sys2Proof.Machine.execThyStep v s
  | .thySlew v => Sys2Proof.Machine.execThySlew v s
  | .slewEnd => Sys2Proof.Machine.execSlewEnd s
  | .ppsEdge r falling => Sys2Proof.Machine.execPpsEdge r falling s
  | .trefTimeout r => Sys2Proof.Machine.execTrefTimeout r s
  | .ppsTimeout r => Sys2Proof.Machine.execPpsTimeout r s
  | .tpArm n v => Sys2Proof.Machine.execTpArm n v s
  | .tpDisarm n v => Sys2Proof.Machine.execTpDisarm n v s
  | .tpFire n => Sys2Proof.Machine.execTpFire n s
  | .captureEdge n falling => Sys2Proof.Machine.execCaptureEdge n falling s
  | .tcTimeRead n => Sys2Proof.Machine.execTcTimeRead n s
  | .ptpEventRx p frame boundary badFcs => Sys2Proof.Machine.execPtpEventRx p frame boundary badFcs s
  | .syncTx p frame at2 => Sys2Proof.Machine.execSyncTx p frame at2 s
  | .delayReqLaunch p frame launch lt => Sys2Proof.Machine.execDelayReqLaunch p frame launch lt s
  | .tcForward p frame rx tx badFcs => Sys2Proof.Machine.execTcForward p frame rx tx badFcs s
  | .portRoleWrite p v => Sys2Proof.Machine.execPortRoleWrite p v s
  | .arpRequest p ip sender mac => Sys2Proof.Machine.execArpRequest p ip sender mac s
  | .icmpEcho p ip sender payload => Sys2Proof.Machine.execIcmpEcho p ip sender payload s
  | .pauseFrame p => Sys2Proof.Machine.execPauseFrame p s
  | .chainForward p dst src rest badFcs => Sys2Proof.Machine.execChainForward p dst src rest badFcs s
  | .grant cluster src dst term gseq worker desc => Sys2Proof.Machine.execGrant cluster src dst term gseq worker desc s
  | .grantAck cluster src dst term gseq result => Sys2Proof.Machine.execGrantAck cluster src dst term gseq result s
  | .grantRetransmit w => Sys2Proof.Machine.execGrantRetransmit w s
  | .status cluster src dst term stripe sstate motion th held cause worker => Sys2Proof.Machine.execStatus cluster src dst term stripe sstate motion th held cause worker s
  | .statusTimer => Sys2Proof.Machine.execStatusTimer s
  | .memberTimeout w => Sys2Proof.Machine.execMemberTimeout w s
  | .heartbeat cluster src dst term jseq standby sbFailed => Sys2Proof.Machine.execHeartbeat cluster src dst term jseq standby sbFailed s
  | .heartbeatTimer => Sys2Proof.Machine.execHeartbeatTimer s
  | .journal cluster src dst term jseq member full rec => Sys2Proof.Machine.execJournal cluster src dst term jseq member full rec s
  | .journalAck cluster src dst term jseq => Sys2Proof.Machine.execJournalAck cluster src dst term jseq s
  | .journalRetransmit => Sys2Proof.Machine.execJournalRetransmit s
  | .journalTimeout => Sys2Proof.Machine.execJournalTimeout s
  | .digest cluster src dst term jseq digest => Sys2Proof.Machine.execDigest cluster src dst term jseq digest s
  | .digestTimer => Sys2Proof.Machine.execDigestTimer s
  | .takeover cluster src dst term jseq => Sys2Proof.Machine.execTakeover cluster src dst term jseq s
  | .managerTimeout => Sys2Proof.Machine.execManagerTimeout s
  | .join cluster src dst term => Sys2Proof.Machine.execJoin cluster src dst term s
  | .joinListenTimeout => Sys2Proof.Machine.execJoinListenTimeout s
  | .provision tag space offs => Sys2Proof.Machine.execProvision tag space offs s
  | .secure tag space offs => Sys2Proof.Machine.execSecure tag space offs s
  | .retire tag space offs => Sys2Proof.Machine.execRetire tag space offs s
  | .burnOperator tag space offs => Sys2Proof.Machine.execBurnOperator tag space offs s
  | .revokeOperator tag space offs => Sys2Proof.Machine.execRevokeOperator tag space offs s
  | .debugUnlock tag space offs => Sys2Proof.Machine.execDebugUnlock tag space offs s
  | .lockDebug tag space offs => Sys2Proof.Machine.execLockDebug tag space offs s
  | .burnFeature tag space offs => Sys2Proof.Machine.execBurnFeature tag space offs s
  | .advanceFw tag space offs => Sys2Proof.Machine.execAdvanceFw tag space offs s
  | .advanceProg tag space offs => Sys2Proof.Machine.execAdvanceProg tag space offs s
  | .revokeKytuest tag space offs => Sys2Proof.Machine.execRevokeKytuest tag space offs s
  | .challenge tag addr => Sys2Proof.Machine.execChallenge tag addr s
  | .challengeExpiry => Sys2Proof.Machine.execChallengeExpiry s
  | .info tag => Sys2Proof.Machine.execInfo tag s
  | .admitJob tag addr => Sys2Proof.Machine.execAdmitJob tag addr s
  | .jobEnd tag ctx last => Sys2Proof.Machine.execJobEnd tag ctx last s
  | .keyUnwrap tag addr => Sys2Proof.Machine.execKeyUnwrap tag addr s
  | .calLoad tag addr target sel len => Sys2Proof.Machine.execCalLoad tag addr target sel len s
  | .clusterRole tag cfg group sync => Sys2Proof.Machine.execClusterRole tag cfg group sync s
  | .clusterList tag addr worker append count => Sys2Proof.Machine.execClusterList tag addr worker append count s
  | .telemetry tag => Sys2Proof.Machine.execTelemetry tag s
  | .attest tag addr => Sys2Proof.Machine.execAttest tag addr s
  | .progLoad tag addr len => Sys2Proof.Machine.execProgLoad tag addr len s
  | .push m r => Sys2Proof.Machine.execPush m r s
  | .pop m from_ => Sys2Proof.Machine.execPop m from_ s
  | .dbSet m r v => Sys2Proof.Machine.execDbSet m r v s
  | .lockRead m n => Sys2Proof.Machine.execLockRead m n s
  | .lockRelease m n v => Sys2Proof.Machine.execLockRelease m n v s
  | .hbmWindowAccess off write bytes len => Sys2Proof.Machine.execHbmWindowAccess off write bytes len s
  | .dmaStart m c v => Sys2Proof.Machine.execDmaStart m c v s
  | .dmaAbort m c v => Sys2Proof.Machine.execDmaAbort m c v s
  | .dmaDescriptor c => Sys2Proof.Machine.execDmaDescriptor c s
  | .dmaDone c => Sys2Proof.Machine.execDmaDone c s
  | .dmaTimeout c addr => Sys2Proof.Machine.execDmaTimeout c addr s
  | .chkData e width v => Sys2Proof.Machine.execChkData e width v s
  | .chkInit e v => Sys2Proof.Machine.execChkInit e v s
  | .chkConfigWrite e reg v => Sys2Proof.Machine.execChkConfigWrite e reg v s
  | .hostWarmReset perst => Sys2Proof.Machine.execHostWarmReset perst s
  | .hbmRequest port addr write => Sys2Proof.Machine.execHbmRequest port addr write s
  | .memoryRead grp addr reader upset => Sys2Proof.Machine.execMemoryRead grp addr reader upset s
  | .memoryWrite grp addr m bytes => Sys2Proof.Machine.execMemoryWrite grp addr m bytes s
  | .pageIdlePrecharge ch bank => Sys2Proof.Machine.execPageIdlePrecharge ch bank s
  | .pageMaxopen ch bank => Sys2Proof.Machine.execPageMaxopen ch bank s
  | .refreshInterval ch => Sys2Proof.Machine.execRefreshInterval ch s
  | .forcedRefresh ch bank => Sys2Proof.Machine.execForcedRefresh ch bank s
  | .hbmTempCrossing n celsius => Sys2Proof.Machine.execHbmTempCrossing n celsius s
  | .powerDownIdle ch => Sys2Proof.Machine.execPowerDownIdle ch s
  | .mapCfgWrite v => Sys2Proof.Machine.execMapCfgWrite v s
  | .groupModeWrite grp v => Sys2Proof.Machine.execGroupModeWrite grp v s
  | .culletEntryWrite grp e v => Sys2Proof.Machine.execCulletEntryWrite grp e v s
  | .tmrVote k copies => Sys2Proof.Machine.execTmrVote k copies s
  | .testWr v => Sys2Proof.Machine.execTestWr v s
  | .testRd v => Sys2Proof.Machine.execTestRd v s
  | .testRdc v => Sys2Proof.Machine.execTestRdc v s
  | .testClearDone => Sys2Proof.Machine.execTestClearDone s
  | .safeHalt => Sys2Proof.Machine.execSafeHalt s
  | .journalRecord => Sys2Proof.Machine.execJournalRecord s
  | .ringWriteDone ok => Sys2Proof.Machine.execRingWriteDone ok s
  | .evjRdWrite v => Sys2Proof.Machine.execEvjRdWrite v s
  | .jobHalted c => Sys2Proof.Machine.execJobHalted c s
  | .pornRelease => Sys2Proof.Machine.execPornRelease s
  | .pornAssert => Sys2Proof.Machine.execPornAssert s
  | .qspiImageRead image => Sys2Proof.Machine.execQspiImageRead image s
  | .bootPush v => Sys2Proof.Machine.execBootPush v s
  | .thermtrip => Sys2Proof.Machine.execThermtrip s
  | .vddFuseLoss => Sys2Proof.Machine.execVddFuseLoss s
  | .pllLoss pll => Sys2Proof.Machine.execPllLoss pll s
  | .pllRelock pll => Sys2Proof.Machine.execPllRelock pll s
  | .scReset m n v => Sys2Proof.Machine.execScReset m n v s
  | .scSleep m n v => Sys2Proof.Machine.execScSleep m n v s
  | .unitReset v => Sys2Proof.Machine.execUnitReset v s
  | .thymeTick => Sys2Proof.Machine.execThymeTick s
  | .trefEdge r => Sys2Proof.Machine.execTrefEdge r s
  | .ethLinkDown p => Sys2Proof.Machine.execEthLinkDown p s
  | .ethLinkUp p => Sys2Proof.Machine.execEthLinkUp p s
  | .vddFusePresent => Sys2Proof.Machine.execVddFusePresent s
  | .returnMessageDiscard m => Sys2Proof.Machine.execReturnMessageDiscard m s
  | .ethFrameDrop r => Sys2Proof.Machine.execEthFrameDrop r s
  | .ptpUnsupportedMessage r => Sys2Proof.Machine.execPtpUnsupportedMessage r s
  | .cellInflated slot => Sys2Proof.Machine.execCellInflated slot s
  | .prbsCheckerSync l => Sys2Proof.Machine.execPrbsCheckerSync l s
  | .prbsBitError l => Sys2Proof.Machine.execPrbsBitError l s
  | .prbsRateError l => Sys2Proof.Machine.execPrbsRateError l s

end Sys2Proof.Machine
end

