-- ==== Sys2Proof/Safety.lean ====
section
/-! DEFINITION. The terms of the statements: a step that goes on, and what a step leaves unchanged. -/

namespace Sys2Proof.Machine

open Sys2Proof

/-- An outcome that is a next state. -/
def Completes (o : Host.Outcome State Fault Refusal) : Prop := ∃ t, o = .next t

/-- An outcome that is a next state of which a property holds. -/
def Gives (o : Host.Outcome State Fault Refusal) (p : State → Prop) : Prop := ∃ t, o = .next t ∧ p t

/-- The parts of the state. -/
inductive Part where
  | tick | freeCount | regs | root | journal | gather | lanes | blow | mslots | current | glory | beam | par | link | chans | later
  | emus | mot | aux | gaf | thyme | launches | ports | clu | sage | host | mem | power | out
  deriving DecidableEq, Repr

/-- A part is the same in two states. -/
def Part.same (s t : State) : Part → Prop
  | .tick => t.tick = s.tick
  | .freeCount => t.freeCount = s.freeCount
  | .regs => t.regs = s.regs
  | .root => t.root = s.root
  | .journal => t.journal = s.journal
  | .gather => t.gather = s.gather
  | .lanes => t.lanes = s.lanes
  | .blow => t.blow = s.blow
  | .mslots => t.mslots = s.mslots
  | .current => t.current = s.current
  | .glory => t.glory = s.glory
  | .beam => t.beam = s.beam
  | .par => t.par = s.par
  | .link => t.link = s.link
  | .chans => t.chans = s.chans
  | .later => t.later = s.later
  | .emus => t.emus = s.emus
  | .mot => t.mot = s.mot
  | .aux => t.aux = s.aux
  | .gaf => t.gaf = s.gaf
  | .thyme => t.thyme = s.thyme
  | .launches => t.launches = s.launches
  | .ports => t.ports = s.ports
  | .clu => t.clu = s.clu
  | .sage => t.sage = s.sage
  | .host => t.host = s.host
  | .mem => t.mem = s.mem
  | .power => t.power = s.power
  | .out => t.out = s.out

/-- The frame: the queue and every part that is not named are the same in two states. -/
def Keeps (s t : State) (changed : List Part) : Prop := t.pending = s.pending ∧ ∀ p, p ∉ changed → p.same s t

/-- The frame of the register file: every field whose key is not named has the same value. -/
def KeepsFields (s t : State) (changed : List Fld) : Prop := ∀ x : Fld, x.key ∉ changed.map Fld.key → t.f x = s.f x

/-- The invariant of Thyme: SEC has 48 bits, NS lies below one second and FRAC has 32 bits (R301). -/
def Thyme.Inv (h : Thyme) : Prop := h.sec < 2 ^ 48 ∧ h.ns < 1000000000 ∧ h.frac < 2 ^ 32

/-! ## Threads -/

/-- Thread t runs, does not wait, and issues the instruction i: the program word at its PC is free of errors and decodes to i. -/
def Issues (s : State) (t : Fin 4) (i : Triso) : Prop :=
  (s.thread t).running = true ∧ (s.thread t).wait = .none ∧ s.cellChecked 14 (8 * (s.thread t).pc) = .good ∧
    Triso.decode (BitVec.ofNat 64 (s.rawData 14 (8 * (s.thread t).pc))) = some i

/-- The value of a general register (R274). -/
def gpr (s : State) (t : Fin 4) (r : BitVec 4) : Word := if r = 0 then 0 else (s.thread t).g.getD r.toNat 0

/-- The state in which D of thread t has taken a value, G0 excepted, and the thread's PC has advanced. -/
def wrote (s : State) (t : Fin 4) (d : BitVec 4) (v : Word) : State :=
  s.modThread t (fun h => { h with g := if d = 0 then h.g else h.g.set d.toNat v, pc := h.pc + 1, wait := .none })

/-- The state in which thread t is at a PC. -/
def wentTo (s : State) (t : Fin 4) (pc : Nat) : State := s.modThread t (fun h => { h with pc := pc })

/-! ## Walks -/

/-- Walk context w is ready at an instruction whose header is h: its cell is RESIDENT, the pages that it needs have been read, and it
begins within the definition (R37, R91, R92). -/
def AtWord (s : State) (w : Nat) (t : Walk) (l : Level) (h : Nat) : Prop :=
  s.walk w = some t ∧ t.state = .ready ∧ (∃ r, t.stack = l :: r) ∧ (s.cell t.ctx l.cell).state = .resident ∧
    s.pageNeeded t = none ∧ t.word l.woff = h ∧ l.woff < (s.cell t.ctx l.cell).len

/-- The same, with no reserved bit set and the n words of the instruction ahead of the definition's last word, where CELL_END stands. -/
def AtInstr (s : State) (w : Nat) (t : Walk) (l : Level) (h n : Nat) : Prop :=
  AtWord s w t l h ∧ reservedSet h (fun k => t.word (l.woff + k)) = false ∧ l.woff + n < (s.cell t.ctx l.cell).len

/-- Word n of the instruction at a level, read as a signed number (R39). -/
def Walk.arg (t : Walk) (l : Level) (n : Nat) : Int := w32 (t.word (l.woff + n))

/-- Vertices of a figure that lie in the coordinate range and in the bounding box of their cell (R41, R51). -/
def Level.takes (l : Level) (pts : List Pt) : Prop :=
  (∀ p ∈ pts, ptInRange (place l.orient (l.dx, l.dy) p) = true) ∧ ∀ p ∈ pts, l.boxOf.holds p = true

/-! ## Return lanes -/

/-- A return message with an ALIVE is taken: the link is enabled, the lane is locked and not in TEST, and ALIVE has changed (R215). -/
def Hears (s : State) (g alive : Nat) : Prop :=
  s.runs PUN_CTL.ENABLE = true ∧ (s.ret g).lock = true ∧ s.laneState (64 + g) ≠ 7 ∧ (s.ret g).alive ≠ some alive

/-- The state in which it has been taken: its ALIVE is the last one heard and the one that the group's frames echo (R201, R215). -/
def heard (s : State) (g alive : Nat) : State := s.modRet g (fun r => { r with alive := some alive, echo := alive })

/-- The state in which a message has been discarded and counted (R192, R215). -/
def discarded (s : State) : State := (s.count PUN_CNT_RETBAD.COUNT 1).flag PUN_STATUS.RETBAD_SEEN

/-- A return message that the lane would take but for an ALIVE equal to that of the message before it (R215). -/
def HeardBefore (s : State) (g alive : Nat) : Prop :=
  s.runs PUN_CTL.ENABLE = true ∧ (s.ret g).lock = true ∧ s.laneState (64 + g) ≠ 7 ∧ (s.ret g).alive = some alive

/-! ## Flashes -/

/-- What DL0 carries once A(t, 0) = a of the next flash is fixed at its lock instant, a Thyme time: the scrambled blocks of its record
behind n IDLE blocks, the first bit within 40 ns of the lock where the lane is free by then, and nothing while DL0 is off (R266, R267). -/
def SentRecord (s t : State) (k : Stripe) (a lock : Nat) : Prop :=
  (s.f FLS_CTL.DL_EN ≠ 1 → t.out = s.out) ∧
  (s.f FLS_CTL.DL_EN = 1 → ∃ n start L, (L : Int) = max 0 ((s.mono100 : Int) + lock - s.now100) ∧ start = s.mot.dlFree + 80 * n ∧
    (s.mot.dlFree ≤ L → L ≤ start ∧ start ≤ L + 400) ∧
    t.out = s.out ++ [.deflect n (scrambleBlocks (idleRun n s.mot.dlScr)
      (deflectBlocks s.mot.next s.mot.dlAlive (decide (s.mot.next = s.mot.t0)) false (a - s.timeAt start)
        (rneQ ((s.axisAt 0 a).1 * 65536 - k.flashPoint s.mot.next)) (rneQ ((s.axisAt 1 a).1 * 65536 - k.yax))
        (rneQ (s.axisAt 0 a).2) (rneQ (s.axisAt 1 a).2))).1])

/-! ## Services -/

/-- SC0 takes a service now: the request at the head of the tool host's channel is this one, and no safe halt refuses it (R382, R426). -/
def Serves (s : State) (tag service : Nat) (args : List Byte) : Prop :=
  s.canServe = true ∧ s.asks tag service args = true ∧ s.f EVJ_STATUS.SAFE ≠ 1

/-- The state in which that request has been taken from the channel. -/
def took (s : State) : State := s.pop 0 1

/-- The state in which its n bytes of host memory have been read over channel 14 as well (R382). -/
def fetched (s : State) (n : Nat) : State := if n = 0 then took s else (took s).fwMoved 14

/-- A token's outcome: the state of its action where every check of R355 and R356 passes, else the refusal with its code. -/
def State.decided (s : State) (tag action : Nat) (tok pub : List Byte) (done : State) : State :=
  match s.tokenCode action tok pub with
  | some c => (s.dropChal.sageRefuse 0x1304 [a8 action, a8 c]).answerToken tag action (0x100 + c)
  | none => done

end Sys2Proof.Machine
end

