-- ==== Sys2Proof/Certificates/Slice0/Obligations.lean ====
section
/-! DEFINITION. The statements for the provers. What a statement says that is the model's choice and no rule of the manual stands in the
log entries that its docstring names. -/

open Sys2Proof Sys2Proof.Machine

/-! ## The whole device -/

/-- A step takes the command at the front of the queue and carries it out with the queue's rest; an empty queue idles (log entry 1). The
model's choices in it: log entry 1. -/
def Obligations.StepTakesFront : Prop :=
  (∀ (c : Instr) (r : List Instr) (s : State), step { s with pending := c :: r } = exec c { s with pending := r }) ∧
  ∀ s : State, s.pending = [] → step s = .next s

/-- Every well-formed command completes: no command that the device can be given ends in a fault or a refusal. A command whose operand its
wire or bus cannot carry is a fault that names it, and no other command is one (log entry 2). The model's choices in it: log entries 2
and 46. -/
def Obligations.CommandsComplete : Prop :=
  (∀ (i : Instr) (s : State), i.wf = true → Completes (exec i s)) ∧
  ((∀ (i : Instr) (s : State), i.wf = false → ∃ n, exec i s = .fault (.illFormed n)) ∧
  ∀ (i : Instr) (s : State), (∃ f, exec i s = .fault f) → i.wf = false)

/-- The queue belongs to the step alone: no command's effect changes what waits behind it. The model's choices in it: log entries 1 and 7. -/
def Obligations.QueueUntouched : Prop := ∀ (c : Instr) (s t : State), exec c s = .next t → t.pending = s.pending

/-- Every step keeps Thyme's time in form: 48 bits of seconds, nanoseconds below one second, 32 bits of fraction (R301). -/
def Obligations.ThymeInvariant : Prop := ∀ s t : State, s.thyme.Inv → step s = .next t → t.thyme.Inv

/-- After reset the queue is empty, Thyme's time and the memories are in form, and every register field has the reset value of its
register table, of which some are given here. The model's choices in it: log entries 3 and 5. -/
def Obligations.ResetState : Prop :=
  State.reset.pending = [] ∧ State.reset.thyme.Inv ∧ Memory.wf State.reset.mem.hbm = true ∧ Memory.wf State.reset.host.mem = true ∧
    Memory.wf State.reset.gaf.dmem = true ∧ Memory.wf State.reset.sage.fuses = true ∧ (∀ x : Fld, State.reset.f x = x.reset) ∧
    State.reset.f MOT_LEAD_CFG.START = 8192 ∧ State.reset.f MOT_LEAD_CFG.PACE = 4096 ∧ State.reset.f GTH_CTL.SLOTS = 15 ∧
    State.reset.f BLP_CTL.ENGINE_EN = 255 ∧ State.reset.f GLY_CTL.ITER = 2 ∧ State.reset.f GLY_NORM.NORM = 4096 ∧
    State.reset.f BMP_GEOM.LOG2N = 4 ∧ State.reset.f PAR_PLANES.P = 8 ∧ State.reset.f PUN_CTL.ACK_TMO = 132 ∧
    State.reset.f FLS_ARM.LEAD = 2000 ∧ State.reset.f HBM_MAP_CFG.GRAIN = 11 ∧ State.reset.f HBM_MAP_CFG.HASH = 1 ∧
    State.reset.f MOT_STATUS.STATE = 0 ∧ State.reset.f GAF_CTL.RUN = 0 ∧ (∀ d, d < 4096 → State.reset.f (GLY_CURVE.OUT d) = d)

/-- The register bus: an access in the BAR is carried out by every master; a field of type RW takes what is written, one of type W1C loses
the bits that are written as 1, another stays; an RC counter reads and restarts, and a doorbell set in the cycle of Gaffer's clearing
read stays; a 32-bit write to a 64-bit register, and any access where there is no register, changes nothing; a claimed CRC engine
drops every write of its registers and tells so (R13, R28, R98, R369, R399, R432). The model's choices in it: log entries 37 and 42. -/
def Obligations.RegisterBus : Prop :=
  (∀ (s : State) (m : Fin 8) addr width (v : Word), accessOk addr width = true →
    exec (.registerWrite m addr width v) s = .next (s.busWrite m addr width v.toNat).1 ∧
    (isShReg addr = true → exec (.shRegisterWrite m addr width v) s = .next (s.busWrite m addr width v.toNat).1) ∧
    ∀ b, Gives (exec (.rcRead m addr width b) s) (fun t => t.host.readErr = (s.busRead m addr width b).1.isNone)) ∧
  (∀ (s : State) v x, (s.writeFld v (x, .rw)).f x = bits v x.lo x.w ∧
    (s.writeFld v (x, .w1c)).f x = w1cBits (s.f x) (bits v x.lo x.w) x.w % 2 ^ x.w ∧ s.writeFld v (x, .ro) = s ∧
    s.writeFld v (x, .rc) = s ∧ s.writeFld v (x, .wo) = s ∧ s.writeFld v (x, .w1s) = s) ∧
  (∀ old written w n, n < w → bit (w1cBits old written w) n = (bit old n && !bit written n)) ∧
  (∀ (s : State) (m : Fin 8) (v : Word),
    Gives (exec (.registerWrite m ETH_IP.off 8 v) s) (fun t => t.f ETH_IP.ADDR = bits v.toNat 0 32 ∧
      t.f ETH_IP.PREFIX = bits v.toNat 32 6 ∧ Keeps s t [.regs] ∧ KeepsFields s t [ETH_IP.ADDR, ETH_IP.PREFIX]) ∧
    exec (.registerWrite m ETH_IP.off 4 v) s = .next s ∧
    Gives (exec (.registerWrite m ETH_STATUS.off 4 v) s) (fun t =>
      (bit v.toNat ETH_STATUS.CFG_REFUSED.lo = true → t.f ETH_STATUS.CFG_REFUSED = 0) ∧
      (bit v.toNat ETH_STATUS.CFG_REFUSED.lo = false → t.f ETH_STATUS.CFG_REFUSED = s.f ETH_STATUS.CFG_REFUSED % 2) ∧
      Keeps s t [.regs] ∧ KeepsFields s t [ETH_STATUS.CFG_REFUSED, ETH_STATUS.RETRY_SEEN]) ∧
    ∀ b, Gives (exec (.rcRead m MOT_CNT_SPBAD.off 4 b) s) (fun t =>
      t.host.readData = BitVec.ofNat 64 (s.f MOT_CNT_SPBAD.COUNT % 2 ^ 32) ∧ t.f MOT_CNT_SPBAD.COUNT = (if b = true then 1 else 0) ∧
      Keeps s t [.regs, .host] ∧ KeepsFields s t [MOT_CNT_SPBAD.COUNT])) ∧
  (∀ (s : State) b, 6 < s.host.dbPend.length → Gives (exec (.rcRead 6 0x303000 4 b) s) (fun t =>
    t.host.readData = BitVec.ofNat 64 (s.dbPend 6 % 2 ^ 32) ∧ (b = true → t.dbPend 6 = s.dbPend 6) ∧
    (b = false → t.dbPend 6 % 2 ^ 32 = 0) ∧ Keeps s t [.host])) ∧
  (∀ (s : State) (m : Fin 8) (e : Fin 4) width addr (v : Word), s.f (CHK_CTL.CLAIMED e) = 1 →
    (width = 4 ∧ addr = CHK_STATUS.off e) ∨ (width = 8 ∧ addr = CHK_RESULT.off e) ∨
      (width = 4 ∧ ∃ a ∈ [CHK_POLY.off e, CHK_INIT.off e, CHK_XOROUT.off e, CHK_RESULT.off e], addr = a ∨ addr = a + 4) →
    exec (.registerWrite m addr width v) s = .next (s.flag (CHK_STATUS.DROP_SEEN e))) ∧
  (∀ (s : State) (m : Fin 8) addr (v : Word), accessOk addr 4 = true → windowOf addr = none → regRow addr = none →
    regRow (addr - 4) = none → exec (.registerWrite m addr 4 v) s = .next s ∧
    ∀ b, Gives (exec (.rcRead m addr 4 b) s) (fun t => t.host.readData = 0 ∧ Keeps s t [.host]))

/-! ## Gaffer: Triso words and instructions (R274 to R284, R299) -/

/-- G0 reads 0 in every thread, and a write to G0 leaves the thread as it is (R274). -/
def Obligations.TrisoG0 : Prop := ∀ (h : Thread) (v : Word), h.reg 0 = 0 ∧ h.setReg 0 v = h

/-- The condition codes of F, and what code 0 asks of A and B (R278). -/
def Obligations.ConditionCodes : Prop :=
  (∀ a b : Word, condHolds 0 a b = true ∧ (condHolds 1 a b = true ↔ a = b) ∧ (condHolds 2 a b = true ↔ a ≠ b) ∧
    (condHolds 3 a b = true ↔ a.toInt < b.toInt) ∧ (condHolds 4 a b = true ↔ a.toInt ≥ b.toInt) ∧
    (condHolds 5 a b = true ↔ a.toNat < b.toNat) ∧ (condHolds 6 a b = true ↔ a.toNat ≥ b.toNat)) ∧
  ∀ i : Triso, i.legal = true → i.op = .set ∨ i.op = .br ∨ i.op = .call → i.f.toNat ≤ 6 ∧ (i.f = 0 → i.a = 0 ∧ i.b = 0)

/-- Every legal Triso instruction is what its word decodes to: no field is dropped (R277). A word decodes to a legal instruction only, and
to the one whose word it is: no two words stand for one instruction, and every unused or reserved bit of a legal word is 0 (R277). The
model's choices in it: log entry 44. -/
def Obligations.TrisoCoding : Prop :=
  (∀ i : Triso, i.legal = true → Triso.decode i.encode = some i) ∧
  (∀ (w : Word) (i : Triso), Triso.decode w = some i → i.legal = true ∧ i.encode = w)

/-- Words of the example program of R298 and the example of R277 decode to the instructions they stand for; word 0 is illegal. -/
def Obligations.TrisoExampleWords : Prop :=
  Triso.decode 0x3107650000000012 = some ⟨.call, 0, 7, 6, 5, 18⟩ ∧
  Triso.decode 0x3820000000000008 = some ⟨.ld, 2, 0, 0, 0, 8⟩ ∧
  Triso.decode 0x27300000FFFFFFFF = some ⟨.movi, 3, 0, 0, 0, 0xFFFFFFFF⟩ ∧
  Triso.decode 0x4443C10000000000 = some ⟨.wait, 4, 3, 12, 1, 0⟩ ∧
  Triso.decode 0x3BA0010000F00210 = some ⟨.rdreg, 10, 0, 0, 1, 0xF00210⟩ ∧
  Triso.decode 0x4C10B00000000000 = some ⟨.resume, 1, 0, 11, 0, 0⟩ ∧
  Triso.decode 0 = none

/-- The arithmetic instructions write D and advance the PC, and nothing else changes: every register of every thread but D, every register
field, every memory and every output is as before (R279). The instructions with an immediate operand, in the same way (R279). The
model's choices in it: log entry 2. -/
def Obligations.TrisoComputes : Prop :=
  (∀ (s : State) (t : Fin 4) (i : Triso), Issues s t i → (s.thread t).pc ≠ 32767 →
    (i.op = .add → exec (.trisoAdd t) s = .next (wrote s t i.d (gpr s t i.a + gpr s t i.b))) ∧
    (i.op = .sub → exec (.trisoSub t) s = .next (wrote s t i.d (gpr s t i.a - gpr s t i.b))) ∧
    (i.op = .and → exec (.trisoAnd t) s = .next (wrote s t i.d (gpr s t i.a &&& gpr s t i.b))) ∧
    (i.op = .or → exec (.trisoOr t) s = .next (wrote s t i.d (gpr s t i.a ||| gpr s t i.b))) ∧
    (i.op = .xor → exec (.trisoXor t) s = .next (wrote s t i.d (gpr s t i.a ^^^ gpr s t i.b))) ∧
    (i.op = .shl → exec (.trisoShl t) s = .next (wrote s t i.d (gpr s t i.a <<< ((gpr s t i.b).toNat % 64)))) ∧
    (i.op = .shr → exec (.trisoShr t) s = .next (wrote s t i.d (gpr s t i.a >>> ((gpr s t i.b).toNat % 64)))) ∧
    (i.op = .sra → exec (.trisoSra t) s = .next (wrote s t i.d ((gpr s t i.a).sshiftRight ((gpr s t i.b).toNat % 64)))) ∧
    (i.op = .mul → exec (.trisoMul t) s = .next (wrote s t i.d (gpr s t i.a * gpr s t i.b))) ∧
    (i.op = .set → exec (.trisoSet t) s =
      .next (wrote s t i.d (if condHolds i.f (gpr s t i.a) (gpr s t i.b) = true then 1 else 0))) ∧
    (i.op = .nop → exec (.trisoNop t) s = .next (wrote s t 0 0))) ∧
  (∀ (s : State) (t : Fin 4) (i : Triso), Issues s t i → (s.thread t).pc ≠ 32767 →
    (i.op = .addi → exec (.trisoAddi t) s = .next (wrote s t i.d (gpr s t i.a + i.imm.signExtend 64))) ∧
    (i.op = .andi → exec (.trisoAndi t) s = .next (wrote s t i.d (gpr s t i.a &&& i.imm.zeroExtend 64))) ∧
    (i.op = .ori → exec (.trisoOri t) s = .next (wrote s t i.d (gpr s t i.a ||| i.imm.zeroExtend 64))) ∧
    (i.op = .xori → exec (.trisoXori t) s = .next (wrote s t i.d (gpr s t i.a ^^^ i.imm.zeroExtend 64))) ∧
    (i.op = .shli → exec (.trisoShli t) s = .next (wrote s t i.d (gpr s t i.a <<< (i.imm.toNat % 64)))) ∧
    (i.op = .shri → exec (.trisoShri t) s = .next (wrote s t i.d (gpr s t i.a >>> (i.imm.toNat % 64)))) ∧
    (i.op = .srai → exec (.trisoSrai t) s = .next (wrote s t i.d ((gpr s t i.a).sshiftRight (i.imm.toNat % 64)))) ∧
    (i.op = .movi → exec (.trisoMovi t) s = .next (wrote s t i.d (i.imm.signExtend 64))) ∧
    (i.op = .movhi → exec (.trisoMovhi t) s = .next (wrote s t i.d (i.imm ++ (gpr s t i.d).extractLsb' 0 32))))

/-- Control flow: a taken BR, CALL, RET or JMPR sets the PC, CALL and RET change the return stack, and nothing else changes; one not taken
only advances the PC (R279). SPAWN of a thread that runs changes nothing but D = 1; SPAWN of one that does not clears it, starts it at
its PC with G1 = A, and writes D = 0. EXIT stops the thread and clears its return stack (R276, R279). RUN written 1 with a valid
program while it is 0 clears every thread and starts T0 alone at PC 0; a 1 without a valid program is ignored; RUN written 0 stops
every thread and clears no register (R276). The model's choices in it: log entries 2 and 44. -/
def Obligations.ThreadControl : Prop :=
  (∀ (s : State) (t : Fin 4) (i : Triso), Issues s t i →
    (i.op = .br → condHolds i.f (gpr s t i.a) (gpr s t i.b) = true → exec (.trisoBr t) s = .next (wentTo s t (i.imm.toNat % 32768))) ∧
    (i.op = .br → condHolds i.f (gpr s t i.a) (gpr s t i.b) = false → (s.thread t).pc ≠ 32767 →
      exec (.trisoBr t) s = .next (wrote s t 0 0)) ∧
    (i.op = .call → condHolds i.f (gpr s t i.a) (gpr s t i.b) = true → (s.thread t).stack.length < 16 →
      exec (.trisoCall t) s =
        .next (s.modThread t (fun h => { h with stack := (h.pc + 1) :: h.stack, pc := i.imm.toNat % 32768 }))) ∧
    (i.op = .call → condHolds i.f (gpr s t i.a) (gpr s t i.b) = false → (s.thread t).pc ≠ 32767 →
      exec (.trisoCall t) s = .next (wrote s t 0 0)) ∧
    (∀ p r, i.op = .ret → (s.thread t).stack = p :: r → p < 32768 →
      exec (.trisoRet t) s = .next (s.modThread t (fun h => { h with stack := r, pc := p }))) ∧
    (i.op = .jmpr → (gpr s t i.a).toNat < 32768 → exec (.trisoJmpr t) s = .next (wentTo s t (gpr s t i.a).toNat))) ∧
  (∀ (s : State) (t : Fin 4) (i : Triso), Issues s t i →
    (i.op = .spawn → (s.thread t).pc ≠ 32767 → (s.thread i.f.toNat).running = true →
      exec (.trisoSpawn t) s = .next (wrote s t i.d 1)) ∧
    (i.op = .spawn → (s.thread t).pc ≠ 32767 → (s.thread i.f.toNat).running = false → s.gaf.threads.length = 4 →
      exec (.trisoSpawn t) s = .next (wrote (s.modThread i.f.toNat (fun _ =>
        { Thread.cleared with pc := i.imm.toNat % 32768, running := true, g := Thread.cleared.g.set 1 (gpr s t i.a) })) t i.d 0)) ∧
    (i.op = .exit → (s.thread t).pc ≠ 32767 →
      exec (.trisoExit t) s = .next (s.modThread t (fun h => { h with running := false, stack := [] })))) ∧
  ((∀ (s : State) (v : Word), v.toNat % 2 = 1 → s.f GAF_STATUS.PROG_VALID = 1 → s.f GAF_CTL.RUN ≠ 1 →
    Gives (exec (.runStart v) s) (fun t =>
      t.gaf.threads = { Thread.cleared with running := true } :: List.replicate 3 Thread.cleared ∧ t.f GAF_CTL.RUN = 1 ∧
      t.gaf.dmem = s.gaf.dmem ∧ t.gaf.pmem = s.gaf.pmem ∧ Keeps s t [.gaf, .regs] ∧ KeepsFields s t [GAF_CTL.RUN])) ∧
  (∀ (s : State) (v : Word), v.toNat % 2 = 1 → s.f GAF_STATUS.PROG_VALID ≠ 1 → exec (.runStart v) s = .next s) ∧
  (∀ (s : State) (v : Word), v.toNat % 2 = 0 →
    Gives (exec (.runStop v) s) (fun t =>
      t.gaf.threads = s.gaf.threads.map (fun h => { h with running := false, wait := .none }) ∧ t.f GAF_CTL.RUN = 0 ∧
      t.gaf.active = s.gaf.active ∧ t.gaf.queued = s.gaf.queued ∧ Keeps s t [.gaf, .regs, .root] ∧ KeepsFields s t [GAF_CTL.RUN])))

/-- What raises PROG_FAULT, and with which cause: an illegal word, a PC out of range, a full or an empty return stack, a data address that
R281 does not allow (R277, R280, R281). PROG_FAULT stops its thread at the faulting instruction, with its cause and its return stack
kept; the other threads, their registers and both memories of Gaffer are as before (R299). The model's choices in it: log entries 2
and 44. -/
def Obligations.ProgFaults : Prop :=
  (∀ (s : State) (t : Fin 4),
    ((s.thread t).running = true → (s.thread t).wait = .none → s.cellChecked 14 (8 * (s.thread t).pc) = .good →
      Triso.decode (BitVec.ofNat 64 (s.rawData 14 (8 * (s.thread t).pc))) = none →
      exec (.trisoNop t) s = .next (s.progFault t 1)) ∧
    ∀ i : Triso, Issues s t i →
      (i.op = .nop → (s.thread t).pc = 32767 → exec (.trisoNop t) s = .next (s.progFault t 2)) ∧
      (i.op = .jmpr → 32768 ≤ (gpr s t i.a).toNat → exec (.trisoJmpr t) s = .next (s.progFault t 2)) ∧
      (∀ p r, i.op = .ret → (s.thread t).stack = p :: r → 32768 ≤ p → exec (.trisoRet t) s = .next (s.progFault t 2)) ∧
      (i.op = .call → condHolds i.f (gpr s t i.a) (gpr s t i.b) = true → 16 ≤ (s.thread t).stack.length →
        exec (.trisoCall t) s = .next (s.progFault t 4)) ∧
      (i.op = .ret → (s.thread t).stack = [] → exec (.trisoRet t) s = .next (s.progFault t 5)) ∧
      (¬((gpr s t i.a + i.imm.signExtend 64).toNat % 8 = 0 ∧ (gpr s t i.a + i.imm.signExtend 64).toNat < 65536) →
        (i.op = .ld → exec (.trisoLd t) s = .next (s.progFault t 3)) ∧
        (i.op = .st → exec (.trisoSt t) s = .next (s.progFault t 3)) ∧
        (i.op = .xchg → exec (.trisoXchg t) s = .next (s.progFault t 3)))) ∧
  (∀ (s : State) (t : Fin 4) (c : Nat), s.gaf.threads.length = 4 →
    (((s.progFault t c).thread t).running = false ∧ ((s.progFault t c).thread t).fault = true ∧
      ((s.progFault t c).thread t).cause = c ∧ ((s.progFault t c).thread t).pc = (s.thread t).pc ∧
      ((s.progFault t c).thread t).stack = (s.thread t).stack) ∧
    (∀ u : Fin 4, u ≠ t → (s.progFault t c).thread u = s.thread u) ∧
    (s.progFault t c).gaf.dmem = s.gaf.dmem ∧ (s.progFault t c).gaf.pmem = s.gaf.pmem ∧
    (s.progFault t c).f GAF_STATUS.FAULT_SEEN = 1)

/-- LD, ST and XCHG at an address that R281 allows, of a word that reads without error: LD writes D only; ST and XCHG write the eight
bytes of B, and every other byte of the data memory is as before (R279, R281). The model's choices in it: log entries 2 and 3. -/
def Obligations.TrisoDataMemory : Prop :=
  ∀ (s : State) (t : Fin 4) (i : Triso), Issues s t i → (s.thread t).pc ≠ 32767 →
    ∀ a : Nat, (gpr s t i.a + i.imm.signExtend 64).toNat = a → a % 8 = 0 → a < 65536 →
      (i.op = .ld → s.cellChecked 15 a = .good →
        exec (.trisoLd t) s = .next (wrote s t i.d (BitVec.ofNat 64 (rdLE s.gaf.dmem a 8)))) ∧
      (i.op = .st → Gives (exec (.trisoSt t) s) (fun u =>
        rdLE u.gaf.dmem a 8 = (gpr s t i.b).toNat ∧ (∀ b, b < a ∨ a + 8 ≤ b → rdByte u.gaf.dmem b = rdByte s.gaf.dmem b) ∧
        u.gaf.threads = (wrote s t 0 0).gaf.threads ∧ Keeps s u [.gaf, .mem])) ∧
      (i.op = .xchg → s.cellChecked 15 a = .good → Gives (exec (.trisoXchg t) s) (fun u =>
        rdLE u.gaf.dmem a 8 = (gpr s t i.b).toNat ∧ (∀ b, b < a ∨ a + 8 ≤ b → rdByte u.gaf.dmem b = rdByte s.gaf.dmem b) ∧
        u.gaf.threads = (wrote s t i.d (BitVec.ofNat 64 (rdLE s.gaf.dmem a 8))).gaf.threads ∧ Keeps s u [.gaf, .mem]))

/-- The units that RDREG may read and WRREG may write, by the offset's unit id (R282). RDREG and WRREG inside the limits of R282 act on
the register bus as Gaffer. RDREG waits for the thread's posted writes and writes D with the data zero-extended. WRREG posts its
write, which reaches its register within 250 ns and behind those posted before it, and the thread goes on; with 32 outstanding it
waits for a slot. Outside the limits they raise REG_ACCESS (R279, R282, R283). The model's choices in it: log entries 2 and 42. -/
def Obligations.TrisoRegisterAccess : Prop :=
  ((∀ u : Nat, readsUnit u = true ↔ u ≤ 0x12 ∨ u = 0x14 ∨ u = 0x15) ∧
  (∀ u : Nat, writesUnit u = true ↔ u = 0x02 ∨ (0x07 ≤ u ∧ u ≤ 0x0E) ∨ u = 0x15)) ∧
  ((∀ (s : State) (t : Fin 4) (i : Triso), Issues s t i → (s.thread t).pc ≠ 32767 →
    ∀ a n : Nat, (gpr s t i.a + i.imm.zeroExtend 64).toNat = a → n = (if i.f = 1 then 8 else 4) →
      (i.op = .rdreg → a < 0x1600000 → a % n = 0 → readsUnit (a / 2 ^ 20) = true →
        ((∀ e ∈ s.later, e.2.postOf t = false) → ∀ v u, s.busRead 6 a n false = (some v, u) →
          exec (.trisoRdreg t) s = .next (u.threadDone t i.d.toNat (BitVec.ofNat 64 v))) ∧
        (∀ u, u = s.drainPosts t → (u.thread t).running = true → ∀ v w, u.busRead 6 a n false = (some v, w) →
          exec (.trisoRdreg t) s = .next (w.threadDone t i.d.toNat (BitVec.ofNat 64 v)))) ∧
      (i.op = .rdreg → ¬(a < 0x1600000 ∧ a % n = 0 ∧ readsUnit (a / 2 ^ 20) = true) →
        exec (.trisoRdreg t) s = .next (s.progFault t 6)) ∧
      (i.op = .wrreg → a < 0x1600000 → a % n = 0 → writesUnit (a / 2 ^ 20) = true →
        (s.later.countP (fun e => e.2.postOf t) < 32 → ∀ f u, s.free 16 = (f, u) → exec (.trisoWrreg t) s = .next (wrote
          (u.at (s.postDue t f) (.posted t (s.thread t).pc a n (BitVec.ofNat 64 ((gpr s t i.b).toNat % 2 ^ (8 * n))))) t 0 0)) ∧
        (32 ≤ s.later.countP (fun e => e.2.postOf t) →
          exec (.trisoWrreg t) s = .next (s.modThread t (fun h => { h with wait := .slot })))) ∧
      (i.op = .wrreg → ¬(a < 0x1600000 ∧ a % n = 0 ∧ writesUnit (a / 2 ^ 20) = true) →
        exec (.trisoWrreg t) s = .next (s.progFault t 6))) ∧
  (∀ (s : State) (t f : Nat), s.mono100 < s.postDue t f ∧
    ((∀ e ∈ s.later, e.2.postOf t = true → e.1 ≤ s.mono100 + 2500) → s.postDue t f ≤ s.mono100 + 2500) ∧
    ∀ e ∈ s.later, e.2.postOf t = true → e.1 ≤ s.postDue t f) ∧
  (∀ (s u : State) (t : Fin 4) pc a n v, (s.thread t).wait ≠ .slot → s.busWrite 6 a n v.toNat = (u, true) →
    s.landPost t pc a n v = u.markWrite t))

/-! ## Gaffer: the root, unit commands and generations (R28 to R31, R285 to R298) -/

/-- The oldest write that the root has held for 16 ticks is broadcast and leaves the root: every SH field of its register takes the value
written as its shadow, every other field and every bank stay as they are; a younger write stays at the root (R28, R29). A write to a
register with an SH field lands at the root in the tick of the write, and the fields that the units use keep their values until a
commit (R28, R29). SELCAL lands its whole list at the root in one tick: BMP_SEL and then BMP_SET 0 to SETS − 1 (R293). The model's
choices in it: log entries 2 and 44. -/
def Obligations.RootQueue : Prop :=
  ((∀ (s : State) w r, s.root.queue = w :: r → s.tick ≤ w.tick + 16 → exec .configBroadcast s = .next s) ∧
  (∀ (s : State) w r n l, s.root.queue = w :: r → w.tick + 16 < s.tick → regAt w.addr = some (n, l) →
    (l.map (fun e => e.1.key)).Nodup → (∀ e ∈ l, e.1.reset < 2 ^ e.1.w) →
    Gives (exec .configBroadcast s) (fun u => u.root = { s.root with queue := r } ∧
      (∀ e ∈ l, e.2 = .sh → u.f e.1 = bits w.val.toNat e.1.lo e.1.w) ∧
      KeepsFields s u ((l.filter (fun e => decide (e.2 = .sh))).map (fun e => e.1)) ∧ Keeps s u [.root, .regs])) ∧
  (∀ s : State, s.root.queue = [] → exec .configBroadcast s = .next s)) ∧
  (∀ (s : State) (m : Fin 8) (v : Word),
    Gives (exec (.shRegisterWrite m GLY_NORM.off 4 v) s) (fun t =>
      t.root.queue = s.root.queue ++ [{ tick := s.tick, addr := GLY_NORM.off, val := BitVec.ofNat 64 (v.toNat % 2 ^ 32) }] ∧
      t.root.staged = s.root.staged ∧ t.root.banks = s.root.banks ∧ t.regs = s.regs ∧ Keeps s t [.root])) ∧
  (∀ (s : State) (t : Fin 4) (i : Triso) (a e : Nat) (l : List Nat), Issues s t i → i.op = .selcal → (s.thread t).pc ≠ 32767 →
    (∀ e ∈ s.later, e.2.postOf t = false) →
    (gpr s t i.a + i.imm.signExtend 64).toNat = a → a % 8 = 0 → a + 8 + 8 * listSets e ≤ 65536 →
    s.readWord 15 a = (some e, s) → s.dmemList (a + 8) (listSets e) = (some l, s) →
    Gives (exec (.selcal t) s) (fun u =>
      u.root.queue = s.root.queue ++ { tick := s.tick, addr := BMP_SEL.off, val := BitVec.ofNat 64 (e % 2 ^ 32) } ::
        l.zipIdx.map (fun x => { tick := s.tick, addr := BMP_SET.off x.2, val := BitVec.ofNat 64 (x.1 % 2 ^ 32) }) ∧
      u.root.threadTick = s.root.threadTick.set t s.tick ∧ u.root.staged = s.root.staged ∧ Keeps s u [.root, .gaf]))

/-- COMMIT makes its thread wait at the root behind the commits that wait there. A copy is given only when every unit has entered the last
committed generation, no stripe is halted and 17 ticks have passed since the thread's last write; it raises the generation by 1 and
shows it in GAF_GEN, makes the shadows the staged bank, and leaves every active bank as it is; COMMIT returns the generation, event
line 4 pulses, and the thread goes on (R29, R30, R292). While the copies of triple 54 disagree the generation stays (R418). An item
whose generation is a unit's active one changes nothing. One of the staged generation makes the staged bank that unit's active one and
leaves the other units' banks as they are: with Parison's the staged beam table becomes active, and it waits while the fill runs; the
flash sequencer's shows in GAF_GEN. An item of any other generation halts its stripe with GEN_MISMATCH, which names the unit, the
stripe and the generation (R31, R156, R157). The model's choices in it: log entries 2, 43 and 49. -/
def Obligations.Generations : Prop :=
  ((∀ (s : State) (t : Fin 4) (i : Triso), Issues s t i → i.op = .commit →
    exec (.commit t) s = .next { s.modThread t (fun h => { h with wait := .commit }) with
      root := { s.root with commits := s.root.commits ++ [{ thread := t, lastTick := s.root.threadTick.getD t 0, dst := i.d.toNat }] } }) ∧
  (∀ (s : State) c r, s.root.commits = c :: r →
    ¬(s.root.banks.all (fun b => decide (b.gen = s.root.staged.gen)) = true ∧ s.f GAF_STATUS.HALTED ≠ 1 ∧ s.gaf.resumeOk = false ∧
        (∀ e ∈ s.later, e.2.postOf c.thread = false) ∧ c.lastTick + 17 ≤ s.tick) → exec .generationCopy s = .next s) ∧
  (∀ (s : State) c r, s.root.commits = c :: r → s.root.banks.all (fun b => decide (b.gen = s.root.staged.gen)) = true →
    s.f GAF_STATUS.HALTED ≠ 1 → s.gaf.resumeOk = false → (∀ e ∈ s.later, e.2.postOf c.thread = false) → c.lastTick + 17 ≤ s.tick →
    (s.thread c.thread).pc ≠ 32767 → s.gaf.threads.length = 4 → c.thread < 4 →
    (s.tripleHeld 54 = true → Gives (exec .generationCopy s) (fun u =>
      u.root.staged.gen = s.root.staged.gen ∧ u.f GAF_GEN.COMMITTED = s.f GAF_GEN.COMMITTED)) ∧
    (s.tripleHeld 54 = false → Gives (exec .generationCopy s) (fun u =>
      u.root.staged.gen = (s.root.staged.gen + 1) % 2 ^ 32 ∧ u.f GAF_GEN.COMMITTED = (s.root.staged.gen + 1) % 2 ^ 32 ∧
      (s.root.queue = [] → ∀ x : Fld, isShKey x.key = true → u.stg x = s.f x) ∧ u.root.banks = s.root.banks ∧ u.root.commits = r ∧
      u.root.queue = s.root.queue.filter (fun w => !decide (w.tick + 17 ≤ s.tick)) ∧
      (u.thread c.thread).pc = (s.thread c.thread).pc + 1 ∧ (u.thread c.thread).wait = .none ∧
      (u.thread c.thread).g = (if c.dst = 0 then (s.thread c.thread).g else
        (s.thread c.thread).g.set c.dst (BitVec.ofNat 64 ((s.root.staged.gen + 1) % 2 ^ 32))) ∧
      (∀ n : Fin 4, bit (u.thread n).pend.toNat 4 = true) ∧ u.mot = s.mot ∧ u.par = s.par ∧ u.link = s.link ∧ u.mem = s.mem)))) ∧
  (∀ (s : State) (u : Fin 4) (stripe gen : Nat),
    (s.actGen u = gen → exec (.bankSwitch u stripe gen) s = .next s) ∧
    (s.actGen u ≠ gen → s.root.staged.gen = gen → (u = 1 → s.f BMP_STATUS.FILL_BUSY ≠ 1) → (u = 3 → s.tripleHeld 55 = false) →
      Gives (exec (.bankSwitch u stripe gen) s) (fun v =>
        v.root = { s.root with banks := s.root.banks.set u s.root.staged } ∧
        v.beam = (if u = 1 then { s.beam with activeT := s.beam.stagedT } else s.beam) ∧
        v.f GAF_GEN.ACTIVE = (if u = 3 then gen % 2 ^ 32 else s.f GAF_GEN.ACTIVE) ∧ KeepsFields s v [GAF_GEN.ACTIVE] ∧
        Keeps s v [.root, .beam, .regs])) ∧
    (s.actGen 1 ≠ gen → s.root.staged.gen = gen → s.f BMP_STATUS.FILL_BUSY = 1 → exec (.bankSwitch 1 stripe gen) s = .next s) ∧
    (s.actGen u ≠ gen → s.root.staged.gen ≠ gen →
      exec (.bankSwitch u stripe gen) s = .next (s.halt 0x0F11 s.openFlash [a8 (switchUnit u), a32 stripe, a32 gen])))

/-- PREP is refused with the lowest code of R288 that holds, each code under the condition that the table gives it, and then only D and
the PC change; else the stripe is PREPARED under the last committed generation. GO is refused with codes 1 and 2 of R289 in the same
way, and else moves the PREPARED stripe to QUEUED. The model's choices in it: log entry 44. -/
def Obligations.PrepareAndGo : Prop :=
  ∀ (s : State) (t : Fin 4) (i : Triso), Issues s t i → (s.thread t).pc ≠ 32767 →
    (i.op = .prep → s.gaf.prepared.isSome = true → (gpr s t i.a + i.imm.signExtend 64).toNat % 8 ≠ 0 →
      exec (.prep t) s = .next (wrote s t i.d 1)) ∧
    (∀ a l, i.op = .prep → (gpr s t i.a + i.imm.signExtend 64).toNat = a → a % 8 = 0 → a + 40 ≤ 65536 →
      s.dmemList a 5 = (some l, s) → ∀ num len c, num = l.getD 0 0 % 2 ^ 32 → len = l.getD 0 0 / 2 ^ 32 % 2 ^ 32 → c = l.getD 4 0 / 2 % 2 →
      (s.gaf.prepared.isSome = true → exec (.prep t) s = .next (wrote s t i.d 1)) ∧
      (s.gaf.prepared = none → s.f GAF_GEN.COMMITTED = 0 ∨ s.root.tableCleared = true → exec (.prep t) s = .next (wrote s t i.d 2)) ∧
      (s.gaf.prepared = none → s.f GAF_GEN.COMMITTED ≠ 0 → s.root.tableCleared = false →
        (len < 256 ∨ 1073741824 < len ∨ 4 ≤ l.getD 4 0 → exec (.prep t) s = .next (wrote s t i.d 3)) ∧
        (256 ≤ len → len ≤ 1073741824 → l.getD 4 0 < 4 →
          (s.f (GTH_CTX_CFG.OPEN c) ≠ 1 → exec (.prep t) s = .next (wrote s t i.d 4)) ∧
          (∀ p, s.f (GTH_CTX_CFG.OPEN c) = 1 → (s.ctx c).lastPrep = some p → num ≤ p → exec (.prep t) s = .next (wrote s t i.d 5)) ∧
          (s.f (GTH_CTX_CFG.OPEN c) = 1 → (∀ p ∈ (s.ctx c).lastPrep, p < num) → (s.ctx c).halt = none →
            Gives (exec (.prep t) s) (fun u =>
              (∃ k, u.gaf.prepared = some k ∧ k.num = num ∧ k.len = len ∧ k.ctx = c ∧ k.neg = bit (l.getD 4 0) 0 ∧
                k.xf0 = sgn 64 (l.getD 2 0) ∧ k.yax = sgn 64 (l.getD 3 0) ∧ k.gen = s.root.staged.gen ∧ k ∈ u.par.next) ∧
              gpr u t i.d = 0 ∧ u.gaf.queued = s.gaf.queued ∧ u.gaf.active = s.gaf.active ∧ u.mot = s.mot ∧ u.root = s.root ∧
              u.link = s.link))))) ∧
    (i.op = .go → s.gaf.prepared = none → exec (.go t) s = .next (wrote s t i.d 1)) ∧
    (i.op = .go → s.gaf.prepared.isSome = true → s.gaf.queued.isSome = true → exec (.go t) s = .next (wrote s t i.d 2)) ∧
    (∀ k, i.op = .go → s.gaf.prepared = some k → s.gaf.queued = none → Gives (exec (.go t) s) (fun u =>
      u.gaf.prepared = none ∧ u.gaf.queued = some k ∧ u.gaf.active = s.gaf.active ∧ u.regs = s.regs ∧
      Keeps s u [.gaf, .out, .ports, .clu]))

/-- A pulse sets its bit in the pending register of every thread and leaves every other bit as it was (R291). SIG pulses line 48 + IMM and
RING sets its doorbell bit, each then advancing the PC; a write of GAF_EVSET by the tool host or a service core pulses the lines it
names, by any other master none (R286, R290, R377). WAIT takes a pending bit that it names at once, clearing it; with none pending a
timeout of 0 answers all ones, and any other makes the thread wait. A waiting thread takes the lowest bit that has become pending; at
its timeout it answers all ones (R291). The model's choices in it: log entry 2. -/
def Obligations.Events : Prop :=
  (∀ (s : State) (line e : Nat) (t : Fin 4), line < 64 → e < 64 → s.gaf.threads.length = 4 →
    bit ((s.pulse line).thread t).pend.toNat e = (decide (e = line) || bit (s.thread t).pend.toNat e)) ∧
  ((∀ (s : State) (t : Fin 4) (i : Triso), Issues s t i →
    (i.op = .sig → exec (.sig t) s = .next ((s.pulse (48 + i.imm.toNat % 16)).nextPc t)) ∧
    (i.op = .ring → i.imm.toNat < 24 → exec (.ring t) s = .next ((s.ring (i.f.toNat % 8) (2 ^ i.imm.toNat)).nextPc t))) ∧
  (∀ (s : State) (m : Fin 8) (n : Fin 16), m.val ≤ 4 → exec (.evsetWrite m (BitVec.ofNat 64 (2 ^ n.val))) s = .next (s.pulse (48 + n))) ∧
  (∀ (s : State) (m : Fin 8) (v : Word), 4 < m.val → exec (.evsetWrite m v) s = .next s)) ∧
  ((∀ (s : State) (t : Fin 4) (i : Triso), Issues s t i → i.op = .wait → (s.thread t).pc ≠ 32767 →
    (∀ e, s.waitHit t (s.waitMask t i) = some e → exec (.wait t) s = .next (s.takeEvent t i.d.toNat e)) ∧
    (s.waitHit t (s.waitMask t i) = none → gpr s t i.a = 0 →
      exec (.wait t) s = .next (wrote s t i.d (BitVec.ofNat 64 (2 ^ 64 - 1)))) ∧
    (s.waitHit t (s.waitMask t i) = none → gpr s t i.a ≠ 0 →
      exec (.wait t) s = .next (s.modThread t (fun h =>
        { h with wait := .event i.d.toNat (s.waitMask t i) (decide (gpr s t i.a ≠ BitVec.ofNat 64 (2 ^ 64 - 1))) })))) ∧
  (∀ (s : State) (t : Fin 4) d m timed, (s.thread t).wait = .event d m timed →
    (∀ e, s.waitHit t m = some e → exec (.waitReturn t) s = .next (s.takeEvent t d e)) ∧
    (s.waitHit t m = none → timed = true → exec (.waitTimeout t) s = .next (s.threadDone t d (BitVec.ofNat 64 (2 ^ 64 - 1)))) ∧
    (s.waitHit t m = none → timed = false → exec (.waitTimeout t) s = .next s)) ∧
  (∀ (s : State) (t : Fin 4) (m e : Nat), s.waitHit t m = some e ↔
    (e < 64 ∧ bit m e = true ∧ bit (s.thread t).pend.toNat e = true ∧
      ∀ j, j < e → ¬(bit m j = true ∧ bit (s.thread t).pend.toNat j = true))))

/-- STAMP writes Thyme's ns form to D, and with F = 1 journals USER with the thread, IMM and A. ARMTP of a start that is not 16 ns ahead
arms nothing, leaves what was armed and answers 1; else the output is armed with its start, period and width and it answers 0 (R34,
R286, R310). CCHK and TRAIN are refused with their codes, with nothing changed but D, the PC and CELL_CHECK_REFUSED; else the cell
check or the training starts (R161, R167, R220, R286). The model's choices in it: log entry 44. -/
def Obligations.UnitCommands : Prop :=
  (∀ (s : State) (t : Fin 4) (i : Triso), Issues s t i → (s.thread t).pc ≠ 32767 →
    (i.op = .stamp → i.f = 0 → exec (.stamp t) s = .next (wrote s t i.d (BitVec.ofNat 64 (s.thyme.sec * 1000000000 + s.thyme.ns)))) ∧
    (i.op = .stamp → i.f = 1 → exec (.stamp t) s =
      .next (wrote (s.event 0x0F01 0 [a8 t, a32 i.imm.toNat, a64 (gpr s t i.a).toNat]) t i.d
        (BitVec.ofNat 64 (s.thyme.sec * 1000000000 + s.thyme.ns)))) ∧
    (i.op = .armtp → s.ahead16 (gpr s t i.a).toNat = false → Gives (exec (.armtp t) s) (fun u =>
      u.f (THY_TP_CTL.ARMED (i.f.toNat % 8)) = s.f (THY_TP_CTL.ARMED (i.f.toNat % 8)) ∧
      u.f (THY_TP_START.S (i.f.toNat % 8)) = s.f (THY_TP_START.S (i.f.toNat % 8)) ∧ u.gaf = (wrote s t i.d 1).gaf ∧
      Keeps s u [.regs, .journal, .gaf])) ∧
    (i.op = .armtp → s.ahead16 (gpr s t i.a).toNat = true → Gives (exec (.armtp t) s) (fun u =>
      u.f (THY_TP_CTL.ARMED (i.f.toNat % 8)) = 1 ∧ u.f (THY_TP_START.S (i.f.toNat % 8)) = (gpr s t i.a).toNat ∧
      u.f (THY_TP_PERIOD.Q (i.f.toNat % 8)) = (gpr s t i.b).toNat ∧ u.f (THY_TP_CTL.WIDTH (i.f.toNat % 8)) = i.imm.toNat % 65536 ∧
      u.gaf = (wrote s t i.d 0).gaf ∧ Keeps s u [.regs, .gaf]))) ∧
  (∀ (s : State) (t : Fin 4) (i : Triso), Issues s t i → (s.thread t).pc ≠ 32767 →
    (i.op = .train → s.mot.flashing = true → exec (.train t) s = .next (wrote s t i.d 1)) ∧
    (i.op = .train → s.mot.flashing = false → s.link.train.isSome = true → exec (.train t) s = .next (wrote s t i.d 2)) ∧
    (i.op = .train → s.mot.flashing = false → s.link.train = none →
      exec (.train t) s = .next ((s.startTrain (gpr s t i.a).toNat).threadDone t i.d.toNat 0)) ∧
    (i.op = .cchk → s.mot.flashing = true → exec (.cchk t) s = .next (wrote (s.event 0x0A02 0 [a8 1]) t i.d 1)) ∧
    (i.op = .cchk → s.mot.flashing = false → s.allReady = false → exec (.cchk t) s = .next (wrote (s.event 0x0A02 0 [a8 2]) t i.d 2)) ∧
    (i.op = .cchk → s.mot.flashing = false → s.allReady = true → s.f BMP_CC_STATUS.STATE = 1 →
      exec (.cchk t) s = .next (wrote (s.event 0x0A02 0 [a8 3]) t i.d 3)) ∧
    (i.op = .cchk → s.mot.flashing = false → s.allReady = true → s.f BMP_CC_STATUS.STATE ≠ 1 → Gives (exec (.cchk t) s) (fun u =>
      u.f BMP_CC_STATUS.STATE = 1 ∧ u.f BMP_CC_STATUS.SRC_BANK = s.stg BMP_SEL.MAP_BANK % 2 ∧ u.gaf = (wrote s t i.d 0).gaf ∧
      Keeps s u [.regs, .beam, .gaf])))

/-- HALT with no stripe in motion states 1 to 5 answers 1 and changes nothing else; else the ACTIVE stripe is halted with PROG_HALT, class
2, at the lowest flash whose commit point has not passed, t₀ before it is armed (R296). -/
def Obligations.HaltCommand : Prop :=
  ∀ (s : State) (t : Fin 4) (i : Triso), Issues s t i → i.op = .halt → (s.thread t).pc ≠ 32767 →
    (s.gaf.active = none ∨ s.f MOT_STATUS.STATE = 0 ∨ 5 < s.f MOT_STATUS.STATE → exec (.halt t) s = .next (wrote s t i.d 1)) ∧
    (∀ a, s.gaf.active = some a → 1 ≤ s.f MOT_STATUS.STATE → s.f MOT_STATUS.STATE ≤ 5 → s.f GAF_STATUS.HALTED ≠ 1 →
      Gives (exec (.halt t) s) (fun u => gpr u t i.d = 0 ∧ u.f GAF_STATUS.HALTED = 1 ∧ u.f GAF_HALT_CAUSE.CODE = 0x0F10 ∧
        u.f GAF_HALT_FLASH.TH = (if s.mot.armed = true then s.mot.committed else s.mot.t0) % 2 ^ 32 ∧
        u.f GAF_HALT_STRIPE.STRIPE = a.num % 2 ^ 32 ∧ u.f MOT_STATUS.STATE = 6 ∧
        ∃ r ∈ u.journal.inFlight, r.code = 0x0F10 ∧ r.cls = 2))

/-- RESUME answers the lowest code of R297 that holds, each code under the condition that the table gives it, and changes nothing else;
accepted, it clears HALTED and leaves the latch (R297). ABANDON with no halted stripe answers 1 (R298). The state in which a stripe
has been abandoned: HALTED is clear, the stripe stays ACTIVE until the stage is at rest, and the motion unit's plan is not cut short
(R298). The model's choices in it: log entry 43. -/
def Obligations.ResumeAndAbandon : Prop :=
  (∀ (s : State) (t : Fin 4) (i : Triso), Issues s t i → (s.thread t).pc ≠ 32767 →
    (i.op = .resume → s.f GAF_STATUS.HALTED ≠ 1 → s.gaf.resumeOk = false → exec (.resume t) s = .next (wrote s t i.d 1)) ∧
    (i.op = .resume → s.f GAF_STATUS.HALTED = 1 ∨ s.gaf.resumeOk = true →
      ((gpr s t i.b).toNat ≠ s.f GAF_HALT_GEN.GEN → exec (.resume t) s = .next (wrote s t i.d 2)) ∧
      ((gpr s t i.b).toNat = s.f GAF_HALT_GEN.GEN →
        (∀ l, l < 72 → s.laneState l ≠ 5 → exec (.resume t) s = .next (wrote s t i.d 3)) ∧
        ((∀ l, l < 72 → s.laneState l = 5) →
          (∀ a n, a < 2 → n < 18 → s.axisNames a n = true → s.f (SFB_CH_STATUS.POS_VALID n) ≠ 1 ∨ s.f (SFB_CH_STATUS.REF_LOST n) = 1 →
            exec (.resume t) s = .next (wrote s t i.d 4)) ∧
          (∀ a, a < 2 → s.act 3 (SFB_AXIS_CFG.CHK_EN a) = 1 → s.deviates a = true → exec (.resume t) s = .next (wrote s t i.d 4)) ∧
          ((∀ a, a < 2 → (∀ n, n < 18 → s.axisNames a n = true →
              s.f (SFB_CH_STATUS.POS_VALID n) = 1 ∧ s.f (SFB_CH_STATUS.REF_LOST n) ≠ 1) ∧
              (s.act 3 (SFB_AXIS_CFG.CHK_EN a) = 1 → s.deviates a = false)) →
            (s.gaf.resumeOk = true → exec (.resume t) s = .next (wrote s t i.d 5)) ∧
            (∀ k h, s.gaf.resumeOk = false → s.gaf.active = some k → (s.ctx k.ctx).halt = some h →
              exec (.resume t) s = .next (wrote s t i.d 6)) ∧
            (s.gaf.resumeOk = false → (∀ k ∈ s.gaf.active, (s.ctx k.ctx).halt = none) → Gives (exec (.resume t) s) (fun u =>
              u.f GAF_STATUS.HALTED = 0 ∧ u.gaf.resumeOk = true ∧ u.mot = { s.mot with armed := false, t0 := s.f GAF_HALT_FLASH.TH } ∧
              u.gaf.active = s.gaf.active ∧ gpr u t i.d = 0 ∧ KeepsFields s u [GAF_STATUS.HALTED] ∧
              Keeps s u [.regs, .gaf, .mot, .out, .ports, .clu])))))) ∧
    (i.op = .abandon → s.f GAF_STATUS.HALTED ≠ 1 → exec (.abandon t) s = .next (wrote s t i.d 1)) ∧
    (∀ k, i.op = .abandon → s.f GAF_STATUS.HALTED = 1 → s.gaf.active = some k →
      exec (.abandon t) s = .next ((s.abandon k).threadDone t i.d.toNat 0))) ∧
  (∀ (s : State) (k : Stripe), s.gaf.active = some k →
    (s.abandon k).f GAF_STATUS.HALTED = 0 ∧ (s.abandon k).gaf.ending = true ∧ (s.abandon k).gaf.active = some k ∧
    (s.abandon k).mot = s.mot)

/-! ## Thyme and the auxiliary axes (R268 to R271, R301 to R313) -/

/-- A tick adds INC and the slew of the tick to Thyme, counting seconds, ns and 2⁻³² ns exactly; the slew is RATE at most, towards the end
of the slew in progress, and SLEW_END is the tick that ends it (R302, R306). What was still to come by then comes in that tick, in
order: what has registered in SEQ, posted writes, edges for the captures, frames with a launch time (R239, R249, R283, R313, R318).
The model's choices in it: log entry 25. -/
def Obligations.ThymeTick : Prop :=
  (∀ s t : State, t = s.thymeTick →
    (t.acc : Int) = (s.acc + s.f THY_INC.INC + s.slewStep) % ((2 ^ 48 * 1000000000 * 2 ^ 32 : Nat) : Int) ∧
    t.thyme.slew = s.thyme.slew - s.slewStep ∧ t.tick = s.tick + 1 ∧ t.thyme.fifos = s.thyme.fifos ∧ t.thyme.refs = s.thyme.refs ∧
    Keeps s t [.tick, .thyme] ∧
    ((∀ e ∈ s.later, t.mono100 < e.1) → s.launches = [] → s.ports = [] → exec .thymeTick s = .next t) ∧
    (∀ e, s.later = [e] → e.1 ≤ t.mono100 → exec .thymeTick s = .next ({ t with later := [] }.come e.1 e.2).launchDue) ∧
    exec .thymeTick s = .next t.comeDue.launchDue) ∧
  (∀ s : State, s.slewStep.natAbs ≤ max 1 (min (s.f THY_SLEW_RATE.RATE) (2 ^ 22)) ∧ (s.thyme.slew = 0 → s.slewStep = 0) ∧
    (s.thyme.slew.natAbs ≤ max 1 (min (s.f THY_SLEW_RATE.RATE) (2 ^ 22)) → s.slewStep = s.thyme.slew) ∧
    (s.thyme.slew ≠ 0 → s.thyme.slew.natAbs ≤ max 1 (min (s.f THY_SLEW_RATE.RATE) (2 ^ 22)) →
      exec .slewEnd s = exec .thymeTick s))

/-- INC outside 0x180000000 to 0x1B3333333 is refused with INC_REFUSED, the value kept; inside it is taken, unless the copies of its
triple disagree (R418). A read of TIME_SEC latches NS and FRAC. SET and STEP are refused while a stripe flashes; else SET takes SEC
and NS (at most 999,999,999) with FRAC 0, STEP adds ADJ, and SLEW starts a slew of ADJ (R303 to R306). ARM of an output whose start
lies 16 ns ahead arms it; of one that does not, it is disarmed with TP_MISSED. DISARM disarms. An armed output fires at its start:
event line 16 + n pulses, the pin pulse leaves where PIN_EN is set, a single pulse is disarmed and a periodic one advances by its
period; the end of the pulse comes to the captures WIDTH after the start as emitted (R313). An output that is not armed does not fire
(R310, R311). The model's choices in it: log entries 2, 17 and 25. -/
def Obligations.ThymeAdjustAndPulses : Prop :=
  (∀ (s : State) (v : Word),
    (0x180000000 ≤ v.toNat % 2 ^ 36 → v.toNat % 2 ^ 36 ≤ 0x1B3333333 →
      (s.tripleHeld 53 = false → exec (.incWrite v) s = .next (s.put THY_INC.INC (v.toNat % 2 ^ 36))) ∧
      (s.tripleHeld 53 = true → exec (.incWrite v) s = .next s)) ∧
    (v.toNat % 2 ^ 36 < 0x180000000 ∨ 0x1B3333333 < v.toNat % 2 ^ 36 →
      Gives (exec (.incWrite v) s) (fun t => t.f THY_INC.INC = s.f THY_INC.INC ∧ t.f THY_STATUS.INC_REFUSED = 1 ∧
        Keeps s t [.regs, .journal])) ∧
    (∀ w, Gives (exec (.timeSecRead w) s) (fun t =>
      t.host.readData = BitVec.ofNat 64 (s.thyme.sec % 2 ^ (8 * w)) ∧ t.f THY_TIME_NS.NS = s.thyme.ns % 2 ^ 32 ∧
      t.f THY_TIME_FRAC.FRAC = s.thyme.frac % 2 ^ 32 ∧ Keeps s t [.regs, .host] ∧
      KeepsFields s t [THY_TIME_NS.NS, THY_TIME_FRAC.FRAC])) ∧
    (s.mot.flashing = true → v.toNat % 8 = 1 →
      exec (.thySet v) s = .next ((s.flag THY_STATUS.STEP_REFUSED).event 0x0205 0 [a8 1])) ∧
    (s.mot.flashing = true → v.toNat % 8 = 2 →
      exec (.thyStep v) s = .next ((s.flag THY_STATUS.STEP_REFUSED).event 0x0205 0 [a8 2])) ∧
    (s.mot.flashing = false → v.toNat % 8 = 1 → s.f THY_SET_SEC.SEC < 2 ^ 48 → Gives (exec (.thySet v) s) (fun t =>
      t.thyme = { s.thyme with sec := s.f THY_SET_SEC.SEC, ns := min (s.f THY_SET_NS.NS) 999999999, frac := 0 } ∧
      Keeps s t [.thyme, .regs, .journal])) ∧
    (s.mot.flashing = false → v.toNat % 8 = 2 → Gives (exec (.thyStep v) s) (fun t =>
      (t.acc : Int) = (s.acc + s.fs THY_ADJ.ADJ * 2 ^ 16) % ((2 ^ 48 * 1000000000 * 2 ^ 32 : Nat) : Int) ∧
      t.thyme.slew = s.thyme.slew ∧ Keeps s t [.thyme, .regs, .journal])) ∧
    (v.toNat % 8 = 4 → exec (.thySlew v) s = .next { s with thyme := { s.thyme with slew := s.fs THY_ADJ.ADJ * 2 ^ 16 } })) ∧
  (∀ (s : State) (n : Fin 8) (v : Word),
    (v.toNat % 4 = 1 → s.ahead16 (s.f (THY_TP_START.S n)) = true → Gives (exec (.tpArm n v) s) (fun t =>
      t.f (THY_TP_CTL.ARMED n) = 1 ∧ t.f (THY_TP_CTL.WIDTH n) = v.toNat / 2 ^ 16 % 2 ^ 16 ∧
      t.f (THY_TP_CTL.PIN_EN n) = v.toNat / 8 % 2 ∧ t.f (THY_TP_START.S n) = s.f (THY_TP_START.S n) ∧ Keeps s t [.regs])) ∧
    (v.toNat % 4 = 1 → s.ahead16 (s.f (THY_TP_START.S n)) = false → Gives (exec (.tpArm n v) s) (fun t =>
      t.f (THY_TP_CTL.ARMED n) = 0 ∧ t.f THY_STATUS.TP_MISS_SEEN = 1 ∧ Keeps s t [.regs, .journal])) ∧
    (v.toNat % 4 = 2 → Gives (exec (.tpDisarm n v) s) (fun t => t.f (THY_TP_CTL.ARMED n) = 0 ∧ Keeps s t [.regs])) ∧
    (s.f (THY_TP_CTL.ARMED n) ≠ 1 → exec (.tpFire n) s = .next s) ∧
    (s.f (THY_TP_CTL.ARMED n) = 1 → s.f (THY_TP_PERIOD.Q n) = 0 → Gives (exec (.tpFire n) s) (fun t =>
      t.f (THY_TP_CTL.ARMED n) = 0 ∧ t.thyme.sec = s.thyme.sec ∧ t.thyme.ns = s.thyme.ns ∧
      (s.later = [] → s.now100 ≤ s.f (THY_TP_START.S n) * 10 → t.later =
        [(s.mono100 + (s.f (THY_TP_START.S n) * 10 - s.now100) + max 1 (s.f (THY_TP_CTL.WIDTH n)) * 16, .capture (8 + n) true)]) ∧
      t.out = (if s.f (THY_TP_CTL.PIN_EN n) = 1 then
        s.out ++ [.timedPulse n (s.f (THY_TP_START.S n) * 10) (max 1 (s.f (THY_TP_CTL.WIDTH n)) * 16)] else s.out))) ∧
    (s.f (THY_TP_CTL.ARMED n) = 1 → 16 ≤ s.f (THY_TP_PERIOD.Q n) → Gives (exec (.tpFire n) s) (fun t =>
      t.f (THY_TP_START.S n) = (s.f (THY_TP_START.S n) + s.f (THY_TP_PERIOD.Q n)) % 2 ^ 64 ∧ t.thyme.sec = s.thyme.sec)))

/-- An edge of TCn that the capture selects and that no filter drops enters a FIFO that is not full, with its time in 100 ps; into a full
one nothing goes and OVF is set; one less than 8 ns after the last edge taken is ignored, whatever Thyme time does in between. A read
of TC_TIME takes the oldest entry with VALID set, and reads 0 of an empty FIFO (R313). A TREF edge counts and is timed; a PPS edge of
the selected polarity latches the time, the last TREF edge and the count, and the count starts again at 0; a missing TREF or PPS edge
loses the pair with reason 1 or 2 (R308, R309). The model's choices in it: log entries 2 and 25. -/
def Obligations.CapturesAndReferences : Prop :=
  (∀ (s : State) (n : Fin 8), s.thyme.fifos.length = 8 →
    (∀ f, s.captures n 0 f = true → s.thyme.tcLast.getD n none = none → (s.thyme.fifos.getD n []).length < 8 →
      Gives (exec (.captureEdge n f) s) (fun t =>
        t.thyme.fifos = s.thyme.fifos.set n (s.thyme.fifos.getD n [] ++ [s.now100]) ∧
        t.thyme.tcLast = s.thyme.tcLast.set n (some s.mono100) ∧ Keeps s t [.thyme, .regs, .gaf])) ∧
    (∀ f, s.captures n 0 f = true → s.thyme.tcLast.getD n none = none → 8 ≤ (s.thyme.fifos.getD n []).length →
      Gives (exec (.captureEdge n f) s) (fun t => t.thyme.fifos = s.thyme.fifos ∧ t.f (THY_TC_CTL.OVF n) = 1 ∧
        Keeps s t [.thyme, .regs, .journal])) ∧
    (∀ f l, s.thyme.tcLast.getD n none = some l → s.mono100 < l + 80 → exec (.captureEdge n f) s = .next s) ∧
    (∀ f l, s.captures n 0 f = true → s.thyme.tcLast.getD n none = some l → l + 80 ≤ s.mono100 → (s.thyme.fifos.getD n []).length < 8 →
      Gives (exec (.captureEdge n f) s) (fun t => t.thyme.fifos = s.thyme.fifos.set n (s.thyme.fifos.getD n [] ++ [s.now100]))) ∧
    (∀ x r, s.thyme.fifos.getD n [] = x :: r → Gives (exec (.tcTimeRead n) s) (fun t =>
      t.host.readData = BitVec.ofNat 64 (x % 2 ^ 63 + 2 ^ 63) ∧ t.thyme.fifos = s.thyme.fifos.set n r ∧
      t.f (THY_TC_CTL.COUNT n) = r.length % 16 ∧ Keeps s t [.thyme, .regs, .host])) ∧
    (s.thyme.fifos.getD n [] = [] → Gives (exec (.tcTimeRead n) s) (fun t => t.host.readData = 0 ∧ Keeps s t [.host]))) ∧
  (∀ (s : State) (r : Fin 2), s.thyme.refs.length = 2 →
    (∀ p, s.thyme.refs[r.val]? = some p → exec (.trefEdge r) s =
      .next { s with thyme := { s.thyme with refs := s.thyme.refs.set r { p with tref := s.now100, count := p.count + 1 } } }) ∧
    (∀ p f, s.thyme.refs[r.val]? = some p → (f = true ↔ s.f THY_REF_CTL.PPS_EDGE = 1) → p.lastPps = none →
      (List.range 8).all (fun n => !s.captures n (5 + r) f) = true → Gives (exec (.ppsEdge r f) s) (fun t =>
        t.f (THY_REF_PPS.TIME r) = s.now100 % 2 ^ 64 ∧ t.f (THY_REF_TREF.TIME r) = p.tref % 2 ^ 64 ∧
        t.f (THY_REF_COUNT.COUNT r) = p.count % 2 ^ 32 ∧ t.thyme.sec = s.thyme.sec ∧ Keeps s t [.thyme, .regs])) ∧
    (exec (.trefTimeout r) s = .next (s.refLost r 1) ∧ exec (.ppsTimeout r) s = .next (s.refLost r 2)) ∧
    (∀ why, (s.refLost r why).f (okBit r) = 0 ∧ (s.refLost r why).f THY_STATUS.REF_LOST_SEEN = 1 ∧
      ((s.refLost r why).thyme.refs.map RefPair.good).getD r 0 = 0 ∧ Keeps s (s.refLost r why) [.thyme, .regs, .journal]))

/-- A write of TARGET starts a move where the axis is enabled and not there, a target equal to POS ends where the axis rests, and a new
motion of an axis in reduced current drives AXa_CUR low; STOP ends a move where the axis stands, with TARGET equal to POS and state 2;
a step changes POS by one towards the target and sends one pulse, AXa_DIR first where it does not show the direction; IDLE reduces the
current once. With CHK_EN = 1 each step shows its deviation from the check channel, and one above LIMIT stops the axis with state 3,
STALL and AX_STALL (R268 to R271). The model's choices in it: log entries 2, 31 and 54. -/
def Obligations.AuxiliaryAxes : Prop :=
  ∀ (s : State) (a : Fin 8) (v : Word),
    (s.f (MOT_AX_CTL.EN a) ≠ 1 → exec (.axTarget a v) s = .next (s.put (MOT_AX_TARGET.TARGET a) v.toNat)) ∧
    (s.f (MOT_AX_CTL.EN a) = 1 → sgn 32 v.toNat ≠ s.fs (MOT_AX_POS.POS a) → s.f (MOT_AX_STATUS.CUR a) ≠ 1 →
      exec (.axTarget a v) s = .next ((s.put (MOT_AX_TARGET.TARGET a) v.toNat).put (MOT_AX_STATUS.STATE a) 1)) ∧
    (s.f (MOT_AX_CTL.EN a) = 1 → sgn 32 v.toNat ≠ s.fs (MOT_AX_POS.POS a) → s.f (MOT_AX_STATUS.CUR a) = 1 →
      Gives (exec (.axTarget a v) s) (fun t =>
        t.f (MOT_AX_TARGET.TARGET a) = v.toNat % 2 ^ 32 ∧ t.f (MOT_AX_STATUS.STATE a) = 1 ∧ t.f (MOT_AX_STATUS.CUR a) = 0 ∧
        t.out = s.out ++ [.axCurrent a false] ∧ t.pin (.axCur a) = .low ∧ Keeps s t [.regs, .out, .power])) ∧
    (s.f (MOT_AX_CTL.EN a) = 1 → sgn 32 v.toNat = s.fs (MOT_AX_POS.POS a) → (s.axis a).vel = 0 → Gives (exec (.axTarget a v) s) (fun t =>
      t.f (MOT_AX_TARGET.TARGET a) = v.toNat % 2 ^ 32 ∧ t.f (MOT_AX_STATUS.STATE a) = 0 ∧
      t.f (MOT_AX_STATUS.CUR a) = s.f (MOT_AX_STATUS.CUR a) ∧ t.out = s.out ∧ Keeps s t [.regs, .aux, .gaf])) ∧
    (v.toNat / 2 % 2 = 1 → s.axState a = 1 → Gives (exec (.axStop a v) s) (fun t =>
      t.f (MOT_AX_STATUS.STATE a) = 2 ∧ t.fs (MOT_AX_TARGET.TARGET a) = t.fs (MOT_AX_POS.POS a) ∧
      t.f (MOT_AX_POS.POS a) = s.f (MOT_AX_POS.POS a) ∧ (t.axis a).vel = 0)) ∧
    (∀ neg high, s.f (MOT_AX_CTL.EN a) = 1 → s.axState a = 1 → s.f (MOT_AX_CTL.CHK_EN a) ≠ 1 →
      neg = (if (s.axis a).vel = 0 then decide (s.fs (MOT_AX_TARGET.TARGET a) < s.fs (MOT_AX_POS.POS a)) else (s.axis a).neg) →
      high = (neg != decide (s.f (MOT_AX_CTL.DIR_INV a) = 1)) → Gives (exec (.axStep a) s) (fun t =>
        t.f (MOT_AX_POS.POS a) = ofInt 32 (s.fs (MOT_AX_POS.POS a) + (if neg = true then -1 else 1)) ∧
        t.out = s.out ++ (if s.pin (.axDir a) = (if high = true then .high else .low) then [] else [.axDir a high]) ++
          [.step a neg (max 2 (s.f (MOT_AX_TIMING.PW a)))] ∧
        t.pin (.axDir a) = (if high = true then .high else .low) ∧ (t.axis a).neg = (if a.val < s.aux.length then neg else false) ∧
        Keeps s t [.regs, .aux, .out, .gaf, .power])) ∧
    (∀ neg pos dev, s.f (MOT_AX_CTL.EN a) = 1 → s.axState a = 1 → s.f (MOT_AX_CTL.CHK_EN a) = 1 →
      neg = (if (s.axis a).vel = 0 then decide (s.fs (MOT_AX_TARGET.TARGET a) < s.fs (MOT_AX_POS.POS a)) else (s.axis a).neg) →
      pos = sgn 32 (ofInt 32 (s.fs (MOT_AX_POS.POS a) + (if neg = true then -1 else 1))) → 1 ≤ s.f (MOT_AX_CHK.MUL a) →
      1 ≤ s.f (MOT_AX_CHK.DIV a) → dev = (s.fs (SFB_CH_POS.POS (10 + s.f (MOT_AX_CTL.CHK_SRC a))) - (s.axis a).e0) -
        (pos - (s.axis a).s0) * s.f (MOT_AX_CHK.MUL a) / s.f (MOT_AX_CHK.DIV a) →
      Gives (exec (.axStep a) s) (fun t =>
        t.fs (MOT_AX_POS.POS a) = pos ∧ t.fs (MOT_AX_STATUS.DEV a) = max (-2147483648) (min 2147483647 dev) ∧
        (s.f (MOT_AX_CHK.LIMIT a) < dev.natAbs → t.f (MOT_AX_STATUS.STATE a) = 3 ∧ t.f (MOT_AX_STATUS.STALL a) = 1 ∧
          t.fs (MOT_AX_TARGET.TARGET a) = pos ∧ (t.axis a).vel = 0 ∧ (∃ r ∈ t.journal.inFlight, r.code = 0x0E03 ∧ r.cls = 0) ∧
          bit (t.thread 0).pend.toNat (36 + a) = (s.gaf.threads != [])) ∧
        (dev.natAbs ≤ s.f (MOT_AX_CHK.LIMIT a) → t.f (MOT_AX_STATUS.STALL a) = s.f (MOT_AX_STATUS.STALL a) ∧
          t.f (MOT_AX_TARGET.TARGET a) = s.f (MOT_AX_TARGET.TARGET a) ∧ t.journal = s.journal))) ∧
    (¬(s.f (MOT_AX_CTL.EN a) = 1 ∧ s.axState a = 1) → exec (.axStep a) s = .next s) ∧
    (s.f (MOT_AX_CTL.CUR_EN a) = 1 → s.f (MOT_AX_STATUS.CUR a) ≠ 1 → Gives (exec (.axIdle a) s) (fun t =>
      t.f (MOT_AX_STATUS.CUR a) = 1 ∧ KeepsFields s t [MOT_AX_STATUS.CUR a] ∧ t.out = s.out ++ [.axCurrent a true] ∧
      t.pin (.axCur a) = .high ∧ Keeps s t [.regs, .out, .power]))

/-! ## Power (R438 to R453) -/

/-- PORn's rise measures the voltages of the four banks and takes the device out of stage 1: to stage 4 where a push needs no signature,
else to stage 2. In stages 2, 3 and 4 an accepted image starts the four service cores in stage 6 and releases the units of the data
path, and a refused one leads to stage 3, 4 or 7; in any other stage nothing is loaded (R446 to R448, R458). Until the release no unit
works, enabled or not. The model's choices in it: log entry 40. -/
def Obligations.Boot : Prop :=
  (∀ s : State,
    (s.f PWR_BOOT_STATUS.STAGE = 1 → s.lifecycle = 0 → Gives (exec .pornRelease s) (fun t =>
      t.f PWR_BOOT_STATUS.STAGE = (if s.openBoot = true then 4 else 2) ∧ t.f SAG_STATUS.FUSE_PWR = b2n s.power.fuseV ∧
      t.power.porn = true)) ∧
    (s.f PWR_BOOT_STATUS.STAGE = 1 → Gives (exec .pornRelease s) (fun t =>
      (t.f PWR_BOOT_STATUS.STAGE = 2 ∨ t.f PWR_BOOT_STATUS.STAGE = 4) ∧
      (s.power.bankV.length = 4 → ∀ i, i < 4 → ∃ v, t.power.bankV[i]? = some (some v)))) ∧
    (s.f PWR_BOOT_STATUS.STAGE ≠ 1 → exec .pornRelease s = .next s)) ∧
  (∀ (s : State) (img : List Byte),
    (s.f PWR_BOOT_STATUS.STAGE = 2 → Gives (exec (.qspiImageRead img) s) (fun t => match s.imageCode 1 false img with
      | none => t = s.runFirmware img 0
      | some c => t.f PWR_BOOT_STATUS.STAGE = 3 ∧ t.f PWR_BOOT_STATUS.CODE = c % 16 ∧ Keeps s t [.regs, .journal])) ∧
    (s.f PWR_BOOT_STATUS.STAGE = 3 → Gives (exec (.qspiImageRead img) s) (fun t => match s.imageCode 1 false img with
      | none => t = s.runFirmware img 1
      | some _ => t.f PWR_BOOT_STATUS.STAGE = (if bit (s.f SAG_FEATURE.FEATURE) 3 = true then 4 else 7) ∧
          Keeps s t [.regs, .journal])) ∧
    (s.f PWR_BOOT_STATUS.STAGE ≠ 2 → s.f PWR_BOOT_STATUS.STAGE ≠ 3 → exec (.qspiImageRead img) s = .next s) ∧
    (∀ src, src < 4 → (s.runFirmware img src).f PWR_BOOT_STATUS.STAGE = 6 ∧ (s.runFirmware img src).f PWR_BOOT_STATUS.SOURCE = src ∧
      (s.runFirmware img src).power.released = true ∧ ∀ n : Fin 4, (s.runFirmware img src).f (PWR_SC_CTL.RUNNING n) = 1)) ∧
  (∀ (s : State) (x : Fld), s.runs x = true ↔ s.f x = 1 ∧ s.power.released = true) ∧
  (∀ (s : State) (v : Word),
    (s.f PWR_BOOT_STATUS.STAGE = 4 → Gives (exec (.bootPush v) s) (fun t =>
      match s.imageCode 1 s.openBoot (rdBytes s.power.image 0 (v.toNat % 2 ^ 25)) with
      | none => t = s.runFirmware (rdBytes s.power.image 0 (v.toNat % 2 ^ 25)) 2
      | some _ => t.f PWR_BOOT_STATUS.STAGE = 4 ∧ Keeps s t [.regs, .journal])) ∧
    (s.f PWR_BOOT_STATUS.STAGE ≠ 4 → exec (.bootPush v) s = .next s))

/-- PORn returns every part of the device to its reset value but the fuses, the host's memory, the banks' voltages and the recorded
causes, every pin to its state of R461, and records POR; a host warm reset records WARM and leaves the stage, the data path, Gaffer,
Thyme and Sage alone. A PLL that loses its lock clears its PLL_OK with PLL_UNLOCK: with the SYS PLL the device resets as at PORn,
records CLKFAIL and boots again, with a group's its plane lanes and its return lane go DOWN whatever they did, with the ETH PLL E0 to
E3 go down; a relock, a loss of the fuse supply and a thermal trip change what R439, R441 and R453 say (R438 to R443, R453). The
model's choices in it: log entries 40 and 54. -/
def Obligations.Resets : Prop :=
  ∀ s : State,
    Gives (exec .pornAssert s) (fun t =>
      t.f PWR_RST_CAUSE.POR = 1 ∧ t.sage = { State.reset.sage with fuses := s.sage.fuses } ∧
      t.host = { State.reset.host with mem := s.host.mem, bad := s.host.bad } ∧
      t.power.porn = false ∧ t.power.bankV = s.power.bankV ∧ (∀ p, t.pin p = p.atReset) ∧
      (∀ p, s.pin p ≠ p.atReset → .pin p p.atReset ∈ t.out) ∧ t.pending = s.pending ∧
      (∀ p, p ∉ [.regs, .sage, .host, .power, .out, .freeCount] → Part.same State.reset t p) ∧
      KeepsFields State.reset t
        [PWR_RST_CAUSE.POR, PWR_RST_CAUSE.CLKFAIL, PWR_RST_CAUSE.WARM, PWR_RST_CAUSE.PERST, PWR_STATUS.THERMTRIP]) ∧
    (∀ perst, Gives (exec (.hostWarmReset perst) s) (fun t =>
      t.f PWR_RST_CAUSE.WARM = 1 ∧ (perst = true → t.f PWR_RST_CAUSE.PERST = 1) ∧ t.dbMask 0 = 0 ∧ t.dbPend 0 = 0 ∧
      Keeps s t [.regs, .journal, .host, .out])) ∧
    (exec (.pllLoss 10) s = .next
      (((s.put PWR_PLL_STATUS.PLL_OK (clrBit (s.f PWR_PLL_STATUS.PLL_OK) 10)).flag PWR_STATUS.UNLOCK_SEEN).event 0x0102 0 [a8 10])) ∧
    (Gives (exec (.pllLoss 0) s) (fun t =>
      t.f PWR_RST_CAUSE.CLKFAIL = 1 ∧ t.f PWR_RST_CAUSE.POR = s.f PWR_RST_CAUSE.POR % 2 ∧ bit (t.f PWR_PLL_STATUS.PLL_OK) 0 = false ∧
      t.f PWR_STATUS.UNLOCK_SEEN = 1 ∧ (t.f PWR_BOOT_STATUS.STAGE = 2 ∨ t.f PWR_BOOT_STATUS.STAGE = 4) ∧
      (s.lifecycle ≠ 3 → t.sage.fuses = s.sage.fuses) ∧ (∃ r ∈ t.journal.inFlight, r.code = 0x0102) ∧ t.pending = s.pending ∧
      ∀ p, p ∉ [.regs, .sage, .host, .power, .out, .freeCount, .mem, .journal] → Part.same State.reset t p)) ∧
    (∀ (p : Fin 11) (g : Nat), p.val = g + 1 → g < 8 → Gives (exec (.pllLoss p) s) (fun t =>
      t.f PWR_PLL_STATUS.PLL_OK = clrBit (s.f PWR_PLL_STATUS.PLL_OK) p % 2 ^ 11 ∧ t.f PWR_STATUS.UNLOCK_SEEN = 1 ∧
      (∀ l, 8 * g ≤ l → l < 8 * g + 8 → t.laneState l = 0) ∧ t.laneState (64 + g) = 0 ∧
      (∀ l, l < 72 → (l < 8 * g ∨ 8 * g + 8 ≤ l) → l ≠ 64 + g → t.laneState l = s.laneState l) ∧
      (∃ r ∈ t.journal.inFlight, r.code = 0x0102) ∧ Keeps s t [.regs, .journal, .link, .power, .gaf, .out])) ∧
    (Gives (exec (.pllLoss 9) s) (fun t =>
      t.f PWR_PLL_STATUS.PLL_OK = clrBit (s.f PWR_PLL_STATUS.PLL_OK) 9 % 2 ^ 11 ∧ t.f PWR_STATUS.UNLOCK_SEEN = 1 ∧
      (∀ p, p < 4 → t.f (ETH_PORT_STATUS.LINK p) ≠ 1 ∧
        (s.f (ETH_PORT_STATUS.LINK p) = 1 → t.f (ETH_PORT_STATUS.DOWN_SEEN p) = 1) ∧
        (s.f (ETH_PORT_STATUS.LINK p) ≠ 1 → t.f (ETH_PORT_STATUS.DOWN_SEEN p) = s.f (ETH_PORT_STATUS.DOWN_SEEN p))) ∧
      Keeps s t [.regs, .journal])) ∧
    (∀ p, exec (.pllRelock p) s = .next (s.put PWR_PLL_STATUS.PLL_OK (setBit (s.f PWR_PLL_STATUS.PLL_OK) p))) ∧
    (Gives (exec .vddFuseLoss s) (fun t => t.f SAG_STATUS.FUSE_PWR = 0 ∧ t.sage = s.sage ∧ Keeps s t [.regs, .power])) ∧
    (Gives (exec .vddFusePresent s) (fun t => t.f SAG_STATUS.FUSE_PWR = 1 ∧ t.sage = s.sage ∧ Keeps s t [.regs, .power])) ∧
    (Gives (exec .thermtrip s) (fun t => t.power.thermN = false ∧ t.f PWR_STATUS.THERMTRIP = 1 ∧ t.out = s.out ++ [.thermtrip false] ∧
      Keeps s t [.regs, .power, .out]))

/-- RST by the host or SC0 restarts a service core whose image hashes to that of the running firmware; where it does not, no core runs and
the boot has failed. A core alone may put itself to sleep. A reset of units is refused while a stripe is ACTIVE, a unit that it names
is enabled, a DMA channel that it names runs or, of Gather, a job context is open; carried out, it returns that unit's registers, SH
fields excepted, and its state to their reset values, and no other's; with Lehr and Punty every lane is DOWN (R444, R445, R450). The
model's choices in it: log entry 40. -/
def Obligations.CoresAndUnits : Prop :=
  (∀ (s : State) (m : Fin 8) (n : Fin 4) (v : Word), v.toNat % 32 = 1 → m.val ≤ 1 → n.val ≠ 0 → s.f PWR_BOOT_STATUS.STAGE = 6 →
    (s.coreHash = s.sage.fwHash → Gives (exec (.scReset m n v) s) (fun t =>
      t.f (PWR_SC_CTL.RUNNING n) = 1 ∧ t.f (PWR_SC_CTL.ASLEEP n) = 0 ∧ Keeps s t [.regs, .host])) ∧
    (s.coreHash ≠ s.sage.fwHash → Gives (exec (.scReset m n v) s) (fun t =>
      (∀ k : Fin 4, t.f (PWR_SC_CTL.RUNNING k) = 0) ∧ t.f (PWR_SC_CTL.HASH_FAIL n) = 1 ∧ t.f PWR_BOOT_STATUS.STAGE = 7 ∧
      t.canServe = false ∧ Keeps s t [.regs, .host, .journal]))) ∧
  (∀ (s : State) (m : Fin 8) (n : Fin 4) (v : Word), v.toNat % 32 = 1 → (1 < m.val ∨ n.val = 0) → exec (.scReset m n v) s = .next s) ∧
  (∀ (s : State) (m : Fin 8) (n : Fin 4) (v : Word), v.toNat % 32 = 2 →
    (m.val ≠ n.val + 1 → exec (.scSleep m n v) s = .next s) ∧
    (m.val = n.val + 1 → s.f (PWR_SC_CTL.RUNNING n) = 1 → s.wakePending (n + 1) = false → exec (.scSleep m n v) s =
      .next ((s.put (PWR_SC_CTL.ASLEEP n) 1).put (PWR_SC_CTL.RUNNING n) 0))) ∧
  (∀ (s : State) (v : Word), s.gaf.active.isSome = true → exec (.unitReset v) s = .next (s.flag PWR_STATUS.RST_REFUSED)) ∧
  (∀ (s : State) (v : Word), s.gaf.active = none →
    (∀ e ∈ [(6, GTH_CTL.ENABLE), (7, BLP_CTL.ENABLE), (8, MRV_CTL.ENABLE), (9, GLY_CTL.ENABLE), (11, PAR_CTL.ENABLE),
        (12, LEH_CTL.ENABLE), (12, PUN_CTL.ENABLE), (13, SFB_CTL.ENABLE), (14, MOT_CTL.ENABLE)],
      bit v.toNat e.1 = true → s.f e.2 = 1 → exec (.unitReset v) s = .next (s.flag PWR_STATUS.RST_REFUSED)) ∧
    (∀ c, c < 16 → bit v.toNat 4 = true → s.f (DMA_CH_STATUS.STATE c) = 1 →
      exec (.unitReset v) s = .next (s.flag PWR_STATUS.RST_REFUSED)) ∧
    (∀ c, c < 2 → bit v.toNat 6 = true → s.f (GTH_CTX_CFG.OPEN c) = 1 →
      exec (.unitReset v) s = .next (s.flag PWR_STATUS.RST_REFUSED))) ∧
  (∀ (s : State) (u : Nat) (v : Word), s.gaf.active = none → v.toNat = 2 ^ u → s.unitIdle u = true →
    (∀ t, exec (.unitReset v) s = .next t → 4 ≤ u → u ≤ 14 → u ≠ 12 →
      (∀ x : Fld, x.addr / 2 ^ 20 = u → x.lo < 64 → isShKey x.key = false → (x.key ≠ MOT_STATUS.STATE.key ∨ s.safeNow = false) →
        t.f x = x.reset) ∧
      (∀ x : Fld, x.addr / 2 ^ 20 ≠ u ∨ isShKey x.key = true → x.lo < 64 → x.key ∉ [PGV_STATE.USED, PGV_STATUS.WAITING].map Fld.key →
        t.f x = s.f x)) ∧
    (u = 4 → Gives (exec (.unitReset v) s) (fun t =>
      t.host = { s.host with dma := List.replicate 16 DmaCh.idle } ∧ Keeps s t [.regs, .power, .host])) ∧
    (u = 5 → Gives (exec (.unitReset v) s) (fun t =>
      t.host = { s.host with crc := List.replicate 4 0xFFFFFFFF } ∧ t.lanes = State.reset.lanes ∧
      Keeps s t [.regs, .power, .host, .lanes])) ∧
    (u = 6 → Gives (exec (.unitReset v) s) (fun t => t.gather = State.reset.gather ∧ Keeps s t [.regs, .power, .gather])) ∧
    (u = 7 → Gives (exec (.unitReset v) s) (fun t => t.blow = State.reset.blow ∧ Keeps s t [.regs, .power, .blow])) ∧
    (u = 8 → Gives (exec (.unitReset v) s) (fun t =>
      t.mslots = List.replicate 64 none ∧ t.current = List.replicate 32 0 ∧ Keeps s t [.regs, .mslots, .current, .power])) ∧
    (u = 9 → Gives (exec (.unitReset v) s) (fun t => t.glory = State.reset.glory ∧ Keeps s t [.regs, .power, .glory])) ∧
    (u = 10 → Gives (exec (.unitReset v) s) (fun t =>
      t.beam = { State.reset.beam with stagedT := s.beam.stagedT, activeT := s.beam.activeT } ∧ Keeps s t [.regs, .power, .beam])) ∧
    (u = 11 → Gives (exec (.unitReset v) s) (fun t => t.par = State.reset.par ∧ Keeps s t [.regs, .power, .par])) ∧
    (u = 12 → Gives (exec (.unitReset v) s) (fun t =>
      (∀ l, l < 72 → t.laneState l = 0) ∧ t.link.halves = State.reset.link.halves ∧ t.link.train = none ∧ t.link.nonces = s.link.nonces ∧
      (∀ l, l < 64 → t.pln l = { PLane.reset with freeAt := s.mono100 }) ∧ t.f PUN_CTL.ENABLE = 0 ∧ t.f LEH_CTL.ENABLE = 0 ∧
      Keeps s t [.regs, .journal, .link, .power, .out, .gaf])) ∧
    (u = 13 → Gives (exec (.unitReset v) s) (fun t =>
      t.chans = State.reset.chans ∧ t.emus = State.reset.emus ∧ (∀ e ∈ t.later, e ∈ s.later ∧ e.2.ofSfb = false) ∧
      Keeps s t [.regs, .power, .chans, .emus, .later])) ∧
    (u = 14 → Gives (exec (.unitReset v) s) (fun t =>
      t.mot = State.reset.mot ∧ t.aux = State.reset.aux ∧ (∀ a, a < 8 → t.pin (.axEn a) ≠ .high ∧ t.pin (.axCur a) ≠ .high) ∧
      t.f MOT_STATUS.STATE = (if s.safeNow = true then 6 else 0) ∧ Keeps s t [.regs, .power, .mot, .aux, .out])))

/-- Leave is granted to the oldest request alone, and only where its units fit into EFF beside those granted, or it asks for more than EFF
and none is granted, which is counted; a column that Glory may no longer begin gives it back, and so does a holder whose operation is
over. EFF is BUDGET up to T_START, falls with the temperature, and is never below FLOOR; TJ is the highest of the 16 readings (R451 to
R453). What a granted request begins: a Marver tile may be rasterised; an empty pixel tile is written with no dose, any other is
written word by word; a lane group's lanes that wait begin to send; Sage's decrypted segment takes a lane; Parison runs a burst of up
to 8 columns of the band in process. A column of a burst waits while the ring slot that it reaches holds an unsent chunk; else each
pixel's codes enter the store at the flash at which its beam meets it, and the last column of the burst returns the leave (R81, R140,
R144, R187, R220, R361, R451). The model's choices in it: log entry 41. -/
def Obligations.Leave : Prop :=
  ((∀ s : State, s.power.waiting = [] → exec .leaveGrant s = .next s) ∧
  (∀ (s : State) w r, s.power.waiting = w :: r → s.f PGV_STATE.EFF < leaveUsed s.power.grants + w.units →
    (w.units ≤ s.f PGV_STATE.EFF ∨ leaveUsed s.power.grants ≠ 0) → exec .leaveGrant s = .next s) ∧
  (∀ (s : State) w r, s.power.waiting = w :: r → w.who = .coarse → leaveUsed s.power.grants + w.units ≤ s.f PGV_STATE.EFF →
    s.runs GLY_CTL.ENABLE = true → Gives (exec .leaveGrant s) (fun t => t.power.waiting = r ∧ t.power.grants = s.power.grants ++ [w] ∧ Keeps s t [.regs, .power])) ∧
  (∀ (s : State) w r, s.power.waiting = w :: r → w.who = .coarse → leaveUsed s.power.grants = 0 → s.f PGV_STATE.EFF < w.units →
    s.runs GLY_CTL.ENABLE = true → Gives (exec .leaveGrant s) (fun t => t.power.waiting = r ∧ t.power.grants = s.power.grants ++ [w] ∧
      t.f PGV_CNT_OVERSIZE.COUNT = min (s.f PGV_CNT_OVERSIZE.COUNT + 1) (2 ^ PGV_CNT_OVERSIZE.COUNT.w - 1) ∧
      t.f PGV_STATE.USED = (leaveUsed s.power.grants + w.units) % 2 ^ 16 ∧ Keeps s t [.regs, .power])) ∧
  (∀ (s : State) w r, s.power.waiting = w :: r → w.who = .coarse → leaveUsed s.power.grants + w.units ≤ s.f PGV_STATE.EFF →
    s.runs GLY_CTL.ENABLE = false → Gives (exec .leaveGrant s) (fun t => t.holdsLeave .coarse = false ∧ Keeps s t [.regs, .power])) ∧
  (∀ (s : State) k g, s.power.grants[k]? = some g → s.leaveOver g.who = true → Gives (exec (.leaveReturn k) s) (fun t =>
    t.holdsLeave g.who = false ∧ t.f PGV_STATE.USED = leaveUsed t.power.grants % 2 ^ 16 ∧ Keeps s t [.regs, .power])) ∧
  (∀ (s : State) k g, s.power.grants[k]? = some g → s.leaveOver g.who = false → exec (.leaveReturn k) s = .next s) ∧
  (∀ (s : State) (temps : List Int) (m : Int), temps.length = 16 → m ∈ temps → (∀ x ∈ temps, x ≤ m) → exec (.tjSample temps) s =
    .next ((s.puts PWR_TJ.TJ m).put PWR_TJ.SENSOR (temps.findIdx (fun x => decide (x = m)))).setEff) ∧
  (∀ (s : State) (v : Word), exec (.pgvBudgetWrite v) s =
    .next ((s.put PGV_BUDGET.BUDGET (v.toNat % 2 ^ 16)).put PGV_BUDGET.FLOOR (v.toNat / 2 ^ 16 % 2 ^ 16)).setEff) ∧
  (∀ (s : State) (tj : Int), s.setEff.f PGV_STATE.EFF = s.effFor (s.fs PWR_TJ.TJ) % 2 ^ 16 ∧
    s.effFor tj ≤ max 1 (s.f PGV_BUDGET.BUDGET) ∧ min (max 1 (s.f PGV_BUDGET.BUDGET)) (s.f PGV_BUDGET.FLOOR) ≤ s.effFor tj ∧
    (tj ≤ s.fs PGV_THERM.T_START → s.effFor tj = max 1 (s.f PGV_BUDGET.BUDGET)) ∧
    (∀ tj' : Int, tj ≤ tj' → s.effFor tj' ≤ s.effFor tj))) ∧
  (∀ (s : State) w r, s.power.waiting = w :: r → leaveUsed s.power.grants + w.units ≤ s.f PGV_STATE.EFF →
    (∀ e k m, w.who = .marver e k → s.mslot e k = some m → s.runs MRV_CTL.ENABLE = true → Gives (exec .leaveGrant s) (fun t =>
      t.power.waiting = r ∧ t.power.grants = s.power.grants ++ [w] ∧ t.mslot e k = some { m with started := true } ∧
      Keeps s t [.regs, .power, .mslots])) ∧
    (∀ h k, w.who = .pixel → s.runs GLY_CTL.ENABLE = true → s.glory.tile = some h → s.glory.pix = some k →
      (h.empty = true → Gives (exec .leaveGrant s) (fun t => t.glory.tile = none ∧ t.holdsLeave .pixel = false ∧
        t.glory.halves = s.glory.halves ∧ mnat t.glory.tilesIn (s.bandOf k h) = mnat s.glory.tilesIn (s.bandOf k h) + 1 ∧
        Keeps s t [.regs, .power, .glory])) ∧
      (h.empty = false → Gives (exec .leaveGrant s) (fun t => t.power.waiting = r ∧ t.power.grants = s.power.grants ++ [w] ∧
        Keeps s t [.regs, .power]))) ∧
    (∀ g, w.who = .training g → g < 8 → s.laneState (64 + g) = 5 → (∃ l ∈ groupLanes g, s.laneState l = 1) →
      Gives (exec .leaveGrant s) (fun t => (∀ l ∈ groupLanes g, t.laneState l = (if s.laneState l = 1 then 2 else s.laneState l)) ∧
        (∀ l, l < 72 → l ∉ groupLanes g → t.laneState l = s.laneState l) ∧ t.holdsLeave (.training g) = true ∧
        Keeps s t [.regs, .power, .link, .journal, .gaf])) ∧
    (∀ i g, w.who = .sage i → s.slot i = some g → Gives (exec .leaveGrant s) (fun t =>
      (t.slot i).map Ingest.decrypt = some true ∧ (t.slot i).map Ingest.got = some g.got ∧ t.holdsLeave (.sage i) = true ∧
      Keeps s t [.regs, .power, .gather])) ∧
    (∀ k b bs e c, w.who = .parison → s.runs PAR_CTL.ENABLE = true → s.par.stripe = some k → s.par.bands = b :: bs →
      e = s.split k b.half → c = e.bandCols (b.no / max 1 (e.w / 16384)) →
      ∃ g, Keeps s g [.regs, .power, .par] ∧ g.power.waiting = r ∧ g.power.grants = s.power.grants ++ [w] ∧
        g.par = { s.par with burst := min 8 (c.2 - c.1 - s.par.bcol) } ∧ exec .leaveGrant s = .next g.burst))

/-! ## Segments, cells and walks (R36 to R112, R323 to R330) -/

/-- The transport. A packet of no session, of another TOTAL, of a wrong length or received before is dropped and counted; a TOTAL above
128 MiB ends the fetch with FETCH_FAIL. A new packet is placed in its slot at SEQ × 8,192, and every other byte of HBM stays; it is
acknowledged at once when it is the last, with LOST when it uncovers a loss, and after 32 packets, else it stays uncovered, until the
ACK delay sends the ACK. REFUSE moves the session to the next server, or ends it once every server has been tried twice. A timeout
does so at RETRY in a row, and before that sends an ACK with LOST, or the FETCH again where it has had no answer. Nothing comes or
leaves but on a port of role 1 (R322, R323, R325, R329, R330). The model's choices in it: log entries 2, 10 and 26. -/
def Obligations.SegmentTransport : Prop :=
  (∀ s : State, s.storageUp = false → (∀ session seq len total payload, exec (.wstData session seq len total payload) s = .next s) ∧
    ∀ session reason, exec (.wstRefuse session reason) s = .next s) ∧
  (∀ (s : State) session seq len total payload, s.storageUp = true → s.slotOf session = none →
    exec (.wstData session seq len total payload) s = .next ((s.grpTouch 4).count ETH_CNT_DROP.COUNT 1)) ∧
  (∀ (s : State) i g session seq len total payload, s.storageUp = true → s.slotOf session = some i → s.slot i = some g →
    (∀ n, g.total = some n → n ≠ total →
      exec (.wstData session seq len total payload) s = .next ((s.grpTouch 4).count ETH_CNT_DROP.COUNT 1)) ∧
    ((g.total = none ∨ g.total = some total) → 0x08000000 < total → exec (.wstData session seq len total payload) s =
      .next (((s.dropSlot i).unmake g.ctx g.parse.made).jobFault g.ctx 0x1210 false [a16 g.seg, a8 2])) ∧
    ((g.total = none ∨ g.total = some total) → total ≤ 0x08000000 →
      (total ≤ seq * 8192 ∨ len ≠ min 8192 (total - seq * 8192) ∨ payload.length ≠ len) →
      exec (.wstData session seq len total payload) s = .next ((s.grpTouch 4).count ETH_CNT_DROP.COUNT 1)) ∧
    ((g.total = none ∨ g.total = some total) → total ≤ 0x08000000 → seq * 8192 < total → len = min 8192 (total - seq * 8192) →
      payload.length = len → seq ∈ g.got → exec (.wstData session seq len total payload) s =
        .next (((s.grpTouch 4).count ETH_CNT_DROP.COUNT 1).setSlot i (some { g with answered := true })))) ∧
  (∀ (s : State) i g session seq len total payload, s.storageUp = true → s.slotOf session = some i → s.slot i = some g →
    (g.total = none ∨ g.total = some total) → total ≤ 0x08000000 → seq * 8192 < total → len = min 8192 (total - seq * 8192) → payload.length = len → seq ∉ g.got →
    Gives (exec (.wstData session seq len total payload) s) (fun t =>
      (∃ h, t.slot i = some h ∧ h.total = some total ∧ h.got = seq :: g.got ∧ h.timeouts = 0 ∧ h.seg = g.seg ∧ h.ctx = g.ctx) ∧
      rdBytes t.mem.hbm (slotBase i + seq * 8192) len = payload ∧
      (∀ a, a < slotBase i + seq * 8192 ∨ slotBase i + seq * 8192 + len ≤ a → rdByte t.mem.hbm a = rdByte s.mem.hbm a) ∧
      Keeps s t [.regs, .gather, .mem, .power, .out, .ports]) ∧
    ∃ u, Keeps s u [.regs, .mem, .power] ∧
      ∀ h : Ingest, h = { g with total := some total, got := seq :: g.got, answered := true, timeouts := 0 } →
        (h.complete = true → exec (.wstData session seq len total payload) s = .next (u.sendAck i h false true)) ∧
        (h.complete = false → h.newlyLost ≠ [] → exec (.wstData session seq len total payload) s =
          .next (u.sendAck i { h with lossSent := h.newlyLost ++ h.lossSent } true false)) ∧
        (h.complete = false → h.newlyLost = [] → h.lastAck + 32 ≤ h.ackNext →
          exec (.wstData session seq len total payload) s = .next (u.sendAck i h false false)) ∧
        (h.complete = false → h.newlyLost = [] → h.ackNext < h.lastAck + 32 →
          exec (.wstData session seq len total payload) s = .next (u.setSlot i (some { h with uncovered := true })))) ∧
  (∀ (s : State) i g session reason, s.storageUp = true → s.slotOf session = some i → s.slot i = some g → g.complete = false →
    exec (.wstRefuse session reason) s = .next (s.nextServer i g) ∧
    (g.tries < 2 * s.servers → Gives (exec (.wstRefuse session reason) s) (fun t =>
      (∃ h, t.slot i = some h ∧ h.server = (g.server + 1) % s.servers ∧ h.tries = g.tries + 1 ∧ h.start = g.ackNext ∧ h.got = g.got ∧
        h.session = (s.gather.session + 1) % 2 ^ 32) ∧
      t.f ETH_STATUS.RETRY_SEEN = 1 ∧ Keeps s t [.regs, .journal, .gather, .out, .ports])) ∧
    (2 * s.servers ≤ g.tries → exec (.wstRefuse session reason) s =
      .next (((s.dropSlot i).unmake g.ctx g.parse.made).jobFault g.ctx 0x1210 false [a16 g.seg, a8 1]))) ∧
  (∀ (s : State) session reason, s.storageUp = true → s.slotOf session = none →
    exec (.wstRefuse session reason) s = .next ((s.grpTouch 4).count ETH_CNT_DROP.COUNT 1)) ∧
  (∀ (s : State) (i : Fin 16) g, s.slot i = some g →
    (g.uncovered = true → exec (.ackDelayTimeout i) s = .next (s.sendAck i g false false)) ∧
    (g.uncovered = false → exec (.ackDelayTimeout i) s = .next s) ∧
    (g.complete = true → exec (.wstRto i) s = .next s) ∧
    (g.complete = false → max 1 (s.f ETH_WST_TMO.RETRY) ≤ g.timeouts + 1 → exec (.wstRto i) s = .next (s.nextServer i g)) ∧
    (g.complete = false → g.timeouts + 1 < max 1 (s.f ETH_WST_TMO.RETRY) → g.answered = true →
      exec (.wstRto i) s = .next (s.sendAck i { g with timeouts := g.timeouts + 1 } true false)) ∧
    (g.complete = false → g.timeouts + 1 < max 1 (s.f ETH_WST_TMO.RETRY) → g.answered = false → exec (.wstRto i) s =
      .next ((s.setSlot i (some { g with timeouts := g.timeouts + 1 })).fetchOut { g with timeouts := g.timeouts + 1 }))) ∧
  (∀ (s : State) i g lost done, (s.slot i).isSome = true → s.storageOn g.port = false → (s.sendAck i g lost done).out = s.out) ∧
  (∀ (s : State) i g lost done, (s.slot i).isSome = true → s.storageOn g.port = true → s.portHeld g.port = false →
    (s.sendAck i g lost done).slot i = some { g with lastAck := g.ackNext, uncovered := false } ∧
    (s.sendAck i g lost done).out = s.out ++ [.packet g.port (s.wstPacket none (s.nextHop (s.f (ETH_SRV.ADDR g.server)))
      (s.f (ETH_SRV.ADDR g.server)) (wstHeader 3 lost done g.session 0 g.ackNext (BitVec.ofNat 64 (sackBits g.got g.ackNext)) s.wstWindow 0 0))])

/-- Gather fetches, parses and judges segments. The fetch that comes first takes the free slot under a new session, its FETCH leaves, and
the cells of the segment on which walks wait are FETCHING. INSTALL_CELL installs the cell of a legal CELL_BEGIN, or passes over one
that is not installed; a LEN below 7 is CELL_NEST, a second definition DUP_CELL, a word that may not stand outside a cell its own
fault or CELL_NEST, a word behind END STREAM_LEN. A definition that has been inflated is left behind, its cell PENDING, or RESIDENT
after the verdict. SEGREF enters its cell in the directory, or is DUP_CELL, UNDEF_CELL or RESERVED_BITS. END ends the stream; without
a top cell it is UNDEF_CELL. A fault found before the verdict is held. A passing tag releases the segment's cells; a failing one frees
the slot, is counted, and the segment is fetched again, until more than RETRY_MAX in a row halt the job (R43 to R46, R50, R69, R77 to
R79, R89 to R91, R95). The model's choices in it: log entries 2 and 10. -/
def Obligations.SegmentInstall : Prop :=
  (∀ (s : State) i c seg p, s.runs GTH_CTL.ENABLE = true → s.f EVJ_STATUS.SAFE ≠ 1 → s.freeSlot = some i → s.nextFetch = some (c, seg) →
    s.storagePort = some p → i < s.gather.slots.length → s.portHeld p = false → Gives (exec .segmentFetch s) (fun t =>
      (∃ h, t.slot i = some h ∧ h.ctx = c ∧ h.seg = seg ∧ h.port = p ∧ h.server = seg % s.servers ∧ h.got = [] ∧
        h.session = (s.gather.session + 1) % 2 ^ 32) ∧
      t.out = s.out ++ [.packet p (s.wstPacket none (s.nextHop (s.f (ETH_SRV.ADDR (seg % s.servers)))) (s.f (ETH_SRV.ADDR (seg % s.servers)))
        (wstHeader 1 false false ((s.gather.session + 1) % 2 ^ 32) 0 0 0 s.wstWindow 22 0 ++ toLE 16 (s.ctx c).job ++ toLE 2 seg ++
          toLE 4 0))] ∧
      (∀ id e, mget (s.ctx c).cells id = some e → e.seg = seg → e.state = .absent → s.awaited false c id = true →
        (t.cell c id).state = .fetching) ∧
      Keeps s t [.regs, .gather, .out] ∧ KeepsFields s t [GTH_CNT_FETCH.COUNT])) ∧
  (∀ s : State, (s.runs GTH_CTL.ENABLE = false ∨ s.f EVJ_STATUS.SAFE = 1 ∨ s.freeSlot = none ∨ s.nextFetch = none ∨ s.storagePort = none) →
    exec .segmentFetch s = .next s) ∧
  (∀ (s : State) (i : Fin 16) (g : Ingest) (r : Inflated) (p h : Nat), s.slot i = some g → s.inflated i g = r →
    p = skipNops r.out (r.out.length / 4 + 1) g.parse.pos → g.parse.ended = false → g.parse.endAt = none → g.parse.cell = none →
    haveWord r.out p = true → wordAt r.out p = h →
    (∀ id len cold, s.runs GTH_CTL.ENABLE = true → s.nopRefs g p r.out = none → haveWord r.out (p + 1) = true → h = 0x10000000 + id →
      id < 2 ^ 24 → len = wordAt r.out (p + 1) % 2 ^ 24 → 7 ≤ len → (r.fin = .done ∨ (r.fin = .inStop ∧ g.complete = true) →
        p + len ≤ bodyWords r.out) → mget g.parse.defs id = none →
      ((g.seg ≠ 0 ∧ (s.cell g.ctx id).listed = true ∧ (s.cell g.ctx id).seg = g.seg ∧ (s.cell g.ctx id).woff = p ∧
          (s.cell g.ctx id).len = len) ∨
        (g.seg = 0 ∧ (s.cell g.ctx id).listed = false ∧ mget g.parse.refs id = none ∧
          ((s.cell g.ctx id).defined = true → (s.cell g.ctx id).seg = 0))) →
      s.badRefs g.ctx g.seg p (p + 1) r.out = [] →
      (s.installs g.ctx id len = (true, cold) → exec (.installCell i) s =
        .next ((s.install i { g with parse := { g.parse with pos := p } } id p len cold).settle i)) ∧
      (s.installs g.ctx id len = (false, cold) → exec (.installCell i) s =
        .next ((s.setSlot i (some { g with parse := { g.parse with pos := p }.enter id p len false })).settle i))) ∧
    (s.runs GTH_CTL.ENABLE = true → s.nopRefs g p r.out = none → haveWord r.out (p + 1) = true → h / 2 ^ 24 = 0x10 →
      wordAt r.out (p + 1) % 2 ^ 24 < 7 → exec (.installCell i) s =
        .next ((s.parseFault i { g with parse := { g.parse with pos := p } } 0x0744 p h).settle i)) ∧
    (s.runs GTH_CTL.ENABLE = true → s.nopRefs g p r.out = none → haveWord r.out (p + 1) = true → h / 2 ^ 24 = 0x10 →
      7 ≤ wordAt r.out (p + 1) % 2 ^ 24 → r.fin ≠ .done → (r.fin = .inStop → g.complete = false) →
      (mget g.parse.defs (h % 2 ^ 24)).isSome = true → exec (.installCell i) s =
        .next ((s.parseFault i { g with parse := { g.parse with pos := p } } 0x0745 p h).settle i)) ∧
    (s.runs GTH_CTL.ENABLE = true → s.nopRefs g p r.out = none → haveWord r.out (p + headWords h - 1) = true → h / 2 ^ 24 ≠ 0x10 →
      h / 2 ^ 24 ≠ 0xFF → (h / 2 ^ 24 ≠ 0x50 ∨ g.seg ≠ 0 ∨ g.parse.begun = true) → exec (.installCell i) s =
        .next ((s.parseFault i { g with parse := { g.parse with pos := p } }
          ((wordFault h (fun n => wordAt r.out (p + n))).getD 0x0744) p h).settle i)) ∧
    (∀ id, h = 0x50000000 + id → id < 2 ^ 24 → haveWord r.out (p + 3) = true → g.seg = 0 → g.parse.begun = false →
      (2 ^ 16 ≤ wordAt r.out (p + 1) → exec (.fcSegref i) s =
        .next ((s.parseFault i { g with parse := { g.parse with pos := p } } 0x0741 p h).settle i)) ∧
      (wordAt r.out (p + 1) < 2 ^ 16 → wordAt r.out (p + 2) < 2 ^ 24 → wordAt r.out (p + 3) < 2 ^ 24 →
        (id = 0 ∨ (mget g.parse.refs id).isSome = true → exec (.fcSegref i) s =
          .next ((s.parseFault i { g with parse := { g.parse with pos := p } } 0x0745 p h).settle i)) ∧
        (id ≠ 0 → mget g.parse.refs id = none → wordAt r.out (p + 1) = 0 → exec (.fcSegref i) s =
          .next ((s.parseFault i { g with parse := { g.parse with pos := p } } 0x0746 p h).settle i)) ∧
        (id ≠ 0 → mget g.parse.refs id = none → wordAt r.out (p + 1) ≠ 0 → exec (.fcSegref i) s =
          .next ((s.setSlot i (some { g with parse := { g.parse with
            pos := p + 4, refs := mset g.parse.refs id (wordAt r.out (p + 1), wordAt r.out (p + 2), wordAt r.out (p + 3)) } })).settle
              i)))) ∧
    (h = 0xFF000000 → haveWord r.out (p + 1) = false → s.endChecks g r p = none → exec (.fcEnd i) s =
        .next ((s.setSlot i (some { g with parse := { g.parse with pos := p + 1, ended := true, endAt := some (p + 1) } })).settle i)) ∧
    (h = 0xFF000000 → g.seg = 0 → g.parse.top = false → exec (.fcEnd i) s = .next ((s.parseFault i g 0x0746 p 0xFF000000).settle i)) ∧
    (h / 2 ^ 24 = 0xFF → h ≠ 0xFF000000 → exec (.fcEnd i) s = .next ((s.parseFault i g 0x0741 p h).settle i))) ∧
  (∀ (s : State) (i : Fin 16) (g : Ingest) q, s.slot i = some g → s.runs GTH_CTL.ENABLE = true → g.parse.cell = none → g.parse.endAt = some q →
    haveWord (s.inflated i g).out q = true → exec (.installCell i) s =
      .next ((s.parseFault i g 0x074B q (wordAt (s.inflated i g).out q)).settle i)) ∧
  (∀ (s : State) (i : Fin 16) g code w h, s.slot i = some g → g.verdict = none →
    s.settle i = s ∧ (g.held = none → (s.parseFault i g code w h).slot i = some { g with
      parse := { g.parse with ended := true, endAt := none }, held := some { code := code, seg := g.seg, woff := w, hdr := h } })) ∧
  (∀ (s : State) (i : Fin 16) g id woff len p l, s.slot i = some g → g.ctx < s.gather.ctxs.length →
    takeBlock s.gather.free (orderFor len) = some (p, l) → ∀ t, t = s.install i g id woff len false →
      (t.cell g.ctx id).state = .fetching ∧ (t.cell g.ctx id).block = some (p, orderFor len) ∧ t.gather.free = l ∧
      t.slot i = some { g with stopped := false, parse := g.parse.enter id woff len true }) ∧
  (∀ (s : State) (i : Fin 16) g, s.slot i = some g →
    (g.stopped = true → g.parse.ended = false → exec (.spaceResume i) s =
      .next ((s.install i g (wordAt (s.inflated i g).out g.parse.pos % 2 ^ 24) g.parse.pos
        (wordAt (s.inflated i g).out (g.parse.pos + 1) % 2 ^ 24) false).settle i)) ∧
    (g.stopped = false → exec (.spaceResume i) s = .next s) ∧
    (∀ o, g.parse.cell = some o → haveWord (s.inflated i g).out (o.woff + o.len - 1) = false → exec (.cellInflated i) s = .next s) ∧
    (∀ o, g.parse.cell = some o → haveWord (s.inflated i g).out (o.woff + o.len - 1) = true →
      (g.seg = 0 ∨ s.badRefs g.ctx g.seg (o.woff + 1) (o.woff + o.len) (s.inflated i g).out = []) →
      (o.inst = false → exec (.cellInflated i) s =
        .next ((s.setSlot i (some { g with parse := { g.parse with pos := o.woff + o.len, cell := none } })).settle i)) ∧
      (∀ p k, o.inst = true → (s.cell g.ctx o.id).block = some (p, k) → exec (.cellInflated i) s =
        .next ((((s.putCell p o.woff o.len (s.inflated i g).out).modCell g.ctx o.id (fun e => { e with
          state := if g.verdict = some true then .resident else .pending })).setSlot i
            (some { g with parse := { g.parse with pos := o.woff + o.len, cell := none } })).settle i))) ∧
    (g.complete = true → g.decrypt = true → g.verdict = none → g.held = none → s.segmentOk i g = true → exec (.tagVerdict i) s =
      .next (((((((s.giveLeave (.sage i)).noteRead (slotBase i) (g.total.getD 0)).setSlot i (some { g with
        verdict := some true, held := none })).modCtx g.ctx (fun x => { x with segFails := mdel x.segFails g.seg })).commitParse g).release g.ctx g.parse.made).settle i)) ∧
    (g.complete = true → g.decrypt = true → g.verdict = none → s.segmentOk i g = false →
      mnat (s.ctx g.ctx).segFails g.seg + 1 ≤ max 1 (s.f GTH_CTL.RETRY_MAX) → g.ctx < s.gather.ctxs.length →
      Gives (exec (.tagVerdict i) s) (fun t =>
        t.f SAG_STATUS.TAG_SEEN = 1 ∧ t.f GTH_STATUS.SEG_RETRY = 1 ∧ t.slot i = none ∧
        mnat (t.ctx g.ctx).segFails g.seg = mnat (s.ctx g.ctx).segFails g.seg + 1)) ∧
    (g.complete = true → g.decrypt = true → g.verdict = none → s.segmentOk i g = false →
      max 1 (s.f GTH_CTL.RETRY_MAX) < mnat (s.ctx g.ctx).segFails g.seg + 1 → g.ctx < s.gather.ctxs.length → s.ctxOpen g.ctx = true →
      (s.ctx g.ctx).halt = none → Gives (exec (.tagVerdict i) s) (fun t => (t.ctx g.ctx).halt = some 0x0611 ∧ g.seg ∈ (t.ctx g.ctx).segDead)))

/-- The cell cache: a block is the smallest that holds its cell; pins are set and taken away; a context closes once the stripe that
JOB_END named is DONE, with its cells, its key and its OPEN bit cleared; a write of GTH_CTL with ENABLE = 0 over closed contexts frees
the whole pool, and over an open one only sets the fields (R87, R88, R93, R94). The dispatcher starts a walk in a free context of an
enabled engine: the next raster walk where it is due and a Marver slot takes its tile, else the next density walk; a started walk
stands at the top cell of its tile. A waiting context is ready once its cell is RESIDENT, or once a queue block is free. A page that
matches its check word is read, one that does not is a page failure, and a context whose cell is no longer RESIDENT waits for it; a
walk executes the words that it has read and verified, and after a page failure every walk in the cell reads its pages again (R20,
R91, R92, R96, R99, R100, R107). The model's choices in it: log entries 2, 10 and 11. -/
def Obligations.CacheAndWalks : Prop :=
  ((∀ len, len ≤ 2 ^ 24 → len ≤ 2 ^ orderFor len * 64 ∧ ∀ j, j < orderFor len → 2 ^ j * 64 < len) ∧
  (∀ (s : State) (v : Word), s.gather.ctxs.length = 2 →
    (v.toNat / 2 ^ 31 % 2 = 1 → Gives (exec (.pinSet v) s) (fun t =>
      (t.cell (v.toNat / 2 ^ 24 % 2) (v.toNat % 2 ^ 24)).perm = true ∧ Keeps s t [.gather])) ∧
    (v.toNat / 2 ^ 31 % 2 = 0 → Gives (exec (.pinClear v) s) (fun t =>
      (t.cell (v.toNat / 2 ^ 24 % 2) (v.toNat % 2 ^ 24)).perm = false ∧ Keeps s t [.gather]))) ∧
  (∀ (s : State) (c : Fin 2) n d, (s.ctx c).endAfter = some n → (s.ctx c).lastDone = some d → s.ctxOpen c = true → (s.ctx c).halt = none →
    (n ≤ d → exec (.contextClose c) s = .next (s.closeCtx c)) ∧ (d < n → exec (.contextClose c) s = .next s)) ∧
  (∀ (s : State) (c : Fin 2), s.gather.ctxs.length = 2 → s.sage.jobKeys.length = 2 →
    (s.closeCtx c).f (GTH_CTX_CFG.OPEN c) = 0 ∧ (s.closeCtx c).ctx c = JobCtx.empty ∧ (s.closeCtx c).sage.jobKeys[c.val]? = some none) ∧
  (∀ (s : State) (v : Word), v.toNat % 2 = 0 → s.ctxOpen 0 = false → s.ctxOpen 1 = false → Gives (exec (.gatherDisable v) s) (fun t =>
    t.f GTH_CTL.ENABLE = 0 ∧ t.gather.withheld = [] ∧ t.gather.free = poolBlocks (s.f GTH_POOL_PAGES.PAGES) ∧
    Keeps s t [.regs, .gather])) ∧
  (∀ (s : State) (v : Word), v.toNat % 2 = 0 → (s.ctxOpen 0 = true ∨ s.ctxOpen 1 = true) → Gives (exec (.gatherDisable v) s) (fun t =>
    t.f GTH_CTL.ENABLE = 0 ∧ t.f GTH_CTL.SLOTS = v.toNat / 2 % 16 ∧ t.f GTH_CTL.RETRY_MAX = v.toNat / 2 ^ 8 % 16 ∧ Keeps s t [.regs]))) ∧
  ((∀ (s : State) (w : Fin 32), s.runs BLP_CTL.ENABLE = true → bit (s.f BLP_CTL.ENGINE_EN) (w / 4) = true → s.walk w = none →
    (∀ r e k, s.rasterSweep = some r → s.rasterDue r = true → s.assign = some (e, k) →
      exec (.walkStart w) s = .next (s.startRaster w r e k)) ∧
    (∀ d, (s.rasterSweep = none ∨ (∃ r, s.rasterSweep = some r ∧ s.rasterDue r = false) ∨ s.assign = none) → s.densitySweep = some d →
      exec (.walkStart w) s = .next (s.startDensity w d)) ∧
    ((s.rasterSweep = none ∨ s.assign = none) → s.densitySweep = none → exec (.walkStart w) s = .next s)) ∧
  (∀ (s : State) (w : Fin 32) v, s.blow.walks.length = 32 → (s.cell v.stripe.ctx 0).state = .resident →
    (∃ t, (s.startDensity w v).walk w = some t ∧ t.density = true ∧ t.stack = [topLevel] ∧ t.state = .ready ∧ t.stripe = v.stripe.num ∧
      t.tcol = ((v.dStarted / s.densityRows v.stripe : Nat) : Int) - (s.margin v.stripe : Int) ∧
      t.trow = ((v.dStarted % s.densityRows v.stripe : Nat) : Int) - (s.margin v.stripe : Int)) ∧
    (∀ e k, ∃ t, (s.startRaster w v e k).walk w = some t ∧ t.density = false ∧ t.stack = [topLevel] ∧ t.state = .ready ∧
      t.stripe = v.stripe.num ∧ t.tcol = ((v.rStarted / s.rows v.stripe : Nat) : Int) ∧
      t.trow = ((v.rStarted % s.rows v.stripe : Nat) : Int) ∧ t.eng = e ∧ t.slot = k)) ∧
  (∀ (s : State) (w : Fin 32) t, s.walk w = some t →
    (∀ id, t.state = .waitCell → t.want = some id → (s.cell t.ctx id).state = .resident →
      exec (.walkResume w) s = .next (s.setWalk w (some { t with state := .ready, want := none }))) ∧
    (∀ id, t.state = .waitCell → t.want = some id → (s.cell t.ctx id).state ≠ .resident → (s.ctx t.ctx).seg0Done = false →
      exec (.walkResume w) s = .next s) ∧
    (t.state = .waitQueue → s.blocksUsed < 2730 →
      exec (.walkResume w) s = .next (s.setWalk w (some { t with state := .ready, want := none }))) ∧
    exec (.walkStart w) s = .next s) ∧
  (∀ (s : State) (w : Fin 32) t l r, s.walk w = some t → t.stack = l :: r → t.state = .ready →
    ((s.cell t.ctx l.cell).state ≠ .resident → exec (.pageRead w) s = .next (s.waitFor w t l.cell)) ∧
    (∀ p, (s.cell t.ctx l.cell).state = .resident → s.pageNeeded t = some p →
      (s.pageOk t.ctx l.cell p = true → exec (.pageRead w) s =
        .next ((s.setWalk w (some { t with pages := mset t.pages p ((List.range 64).map (fun i => s.cellWord t.ctx l.cell (64 * p + i))) })).pageGood
          t.ctx l.cell p)) ∧
      (s.pageOk t.ctx l.cell p = false → exec (.pageRead w) s = .next ((s.waitFor w t l.cell).pageFail t.ctx l.cell p)))) ∧
  (∀ (t : Walk) (p i : Nat) (l : List Nat), i < 64 → Walk.word { t with pages := mset t.pages p l } (64 * p + i) = l.getD i 0) ∧
  (∀ (s : State) (w : Fin 32) c id p k n v t l r, (s.cell c id).block = some (p, k) → (s.pageFail c id n).walk w = some v → s.walk w = some t →
    t.ctx = c → t.stack = l :: r → l.cell = id → v.pages = []))

/-- The instructions of figure code outside placements and figures: NOP, CELL_BEGIN, DOSE and CELL_END change the walk context alone; the
CELL_END of the top cell ends the walk. An illegal opcode, a reserved bit, an instruction before CELL_BEGIN and one that runs to the
last word of its definition end the walk with their faults (R38, R39, R45, R49 to R51, R59, R71, R74). CALL of a RESIDENT cell whose
instance lies in range and in the caller's box enters it where its box meets the tile, and is culled and counted where it does not;
ARRAY in the same way enters the instances that meet the tile in turn. Outside the range it is COORD_RANGE, outside the box
BBOX_VIOLATION, at 32 levels STACK_DEPTH, of a cell that is not defined UNDEF_CELL; the context waits for a cell that is not RESIDENT,
and a bad first page is a page failure (R41, R46, R47, R51, R56, R57, R92, R101, R102). The model's choices in it: log entries 2 and
10. -/
def Obligations.FigureCode : Prop :=
  ((∀ (s : State) (w : Fin 32) t l h,
    (AtInstr s w t l h 1 → h = 0x01000000 → l.box.isSome = true → exec (.fcNop w) s = .next (s.setWalk w (some (t.advance 1)))) ∧
    (AtInstr s w t l h 6 → h = 0x10000000 + l.cell → l.cell < 2 ^ 24 → l.woff = 0 → t.arg l 2 ≤ t.arg l 4 →
      t.arg l 3 ≤ t.arg l 5 → exec (.fcCellBegin w) s = .next (s.setWalk w (some ((t.advance 6).modTop (fun l' => { l' with
        box := some (t.arg l 2, t.arg l 3, t.arg l 4, t.arg l 5) }))))) ∧
    (AtInstr s w t l h 6 → h = 0x10000000 + l.cell → l.cell < 2 ^ 24 → (t.arg l 4 < t.arg l 2 ∨ t.arg l 5 < t.arg l 3) →
      exec (.fcCellBegin w) s = .next (s.walkFault w t l 0x0743)) ∧
    (∀ c, AtInstr s w t l h 1 → h = 0x40000000 + c → c < 256 → l.box.isSome = true →
      exec (.fcDose w) s = .next (s.setWalk w (some ((t.advance 1).modTop (fun l' => { l' with cls := c }))))) ∧
    (AtWord s w t l h → h = 0x11000000 + l.cell → l.cell < 2 ^ 24 → l.box.isSome = true → l.woff + 1 = (s.cell t.ctx l.cell).len →
      (∀ c r, t.stack = l :: c :: r → exec (.fcCellEnd w) s = .next (s.nextInstance w { t with stack := c :: r })) ∧
      (t.stack = [l] → exec (.fcCellEnd w) s = .next (s.endWalk w t))) ∧
    (AtInstr s w t l h 1 → h = 0x01000000 → l.box = none → exec (.fcNop w) s = .next (s.walkFault w t l 0x0744)) ∧
    (AtWord s w t l h → h = 0x01000000 → l.woff + 1 = (s.cell t.ctx l.cell).len → exec (.fcNop w) s = .next (s.walkFault w t l 0x0744)) ∧
    (AtWord s w t l h → instrWords h = none → exec (.fcNop w) s = .next (s.walkFault w t l 0x0740)) ∧
    (∀ n, AtWord s w t l h → instrWords h = some n → l.woff + n ≤ (s.cell t.ctx l.cell).len →
      reservedSet h (fun k => t.word (l.woff + k)) = true → exec (.fcNop w) s = .next (s.walkFault w t l 0x0741)))) ∧
  (∀ (s u : State) (w : Fin 32) t l h id,
    (AtInstr s w t l h 4 → h = 0x20000000 + id → id < 2 ^ 24 → l.box.isSome = true →
      ((id = 0 ∨ (s.known t.ctx id = false ∧ (s.ctx t.ctx).seg0Done = true)) → exec (.fcCall w) s = .next (s.walkFault w t l 0x0746)) ∧
      (0 < id → s.known t.ctx id = true → 32 ≤ t.stack.length → exec (.fcCall w) s = .next (s.walkFault w t l 0x0747)) ∧
      (0 < id → s.known t.ctx id = true → t.stack.length < 32 → (s.cell t.ctx id).state ≠ .resident →
        exec (.fcCall w) s = .next (s.waitFor w t id)) ∧
      (0 < id → s.known t.ctx id = true → t.stack.length < 32 → (s.cell t.ctx id).state = .resident → s.pageOk t.ctx id 0 = false →
        exec (.fcCall w) s = .next ((s.waitFor w t id).pageFail t.ctx id 0)) ∧
      (∀ oc, 0 < id → s.known t.ctx id = true → t.stack.length < 32 → (s.cell t.ctx id).state = .resident → s.pageOk t.ctx id 0 = true →
        u = s.pageGood t.ctx id 0 → oc = t.word (l.woff + 1) →
        (placeInRange l oc (t.arg l 2, t.arg l 3) (s.cellBox t.ctx id) = false →
          exec (.fcCall w) s = .next (u.walkFault w t l 0x0748)) ∧
        (placeInRange l oc (t.arg l 2, t.arg l 3) (s.cellBox t.ctx id) = true →
          (placeInBox l oc (t.arg l 2, t.arg l 3) (s.cellBox t.ctx id) = false →
            exec (.fcCall w) s = .next (u.walkFault w t l 0x0749)) ∧
          (placeInBox l oc (t.arg l 2, t.arg l 3) (s.cellBox t.ctx id) = true →
            (placeMeets t l oc (t.arg l 2, t.arg l 3) (s.cellBox t.ctx id) = true →
              exec (.fcCall w) s = .next (u.enter w (t.advance 4) (childLevel l id oc (t.arg l 2, t.arg l 3)))) ∧
            (placeMeets t l oc (t.arg l 2, t.arg l 3) (s.cellBox t.ctx id) = false →
              exec (.fcCall w) s = .next ((u.setWalk w (some (t.advance 4))).count BLP_CNT_CULL.COUNT 1)))))) ∧
    (∀ (nx ny : Nat) (a : ArrayIter) (hits : List (Nat × Nat)), AtInstr s w t l h 9 → l.box.isSome = true → h = 0x21000000 + id →
      0 < id → id < 2 ^ 24 → s.known t.ctx id = true → t.stack.length < 32 → (s.cell t.ctx id).state = .resident →
      s.pageOk t.ctx id 0 = true → u = s.pageGood t.ctx id 0 → 0 < nx → 0 < ny → nx < 65536 →
      t.word (l.woff + 2) = nx + 65536 * ny →
      a = { cell := id, orient := t.word (l.woff + 1), dx := t.arg l 3, dy := t.arg l 4, ax := t.arg l 5,
            ay := t.arg l 6, bx := t.arg l 7, byy := t.arg l 8, todo := [] } →
      (∀ i j, i < nx → j < ny → placeInRange l a.orient (a.offset i j) (s.cellBox t.ctx id) = true ∧
        placeInBox l a.orient (a.offset i j) (s.cellBox t.ctx id) = true) →
      hits = arrayHits t l a (s.cellBox t.ctx id) nx ny → exec (.fcArray w) s =
        .next ((u.count BLP_CNT_CULL.COUNT (nx * ny - hits.length)).nextInstance w
          ((t.advance 9).modTop (fun l' => { l' with arr := some { a with todo := hits } })))))

/-- A figure whose vertices are ordered, in range and in its cell's box, and that is not degenerate, is emitted as its trapezoids; a RECT
or trapezoid out of order is BAD_ORDER, one out of range COORD_RANGE, one outside its cell's box BBOX_VIOLATION; a polygon of fewer
than 3 or more than 64 vertices is BAD_COUNT, one that crosses itself POLY_SELF_X; a degenerate figure emits nothing (R41, R51, R62 to
R68, R103). The model's choices in it: log entry 2. -/
def Obligations.Figures : Prop :=
  ∀ (s : State) (w : Fin 32) t l h, l.box.isSome = true →
    (∀ x0 y0 x1 y1, AtInstr s w t l h 5 → h = 0x30000000 → t.arg l 1 = x0 → t.arg l 2 = y0 → t.arg l 3 = x1 → t.arg l 4 = y1 →
      (x0 < x1 → y0 < y1 → l.takes [(x0, y0), (x1, y0), (x0, y1), (x1, y1)] → exec (.fcRect w) s =
        .next (s.emitTraps w t l 5 [makeTrap 0 (0, 0) false ((Box.mk x0 y0 x1 y1).move l.orient (l.dx, l.dy)).y0
          ((Box.mk x0 y0 x1 y1).move l.orient (l.dx, l.dy)).y1 ((Box.mk x0 y0 x1 y1).move l.orient (l.dx, l.dy)).x0
          ((Box.mk x0 y0 x1 y1).move l.orient (l.dx, l.dy)).x1 ((Box.mk x0 y0 x1 y1).move l.orient (l.dx, l.dy)).x0
          ((Box.mk x0 y0 x1 y1).move l.orient (l.dx, l.dy)).x1])) ∧
      (x1 < x0 ∨ y1 < y0 → exec (.fcRect w) s = .next (s.walkFault w t l 0x0743)) ∧
      (x0 ≤ x1 → y0 ≤ y1 → ptInRange (place l.orient (l.dx, l.dy) (x0, y0)) = false →
        exec (.fcRect w) s = .next (s.walkFault w t l 0x0748)) ∧
      (x0 ≤ x1 → y0 ≤ y1 → (∀ p ∈ [(x0, y0), (x1, y0), (x0, y1), (x1, y1)], ptInRange (place l.orient (l.dx, l.dy) p) = true) →
        l.boxOf.holds (x0, y0) = false → exec (.fcRect w) s = .next (s.walkFault w t l 0x0749)) ∧
      (x0 = x1 → y0 ≤ y1 → l.takes [(x0, y0), (x1, y0), (x0, y1), (x1, y1)] → exec (.fcRect w) s = .next (s.degenerate w t 5))) ∧
    (∀ y0 y1 bl br tl tr, AtInstr s w t l h 7 → h = 0x31000000 → t.arg l 1 = y0 → t.arg l 2 = y1 → t.arg l 3 = bl →
      t.arg l 4 = br → t.arg l 5 = tl → t.arg l 6 = tr →
      (y0 < y1 → bl ≤ br → tl ≤ tr → (bl < br ∨ tl < tr) → l.takes [(bl, y0), (br, y0), (tl, y1), (tr, y1)] →
        exec (.fcXtrap w) s = .next (s.emitTraps w t l 7 [makeTrap l.orient (l.dx, l.dy) false y0 y1 bl br tl tr])) ∧
      (y1 < y0 ∨ br < bl ∨ tr < tl → exec (.fcXtrap w) s = .next (s.walkFault w t l 0x0743))) ∧
    (∀ x0 x1 lb lt rb rt, AtInstr s w t l h 7 → h = 0x32000000 → t.arg l 1 = x0 → t.arg l 2 = x1 → t.arg l 3 = lb →
      t.arg l 4 = lt → t.arg l 5 = rb → t.arg l 6 = rt →
      (x0 < x1 → lb ≤ lt → rb ≤ rt → (lb < lt ∨ rb < rt) → l.takes [(x0, lb), (x0, lt), (x1, rb), (x1, rt)] →
        exec (.fcYtrap w) s = .next (s.emitTraps w t l 7 [makeTrap l.orient (l.dx, l.dy) true x0 x1 lb lt rb rt])) ∧
      (x1 < x0 ∨ lt < lb ∨ rt < rb → exec (.fcYtrap w) s = .next (s.walkFault w t l 0x0743))) ∧
    (∀ n pts, AtInstr s w t l h (1 + 2 * n) → h = 0x33000000 + n → 3 ≤ n → n ≤ 64 →
      pts = (List.range n).map (fun i => (t.arg l (1 + 2 * i), t.arg l (2 + 2 * i))) → l.takes pts → collinear pts = false →
      (isSimple (distinct (pts.map (place l.orient (l.dx, l.dy)))) = true → exec (.fcPoly w) s =
        .next (s.emitTraps w t l (1 + 2 * n) (decompose (distinct (pts.map (place l.orient (l.dx, l.dy))))))) ∧
      (isSimple (distinct (pts.map (place l.orient (l.dx, l.dy)))) = false → exec (.fcPoly w) s = .next (s.walkFault w t l 0x074A))) ∧
    (∀ n, AtWord s w t l h → h = 0x33000000 + n → n < 256 → (n < 3 ∨ 64 < n) → exec (.fcPoly w) s = .next (s.walkFault w t l 0x0742))

/-! ## Decompressor lanes, Marver, Glory (R80 to R85, R113 to R147) -/

/-- START of an idle software lane over permitted buffers runs it with fresh counts, over a buffer that no host path reaches it stops with
REGION; RESUME of an out-stopped task takes the new output buffer; ABORT of a software task leaves it idle; an OWNER written while no
task runs is taken at once, while one runs it waits; a running software task that ends shows how far it came and why it stopped, and
Gather's task ends by its own rule (R81 to R85). The model's choices in it: log entries 2, 13 and 36. -/
def Obligations.Lanes : Prop :=
  (∀ (s : State) (n : Fin 4) (v : Word), s.lanes.length = 4 → s.laneWaiters = [] →
    (v.toNat % 32 = 5 → s.f (DCP_CTL.OWNER n) = 1 → s.laneOpen n = true →
      (s.badBuffer (s.f (DCP_IN_ADDR.ADDR n)) (s.f (DCP_IN_LEN.LEN n)) = false →
        s.badBuffer (s.f (DCP_OUT_ADDR.ADDR n)) (s.f (DCP_OUT_LEN.LEN n)) = false → Gives (exec (.dcpStart n v) s) (fun t =>
          t.f (DCP_STATUS.STATE n) = 1 ∧ t.f (DCP_IN_CONSUMED.COUNT n) = 0 ∧ t.f (DCP_OUT_PRODUCED.COUNT n) = 0 ∧
          (t.lane n).input = s.hbmRead (s.f (DCP_IN_ADDR.ADDR n) % 2 ^ 36) (s.f (DCP_IN_LEN.LEN n)) ∧ (t.lane n).written = 0 ∧
          t.f (DCP_STATUS.IN_BITS n) = 0 ∧ Keeps s t [.regs, .lanes, .mem, .journal])) ∧
      (s.badBuffer (s.f (DCP_IN_ADDR.ADDR n)) (s.f (DCP_IN_LEN.LEN n)) = true → Gives (exec (.dcpStart n v) s) (fun t =>
        t.f (DCP_STATUS.STATE n) = 5 ∧ t.f (DCP_STATUS.ERR n) = 10 ∧ Keeps s t [.regs, .lanes]))) ∧
    (v.toNat % 32 = 9 → s.f (DCP_CTL.OWNER n) = 1 → s.f (DCP_STATUS.STATE n) = 2 →
      s.badBuffer (s.f (DCP_OUT_ADDR.ADDR n)) (s.f (DCP_OUT_LEN.LEN n)) = false → Gives (exec (.dcpResume n v) s) (fun t =>
        t.f (DCP_STATUS.STATE n) = 1 ∧ (t.lane n).before = (s.lane n).written ∧
        (t.lane n).outAddr = s.f (DCP_OUT_ADDR.ADDR n) % 2 ^ 36 ∧ (t.lane n).outLen = s.f (DCP_OUT_LEN.LEN n) ∧
        Keeps s t [.regs, .lanes])) ∧
    (v.toNat % 32 = 17 → s.f (DCP_CTL.OWNER n) = 1 → Gives (exec (.dcpAbort n v) s) (fun t =>
      t.f (DCP_STATUS.STATE n) = 0 ∧ t.f (DCP_STATUS.ERR n) = 0 ∧ Keeps s t [.regs, .lanes])) ∧
    (v.toNat / 4 % 8 = 0 → s.laneOpen n = true → Gives (exec (.dcpOwnerWrite n v) s) (fun t =>
      t.f (DCP_CTL.OWNER n) = v.toNat % 2 ∧ t.f (DCP_CTL.ZLIB n) = v.toNat / 2 % 2 ∧ (t.lane n).nextOwner = none ∧
      Keeps s t [.regs, .lanes])) ∧
    (v.toNat / 4 % 8 = 0 → s.laneOpen n = false → Gives (exec (.dcpOwnerWrite n v) s) (fun t =>
      t.f (DCP_CTL.OWNER n) = s.f (DCP_CTL.OWNER n) ∧ (t.lane n).nextOwner = some (v.toNat % 2) ∧ Keeps s t [.regs, .lanes])) ∧
    (s.f (DCP_STATUS.STATE n) = 1 → s.f (DCP_CTL.OWNER n) = 1 →
      ∀ r, r = inflate (s.lane n).zlib (s.lane n).input (s.lane n).limit ((s.lane n).before + (s.lane n).outLen) →
      Gives (exec (.dcpTaskEnd n) s) (fun t =>
        t.f (DCP_IN_CONSUMED.COUNT n) = r.used % 2 ^ (DCP_IN_CONSUMED.COUNT n).w ∧
        t.f (DCP_OUT_PRODUCED.COUNT n) = r.out.length % 2 ^ (DCP_OUT_PRODUCED.COUNT n).w ∧ (t.lane n).written = r.out.length ∧
        t.f (DCP_STATUS.IN_BITS n) = r.bits % 2 ^ (DCP_STATUS.IN_BITS n).w ∧
        (r.fin = .done → t.f (DCP_STATUS.STATE n) = 4) ∧ (r.fin = .outStop → t.f (DCP_STATUS.STATE n) = 2) ∧
        (r.fin = .inStop → t.f (DCP_STATUS.STATE n) = 3) ∧
        (∀ c, r.fin = .err c → t.f (DCP_STATUS.STATE n) = 5 ∧ t.f (DCP_STATUS.ERR n) = c % 2 ^ (DCP_STATUS.ERR n).w) ∧
        Keeps s t [.regs, .lanes, .mem]))) ∧
  (∀ (s : State) (n : Fin 4) i g, s.f (DCP_STATUS.STATE n) = 1 → s.f (DCP_CTL.OWNER n) = 0 → s.slotOfLane n = some i → s.slot i = some g →
    exec (.dcpTaskEnd n) s = .next (s.endGather n i g)) ∧
  (∀ (s : State) (n : Fin 4), s.f (DCP_STATUS.STATE n) ≠ 1 → exec (.dcpTaskEnd n) s = .next s)

/-- A record that passes the checks of R123 adds the areas of its pixels to its tile; one that meets a fifth class in a pixel discards the
tile with CLASS_OVERFLOW, and one that fails is RECORD_FORMAT and the tile is discarded; a record of a discarded tile is only
consumed; a tile that is discarded and gets no more records, or drained, frees its slot and returns its leave. A pixel word holds the
classes whose coverage, the sum × 4,095 rounded and at most 4,095, is not 0, with CLAMPED and OVER where they apply (R114 to R126).
The model's choices in it: log entries 2, 18 and 48. -/
def Obligations.Rasteriser : Prop :=
  (∀ (s : State) (e : Fin 32) k m r rest, s.rasterSlot e = some k → s.mslot e k = some m → m.queue = r :: rest →
    (m.discard = true → exec (.recordConsume e) s =
      .next (({ s with current := s.current.set e k }).setMslot e k (some { m with queue := rest, consumed := m.consumed + 1, started := true }))) ∧
    (m.discard = false → r.ok = true → (bands r m.acc).full = none → exec (.recordConsume e) s =
      .next (((((({ s with current := s.current.set e k }).grpTouch 11).count MRV_CNT_EDGE.COUNT (bands r m.acc).edge).count
        MRV_CNT_FILL.COUNT (bands r m.acc).fill).setMslot e k (some { m with
          queue := rest, consumed := m.consumed + 1, started := true, acc := (bands r m.acc).acc })).completeTile e k)) ∧
    (∀ w, m.discard = false → r.ok = true → (bands r m.acc).full = some w → exec (.recordConsume e) s =
      .next (((((({ s with current := s.current.set e k }).grpTouch 11).count MRV_CNT_EDGE.COUNT (bands r m.acc).edge).count
        MRV_CNT_FILL.COUNT (bands r m.acc).fill).setMslot e k (some { m with
          queue := rest, consumed := m.consumed + 1, started := true, discard := true, acc := [] })).classOverflow m w r.cls)) ∧
    (m.discard = false → r.ok = false → exec (.recordConsume e) s =
      .next ((({ s with current := s.current.set e k }).setMslot e k (some { m with
        queue := rest, consumed := m.consumed + 1, started := true, discard := true })).fatal 0x0818 false
        [a8 e, a32 m.seq, a16 m.trow, a32 m.consumed]))) ∧
  (∀ (s : State) (e : Fin 32), s.rasterSlot e = none → exec (.recordConsume e) s = .next s) ∧
  (∀ (s : State) (e : Fin 32) (k : Fin 2) m, s.mslot e k = some m →
    (m.discard = true → (∀ v ∈ s.blow.walks, ∀ t ∈ v, t.density = false → ¬(t.eng = e ∧ t.slot = k)) →
      Gives (exec (.discardEnd e k) s) (fun t => t.mslot e k = none ∧ t.holdsLeave (.marver e k) = false ∧
        Keeps s t [.regs, .mslots, .power])) ∧
    (∀ t, some t ∈ s.blow.walks → t.density = false → t.eng = e → t.slot = k → exec (.discardEnd e k) s = .next s) ∧
    (m.discard = false → exec (.discardEnd e k) s = .next s) ∧
    (m.draining = true → m.word = 65536 → exec (.drainEnd e k) s =
      .next ((((s.setMslot e k none).giveLeave (.marver e k)).count MRV_CNT_TILE.COUNT 1).tileDone (m.ctx * 2 ^ 32 + m.stripe) m.tcol)) ∧
    (m.word ≠ 65536 → exec (.drainEnd e k) s = .next s)) ∧
  (∀ (th : Nat) (l : List (Nat × Nat)), l.length ≤ 4 → (∀ x ∈ l, x.1 < 256) →
    pixelWord th l < 2 ^ 128 ∧
    validEntries (pixelWord th l) = (l.filter (fun x => decide (0 < (x.2 * 4095 + 524288) / 1048576))).map
      (fun x => (x.1, min 4095 ((x.2 * 4095 + 524288) / 1048576))) ∧
    flaggedEntries (pixelWord th l) 12 = l.countP (fun x => decide (4095 < (x.2 * 4095 + 524288) / 1048576)) ∧
    flaggedEntries (pixelWord th l) 13 = l.countP (fun x => decide (1048576 + th < x.2)))

/-- The coarse stage: a density item of the stripe in work enters the window; of a new stripe it begins the stripe with an empty window,
or, where the Glory set fails a check, is not processed, and the job halts with the lowest failing cause; a finished column adds its
corrections, m_ITER, and returns its leave; an uncorrectable word of the fogging map that it meets halts the job (R31, R131 to R135,
R144, R146, R409). The pixel stage: it takes the first header whose band has a half and asks for leave; it writes each pixel word's
dose into the band, 4,096 marking saturation, and clears the entry that it has read; with ITER = 0 the correction is 4,096 everywhere;
a complete band is released to Parison in order, with its generation. A header of a generation that Parison's switching point does not
know is GEN_MISMATCH with Glory's id (R31, R124, R135, R139 to R141, R144). The model's choices in it: log entries 2, 19, 48 and 49. -/
def Obligations.Glory : Prop :=
  ((∀ (s : State) d rest k, s.glory.coarseIn = d :: rest → s.glory.stripe = some k → k.num = d.stripe → k.gen = d.gen →
    exec .densityItem s = .next (({ s with glory := { s.glory with coarseIn := rest } }).takeDensity k d).kickCoarse) ∧
  (∀ (s g : State) d rest k, s.glory.coarseIn = d :: rest → s.glory.stripe = none → s.densStripe d = some k →
    (s.itemGate 0 k.num k.gen = (g, true) →
      (g.glyCause (g.genF 0 k.gen) ≠ 0 → exec .densityItem s =
        .next ((({ g with glory := { g.glory with coarseIn := rest } }).jobFault k.ctx 0x0910 false
          [a32 k.num, a32 k.gen, a8 (g.glyCause (g.genF 0 k.gen))]).dropStripe k)) ∧
      (g.glyCause (g.genF 0 k.gen) = 0 → exec .densityItem s =
        .next (({ g with glory := { g.glory with
          coarseIn := rest, stripe := some k, src := [], dens := [], corr := [], colsDone := 0, dsat := 0 } }).takeDensity k d).kickCoarse)) ∧
    (s.itemGate 0 k.num k.gen = (g, false) → exec .densityItem s = .next g)) ∧
  (∀ s : State, s.glory.coarseIn = [] → exec .densityItem s = .next s) ∧
  (∀ (s : State) k w, s.glory.stripe = some k → s.holdsLeave .coarse = true → s.glory.colsDone < coarseCols k →
    s.fogBad k ((s.glory.colsDone : Int) - 1) = some w → ∃ n, Keeps s n [.regs, .mem, .journal] ∧
      exec .coarseColumnDone s = .next (n.jobFault k.ctx 0x1110 false [a8 (s.hbmGroup w), a36 w, a8 0])) ∧
  (∀ (s : State) k, s.glory.stripe = some k → s.holdsLeave .coarse = true → s.glory.colsDone + 1 < coarseCols k →
    s.fogSuspects k ((s.glory.colsDone : Int) - 1) = [] → Gives (exec .coarseColumnDone s) (fun t =>
      t.glory.colsDone = s.glory.colsDone + 1 ∧ t.holdsLeave .coarse = false ∧
      t.glory.corr = ((List.range (4 * s.rows k + 2)).map (fun j => (j : Int) - 1)).foldl (fun m j =>
        mset m (cellKey ((s.glory.colsDone : Int) - 1) j)
          ((s.kernel k).m (s.genF 0 k.gen GLY_CTL.ITER) ((s.glory.colsDone : Int) - 1) j)) s.glory.corr ∧
      Keeps s t [.regs, .glory, .power])) ∧
  (∀ (e : Kernel) (i j : Int), e.m 0 i j = 4096 ∧ ∀ n, e.m n i j ≤ 65535) ∧
  (∀ (s : State) (rd : Fld → Nat), s.glyCause rd ≤ 7 ∧ (s.glyCause rd = 1 ↔ rd GLY_CTL.ITER = 3) ∧
    (rd GLY_CTL.ITER ≠ 3 → (4 < rd GLY_KERNEL_CTL.TERMS ∨ 16 < rd GLY_KERNEL_CTL.RADIUS) → s.glyCause rd = 2))) ∧
  ((∀ (s : State) k h, s.glory.tile = none → s.pixStripe = some k → s.runs GLY_CTL.ENABLE = true → s.askedLeave .pixel = false →
    s.nextHeader k = some h →
    (s.genKnown 1 h.gen = true → Gives (exec .tileHeader s) (fun t =>
      t.glory.tile = some h ∧ t.glory.pix = some k ∧ h ∉ t.glory.headers ∧
      t.power.waiting = s.power.waiting ++ [⟨.pixel, max 1 (s.f GLY_LEAVE.PIXEL), s.mono100⟩] ∧ t.power.grants = s.power.grants ∧
      Keeps s t [.regs, .glory, .power])) ∧
    (s.genKnown 1 h.gen = false → exec .tileHeader s = .next (s.halt 0x0F11 s.openFlash [a8 0x09, a32 h.stripe, a32 h.gen]))) ∧
  (∀ (s : State) h, s.glory.tile = some h → exec .tileHeader s = .next s) ∧
  (∀ (s : State) k h m xt y, s.glory.tile = some h → s.glory.pix = some k → s.mslot h.eng h.slot = some m → h.empty = false →
    m.draining = true → m.word + 1 < 65536 → s.holdsLeave .pixel = true → xt = h.tcol * 256 + m.word / 256 →
    y = h.trow * 256 + m.word % 256 → min (xt / 64 + 3) (coarseCols k) ≤ s.glory.colsDone →
    ∀ b, s.glory.halves[s.bandOf k h % 2]? = some b → mget b (xt * 2 ^ 18 + y) = none →
    ∀ d sat, doseOf (fun c => s.genF 1 k.gen (GLY_BASE_DOSE.DOSE c)) (fun c => if c = 0 then 0 else s.genF 1 k.gen (GLY_CURVE.OUT c))
        (s.mAt k xt y) (validEntries (pixelWord (s.f MRV_OVL_THRESH.UNITS) ((mget m.acc m.word).getD []))) = (d, sat) →
      Gives (exec .pixelWord s) (fun t =>
        mnat (t.glory.halves.getD (s.bandOf k h % 2) []) (xt * 2 ^ 18 + y) = d + (if sat = true then 4096 else 0) ∧
        t.mslot h.eng h.slot = some { m with acc := mdel m.acc m.word, word := m.word + 1 } ∧
        Keeps s t [.regs, .mslots, .glory, .blow, .mem])) ∧
  (∀ (s : State) k b, s.glory.pix = some k → b = s.glory.bandNext - s.glory.bandBase → b + 1 < cdiv k.len 256 * s.bandsPer k →
    mnat s.glory.tilesIn s.glory.bandNext = min 64 (s.rows k) → b / s.bandsPer k < mnat s.glory.colsFreed k.key →
    min (4 * (b / s.bandsPer k) + 6) (coarseCols k) ≤ s.glory.colsDone → Gives (exec .bandRelease s) (fun t =>
      t.par.bands = s.par.bands ++ [{ key := k.key, gen := k.gen, no := b, half := s.glory.bandNext % 2 }] ∧ t.glory.bandNext = s.glory.bandNext + 1 ∧
      t.glory.pix = some k ∧ Keeps s t [.regs, .glory, .par, .power])) ∧
  (∀ (s : State) k, s.glory.pix = some k → mnat s.glory.tilesIn s.glory.bandNext ≠ min 64 (s.rows k) → exec .bandRelease s = .next s) ∧
  (∀ (s : State) k x y, s.genF 0 k.gen GLY_CTL.ITER = 0 → s.mAt k x y = 4096))

/-! ## Beam map, cell check, Parison (R148 to R189) -/

/-- The fill of the staged table ends with its generation, its lowest failing cause and its first split group, and, where no check fails,
each beam's entry with its interpolated offsets and gain; a map check ends in the same way; a check is started once at a time. The
validation refuses LOG2N above 5 first and a bad selection next. A commit takes the T of the last report received before its tick
(R154 to R160, R178). The model's choices in it: log entries 2 and 50. -/
def Obligations.BeamTables : Prop :=
  (∀ (s : State) j, s.beam.fill = some j → Gives (exec .fillDone s) (fun t =>
    t.beam.fill = none ∧ t.beam.stagedT.gen = j.gen ∧ t.beam.stagedT.filled = true ∧
    t.beam.stagedT.cause = (s.validate j.log2n j.bank (if j.f = 0 then [j.lo] else [j.lo, j.hi]) j.selBad).1 ∧
    t.beam.stagedT.lagGroup = s.splitGroup j.bank ∧
    (t.beam.stagedT.cause = 0 → ∀ b, b < 262144 → ∀ m lo hi, m = mapEntry (s.tableWord (s.mapAddr j.bank b)) →
      lo = setEntry (s.tableWord (s.setAddr j.lo b)) → hi = setEntry (s.tableWord (s.setAddr j.hi b)) →
      t.beam.stagedT.entry b = {
        yb := m.yb, x0 := m.x0, pass := m.pass, status := m.status, dx := interp j.f lo.dx hi.dx, dy := interp j.f lo.dy hi.dy, gain := (interp j.f lo.gain hi.gain).toNat }) ∧
    t.f BMP_STATUS.FILL_BUSY = 0 ∧ t.f BMP_STATUS.FILL_ERR = b2n (decide (t.beam.stagedT.cause ≠ 0)) ∧ t.beam.activeT = s.beam.activeT ∧
    Keeps s t [.regs, .beam, .freeCount, .root, .mem, .gaf, .journal])) ∧
  (∀ s : State, s.beam.fill = none → exec .fillDone s = .next s) ∧
  (∀ (s : State) (v : Word), v.toNat % 2 = 1 →
    (s.f BMP_STATUS.CHECK_BUSY ≠ 1 → Gives (exec (.bmpCheck v) s) (fun t =>
      t.f BMP_STATUS.CHECK_BUSY = 1 ∧ t.f BMP_CHECK_RESULT.DONE = 0 ∧ t.beam = { s.beam with chkBank := some (v.toNat / 2 % 2) } ∧
      Keeps s t [.regs, .beam])) ∧
    (s.f BMP_STATUS.CHECK_BUSY = 1 → Gives (exec (.bmpCheck v) s) (fun t => t.beam = s.beam ∧ Keeps s t [.regs]))) ∧
  (∀ (s : State) bank, s.beam.chkBank = some bank → Gives (exec .checkDone s) (fun t =>
    t.beam = { s.beam with chkBank := none } ∧ t.f BMP_STATUS.CHECK_BUSY = 0 ∧ t.f BMP_CHECK_RESULT.DONE = 1 ∧
    t.f BMP_CHECK_RESULT.CAUSE = (s.validate (s.f BMP_GEOM.LOG2N) bank
      ((List.range (min 8 (s.f BMP_SEL.SETS))).map (fun k => s.f (BMP_SET.SLOT k))) (selBad s.f)).1 % 2 ^ BMP_CHECK_RESULT.CAUSE.w ∧
    Keeps s t [.regs, .beam, .freeCount, .gaf, .mem, .journal])) ∧
  (∀ s : State, s.beam.chkBank = none → exec .checkDone s = .next s) ∧
  (∀ (s : State) lg bank slots sel, (5 < lg → s.validate lg bank slots sel = (1, 0)) ∧
    (lg ≤ 5 → s.validate lg bank slots true = (2, 0))) ∧
  (∀ (s : State) (gen r : Nat), s.beam.tempTick = some r →
    (r ≠ s.mono100 → (s.startFill gen).fs BMP_GEN_TEMP.T = s.fs BMP_TEMP_NOW.T) ∧
    (∀ t q, r = s.mono100 → s.beam.prevTemp = some (t, q) → -32768 ≤ t → t ≤ 32767 → (s.startFill gen).fs BMP_GEN_TEMP.T = t)) ∧
  (∀ (a b : Int) (f : Nat), interp 0 a b = a ∧ interp f a a = a)

/-- The cell check: the request clears the result table and leaves on every READY plane lane, or waits while four frames of the lane are
unanswered; a result message is taken only under a new ALIVE, and its results are compared with their windows, those before the
request ignored; the timeout ends the check; an accepted result is copied into the bank that CC_ACCEPT names, each entry changed as
the TAKE bits allow, unless a live generation names it, the check has already been used or none has ended, or one runs (R163 to R166,
R215, R218, R219). The model's choices in it: log entries 2, 3, 14, 20 and 50. -/
def Obligations.CellCheck : Prop :=
  (∀ s : State, s.f BMP_CC_STATUS.STATE = 1 → s.beam.ccSent = false → s.link.lanes.length = 64 →
    Gives (exec .cellCheckRequest s) (fun t =>
      t.beam = { s.beam with ccSent := true } ∧ (∀ b, b < 262144 → ∀ k, k < 8 → rdByte t.mem.hbm (s.resAddr b + k) = 0) ∧
      (∀ l, l < 64 → (s.laneState l ≠ 5 → t.pln l = s.pln l) ∧
        (s.laneState l = 5 → 4 ≤ (s.pln l).out.length → t.pln l = { s.pln l with ccDue := true }) ∧
        (s.laneState l = 5 → (s.pln l).out.length < 4 → (s.pln l).replay = [] →
          (t.pln l).out = (s.pln l).out ++ [{ flash := 0, plane := 0, ftype := 1, first := false, ver := false }])) ∧
      Keeps s t [.beam, .mem, .link, .out])) ∧
  (∀ s : State, s.f BMP_CC_STATUS.STATE ≠ 1 → exec .cellCheckRequest s = .next s) ∧
  (∀ (s : State) (g : Fin 8) alive first results, alive < 256 → first < 262144 → 1 ≤ results.length → results.length ≤ 5 →
    (∀ r ∈ results, r.1 < 4096 ∧ r.2 < 4096) →
    (Hears s g alive → exec (.ccResult g alive first results) s = .next ((heard s g alive).cellResults g results first)) ∧
    (HeardBefore s g alive → exec (.ccResult g alive first results) s = .next (discarded s)) ∧
    (s.beam.ccSent = false → s.beam.ccGot < 262144 → first / 32768 = g → (first + results.length - 1) / 32768 = g →
      s.cellResults g results first = s)) ∧
  (∀ s : State, s.f BMP_CC_STATUS.STATE = 1 → s.beam.ccSent = true → Gives (exec .cellCheckTimeout s) (fun t =>
    t.f BMP_CC_STATUS.STATE = 2 ∧ t.f BMP_STATUS.CC_BUSY = b2n s.beam.ccAccept.isSome ∧ t.beam.ccCheck = true)) ∧
  (∀ s : State, s.f BMP_CC_STATUS.STATE ≠ 1 → exec .cellCheckTimeout s = .next s) ∧
  (∀ (s : State) (v : Word), v.toNat % 2 = 1 → s.beam.ccAccept = none →
    (s.liveMap (v.toNat / 2 % 2) = true → Gives (exec (.ccAccept v) s) (fun t => t.f BMP_CC_ACCEPT.ERR = 1 ∧ Keeps s t [.regs])) ∧
    (s.liveMap (v.toNat / 2 % 2) = false → s.beam.ccCheck = false → Gives (exec (.ccAccept v) s) (fun t =>
      t.f BMP_CC_ACCEPT.ERR = 2 ∧ Keeps s t [.regs])) ∧
    (s.liveMap (v.toNat / 2 % 2) = false → s.beam.ccCheck = true → s.f BMP_CC_STATUS.STATE = 1 → Gives (exec (.ccAccept v) s) (fun t =>
      t.f BMP_CC_ACCEPT.ERR = 3 ∧ Keeps s t [.regs])) ∧
    (s.liveMap (v.toNat / 2 % 2) = false → s.beam.ccCheck = true → s.f BMP_CC_STATUS.STATE ≠ 1 → Gives (exec (.ccAccept v) s) (fun t =>
      t.f BMP_CC_ACCEPT.ERR = 0 ∧ t.f BMP_STATUS.CC_BUSY = 1 ∧
      t.beam = { s.beam with ccCheck := false, ccAccept := some (s.f BMP_CC_STATUS.SRC_BANK, v.toNat / 2 % 2) } ∧
      Keeps s t [.regs, .beam]))) ∧
  (∀ (s : State) src dst, s.beam.ccAccept = some (src, dst) → Gives (exec .ccAcceptDone s) (fun t =>
    t.beam = { s.beam with ccAccept := none } ∧ t.f BMP_CC_ACCEPT.DONE = 1 ∧
    t.f BMP_STATUS.CC_BUSY = b2n (decide (s.f BMP_CC_STATUS.STATE = 1)) ∧
    (s.mem.checks = [] → s.mem.poison = [] → src < 2 → dst < 2 → src ≠ dst → ∀ b, b < 262144 →
      rdLE t.mem.hbm (s.mapAddr dst b) 8 = s.accepted (s.hbmLE (s.mapAddr src b) 8) (s.hbmLE (s.resAddr b) 8)))) ∧
  (∀ s : State, s.beam.ccAccept = none → exec .ccAcceptDone s = .next s)

/-- The plane code of a level: bit k is set where what the higher planes leave of the level is at least weight k; nothing is left of a
level from 0 to Q under weights that R168 allows; with binary weights the code is the level (R169). -/
def Obligations.PlaneCode : Prop :=
  (∀ (l : List Nat) (c k : Nat), k < l.length → bit (planeCode l.reverse c) k = decide (l.getD k 0 ≤
    c - ((List.range l.length).map (fun j => if k < j ∧ bit (planeCode l.reverse c) j = true then l.getD j 0 else 0)).sum)) ∧
  (∀ l : List Nat, weightsOk l = true → ∀ c, c ≤ l.sum →
    ((List.range l.length).map (fun k => if bit (planeCode l.reverse c) k = true then l.getD k 0 else 0)).sum = c) ∧
  ∀ n c : Nat, c < 2 ^ n → planeCode ((List.range n).map (fun k => 2 ^ k)).reverse c = c

/-- Parison: column 0 of the next stripe, whose band carries its generation, puts it to work with its chunks behind the ring's last, or
halts its job with each failing check; a sent chunk frees its slot, an unsent one keeps it, and a chunk of the ACTIVE stripe is sent
once its strobes have passed it (R31, R159, R168, R178, R183, R184, R188). Parison's burst: the sample at a beam's landing point, the
share that it gives, and the exact-sum quantisation, whose codes deliver the target of the pixel less E; the codes of a column enter
the assembly SRAM at the flash at which their beams meet the pixel; a full store holds Parison, and the last column of a burst returns
the leave; the store codec of a block loses nothing (R22, R171, R172, R174, R181). The model's choices in it: log entries 2, 19 and
49. -/
def Obligations.ParisonStripes : Prop :=
  ((∀ (s g : State) k rest b r t, s.par.stripe = none → s.par.next = k :: rest → s.par.bands = b :: r → b.key = k.key →
    s.runs PAR_CTL.ENABLE = true →
    (s.itemGate 1 k.num b.gen = (g, true) → g.beamTable k.gen = some t →
      (t.cause = 0 → g.parCause (g.genF 1 k.gen) = 0 → t.lagGroup = none → t.bad = none → Gives (exec .stripeColumnZero s) (fun u =>
        u.par.stripe = some k ∧ u.par.next = rest ∧ u.par.bands = s.par.bands ∧ u.f PAR_COL_DONE.COL = 0 ∧
        u.par.ring = s.par.ring.dropWhile (fun q => decide (q.nc ≤ q.sent)) ++
          [{ num := k.num, gen := k.gen, ctx := k.ctx, base := s.nextBase, nc := cdiv (k.len + t.maxX0) 64, done := 0, cols := 0, sent := 0,
             flashes := k.len + t.maxX0, minX0 := t.minX0, closed := false }] ∧
        Keeps s u [.regs, .par, .power, .root, .beam])) ∧
      (t.cause ≠ 0 → g.parCause (g.genF 1 k.gen) = 0 → t.lagGroup = none → t.bad = none → exec .stripeColumnZero s =
        .next ((g.jobFault k.ctx 0x0A10 false [a32 k.num, a32 k.gen, a8 t.cause, a32 t.beam]).dropStripe k)) ∧
      (t.cause = 0 → g.parCause (g.genF 1 k.gen) ≠ 0 → t.lagGroup = none → t.bad = none → exec .stripeColumnZero s =
        .next ((g.jobFault k.ctx 0x0B11 false [a32 k.num, a32 k.gen, a8 (g.parCause (g.genF 1 k.gen))]).dropStripe k)) ∧
      (∀ j, t.cause ≠ 0 → g.parCause (g.genF 1 k.gen) = 0 → t.lagGroup = some j → t.bad = none → exec .stripeColumnZero s =
        .next (((g.jobFault k.ctx 0x0A10 false [a32 k.num, a32 k.gen, a8 t.cause, a32 t.beam]).jobFault k.ctx 0x0B12 false
          [a32 k.num, a32 k.gen, a32 j]).dropStripe k))) ∧
    (s.itemGate 1 k.num b.gen = (g, false) → exec .stripeColumnZero s = .next g)) ∧
  (∀ (s : State) (r : RingStripe) a, s.gaf.prepared = none → s.gaf.queued = none → s.gaf.active = some a →
    (r.num = a.num → r.ctx = a.ctx → r.closed = false → (s.chunkSent r = true ↔ min (64 * (r.sent + 1)) r.flashes ≤ s.mot.struck.1)) ∧
    (r.num ≠ a.num ∨ r.ctx ≠ a.ctx ∨ r.closed = true → s.chunkSent r = true)) ∧
  (∀ s : State, s.par.bands = [] → exec .stripeColumnZero s = .next s) ∧
  (∀ (s : State) r l, releaseFirst s.par.ring = some (r, l) → s.par.holdFrom = none →
    (s.chunkSent r = true → r.sent < r.done → exec .chunkRelease s = .next { s with par := { s.par with ring := l } }) ∧
    (s.chunkSent r = false → exec .chunkRelease s = .next s) ∧ (r.done ≤ r.sent → exec .chunkRelease s = .next s))) ∧
  ((∀ (d : Int → Int → Nat) (e : BeamEntry) (x y fx fy : Nat) (i j : Int), fx < 64 → fy < 64 → e.dx = 64 * i + fx → e.dy = 64 * j + fy →
    (e.status ≠ 0 → sampleAt d e x y = 4096 * d x y) ∧
    (e.status = 0 → sampleAt d e x y = d (x + i) (y + j) * (64 - fx) * (64 - fy) + d (x + i + 1) (y + j) * fx * (64 - fy) +
      d (x + i) (y + j + 1) * (64 - fx) * fy + d (x + i + 1) (y + j + 1) * fx * fy)) ∧
  (∀ (rd : Fld → Nat) (n q s v : Nat), 0 < n → s * rd PAR_LNOM.LNOM = 64 * n * v → shareOf rd n q s = (min (q * 65536) v, decide (q * 65536 < v))) ∧
  (∀ (rd : Fld → Nat) (q : Nat) (l : List Pass), ∃ lv : List Nat, lv.length = l.length ∧
    (quantise rd q l (deadCarry q l)).1 = (l.zip lv).map (fun x => (x.1.beam, if x.1.entry.status = 1 then 0 else codeOf rd x.2)) ∧
    (∀ x ∈ l.zip lv, x.2 ≤ q ∧ (x.1.entry.status = 2 → x.2 = q)) ∧
    (quantise rd q l (deadCarry q l)).2 = (l.map (fun p => (p.share : Int))).sum - ((l.zip lv).map (fun x =>
      if x.1.entry.status = 1 then (0 : Int) else if x.1.entry.status = 2 then (q : Int) * 65536 else x.2 * (4 * x.1.entry.gain))).sum) ∧
  (∀ (s : State) (e : Split) (band r0 n x : Nat) (r : RingStripe), x = (e.bandCols (band / max 1 (e.w / 16384))).1 + s.par.bcol →
    e.bandRows (band % max 1 (e.w / 16384)) = (r0, n) → band % max 1 (e.w / 16384) + 1 ≠ max 1 (e.w / 16384) →
    (∀ y, r0 ≤ y → y < r0 + n → (e.pixel s.par.doses x y).2.1.natAbs ≤ e.rd PAR_TOL.TOL ∧ ∀ c ∈ (e.pixel s.par.doses x y).1, c.1 < 2 ^ 18) →
    (s.oneColumn e band r).2 = true ∧ (s.oneColumn e band r).1.par.bcol = s.par.bcol + 1 ∧
    (s.oneColumn e band r).1.par.burst = s.par.burst - 1 ∧ Keeps s (s.oneColumn e band r).1 [.regs, .par, .mem] ∧
    ∀ y b v, r0 ≤ y → y < r0 + n → (b, v) ∈ (e.pixel s.par.doses x y).1 → v ≠ 0 →
      (∀ y' c, r0 ≤ y' → y' < r0 + n → c ∈ (e.pixel s.par.doses x y').1 → c.1 = b → c.2 = v) →
      mget (s.oneColumn e band r).1.par.asm ((x + (e.table.entry b).x0) * 2 ^ 18 + b) = some v) ∧
  (∀ (s : State) k b bs r e, s.par.stripe = some k → s.par.bands = b :: bs → s.ringOf k = some r → s.par.burst ≠ 0 → e = s.split k b.half →
    (s.mustHold e b.no = true → s.burst = { s.flag PAR_STATUS.HOLD with par := { s.par with holdFrom := some s.mono100 } }) ∧
    (∀ u, s.mustHold e b.no = false → s.par.burst = 1 → s.oneColumn e b.no r = (u, true) →
      s.burst.holdsLeave .parison = false ∧ s.burst.link = u.link)) ∧
  (∀ (n : Nat) (l : List Nat), n ≤ 17 → l.length = 64 * n → ungroups n 0 (codecGroups 17 l 0) = some l))

/-! ## Lehr and Punty (R190 to R228) -/

/-- Lehr serves the half of the first flash to send where it is in staging and the next chunk is complete, and halts the stripe where that
is not; a half whose blocks pass their checks is in staging, one that fails is read again and halts the stripe; the commit point
passes a flash all of whose planes hold an ACK on every lane and halts at any other (R31, R190 to R193, R213). The model's choices in
it: log entries 2, 15, 20 and 49. -/
def Obligations.ChunksAndCommits : Prop :=
  (∀ (s : State) k r, s.gaf.active = some k → s.link.serve = none → s.runs LEH_CTL.ENABLE = true → s.live s.lehrNext = true →
    s.lehrNext < s.nf k → s.ringOf k = some r →
    (∃ h, some h ∈ s.link.halves ∧ h.ready = true ∧ h.chunk = s.lehrNext / 64 ∧ h.part = s.partOf k.gen s.lehrNext) →
    ((64 * (s.lehrNext / 64 + 1) < s.nf k → s.lehrNext / 64 + 1 < r.done) → Gives (exec .chunkServeStart s) (fun t =>
      t.link.serve = some (s.lehrNext / 64, s.partOf k.gen s.lehrNext) ∧ t.f LEH_CHUNK.CHUNK = s.lehrNext / 64 % 2 ^ 32 ∧
      Keeps s t [.regs, .link])) ∧
    (64 * (s.lehrNext / 64 + 1) < s.nf k → r.done ≤ s.lehrNext / 64 + 1 → s.mot.armed = true → s.f GAF_STATUS.HALTED ≠ 1 →
      Gives (exec .chunkServeStart s) (fun t => t.f GAF_STATUS.HALTED = 1 ∧ t.f GAF_HALT_CAUSE.CODE = 0x0C13 ∧
        t.f GAF_HALT_FLASH.TH = 64 * (s.lehrNext / 64 + 1) % 2 ^ 32))) ∧
  (∀ (s g : State) k i h r, s.gaf.active = some k → s.link.halves.findIdx? (fun x => x.any (fun y => !y.ready)) = some i →
    s.link.halves[i]? = some (some h) → s.ringOf k = some r →
    (s.itemGate 2 h.stripe h.gen = (g, true) →
      Gives (exec .chunkLoadDone s) (fun t => match g.readChunk k r.base h.chunk 4096 [] with
        | (m, none) => t.link.halves = s.link.halves.set i (some { h with ready := true, codes := m }) ∧
            Keeps s t [.regs, .journal, .root, .link, .mem, .freeCount]
        | (_, some _) => t.link.halves[i]? = some none ∧ t.f LEH_STATUS.REREAD_SEEN = 1 ∧
            t.f LEH_CNT_REREAD.COUNT = min (s.f LEH_CNT_REREAD.COUNT + 1) (2 ^ LEH_CNT_REREAD.COUNT.w - 1) ∧
            t.f GAF_STATUS.HALTED = 1 ∧ (s.f GAF_STATUS.HALTED ≠ 1 → t.f GAF_HALT_CAUSE.CODE = 0x0C12))) ∧
    (s.itemGate 2 h.stripe h.gen = (g, false) → exec .chunkLoadDone s = .next g)) ∧
  (∀ (s : State) k, s.gaf.active = some k → s.live s.mot.committed = true → s.mot.committed < s.nf k → s.mot.committed ≠ s.mot.t0 →
    (mget s.mot.a0 (s.mot.committed - 1)).isSome = true →
    ((∀ l, l < 64 → ∀ p, p < s.planes k.gen → bit (mnat s.link.acks (s.mot.committed * 16 + p)) l = true) →
      Gives (exec .commitPoint s) (fun t =>
        t.mot = { s.mot with committed := s.mot.committed + 1 } ∧ (∀ e ∈ t.link.acks, s.mot.committed < e.1 / 16) ∧
        Keeps s t [.mot, .link])) ∧
    ((∃ l, l < 64 ∧ ∃ p, p < s.planes k.gen ∧ bit (mnat s.link.acks (s.mot.committed * 16 + p)) l = false) →
      s.f GAF_STATUS.HALTED ≠ 1 → Gives (exec .commitPoint s) (fun t =>
        t.f GAF_STATUS.HALTED = 1 ∧ t.f GAF_HALT_CAUSE.CODE = 0x0C11 ∧ t.mot.committed = s.mot.committed))) ∧
  (∀ s : State, s.gaf.active = none → exec .chunkServeStart s = .next s ∧ exec .chunkLoadDone s = .next s ∧ exec .commitPoint s = .next s)

/-- A plane lane with at most three unanswered frames and no replay to send sends its next frame: a training frame in SEND, EQ and VERIFY,
a cell-check request that waits, the keystream sync frame first where one is due, else the next plane, whose 66 blocks name its lane,
flash, plane and ALIVE, carry the staged codes and end with the echo and the CRC, and leave scrambled behind IDLE blocks up to the
present instant. A refused frame is sent again by a lane that is READY, with the words of the newest frame that it repeats. An ACK
enters its lane in the plane's mask, an answer that no frame awaits is counted; a frame without an answer is refused, and is replayed
while the commit point allows it (R196 to R202, R209 to R214, R218, R222, R227). The model's choices in it: log entries 2, 3, 16 and
51. -/
def Obligations.PlaneFrames : Prop :=
  (∀ (s : State) (l : Fin 64) p, s.runs PUN_CTL.ENABLE = true → s.link.lanes[l.val]? = some p → p.out.length < 4 → p.replay = [] →
    ((s.laneState l = 2 ∨ s.laneState l = 3 ∨ (s.laneState l = 4 ∧ p.verify + p.out.countP (fun f => f.ver) < 4096)) →
      Gives (exec (.planeFrame l) s) (fun t =>
        (t.pln l).out = p.out ++ [{ flash := 0, plane := 0, ftype := 2, first := false, ver := decide (s.laneState l = 4) }] ∧
        (t.pln l).alive = (p.alive + 1) % 256 ∧ t.out.length = s.out.length + 2 ∧ Keeps s t [.link, .mem, .out])) ∧
    (s.laneState l = 5 → p.ccDue = true → s.f BMP_CC_STATUS.STATE = 1 → exec (.planeFrame l) s = .next (s.requestFrame l)) ∧
    (∀ k t n, s.laneState l = 5 → (p.ccDue = false ∨ s.f BMP_CC_STATUS.STATE ≠ 1) → s.gaf.active = some k → p.next = (t, n) →
      s.live t = true → t < s.nf k → s.frameDue t = true →
      (p.sync = true → Gives (exec (.planeFrame l) s) (fun u => (u.pln l).sync = false ∧ (u.pln l).next = (t, n) ∧
        (u.pln l).out = p.out ++ [{ flash := s.mot.t0, plane := 0, ftype := 3, first := false, ver := false }] ∧
        u.out.length = s.out.length + 2 ∧ Keeps s u [.link, .mem, .out])) ∧
      (p.sync = false → s.serves k.gen t = true → Gives (exec (.planeFrame l) s) (fun u =>
        (u.pln l).next = (if n + 1 < s.planes k.gen then (t, n + 1) else (t + 1, 0)) ∧
        (u.pln l).out = p.out ++ [{ flash := t, plane := n, ftype := 0, first := decide (t = s.mot.t0), ver := false }] ∧
        (∃ ks slot words, u.out = s.out ++
          [.frame l (t % 2 ^ 24) n 0 p.alive (decide (t = s.mot.t0)) false ks slot (s.ret (l / 8)).echo words
            (frameCrc (markerWord l 0 t n p.alive (decide (t = s.mot.t0)) false ks slot) (s.planeData l t n)),
           .line l (cdiv (s.mono100 - p.freeAt) 20) (scrambleBlocks (idleRun (cdiv (s.mono100 - p.freeAt) 20) p.scr)
            (frameBlocks (markerWord l 0 t n p.alive (decide (t = s.mot.t0)) false ks slot) words (trailerWord (s.ret (l / 8)).echo
              (frameCrc (markerWord l 0 t n p.alive (decide (t = s.mot.t0)) false ks slot) (s.planeData l t n))))).1] ∧
          (ks = true ↔ s.genF 2 k.gen PUN_KS_CTL.EN = 1) ∧ (s.genF 2 k.gen PUN_KS_CTL.EN ≠ 1 → words = s.planeData l t n)) ∧
        (u.pln l).alive = (p.alive + 1) % 256 ∧ Keeps s u [.link, .mem, .out, .freeCount])))) ∧
  (∀ (s : State) (l : Fin 64), s.runs PUN_CTL.ENABLE = false ∨ 4 ≤ (s.pln l).out.length → exec (.planeFrame l) s = .next s) ∧
  (∀ (s : State) (l : Fin 64) p f r x, s.runs PUN_CTL.ENABLE = true → s.laneState l = 5 → s.link.lanes[l.val]? = some p →
    p.replay = f :: r → ((f.ftype = 1 ∧ s.f BMP_CC_STATUS.STATE = 1) ∨ (f.ftype ≠ 1 ∧ s.live f.flash = true)) →
    p.kept.reverse.find? (fun y => decide (y.1 = f)) = some x → Gives (exec (.replaySend l) s) (fun t =>
      (t.pln l).replay = r ∧ (t.pln l).out = p.out ++ [f] ∧ t.f PUN_STATUS.REPLAY_SEEN = 1 ∧
      (∃ ks slot crc idle blocks, t.out = s.out ++
        [.frame l (f.flash % 2 ^ 24) f.plane f.ftype p.alive f.first true ks slot (s.ret (l / 8)).echo x.2.2 crc, .line l idle blocks]) ∧
      t.f PUN_CNT_REPLAY.COUNT = min (s.f PUN_CNT_REPLAY.COUNT + 1) (2 ^ PUN_CNT_REPLAY.COUNT.w - 1) ∧
      Keeps s t [.regs, .link, .mem, .out, .freeCount])) ∧
  (∀ (s : State) (l : Fin 64), (s.pln l).replay = [] ∨ s.runs PUN_CTL.ENABLE = false ∨ s.laneState l ≠ 5 →
    exec (.replaySend l) s = .next s) ∧
  (∀ (s : State) (l : Fin 64) c, s.laneState l = 5 → l.val < s.link.lanes.length →
    (s.laneDown l c).laneState l = 0 ∧ ((s.laneDown l c).pln l).replay = [] ∧ ((s.laneDown l c).pln l).ccDue = false) ∧
  (∀ (s : State) (g : Fin 8) alive flash plane ftype ack nak, alive < 256 → flash < 2 ^ 24 → plane < 16 → ftype < 4 → ack < 256 →
    nak < 256 →
    (Hears s g alive → exec (.ack g alive flash plane ftype ack nak) s = .next ((heard s g alive).answers g flash plane ftype ack nak)) ∧
    (HeardBefore s g alive → exec (.ack g alive flash plane ftype ack nak) s = .next (discarded s))) ∧
  (∀ (s : State) (l flash plane ftype : Nat),
    (∀ f, (s.pln l).out.find? (fun x => x.answers flash plane ftype) = some f → f.ftype = 0 → s.live f.flash = true →
      s.mot.committed ≤ f.flash → bit (mnat (s.answer l flash plane ftype false).link.acks (f.flash * 16 + f.plane)) l = true ∧
        Keeps s (s.answer l flash plane ftype false) [.link]) ∧
    (∀ nak, (s.pln l).out.find? (fun x => x.answers flash plane ftype) = none →
      (s.answer l flash plane ftype nak).f PUN_CNT_STRAY.COUNT = min (s.f PUN_CNT_STRAY.COUNT + 1) (2 ^ PUN_CNT_STRAY.COUNT.w - 1) ∧
      Keeps s (s.answer l flash plane ftype nak) [.regs])) ∧
  (∀ (s : State) (l : Fin 64) f r, (s.pln l).out = f :: r → Gives (exec (.ackTimeout l) s) (fun t =>
    t.f PUN_STATUS.TMO_SEEN = 1 ∧ t.f PUN_CNT_TMO.COUNT = min (s.f PUN_CNT_TMO.COUNT + 1) (2 ^ PUN_CNT_TMO.COUNT.w - 1) ∧
    (t.pln l).out = r)) ∧
  (∀ (s : State) (l : Fin 64), (s.pln l).out = [] → exec (.ackTimeout l) s = .next s) ∧
  (∀ (s : State) (l kind : Nat) f k c, s.gaf.active = some k → f.ftype = 0 → s.live f.flash = true → s.commitTime k f.flash = some c →
    (c < s.now100 + 2 * 1320 → s.f GAF_STATUS.HALTED ≠ 1 → (s.refused l f kind).f GAF_HALT_CAUSE.CODE = 0x0C10) ∧
    (s.now100 + 2 * 1320 ≤ c → ∀ p, s.link.lanes[l]? = some p → ((s.refused l f kind).pln l).replay = p.replay ++ [f]))

/-- Return lanes: LINK_STATUS makes the lane READY; a TAP_REQ sets the taps that it asks for within the limits, and marks the lane where
it would break one; with its done bit it ends EQ, without it the lane stays in EQ, and the 4,096th such request fails it; a TEMP forms
the temperature, and an over-temperature halts the stripe; silence, or the loss of block lock, takes the return lane and its group's
plane lanes down; a training state that does not end fails the lane; a message whose CRC, MTYPE or ALIVE is bad is discarded and
counted (R192, R203, R215 to R223, R228). The PRBS test: a write with GEN_EN or CHK_EN puts the lane into TEST and sets its fields, a
generator that starts sends its pattern, and the write is ignored while a stripe is flashing; a write with neither ends the test and
the pattern, and the lane is DOWN and sends IDLE blocks from then on; a checker that sees a pattern synchronises and counts from 0,
from its own generator through the loopback, without it on a return lane only; an error on the line, an injected error and one of the
rate are counted by a synchronised checker, the latter two through the loopback (R224). The generator's first state is the model's
choice (log entry 51). The model's choices in it: log entries 2, 16, 40 and 50. -/
def Obligations.LaneStates : Prop :=
  ((∀ (s : State) (g : Fin 8) alive locked aligned, alive < 256 → locked < 256 → aligned < 256 →
    (Hears s g alive → Gives (exec (.linkStatus g alive locked aligned) s) (fun t =>
      t.laneState (64 + g) = 5 ∧ (t.ret g).good = true ∧ (t.ret g).alive = some alive ∧ (t.ret g).echo = alive ∧
      Keeps s t [.regs, .link, .power, .journal, .gaf])) ∧
    (HeardBefore s g alive → exec (.linkStatus g alive locked aligned) s = .next (discarded s))) ∧
  (∀ (s : State) (g : Fin 8) alive (l : Fin 64) pre main post p, alive < 256 → pre < 4 → main < 4 → post < 4 → Hears s g alive →
    l.val / 8 = g.val → s.laneState l = 3 → s.link.lanes[l.val]? = some p →
    (∀ taps, tapRequest p.taps p.preset pre main post = some taps → Gives (exec (.tapReq g alive l pre main post true) s)
      (fun t => (t.pln l).taps = taps ∧ (t.pln l).applied = p.applied + 1 ∧ t.laneState l = 4 ∧ Keeps s t [.regs, .link])) ∧
    (tapRequest p.taps p.preset pre main post = none → Gives (exec (.tapReq g alive l pre main post true) s)
      (fun t => (t.pln l).taps = p.taps ∧ (t.pln l).applied = p.applied ∧ t.f (PUN_LANE_STATE.AT_LIMIT l) = 1 ∧
        t.f PUN_STATUS.LIMIT_SEEN = 1 ∧ t.laneState l = 4 ∧ Keeps s t [.regs, .link])) ∧
    (p.tapReqs + 1 < 4096 → Gives (exec (.tapReq g alive l pre main post false) s) (fun t => t.laneState l = 3 ∧
      (t.pln l).tapReqs = p.tapReqs + 1 ∧ (t.pln l).taps = (tapRequest p.taps p.preset pre main post).getD p.taps ∧
      (t.f (PUN_LANE_STATE.AT_LIMIT l) = 1 ↔
        s.f (PUN_LANE_STATE.AT_LIMIT l) = 1 ∨ tapRequest p.taps p.preset pre main post = none) ∧
      Keeps s t [.regs, .link])) ∧
    (4096 ≤ p.tapReqs + 1 → Gives (exec (.tapReq g alive l pre main post false) s) (fun t => t.laneState l = 6 ∧
      t.f (PUN_LANE_STATE.CAUSE l) = 3 ∧ Keeps s t [.regs, .link, .power, .journal, .gaf]))) ∧
  (∀ (s : State) (g : Fin 8) alive valid ovt (sensors : List Int), alive < 256 → valid < 256 → sensors.length = 8 →
    (∀ x ∈ sensors, -32768 ≤ x ∧ x < 32768) → Hears s g alive →
    (ovt = false → exec (.tempReport g alive valid ovt sensors) s = .next (((heard s g alive).tempReport valid sensors).pulse 9)) ∧
    (ovt = true → s.gaf.active.isSome = true → s.f GAF_STATUS.HALTED ≠ 1 → Gives (exec (.tempReport g alive valid ovt sensors) s)
      (fun t => t.f GAF_STATUS.HALTED = 1 ∧ t.f GAF_HALT_CAUSE.CODE = 0x0C14 ∧ t.f MOT_STATUS.STATE = 6))) ∧
  (∀ (s : State) (g : Fin 8),
    (s.laneState (64 + g) = 5 → Gives (exec (.returnLaneTimeout g) s) (fun t =>
      t.laneState (64 + g) = 0 ∧ t.f PUN_STATUS.DOWN_SEEN = 1 ∧ (∀ i, i < 8 → t.laneState (8 * g + i) ≠ 5) ∧ (t.ret g).echo = 0 ∧
      (t.ret g).alive = (s.ret g).alive ∧ Keeps s t [.regs, .link, .power, .journal, .gaf])) ∧
    (s.laneState (64 + g) ≠ 5 → exec (.returnLaneTimeout g) s = .next s) ∧
    Gives (exec (.blockLockLoss g) s) (fun t => (t.ret g).lock = false ∧ t.laneState (64 + g) ≠ 5 ∧
      (∀ i, i < 8 → t.laneState (8 * g + i) ≠ 5) ∧ Keeps s t [.regs, .link, .power, .journal, .gaf]) ∧
    (∀ r, s.link.rets[g.val]? = some r → r.lock = false → Gives (exec (.blockLockAcquire g) s) (fun t =>
      t.ret g = { r with lock := true, good := false } ∧ Keeps s t [.link])) ∧
    ((s.ret g).lock = true → exec (.blockLockAcquire g) s = .next s) ∧
    (∀ h b0 b1 t : Word, s.runs PUN_CTL.ENABLE = true → (s.ret g).lock = true → s.laneState (64 + g) ≠ 7 → h.toNat % 256 = 0x2D →
      t.toNat % 256 = 0x35 →
      ((t.toNat / 2 ^ 32 ≠ crc32c (toLE 8 h.toNat ++ toLE 8 b0.toNat ++ toLE 8 b1.toNat) ∨ bits h.toNat 8 4 = 0 ∨ 5 < bits h.toNat 8 4 ∨
          (s.ret g).alive = some (bits h.toNat 16 8)) →
        Gives (exec (.returnMessageDiscard (g, [h, b0, b1, t])) s) (fun u =>
          u.f PUN_CNT_RETBAD.COUNT = min (s.f PUN_CNT_RETBAD.COUNT + 1) (2 ^ PUN_CNT_RETBAD.COUNT.w - 1) ∧
          u.f PUN_STATUS.RETBAD_SEEN = 1 ∧ Keeps s u [.regs])) ∧
      (t.toNat / 2 ^ 32 = crc32c (toLE 8 h.toNat ++ toLE 8 b0.toNat ++ toLE 8 b1.toNat) → 1 ≤ bits h.toNat 8 4 → bits h.toNat 8 4 ≤ 5 →
        (s.ret g).alive ≠ some (bits h.toNat 16 8) → exec (.returnMessageDiscard (g, [h, b0, b1, t])) s = .next s))) ∧
  (∀ (s : State) (l : Fin 64), (1 ≤ s.laneState l → s.laneState l ≤ 3 → Gives (exec (.trainStateTimeout l) s) (fun t =>
    t.laneState l = 6 ∧ t.f (PUN_LANE_STATE.CAUSE l) = s.laneState l ∧ Keeps s t [.regs, .link, .power, .journal, .gaf])) ∧
    (4 ≤ s.laneState l → exec (.trainStateTimeout l) s = .next s))) ∧
  ((∀ (s : State) (l : Fin 72) (v : Word), bit v.toNat 0 = true ∨ bit v.toNat 1 = true →
    (s.mot.flashing = false → Gives (exec (.prbsTestEnter l v) s) (fun t => t.laneState l = 7 ∧
      t.f (PUN_PRBS_CTL.GEN_EN l) = bits v.toNat 0 1 ∧ t.f (PUN_PRBS_CTL.CHK_EN l) = bits v.toNat 1 1 ∧
      t.f (PUN_PRBS_CTL.PATTERN l) = bits v.toNat 2 2 ∧ t.f (PUN_PRBS_CTL.LOOP l) = bits v.toNat 4 1 ∧
      t.f (PUN_PRBS_CTL.RATE l) = bits v.toNat 8 8 ∧
      (bit v.toNat 0 = true → s.f (PUN_PRBS_CTL.GEN_EN l) ≠ 1 →
        .pattern l (bits v.toNat 2 2) (2 ^ (patternTaps (bits v.toNat 2 2)).1 - 1) ∈ t.out) ∧
      Keeps s t [.regs, .link, .power, .journal, .gaf, .out])) ∧
    (s.mot.flashing = true → s.laneState l ≠ 7 → exec (.prbsTestEnter l v) s = .next s)) ∧
  (∀ (s : State) (l : Fin 72) (v : Word), bit v.toNat 0 = false → bit v.toNat 1 = false → s.laneState l = 7 →
    (bit v.toNat 5 = true → exec (.prbsInj l v) s = .next (s.prbsWrite l v.toNat)) ∧
    (s.prbsWrite l v.toNat).laneState l = 0 ∧ (s.prbsWrite l v.toNat).f (PUN_PRBS_CTL.GEN_EN l) = 0 ∧
    (s.prbsWrite l v.toNat).f (PUN_PRBS_CTL.CHK_EN l) = 0 ∧
    (s.f (PUN_PRBS_CTL.GEN_EN l) = 1 → (s.prbsWrite l v.toNat).out = s.out ++ [.patternEnd l]) ∧
    (s.f (PUN_PRBS_CTL.GEN_EN l) ≠ 1 → (s.prbsWrite l v.toNat).out = s.out) ∧
    (l.val < s.link.lanes.length → ((s.prbsWrite l v.toNat).pln l).freeAt = s.mono100) ∧
    Keeps s (s.prbsWrite l v.toNat) [.regs, .link, .out]) ∧
  (∀ (s : State) (l : Fin 72), s.laneState l = 7 → s.f (PUN_PRBS_CTL.CHK_EN l) = 1 →
    (s.f (PUN_PRBS_CTL.SYNC l) ≠ 1 →
      ((s.f (PUN_PRBS_CTL.LOOP l) = 1 ∧ s.f (PUN_PRBS_CTL.GEN_EN l) = 1) ∨ (s.f (PUN_PRBS_CTL.LOOP l) ≠ 1 ∧ 64 ≤ l.val) →
        Gives (exec (.prbsCheckerSync l) s) (fun t =>
          t.f (PUN_PRBS_CTL.SYNC l) = 1 ∧ t.f (PUN_PRBS_ERR.COUNT l) = 0 ∧ Keeps s t [.regs])) ∧
      (s.f (PUN_PRBS_CTL.LOOP l) ≠ 1 → l.val < 64 → exec (.prbsCheckerSync l) s = .next s)) ∧
    (s.f (PUN_PRBS_CTL.SYNC l) = 1 →
      (∀ n, n = min (s.f (PUN_PRBS_ERR.COUNT l) + 1) (2 ^ (PUN_PRBS_ERR.COUNT l).w - 1) →
        ((s.f (PUN_PRBS_CTL.LOOP l) = 1 ∧ s.f (PUN_PRBS_CTL.GEN_EN l) = 1) ∨ (s.f (PUN_PRBS_CTL.LOOP l) ≠ 1 ∧ 64 ≤ l.val) →
          Gives (exec (.prbsBitError l) s) (fun t => t.f (PUN_PRBS_ERR.COUNT l) = n ∧ Keeps s t [.regs])) ∧
        (s.f (PUN_PRBS_CTL.GEN_EN l) = 1 → s.f (PUN_PRBS_CTL.LOOP l) = 1 → s.f (PUN_PRBS_CTL.RATE l) ≠ 0 →
          Gives (exec (.prbsRateError l) s) (fun t => t.f (PUN_PRBS_ERR.COUNT l) = n ∧ t.out = s.out ++ [.patternFlip l] ∧
            Keeps s t [.regs, .out])) ∧
        (∀ v : Word, bit v.toNat 0 = true → bit v.toNat 1 = true → bit v.toNat 4 = true → bit v.toNat 5 = true →
          s.f (PUN_PRBS_CTL.LOOP l) = 1 → s.f (PUN_PRBS_CTL.PATTERN l) = bits v.toNat 2 2 →
          Gives (exec (.prbsInj l v) s) (fun t => t.f (PUN_PRBS_ERR.COUNT l) = n ∧ .patternFlip l ∈ t.out ∧ Keeps s t [.regs, .out]))))) ∧
  (∀ (s : State) (l : Fin 72), s.laneState l ≠ 7 →
    exec (.prbsBitError l) s = .next s ∧ exec (.prbsRateError l) s = .next s ∧ exec (.prbsCheckerSync l) s = .next s))

/-! ## Stage motion, flash sequencer and stage feedback (R229 to R267, R289, R297) -/

/-- The phases of a stripe: a queued stripe with a valid profile becomes ACTIVE with its profile latched and its cruise capped, one with
an invalid profile halts its job; a standby, a device that joins and a manager with workers activate none. Positioning begins at the
present end of the axes' motion; it ends in the lead wait, which ends once λ has reached START. The run-out's end, and a resume that
leaves no flash, make the stripe DONE; another resume positions again (R4, R254 to R259, R289, R297, R298). The model's choices in it:
log entries 2, 12, 23 and 29. -/
def Obligations.StripePhases : Prop :=
  (∀ (s : State) k, s.gaf.queued = some k → s.gaf.active = none → s.f MOT_CTL.ENABLE = 1 → s.safeNow = false → s.exposes = true →
    (s.profBad = none → Gives (exec .stripeActivate s) (fun t =>
      t.gaf.active = some k ∧ t.gaf.queued = none ∧ t.f MOT_STATUS.STATE = 1 ∧
      t.f MOT_VPLAN.V = min (s.f (MOT_PROF.VALUE 2)) (s.cruiseCap k.gen) % 2 ^ 32 ∧
      t.f MOT_STATUS.CAPPED = (if s.cruiseCap k.gen < s.f (MOT_PROF.VALUE 2) then 1 else 0) ∧ t.f MOT_STATUS.PACED = 0 ∧
      t.mot.prof = (List.range 8).map (fun i => s.f (MOT_PROF.VALUE i)) ∧ t.mot.t0 = 0 ∧ t.mot.armed = false ∧ t.mot.flashing = false ∧
      t.mot.plan.t0 = s.now100 ∧ t.mot.plan.x.p0 = s.mot.plan.x.final ∧ t.mot.plan.y.p0 = s.mot.plan.y.final ∧
      t.f FLS_CTL.DIR = (if k.neg = true then 1 else 0) ∧ Keeps s t [.regs, .gather, .gaf, .link, .mot, .clu, .ports, .out])) ∧
    (∀ i x, s.profBad = some i → s.ctxOpen k.ctx = true → s.gather.ctxs[k.ctx]? = some x → x.halt = none →
      Gives (exec .stripeActivate s) (fun t =>
        t.gaf.active = none ∧ t.gaf.queued = none ∧ (t.ctx k.ctx).halt = some 0x0E20 ∧ t.mot = s.mot))) ∧
  (∀ s : State, s.f MOT_CTL.ENABLE ≠ 1 ∨ s.gaf.queued = none ∨ s.gaf.active ≠ none ∨ s.exposes = false →
    exec .stripeActivate s = .next s) ∧
  (∀ s : State, s.exposes = true ↔
    s.f CLU_STATUS.STATE ≤ 1 ∨ (s.f CLU_STATUS.STATE = 4 ∧ ∀ r ∈ s.clu.members, r.state = 0)) ∧
  (∀ s : State, (s.f MOT_STATUS.STATE = 1 → Gives (exec .positioningDone s) (fun t =>
    t.f MOT_STATUS.STATE = 2 ∧ Keeps s t [.regs] ∧ KeepsFields s t [MOT_STATUS.STATE])) ∧
    (s.f MOT_STATUS.STATE ≠ 1 → exec .positioningDone s = .next s)) ∧
  (∀ (s : State) k, s.gaf.active = some k → s.f MOT_STATUS.STATE = 2 →
    ((s.f MOT_LEAD_CFG.START : Int) ≤ s.lambda → Gives (exec .runInStart s) (fun t =>
      t.f MOT_STATUS.STATE = 3 ∧ t.mot.leadOver = true ∧ t.mot.plan.t0 = s.now100 ∧ t.mot.plan.x.p0 = s.xIn k s.mot.t0 ∧
      t.mot.past = (s.mot.plan :: s.mot.past).take 16 ∧ Keeps s t [.regs, .mot] ∧ KeepsFields s t [MOT_STATUS.STATE])) ∧
    (s.lambda < (s.f MOT_LEAD_CFG.START : Int) → exec .runInStart s = .next s)) ∧
  (∀ (s : State) k, s.gaf.active = some k → s.safeNow = false →
    (s.f MOT_STATUS.STATE = 5 ∨ s.gaf.ending = true → Gives (exec .runoutDone s) (fun t =>
      t.gaf.active = none ∧ t.f MOT_STATUS.STATE = 0 ∧ t.gaf.last = (k.num, if s.gaf.ending = true then 6 else 5) ∧
      t.mot.flashing = false ∧ t.link.serve = none ∧ Keeps s t [.regs, .gather, .gaf, .mot, .link, .clu, .ports, .out])) ∧
    (s.f MOT_STATUS.STATE ≠ 5 → s.gaf.ending = false → exec .runoutDone s = .next s)) ∧
  (∀ (s : State) k, s.gaf.active = some k → s.f MOT_STATUS.STATE = 6 → s.gaf.resumeOk = true → s.f GAF_STATUS.HALTED ≠ 1 →
    s.safeNow = false →
    (s.nf k ≤ s.mot.t0 → Gives (exec .restReached s) (fun t => t.gaf.active = none ∧ t.f MOT_STATUS.STATE = 0 ∧ t.gaf.last = (k.num, if s.gaf.ending = true then 6 else 5) ∧
      Keeps s t [.regs, .gather, .gaf, .mot, .link, .clu, .ports, .out])) ∧
    (s.mot.t0 < s.nf k → Gives (exec .restReached s) (fun t =>
      t.f MOT_STATUS.STATE = 1 ∧ t.f MOT_VPLAN.V = s.mot.vc % 2 ^ 32 ∧ t.f MOT_STATUS.PACED = 0 ∧ t.mot.armed = false ∧
      t.mot.leadOver = false ∧ t.mot.t0 = s.mot.t0 ∧ t.gaf = s.gaf ∧ Keeps s t [.regs, .mot, .link]))) ∧
  (∀ s : State, s.gaf.resumeOk = false → exec .restReached s = .next s)

/-- The flash sequencer: t₀ is armed in time under its stripe's generation, with every lane put to its first plane; the stripe is halted
when it is late, and its job when its nonce does not exceed the last one of its slot. The strobe lock fixes A(t, 0) from the
prediction, not earlier than 2τ ahead for the first flash, sends the flash's record on DL0, and halts at a stall or an interval below
T_min; a plane strobe leaves at its slot of a committed flash, and the last one begins the run-out (R31, R206, R207, R209, R227, R256,
R263 to R267). The model's choices in it: log entries 2, 15, 30, 49 and 51. -/
def Obligations.FlashSequencer : Prop :=
  (∀ (s : State) k d, s.gaf.active = some k → s.watching = true → s.armAhead k = some d →
    (s.armMin k ≤ d → (∀ g, s.mayArm k = true →
      (s.itemGate 3 k.num k.gen = (g, true) →
        (g.nonceBad k = false → Gives (exec .t0Arm s) (fun t =>
          t.mot.armed = true ∧ t.mot.begun = true ∧ t.mot.flashing = true ∧ t.mot.next = s.mot.t0 ∧ t.mot.committed = s.mot.t0 ∧
          t.mot.struck = (s.mot.t0, 0) ∧ t.f MOT_STATUS.STATE = 4 ∧ t.link.nonce = g.nonceOf k ∧
          (∀ p ∈ t.link.lanes, p.next = (s.mot.t0, 0) ∧ p.out = [] ∧ p.replay = [] ∧ p.sync = decide (g.genF 2 k.gen PUN_KS_CTL.EN = 1)) ∧
          Keeps s t [.regs, .gaf, .root, .link, .mot])) ∧
        (∀ x, g.nonceBad k = true → s.mot.badNonce = false → s.ctxOpen k.ctx = true → s.gather.ctxs[k.ctx]? = some x → x.halt = none →
          Gives (exec .t0Arm s) (fun t => (t.ctx k.ctx).halt = some 0x0C20 ∧ t.mot.badNonce = true ∧ t.mot.armed = false)) ∧
        (g.nonceBad k = true → s.mot.badNonce = true → exec .t0Arm s = .next g)) ∧
      (s.itemGate 3 k.num k.gen = (g, false) → exec .t0Arm s = .next g)) ∧
      (s.mayArm k = false → exec .t0Arm s = .next s)) ∧
    (d < s.armMin k → Gives (exec .t0Arm s) (fun t => t.f GAF_STATUS.HALTED = 1 ∧ t.f GAF_HALT_CAUSE.CODE = 0x0E13 ∧
      t.f GAF_HALT_FLASH.TH = s.mot.t0 % 2 ^ 32 ∧ t.mot.armed = false))) ∧
  (∀ s : State, s.watching = false ∨ s.gaf.active = none → exec .t0Arm s = .next s) ∧
  (∀ (s : State) k, s.gaf.active = some k → s.live s.mot.next = true → s.mot.next < s.nf k →
    (s.lockFar k s.mot.next = true → exec .strobeLock s = .next s) ∧
    (s.lockFar k s.mot.next = false → s.slow k = true ∨ s.predict k s.mot.next = none → s.f GAF_STATUS.HALTED ≠ 1 → Gives (exec .strobeLock s) (fun t =>
      t.f GAF_STATUS.HALTED = 1 ∧ t.f GAF_HALT_CAUSE.CODE = 0x0E11 ∧ t.mot.a0 = s.mot.a0)) ∧
    (s.lockFar k s.mot.next = false → s.slow k = false → ∀ a, s.predict k s.mot.next = some a →
      (s.mot.next = s.mot.t0 → Gives (exec .strobeLock s) (fun t =>
        mget t.mot.a0 s.mot.next = some a.toNat ∧ t.mot.next = s.mot.next + 1 ∧ t.f FLS_FLASH.T = s.mot.next % 2 ^ 32 ∧
        t.f FLS_A0.A0 = a.toNat % 2 ^ 64 ∧ SentRecord s t k a.toNat s.now100 ∧ Keeps s t [.regs, .mot, .out, .freeCount] ∧
        KeepsFields s t [FLS_FLASH.T, FLS_A0.A0])) ∧
      (s.mot.next ≠ s.mot.t0 → ∀ p, mget s.mot.a0 (s.mot.next - 1) = some p →
        ((p : Int) + s.tMin k.gen ≤ a → Gives (exec .strobeLock s) (fun t =>
          mget t.mot.a0 s.mot.next = some a.toNat ∧ t.mot.next = s.mot.next + 1 ∧ t.f FLS_FLASH.T = s.mot.next % 2 ^ 32 ∧
          t.f FLS_A0.A0 = a.toNat % 2 ^ 64 ∧ SentRecord s t k a.toNat (p + s.slotsTo k.gen (s.planes k.gen - 1)) ∧
          (98 * (a.toNat - p) < 100 * s.tMin k.gen → t.f MOT_STATUS.WARN_SEEN = 1 ∧ t.mot.warned = true) ∧
          Keeps s t [.regs, .mot, .out, .freeCount, .journal])) ∧
        (a < (p : Int) + s.tMin k.gen → s.f GAF_STATUS.HALTED ≠ 1 → Gives (exec .strobeLock s) (fun t =>
          t.f GAF_STATUS.HALTED = 1 ∧ t.f GAF_HALT_CAUSE.CODE = 0x0E10 ∧ t.f GAF_HALT_FLASH.TH = s.mot.next % 2 ^ 32 ∧
          t.mot.a0 = s.mot.a0))))) ∧
  (∀ s : State, s.gaf.active = none ∨ s.live s.mot.next = false → exec .strobeLock s = .next s) ∧
  (∀ (s : State) k t n a, s.gaf.active = some k → s.mot.struck = (t, n) → mget s.mot.a0 t = some a → s.live t = true →
    t < s.mot.committed → t < s.nf k → Gives (exec .planeStrobe s) (fun u =>
      u.out = s.out ++ [.strobe t n (a + s.slotsTo k.gen n) (s.strobeWidth k.gen n) (decide (s.genF 3 k.gen FLS_STB_CTL.MIRROR_EN = 1))] ∧
      u.mot.struck = (if n + 1 < s.planes k.gen then (t, n + 1) else (t + 1, 0)) ∧
      (t + 1 = s.nf k → s.planes k.gen ≤ n + 1 → s.f GAF_STATUS.HALTED ≠ 1 → s.safeNow = false →
        u.f MOT_STATUS.STATE = 5 ∧ u.mot.flashing = false) ∧ u.mot.plan = s.mot.plan ∧
      (t + 1 ≠ s.nf k → u.f MOT_STATUS.STATE = s.f MOT_STATUS.STATE ∧ u.mot.flashing = s.mot.flashing) ∧
      Keeps s u [.regs, .gaf, .mot, .out])) ∧
  (∀ s : State, s.mot.committed ≤ s.mot.struck.1 → exec .planeStrobe s = .next s) ∧
  (∀ (s : State) gen n, s.slotsTo gen (n + 1) = s.slotsTo gen n + s.slotLen gen n ∧ 1320 ≤ s.slotLen gen n ∧
    s.strobeWidth gen n + s.genF 3 gen FLS_STB_CTL.GAP ≤ s.slotLen gen n)

/-- Pacing slows the stripe to the target between VMIN and the present plan and lets it return to its cruise, each as a new plan from the
present instant, until the closing settle; the setpoint frame of 44 bytes leaves on each enabled port; a return frame is checked, and
a fault of the servo, a stale SEQ or a missing enable is shown (R258 to R262). While no stripe is ACTIVE the frame's stripe number is
the model's free value (log entry 4). The model's choices in it: log entries 2 and 23. -/
def Obligations.PacingAndServo : Prop :=
  (∀ (s : State) k, s.gaf.active = some k → s.mot.flashing = true → s.f MOT_STATUS.STATE = 4 → s.closing k = false →
    (s.lambda < (s.f MOT_LEAD_CFG.PACE : Int) → s.paceTarget < s.f MOT_VPLAN.V → Gives (exec .paceEval s) (fun t =>
      t.f MOT_VPLAN.V = s.paceTarget % 2 ^ 32 ∧ t.f MOT_STATUS.PACED = 1 ∧ t.f MOT_STATUS.PACE_SEEN = 1 ∧
      t.mot = { s.mot.setPlan (s.replan k s.paceTarget) with colMark := s.par.total } ∧ Keeps s t [.regs, .mot, .journal, .gaf])) ∧
    ((s.f MOT_LEAD_CFG.PACE : Int) ≤ s.lambda → (s.f MOT_LEAD_CFG.START : Int) ≤ s.lambda → s.f MOT_VPLAN.V < s.mot.vc →
      Gives (exec .paceEval s) (fun t => t.f MOT_VPLAN.V = s.mot.vc % 2 ^ 32 ∧ t.f MOT_STATUS.PACED = 0 ∧
        t.mot = { s.mot.setPlan (s.replan k s.mot.vc) with colMark := s.par.total } ∧ Keeps s t [.regs, .mot] ∧
        KeepsFields s t [MOT_VPLAN.V, MOT_STATUS.PACED])) ∧
    (s.f MOT_VPLAN.V ≤ s.paceTarget → s.mot.vc ≤ s.f MOT_VPLAN.V →
      exec .paceEval s = .next { s with mot := { s.mot with colMark := s.par.total } })) ∧
  (∀ s : State, s.gaf.active = none ∨ s.mot.flashing = false ∨ s.f MOT_STATUS.STATE ≠ 4 ∨ (∃ k, s.gaf.active = some k ∧ s.closing k = true) →
    exec .paceEval s = .next s) ∧
  (∀ s : State, s.mot.prof.getD 7 0 ≤ s.paceTarget ∧ s.paceTarget ≤ max (s.mot.prof.getD 7 0) (s.f MOT_VPLAN.V)) ∧
  (∀ (s : State) k, s.f MOT_CTL.ENABLE = 1 → s.gaf.active = some k → s.f MOT_CTL.RET0_EN ≠ 1 → s.f MOT_CTL.RET1_EN ≠ 1 →
    Gives (exec .setpointFrame s) (fun t =>
      t.out = s.out ++ (if s.f MOT_CTL.SP0_EN = 1 then [.setpoint 0 (s.setpointBytes k.num)] else []) ++
        (if s.f MOT_CTL.SP1_EN = 1 then [.setpoint 1 (s.setpointBytes k.num)] else []) ∧
      t.mot = { s.mot with spSeq := (s.mot.spSeq + 1) % 65536 } ∧ Keeps s t [.mot, .out])) ∧
  (∀ s : State, s.f MOT_CTL.ENABLE = 1 → s.gaf.active = none → s.f MOT_CTL.RET0_EN ≠ 1 → s.f MOT_CTL.RET1_EN ≠ 1 →
    Gives (exec .setpointFrame s) (fun t => (∃ n, n < 2 ^ 16 ∧
      t.out = s.out ++ (if s.f MOT_CTL.SP0_EN = 1 then [.setpoint 0 (s.setpointBytes n)] else []) ++
        (if s.f MOT_CTL.SP1_EN = 1 then [.setpoint 1 (s.setpointBytes n)] else [])) ∧
      t.mot = { s.mot with spSeq := (s.mot.spSeq + 1) % 65536 } ∧ Keeps s t [.mot, .out, .freeCount])) ∧
  (∀ (s : State) n, (s.setpointBytes n).length = 44) ∧
  (∀ s : State, s.f MOT_CTL.ENABLE ≠ 1 → exec .setpointFrame s = .next s) ∧
  (∀ (s : State) (port : Fin 2) bytes, s.f MOT_CTL.ENABLE = 1 → s.checksPort port = true →
    (returnOk bytes = false → Gives (exec (.servoReturn port bytes) s) (fun t =>
      t.f MOT_CNT_SPBAD.COUNT = min (s.f MOT_CNT_SPBAD.COUNT + 1) (2 ^ MOT_CNT_SPBAD.COUNT.w - 1) ∧ Keeps s t [.regs])) ∧
    (returnOk bytes = true → ∀ seq, seq = ofLE ((bytes.drop 2).take 2) →
      (bit (bytes.getD 1 0).toNat 0 = true → bit (bytes.getD 1 0).toNat 1 = false → (s.mot.spSeq + 131071 - seq) % 65536 ≤ 2 →
        Gives (exec (.servoReturn port bytes) s) (fun t =>
          t.mot = { s.mot with
            retSeq := s.mot.retSeq.set port (some seq), retStat := s.mot.retStat.set port (bytes.getD 1 0).toNat,
            retMiss := s.mot.retMiss.set port 0 } ∧ Keeps s t [.mot])) ∧
      (bit (bytes.getD 1 0).toNat 0 = false ∨ bit (bytes.getD 1 0).toNat 1 = true ∨ 2 < (s.mot.spSeq + 131071 - seq) % 65536 →
        Gives (exec (.servoReturn port bytes) s) (fun t => t.f MOT_STATUS.SERVO_SEEN = 1 ∧
          (s.mot.flashing = true → s.gaf.active.isSome = true → s.f GAF_STATUS.HALTED ≠ 1 →
            t.f GAF_STATUS.HALTED = 1 ∧ t.f GAF_HALT_CAUSE.CODE = 0x0E12))))) ∧
  (∀ (s : State) (port : Fin 2) bytes, s.checksPort port = false → exec (.servoReturn port bytes) s = .next s)

/-- Channels: a changed level of a quadrature input is seen in the next sample and passes the filter once FILT + 1 samples have seen it;
then the channel counts one, by DIR_INV, with the time of the sample, and faults where both inputs change at once. A good sin/cos
sample makes the position valid and moves it by the phase difference; samples outside the window fault the channel after FILT + 1; an
SSI read clocks the line and its frame gives the position, its speed and its stamp, or the fault of its cause; REARM tracks again from
the kept position and keeps the last accepted frame; a channel that is enabled starts at 0; a disabled channel faults with cause 8; a
channel that is off takes nothing (R229 to R236, R239, R243, R246). The order of the levels is the model's presumption (log entry 32).
The model's choices in it: log entries 2, 32 and 52. -/
def Obligations.FeedbackChannels : Prop :=
  (∀ (s : State) (n : Fin 18) c level k, isQuad n = true → s.chans[n.val]? = some c → k = cdiv (s.mono100 * 2) (sampleGap n) →
    (level % 4 ≠ c.raw → Gives (exec (.quadEdge n level) s) (fun t =>
      t.chan n = { c with
        raw := level % 4, aAt := if bit (level % 4) 0 = bit c.raw 0 then c.aAt else k,
        bAt := if bit (level % 4) 1 = bit c.raw 1 then c.bAt else k } ∧
      (quadInstant n (k + s.f (SFB_CH_CFG.FILT n)) + 1, Later.quad n k) ∈ t.later ∧ Keeps s t [.chans, .later])) ∧
    (level % 4 = c.raw → exec (.quadEdge n level) s = .next s)) ∧
  (∀ (s : State) (n : Fin 18) level, isQuad n = false → exec (.quadEdge n level) s = .next s) ∧
  (∀ (s : State) (n : Fin 18) k c a b l, s.chOn n = true → s.chans[n.val]? = some c → c.track = true →
    a = (decide (c.aAt = k) && (bit c.raw 0 != bit c.level 0)) → b = (decide (c.bAt = k) && (bit c.raw 1 != bit c.level 1)) →
    l = b2n (if a = true then bit c.raw 0 else bit c.level 0) + 2 * b2n (if b = true then bit c.raw 1 else bit c.level 1) →
    (∀ d : Int, a ≠ b → (d = 1 ∧ (grayPlace l + 4 - grayPlace c.level) % 4 = 1 ∨ d = -1 ∧ (grayPlace l + 4 - grayPlace c.level) % 4 ≠ 1) →
      (s.quadStable n k).chPos n = sgn 64 (ofInt 64 (s.chPos n + (if s.f (SFB_CH_CFG.DIR_INV n) = 1 then -d else d))) ∧
      (s.quadStable n k).f (SFB_CH_STAMP.NS n) = s.timeAt (quadInstant n k) / 10 % 2 ^ 64 ∧ ((s.quadStable n k).chan n).level = l) ∧
    (a = true → b = true → (s.quadStable n k).f (SFB_CH_STATUS.FAULT n) = 1 ∧ (s.quadStable n k).f (SFB_CH_STATUS.CAUSE n) = 3 ∧
      (s.quadStable n k).f (SFB_CH_STATUS.POS_VALID n) = 0 ∧ (s.quadStable n k).f (SFB_CH_STATUS.REF_LOST n) = 1 ∧
      (s.quadStable n k).chPos n = s.chPos n ∧ ((s.quadStable n k).chan n).track = false) ∧
    (a = false → b = false → (s.quadStable n k).regs = s.regs)) ∧
  (∀ (s : State) (n : Fin 4) rawS rawC, s.chOn n = false → exec (.aeSample n rawS rawC) s = .next s) ∧
  (∀ (s u : State) (n : Fin 4) rawS rawC c, s.chOn n = true → s.chans[n.val]? = some c →
    u = (s.put (SFB_AE_RAW.SIN n) rawS).put (SFB_AE_RAW.COS n) rawC →
    (c.track = false → exec (.aeSample n rawS rawC) s = .next u) ∧
    (∀ y x, c.track = true → y = ((rawS % 4096 : Nat) : Int) - 2048 - s.fs (SFB_AE_CORR.OFF_S n) →
      x = rne ((((rawC % 4096 : Nat) : Int) - 2048 - s.fs (SFB_AE_CORR.OFF_C n)) * s.f (SFB_AE_GAIN.GAIN_C n)) 4096 →
      (y * y + x * x < s.f (SFB_AE_AMP_LO.A2 n) ∨ s.f (SFB_AE_AMP_HI.A2 n) < y * y + x * x →
        (c.bad < s.f (SFB_CH_CFG.FILT n) → exec (.aeSample n rawS rawC) s = .next (u.modChan n (fun c => { c with bad := c.bad + 1 }))) ∧
        (s.f (SFB_CH_CFG.FILT n) ≤ c.bad → Gives (exec (.aeSample n rawS rawC) s) (fun t =>
          t.f (SFB_CH_STATUS.FAULT n) = 1 ∧ t.f (SFB_CH_STATUS.CAUSE n) = 1 ∧ t.f (SFB_CH_STATUS.POS_VALID n) = 0))) ∧
      ((s.f (SFB_AE_AMP_LO.A2 n) : Int) ≤ y * y + x * x → y * y + x * x ≤ s.f (SFB_AE_AMP_HI.A2 n) →
        ∀ p v, (u.modChan n (fun c => { c with bad := 0 })).phi y x = (p, v) →
        (c.phi = none → Gives (exec (.aeSample n rawS rawC) s) (fun t =>
          t.f (SFB_CH_STATUS.POS_VALID n) = 1 ∧ t.chPos n = s.chPos n ∧ (t.chan n).phi = some p ∧
          t.f (SFB_CH_STAMP.NS n) = s.timeAt s.mono100 / 10 % 2 ^ 64)) ∧
        (∀ q d, c.phi = some q → d = ((p : Int) - q + 2048) % 4096 - 2048 →
          (d.natAbs ≤ 1536 → Gives (exec (.aeSample n rawS rawC) s) (fun t => (t.chan n).phi = some p ∧
            t.chPos n = sgn 64 (ofInt 64 (s.chPos n + (if s.f (SFB_CH_CFG.DIR_INV n) = 1 then -d else d))))) ∧
          (1536 < d.natAbs → Gives (exec (.aeSample n rawS rawC) s) (fun t =>
            t.f (SFB_CH_STATUS.FAULT n) = 1 ∧ t.f (SFB_CH_STATUS.CAUSE n) = 2)))))) ∧
  (∀ (s : State) (n : Fin 2) c, s.chOn (8 + n) = true → s.chans[8 + n.val]? = some c →
    (c.reading = false → Gives (exec (.ssiRead n) s) (fun t =>
      t.chan (8 + n) = { c with reading := true, latch := s.now, latchAt := s.mono100 } ∧
      t.out = s.out ++ [.ssiClock n (if s.f (SFB_SE_CFG.DOUBLE n) = 1 then 2 * s.seBits n + 1 else s.seBits n)] ∧
      Keeps s t [.chans, .out])) ∧
    (c.reading = true → exec (.ssiRead n) s = .next s) ∧
    (∀ line frame, c.reading = false → exec (.ssiFrame n line frame) s = .next s) ∧
    (∀ line frame, c.reading = true → c.track = false → Gives (exec (.ssiFrame n line frame) s) (fun t =>
      t.chan (8 + n) = { c with reading := false } ∧ Keeps s t [.chans])) ∧
    (∀ line frame pos, c.reading = true → c.track = true →
      pos = msbFirst (decide (s.f (SFB_SE_CFG.GRAY n) = 1)) (frame.take (s.sePbits n)) false 0 →
      (s.seCause n line frame pos = 0 → Gives (exec (.ssiFrame n line frame) s) (fun t =>
        t.f (SFB_CH_POS.POS (8 + n)) = pos % 2 ^ 64 ∧ t.f (SFB_CH_STAMP.NS (8 + n)) = c.latch % 2 ^ 64 ∧
        t.f (SFB_CH_STATUS.POS_VALID (8 + n)) = 1 ∧ (t.chan (8 + n)).reading = false ∧
        (t.chan (8 + n)).lastSsi = some { pos := pos, t := c.latch * 10 } ∧
        (∀ e, c.lastSsi = some e → t.fs (SFB_CH_SPEED.SPEED (8 + n)) =
          sgn 48 (ofInt 48 (rne (((pos : Int) - e.pos) * 2560000000000) ((c.latch * 10 : Nat) - (e.t : Int))))))) ∧
      (s.seCause n line frame pos ≠ 0 → Gives (exec (.ssiFrame n line frame) s) (fun t =>
        t.f (SFB_CH_STATUS.FAULT (8 + n)) = 1 ∧ t.f (SFB_CH_STATUS.CAUSE (8 + n)) = s.seCause n line frame pos ∧
        t.f (SFB_CH_STATUS.POS_VALID (8 + n)) = 0 ∧ (t.chan (8 + n)).track = false)))) ∧
  (∀ (s : State) (n : Fin 2) line frame, s.chOn (8 + n) = false →
    exec (.ssiRead n) s = .next s ∧ exec (.ssiFrame n line frame) s = .next s) ∧
  (∀ (s : State) (n : Fin 18) (v : Word) c, s.chOn n = true → s.chans[n.val]? = some c →
    (bit v.toNat 0 = true → bit v.toNat 12 = true → c.track = false → Gives (exec (.rearm n v) s) (fun t =>
      (t.chan n).track = true ∧ (isQuad n = true → t.f (SFB_CH_STATUS.POS_VALID n) = 1) ∧ t.chPos n = s.chPos n ∧
      (t.chan n).lastSsi = c.lastSsi ∧ (t.chan n).run = c.run ∧ (t.chan n).dir = c.dir ∧
      t.f (SFB_CH_CFG.FILT n) = bits v.toNat 4 4 ∧ Keeps s t [.regs, .chans])) ∧
    (bit v.toNat 0 = false → Gives (exec (.channelDisable n v) s) (fun t =>
      t.f (SFB_CH_CFG.EN n) = 0 ∧ t.f (SFB_CH_STATUS.FAULT n) = 1 ∧ t.f (SFB_CH_STATUS.CAUSE n) = 8 ∧
      t.f (SFB_CH_STATUS.POS_VALID n) = 0 ∧ t.f (SFB_CH_STATUS.REF_LOST n) = 1 ∧ (t.chan n).track = false ∧
      (s.mono100 + sfbToSeq, Later.fault n 8) ∈ t.later))) ∧
  (∀ (s : State) (n : Fin 18) (v : Word) c, s.chOn n = false → s.chans[n.val]? = some c → s.f SFB_CTL.ENABLE = 1 →
    bit v.toNat 0 = true → bit v.toNat 12 = true → Gives (exec (.rearm n v) s) (fun t =>
      t.f (SFB_CH_CFG.EN n) = 1 ∧ t.chPos n = 0 ∧ (t.chan n).track = true ∧ (t.chan n).lastSsi = none ∧ (t.chan n).idxRef = none ∧
      Keeps s t [.regs, .chans, .journal])) ∧
  (∀ (s : State) (n : Fin 18) (v : Word), (bit v.toNat 12 = false → exec (.rearm n v) s = .next s) ∧
    (bit v.toNat 0 = true → exec (.channelDisable n v) s = .next s))

/-- Index, standstill, compare and emulation: an index edge of the chosen direction latches position and time, on a quadrature channel
once its last sample has passed the filter, the first one as the reference, and shows drift beyond the tolerance; the standstill
timeout zeroes the speed, unless an edge falls in the same cycle; a compare arms only ahead of a valid position, fires once when it is
reached or passed, and its pulse leaves at its channel's latency; an emulation output follows its channel edge by edge, in quadrature
on its two pins, and shows a lag above 65,535 (R237 to R242, R248 to R251). The model's choices in it: log entries 2, 32 and 52. -/
def Obligations.FeedbackFunctions : Prop :=
  (∀ (s : State) (n : Fin 8) falling, s.chOn n = false ∨ s.f (SFB_CH_CFG.IDX_EN n) ≠ 1 ∨ s.f (SFB_CH_STATUS.POS_VALID n) ≠ 1 →
    exec (.indexEdge n falling) s = .next s) ∧
  (∀ (s : State) (n : Fin 8) c, s.chOn n = true → s.f (SFB_CH_CFG.IDX_EN n) = 1 → s.f (SFB_CH_STATUS.POS_VALID n) = 1 →
    s.chans[n.val]? = some c → ∀ falling, falling = decide (s.f (SFB_CH_CFG.IDX_EDGE n) = 1) →
    (isAe n = true → exec (.indexEdge n falling) s = .next (s.latchIndex n s.now)) ∧
    (isAe n = false → Gives (exec (.indexEdge n falling) s) (fun t =>
      (quadInstant n (s.mono100 * 2 / sampleGap n + s.f (SFB_CH_CFG.FILT n)) + 2, Later.index n s.now) ∈ t.later ∧
      Keeps s t [.later])) ∧ exec (.indexEdge n (!falling)) s = .next s) ∧
  (∀ (s : State) (n : Fin 8) stamp now c, s.chans[n.val]? = some c →
    (s.f (SFB_CH_STATUS.POS_VALID n) ≠ 1 → s.come now (.index n stamp) = s) ∧
    (s.f (SFB_CH_STATUS.POS_VALID n) = 1 → ∀ t, t = s.latchIndex n stamp → s.come now (.index n stamp) = t ∧
      t.fs (SFB_CH_IDX_POS.POS n) = s.chPos n ∧ t.f (SFB_CH_IDX_STAMP.NS n) = stamp % 2 ^ 64 ∧ t.f (SFB_CH_STATUS.IDX_SEEN n) = 1 ∧
      (c.idxRef = none → (t.chan n).idxRef = some (s.chPos n)) ∧
      (∀ r, c.idxRef = some r → s.f (SFB_CH_IDX_PITCH.PITCH n) = 0 → s.f (SFB_CH_IDX_TOL.TOL n) < (s.chPos n - r).natAbs →
        t.f (SFB_CH_STATUS.DRIFT n) = 1) ∧
      (∀ r, c.idxRef = some r → s.chPos n = r → t.f (SFB_CH_STATUS.DRIFT n) = s.f (SFB_CH_STATUS.DRIFT n)) ∧
      Keeps s t [.regs, .chans, .journal])) ∧
  (∀ (s : State) (n : Fin 18) (v : Word), bit v.toNat 31 = true → Gives (exec (.refClr n v) s) (fun t =>
    (t.chan n).idxRef = none ∧ t.f (SFB_CH_IDX_TOL.TOL n) = bits v.toNat 0 31 ∧ Keeps s t [.regs, .chans] ∧
    KeepsFields s t [SFB_CH_IDX_TOL.TOL n])) ∧
  (∀ (s : State) (n : Fin 18) (v : Word), bit v.toNat 31 = false → exec (.refClr n v) s = .next s) ∧
  (∀ (s : State) (n : Fin 18), s.chOn n = false ∨ isSe n = true ∨ s.edgeNow n = true → exec (.standstillTimeout n) s = .next s) ∧
  (∀ (s : State) (n : Nat), s.later = [] →
    (s.edgeNow n = true ↔ (s.chan n).run ≠ [] ∧ (s.chan n).edgeAt / 50 = s.mono100 / 50)) ∧
  (∀ (s : State) (n : Fin 18) c, s.chOn n = true → isSe n = false → s.edgeNow n = false → s.chans[n.val]? = some c → Gives (exec (.standstillTimeout n) s) (fun t =>
    t.f (SFB_CH_SPEED.SPEED n) = 0 ∧ t.f (SFB_CH_SPEED.STANDSTILL n) = 1 ∧ t.f (SFB_CH_STATUS.STANDSTILL n) = 1 ∧
    (t.chan n).run = [] ∧ (t.chan n).dir = none ∧ t.f (SFB_CH_SPEED.DIR n) = s.f (SFB_CH_SPEED.DIR n) ∧
    (∃ x, (s.mono100 + sfbToSeq, Later.sample n x) ∈ t.later ∧ x.speed = 0 ∧ x.pos = s.chPos n) ∧
    Keeps s t [.regs, .chans, .later])) ∧
  (∀ (s : State) (c : Fin 4) (v : Word) n, bit v.toNat 6 = true → n = bits v.toNat 0 5 → n < 18 → s.f (SFB_CH_STATUS.POS_VALID n) = 1 →
    ((bit v.toNat 5 = true ∧ s.fs (SFB_CMP_TARGET.TARGET c) < s.chPos n ∨
        bit v.toNat 5 = false ∧ s.chPos n < s.fs (SFB_CMP_TARGET.TARGET c)) → Gives (exec (.compareArm c v) s) (fun t =>
      t.f (SFB_CMP_CTL.ARMED c) = 1 ∧ t.f (SFB_CMP_CTL.SRC c) = n ∧ t.f (SFB_CMP_CTL.WIDTH c) = bits v.toNat 8 8 ∧ Keeps s t [.regs])) ∧
    (s.chPos n = s.fs (SFB_CMP_TARGET.TARGET c) → Gives (exec (.compareArm c v) s) (fun t =>
      t.f (SFB_CMP_CTL.ARMED c) = 0 ∧ t.f SFB_STATUS.MISS_SEEN = 1 ∧ Keeps s t [.regs, .journal]))) ∧
  (∀ (s : State) (c : Fin 4) (v : Word), bit v.toNat 6 = false → exec (.compareArm c v) s = .next s) ∧
  (∀ (s : State) (n at_ : Nat) (p d : Int) (c : Fin 4),
    d = (if s.f (SFB_CMP_CTL.DIR c) = 1 then s.fs (SFB_CMP_TARGET.TARGET c) - p else p - s.fs (SFB_CMP_TARGET.TARGET c)) →
    (d < 0 → s.compareAt n at_ p c = s) ∧
    (0 ≤ d → s.f (SFB_CMP_STEP.STEP c) = 0 → (s.compareAt n at_ p c).f (SFB_CMP_CTL.ARMED c) = 0 ∧
      (s.compareAt n at_ p c).f (SFB_CMP_FIRED.COUNT c) =
        min (s.f (SFB_CMP_FIRED.COUNT c) + 1) (2 ^ (SFB_CMP_FIRED.COUNT c).w - 1) ∧
      (at_ + s.pinLatency n, Later.compare c (s.on (SFB_CMP_CTL.PIN_EN c)) (max 1 (s.f (SFB_CMP_CTL.WIDTH c)))) ∈
        (s.compareAt n at_ p c).later ∧ Keeps s (s.compareAt n at_ p c) [.regs, .later])) ∧
  (∀ (s : State) (e : Fin 2), s.f (SFB_EMU_CTL.EN e) = 1 → s.f (SFB_EMU_CTL.OVR e) ≠ 1 →
    (65535 < (s.emuLag e).natAbs → (s.emuCheck e).f (SFB_EMU_CTL.OVR e) = 1 ∧ (s.emuCheck e).f SFB_STATUS.OVR_SEEN = 1 ∧
      Keeps s (s.emuCheck e) [.regs, .journal]) ∧
    ((s.emuLag e).natAbs ≤ 65535 → s.emuCheck e = s)) ∧
  (∀ (s : State) (e : Fin 2) (v : Word), bit v.toNat 0 = false → exec (.emuEnable e v) s = .next s) ∧
  (∀ (s : State) (e : Fin 2) (v : Word), bit v.toNat 0 = true → s.f (SFB_EMU_CTL.EN e) ≠ 1 → Gives (exec (.emuEnable e v) s) (fun t =>
    t.f (SFB_EMU_CTL.EN e) = 1 ∧ t.f (SFB_EMU_CTL.SRC e) = bits v.toNat 1 5 ∧
    t.emus = s.emus.set e { c0 := s.chPos (bits v.toNat 1 5), out := 0 } ∧ Keeps s t [.regs, .emus, .journal])) ∧
  (∀ (s : State) (e : Fin 2) x, s.f (SFB_EMU_CTL.EN e) = 1 → s.emus[e.val]? = some x →
    (s.emuLag e ≠ 0 → Gives (exec (.emuEdge e) s) (fun t => (t.emuLag e).natAbs + 1 = (s.emuLag e).natAbs ∧
      (∃ d : Int, t.out = s.out ++ [.emu e (x.out + d)] ∧ t.emus = s.emus.set e { x with out := x.out + d } ∧
        (d = 1 ∧ (grayPlace (t.emLevel e) + 4 - grayPlace (s.emLevel e)) % 4 = 1 ∨
          d = -1 ∧ (grayPlace (t.emLevel e) + 4 - grayPlace (s.emLevel e)) % 4 = 3)) ∧
      Keeps s t [.emus, .out, .power])) ∧
    (s.emuLag e = 0 → exec (.emuEdge e) s = .next s)) ∧
  (∀ (s : State) (e : Fin 2), s.f (SFB_EMU_CTL.EN e) ≠ 1 → exec (.emuEdge e) s = .next s)

/-! ## Cluster, ports and host access (R314 to R342, R365 to R399) -/

/-- Granting: a worker places a grant in its slot of the data memory, rings Gaffer and answers, also to one that it holds already or has
no slot for; a stale term is counted, and every message taken raises the highest term seen; a manager's record follows STATUS, a
worker's own or one relayed by a manager below, an acknowledged grant is settled, a conflicting one ends granting to that worker; what
a worker has not acknowledged is sent again; a member that falls silent is lost; a manager that is a worker records what its uplink
brings with its own standby and sends it on to a worker that takes grants, and passes STATUS and answers upward; what is not for the
device, or comes while its ports carry no traffic, is ignored. Which worker an answer of a manager below means is the model's choice
(log entry 29). A message leaves on each cluster port under the next SEQ, with its cluster, sender, receiver, term and body (R325,
R332 to R336, R338, R342). The model's choices in it: log entries 2, 26 and 29. -/
def Obligations.ClusterGranting : Prop :=
  (∀ (s : State) term, (s.seeTerm term).f CLU_TERM.TERM = max (s.f CLU_TERM.TERM) term % 2 ^ 32 ∧ Keeps s (s.seeTerm term) [.regs] ∧
    (s.slaved = true → s.f CLU_TERM.TERM < term → (s.seeTerm term).f THY_REF_CTL.HOLD = 1)) ∧
  (∀ (s : State) up cluster dst, s.cluAccepts up cluster dst = true ↔ (if up = true then s.uplinkUp else s.chainUp) = true ∧
    s.cluState ≠ 0 ∧ cluster = s.f CLU_CFG.CLUSTER ∧ (dst = s.f CLU_CFG.MEMBER ∨ dst = 0 ∨ dst = 255)) ∧
  (∀ (s : State) (m : Fin 8) (v : Word), ∃ u : State, exec (.registerWrite m CLU_GRANT_CFG.off 4 v) s = .next u.grantAll ∧
    u.f CLU_GRANT_CFG.DEPTH = bits v.toNat CLU_GRANT_CFG.DEPTH.lo CLU_GRANT_CFG.DEPTH.w ∧ Keeps s u [.regs]) ∧
  (∀ (s : State) cluster src dst term gseq worker desc, s.cluAccepts false cluster dst = true → s.cluState = 1 →
    (term < s.f CLU_TERM.TERM → Gives (exec (.grant cluster (src, false) dst term gseq worker desc) s) (fun t =>
      t.f CLU_CNT_STALE.COUNT = min (s.f CLU_CNT_STALE.COUNT + 1) (2 ^ CLU_CNT_STALE.COUNT.w - 1) ∧ Keeps s t [.regs])) ∧
    (s.f CLU_TERM.TERM ≤ term →
      (∀ e, s.clu.placed.find? (fun x => decide (x.1 = gseq)) = some e →
        exec (.grant cluster (src, false) dst term gseq worker desc) s =
          .next ((s.seeTerm term).cluSend false 17 0 [gseq, if e.2 = desc then 1 else 3])) ∧
      (∀ n, s.clu.placed.find? (fun x => decide (x.1 = gseq)) = none → s.cellChecked 15 (s.slotAddr gseq + 48) = .good →
        n = s.rawData 15 (s.slotAddr gseq + 48) →
        (n ≠ 1 → ∃ u : State, exec (.grant cluster (src, false) dst term gseq worker desc) s = .next (u.cluSend false 17 0 [gseq, 0]) ∧
          (gseq, desc) ∈ u.clu.placed ∧ u.clu.heldSeq = max s.clu.heldSeq gseq ∧ u.f CLU_TERM.TERM = term % 2 ^ 32 ∧
          rdLE u.gaf.dmem (s.slotAddr gseq + 40) 8 = gseq % 2 ^ 64 ∧ rdLE u.gaf.dmem (s.slotAddr gseq + 48) 8 = 1 ∧ u.out = s.out) ∧
        (n = 1 → exec (.grant cluster (src, false) dst term gseq worker desc) s =
          .next ((s.seeTerm term).cluSend false 17 0 [gseq, 2]))))) ∧
  (∀ (s : State) cluster src dst term gseq worker desc, s.cluAccepts true cluster dst = true → s.cluState = 4 → s.f CLU_CFG.UPLINK = 1 →
    (term < s.clu.upTerm → Gives (exec (.grant cluster (src, true) dst term gseq worker desc) s) (fun t =>
      t.f CLU_CNT_STALE.COUNT = min (s.f CLU_CNT_STALE.COUNT + 1) (2 ^ CLU_CNT_STALE.COUNT.w - 1) ∧ Keeps s t [.regs])) ∧
    (s.clu.upTerm ≤ term → 1 ≤ worker → worker ≤ 16 → s.clu.members.length = 16 →
      ((∃ g ∈ s.clu.grants, g.worker = worker ∧ g.gseq = gseq) → exec (.grant cluster (src, true) dst term gseq worker desc) s =
        .next { s with clu := { s.clu with upTerm := term } }) ∧
      ((∀ g ∈ s.clu.grants, ¬ (g.worker = worker ∧ g.gseq = gseq)) →
        Gives (exec (.grant cluster (src, true) dst term gseq worker desc) s) (fun t => t.clu.upTerm = term ∧
          (t.member worker).sent = max (s.member worker).sent gseq ∧
          (∃ g ∈ t.clu.grants, g.worker = worker ∧ g.gseq = gseq ∧ g.desc = some desc ∧
            (s.grantTo worker = false → g.sent = false) ∧
            ((s.member worker).sent < gseq → s.unmirrored = false → g.sent = false ∧
              ∃ j ∈ t.clu.journals, j.jseq = g.jseq ∧ j.member = worker ∧ j.record = t.member worker)) ∧
          Keeps s t [.clu, .ports, .out]) ∧
        (s.clu.grants = [] → s.unmirrored = true → s.grantTo worker = true → ∃ u : State,
          exec (.grant cluster (src, true) dst term gseq worker desc) s = .next (u.sendGrant worker gseq desc) ∧ Keeps s u [.clu])))) ∧
  (∀ (s : State) cluster src dst term gseq worker desc, s.cluState ≠ 4 ∨ s.f CLU_CFG.UPLINK ≠ 1 →
    exec (.grant cluster (src, true) dst term gseq worker desc) s = .next s) ∧
  (∀ (s : State) cluster src dst term gseq result, s.cluAccepts false cluster dst = true → s.cluState = 4 → 1 ≤ src → src ≤ 16 →
    s.clu.members.length = 16 →
    ((∃ g, g ∈ s.clu.grants ∧ g.worker = src ∧ g.gseq = gseq) →
      (result ≠ 2 → result ≠ 3 → Gives (exec (.grantAck cluster src dst term gseq result) s) (fun t =>
        (t.member src).acked = max (s.member src).acked gseq ∧ Keeps s t [.regs, .clu, .ports, .out])) ∧
      (result = 3 → Gives (exec (.grantAck cluster src dst term gseq result) s) (fun t => src ∈ t.clu.conflict ∧
        (∀ g ∈ t.clu.grants, ¬ (g.worker = src ∧ g.gseq = gseq)) ∧ t.clu.members = s.clu.members ∧
        Keeps s t [.regs, .clu, .ports, .out, .journal]))) ∧
    (result = 2 ∨ (∀ g ∈ s.clu.grants, ¬ (g.worker = src ∧ g.gseq = gseq)) →
      exec (.grantAck cluster src dst term gseq result) s = .next (s.seeTerm term))) ∧
  (∀ (s : State) cluster src dst term gseq result g, s.cluAccepts false cluster dst = true → s.cluState = 4 → s.clu.grants = [g] →
    g.gseq = gseq → result ≠ 2 → (src = g.worker ∧ 1 ≤ src ∧ src ≤ 16) ∨ ((src = 17 ∨ src = 18) ∧ s.routeTo g.worker = src) →
    exec (.grantAck cluster src dst term gseq result) s = .next ((s.seeTerm term).settleGrant g.worker gseq result g)) ∧
  (∀ (s : State) w gseq result g, (g.desc ≠ none → (s.cluSend true 17 0 [gseq, result]).out <+: (s.settleGrant w gseq result g).out)) ∧
  (∀ (s : State) cluster src dst term stripe sstate motion th held cause worker w, s.cluAccepts false cluster dst = true →
    s.cluState = 4 → (1 ≤ src ∧ src ≤ 16 ∧ w = src) ∨ ((src = 17 ∨ src = 18) ∧ 1 ≤ worker ∧ worker ≤ 16 ∧ w = worker) →
    s.clu.members.length = 16 → s.clu.routes.length = 16 →
    Gives (exec (.status cluster src dst term stripe sstate motion th held cause worker) s) (fun t =>
      (t.member w).state = 1 ∧ (t.member w).stripe = stripe ∧ (t.member w).sstate = sstate % 8 ∧ (t.member w).th = th ∧
      (t.member w).held = held ∧ (t.member w).acked = (s.member w).acked ∧ (s.member w).sent ≤ (t.member w).sent ∧
      t.routeTo w = src ∧ (s.f CLU_CFG.UPLINK = 1 → ((s.seeTerm term).cluSend true 18 0
        [stripe, sstate % 8 + 256 * (motion % 8), th, held, cause % 65536, w]).out <+: t.out) ∧
      Keeps s t [.regs, .clu, .ports, .out])) ∧
  (∀ (s : State) cluster src dst term, (∀ gseq result, s.cluAccepts false cluster dst = true → s.cluState ≠ 4 →
      exec (.grantAck cluster src dst term gseq result) s = .next (s.seeTerm term)) ∧
    (∀ stripe sstate motion th held cause worker, s.cluAccepts false cluster dst = true → s.cluState ≠ 4 →
      exec (.status cluster src dst term stripe sstate motion th held cause worker) s = .next (s.seeTerm term))) ∧
  (∀ (s : State) cluster src dst, s.cluAccepts false cluster dst = false →
    (∀ term gseq result, exec (.grantAck cluster src dst term gseq result) s = .next s) ∧
    (∀ term stripe sstate motion th held cause worker,
      exec (.status cluster src dst term stripe sstate motion th held cause worker) s = .next s)) ∧
  (∀ (s : State) cluster src dst term gseq worker desc up, s.cluAccepts up cluster dst = false →
    exec (.grant cluster (src, up) dst term gseq worker desc) s = .next s) ∧
  (∀ (s : State) (w : Fin 16), s.cluState = 4 →
    Gives (exec (.grantRetransmit w) s) (fun t => t.clu.grants = s.clu.grants ∧ t.clu.members = s.clu.members ∧
      Keeps s t [.clu, .ports, .out]) ∧
    (∀ g, s.clu.grants = [g] → g.worker = w.val + 1 →
      (∀ d, g.sent = true → s.grantTo g.worker = true →
        g.desc = some d ∨ (g.desc = none ∧ (s.cluList g.worker)[g.gseq - 1]? = some d) →
        exec (.grantRetransmit w) s = .next (s.sendGrant g.worker g.gseq d)) ∧
      (g.sent = false ∨ s.grantTo g.worker = false → exec (.grantRetransmit w) s = .next s)) ∧
    ((s.member (w.val + 1)).state = 1 → s.clu.members.length = 16 → Gives (exec (.memberTimeout w) s) (fun t =>
      (t.member (w.val + 1)).state = 2 ∧ t.f CLU_STATUS.LOST_SEEN = 1 ∧ Keeps s t [.regs, .clu, .ports, .out, .journal])) ∧
    ((s.member (w.val + 1)).state ≠ 1 → exec (.memberTimeout w) s = .next s)) ∧
  (∀ (s : State) (w : Fin 16), s.cluState ≠ 4 → exec (.grantRetransmit w) s = .next s ∧ exec (.memberTimeout w) s = .next s) ∧
  (∀ s : State, s.cluState = 1 → exec .statusTimer s = .next (s.cluSend false 18 0 [s.stripeNow.1,
    s.stripeNow.2 + 256 * s.f MOT_STATUS.STATE, s.f GAF_HALT_FLASH.TH, s.clu.heldSeq, s.f GAF_HALT_CAUSE.CODE, s.f CLU_CFG.MEMBER])) ∧
  (∀ s : State, s.cluState ≠ 1 → exec .statusTimer s = .next s) ∧
  (∀ (s : State) up type dst body, (s.cluSend up type dst body).clu = { s.clu with seq := (s.clu.seq + 1) % 2 ^ 32 } ∧
    Keeps s (s.cluSend up type dst body) [.clu, .ports, .out] ∧
    ((∀ p ∈ s.cluPorts up, s.portUp p = true ∧ s.portHeld p = false) →
      (s.cluSend up type dst body).out = s.out ++ (s.cluPorts up).map (fun p => .packet p (s.wstPacket (some (groupMac
        (s.f CLU_GROUP.ADDR))) (s.f CLU_GROUP.ADDR) (s.f CLU_GROUP.ADDR) (s.cluPayload up type dst body)))) ∧
    ((s.cluPayload up type dst body).length = 40 + 4 * body.length ∧
      ofLE (((s.cluPayload up type dst body).drop 1).take 1) = type % 256 ∧
      ofLE (((s.cluPayload up type dst body).drop 8).take 4) = s.clu.seq % 2 ^ 32 ∧
      ofLE (((s.cluPayload up type dst body).drop 32).take 2) = s.f CLU_CFG.CLUSTER % 2 ^ 16 ∧
      ofLE (((s.cluPayload up type dst body).drop 34).take 1) = s.f CLU_CFG.MEMBER % 2 ^ 8 ∧
      ofLE (((s.cluPayload up type dst body).drop 35).take 1) = dst % 2 ^ 8 ∧
      ofLE (((s.cluPayload up type dst body).drop 36).take 4) = (if up = true then s.clu.upTerm else s.ownTerm) % 2 ^ 32 ∧
      (s.cluPayload up type dst body).drop 40 = body.flatMap (toLE 4)))

/-- The standby's mirror and the manager's term: heartbeats, journal records, digests and joining follow the states of R337 to R339; a
standby that hears nothing becomes manager under the next term and says so; a manager that is outranked listens again; a journal
without an answer fails the standby and lets the grants that wait go to the workers that take them; a message of the upper tier raises
only that tier's term, and its TAKEOVER is answered with the STATUS of the workers (R336 to R340, R342). The model's choices in it:
log entries 2 and 29. -/
def Obligations.ClusterMirror : Prop :=
  (∀ (s : State) cluster src dst term jseq sbFailed, s.cluAccepts false cluster dst = true →
    (s.outranked src term = true → Gives (exec (.heartbeat cluster (src, false) dst term jseq false sbFailed) s) (fun t =>
      t.cluState = 2 ∧ t.f CLU_STATUS.STANDBY_OK = 0 ∧ t.clu.joinLeft = 16 ∧
      t.f CLU_TERM.TERM = max (s.f CLU_TERM.TERM) term % 2 ^ 32 ∧ Keeps s t [.regs, .clu, .journal])) ∧
    (s.cluState = 4 → s.outranked src term = false →
      exec (.heartbeat cluster (src, false) dst term jseq false sbFailed) s = .next s) ∧
    (s.cluState = 2 → s.f CLU_TERM.TERM ≤ term → ∃ u : State, u.clu = { s.clu with heardMgr := true } ∧ u.f CLU_TERM.TERM = term % 2 ^ 32 ∧
      Keeps s u [.regs, .clu] ∧ exec (.heartbeat cluster (src, false) dst term jseq false sbFailed) s =
        .next (if s.clu.joinLeft = 16 then u.cluSend false 24 0 [] else u)) ∧
    (s.cluState = 3 → s.f CLU_TERM.TERM ≤ term → Gives (exec (.heartbeat cluster (src, false) dst term jseq false sbFailed) s) (fun t =>
      t.cluState = (if sbFailed = true then 5 else 3) ∧ t.f CLU_TERM.TERM = term % 2 ^ 32 ∧ Keeps s t [.regs, .journal])) ∧
    exec (.heartbeat cluster (src, false) dst term jseq true sbFailed) s = .next (s.seeTerm term)) ∧
  (∀ (s : State) cluster src dst term jseq standby sbFailed, s.cluAccepts true cluster dst = true →
    (s.cluState = 4 → s.f CLU_CFG.UPLINK = 1 → exec (.heartbeat cluster (src, true) dst term jseq standby sbFailed) s =
      .next { s with clu := { s.clu with upTerm := max s.clu.upTerm term } }) ∧
    (s.cluState ≠ 4 ∨ s.f CLU_CFG.UPLINK ≠ 1 → exec (.heartbeat cluster (src, true) dst term jseq standby sbFailed) s = .next s)) ∧
  (∀ (s : State) cluster src dst term jseq, s.cluAccepts false cluster dst = true →
    (s.outranked src term = true → s.f CLU_TERM.TERM ≤ term → Gives (exec (.takeover cluster (src, false) dst term jseq) s) (fun t =>
      t.cluState = 2 ∧ t.f CLU_TERM.TERM = term % 2 ^ 32 ∧ Keeps s t [.regs, .clu, .journal])) ∧
    (s.cluState = 1 → s.f CLU_TERM.TERM ≤ term → exec (.takeover cluster (src, false) dst term jseq) s =
      .next ((s.seeTerm term).sendStatus s.stripeNow.1 s.stripeNow.2)) ∧
    (term < s.f CLU_TERM.TERM → Gives (exec (.takeover cluster (src, false) dst term jseq) s) (fun t =>
      t.f CLU_CNT_STALE.COUNT = min (s.f CLU_CNT_STALE.COUNT + 1) (2 ^ CLU_CNT_STALE.COUNT.w - 1) ∧ Keeps s t [.regs]))) ∧
  (∀ (s : State) cluster src dst term jseq, s.cluAccepts true cluster dst = true →
    (s.cluState = 4 → s.f CLU_CFG.UPLINK = 1 →
      (term < s.clu.upTerm → Gives (exec (.takeover cluster (src, true) dst term jseq) s) (fun t =>
        t.f CLU_CNT_STALE.COUNT = min (s.f CLU_CNT_STALE.COUNT + 1) (2 ^ CLU_CNT_STALE.COUNT.w - 1) ∧ Keeps s t [.regs])) ∧
      (s.clu.upTerm ≤ term → Gives (exec (.takeover cluster (src, true) dst term jseq) s) (fun t =>
        t.clu = { s.clu with upTerm := term, seq := t.clu.seq } ∧ Keeps s t [.clu, .ports, .out]) ∧
        (∀ w, ((List.range 16).map (· + 1)).filter (fun w => decide ((s.member w).state ≠ 0)) = [w] →
          exec (.takeover cluster (src, true) dst term jseq) s = .next ((s.seeUpper term).relayStatus w)))) ∧
    (s.cluState ≠ 4 ∨ s.f CLU_CFG.UPLINK ≠ 1 → exec (.takeover cluster (src, true) dst term jseq) s = .next s)) ∧
  (∀ s : State,
    (s.cluState = 3 ∨ s.cluState = 4 → exec .heartbeatTimer s = .next (s.cluSend false 19 255 s.heartbeatBody)) ∧
    (s.cluState ≠ 3 → s.cluState ≠ 4 → exec .heartbeatTimer s = .next s) ∧
    (s.cluState = 4 → exec .digestTimer s =
      .next (s.cluSend false 22 s.otherManager ([s.clu.applied, 0] ++ words32 s.memberDigest))) ∧
    (s.cluState = 4 → Gives (exec .journalRetransmit s) (fun t => t.clu.journals = s.clu.journals ∧
      Keeps s t [.clu, .ports, .out]) ∧
      (∀ j, s.clu.journals = [j] → exec .journalRetransmit s = .next (s.cluSend false 20 s.otherManager
        ([j.jseq, j.member + 256 * (if j.full = true then 1 else 0)] ++ j.record.words)))) ∧
    (s.cluState ≠ 4 → exec .digestTimer s = .next s ∧ exec .journalRetransmit s = .next s ∧ exec .journalTimeout s = .next s) ∧
    (s.cluState = 4 → s.clu.journals ≠ [] → Gives (exec .journalTimeout s) (fun t => t.clu.journals = [] ∧ t.clu.sbFailed = true ∧
      t.f CLU_STATUS.STANDBY_OK = 0 ∧ t.f CLU_STATUS.SB_FAIL_SEEN = 1 ∧
      (∀ g ∈ t.clu.grants, g.ready = true ∧ (s.grantTo g.worker = true → g.sent = true)) ∧
      Keeps s t [.regs, .clu, .ports, .out, .journal])) ∧
    (s.clu.journals = [] → exec .journalTimeout s = .next s) ∧
    (s.cluState = 3 → ∃ u : State, exec .managerTimeout s = .next (u.cluSend false 23 255 [s.clu.applied]) ∧
      u.cluState = 4 ∧ u.f CLU_TERM.TERM = (s.f CLU_TERM.TERM + 1) % 2 ^ 32 ∧ u.clu.term = (s.f CLU_TERM.TERM + 1) % 2 ^ 32 ∧
      u.f CLU_STATUS.STANDBY_OK = 0 ∧ u.f CLU_STATUS.TAKEOVER_SEEN = 1 ∧ u.clu.grants = [] ∧ u.clu.members = s.clu.members ∧
      u.clu.owed = (List.range 16).filterMap (fun i => if (s.member (i + 1)).state = 0 then none else some (i + 1)) ∧
      Keeps s u [.regs, .clu, .journal]) ∧
    (s.cluState ≠ 3 → exec .managerTimeout s = .next s) ∧
    (s.cluState = 2 → s.clu.heardMgr = false → Gives (exec .joinListenTimeout s) (fun t =>
      t.cluState = 4 ∧ t.f CLU_TERM.TERM = (s.f CLU_TERM.TERM + 1) % 2 ^ 32 ∧ t.f CLU_STATUS.STANDBY_OK = 0 ∧
      Keeps s t [.regs, .clu, .ports, .out])) ∧
    (s.cluState ≠ 2 ∨ s.clu.heardMgr = true → exec .joinListenTimeout s = .next s)) ∧
  (∀ l : List Byte, l.length = 16 → (words32 l).length = 4 ∧ (words32 l).flatMap (toLE 4) = l) ∧
  (∀ (s : State) cluster src dst term jseq member full record, s.cluAccepts false cluster dst = true →
    (s.cluState = 3 → s.f CLU_TERM.TERM ≤ term →
      (jseq = (s.clu.applied + 1) % 2 ^ 32 → s.clu.digest = none → ∃ u : State,
        exec (.journal cluster src dst term jseq member full record) s = .next (u.cluSend false 21 0 [jseq]) ∧
        u.clu = { s.clu with applied := jseq, members := s.clu.members.set (member - 1) (memberOf record) } ∧
        u.f CLU_TERM.TERM = term % 2 ^ 32 ∧ Keeps s u [.regs, .clu]) ∧
      (jseq ≤ s.clu.applied → jseq ≠ (s.clu.applied + 1) % 2 ^ 32 →
        exec (.journal cluster src dst term jseq member full record) s = .next ((s.seeTerm term).cluSend false 21 0 [jseq])) ∧
      (s.clu.applied + 1 < jseq → exec (.journal cluster src dst term jseq member full record) s = .next (s.seeTerm term)) ∧
      (∀ digest,
        (jseq = s.clu.applied → digest = s.memberDigest → Gives (exec (.digest cluster src dst term jseq digest) s) (fun t =>
          t.cluState = 3 ∧ t.clu = { s.clu with digest := none } ∧ Keeps s t [.regs, .clu])) ∧
        (jseq = s.clu.applied → digest ≠ s.memberDigest → Gives (exec (.digest cluster src dst term jseq digest) s) (fun t =>
          t.cluState = 5 ∧ t.f CLU_STATUS.SB_FAIL_SEEN = 1 ∧ Keeps s t [.regs, .clu, .journal])) ∧
        (jseq ≠ s.clu.applied → Gives (exec (.digest cluster src dst term jseq digest) s) (fun t =>
          t.cluState = 3 ∧ t.clu = { s.clu with digest := some (jseq, digest) } ∧ Keeps s t [.regs, .clu])))) ∧
    (s.cluState = 2 → s.f CLU_TERM.TERM ≤ term → full = true → s.clu.digest = none →
      (s.clu.joinLeft = 16 → member = 1 → ∃ u : State,
        exec (.journal cluster src dst term jseq member full record) s = .next (u.cluSend false 21 0 [jseq]) ∧
        u.clu = { s.clu with applied := jseq, joinLeft := 15, members := s.clu.members.set 0 (memberOf record) } ∧ u.cluState = 2) ∧
      (s.clu.joinLeft = 16 → member ≠ 1 →
        exec (.journal cluster src dst term jseq member full record) s = .next (s.seeTerm term)) ∧
      (s.clu.joinLeft = 1 → jseq = (s.clu.applied + 1) % 2 ^ 32 →
        Gives (exec (.journal cluster src dst term jseq member full record) s) (fun t => t.cluState = 3 ∧ t.clu.applied = jseq))) ∧
    (term < s.f CLU_TERM.TERM → ∀ digest i, i = .journal cluster src dst term jseq member full record ∨
        i = .digest cluster src dst term jseq digest → Gives (exec i s) (fun t =>
      t.f CLU_CNT_STALE.COUNT = min (s.f CLU_CNT_STALE.COUNT + 1) (2 ^ CLU_CNT_STALE.COUNT.w - 1) ∧ Keeps s t [.regs]))) ∧
  (∀ (s : State) cluster src dst term jseq, s.cluAccepts false cluster dst = true → s.cluState ≠ 4 →
    exec (.journalAck cluster src dst term jseq) s = .next (s.seeTerm term) ∧
    exec (.join cluster src dst term) s = .next (s.seeTerm term)) ∧
  (∀ (s : State) cluster src dst term jseq, s.cluAccepts false cluster dst = true → s.cluState = 4 →
    Gives (exec (.journalAck cluster src dst term jseq) s) (fun t =>
      (∀ g ∈ s.clu.grants, g.jseq = jseq → ∃ h ∈ t.clu.grants, h.worker = g.worker ∧ h.gseq = g.gseq ∧ h.ready = true ∧
        (s.grantTo g.worker = true → h.sent = true)) ∧
      ((∃ j ∈ s.clu.journals, j.jseq = jseq ∧ j.full = true) → (∀ j ∈ s.clu.journals, j.full = true → j.jseq = jseq) →
        t.f CLU_STATUS.STANDBY_OK = 1) ∧ Keeps s t [.regs, .clu, .ports, .out]) ∧
    (s.f CLU_STATUS.STANDBY_OK ≠ 1 → (∀ j ∈ s.clu.journals, j.full = false) → Gives (exec (.join cluster src dst term) s) (fun t =>
      t.clu.applied = (s.clu.applied + 16) % 2 ^ 32 ∧ t.clu.journals.length = s.clu.journals.length + 16 ∧
      (∀ i, i < 16 → ∃ j ∈ t.clu.journals, j.member = i + 1 ∧ j.full = true ∧ j.record = s.member (i + 1)) ∧
      t.clu.sbFailed = false ∧ t.clu.alone = false ∧ Keeps s t [.regs, .clu, .ports, .out])) ∧
    (s.f CLU_STATUS.STANDBY_OK = 1 → exec (.join cluster src dst term) s = .next (s.seeTerm term))) ∧
  (∀ (s : State) cluster src dst term jseq up, s.cluAccepts up cluster dst = false →
    (up = false →
    exec (.join cluster src dst term) s = .next s ∧ exec (.journalAck cluster src dst term jseq) s = .next s ∧
    (∀ member full record, exec (.journal cluster src dst term jseq member full record) s = .next s) ∧
    (∀ digest, exec (.digest cluster src dst term jseq digest) s = .next s)) ∧
    exec (.takeover cluster (src, up) dst term jseq) s = .next s ∧
    (∀ standby sbFailed, exec (.heartbeat cluster (src, up) dst term jseq standby sbFailed) s = .next s))

/-- The ports: a role that does not fit is refused; the link state is shown; pause frames and frames that fail a check are dropped and
counted; ARP and echo requests for the device's own address are answered, and no other host's WST or PTP packet is taken; a port that
carries no traffic sends nothing, and one that holds for a launch sends later. A PTP message whose FCS is good is delivered with its
stamp; Sync leaves with its egress stamp, and in a cluster from its manager only, whose worker ends HOLD with it; Delay_Req leaves at
once where it has no LAUNCH flag, else at its launch time, or is counted as late; the chain forwards what is not for this device
alone, a PTP message corrected by its residence (R314 to R324, R338, R341). The model's choices in it: log entries 2 and 26. -/
def Obligations.PortsAndPtp : Prop :=
  (∀ (s : State) (p : Fin 4) (v : Word),
    (s.roleFits p (bits v.toNat 1 2) = true → Gives (exec (.portRoleWrite p v) s) (fun t =>
      t.f (ETH_PORT_CFG.EN p) = bits v.toNat 0 1 ∧ t.f (ETH_PORT_CFG.ROLE p) = bits v.toNat 1 2 ∧
      t.f (ETH_PORT_CFG.FEC p) = bits v.toNat 3 1 ∧ Keeps s t [.regs] ∧
      KeepsFields s t [ETH_PORT_CFG.EN p, ETH_PORT_CFG.ROLE p, ETH_PORT_CFG.FEC p])) ∧
    (s.roleFits p (bits v.toNat 1 2) = false → Gives (exec (.portRoleWrite p v) s) (fun t =>
      t.f ETH_STATUS.CFG_REFUSED = 1 ∧ Keeps s t [.regs] ∧ KeepsFields s t [ETH_STATUS.CFG_REFUSED])) ∧
    (p.val < 2 → s.roleFits p 2 = false) ∧ (2 ≤ p.val → s.roleFits p 3 = false)) ∧
  (∀ (s : State) (p : Fin 4),
    Gives (exec (.ethLinkUp p) s) (fun t => t.f (ETH_PORT_STATUS.LINK p) = 1 ∧ Keeps s t [.regs] ∧
      KeepsFields s t [ETH_PORT_STATUS.LINK p]) ∧
    (s.f (ETH_PORT_STATUS.LINK p) = 1 → Gives (exec (.ethLinkDown p) s) (fun t => t.f (ETH_PORT_STATUS.LINK p) = 0 ∧
      t.f (ETH_PORT_STATUS.DOWN_SEEN p) = 1 ∧ Keeps s t [.regs] ∧
      KeepsFields s t [ETH_PORT_STATUS.LINK p, ETH_PORT_STATUS.DOWN_SEEN p])) ∧
    (s.f (ETH_PORT_STATUS.LINK p) ≠ 1 → exec (.ethLinkDown p) s = .next s) ∧
    (s.f (ETH_PORT_CFG.EN p) = 1 → ∀ i, (i = .pauseFrame p ∨
        ∃ frame bad, (bad = true ∨ s.takes frame = false) ∧ s.passesBy p frame = false ∧ i = .ethFrameDrop (p, frame, bad)) →
      Gives (exec i s) (fun t =>
      t.f ETH_CNT_DROP.COUNT = min (s.f ETH_CNT_DROP.COUNT + 1) (2 ^ ETH_CNT_DROP.COUNT.w - 1) ∧ Keeps s t [.regs, .mem] ∧
      KeepsFields s t [ETH_CNT_DROP.COUNT])) ∧
    (s.f (ETH_PORT_CFG.EN p) ≠ 1 → exec (.pauseFrame p) s = .next s) ∧
    (∀ frame bad, s.f (ETH_PORT_CFG.EN p) ≠ 1 ∨ (bad = false ∧ s.takes frame = true) ∨ s.passesBy p frame = true →
      exec (.ethFrameDrop (p, frame, bad)) s = .next s)) ∧
  (∀ (s : State) p o, (s.portUp p = false → s.emit p o = s) ∧
    (s.portUp p = true → s.portHeld p = true → s.emit p o = { s with ports := s.ports ++ [(p, o)] }) ∧
    (s.portUp p = true → s.portHeld p = false → s.emit p o = { s with out := s.out ++ [o] })) ∧
  (∀ (s : State) (p : Fin 4), s.portUp p = true →
    (∀ sender mac, exec (.arpRequest p (s.f ETH_IP.ADDR) sender mac) s =
      .next (s.emit p (.eth p (s.arpReply sender mac) (ethFcs (s.arpReply sender mac)))) ∧
      frameDst (s.arpReply sender mac) = mac % 2 ^ 48 ∧ beAt (s.arpReply sender mac) 22 6 = s.f ETH_MAC.MAC % 2 ^ 48 ∧
      beAt (s.arpReply sender mac) 28 4 = s.f ETH_IP.ADDR % 2 ^ 32) ∧
    (∀ ip sender mac, ip ≠ s.f ETH_IP.ADDR → exec (.arpRequest p ip sender mac) s = .next s.dropFrame) ∧
    (∀ sender mac payload, payload.length ≤ 9174 → exec (.icmpEcho p (s.f ETH_IP.ADDR) (sender, mac) payload) s =
      .next (s.emit p (.packet p {
        mac := some mac, hop := sender, src := s.f ETH_IP.ADDR, dst := sender, proto := 1, df := true, data := echoData payload }))) ∧
    (∀ ip sender mac payload, ip ≠ s.f ETH_IP.ADDR ∨ 9174 < payload.length →
      exec (.icmpEcho p ip (sender, mac) payload) s = .next s.dropFrame) ∧
    (∀ frame boundary, s.takes frame = true →
      (∀ o udp, ptpEvent frame = some (o, udp) → Gives (exec (.ptpEventRx p frame boundary false) s) (fun t =>
        t.out = s.out ++ [.ptpRx p frame
          (stampBytes p (beAt frame o 1) (s.goesOn p frame) (boundary - (s.ptpLatency p).2 - s.fs (THY_PTP_LAT.RX p)))] ∧
        (s.slaved = true → beAt frame o 1 % 16 = 0 → beAt frame (o + 4) 1 = s.f CLU_CFG.DOMAIN → t.f THY_REF_CTL.HOLD = 0) ∧
        (s.slaved = false → t.regs = s.regs) ∧ Keeps s t [.out, .regs] ∧ KeepsFields s t [THY_REF_CTL.HOLD])) ∧
      (ptpEvent frame = none → (ptpAt frame).isSome = true →
        ∀ i, i = .ptpUnsupportedMessage (p, frame) ∨ i = .ptpEventRx p frame boundary false → Gives (exec i s) (fun t => t.out = s.out ++ [.ptpPass p frame] ∧ t.f THY_PTP_CNT_UNSUP.COUNT =
          (if s.goesOn p frame = true then s.f THY_PTP_CNT_UNSUP.COUNT
            else min (s.f THY_PTP_CNT_UNSUP.COUNT + 1) (2 ^ THY_PTP_CNT_UNSUP.COUNT.w - 1)) ∧ Keeps s t [.regs, .out] ∧
          KeepsFields s t [THY_PTP_CNT_UNSUP.COUNT]))) ∧
    (∀ frame lt,
      (lt * 2 ^ 32 < s.acc + 2000 * 2 ^ 32 → Gives (exec (.delayReqLaunch p frame true lt) s) (fun t =>
        t.f THY_PTP_CNT_LATE.COUNT = min (s.f THY_PTP_CNT_LATE.COUNT + 1) (2 ^ THY_PTP_CNT_LATE.COUNT.w - 1) ∧
        Keeps s t [.regs, .journal])) ∧
      (s.acc + 2000 * 2 ^ 32 ≤ lt * 2 ^ 32 → exec (.delayReqLaunch p frame true lt) s =
        .next { s with launches := s.launches ++ [{ port := p, lt := lt, frame := frame }] }) ∧
      exec (.delayReqLaunch p frame false lt) s = .next (s.emit p (.eth p frame (ethFcs frame))))) ∧
  (∀ (s : State) (p : Fin 4), s.portUp p = false →
    (∀ ip sender mac, exec (.arpRequest p ip sender mac) s = .next s) ∧
    (∀ ip sender mac payload, exec (.icmpEcho p ip (sender, mac) payload) s = .next s) ∧
    (∀ frame boundary bad, exec (.ptpEventRx p frame boundary bad) s = .next s ∧ exec (.ptpUnsupportedMessage (p, frame)) s = .next s) ∧
    (∀ frame launch lt, exec (.delayReqLaunch p frame launch lt) s = .next s)) ∧
  (∀ (s : State) l i port b, readIp l = some i → i.readUdp = some (port, b) → s.takesIp l = true →
    i.dst = s.f ETH_IP.ADDR ∨ (port = s.f ETH_WST_CFG.PORT ∧ i.dst = s.f CLU_GROUP.ADDR) ∨
      ((port = 319 ∨ port = 320) ∧ (i.dst = 0xE0000181 ∨ i.dst = 0xE000006B))) ∧
  (∀ (s : State) (p : Fin 4) frame boundary, s.takes frame = false ∨ ptpAt frame = none →
    exec (.ptpEventRx p frame boundary false) s = .next s ∧ exec (.ptpUnsupportedMessage (p, frame)) s = .next s) ∧
  (∀ (s : State) (p : Fin 4) frame boundary, exec (.ptpEventRx p frame boundary true) s = .next s) ∧
  (∀ (s : State) (l : Launch) o udp, ptpEvent l.frame = some (o, udp) → ∃ slip : Nat, slip < blockSlot ∧
    s.launch l = { s with freeCount := s.freeCount + 1 }.sendFrameOn l.port (resum (setCorr (setOrigin l.frame o (l.lt / 1000000000)
      (l.lt % 1000000000)) o (ptpCorr l.frame o + slip)) o udp)) ∧
  (∀ (s : State) (p : Fin 4) frame (boundary other : Int),
    (ptpEvent frame = none → exec (.syncTx p frame (boundary, other)) s = .next s) ∧
    (∀ o udp, ptpEvent frame = some (o, udp) →
      (s.f CLU_STATUS.STATE = 0 ∨ (s.f CLU_STATUS.STATE = 4 ∧ s.chainUp = false ∧ s.f (ETH_PORT_CFG.ROLE p) = 2) →
        exec (.syncTx p frame (boundary, other)) s = .next (s.sendFrameOn p (s.syncFrameOn p frame o udp boundary))) ∧
      (∀ u, s.f CLU_STATUS.STATE = 4 → s.chainUp = true → u = s.sendFrameOn 2 (s.syncFrameOn 2 frame o udp boundary) →
        exec (.syncTx p frame (boundary, other)) s = .next (u.sendFrameOn 3 (u.syncFrameOn 3 frame o udp other))) ∧
      (s.f CLU_STATUS.STATE = 4 → s.chainUp = false → s.f (ETH_PORT_CFG.ROLE p) ≠ 2 →
        exec (.syncTx p frame (boundary, other)) s = .next s) ∧
      (s.f CLU_STATUS.STATE ≠ 0 → s.f CLU_STATUS.STATE ≠ 4 → exec (.syncTx p frame (boundary, other)) s = .next s)) ∧
    (∀ o sec ns frac l, o + 44 ≤ frame.length → l = s.syncFrameOn p frame o false boundary →
      stampParts (boundary + (s.ptpLatency p).1 + s.fs (THY_PTP_LAT.TX p)) = (sec, ns, frac) →
      l.length = frame.length ∧ beAt l (o + 34) 6 = sec ∧ beAt l (o + 40) 4 = ns ∧
      ptpCorr l o = sgn 64 (ofInt 64 (ptpCorr frame o + frac)) ∧ bit (beAt l (o + 6) 1) 1 = false ∧
      (s.f CLU_STATUS.STATE = 4 → beAt l (o + 4) 1 = s.f CLU_CFG.DOMAIN % 2 ^ 8))) ∧
  (∀ (s : State) (p : Fin 4) frame badFcs, s.goesOn p frame = true →
    (∀ dst src rest, frame = macFrame dst src rest → ptpAt frame = none → exec (.chainForward p dst src rest badFcs) s =
      .next (s.emit (5 - p.val) (.eth (5 - p.val) frame (leaveFcs frame badFcs)))) ∧
    (∀ dst src rest, frame = macFrame dst src rest → ptpAt frame ≠ none →
      exec (.chainForward p dst src rest badFcs) s = .next s) ∧
    (∀ rx tx o udp l, ptpEvent frame = some (o, udp) → l = s.residence p frame o udp rx tx →
      exec (.tcForward p frame rx tx badFcs) s =
        .next ((s.count THY_PTP_CNT_TC.COUNT 1).emit (5 - p.val) (.eth (5 - p.val) l (leaveFcs l badFcs))) ∧
      (2 ≤ o → o + 44 ≤ frame.length →
        ptpCorr l o = addResidence (ptpCorr frame o) (s.egress (5 - p.val) tx - s.ingress p rx) ∧ l.length = frame.length ∧
        (udp = true → beAt l (o - 2) 2 = 0))) ∧
    (∀ rx tx, ptpEvent frame = none →
      (ptpAt frame ≠ none → exec (.tcForward p frame rx tx badFcs) s =
        .next ((s.count THY_PTP_CNT_UNSUP.COUNT 1).emit (5 - p.val) (.eth (5 - p.val) frame (leaveFcs frame badFcs)))) ∧
      (ptpAt frame = none → exec (.tcForward p frame rx tx badFcs) s = .next s))) ∧
  (∀ (s : State) (p : Fin 4) frame badFcs rx tx, s.goesOn p frame = false →
    (∀ dst src rest, frame = macFrame dst src rest → exec (.chainForward p dst src rest badFcs) s = .next s) ∧
    exec (.tcForward p frame rx tx badFcs) s = .next s) ∧
  (∀ (s : State) (p : Fin 4) frame, s.chainUp = true → 2 ≤ p.val →
    (s.goesOn p frame = true ↔ isPause frame = false ∧ (isGroup (frameDst frame) = true ∨ frameDst frame ≠ s.f ETH_MAC.MAC)) ∧
    (isPause frame = true ↔ beAt frame 12 2 = 0x8808 ∧ (beAt frame 14 2 = 0x0001 ∨ beAt frame 14 2 = 0x0101))) ∧
  (∀ l, leaveFcs l false = ethFcs l ∧ leaveFcs l true = (ethFcs l).xor 0xFFFFFFFF) ∧
  (∀ corr d : Int, -2 ^ 63 ≤ addResidence corr d ∧ addResidence corr d ≤ 2 ^ 63 - 1 ∧
    (-2 ^ 63 ≤ corr + d → corr + d ≤ 2 ^ 63 - 1 → corr ≠ 2 ^ 63 - 1 → addResidence corr d = corr + d))

/-- Mailboxes: a message that finds a place is queued under the next SEQ and sets its sender's bit, one that finds four waiting is
counted; POP takes the oldest; doorbell bits 0 to 23 are set by DB_SET; the first read by a master other than Gaffer acquires a free
lock and only its owner frees it; the HBM window writes and reads HBM, except the regions that no host reaches and, once a job has
been admitted, a live table: a read of these is completed with Completer Abort, a write is reported with its header (R370 to R381,
R412). The model's choices in it: log entries 3, 27 and 28. -/
def Obligations.Mailboxes : Prop :=
  (∀ (s : State) (m r : Fin 8) c, m.val ≤ 5 → r.val ≤ 5 → m ≠ r → s.host.channels[6 * m.val + r.val]? = some c →
    r.val < s.host.dbPend.length →
    (c.msgs.length < 4 → Gives (exec (.push m r) s) (fun t =>
      t.channel m r = { msgs := c.msgs ++ [stampMsg m c.seq (s.host.windows.getD (6 * m.val + r.val) [])], seq := (c.seq + 1) % 65536 } ∧
      bit (t.dbPend r) (24 + m.val) = true ∧ Keeps s t [.host, .out, .regs])) ∧
    (4 ≤ c.msgs.length → Gives (exec (.push m r) s) (fun t => t.channel m r = c ∧
      t.f MBX_CNT_FULL.COUNT = min (s.f MBX_CNT_FULL.COUNT + 1) (2 ^ MBX_CNT_FULL.COUNT.w - 1) ∧ Keeps s t [.host, .regs]))) ∧
  (∀ (s : State) (m r : Fin 8), 5 < m.val ∨ 5 < r.val ∨ m = r → exec (.push m r) s = .next s) ∧
  (∀ (s : State) (m : Fin 8) (n : Fin 6), m.val ≤ 5 → Gives (exec (.pop m n) s) (fun t =>
    t.channel n m = { s.channel n m with msgs := (s.channel n m).msgs.drop 1 } ∧ Keeps s t [.host])) ∧
  (∀ (s : State) (m : Fin 8) (n : Fin 6), 5 < m.val → exec (.pop m n) s = .next s) ∧
  (∀ (s : State) (m r : Fin 8) (v : Word), r.val < s.host.dbPend.length → Gives (exec (.dbSet m r v) s) (fun t =>
    t.dbPend r = (s.dbPend r).lor (v.toNat % 2 ^ 24) ∧ t.host.dbMask.getD r 0 = s.host.dbMask.getD r 0 ∧
    Keeps s t [.host, .out, .regs, .gaf])) ∧
  (∀ (s : State) (m : Fin 8) (n : Fin 64), n.val < s.host.locks.length →
    (s.lockOwner n = none → m.val ≠ 6 → Gives (exec (.lockRead m n) s) (fun t =>
      t.lockOwner n = some m.val ∧ t.host.readData = BitVec.ofNat 64 (m.val + 768) ∧ Keeps s t [.host])) ∧
    (s.lockOwner n = none → m.val = 6 → Gives (exec (.lockRead m n) s) (fun t =>
      t.lockOwner n = none ∧ t.host.readData = 0 ∧ Keeps s t [.host])) ∧
    (∀ w, s.lockOwner n = some w → w ≠ m.val → Gives (exec (.lockRead m n) s) (fun t =>
      t.host.locks = s.host.locks ∧ t.host.readData = BitVec.ofNat 64 (w + 256) ∧ Keeps s t [.host])) ∧
    (∀ v : Word, bit v.toNat 0 = false → exec (.lockRelease m n v) s = .next s) ∧
    (∀ v : Word, bit v.toNat 0 = true →
      (s.lockOwner n = some m.val → Gives (exec (.lockRelease m n v) s) (fun t => t.lockOwner n = none ∧ Keeps s t [.host])) ∧
      (s.lockOwner n ≠ some m.val → Gives (exec (.lockRelease m n v) s) (fun t => Keeps s t [.regs] ∧
        t.f MBX_CNT_LOCKERR.COUNT = min (s.f MBX_CNT_LOCKERR.COUNT + 1) (2 ^ MBX_CNT_LOCKERR.COUNT.w - 1))))) ∧
  (∀ (s : State) off bytes len a n, a = s.winAddress off → n = bytes.length →
    (s.protectedRange a n = false → (s.host.admitted = true → s.liveRange a n = false) →
      (s.narrow a n = false → Gives (exec (.hbmWindowAccess off true bytes len) s) (fun t =>
        rdBytes t.mem.hbm a n = bytes ∧ Keeps s t [.mem])) ∧
      (s.narrow a n = true → Gives (exec (.hbmWindowAccess off true bytes len) s) (fun t =>
        t.out = s.out ++ [.aer a n] ∧ t.host.aer = some (a, n) ∧ Keeps s t [.regs, .host, .journal, .out]))) ∧
    (s.protectedRange a n = true → Gives (exec (.hbmWindowAccess off true bytes len) s) (fun t =>
      t.f GLB_HOST_ERR.REFUSED = 1 ∧ t.f GLB_HOST_ERR.KIND = 2 ∧ t.f GLB_HOST_ERR_ADDR.ADDR = a % 2 ^ GLB_HOST_ERR_ADDR.ADDR.w ∧
      t.out = s.out ++ [.aer a n] ∧ t.host.aer = some (a, n) ∧ Keeps s t [.regs, .host, .journal, .out])) ∧
    (s.protectedRange a n = false → s.host.admitted = true → s.liveRange a n = true →
      Gives (exec (.hbmWindowAccess off true bytes len) s) (fun t =>
        t.f GLB_HOST_ERR.REFUSED = 1 ∧ t.f GLB_HOST_ERR.KIND = 3 ∧ t.f BMP_STATUS.LIVE_WRITE = 1 ∧ t.out = s.out ++ [.aer a n] ∧
        Keeps s t [.regs, .host, .journal, .out])) ∧
    (s.protectedRange a len = true → Gives (exec (.hbmWindowAccess off false bytes len) s) (fun t =>
      t.f GLB_HOST_ERR.REFUSED = 1 ∧ t.f GLB_HOST_ERR.KIND = 1 ∧ t.host.readErr = true ∧ t.out = s.out ++ [.completerAbort a] ∧
      Keeps s t [.regs, .host, .journal, .out])) ∧
    (s.protectedRange a len = false → s.hbmBad a len = false → Gives (exec (.hbmWindowAccess off false bytes len) s) (fun t =>
      t.out = s.out ++ [.completion a (s.hbmRead a len)] ∧ t.host.readErr = false ∧
      t.host.readData = BitVec.ofNat 64 (ofLE (s.hbmRead a len)) ∧ (s.suspects a len = [] → Keeps s t [.host, .out]))) ∧
    (s.protectedRange a len = false → s.hbmBad a len = true → Gives (exec (.hbmWindowAccess off false bytes len) s) (fun t =>
      t.host.readErr = false)))

/-- The CRC engines take bytes only while no channel has claimed them, and a configuration write resets their state; a DMA channel starts
at its head for a master that may start it, stops with the error of its cause, among them an error completion of the host, and ends
with DONE, with its vector where the chain asked for one and no earlier request still stands; an ABORT waits for outstanding answers;
a copy between two ranges of host memory that do not overlap leaves the source's bytes at the destination (R368, R388 to R399). A
masked vector waits: the model's presumption (log entry 27). The model's choices in it: log entries 3, 27 and 37. -/
def Obligations.DmaAndCrc : Prop :=
  (∀ (s : State) (e : Fin 4) (v : Word), e.val < s.host.crc.length → s.f (CHK_CTL.CLAIMED e) ≠ 1 →
    (∀ n, n = 2 ^ s.f (CHK_CTL.INW e) → n ≤ 8 → Gives (exec (.chkData e 8 v) s) (fun t =>
      t.crcState e = (toLE n v.toNat).foldl (chkByte (s.crcWidth e) (s.f (CHK_POLY.POLY e) % 2 ^ s.crcWidth e)
        (decide (s.f (CHK_CTL.REFIN e) = 1))) (s.crcState e) % 2 ^ 64 ∧
      t.f (CHK_STATUS.ALIVE e) = (s.f (CHK_STATUS.ALIVE e) + 1) % 2 ^ 8 ∧ Keeps s t [.regs, .host])) ∧
    (bit v.toNat 11 = true → Gives (exec (.chkInit e v) s) (fun t =>
      t.f (CHK_CTL.WIDTH e) = bits v.toNat 0 7 ∧ t.f (CHK_CTL.INW e) = bits v.toNat 9 2 ∧
      t.crcState e = s.f (CHK_INIT.INIT e) % 2 ^ t.crcWidth e ∧ Keeps s t [.regs, .host])) ∧
    (bit v.toNat 11 = false → exec (.chkInit e v) s = .next s) ∧
    (∀ n, n = 2 ^ s.f (CHK_CTL.INW e) → (n ≤ 4 → exec (.chkData e 4 v) s = .next s) ∧
      (4 < n → Gives (exec (.chkData e 4 v) s) (fun t => t.f (CHK_STATUS.DROP_SEEN e) = 1 ∧ Keeps s t [.regs] ∧
        KeepsFields s t [CHK_STATUS.DROP_SEEN e]))) ∧
    Gives (exec (.chkConfigWrite e 0 v) s) (fun t => t.f (CHK_CTL.WIDTH e) = bits v.toNat 0 7 ∧ t.f (CHK_CTL.REFIN e) = bits v.toNat 7 1 ∧
      t.f (CHK_CTL.REFOUT e) = bits v.toNat 8 1 ∧ t.f (CHK_CTL.INW e) = bits v.toNat 9 2 ∧
      t.crcState e = s.f (CHK_INIT.INIT e) % 2 ^ t.crcWidth e ∧ Keeps s t [.regs, .host]) ∧
    Gives (exec (.chkConfigWrite e 3 v) s) (fun t => t.f (CHK_XOROUT.XOROUT e) = v.toNat ∧
      t.crcState e = s.f (CHK_INIT.INIT e) % 2 ^ s.crcWidth e ∧ Keeps s t [.regs, .host]) ∧
    Gives (exec (.chkConfigWrite e 1 v) s) (fun t => t.f (CHK_POLY.POLY e) = v.toNat ∧
      t.crcState e = s.f (CHK_INIT.INIT e) % 2 ^ s.crcWidth e ∧ Keeps s t [.regs, .host]) ∧
    Gives (exec (.chkConfigWrite e 2 v) s) (fun t => t.f (CHK_INIT.INIT e) = v.toNat ∧ t.crcState e = v.toNat % 2 ^ s.crcWidth e ∧
      Keeps s t [.regs, .host])) ∧
  (∀ (s : State) (e reg : Fin 4) width (v : Word), s.f (CHK_CTL.CLAIMED e) = 1 →
    ∀ i, i = .chkData e width v ∨ i = .chkConfigWrite e reg v → Gives (exec i s) (fun t => t.f (CHK_STATUS.DROP_SEEN e) = 1 ∧
      t.host = s.host ∧ Keeps s t [.regs] ∧ KeepsFields s t [CHK_STATUS.DROP_SEEN e])) ∧
  (∀ (s : State) (m : Fin 8) (c : Fin 16) (v : Word), c.val < s.host.dma.length →
    (bit v.toNat 0 = true → bit v.toNat 1 = false → bit v.toNat 4 = false → s.dmaRunning c = false → dmaMay m c = true →
      Gives (exec (.dmaStart m c v) s) (fun t => t.f (DMA_CH_STATUS.STATE c) = 1 ∧ t.f (DMA_CH_STATUS.ERR c) = 0 ∧
        t.f (DMA_CH_HOPS.COUNT c) = 0 ∧ (t.dmaCh c).fetch = some (s.f (DMA_CH_HEAD.ADDR c)) ∧ Keeps s t [.regs, .host])) ∧
    (bit v.toNat 0 = true → bit v.toNat 1 = false → dmaMay m c = false → Gives (exec (.dmaStart m c v) s) (fun t =>
      t.f (DMA_CH_STATUS.STATE c) = s.f (DMA_CH_STATUS.STATE c) ∧ Keeps s t [.regs])) ∧
    (bit v.toNat 1 = true → s.dmaRunning c = true →
      (s.f (DMA_CH_HOPS.COUNT c) = 0 → Gives (exec (.dmaAbort m c v) s) (fun t =>
        t.f (DMA_CH_STATUS.STATE c) = 3 ∧ t.f (DMA_CH_STATUS.ERR c) = 7 ∧ t.f (DMA_CH_STATUS.ERR_SEEN c) = 1 ∧
        (t.dmaCh c).fetch = none ∧ Keeps s t [.regs, .host, .out, .journal])) ∧
      (s.f (DMA_CH_HOPS.COUNT c) ≠ 0 → (s.dmaCh c).aborting = none → Gives (exec (.dmaAbort m c v) s) (fun t =>
        t.dmaCh c = { s.dmaCh c with aborting := some s.tick } ∧ t.regs = s.regs ∧ Keeps s t [.host])))) ∧
  (∀ (s : State) v, (s.msixMasked v = false → s.msix v = { s with out := s.out ++ [.msix v] }) ∧
    (s.msixMasked v = true → s.msix v = { s with host := { s.host with pba := setBit s.host.pba v } })) ∧
  (∀ (s : State) (m : Fin 8) (c : Fin 16) (v : Word), (bit v.toNat 0 = false → exec (.dmaStart m c v) s = .next s) ∧
    (bit v.toNat 1 = false → exec (.dmaAbort m c v) s = .next s)) ∧
  (∀ (s : State) (c : Fin 16) addr, s.dmaRunning c = false →
    exec (.dmaTimeout c addr) s = .next s ∧ exec (.dmaDone c) s = .next s ∧ exec (.dmaDescriptor c) s = .next s) ∧
  (∀ (s : State) (c : Fin 16), s.dmaRunning c = true →
    (∀ addr, (s.dmaCh c).aborting = none → Gives (exec (.dmaTimeout c addr) s) (fun t => t.f (DMA_CH_STATUS.STATE c) = 3 ∧
      t.f (DMA_CH_STATUS.ERR c) = 3 ∧ t.f (DMA_CH_ERR_ADDR.ADDR c) = addr % 2 ^ 64 ∧ t.f (DMA_CH_STATUS.ERR_SEEN c) = 1 ∧
      Keeps s t [.regs, .host, .out, .journal])) ∧
    (∀ k, (s.dmaCh c).aborting = some k →
      exec (.dmaDescriptor c) s = .next s ∧
      (∀ addr, Gives (exec (.dmaTimeout c addr) s) (fun t => t.f (DMA_CH_STATUS.STATE c) = 3 ∧ t.f (DMA_CH_STATUS.ERR c) = 7)) ∧
      (s.flushBad c = none → (s.dmaCh c).moved = false ∨ k ≠ s.tick → Gives (exec (.dmaDone c) s) (fun t =>
        t.f (DMA_CH_STATUS.STATE c) = 3 ∧ t.f (DMA_CH_STATUS.ERR c) = 7 ∧ Keeps s t [.regs, .host, .out, .journal]))) ∧
    (∀ x, (s.dmaCh c).moved = true → s.flushBad c = some x → Gives (exec (.dmaDone c) s) (fun t =>
      t.f (DMA_CH_STATUS.STATE c) = 3 ∧ t.f (DMA_CH_STATUS.ERR c) = 5 ∧ t.f (DMA_CH_ERR_ADDR.ADDR c) = (2 ^ 62 + x) % 2 ^ 64)) ∧
    ((s.dmaCh c).moved = true → s.flushBad c = none → (s.dmaCh c).aborting = none ∨ (s.dmaCh c).aborting = some s.tick → Gives (exec (.dmaDone c) s) (fun t => t.f (DMA_CH_STATUS.STATE c) = 2 ∧
      t.f (DMA_CH_STATUS.DONE_SEEN c) = 1 ∧ (t.dmaCh c).moved = false ∧
      ((s.dmaCh c).irq = true ∧ ¬ (s.f (DMA_CH_STATUS.DONE_SEEN c) = 1 ∧ (s.dmaCh c).asked = true) →
        t.out = (s.msix (1 + c.val)).out ∧ t.host.pba = (s.msix (1 + c.val)).host.pba) ∧
      ((s.dmaCh c).irq = false ∨ (s.f (DMA_CH_STATUS.DONE_SEEN c) = 1 ∧ (s.dmaCh c).asked = true) →
        t.out = s.out ∧ t.host.pba = s.host.pba) ∧ Keeps s t [.regs, .host, .out])) ∧
    ((s.dmaCh c).moved = false → (s.dmaCh c).aborting = none → exec (.dmaDone c) s = .next s) ∧
    (∀ a, (s.dmaCh c).fetch = some a → (s.dmaCh c).aborting = none →
      (max 1 (s.f DMA_CFG.HOP_LIMIT) ≤ s.f (DMA_CH_HOPS.COUNT c) → Gives (exec (.dmaDescriptor c) s) (fun t =>
        t.f (DMA_CH_STATUS.STATE c) = 3 ∧ t.f (DMA_CH_STATUS.ERR c) = 4)) ∧
      (s.f (DMA_CH_HOPS.COUNT c) < max 1 (s.f DMA_CFG.HOP_LIMIT) →
        (a % 32 ≠ 0 → Gives (exec (.dmaDescriptor c) s) (fun t => t.f (DMA_CH_STATUS.STATE c) = 3 ∧ t.f (DMA_CH_STATUS.ERR c) = 1)) ∧
        (dmaValid a = true → a % 32 = 0 → s.dmaRefused a 32 = none →
          (∀ l, s.dmaRead a 32 = some l → exec (.dmaDescriptor c) s = .next ((s.dmaNote a 32).dmaRun c a (descOf l))) ∧
          (s.dmaRead a 32 = none → Gives (exec (.dmaDescriptor c) s) (fun t => t.f (DMA_CH_STATUS.STATE c) = 3 ∧
            t.f (DMA_CH_STATUS.ERR c) = 5 ∧ t.f (DMA_CH_ERR_ADDR.ADDR c) = a % 2 ^ 64)))))) ∧
  (∀ (s : State) a n, a / 2 ^ 62 = 1 → (s.dmaRead a n = none ↔ ∃ r ∈ s.host.bad, overlaps (a % 2 ^ 62) n r.1 r.2 = true) ∧
    s.dmaNote a n = s) ∧
  (∀ (s : State) (c : Fin 16) (a : Nat) (d : Desc), s.dmaRunning c = true →
    (d.broken (s.on (DMA_CH_CTL.CRC_USE c)) = true → (s.dmaRun c a d).f (DMA_CH_STATUS.ERR c) = 1) ∧
    (c.val < s.host.dma.length → d.broken (s.on (DMA_CH_CTL.CRC_USE c)) = false → d.op = 0 → d.last = true → d.crc = false → d.sw = d.dw →
      d.src / 2 ^ 62 = 1 → d.dst / 2 ^ 62 = 1 → d.src + d.len ≤ 2 ^ 63 → d.dst + d.len ≤ 2 ^ 63 →
      (∀ x, s.hostBad (d.src % 2 ^ 62) d.sw = some x → (s.dmaRun c a d).f (DMA_CH_STATUS.STATE c) = 3 ∧
        (s.dmaRun c a d).f (DMA_CH_STATUS.ERR c) = 5 ∧ (s.dmaRun c a d).f (DMA_CH_ERR_ADDR.ADDR c) = d.src % 2 ^ 64) ∧
      ((d.src + d.len ≤ d.dst ∨ d.dst + d.len ≤ d.src) → s.hostBad (d.src % 2 ^ 62) d.len = none →
      rdBytes (s.dmaRun c a d).host.mem (d.dst % 2 ^ 62) d.len = rdBytes s.host.mem (d.src % 2 ^ 62) d.len ∧
      ((s.dmaRun c a d).dmaCh c).moved = true ∧ (s.dmaRun c a d).f (DMA_CH_CUR.ADDR c) = a % 2 ^ 64 ∧
      Keeps s (s.dmaRun c a d) [.regs, .host])))

/-! ## Memories and the journal (R401 to R421, R425 to R434) -/

/-- The HBM controllers: an arriving request wakes its channel and leaves the other channels' requests alone; the request picked is the
oldest of its source, no row hit ahead of an older urgent request of its bank, and as urgent as any such, a row hit among equals; a
closed row, a refresh, a forced refresh, a hot stack and power-down follow R406 to R408; the address map is refused once HBM is in use
(R403 to R408). How many requests a channel has served by now, and from which source of its port a request comes, are free (log entry
38). The model's choices in it: log entries 2, 4 and 38. -/
def Obligations.HbmControllers : Prop :=
  (∀ (s : State) (port : Fin 8) addr write, addr < 2 ^ 36 → Gives (exec (.hbmRequest port addr write) s) (fun t =>
    s.hbmChannel addr ∉ t.mem.asleep ∧ t.mem.hbm = s.mem.hbm ∧
    (∀ q ∈ s.mem.queue, s.hbmChannel q.addr ≠ s.hbmChannel addr ∨ s.mono100 ≤ q.arrival → q ∈ t.mem.queue) ∧
    (∃ src l, t.mem.queue = l ++ [⟨port, src, addr, write, s.mono100, s.mono100 + s.portTarget port⟩] ∧ (∀ q ∈ l, q ∈ s.mem.queue) ∧
      (port.val ≠ 2 → port.val ≠ 6 → src = 0)) ∧ Keeps s t [.regs, .mem, .freeCount])) ∧
  (∀ (s : State) l q, s.pickReq l = some q → q ∈ l ∧ q.isHead l = true ∧
    (s.rowHit q = true → ∀ p ∈ l.takeWhile (fun p => !decide (p = q)), s.urgency p = 3 → s.bankOf p.addr ≠ s.bankOf q.addr) ∧
    ∀ p ∈ l, p.isHead l = true → s.blocked p l = false →
      s.urgency p ≤ s.urgency q ∧ (s.urgency p = s.urgency q → s.rowHit p = true → s.rowHit q = true)) ∧
  (∀ (s : State) l, l ≠ [] → (s.pickReq l).isSome = true) ∧
  (∀ (s : State) (ch : Fin 64) (b : Fin 128),
    (s.waitingAt ch = [] → (s.bank ch b).hist < s.f HBM_PAGE_CFG.THRESH → Gives (exec (.pageIdlePrecharge ch b) s) (fun t =>
      t.bank ch b = { s.bank ch b with row := none } ∧ Keeps s t [.mem, .freeCount])) ∧
    (s.waitingAt ch = [] → s.f HBM_PAGE_CFG.THRESH ≤ (s.bank ch b).hist → Gives (exec (.pageIdlePrecharge ch b) s) (fun t =>
      Keeps s t [.freeCount])) ∧
    ((∃ q ∈ s.waitingAt ch, s.mono100 ≤ q.arrival ∧ s.bankOf q.addr = b.val) → Gives (exec (.pageIdlePrecharge ch b) s) (fun t =>
      t.bankBusy ch b = true ∧ Keeps s t [.regs, .mem, .freeCount])) ∧
    ((∃ q ∈ s.waitingAt ch, q.arrival = s.mono100 ∧ s.bankOf q.addr = b.val ∧ s.rowHit q = true) →
      exec (.pageMaxopen ch b) s = .next s) ∧
    ((∀ q ∈ s.waitingAt ch, q.arrival = s.mono100 → s.bankOf q.addr = b.val → s.rowHit q = false) →
      Gives (exec (.pageMaxopen ch b) s) (fun t => t.bank ch b = { s.bank ch b with row := none } ∧ Keeps s t [.mem])) ∧
    ((s.bank ch b).refreshed = false → Gives (exec (.forcedRefresh ch b) s) (fun t => (t.bank ch b).refreshed = true ∧
      t.f HBM_CNT_FORCED.COUNT = min (s.f HBM_CNT_FORCED.COUNT + 1) (2 ^ HBM_CNT_FORCED.COUNT.w - 1) ∧ Keeps s t [.regs, .mem])) ∧
    ((s.bank ch b).refreshed = true → exec (.forcedRefresh ch b) s = .next s)) ∧
  (∀ (s : State) (ch : Fin 64),
    Gives (exec (.refreshInterval ch) s) (fun t => (∀ b, b < 128 → (t.bank ch b).refreshed = !t.bankBusy ch b) ∧
      (∀ q ∈ s.waitingAt ch, s.mono100 ≤ q.arrival → t.bankBusy ch (s.bankOf q.addr) = true) ∧
      ch.val ∉ t.mem.asleep ∧ t.mem.hbm = s.mem.hbm ∧ Keeps s t [.regs, .mem, .freeCount]) ∧
    (s.f HBM_PD_CFG.EN = 1 → s.waitingAt ch = [] → (∀ b, b < 128 → (s.bank ch b).refreshed = true) → ch.val ∉ s.mem.asleep →
      Gives (exec (.powerDownIdle ch) s) (fun t => t.mem = { s.mem with asleep := s.mem.asleep ++ [ch.val] } ∧
        Keeps s t [.mem, .freeCount])) ∧
    (s.f HBM_PD_CFG.EN ≠ 1 ∨ (∃ q ∈ s.waitingAt ch, s.mono100 ≤ q.arrival) ∨ ch.val ∈ s.mem.asleep ∨
        (s.waitingAt ch = [] ∧ ∃ b, b < 128 ∧ (s.bank ch b).refreshed = false) →
      Gives (exec (.powerDownIdle ch) s) (fun t => t.mem.asleep = s.mem.asleep ∧ Keeps s t [.regs, .mem, .freeCount]))) ∧
  (∀ (s : State) q ch b, ch = s.hbmChannel q.addr → b = s.bankOf q.addr →
    (s.serveReq q).mem.queue = s.mem.queue.erase q ∧ (s.serveReq q).mem.asleep = s.mem.asleep ∧
    ((s.serveReq q).bankBusy ch b = false → ((s.serveReq q).bank ch b).refreshed = true) ∧
    ((s.serveReq q).bankBusy ch b = true → ((s.serveReq q).bank ch b).refreshed = (s.bank ch b).refreshed) ∧
    ((s.serveReq q).bank ch b).row = some (s.rowOf q.addr)) ∧
  (∀ (s : State) (n : Fin 4) celsius,
    (85 ≤ celsius → bit (s.f HBM_STATUS.HOT) n = false → Gives (exec (.hbmTempCrossing n celsius) s) (fun t =>
      bit (t.f HBM_STATUS.HOT) n = true ∧ t.f (HBM_TEMP.T n) = min celsius 255 ∧ Keeps s t [.regs, .journal])) ∧
    (celsius < 85 → bit (s.f HBM_STATUS.HOT) n = true → Gives (exec (.hbmTempCrossing n celsius) s) (fun t =>
      bit (t.f HBM_STATUS.HOT) n = false ∧ t.f (HBM_TEMP.T n) = celsius ∧ Keeps s t [.regs, .journal])) ∧
    (celsius < 85 → bit (s.f HBM_STATUS.HOT) n = false → Gives (exec (.hbmTempCrossing n celsius) s) (fun t =>
      t.f (HBM_TEMP.T n) = celsius ∧ Keeps s t [.regs] ∧ KeepsFields s t [HBM_TEMP.T n]))) ∧
  (∀ (s : State) (v : Word),
    (s.f HBM_CTL.ENABLE = 1 ∨ s.mem.hbmWritten = true → Gives (exec (.mapCfgWrite v) s) (fun t =>
      t.f HBM_STATUS.MAP_REFUSED = 1 ∧ Keeps s t [.regs] ∧ KeepsFields s t [HBM_STATUS.MAP_REFUSED])) ∧
    (s.f HBM_CTL.ENABLE ≠ 1 → s.mem.hbmWritten = false → Gives (exec (.mapCfgWrite v) s) (fun t =>
      t.f HBM_MAP_CFG.GRAIN = bits v.toNat 0 5 ∧ t.f HBM_MAP_CFG.HASH = bits v.toNat 5 1 ∧ Keeps s t [.regs])))

/-- Protected memories: an uncorrectable word is counted and located, a corrected one too, also in a unit's own read of HBM, a good one
changes nothing; an aligned word write stores its bytes, a narrow one in word mode stores none, one to a live table by the host or a
core is refused, and one to where they have no path; a group's MODE stands once the group has been written; Cullet installs and
discards, and its spare is checked in word mode; the voters correct a minority and halt on a disagreement, during which the owner's
writes are discarded; the test window reaches the raw word only where R419 lets it, behind a clear of its group where that is due
(R97, R153, R409 to R421). The model's choices in it: log entries 21, 39 and 53. -/
def Obligations.ProtectedMemories : Prop :=
  (∀ (s : State) (g : Fin 18) addr reader, wordOk g addr = true → s.inGroup g addr = true →
    (s.cellChecked g addr = .good → exec (.memoryRead g addr reader 0) s = .next s) ∧
    (s.cellChecked g addr = .bad → Gives (exec (.memoryRead g addr reader 0) s) (fun t =>
      t.f (ECC_CNT_UE.COUNT g) = min (s.f (ECC_CNT_UE.COUNT g) + 1) (2 ^ (ECC_CNT_UE.COUNT g).w - 1) ∧
      t.f (ECC_GRP_CFG.UE_SEEN g) = 1 ∧ t.f (ECC_LAST_ADDR.ADDR g) = addr ∧ t.f (ECC_LAST_ADDR.UE g) = 1)) ∧
    (∀ d c, s.cellChecked g addr = .corrected d c → Gives (exec (.memoryRead g addr reader 0) s) (fun t =>
      t.f (ECC_CNT_CE.COUNT g) = min (s.f (ECC_CNT_CE.COUNT g) + 1) (2 ^ (ECC_CNT_CE.COUNT g).w - 1) ∧
      t.f (ECC_GRP_CFG.CE_SEEN g) = 1 ∧ t.f (ECC_LAST_ADDR.ADDR g) = addr ∧ t.f (ECC_LAST_ADDR.UE g) = 0))) ∧
  (∀ (s : State) w, (∀ a n, s.suspects a n = [w] → s.noteRead a n = s.noteWord w) ∧
    (s.hbmChecked w = .bad → (s.noteWord w).f (ECC_CNT_UE.COUNT (s.hbmGroup w)) =
        min (s.f (ECC_CNT_UE.COUNT (s.hbmGroup w)) + 1) (2 ^ (ECC_CNT_UE.COUNT (s.hbmGroup w)).w - 1) ∧
      (s.noteWord w).f (ECC_GRP_CFG.UE_SEEN (s.hbmGroup w)) = 1) ∧
    (∀ d c, s.hbmChecked w = .corrected d c → (s.noteWord w).f (ECC_CNT_CE.COUNT (s.hbmGroup w)) =
        min (s.f (ECC_CNT_CE.COUNT (s.hbmGroup w)) + 1) (2 ^ (ECC_CNT_CE.COUNT (s.hbmGroup w)).w - 1) ∧
      (s.noteWord w).f (ECC_GRP_CFG.CE_SEEN (s.hbmGroup w)) = 1 ∧ ∃ r ∈ (s.noteWord w).journal.inFlight, r.code = 0x1101)) ∧
  (∀ (s : State) g a, ((s.cullEntry g a).isSome = true → s.cellMode g a = 0) ∧
    (s.cullEntry g a = none → s.cellMode g a = s.f (ECC_GRP_CFG.MODE g))) ∧
  (∀ (s : State) (g : Fin 18) addr m bytes, addr + bytes.length ≤ groupSpan g → s.inGroup g (addr / 8 * 8) = true →
    (m ≤ 4 → (g.val < 4 ∧ s.protectedRange addr bytes.length = true) ∨ g.val = 5 → Gives (exec (.memoryWrite g addr m bytes) s) (fun t =>
      t.host.readErr = true ∧ Keeps s t [.host])) ∧
    (g.val < 4 → m ≤ 4 → s.protectedRange addr bytes.length = false → s.liveRange addr bytes.length = true →
      Gives (exec (.memoryWrite g addr m bytes) s) (fun t =>
      t.f BMP_STATUS.LIVE_WRITE = 1 ∧ t.host.readErr = true ∧ Keeps s t [.regs, .journal, .host])) ∧
    ((m ≤ 4 → g.val ≠ 5 ∧ (g.val < 4 → s.protectedRange addr bytes.length = false ∧ s.liveRange addr bytes.length = false)) →
    (addr % 8 = 0 → bytes.length = 8 → Gives (exec (.memoryWrite g addr m bytes) s) (fun t =>
      t.rawData g addr = ofLE bytes ∧ wordKey g addr ∉ t.mem.poison)) ∧
    (s.f (ECC_GRP_CFG.MODE g) = 0 → (addr % 8 ≠ 0 ∨ bytes.length % 8 ≠ 0) → Gives (exec (.memoryWrite g addr m bytes) s) (fun t =>
      Keeps s t [.regs, .journal])))) ∧
  (∀ (s : State) (g : Fin 18) addr, (wordOk g addr = true → s.inGroup g addr = false → ∀ reader upset,
      exec (.memoryRead g addr reader upset) s = .next s) ∧
    (∀ m bytes, addr + bytes.length ≤ groupSpan g → s.inGroup g (addr / 8 * 8) = false →
      exec (.memoryWrite g addr m bytes) s = .next s)) ∧
  (∀ (s : State) (g : Fin 18) (v : Word),
    (s.tripleHeld 63 = true → Gives (exec (.groupModeWrite g v) s) (fun t =>
      t.f (ECC_GRP_CFG.MODE g) = s.f (ECC_GRP_CFG.MODE g) ∧ Keeps s t [.regs])) ∧
    (s.tripleHeld 63 = false → bits v.toNat 0 1 ≠ s.f (ECC_GRP_CFG.MODE g) → (16 ≤ g.val ∨ s.mem.grpWritten.getD g false = true) →
      Gives (exec (.groupModeWrite g v) s) (fun t => t.f (ECC_GRP_CFG.MODE g) = s.f (ECC_GRP_CFG.MODE g) ∧
        t.f (ECC_GRP_CFG.CFG_REFUSED g) = 1 ∧ t.f (ECC_GRP_CFG.CE_THRESH g) = bits v.toNat 8 4 ∧ Keeps s t [.regs])) ∧
    (s.tripleHeld 63 = false → g.val < 16 → s.mem.grpWritten.getD g false = false → Gives (exec (.groupModeWrite g v) s) (fun t =>
      t.f (ECC_GRP_CFG.MODE g) = bits v.toNat 0 1 ∧ Keeps s t [.regs]))) ∧
  (∀ (s : State) (g : Fin 18) (e : Fin 16) (v : Word),
    (bit v.toNat 0 = true → Gives (exec (.culletEntryWrite g e v) s) (fun t => t.f (ECC_CULLET_ADDR.VALID g e) = 1 ∧
      t.f (ECC_CULLET_ADDR.AUTO g e) = 0 ∧ t.f (ECC_CULLET_ADDR.ADDR g e) = bits v.toNat 8 36 / blockSize g * blockSize g)) ∧
    (bit v.toNat 0 = false → Gives (exec (.culletEntryWrite g e v) s) (fun t => t.f (ECC_CULLET_ADDR.VALID g e) ≠ 1 ∧
      t.f (ECC_CULLET_ADDR.ADDR g e) = bits v.toNat 8 36))) ∧
  (∀ (s : State) (i : Fin 64) copies, copies.length = 3 →
    (∀ v, vote copies = some (v, 0) → exec (.tmrVote i copies) s = .next (s.putCopies i none)) ∧
    (∀ v n, vote copies = some (v, n) → n ≠ 0 → Gives (exec (.tmrVote i copies) s) (fun t =>
      t.f ECC_TMR_STATUS.INDEX = i.val ∧ t.f ECC_TMR_STATUS.CORR_SEEN = 1 ∧
      t.f ECC_CNT_TMR.COUNT = min (s.f ECC_CNT_TMR.COUNT + 1) (2 ^ ECC_CNT_TMR.COUNT.w - 1) ∧ t.mem.copies = mdel s.mem.copies i ∧
      (i.val = 53 → t.f THY_INC.INC = v % 2 ^ THY_INC.INC.w) ∧ (i.val = 54 → t.root.staged.gen = v % 2 ^ 32) ∧
      (i.val = 55 → t.f GAF_GEN.ACTIVE = v % 2 ^ GAF_GEN.ACTIVE.w ∧ ∀ b, t.root.banks[3]? = some b → b.gen = v % 2 ^ 32) ∧
      Keeps s t [.regs, .mem, .journal, .root, .sage, .freeCount])) ∧
    (vote copies = none → Gives (exec (.tmrVote i copies) s) (fun t => t.f ECC_TMR_STATUS.INDEX = i.val ∧
      t.f ECC_TMR_STATUS.DISAGREE = 1 ∧ t.f MOT_STATUS.STATE = 6 ∧ t.tripleHeld i = true ∧ Keeps s t [.regs, .mem, .journal]))) ∧
  (∀ (s : State) i x v, (s.tripleHeld i = true → s.putOwned i x v = s) ∧ (s.tripleHeld i = false → s.putOwned i x v = s.put x v) ∧
    (s.putCopies i none).mem = { s.mem with copies := mdel s.mem.copies i }) ∧
  (∀ a b : Nat, a ≠ b → vote [(a, true), (a, true), (b, true)] = some (a, 1) ∧ vote [(a, true), (b, true), (a, true)] = some (a, 1) ∧
    vote [(b, true), (a, true), (a, true)] = some (a, 1) ∧ vote [(a, true), (b, true), (b, false)] = none) ∧
  (∀ (s : State) (v : Word) g a, g = bits v.toNat 0 5 → a = s.f ECC_TEST_ADDR.ADDR → s.mem.clearing = none →
    (∀ op i, (op = 0 ∧ i = .testWr v ∨ op = 1 ∧ i = .testRd v ∨ op = 2 ∧ i = .testRdc v) →
      (∀ k, k < 3 → bit v.toNat (5 + k) = decide (k = op)) →
      (s.testAllowed g a (decide (op = 0)) = false → Gives (exec i s) (fun t => t.f ECC_TEST_CTL.ERR = 1 ∧ t.mem = s.mem)) ∧
      (s.testAllowed g a (decide (op = 0)) = true → 5 ≤ g → g ≤ 13 → s.mem.cleared.getD g false = false → Gives (exec i s) (fun t =>
        t.f ECC_TEST_CTL.CLEARING = 1 ∧ ∀ x : TestAcc, x = ⟨op, g, a, s.f ECC_TEST_DATA.DATA, s.f ECC_TEST_CHECK.CHECK⟩ →
          t.mem = { s.mem with clearing := some (g, [x]) })) ∧
      (s.testAllowed g a (decide (op = 0)) = true → (g < 5 ∨ 13 < g ∨ s.mem.cleared.getD g false = true) →
        (op = 0 → s.cullEntry g a = none → Gives (exec i s) (fun t => t.rawData g a = s.f ECC_TEST_DATA.DATA % 2 ^ 64)) ∧
        (op = 0 → g < s.mem.grpWritten.length → Gives (exec i s) (fun t => t.mem.grpWritten.getD g false = true ∧
          (g < 4 → t.mem.hbmWritten = true))) ∧
        (op = 1 → Gives (exec i s) (fun t => t.f ECC_TEST_DATA.DATA = (s.ownCell g a).1 % 2 ^ 64 ∧
          t.f ECC_TEST_CHECK.CHECK = (s.ownCell g a).2 % 2 ^ 8 ∧ t.mem = s.mem)) ∧
        (op = 2 → Gives (exec i s) (fun t => t.mem = s.mem ∧ t.f ECC_TEST_RESULT.OUTCOME =
          match checkedRead (s.f (ECC_GRP_CFG.MODE g)) (s.ownCell g a).1 (s.ownCell g a).2 with
          | .good => 0 | .corrected _ _ => 1 | .bad => 2))))) ∧
  (∀ (s : State) (v : Word) h l i k, s.mem.clearing = some (h, l) → (k = 0 ∧ i = .testWr v ∨ k = 1 ∧ i = .testRd v ∨ k = 2 ∧ i = .testRdc v) →
    (∀ n, n < 3 → bit v.toNat (5 + n) = decide (n = k)) →
    s.testAllowed (bits v.toNat 0 5) (s.f ECC_TEST_ADDR.ADDR) (decide (k = 0)) = true → Gives (exec i s) (fun t =>
      ∀ x : TestAcc, x = ⟨k, bits v.toNat 0 5, s.f ECC_TEST_ADDR.ADDR, s.f ECC_TEST_DATA.DATA, s.f ECC_TEST_CHECK.CHECK⟩ →
        t.mem = { s.mem with clearing := some (h, l ++ [x]) })) ∧
  (∀ (s : State) g l, s.mem.clearing = some (g, l) → (∀ x ∈ l, x.grp = g) → g < s.mem.cleared.length →
    Gives (exec .testClearDone s) (fun t =>
      t.mem.clearing = none ∧ t.f ECC_TEST_CTL.CLEARING = 0 ∧ t.mem.cleared = s.mem.cleared.set g true)) ∧
  (∀ s : State, s.mem.clearing = none → exec .testClearDone s = .next s)

/-- A record of class 0 or 1 reaches the buffer while 65 places are free and is lost otherwise, one of a higher class while any place is
free; a ring write stores the oldest record and advances EVJ_WR, or closes the ring; EVJ_RD is taken only in its window; safe halt
stops every thread and every unit of the data path and destroys the keys; a halted job with no ACTIVE stripe closes. The model's
choices in it: log entries 2 and 45. -/
def Obligations.JournalAndSafeHalt : Prop :=
  (∀ (s : State) r l, s.journal.inFlight = r :: l →
    (r.cls ≤ 1 → s.bufFree < 65 → Gives (exec .journalRecord s) (fun t => t.journal.inFlight = l ∧ t.journal.waiting = s.journal.waiting ∧
      t.journal.lost = s.journal.lost + 1 ∧ t.f EVJ_STATUS.LOST_SEEN = 1 ∧
      t.f EVJ_CNT_LOST.COUNT = min (s.f EVJ_CNT_LOST.COUNT + 1) (2 ^ EVJ_CNT_LOST.COUNT.w - 1) ∧ Keeps s t [.regs, .journal])) ∧
    ((r.cls ≤ 1 ∧ 65 ≤ s.bufFree ∨ 1 < r.cls ∧ 0 < s.bufFree) → Gives (exec .journalRecord s) (fun t => t.journal.inFlight = l ∧
      (∃ p, t.journal.waiting = s.journal.waiting ++ [(p, r)]) ∧ t.journal.lost = s.journal.lost ∧
      t.f EVJ_BUF_COUNT.COUNT = (s.journal.waiting.length + 1) % 2 ^ 12 ∧ Keeps s t [.regs, .journal]))) ∧
  (∀ s : State, s.journal.inFlight = [] → exec .journalRecord s = .next s) ∧
  (∀ (s : State) p r l n a, s.journal.waiting = (p, r) :: l → s.f EVJ_CTL.RING_EN = 1 → s.ringHeld < s.ringSize → n = s.f EVJ_WR.COUNT →
    a = s.f EVJ_RING_BASE.ADDR + 32 * (n % s.ringSize) →
    (s.ringRefused a = false → Gives (exec (.ringWriteDone true) s) (fun t => t.f EVJ_WR.COUNT = (n + 1) % 2 ^ 32 ∧
      t.journal.waiting = l ∧ t.journal.written = s.journal.written ++ [(p, r)] ∧
      (if isHbm a = true then rdBytes t.mem.hbm a r.bytes.length = r.bytes
        else rdBytes t.host.mem (a % 2 ^ 62) r.bytes.length = r.bytes))) ∧
    (∀ ok, ok = false ∨ s.ringRefused a = true → Gives (exec (.ringWriteDone ok) s) (fun t => t.f EVJ_CTL.RING_EN = 0 ∧
      t.f EVJ_STATUS.RING_ERR = 1 ∧ t.journal = s.journal ∧ Keeps s t [.regs]))) ∧
  (∀ (s : State) (v : Word) n, n = v.toNat % 2 ^ 32 →
    ((s.f EVJ_WR.COUNT + 2 ^ 32 - n) % 2 ^ 32 ≤ s.ringSize → Gives (exec (.evjRdWrite v) s) (fun t =>
      t.f EVJ_RD.COUNT = n ∧ t.journal.irq = false ∧ Keeps s t [.regs, .journal])) ∧
    (s.ringSize < (s.f EVJ_WR.COUNT + 2 ^ 32 - n) % 2 ^ 32 → exec (.evjRdWrite v) s = .next s)) ∧
  (∀ (s : State) code src seq, s.journal.safePending = some (code, src, seq) → Gives (exec .safeHalt s) (fun t =>
    t.f EVJ_STATUS.SAFE = 1 ∧ t.f EVJ_SAFE_CAUSE.CODE = code % 2 ^ 16 ∧ t.journal.safePending = none ∧
    (∀ h ∈ t.gaf.threads, h.running = false) ∧ t.f GAF_CTL.RUN = 0 ∧ t.f GAF_STATUS.PROG_VALID = 0 ∧ t.mot.flashing = false ∧
    t.sage.laneKeys = List.replicate 4 none ∧ t.f GTH_CTL.ENABLE = 0 ∧ t.f BLP_CTL.ENABLE = 0 ∧ t.f MRV_CTL.ENABLE = 0 ∧
    t.f GLY_CTL.ENABLE = 0 ∧ t.f PAR_CTL.ENABLE = 0 ∧ t.f LEH_CTL.ENABLE = 0)) ∧
  (∀ s : State, s.journal.safePending = none → exec .safeHalt s = .next s) ∧
  (∀ (s : State) (c : Fin 2) code, (s.ctx c).halt = some code → s.ctxOpen c = true →
    ((∀ k, s.gaf.active = some k → k.ctx ≠ c.val) → Gives (exec (.jobHalted c) s) (fun t => t.ctxOpen c = false ∧
      (t.ctx c).halt = none ∧ t.mot = s.mot ∧ t.gaf.active = s.gaf.active)) ∧
    (∀ k, s.gaf.active = some k → k.ctx = c.val → exec (.jobHalted c) s = .next s))

/-! ## Sage and the services (R346 to R363, R382 to R387) -/

/-- Tokens: a token that the tool host asks SC0 to take is read from host memory with its signer's key; one that a check refuses consumes
the challenge and is answered with its code; one that none refuses has its action: the device's keys, the fuse markers, slots, feature
bits and thermometers burned, retirement, the debug unlock; safe halt permits none. Fuses are one-way; retirement and the unlock leave
no key and nothing in HBM; a retired device permits no action and a blank one only PROVISION; a challenge expires after 60 s (R346 to
R350, R355, R356, R363, R382, R426). Data that the host answers with an error completion end the request with status 4 (R385). A
response names the request that it answers. The model's choices in it: log entries 2, 33, 34 and 35. -/
def Obligations.TokenActions : Prop :=
  (∀ (s t : State) tag space offs addr a tok pub k, addr = hostWord space offs → Serves s tag 0x51 (toLE 8 addr) →
    hostAddr addr = some a → s.hostBad a 297 = none → tok = (s.hostRead a 297).take 200 → pub = (s.hostRead a 297).drop 200 →
    k = tokenOf tok → t = (fetched s 297).dropChal →
    (k.action = 1 → exec (.provision tag space offs) s = .next ((fetched s 297).decided tag 1 tok pub (t.provision tag))) ∧
    (k.action = 2 → exec (.secure tag space offs) s =
      .next ((fetched s 297).decided tag 2 tok pub ((t.burn 0x004 (List.replicate 4 0xFF)).burnDone tag 2 0 s.lifecycle))) ∧
    (k.action = 3 → exec (.retire tag space offs) s = .next ((fetched s 297).decided tag 3 tok pub (t.retireDevice tag))) ∧
    (k.action = 4 → exec (.burnOperator tag space offs) s = .next ((fetched s 297).decided tag 4 tok pub (match t.burnChecked (opOff k.arg) k.ahash with
      | (u, true) => u.burnDone tag 4 k.arg s.lifecycle
      | (u, false) => (u.burn (0x140 + k.arg) [0xFF]).burnFail tag 4 (opOff k.arg)))) ∧
    (k.action = 5 → exec (.revokeOperator tag space offs) s =
      .next ((fetched s 297).decided tag 5 tok pub ((t.burn (0x140 + k.arg) [0xFF]).burnDone tag 5 k.arg s.lifecycle))) ∧
    (k.action = 6 → exec (.debugUnlock tag space offs) s = .next ((fetched s 297).decided tag 6 tok pub (t.unlock.answerToken tag 6 0))) ∧
    (k.action = 7 → exec (.lockDebug tag space offs) s =
      .next ((fetched s 297).decided tag 7 tok pub ((t.burn 0x00C (List.replicate 4 0xFF)).burnDone tag 7 0 s.lifecycle))) ∧
    (k.action = 8 → exec (.burnFeature tag space offs) s = .next ((fetched s 297).decided tag 8 tok pub (match t.burnChecked 0x018 (toLE 4 k.arg) with
      | (u, true) => u.burnDone tag 8 k.arg s.lifecycle
      | (u, false) => u.burnFail tag 8 0x018))) ∧
    (k.action = 9 → exec (.advanceFw tag space offs) s =
      .next ((fetched s 297).decided tag 9 tok pub ((t.advance 0x150 k.arg).burnDone tag 9 k.arg s.lifecycle))) ∧
    (k.action = 10 → exec (.advanceProg tag space offs) s =
      .next ((fetched s 297).decided tag 10 tok pub ((t.advance 0x160 k.arg).burnDone tag 10 k.arg s.lifecycle))) ∧
    (k.action = 11 → exec (.revokeKytuest tag space offs) s =
      .next ((fetched s 297).decided tag 11 tok pub ((t.burn (0x144 + k.arg) [0xFF]).burnDone tag 11 k.arg s.lifecycle)))) ∧
  (∀ (s : State) tag space offs addr i, addr = hostWord space offs → (i = .provision tag space offs ∨
      i = .secure tag space offs ∨ i = .retire tag space offs ∨ i = .burnOperator tag space offs ∨
      i = .revokeOperator tag space offs ∨ i = .debugUnlock tag space offs ∨ i = .lockDebug tag space offs ∨ i = .burnFeature tag space offs ∨
      i = .advanceFw tag space offs ∨ i = .advanceProg tag space offs ∨ i = .revokeKytuest tag space offs) →
    (s.canServe = false → exec i s = .next s) ∧
    (hostAddr addr = none → Serves s tag 0x51 (toLE 8 addr) → exec i s = .next ((took s).respond tag 0x51 2 [])) ∧
    (∀ a x, hostAddr addr = some a → s.hostBad a 297 = some x → Serves s tag 0x51 (toLE 8 addr) →
      exec i s = .next (((took s).dmaStopAt 14 5 (hostWord 1 x)).respond tag 0x51 4 []))) ∧
  (∀ (s : State) tag space offs addr, addr = hostWord space offs → s.canServe = true → s.asks tag 0x51 (toLE 8 addr) = true →
    s.f EVJ_STATUS.SAFE = 1 →
    (s.tokenFor 2 addr = true → exec (.secure tag space offs) s = .next ((took s).respond tag 0x51 5 [])) ∧
    (s.tokenFor 6 addr = true → exec (.debugUnlock tag space offs) s = .next ((took s).respond tag 0x51 5 [])) ∧
    (s.tokenFor 6 addr = false → exec (.debugUnlock tag space offs) s = .next s)) ∧
  (∀ (s : State) action tok pub, action = 0 ∨ 11 < action → ∃ c, s.tokenCode action tok pub = some c) ∧
  (∀ (s : State) tag action tok pub done c, s.tokenCode action tok pub = some c →
    (s.decided tag action tok pub done).sage.chal = none ∧ (s.decided tag action tok pub done).f SAG_STATUS.CHAL = 0 ∧
    (s.decided tag action tok pub done).f SAG_STATUS.REFUSE_SEEN = 1 ∧ (s.decided tag action tok pub done).sage.fuses = s.sage.fuses ∧
    (s.decided tag action tok pub done).f SAG_CNT_REFUSE.COUNT = min (s.f SAG_CNT_REFUSE.COUNT + 1) (2 ^ SAG_CNT_REFUSE.COUNT.w - 1)) ∧
  (∀ (s : State) action tok pub, (s.lifecycle = 3 → s.tokenCode action tok pub = some 1) ∧
    (s.lifecycle = 0 → action ≠ 1 → s.tokenCode action tok pub = some 1)) ∧
  (∀ (s : State) o l a, rdByte (s.burn o l).sage.fuses a &&& rdByte s.sage.fuses a = rdByte s.sage.fuses a) ∧
  (∀ (s : State) tag, (s.retireDevice tag).mem.hbm = [] ∧ (s.retireDevice tag).sage.keysOk = false ∧
    (s.retireDevice tag).sage.laneKeys = List.replicate 4 none) ∧
  (∀ s : State, s.unlock.f SAG_STATUS.DEBUG_OPEN = 1 ∧ s.unlock.mem.hbm = [] ∧ s.unlock.sage.laneKeys = List.replicate 4 none ∧
    s.unlock.sage.fuses = s.sage.fuses) ∧
  (∀ (s : State) c, s.sage.chal = some c →
    (s.sage.chalAt + 600000000000 ≤ s.mono100 → Gives (exec .challengeExpiry s) (fun t => t.sage = { s.sage with chal := none } ∧
      t.f SAG_STATUS.CHAL = 0 ∧ Keeps s t [.regs, .sage] ∧ KeepsFields s t [SAG_STATUS.CHAL])) ∧
    (s.mono100 < s.sage.chalAt + 600000000000 → exec .challengeExpiry s = .next s)) ∧
  (∀ s : State, s.sage.chal = none → exec .challengeExpiry s = .next s)

/-- The services of SC0: each is carried out for the request at the head of the tool host's channel, is taken from it and answered with
one message of 64 bytes that names its service, tag and status; INFO, TELEMETRY and ATTEST also in safe halt; CHALLENGE draws 32 free
bytes; admission, key load, calibration, cluster and program services have the effects of R354, R384, R386 and R387, and answer with
the status of the first condition that refuses them; their data move over DMA channels 14 and 15, and data that the host answers with
an error completion give status 4; a request of no service is answered with status 1 (R25, R275, R334, R341, R354, R362, R382 to
R387). The power that TELEMETRY reports is a free value. The model's choices in it: log entries 3, 4 and 35. -/
def Obligations.Services : Prop :=
  (∀ (s : State) tag service status payload c, s.host.channels[6]? = some c → payload.length ≤ 52 →
    ∃ m, (s.respond tag service status payload).channel 1 0 = { msgs := c.msgs ++ [m], seq := (c.seq + 1) % 65536 } ∧ m.length = 64 ∧
      reqCode m = service % 2 ^ 15 + 2 ^ 15 ∧ reqTag m = tag % 2 ^ 16 ∧ ofLE ((m.drop 8).take 4) = status % 2 ^ 32 ∧
      (m.drop 12).take payload.length = payload) ∧
  (∀ (s : State) tag service, s.canServe = true →
    (s.asks tag 0x0001 [] = true → exec (.info tag) s =
      .next ((took s).respond tag 0x0001 0 (toLE 4 (s.f SAG_ROLLBACK.FW_SV) ++ toLE 8 (s.f SAG_SERIAL.SERIAL)))) ∧
    (∀ p u, s.asks tag 0x0040 [] = true → (took s).free 16 = (p, u) → exec (.telemetry tag) s =
      .next (u.respond tag 0x0040 0 (toLE 2 (s.f PWR_TJ.TJ) ++ toLE 2 p ++
        toLE 4 (s.f PGV_BUDGET.BUDGET) ++ toLE 4 (ofInt 32 s.lambda) ++ toLE 4 (s.f GAF_GEN.COMMITTED)))) ∧
    (∀ addr a, s.asks tag 0x0052 (toLE 8 addr) = true → hostAddr addr = some a →
      (s.inService = false → exec (.attest tag addr) s = .next ((took s).respond tag 0x0052 0x101 [])) ∧
      (s.inService = true → s.sage.keysOk = false → exec (.attest tag addr) s = .next ((took s).respond tag 0x0052 5 [])) ∧
      (s.inService = true → s.sage.keysOk = true → s.host.bad = [] → Gives (exec (.attest tag addr) s) (fun t =>
        rdBytes t.host.mem (a + 32) (s.reportBody (s.hostRead a 32)).length = s.reportBody (s.hostRead a 32))) ∧
      (∀ x, s.inService = true → s.sage.keysOk = true → s.hostBad a 32 = some x → exec (.attest tag addr) s =
        .next (((took s).dmaStopAt 14 5 (hostWord 1 x)).respond tag 0x0052 4 []))) ∧
    (∀ m, (s.channel 0 1).msgs = [m] → reqCode m = service → service ∉ serviceCodes →
      exec (.info tag) s = .next ((took s).respond (reqTag m) service 1 []))) ∧
  (∀ (s : State) tag, s.canServe = false → exec (.info tag) s = .next s ∧ exec (.telemetry tag) s = .next s ∧
    ∀ addr, exec (.attest tag addr) s = .next s ∧ exec (.challenge tag addr) s = .next s ∧ exec (.admitJob tag addr) s = .next s ∧
      exec (.keyUnwrap tag addr) s = .next s) ∧
  (∀ (s : State) tag addr, hostAddr addr = none →
    (Serves s tag 0x0050 (toLE 8 addr) → exec (.challenge tag addr) s = .next ((took s).respond tag 0x0050 2 [])) ∧
    (Serves s tag 0x0010 (toLE 8 addr) → exec (.admitJob tag addr) s = .next ((took s).respond tag 0x0010 2 [])) ∧
    (Serves s tag 0x0012 (toLE 8 addr) → exec (.keyUnwrap tag addr) s = .next ((took s).respond tag 0x0012 2 [])) ∧
    ∀ len, Serves s tag 0x0053 (toLE 8 addr ++ toLE 4 len) → exec (.progLoad tag addr len) s = .next ((took s).respond tag 0x0053 2 [])) ∧
  (∀ (s : State) c, (s.fwMoved c).f (DMA_CH_STATUS.STATE c) = 2 ∧ (s.fwMoved c).f (DMA_CH_STATUS.DONE_SEEN c) = 1 ∧
    Keeps s (s.fwMoved c) [.regs, .freeCount]) ∧
  (∀ (s : State) tag addr a x, hostAddr addr = some a →
    (s.hostBad a 208 = some x → Serves s tag 0x0010 (toLE 8 addr) → exec (.admitJob tag addr) s =
      .next (((took s).dmaStopAt 14 5 (hostWord 1 x)).respond tag 0x0010 4 [])) ∧
    (s.hostBad a 176 = some x → Serves s tag 0x0012 (toLE 8 addr) → exec (.keyUnwrap tag addr) s =
      .next (((took s).dmaStopAt 14 5 (hostWord 1 x)).respond tag 0x0012 4 [])) ∧
    (s.hostBad (a + 31) 1 = some x → Serves s tag 0x0050 (toLE 8 addr) → Gives (exec (.challenge tag addr) s) (fun t =>
      t.sage = s.sage ∧ t.f (DMA_CH_STATUS.STATE 15) = 3 ∧ t.f (DMA_CH_STATUS.ERR 15) = 5 ∧
      t.f (DMA_CH_ERR_ADDR.ADDR 15) = (2 ^ 62 + x) % 2 ^ 64))) ∧
  (∀ (s : State) tag addr a, hostAddr addr = some a →
    (s.hostBad (a + 31) 1 = none → Serves s tag 0x0050 (toLE 8 addr) → Gives (exec (.challenge tag addr) s) (fun t =>
      ∃ c, t.sage = { s.sage with chal := some c, chalAt := s.mono100 } ∧ c.length = 32 ∧ rdBytes t.host.mem a 32 = c ∧
        t.f SAG_STATUS.CHAL = 1)) ∧
    (s.hostBad a 208 = none → Serves s tag 0x0010 (toLE 8 addr) →
      exec (.admitJob tag addr) s = .next ((fetched s 208).admitJob tag (s.hostRead a 208))) ∧
    (s.hostBad a 176 = none → Serves s tag 0x0012 (toLE 8 addr) → ∀ b, b = s.hostRead a 176 →
      (blobType b = 1 → exec (.keyUnwrap tag addr) s = .next ((fetched s 176).respond tag 0x0012 2 [])) ∧
      (blobType b ≠ 1 → exec (.keyUnwrap tag addr) s = .next (match (fetched s 176).presentBlob b with
        | (u, some n) => u.respond tag 0x0012 (0x100 + n) []
        | (u, none) => u.respond tag 0x0012 0 [BitVec.ofNat 8 (blobType b), BitVec.ofNat 8 (blobTarget b)]))) ∧
    (∀ target sel len, Serves s tag 0x0020 (toLE 8 addr ++ (toLE 4 (target + 16 * (if sel = true then 1 else 0)) ++ toLE 4 len)) →
      (14 < target ∨ 2 * mib < len ∨ s.narrow (s.calAddr target) len = true →
        exec (.calLoad tag addr target sel len) s = .next ((took s).respond tag 0x0020 2 [])) ∧
      (target ≤ 14 → len ≤ 2 * mib → s.narrow (s.calAddr target) len = false →
        (s.calLive target = true → exec (.calLoad tag addr target sel len) s = .next ((took s).respond tag 0x0020 3 [])) ∧
        (s.calLive target = false → sel = false → s.hostBad a len = none → Gives (exec (.calLoad tag addr target sel len) s) (fun t =>
          rdBytes t.mem.hbm (s.calAddr target) len = rdBytes s.host.mem a len ∧ Keeps s t [.mem, .host, .out, .regs, .freeCount])) ∧
        (s.calLive target = false → sel = true → s.hostBad a (len + 64) = none → Gives (exec (.calLoad tag addr target sel len) s) (fun t =>
          rdBytes t.mem.hbm (s.calAddr target) len = rdBytes s.host.mem a len ∧
          (∃ r, t.root.queue = s.root.queue ++
            ⟨s.tick, BMP_SEL.off, BitVec.ofNat 64 (ofLE ((s.hostRead (a + len) 64).take 4))⟩ :: r) ∧
          Keeps s t [.mem, .host, .out, .regs, .root, .freeCount])))) ∧
    (∀ worker app count, Serves s tag 0x0031 (toLE 8 addr ++ (toLE 4 (worker + 256 * (if app = true then 1 else 0)) ++ toLE 4 count)) →
      (worker = 0 ∨ 16 < worker → exec (.clusterList tag addr worker app count) s = .next ((took s).respond tag 0x0031 2 [])) ∧
      (1 ≤ worker → worker ≤ 16 → app = false → count ≤ 65536 → 0 < (s.member worker).sent →
        exec (.clusterList tag addr worker app count) s = .next ((took s).respond tag 0x0031 3 [])) ∧
      (1 ≤ worker → worker ≤ 16 → s.clu.lists.length = 16 → s.clu.started.length = 16 → app = false → count ≤ 65536 →
        (s.member worker).sent = 0 → s.ctxOpen 0 = false → s.ctxOpen 1 = false → s.hostBad a (40 * count) = none →
        Gives (exec (.clusterList tag addr worker app count) s) (fun t =>
          t.cluList worker = (List.range count).map (fun i => descWords (s.hostRead (a + 40 * i) 40)) ∧ t.cluStarted worker = 0 ∧
          (s.cluState = 4 → (s.member worker).state = 1 → worker ∉ s.clu.conflict → worker ∉ s.clu.owed → s.clu.members.length = 16 →
            0 < count → 0 < (t.member worker).sent) ∧
          Keeps s t [.clu, .host, .out, .regs, .ports, .freeCount])) ∧
      (1 ≤ worker → worker ≤ 16 → s.clu.lists.length = 16 → app = true → (s.cluList worker).length + count ≤ 65536 →
        s.ctxOpen 0 = false → s.ctxOpen 1 = false → s.hostBad a (40 * count) = none →
        Gives (exec (.clusterList tag addr worker app count) s) (fun t =>
          t.cluList worker = s.cluList worker ++ (List.range count).map (fun i => descWords (s.hostRead (a + 40 * i) 40)) ∧
          t.cluStarted worker = s.cluStarted worker ∧ Keeps s t [.clu, .host, .out, .regs, .ports, .freeCount]))) ∧
    (∀ len, Serves s tag 0x0053 (toLE 8 addr ++ toLE 4 len) →
      (s.f GAF_CTL.RUN = 1 ∨ (∃ h ∈ s.gaf.threads, h.running = true) → Gives (exec (.progLoad tag addr len) s) (fun t =>
        t.f GAF_STATUS.PROG_VALID = 0 ∧ t.gaf = s.gaf)) ∧
      (∀ img u, s.f GAF_CTL.RUN ≠ 1 → (∀ h ∈ s.gaf.threads, h.running = false) → s.hostBad a (min len 262441) = none →
        img = s.hostRead a (min len 262441) → u = fetched s (min len 262441) →
        exec (.progLoad tag addr len) s = .next (match u.imageCode 2 false img with
          | some c => (u.sageRefuse 0x1303 [a8 2, a8 c]).loadRefused tag 3 (0x100 + c)
          | none => (u.loadProg img).respond tag 0x0053 0 (toLE 4 ((u.loadProg img).f (GAF_PROG_HASH.HASH 0))))))) ∧
  (∀ (s : State) tag b n, s.admitStatus b = some n → s.admitJob tag b = s.respond tag 0x0010 n []) ∧
  (∀ (s : State) tag b w c blob, s.admitStatus b = none → w = ofLE (b.take 4) → c = bits w 8 1 → blob = (b.drop 32).take 176 →
    s.admitJob tag b =
      match (if (s.blobCode blob).isNone ∧ ¬ s.ctxOpen (1 - c) then s.layOut (decide (9 ≤ bits w 10 4)) else s).presentBlob blob with
      | (u, some n) => u.respond tag 0x0010 (0x100 + n) []
      | (u, none) => (u.openCtx c (ofLE ((b.drop 8).take 16)) (ofLE ((b.drop 4).take 4)) (bits w 9 1)).respond tag 0x0010 0
          (toLE 4 c ++ toLE 4 ((u.openCtx c (ofLE ((b.drop 8).take 16)) (ofLE ((b.drop 4).take 4)) (bits w 9 1)).f GTH_POOL_PAGES.PAGES))) ∧
  (∀ (u : State) c job limit zlib, c < 2 → c < u.gather.ctxs.length → (u.openCtx c job limit zlib).ctxOpen c = true ∧
    ((u.openCtx c job limit zlib).ctx c).job = job ∧ (u.openCtx c job limit zlib).f (GTH_CTX_LIMIT.LIMIT c) = limit % 2 ^ 32 ∧
    (u.openCtx c job limit zlib).f (GTH_CTX_CFG.ZLIB c) = zlib % 2 ∧ (u.openCtx c job limit zlib).f GTH_CTL.ENABLE = 1) ∧
  (∀ (s : State) wide, (s.layOut wide).f PAR_RING_BASE.BASE = 0x86000000 ∧ (s.layOut wide).f PAR_RING_POS.BASE_POS = 0 ∧
    (s.layOut wide).f PAR_RING_CFG.WIDE = (if wide = true then 1 else 0) ∧ (s.layOut wide).f BMP_REGION_BASE.BASE = 0 ∧
    (s.layOut wide).f GLY_REGION_BASE.BASE = 0x2000000 ∧ (s.layOut wide).f GLY_REGION_SIZE.SIZE = 0x4000000 ∧
    (s.layOut wide).f GTH_REGION_BASE.BASE = (if wide = true then 0x498000000 else 0x290000000) ∧
    (s.layOut wide).host.admitted = true ∧ (s.layOut wide).host.wide = wide ∧
    (s.layOut wide).f PAR_CTL.ENABLE = s.f PAR_CTL.ENABLE % 2) ∧
  (∀ (s : State) img, (s.loadProg img).f GAF_STATUS.PROG_VALID = 1 ∧ (s.loadProg img).gaf.pmem = progWords (img.drop 296) ∧
    (s.loadProg img).gaf.threads = s.gaf.threads) ∧
  (∀ (s : State) b key, blobType b = 1 → blobTarget b < s.sage.jobKeys.length →
    (s.loadKey b key).sage.jobKeys[blobTarget b]? = some (some ⟨key, blobJob b, decide (blobFlags b = 1)⟩)) ∧
  (∀ (s : State) tag ctx last, Serves s tag 0x0011 (toLE 4 ctx ++ toLE 4 last) →
    (2 ≤ ctx → exec (.jobEnd tag ctx last) s = .next ((took s).respond tag 0x0011 2 [])) ∧
    (ctx < 2 → s.ctxOpen ctx = false → exec (.jobEnd tag ctx last) s = .next ((took s).respond tag 0x0011 5 [])) ∧
    (ctx < 2 → s.ctxOpen ctx = true → ctx < s.gather.ctxs.length → Gives (exec (.jobEnd tag ctx last) s) (fun t =>
      (t.ctx ctx).endAfter = some last ∧ Keeps s t [.gather, .host, .out, .regs]))) ∧
  (∀ (s : State) tag cfg group sync, Serves s tag 0x0030 (toLE 4 cfg ++ toLE 4 group ++ toLE 1 sync) →
    ((s.ctxOpen 0 = true ∨ s.ctxOpen 1 = true) → exec (.clusterRole tag cfg group sync) s = .next ((took s).respond tag 0x0030 5 [])) ∧
    (s.ctxOpen 0 = false → s.ctxOpen 1 = false → cfg % 4 < 2 → Gives (exec (.clusterRole tag cfg group sync) s) (fun t =>
      t.f CLU_GROUP.ADDR = group % 2 ^ 32 ∧ t.f CLU_CFG.ROLE = cfg % 4 ∧
      (cfg % 4 = 1 → s.roleOf (s.f CLU_CFG.ROLE) ≠ 1 → t.cluState = 1 ∧ t.clu.servo = some (sgn 8 (sync % 2 ^ 8)) ∧ t.f THY_REF_CTL.HOLD = 1) ∧
      (cfg % 4 = 0 → s.roleOf (s.f CLU_CFG.ROLE) ≠ 0 → t.cluState = 0 ∧ t.clu.servo = none) ∧ Keeps s t [.regs, .clu, .host, .out])))
end

