-- ==== Sys2Proof/Laws/Memory.lean ====
section
/-! SUPPORT. The memories of bytes: every write keeps the canonical form, and a read after a write. -/

namespace Sys2Proof.Machine

open Sys2Proof

theorem memRising_mono {lo lo' : Nat} (h : lo' ≤ lo) (m : List Host.Cell) (w : memRising lo m = true) : memRising lo' m = true := by
  cases m with
  | nil => rfl
  | cons c r =>
    obtain ⟨a, v⟩ := c
    simp only [memRising, Bool.and_eq_true, decide_eq_true_eq] at w ⊢
    exact ⟨⟨le_trans h w.1.1, w.1.2⟩, w.2⟩

theorem memRising_delByte (m : List Host.Cell) (k lo : Nat) (w : memRising lo m = true) : memRising lo (delByte m k) = true := by
  induction m generalizing lo with
  | nil => rfl
  | cons c r ih =>
    obtain ⟨a, v⟩ := c
    simp only [memRising, Bool.and_eq_true, decide_eq_true_eq] at w
    simp only [delByte]
    split
    · exact memRising_mono (by omega) _ (ih _ w.2)
    · simp only [memRising, Bool.and_eq_true, decide_eq_true_eq]
      exact ⟨w.1, ih _ w.2⟩

theorem memRising_insByte (m : List Host.Cell) (k lo : Nat) (v : Byte) (hv : v ≠ 0) (hk : lo ≤ k) (w : memRising lo m = true) :
    memRising lo (insByte m k v) = true := by
  induction m generalizing lo with
  | nil => simpa [insByte, memRising, hk] using hv
  | cons c r ih =>
    obtain ⟨a, u⟩ := c
    simp only [memRising, Bool.and_eq_true, decide_eq_true_eq] at w
    simp only [insByte]
    split
    · rename_i h
      simp only [memRising, Bool.and_eq_true, decide_eq_true_eq]
      exact ⟨⟨hk, hv⟩, ⟨⟨by omega, w.1.2⟩, w.2⟩⟩
    · split
      · rename_i h1 h2
        subst h2
        simp only [memRising, Bool.and_eq_true, decide_eq_true_eq]
        exact ⟨⟨hk, hv⟩, w.2⟩
      · simp only [memRising, Bool.and_eq_true, decide_eq_true_eq]
        exact ⟨w.1, ih _ (by omega) w.2⟩

/-- A byte written keeps the canonical form. -/
theorem Memory.wf_wrByte (m : List Host.Cell) (a : Nat) (v : Byte) (w : Memory.wf m = true) : Memory.wf (wrByte m a v) = true := by
  unfold wrByte
  split
  · exact memRising_delByte m a 0 w
  · rename_i h
    exact memRising_insByte m a 0 v h (Nat.zero_le _) w

/-- Bytes written keep the canonical form. -/
theorem Memory.wf_wrBytes (l : List Byte) (m : List Host.Cell) (a : Nat) (w : Memory.wf m = true) :
    Memory.wf (wrBytes m a l) = true := by
  induction l generalizing m a with
  | nil => exact w
  | cons v r ih => exact ih _ _ (Memory.wf_wrByte m a v w)

/-- A number written keeps the canonical form. -/
theorem Memory.wf_wrLE (m : List Host.Cell) (a n v : Nat) (w : Memory.wf m = true) : Memory.wf (wrLE m a n v) = true :=
  Memory.wf_wrBytes _ m a w

/-- A write of bytes to HBM keeps its canonical form. -/
theorem State.hbmWrite_wf (s : State) (a : Nat) (l : List Byte) (w : Memory.wf s.mem.hbm = true) :
    Memory.wf (s.hbmWrite a l).mem.hbm = true := Memory.wf_wrBytes l _ a w

/-- A write of bytes to Gaffer's data memory keeps its canonical form. -/
theorem State.dmemWrite_wf (s : State) (a : Nat) (l : List Byte) (w : Memory.wf s.gaf.dmem = true) :
    Memory.wf (s.dmemWrite a l).gaf.dmem = true := Memory.wf_wrBytes l _ a w

/-- A range of HBM cleared keeps its canonical form. -/
theorem memRising_filter (p : Host.Cell → Bool) (m : List Host.Cell) (lo : Nat) (w : memRising lo m = true) :
    memRising lo (m.filter p) = true := by
  induction m generalizing lo with
  | nil => rfl
  | cons c r ih =>
    obtain ⟨a, v⟩ := c
    simp only [memRising, Bool.and_eq_true, decide_eq_true_eq] at w
    simp only [List.filter_cons]
    split
    · simp only [memRising, Bool.and_eq_true, decide_eq_true_eq]
      exact ⟨w.1, ih _ w.2⟩
    · exact memRising_mono (by omega) _ (ih _ w.2)

/-! ## A read after a write -/

theorem rdByte_delByte_same (m : List Host.Cell) (a : Nat) : rdByte (delByte m a) a = 0 := by
  induction m with
  | nil => rfl
  | cons c r ih =>
    obtain ⟨b, v⟩ := c
    simp only [delByte]
    split
    · exact ih
    · rename_i h
      simp [rdByte, h, ih]

theorem rdByte_delByte_other (m : List Host.Cell) {a b : Nat} (h : b ≠ a) : rdByte (delByte m a) b = rdByte m b := by
  induction m with
  | nil => rfl
  | cons c r ih =>
    obtain ⟨d, v⟩ := c
    simp only [delByte]
    split
    · rename_i h2
      subst h2
      simp [rdByte, Ne.symm h, ih]
    · by_cases hd : d = b <;> simp [rdByte, hd, ih]

theorem rdByte_insByte_same (m : List Host.Cell) (a : Nat) (v : Byte) : rdByte (insByte m a v) a = v := by
  induction m with
  | nil => simp [insByte, rdByte]
  | cons c r ih =>
    obtain ⟨d, w⟩ := c
    simp only [insByte]
    split
    · simp [rdByte]
    · split
      · simp [rdByte]
      · rename_i h1 h2
        simp [rdByte, Ne.symm h2, ih]

theorem rdByte_insByte_other (m : List Host.Cell) {a b : Nat} (v : Byte) (h : b ≠ a) : rdByte (insByte m a v) b = rdByte m b := by
  induction m with
  | nil => simp [insByte, rdByte, Ne.symm h]
  | cons c r ih =>
    obtain ⟨d, w⟩ := c
    simp only [insByte]
    split
    · simp [rdByte, Ne.symm h]
    · split
      · rename_i h1 h2
        subst h2
        simp [rdByte, Ne.symm h]
      · by_cases hd : d = b <;> simp [rdByte, hd, ih]

/-- A byte reads what was written to it. -/
theorem rdByte_wrByte_same (m : List Host.Cell) (a : Nat) (v : Byte) : rdByte (wrByte m a v) a = v := by
  unfold wrByte
  split
  · rename_i h
    rw [h]
    exact rdByte_delByte_same m a
  · exact rdByte_insByte_same m a v

/-- A byte at another address keeps its value. -/
theorem rdByte_wrByte_other (m : List Host.Cell) {a b : Nat} (v : Byte) (h : b ≠ a) : rdByte (wrByte m a v) b = rdByte m b := by
  unfold wrByte
  split
  · exact rdByte_delByte_other m h
  · exact rdByte_insByte_other m v h

/-- Bytes outside a written range keep their values. -/
theorem rdByte_wrBytes_other (l : List Byte) (m : List Host.Cell) {a b : Nat} (h : b < a ∨ a + l.length ≤ b) :
    rdByte (wrBytes m a l) b = rdByte m b := by
  induction l generalizing m a with
  | nil => rfl
  | cons v r ih =>
    simp only [List.length_cons] at h
    rw [wrBytes, ih (wrByte m a v) (by omega), rdByte_wrByte_other m v (by omega)]

end Sys2Proof.Machine
end

