-- ==== Sys2Proof/Laws/State.lean ====
section
/-! SUPPORT. What each named update of the state leaves unchanged, and the register file read after it is written. -/

namespace Sys2Proof.Machine

open Sys2Proof

/-! ## Keyed lists -/

@[simp] theorem mget_mset_same {α : Type} (m : Map α) (k : Nat) (v : α) : mget (mset m k v) k = some v := by
  induction m with
  | nil => simp [mset, mget]
  | cons c r ih =>
    obtain ⟨a, w⟩ := c
    simp only [mset]
    split
    · simp [mget]
    · split
      · simp [mget]
      · rename_i h1 h2
        simp [mget, Ne.symm h2, ih]

theorem mget_mset_other {α : Type} (m : Map α) {k j : Nat} (v : α) (h : j ≠ k) : mget (mset m k v) j = mget m j := by
  induction m with
  | nil => simp [mset, mget, Ne.symm h]
  | cons c r ih =>
    obtain ⟨a, w⟩ := c
    simp only [mset]
    split
    · simp [mget, Ne.symm h]
    · split
      · rename_i h1 h2
        subst h2
        simp [mget, Ne.symm h]
      · by_cases hj : a = j
        · simp [mget, hj]
        · simp [mget, hj, ih]

@[simp] theorem mget_mdel_same {α : Type} (m : Map α) (k : Nat) : mget (mdel m k) k = none := by
  induction m with
  | nil => simp [mdel, mget]
  | cons c r ih =>
    obtain ⟨a, w⟩ := c
    simp only [mdel]
    split
    · exact ih
    · rename_i h
      simp [mget, h, ih]

theorem mget_mdel_other {α : Type} (m : Map α) {k j : Nat} (h : j ≠ k) : mget (mdel m k) j = mget m j := by
  induction m with
  | nil => simp [mdel, mget]
  | cons c r ih =>
    obtain ⟨a, w⟩ := c
    simp only [mdel]
    split
    · rename_i h2
      subst h2
      simp [mget, Ne.symm h, ih]
    · by_cases hj : a = j
      · simp [mget, hj]
      · simp [mget, hj, ih]

/-! ## The register file -/

/-- A field reads what was put into it. -/
@[simp] theorem State.f_put_same (s : State) (x : Fld) (v : Nat) : (s.put x v).f x = v % 2 ^ x.w := by
  simp only [State.f, State.put, setFld]
  split
  · rename_i h
    simp [h]
  · simp

/-- A field of another key keeps its value. -/
theorem State.f_put_other (s : State) {x y : Fld} (v : Nat) (h : y.key ≠ x.key) : (s.put x v).f y = s.f y := by
  simp only [State.f, State.put, setFld]
  split
  · rw [mget_mdel_other _ h]
  · rw [mget_mset_other _ _ h]

/-! ## Updates and the parts of the state -/

@[simp] theorem State.put_pending (s : State) (x : Fld) (v : Nat) : (s.put x v).pending = s.pending := rfl
@[simp] theorem State.put_tick (s : State) (x : Fld) (v : Nat) : (s.put x v).tick = s.tick := rfl
@[simp] theorem State.put_freeCount (s : State) (x : Fld) (v : Nat) : (s.put x v).freeCount = s.freeCount := rfl
@[simp] theorem State.put_root (s : State) (x : Fld) (v : Nat) : (s.put x v).root = s.root := rfl
@[simp] theorem State.put_journal (s : State) (x : Fld) (v : Nat) : (s.put x v).journal = s.journal := rfl
@[simp] theorem State.put_gather (s : State) (x : Fld) (v : Nat) : (s.put x v).gather = s.gather := rfl
@[simp] theorem State.put_lanes (s : State) (x : Fld) (v : Nat) : (s.put x v).lanes = s.lanes := rfl
@[simp] theorem State.put_blow (s : State) (x : Fld) (v : Nat) : (s.put x v).blow = s.blow := rfl
@[simp] theorem State.put_mslots (s : State) (x : Fld) (v : Nat) : (s.put x v).mslots = s.mslots := rfl
@[simp] theorem State.put_current (s : State) (x : Fld) (v : Nat) : (s.put x v).current = s.current := rfl
@[simp] theorem State.put_glory (s : State) (x : Fld) (v : Nat) : (s.put x v).glory = s.glory := rfl
@[simp] theorem State.put_beam (s : State) (x : Fld) (v : Nat) : (s.put x v).beam = s.beam := rfl
@[simp] theorem State.put_par (s : State) (x : Fld) (v : Nat) : (s.put x v).par = s.par := rfl
@[simp] theorem State.put_link (s : State) (x : Fld) (v : Nat) : (s.put x v).link = s.link := rfl
@[simp] theorem State.put_chans (s : State) (x : Fld) (v : Nat) : (s.put x v).chans = s.chans := rfl
@[simp] theorem State.put_later (s : State) (x : Fld) (v : Nat) : (s.put x v).later = s.later := rfl
@[simp] theorem State.put_emus (s : State) (x : Fld) (v : Nat) : (s.put x v).emus = s.emus := rfl
@[simp] theorem State.put_mot (s : State) (x : Fld) (v : Nat) : (s.put x v).mot = s.mot := rfl
@[simp] theorem State.put_aux (s : State) (x : Fld) (v : Nat) : (s.put x v).aux = s.aux := rfl
@[simp] theorem State.put_gaf (s : State) (x : Fld) (v : Nat) : (s.put x v).gaf = s.gaf := rfl
@[simp] theorem State.put_thyme (s : State) (x : Fld) (v : Nat) : (s.put x v).thyme = s.thyme := rfl
@[simp] theorem State.put_launches (s : State) (x : Fld) (v : Nat) : (s.put x v).launches = s.launches := rfl
@[simp] theorem State.put_ports (s : State) (x : Fld) (v : Nat) : (s.put x v).ports = s.ports := rfl
@[simp] theorem State.put_clu (s : State) (x : Fld) (v : Nat) : (s.put x v).clu = s.clu := rfl
@[simp] theorem State.put_sage (s : State) (x : Fld) (v : Nat) : (s.put x v).sage = s.sage := rfl
@[simp] theorem State.put_host (s : State) (x : Fld) (v : Nat) : (s.put x v).host = s.host := rfl
@[simp] theorem State.put_mem (s : State) (x : Fld) (v : Nat) : (s.put x v).mem = s.mem := rfl
@[simp] theorem State.put_power (s : State) (x : Fld) (v : Nat) : (s.put x v).power = s.power := rfl
@[simp] theorem State.put_out (s : State) (x : Fld) (v : Nat) : (s.put x v).out = s.out := rfl

@[simp] theorem State.flag_pending (s : State) (x : Fld) : (s.flag x).pending = s.pending := rfl
@[simp] theorem State.flag_tick (s : State) (x : Fld) : (s.flag x).tick = s.tick := rfl
@[simp] theorem State.flag_freeCount (s : State) (x : Fld) : (s.flag x).freeCount = s.freeCount := rfl
@[simp] theorem State.flag_root (s : State) (x : Fld) : (s.flag x).root = s.root := rfl
@[simp] theorem State.flag_journal (s : State) (x : Fld) : (s.flag x).journal = s.journal := rfl
@[simp] theorem State.flag_gather (s : State) (x : Fld) : (s.flag x).gather = s.gather := rfl
@[simp] theorem State.flag_lanes (s : State) (x : Fld) : (s.flag x).lanes = s.lanes := rfl
@[simp] theorem State.flag_blow (s : State) (x : Fld) : (s.flag x).blow = s.blow := rfl
@[simp] theorem State.flag_mslots (s : State) (x : Fld) : (s.flag x).mslots = s.mslots := rfl
@[simp] theorem State.flag_current (s : State) (x : Fld) : (s.flag x).current = s.current := rfl
@[simp] theorem State.flag_glory (s : State) (x : Fld) : (s.flag x).glory = s.glory := rfl
@[simp] theorem State.flag_beam (s : State) (x : Fld) : (s.flag x).beam = s.beam := rfl
@[simp] theorem State.flag_par (s : State) (x : Fld) : (s.flag x).par = s.par := rfl
@[simp] theorem State.flag_link (s : State) (x : Fld) : (s.flag x).link = s.link := rfl
@[simp] theorem State.flag_chans (s : State) (x : Fld) : (s.flag x).chans = s.chans := rfl
@[simp] theorem State.flag_later (s : State) (x : Fld) : (s.flag x).later = s.later := rfl
@[simp] theorem State.flag_emus (s : State) (x : Fld) : (s.flag x).emus = s.emus := rfl
@[simp] theorem State.flag_mot (s : State) (x : Fld) : (s.flag x).mot = s.mot := rfl
@[simp] theorem State.flag_aux (s : State) (x : Fld) : (s.flag x).aux = s.aux := rfl
@[simp] theorem State.flag_gaf (s : State) (x : Fld) : (s.flag x).gaf = s.gaf := rfl
@[simp] theorem State.flag_thyme (s : State) (x : Fld) : (s.flag x).thyme = s.thyme := rfl
@[simp] theorem State.flag_launches (s : State) (x : Fld) : (s.flag x).launches = s.launches := rfl
@[simp] theorem State.flag_ports (s : State) (x : Fld) : (s.flag x).ports = s.ports := rfl
@[simp] theorem State.flag_clu (s : State) (x : Fld) : (s.flag x).clu = s.clu := rfl
@[simp] theorem State.flag_sage (s : State) (x : Fld) : (s.flag x).sage = s.sage := rfl
@[simp] theorem State.flag_host (s : State) (x : Fld) : (s.flag x).host = s.host := rfl
@[simp] theorem State.flag_mem (s : State) (x : Fld) : (s.flag x).mem = s.mem := rfl
@[simp] theorem State.flag_power (s : State) (x : Fld) : (s.flag x).power = s.power := rfl
@[simp] theorem State.flag_out (s : State) (x : Fld) : (s.flag x).out = s.out := rfl

@[simp] theorem State.count_pending (s : State) (x : Fld) (n : Nat) : (s.count x n).pending = s.pending := rfl
@[simp] theorem State.count_tick (s : State) (x : Fld) (n : Nat) : (s.count x n).tick = s.tick := rfl
@[simp] theorem State.count_freeCount (s : State) (x : Fld) (n : Nat) : (s.count x n).freeCount = s.freeCount := rfl
@[simp] theorem State.count_root (s : State) (x : Fld) (n : Nat) : (s.count x n).root = s.root := rfl
@[simp] theorem State.count_journal (s : State) (x : Fld) (n : Nat) : (s.count x n).journal = s.journal := rfl
@[simp] theorem State.count_gather (s : State) (x : Fld) (n : Nat) : (s.count x n).gather = s.gather := rfl
@[simp] theorem State.count_lanes (s : State) (x : Fld) (n : Nat) : (s.count x n).lanes = s.lanes := rfl
@[simp] theorem State.count_blow (s : State) (x : Fld) (n : Nat) : (s.count x n).blow = s.blow := rfl
@[simp] theorem State.count_mslots (s : State) (x : Fld) (n : Nat) : (s.count x n).mslots = s.mslots := rfl
@[simp] theorem State.count_current (s : State) (x : Fld) (n : Nat) : (s.count x n).current = s.current := rfl
@[simp] theorem State.count_glory (s : State) (x : Fld) (n : Nat) : (s.count x n).glory = s.glory := rfl
@[simp] theorem State.count_beam (s : State) (x : Fld) (n : Nat) : (s.count x n).beam = s.beam := rfl
@[simp] theorem State.count_par (s : State) (x : Fld) (n : Nat) : (s.count x n).par = s.par := rfl
@[simp] theorem State.count_link (s : State) (x : Fld) (n : Nat) : (s.count x n).link = s.link := rfl
@[simp] theorem State.count_chans (s : State) (x : Fld) (n : Nat) : (s.count x n).chans = s.chans := rfl
@[simp] theorem State.count_later (s : State) (x : Fld) (n : Nat) : (s.count x n).later = s.later := rfl
@[simp] theorem State.count_emus (s : State) (x : Fld) (n : Nat) : (s.count x n).emus = s.emus := rfl
@[simp] theorem State.count_mot (s : State) (x : Fld) (n : Nat) : (s.count x n).mot = s.mot := rfl
@[simp] theorem State.count_aux (s : State) (x : Fld) (n : Nat) : (s.count x n).aux = s.aux := rfl
@[simp] theorem State.count_gaf (s : State) (x : Fld) (n : Nat) : (s.count x n).gaf = s.gaf := rfl
@[simp] theorem State.count_thyme (s : State) (x : Fld) (n : Nat) : (s.count x n).thyme = s.thyme := rfl
@[simp] theorem State.count_launches (s : State) (x : Fld) (n : Nat) : (s.count x n).launches = s.launches := rfl
@[simp] theorem State.count_ports (s : State) (x : Fld) (n : Nat) : (s.count x n).ports = s.ports := rfl
@[simp] theorem State.count_clu (s : State) (x : Fld) (n : Nat) : (s.count x n).clu = s.clu := rfl
@[simp] theorem State.count_sage (s : State) (x : Fld) (n : Nat) : (s.count x n).sage = s.sage := rfl
@[simp] theorem State.count_host (s : State) (x : Fld) (n : Nat) : (s.count x n).host = s.host := rfl
@[simp] theorem State.count_mem (s : State) (x : Fld) (n : Nat) : (s.count x n).mem = s.mem := rfl
@[simp] theorem State.count_power (s : State) (x : Fld) (n : Nat) : (s.count x n).power = s.power := rfl
@[simp] theorem State.count_out (s : State) (x : Fld) (n : Nat) : (s.count x n).out = s.out := rfl

@[simp] theorem State.send_pending (s : State) (o : Output) : (s.send o).pending = s.pending := rfl
@[simp] theorem State.send_tick (s : State) (o : Output) : (s.send o).tick = s.tick := rfl
@[simp] theorem State.send_freeCount (s : State) (o : Output) : (s.send o).freeCount = s.freeCount := rfl
@[simp] theorem State.send_root (s : State) (o : Output) : (s.send o).root = s.root := rfl
@[simp] theorem State.send_journal (s : State) (o : Output) : (s.send o).journal = s.journal := rfl
@[simp] theorem State.send_gather (s : State) (o : Output) : (s.send o).gather = s.gather := rfl
@[simp] theorem State.send_lanes (s : State) (o : Output) : (s.send o).lanes = s.lanes := rfl
@[simp] theorem State.send_blow (s : State) (o : Output) : (s.send o).blow = s.blow := rfl
@[simp] theorem State.send_mslots (s : State) (o : Output) : (s.send o).mslots = s.mslots := rfl
@[simp] theorem State.send_current (s : State) (o : Output) : (s.send o).current = s.current := rfl
@[simp] theorem State.send_glory (s : State) (o : Output) : (s.send o).glory = s.glory := rfl
@[simp] theorem State.send_beam (s : State) (o : Output) : (s.send o).beam = s.beam := rfl
@[simp] theorem State.send_par (s : State) (o : Output) : (s.send o).par = s.par := rfl
@[simp] theorem State.send_link (s : State) (o : Output) : (s.send o).link = s.link := rfl
@[simp] theorem State.send_chans (s : State) (o : Output) : (s.send o).chans = s.chans := rfl
@[simp] theorem State.send_later (s : State) (o : Output) : (s.send o).later = s.later := rfl
@[simp] theorem State.send_emus (s : State) (o : Output) : (s.send o).emus = s.emus := rfl
@[simp] theorem State.send_mot (s : State) (o : Output) : (s.send o).mot = s.mot := rfl
@[simp] theorem State.send_aux (s : State) (o : Output) : (s.send o).aux = s.aux := rfl
@[simp] theorem State.send_gaf (s : State) (o : Output) : (s.send o).gaf = s.gaf := rfl
@[simp] theorem State.send_thyme (s : State) (o : Output) : (s.send o).thyme = s.thyme := rfl
@[simp] theorem State.send_launches (s : State) (o : Output) : (s.send o).launches = s.launches := rfl
@[simp] theorem State.send_ports (s : State) (o : Output) : (s.send o).ports = s.ports := rfl
@[simp] theorem State.send_clu (s : State) (o : Output) : (s.send o).clu = s.clu := rfl
@[simp] theorem State.send_sage (s : State) (o : Output) : (s.send o).sage = s.sage := rfl
@[simp] theorem State.send_host (s : State) (o : Output) : (s.send o).host = s.host := rfl
@[simp] theorem State.send_mem (s : State) (o : Output) : (s.send o).mem = s.mem := rfl
@[simp] theorem State.send_power (s : State) (o : Output) : (s.send o).power = s.power := rfl
@[simp] theorem State.send_regs (s : State) (o : Output) : (s.send o).regs = s.regs := rfl
@[simp] theorem State.send_out (s : State) (o : Output) : (s.send o).out = s.out ++ [o] := rfl

@[simp] theorem State.journalEvent_pending (s : State) (c k : Nat) (w : Bool) (l : List Arg) : (s.journalEvent c k w l).pending = s.pending := rfl
@[simp] theorem State.journalEvent_tick (s : State) (c k : Nat) (w : Bool) (l : List Arg) : (s.journalEvent c k w l).tick = s.tick := rfl
@[simp] theorem State.journalEvent_freeCount (s : State) (c k : Nat) (w : Bool) (l : List Arg) : (s.journalEvent c k w l).freeCount = s.freeCount := rfl
@[simp] theorem State.journalEvent_root (s : State) (c k : Nat) (w : Bool) (l : List Arg) : (s.journalEvent c k w l).root = s.root := rfl
@[simp] theorem State.journalEvent_gather (s : State) (c k : Nat) (w : Bool) (l : List Arg) : (s.journalEvent c k w l).gather = s.gather := rfl
@[simp] theorem State.journalEvent_lanes (s : State) (c k : Nat) (w : Bool) (l : List Arg) : (s.journalEvent c k w l).lanes = s.lanes := rfl
@[simp] theorem State.journalEvent_blow (s : State) (c k : Nat) (w : Bool) (l : List Arg) : (s.journalEvent c k w l).blow = s.blow := rfl
@[simp] theorem State.journalEvent_mslots (s : State) (c k : Nat) (w : Bool) (l : List Arg) : (s.journalEvent c k w l).mslots = s.mslots := rfl
@[simp] theorem State.journalEvent_current (s : State) (c k : Nat) (w : Bool) (l : List Arg) : (s.journalEvent c k w l).current = s.current := rfl
@[simp] theorem State.journalEvent_glory (s : State) (c k : Nat) (w : Bool) (l : List Arg) : (s.journalEvent c k w l).glory = s.glory := rfl
@[simp] theorem State.journalEvent_beam (s : State) (c k : Nat) (w : Bool) (l : List Arg) : (s.journalEvent c k w l).beam = s.beam := rfl
@[simp] theorem State.journalEvent_par (s : State) (c k : Nat) (w : Bool) (l : List Arg) : (s.journalEvent c k w l).par = s.par := rfl
@[simp] theorem State.journalEvent_link (s : State) (c k : Nat) (w : Bool) (l : List Arg) : (s.journalEvent c k w l).link = s.link := rfl
@[simp] theorem State.journalEvent_chans (s : State) (c k : Nat) (w : Bool) (l : List Arg) : (s.journalEvent c k w l).chans = s.chans := rfl
@[simp] theorem State.journalEvent_later (s : State) (c k : Nat) (w : Bool) (l : List Arg) : (s.journalEvent c k w l).later = s.later := rfl
@[simp] theorem State.journalEvent_emus (s : State) (c k : Nat) (w : Bool) (l : List Arg) : (s.journalEvent c k w l).emus = s.emus := rfl
@[simp] theorem State.journalEvent_mot (s : State) (c k : Nat) (w : Bool) (l : List Arg) : (s.journalEvent c k w l).mot = s.mot := rfl
@[simp] theorem State.journalEvent_aux (s : State) (c k : Nat) (w : Bool) (l : List Arg) : (s.journalEvent c k w l).aux = s.aux := rfl
@[simp] theorem State.journalEvent_gaf (s : State) (c k : Nat) (w : Bool) (l : List Arg) : (s.journalEvent c k w l).gaf = s.gaf := rfl
@[simp] theorem State.journalEvent_thyme (s : State) (c k : Nat) (w : Bool) (l : List Arg) : (s.journalEvent c k w l).thyme = s.thyme := rfl
@[simp] theorem State.journalEvent_launches (s : State) (c k : Nat) (w : Bool) (l : List Arg) : (s.journalEvent c k w l).launches = s.launches := rfl
@[simp] theorem State.journalEvent_ports (s : State) (c k : Nat) (w : Bool) (l : List Arg) : (s.journalEvent c k w l).ports = s.ports := rfl
@[simp] theorem State.journalEvent_clu (s : State) (c k : Nat) (w : Bool) (l : List Arg) : (s.journalEvent c k w l).clu = s.clu := rfl
@[simp] theorem State.journalEvent_sage (s : State) (c k : Nat) (w : Bool) (l : List Arg) : (s.journalEvent c k w l).sage = s.sage := rfl
@[simp] theorem State.journalEvent_host (s : State) (c k : Nat) (w : Bool) (l : List Arg) : (s.journalEvent c k w l).host = s.host := rfl
@[simp] theorem State.journalEvent_mem (s : State) (c k : Nat) (w : Bool) (l : List Arg) : (s.journalEvent c k w l).mem = s.mem := rfl
@[simp] theorem State.journalEvent_power (s : State) (c k : Nat) (w : Bool) (l : List Arg) : (s.journalEvent c k w l).power = s.power := rfl
@[simp] theorem State.journalEvent_out (s : State) (c k : Nat) (w : Bool) (l : List Arg) : (s.journalEvent c k w l).out = s.out := rfl

@[simp] theorem State.event_pending (s : State) (c k : Nat) (l : List Arg) : (s.event c k l).pending = s.pending := rfl
@[simp] theorem State.event_tick (s : State) (c k : Nat) (l : List Arg) : (s.event c k l).tick = s.tick := rfl
@[simp] theorem State.event_freeCount (s : State) (c k : Nat) (l : List Arg) : (s.event c k l).freeCount = s.freeCount := rfl
@[simp] theorem State.event_root (s : State) (c k : Nat) (l : List Arg) : (s.event c k l).root = s.root := rfl
@[simp] theorem State.event_gather (s : State) (c k : Nat) (l : List Arg) : (s.event c k l).gather = s.gather := rfl
@[simp] theorem State.event_lanes (s : State) (c k : Nat) (l : List Arg) : (s.event c k l).lanes = s.lanes := rfl
@[simp] theorem State.event_blow (s : State) (c k : Nat) (l : List Arg) : (s.event c k l).blow = s.blow := rfl
@[simp] theorem State.event_mslots (s : State) (c k : Nat) (l : List Arg) : (s.event c k l).mslots = s.mslots := rfl
@[simp] theorem State.event_current (s : State) (c k : Nat) (l : List Arg) : (s.event c k l).current = s.current := rfl
@[simp] theorem State.event_glory (s : State) (c k : Nat) (l : List Arg) : (s.event c k l).glory = s.glory := rfl
@[simp] theorem State.event_beam (s : State) (c k : Nat) (l : List Arg) : (s.event c k l).beam = s.beam := rfl
@[simp] theorem State.event_par (s : State) (c k : Nat) (l : List Arg) : (s.event c k l).par = s.par := rfl
@[simp] theorem State.event_link (s : State) (c k : Nat) (l : List Arg) : (s.event c k l).link = s.link := rfl
@[simp] theorem State.event_chans (s : State) (c k : Nat) (l : List Arg) : (s.event c k l).chans = s.chans := rfl
@[simp] theorem State.event_later (s : State) (c k : Nat) (l : List Arg) : (s.event c k l).later = s.later := rfl
@[simp] theorem State.event_emus (s : State) (c k : Nat) (l : List Arg) : (s.event c k l).emus = s.emus := rfl
@[simp] theorem State.event_mot (s : State) (c k : Nat) (l : List Arg) : (s.event c k l).mot = s.mot := rfl
@[simp] theorem State.event_aux (s : State) (c k : Nat) (l : List Arg) : (s.event c k l).aux = s.aux := rfl
@[simp] theorem State.event_gaf (s : State) (c k : Nat) (l : List Arg) : (s.event c k l).gaf = s.gaf := rfl
@[simp] theorem State.event_thyme (s : State) (c k : Nat) (l : List Arg) : (s.event c k l).thyme = s.thyme := rfl
@[simp] theorem State.event_launches (s : State) (c k : Nat) (l : List Arg) : (s.event c k l).launches = s.launches := rfl
@[simp] theorem State.event_ports (s : State) (c k : Nat) (l : List Arg) : (s.event c k l).ports = s.ports := rfl
@[simp] theorem State.event_clu (s : State) (c k : Nat) (l : List Arg) : (s.event c k l).clu = s.clu := rfl
@[simp] theorem State.event_sage (s : State) (c k : Nat) (l : List Arg) : (s.event c k l).sage = s.sage := rfl
@[simp] theorem State.event_host (s : State) (c k : Nat) (l : List Arg) : (s.event c k l).host = s.host := rfl
@[simp] theorem State.event_mem (s : State) (c k : Nat) (l : List Arg) : (s.event c k l).mem = s.mem := rfl
@[simp] theorem State.event_power (s : State) (c k : Nat) (l : List Arg) : (s.event c k l).power = s.power := rfl
@[simp] theorem State.event_out (s : State) (c k : Nat) (l : List Arg) : (s.event c k l).out = s.out := rfl

@[simp] theorem State.modThread_pending (s : State) (t : Nat) (f : Thread → Thread) : (s.modThread t f).pending = s.pending := rfl
@[simp] theorem State.modThread_tick (s : State) (t : Nat) (f : Thread → Thread) : (s.modThread t f).tick = s.tick := rfl
@[simp] theorem State.modThread_freeCount (s : State) (t : Nat) (f : Thread → Thread) : (s.modThread t f).freeCount = s.freeCount := rfl
@[simp] theorem State.modThread_root (s : State) (t : Nat) (f : Thread → Thread) : (s.modThread t f).root = s.root := rfl
@[simp] theorem State.modThread_journal (s : State) (t : Nat) (f : Thread → Thread) : (s.modThread t f).journal = s.journal := rfl
@[simp] theorem State.modThread_gather (s : State) (t : Nat) (f : Thread → Thread) : (s.modThread t f).gather = s.gather := rfl
@[simp] theorem State.modThread_lanes (s : State) (t : Nat) (f : Thread → Thread) : (s.modThread t f).lanes = s.lanes := rfl
@[simp] theorem State.modThread_blow (s : State) (t : Nat) (f : Thread → Thread) : (s.modThread t f).blow = s.blow := rfl
@[simp] theorem State.modThread_mslots (s : State) (t : Nat) (f : Thread → Thread) : (s.modThread t f).mslots = s.mslots := rfl
@[simp] theorem State.modThread_current (s : State) (t : Nat) (f : Thread → Thread) : (s.modThread t f).current = s.current := rfl
@[simp] theorem State.modThread_glory (s : State) (t : Nat) (f : Thread → Thread) : (s.modThread t f).glory = s.glory := rfl
@[simp] theorem State.modThread_beam (s : State) (t : Nat) (f : Thread → Thread) : (s.modThread t f).beam = s.beam := rfl
@[simp] theorem State.modThread_par (s : State) (t : Nat) (f : Thread → Thread) : (s.modThread t f).par = s.par := rfl
@[simp] theorem State.modThread_link (s : State) (t : Nat) (f : Thread → Thread) : (s.modThread t f).link = s.link := rfl
@[simp] theorem State.modThread_chans (s : State) (t : Nat) (f : Thread → Thread) : (s.modThread t f).chans = s.chans := rfl
@[simp] theorem State.modThread_later (s : State) (t : Nat) (f : Thread → Thread) : (s.modThread t f).later = s.later := rfl
@[simp] theorem State.modThread_emus (s : State) (t : Nat) (f : Thread → Thread) : (s.modThread t f).emus = s.emus := rfl
@[simp] theorem State.modThread_mot (s : State) (t : Nat) (f : Thread → Thread) : (s.modThread t f).mot = s.mot := rfl
@[simp] theorem State.modThread_aux (s : State) (t : Nat) (f : Thread → Thread) : (s.modThread t f).aux = s.aux := rfl
@[simp] theorem State.modThread_thyme (s : State) (t : Nat) (f : Thread → Thread) : (s.modThread t f).thyme = s.thyme := rfl
@[simp] theorem State.modThread_launches (s : State) (t : Nat) (f : Thread → Thread) : (s.modThread t f).launches = s.launches := rfl
@[simp] theorem State.modThread_ports (s : State) (t : Nat) (f : Thread → Thread) : (s.modThread t f).ports = s.ports := rfl
@[simp] theorem State.modThread_clu (s : State) (t : Nat) (f : Thread → Thread) : (s.modThread t f).clu = s.clu := rfl
@[simp] theorem State.modThread_sage (s : State) (t : Nat) (f : Thread → Thread) : (s.modThread t f).sage = s.sage := rfl
@[simp] theorem State.modThread_host (s : State) (t : Nat) (f : Thread → Thread) : (s.modThread t f).host = s.host := rfl
@[simp] theorem State.modThread_mem (s : State) (t : Nat) (f : Thread → Thread) : (s.modThread t f).mem = s.mem := rfl
@[simp] theorem State.modThread_power (s : State) (t : Nat) (f : Thread → Thread) : (s.modThread t f).power = s.power := rfl
@[simp] theorem State.modThread_out (s : State) (t : Nat) (f : Thread → Thread) : (s.modThread t f).out = s.out := rfl
@[simp] theorem State.modThread_regs (s : State) (t : Nat) (f : Thread → Thread) : (s.modThread t f).regs = s.regs := rfl

@[simp] theorem State.modCtx_pending (s : State) (c : Nat) (f : JobCtx → JobCtx) : (s.modCtx c f).pending = s.pending := rfl
@[simp] theorem State.modCtx_tick (s : State) (c : Nat) (f : JobCtx → JobCtx) : (s.modCtx c f).tick = s.tick := rfl
@[simp] theorem State.modCtx_freeCount (s : State) (c : Nat) (f : JobCtx → JobCtx) : (s.modCtx c f).freeCount = s.freeCount := rfl
@[simp] theorem State.modCtx_root (s : State) (c : Nat) (f : JobCtx → JobCtx) : (s.modCtx c f).root = s.root := rfl
@[simp] theorem State.modCtx_journal (s : State) (c : Nat) (f : JobCtx → JobCtx) : (s.modCtx c f).journal = s.journal := rfl
@[simp] theorem State.modCtx_lanes (s : State) (c : Nat) (f : JobCtx → JobCtx) : (s.modCtx c f).lanes = s.lanes := rfl
@[simp] theorem State.modCtx_blow (s : State) (c : Nat) (f : JobCtx → JobCtx) : (s.modCtx c f).blow = s.blow := rfl
@[simp] theorem State.modCtx_mslots (s : State) (c : Nat) (f : JobCtx → JobCtx) : (s.modCtx c f).mslots = s.mslots := rfl
@[simp] theorem State.modCtx_current (s : State) (c : Nat) (f : JobCtx → JobCtx) : (s.modCtx c f).current = s.current := rfl
@[simp] theorem State.modCtx_glory (s : State) (c : Nat) (f : JobCtx → JobCtx) : (s.modCtx c f).glory = s.glory := rfl
@[simp] theorem State.modCtx_beam (s : State) (c : Nat) (f : JobCtx → JobCtx) : (s.modCtx c f).beam = s.beam := rfl
@[simp] theorem State.modCtx_par (s : State) (c : Nat) (f : JobCtx → JobCtx) : (s.modCtx c f).par = s.par := rfl
@[simp] theorem State.modCtx_link (s : State) (c : Nat) (f : JobCtx → JobCtx) : (s.modCtx c f).link = s.link := rfl
@[simp] theorem State.modCtx_chans (s : State) (c : Nat) (f : JobCtx → JobCtx) : (s.modCtx c f).chans = s.chans := rfl
@[simp] theorem State.modCtx_later (s : State) (c : Nat) (f : JobCtx → JobCtx) : (s.modCtx c f).later = s.later := rfl
@[simp] theorem State.modCtx_emus (s : State) (c : Nat) (f : JobCtx → JobCtx) : (s.modCtx c f).emus = s.emus := rfl
@[simp] theorem State.modCtx_mot (s : State) (c : Nat) (f : JobCtx → JobCtx) : (s.modCtx c f).mot = s.mot := rfl
@[simp] theorem State.modCtx_aux (s : State) (c : Nat) (f : JobCtx → JobCtx) : (s.modCtx c f).aux = s.aux := rfl
@[simp] theorem State.modCtx_gaf (s : State) (c : Nat) (f : JobCtx → JobCtx) : (s.modCtx c f).gaf = s.gaf := rfl
@[simp] theorem State.modCtx_thyme (s : State) (c : Nat) (f : JobCtx → JobCtx) : (s.modCtx c f).thyme = s.thyme := rfl
@[simp] theorem State.modCtx_launches (s : State) (c : Nat) (f : JobCtx → JobCtx) : (s.modCtx c f).launches = s.launches := rfl
@[simp] theorem State.modCtx_ports (s : State) (c : Nat) (f : JobCtx → JobCtx) : (s.modCtx c f).ports = s.ports := rfl
@[simp] theorem State.modCtx_clu (s : State) (c : Nat) (f : JobCtx → JobCtx) : (s.modCtx c f).clu = s.clu := rfl
@[simp] theorem State.modCtx_sage (s : State) (c : Nat) (f : JobCtx → JobCtx) : (s.modCtx c f).sage = s.sage := rfl
@[simp] theorem State.modCtx_host (s : State) (c : Nat) (f : JobCtx → JobCtx) : (s.modCtx c f).host = s.host := rfl
@[simp] theorem State.modCtx_mem (s : State) (c : Nat) (f : JobCtx → JobCtx) : (s.modCtx c f).mem = s.mem := rfl
@[simp] theorem State.modCtx_power (s : State) (c : Nat) (f : JobCtx → JobCtx) : (s.modCtx c f).power = s.power := rfl
@[simp] theorem State.modCtx_out (s : State) (c : Nat) (f : JobCtx → JobCtx) : (s.modCtx c f).out = s.out := rfl
@[simp] theorem State.modCtx_regs (s : State) (c : Nat) (f : JobCtx → JobCtx) : (s.modCtx c f).regs = s.regs := rfl

@[simp] theorem State.free_pending (s : State) (w : Nat) : (s.free w).2.pending = s.pending := rfl
@[simp] theorem State.free_tick (s : State) (w : Nat) : (s.free w).2.tick = s.tick := rfl
@[simp] theorem State.free_root (s : State) (w : Nat) : (s.free w).2.root = s.root := rfl
@[simp] theorem State.free_journal (s : State) (w : Nat) : (s.free w).2.journal = s.journal := rfl
@[simp] theorem State.free_gather (s : State) (w : Nat) : (s.free w).2.gather = s.gather := rfl
@[simp] theorem State.free_lanes (s : State) (w : Nat) : (s.free w).2.lanes = s.lanes := rfl
@[simp] theorem State.free_blow (s : State) (w : Nat) : (s.free w).2.blow = s.blow := rfl
@[simp] theorem State.free_mslots (s : State) (w : Nat) : (s.free w).2.mslots = s.mslots := rfl
@[simp] theorem State.free_current (s : State) (w : Nat) : (s.free w).2.current = s.current := rfl
@[simp] theorem State.free_glory (s : State) (w : Nat) : (s.free w).2.glory = s.glory := rfl
@[simp] theorem State.free_beam (s : State) (w : Nat) : (s.free w).2.beam = s.beam := rfl
@[simp] theorem State.free_par (s : State) (w : Nat) : (s.free w).2.par = s.par := rfl
@[simp] theorem State.free_link (s : State) (w : Nat) : (s.free w).2.link = s.link := rfl
@[simp] theorem State.free_chans (s : State) (w : Nat) : (s.free w).2.chans = s.chans := rfl
@[simp] theorem State.free_later (s : State) (w : Nat) : (s.free w).2.later = s.later := rfl
@[simp] theorem State.free_emus (s : State) (w : Nat) : (s.free w).2.emus = s.emus := rfl
@[simp] theorem State.free_mot (s : State) (w : Nat) : (s.free w).2.mot = s.mot := rfl
@[simp] theorem State.free_aux (s : State) (w : Nat) : (s.free w).2.aux = s.aux := rfl
@[simp] theorem State.free_gaf (s : State) (w : Nat) : (s.free w).2.gaf = s.gaf := rfl
@[simp] theorem State.free_thyme (s : State) (w : Nat) : (s.free w).2.thyme = s.thyme := rfl
@[simp] theorem State.free_launches (s : State) (w : Nat) : (s.free w).2.launches = s.launches := rfl
@[simp] theorem State.free_ports (s : State) (w : Nat) : (s.free w).2.ports = s.ports := rfl
@[simp] theorem State.free_clu (s : State) (w : Nat) : (s.free w).2.clu = s.clu := rfl
@[simp] theorem State.free_sage (s : State) (w : Nat) : (s.free w).2.sage = s.sage := rfl
@[simp] theorem State.free_host (s : State) (w : Nat) : (s.free w).2.host = s.host := rfl
@[simp] theorem State.free_mem (s : State) (w : Nat) : (s.free w).2.mem = s.mem := rfl
@[simp] theorem State.free_power (s : State) (w : Nat) : (s.free w).2.power = s.power := rfl
@[simp] theorem State.free_out (s : State) (w : Nat) : (s.free w).2.out = s.out := rfl
@[simp] theorem State.free_regs (s : State) (w : Nat) : (s.free w).2.regs = s.regs := rfl

/-- A free value lies below 2^w. -/
theorem State.free_lt (s : State) (w : Nat) : (s.free w).1 < 2 ^ w := Nat.mod_lt _ (Nat.two_pow_pos w)

/-- Raising a counter never lowers it, where it fits its field. -/
theorem State.count_f (s : State) (x : Fld) (n : Nat) : (s.count x n).f x = min (s.f x + n) (2 ^ x.w - 1) := by
  have h : min (s.f x + n) (2 ^ x.w - 1) < 2 ^ x.w := by
    have := Nat.two_pow_pos x.w
    omega
  simp [State.count, Nat.mod_eq_of_lt h]

@[simp] theorem State.at_pending (s : State) (n : Nat) (l : Later) : (s.at n l).pending = s.pending := rfl
@[simp] theorem State.at_tick (s : State) (n : Nat) (l : Later) : (s.at n l).tick = s.tick := rfl
@[simp] theorem State.at_freeCount (s : State) (n : Nat) (l : Later) : (s.at n l).freeCount = s.freeCount := rfl
@[simp] theorem State.at_regs (s : State) (n : Nat) (l : Later) : (s.at n l).regs = s.regs := rfl
@[simp] theorem State.at_root (s : State) (n : Nat) (l : Later) : (s.at n l).root = s.root := rfl
@[simp] theorem State.at_journal (s : State) (n : Nat) (l : Later) : (s.at n l).journal = s.journal := rfl
@[simp] theorem State.at_gather (s : State) (n : Nat) (l : Later) : (s.at n l).gather = s.gather := rfl
@[simp] theorem State.at_lanes (s : State) (n : Nat) (l : Later) : (s.at n l).lanes = s.lanes := rfl
@[simp] theorem State.at_blow (s : State) (n : Nat) (l : Later) : (s.at n l).blow = s.blow := rfl
@[simp] theorem State.at_mslots (s : State) (n : Nat) (l : Later) : (s.at n l).mslots = s.mslots := rfl
@[simp] theorem State.at_current (s : State) (n : Nat) (l : Later) : (s.at n l).current = s.current := rfl
@[simp] theorem State.at_glory (s : State) (n : Nat) (l : Later) : (s.at n l).glory = s.glory := rfl
@[simp] theorem State.at_beam (s : State) (n : Nat) (l : Later) : (s.at n l).beam = s.beam := rfl
@[simp] theorem State.at_par (s : State) (n : Nat) (l : Later) : (s.at n l).par = s.par := rfl
@[simp] theorem State.at_link (s : State) (n : Nat) (l : Later) : (s.at n l).link = s.link := rfl
@[simp] theorem State.at_chans (s : State) (n : Nat) (l : Later) : (s.at n l).chans = s.chans := rfl
@[simp] theorem State.at_emus (s : State) (n : Nat) (l : Later) : (s.at n l).emus = s.emus := rfl
@[simp] theorem State.at_mot (s : State) (n : Nat) (l : Later) : (s.at n l).mot = s.mot := rfl
@[simp] theorem State.at_aux (s : State) (n : Nat) (l : Later) : (s.at n l).aux = s.aux := rfl
@[simp] theorem State.at_gaf (s : State) (n : Nat) (l : Later) : (s.at n l).gaf = s.gaf := rfl
@[simp] theorem State.at_thyme (s : State) (n : Nat) (l : Later) : (s.at n l).thyme = s.thyme := rfl
@[simp] theorem State.at_launches (s : State) (n : Nat) (l : Later) : (s.at n l).launches = s.launches := rfl
@[simp] theorem State.at_ports (s : State) (n : Nat) (l : Later) : (s.at n l).ports = s.ports := rfl
@[simp] theorem State.at_clu (s : State) (n : Nat) (l : Later) : (s.at n l).clu = s.clu := rfl
@[simp] theorem State.at_sage (s : State) (n : Nat) (l : Later) : (s.at n l).sage = s.sage := rfl
@[simp] theorem State.at_host (s : State) (n : Nat) (l : Later) : (s.at n l).host = s.host := rfl
@[simp] theorem State.at_mem (s : State) (n : Nat) (l : Later) : (s.at n l).mem = s.mem := rfl
@[simp] theorem State.at_power (s : State) (n : Nat) (l : Later) : (s.at n l).power = s.power := rfl
@[simp] theorem State.at_out (s : State) (n : Nat) (l : Later) : (s.at n l).out = s.out := rfl

@[simp] theorem State.modPln_pending (s : State) (l : Nat) (f : PLane → PLane) : (s.modPln l f).pending = s.pending := rfl
@[simp] theorem State.modPln_tick (s : State) (l : Nat) (f : PLane → PLane) : (s.modPln l f).tick = s.tick := rfl
@[simp] theorem State.modPln_freeCount (s : State) (l : Nat) (f : PLane → PLane) : (s.modPln l f).freeCount = s.freeCount := rfl
@[simp] theorem State.modPln_regs (s : State) (l : Nat) (f : PLane → PLane) : (s.modPln l f).regs = s.regs := rfl
@[simp] theorem State.modPln_root (s : State) (l : Nat) (f : PLane → PLane) : (s.modPln l f).root = s.root := rfl
@[simp] theorem State.modPln_journal (s : State) (l : Nat) (f : PLane → PLane) : (s.modPln l f).journal = s.journal := rfl
@[simp] theorem State.modPln_gather (s : State) (l : Nat) (f : PLane → PLane) : (s.modPln l f).gather = s.gather := rfl
@[simp] theorem State.modPln_lanes (s : State) (l : Nat) (f : PLane → PLane) : (s.modPln l f).lanes = s.lanes := rfl
@[simp] theorem State.modPln_blow (s : State) (l : Nat) (f : PLane → PLane) : (s.modPln l f).blow = s.blow := rfl
@[simp] theorem State.modPln_mslots (s : State) (l : Nat) (f : PLane → PLane) : (s.modPln l f).mslots = s.mslots := rfl
@[simp] theorem State.modPln_current (s : State) (l : Nat) (f : PLane → PLane) : (s.modPln l f).current = s.current := rfl
@[simp] theorem State.modPln_glory (s : State) (l : Nat) (f : PLane → PLane) : (s.modPln l f).glory = s.glory := rfl
@[simp] theorem State.modPln_beam (s : State) (l : Nat) (f : PLane → PLane) : (s.modPln l f).beam = s.beam := rfl
@[simp] theorem State.modPln_par (s : State) (l : Nat) (f : PLane → PLane) : (s.modPln l f).par = s.par := rfl
@[simp] theorem State.modPln_chans (s : State) (l : Nat) (f : PLane → PLane) : (s.modPln l f).chans = s.chans := rfl
@[simp] theorem State.modPln_later (s : State) (l : Nat) (f : PLane → PLane) : (s.modPln l f).later = s.later := rfl
@[simp] theorem State.modPln_emus (s : State) (l : Nat) (f : PLane → PLane) : (s.modPln l f).emus = s.emus := rfl
@[simp] theorem State.modPln_mot (s : State) (l : Nat) (f : PLane → PLane) : (s.modPln l f).mot = s.mot := rfl
@[simp] theorem State.modPln_aux (s : State) (l : Nat) (f : PLane → PLane) : (s.modPln l f).aux = s.aux := rfl
@[simp] theorem State.modPln_gaf (s : State) (l : Nat) (f : PLane → PLane) : (s.modPln l f).gaf = s.gaf := rfl
@[simp] theorem State.modPln_thyme (s : State) (l : Nat) (f : PLane → PLane) : (s.modPln l f).thyme = s.thyme := rfl
@[simp] theorem State.modPln_launches (s : State) (l : Nat) (f : PLane → PLane) : (s.modPln l f).launches = s.launches := rfl
@[simp] theorem State.modPln_ports (s : State) (l : Nat) (f : PLane → PLane) : (s.modPln l f).ports = s.ports := rfl
@[simp] theorem State.modPln_clu (s : State) (l : Nat) (f : PLane → PLane) : (s.modPln l f).clu = s.clu := rfl
@[simp] theorem State.modPln_sage (s : State) (l : Nat) (f : PLane → PLane) : (s.modPln l f).sage = s.sage := rfl
@[simp] theorem State.modPln_host (s : State) (l : Nat) (f : PLane → PLane) : (s.modPln l f).host = s.host := rfl
@[simp] theorem State.modPln_mem (s : State) (l : Nat) (f : PLane → PLane) : (s.modPln l f).mem = s.mem := rfl
@[simp] theorem State.modPln_power (s : State) (l : Nat) (f : PLane → PLane) : (s.modPln l f).power = s.power := rfl
@[simp] theorem State.modPln_out (s : State) (l : Nat) (f : PLane → PLane) : (s.modPln l f).out = s.out := rfl

@[simp] theorem State.modRet_pending (s : State) (g : Nat) (f : RLane → RLane) : (s.modRet g f).pending = s.pending := rfl
@[simp] theorem State.modRet_tick (s : State) (g : Nat) (f : RLane → RLane) : (s.modRet g f).tick = s.tick := rfl
@[simp] theorem State.modRet_freeCount (s : State) (g : Nat) (f : RLane → RLane) : (s.modRet g f).freeCount = s.freeCount := rfl
@[simp] theorem State.modRet_regs (s : State) (g : Nat) (f : RLane → RLane) : (s.modRet g f).regs = s.regs := rfl
@[simp] theorem State.modRet_root (s : State) (g : Nat) (f : RLane → RLane) : (s.modRet g f).root = s.root := rfl
@[simp] theorem State.modRet_journal (s : State) (g : Nat) (f : RLane → RLane) : (s.modRet g f).journal = s.journal := rfl
@[simp] theorem State.modRet_gather (s : State) (g : Nat) (f : RLane → RLane) : (s.modRet g f).gather = s.gather := rfl
@[simp] theorem State.modRet_lanes (s : State) (g : Nat) (f : RLane → RLane) : (s.modRet g f).lanes = s.lanes := rfl
@[simp] theorem State.modRet_blow (s : State) (g : Nat) (f : RLane → RLane) : (s.modRet g f).blow = s.blow := rfl
@[simp] theorem State.modRet_mslots (s : State) (g : Nat) (f : RLane → RLane) : (s.modRet g f).mslots = s.mslots := rfl
@[simp] theorem State.modRet_current (s : State) (g : Nat) (f : RLane → RLane) : (s.modRet g f).current = s.current := rfl
@[simp] theorem State.modRet_glory (s : State) (g : Nat) (f : RLane → RLane) : (s.modRet g f).glory = s.glory := rfl
@[simp] theorem State.modRet_beam (s : State) (g : Nat) (f : RLane → RLane) : (s.modRet g f).beam = s.beam := rfl
@[simp] theorem State.modRet_par (s : State) (g : Nat) (f : RLane → RLane) : (s.modRet g f).par = s.par := rfl
@[simp] theorem State.modRet_chans (s : State) (g : Nat) (f : RLane → RLane) : (s.modRet g f).chans = s.chans := rfl
@[simp] theorem State.modRet_later (s : State) (g : Nat) (f : RLane → RLane) : (s.modRet g f).later = s.later := rfl
@[simp] theorem State.modRet_emus (s : State) (g : Nat) (f : RLane → RLane) : (s.modRet g f).emus = s.emus := rfl
@[simp] theorem State.modRet_mot (s : State) (g : Nat) (f : RLane → RLane) : (s.modRet g f).mot = s.mot := rfl
@[simp] theorem State.modRet_aux (s : State) (g : Nat) (f : RLane → RLane) : (s.modRet g f).aux = s.aux := rfl
@[simp] theorem State.modRet_gaf (s : State) (g : Nat) (f : RLane → RLane) : (s.modRet g f).gaf = s.gaf := rfl
@[simp] theorem State.modRet_thyme (s : State) (g : Nat) (f : RLane → RLane) : (s.modRet g f).thyme = s.thyme := rfl
@[simp] theorem State.modRet_launches (s : State) (g : Nat) (f : RLane → RLane) : (s.modRet g f).launches = s.launches := rfl
@[simp] theorem State.modRet_ports (s : State) (g : Nat) (f : RLane → RLane) : (s.modRet g f).ports = s.ports := rfl
@[simp] theorem State.modRet_clu (s : State) (g : Nat) (f : RLane → RLane) : (s.modRet g f).clu = s.clu := rfl
@[simp] theorem State.modRet_sage (s : State) (g : Nat) (f : RLane → RLane) : (s.modRet g f).sage = s.sage := rfl
@[simp] theorem State.modRet_host (s : State) (g : Nat) (f : RLane → RLane) : (s.modRet g f).host = s.host := rfl
@[simp] theorem State.modRet_mem (s : State) (g : Nat) (f : RLane → RLane) : (s.modRet g f).mem = s.mem := rfl
@[simp] theorem State.modRet_power (s : State) (g : Nat) (f : RLane → RLane) : (s.modRet g f).power = s.power := rfl
@[simp] theorem State.modRet_out (s : State) (g : Nat) (f : RLane → RLane) : (s.modRet g f).out = s.out := rfl

@[simp] theorem State.modChan_pending (s : State) (n : Nat) (f : Chan → Chan) : (s.modChan n f).pending = s.pending := rfl
@[simp] theorem State.modChan_tick (s : State) (n : Nat) (f : Chan → Chan) : (s.modChan n f).tick = s.tick := rfl
@[simp] theorem State.modChan_freeCount (s : State) (n : Nat) (f : Chan → Chan) : (s.modChan n f).freeCount = s.freeCount := rfl
@[simp] theorem State.modChan_regs (s : State) (n : Nat) (f : Chan → Chan) : (s.modChan n f).regs = s.regs := rfl
@[simp] theorem State.modChan_root (s : State) (n : Nat) (f : Chan → Chan) : (s.modChan n f).root = s.root := rfl
@[simp] theorem State.modChan_journal (s : State) (n : Nat) (f : Chan → Chan) : (s.modChan n f).journal = s.journal := rfl
@[simp] theorem State.modChan_gather (s : State) (n : Nat) (f : Chan → Chan) : (s.modChan n f).gather = s.gather := rfl
@[simp] theorem State.modChan_lanes (s : State) (n : Nat) (f : Chan → Chan) : (s.modChan n f).lanes = s.lanes := rfl
@[simp] theorem State.modChan_blow (s : State) (n : Nat) (f : Chan → Chan) : (s.modChan n f).blow = s.blow := rfl
@[simp] theorem State.modChan_mslots (s : State) (n : Nat) (f : Chan → Chan) : (s.modChan n f).mslots = s.mslots := rfl
@[simp] theorem State.modChan_current (s : State) (n : Nat) (f : Chan → Chan) : (s.modChan n f).current = s.current := rfl
@[simp] theorem State.modChan_glory (s : State) (n : Nat) (f : Chan → Chan) : (s.modChan n f).glory = s.glory := rfl
@[simp] theorem State.modChan_beam (s : State) (n : Nat) (f : Chan → Chan) : (s.modChan n f).beam = s.beam := rfl
@[simp] theorem State.modChan_par (s : State) (n : Nat) (f : Chan → Chan) : (s.modChan n f).par = s.par := rfl
@[simp] theorem State.modChan_link (s : State) (n : Nat) (f : Chan → Chan) : (s.modChan n f).link = s.link := rfl
@[simp] theorem State.modChan_later (s : State) (n : Nat) (f : Chan → Chan) : (s.modChan n f).later = s.later := rfl
@[simp] theorem State.modChan_emus (s : State) (n : Nat) (f : Chan → Chan) : (s.modChan n f).emus = s.emus := rfl
@[simp] theorem State.modChan_mot (s : State) (n : Nat) (f : Chan → Chan) : (s.modChan n f).mot = s.mot := rfl
@[simp] theorem State.modChan_aux (s : State) (n : Nat) (f : Chan → Chan) : (s.modChan n f).aux = s.aux := rfl
@[simp] theorem State.modChan_gaf (s : State) (n : Nat) (f : Chan → Chan) : (s.modChan n f).gaf = s.gaf := rfl
@[simp] theorem State.modChan_thyme (s : State) (n : Nat) (f : Chan → Chan) : (s.modChan n f).thyme = s.thyme := rfl
@[simp] theorem State.modChan_launches (s : State) (n : Nat) (f : Chan → Chan) : (s.modChan n f).launches = s.launches := rfl
@[simp] theorem State.modChan_ports (s : State) (n : Nat) (f : Chan → Chan) : (s.modChan n f).ports = s.ports := rfl
@[simp] theorem State.modChan_clu (s : State) (n : Nat) (f : Chan → Chan) : (s.modChan n f).clu = s.clu := rfl
@[simp] theorem State.modChan_sage (s : State) (n : Nat) (f : Chan → Chan) : (s.modChan n f).sage = s.sage := rfl
@[simp] theorem State.modChan_host (s : State) (n : Nat) (f : Chan → Chan) : (s.modChan n f).host = s.host := rfl
@[simp] theorem State.modChan_mem (s : State) (n : Nat) (f : Chan → Chan) : (s.modChan n f).mem = s.mem := rfl
@[simp] theorem State.modChan_power (s : State) (n : Nat) (f : Chan → Chan) : (s.modChan n f).power = s.power := rfl
@[simp] theorem State.modChan_out (s : State) (n : Nat) (f : Chan → Chan) : (s.modChan n f).out = s.out := rfl

@[simp] theorem State.setSlot_pending (s : State) (i : Nat) (g : Option Ingest) : (s.setSlot i g).pending = s.pending := rfl
@[simp] theorem State.setSlot_tick (s : State) (i : Nat) (g : Option Ingest) : (s.setSlot i g).tick = s.tick := rfl
@[simp] theorem State.setSlot_freeCount (s : State) (i : Nat) (g : Option Ingest) : (s.setSlot i g).freeCount = s.freeCount := rfl
@[simp] theorem State.setSlot_regs (s : State) (i : Nat) (g : Option Ingest) : (s.setSlot i g).regs = s.regs := rfl
@[simp] theorem State.setSlot_root (s : State) (i : Nat) (g : Option Ingest) : (s.setSlot i g).root = s.root := rfl
@[simp] theorem State.setSlot_journal (s : State) (i : Nat) (g : Option Ingest) : (s.setSlot i g).journal = s.journal := rfl
@[simp] theorem State.setSlot_lanes (s : State) (i : Nat) (g : Option Ingest) : (s.setSlot i g).lanes = s.lanes := rfl
@[simp] theorem State.setSlot_blow (s : State) (i : Nat) (g : Option Ingest) : (s.setSlot i g).blow = s.blow := rfl
@[simp] theorem State.setSlot_mslots (s : State) (i : Nat) (g : Option Ingest) : (s.setSlot i g).mslots = s.mslots := rfl
@[simp] theorem State.setSlot_current (s : State) (i : Nat) (g : Option Ingest) : (s.setSlot i g).current = s.current := rfl
@[simp] theorem State.setSlot_glory (s : State) (i : Nat) (g : Option Ingest) : (s.setSlot i g).glory = s.glory := rfl
@[simp] theorem State.setSlot_beam (s : State) (i : Nat) (g : Option Ingest) : (s.setSlot i g).beam = s.beam := rfl
@[simp] theorem State.setSlot_par (s : State) (i : Nat) (g : Option Ingest) : (s.setSlot i g).par = s.par := rfl
@[simp] theorem State.setSlot_link (s : State) (i : Nat) (g : Option Ingest) : (s.setSlot i g).link = s.link := rfl
@[simp] theorem State.setSlot_chans (s : State) (i : Nat) (g : Option Ingest) : (s.setSlot i g).chans = s.chans := rfl
@[simp] theorem State.setSlot_later (s : State) (i : Nat) (g : Option Ingest) : (s.setSlot i g).later = s.later := rfl
@[simp] theorem State.setSlot_emus (s : State) (i : Nat) (g : Option Ingest) : (s.setSlot i g).emus = s.emus := rfl
@[simp] theorem State.setSlot_mot (s : State) (i : Nat) (g : Option Ingest) : (s.setSlot i g).mot = s.mot := rfl
@[simp] theorem State.setSlot_aux (s : State) (i : Nat) (g : Option Ingest) : (s.setSlot i g).aux = s.aux := rfl
@[simp] theorem State.setSlot_gaf (s : State) (i : Nat) (g : Option Ingest) : (s.setSlot i g).gaf = s.gaf := rfl
@[simp] theorem State.setSlot_thyme (s : State) (i : Nat) (g : Option Ingest) : (s.setSlot i g).thyme = s.thyme := rfl
@[simp] theorem State.setSlot_launches (s : State) (i : Nat) (g : Option Ingest) : (s.setSlot i g).launches = s.launches := rfl
@[simp] theorem State.setSlot_ports (s : State) (i : Nat) (g : Option Ingest) : (s.setSlot i g).ports = s.ports := rfl
@[simp] theorem State.setSlot_clu (s : State) (i : Nat) (g : Option Ingest) : (s.setSlot i g).clu = s.clu := rfl
@[simp] theorem State.setSlot_sage (s : State) (i : Nat) (g : Option Ingest) : (s.setSlot i g).sage = s.sage := rfl
@[simp] theorem State.setSlot_host (s : State) (i : Nat) (g : Option Ingest) : (s.setSlot i g).host = s.host := rfl
@[simp] theorem State.setSlot_mem (s : State) (i : Nat) (g : Option Ingest) : (s.setSlot i g).mem = s.mem := rfl
@[simp] theorem State.setSlot_power (s : State) (i : Nat) (g : Option Ingest) : (s.setSlot i g).power = s.power := rfl
@[simp] theorem State.setSlot_out (s : State) (i : Nat) (g : Option Ingest) : (s.setSlot i g).out = s.out := rfl

@[simp] theorem State.setWalk_pending (s : State) (w : Nat) (t : Option Walk) : (s.setWalk w t).pending = s.pending := rfl
@[simp] theorem State.setWalk_tick (s : State) (w : Nat) (t : Option Walk) : (s.setWalk w t).tick = s.tick := rfl
@[simp] theorem State.setWalk_freeCount (s : State) (w : Nat) (t : Option Walk) : (s.setWalk w t).freeCount = s.freeCount := rfl
@[simp] theorem State.setWalk_regs (s : State) (w : Nat) (t : Option Walk) : (s.setWalk w t).regs = s.regs := rfl
@[simp] theorem State.setWalk_root (s : State) (w : Nat) (t : Option Walk) : (s.setWalk w t).root = s.root := rfl
@[simp] theorem State.setWalk_journal (s : State) (w : Nat) (t : Option Walk) : (s.setWalk w t).journal = s.journal := rfl
@[simp] theorem State.setWalk_gather (s : State) (w : Nat) (t : Option Walk) : (s.setWalk w t).gather = s.gather := rfl
@[simp] theorem State.setWalk_lanes (s : State) (w : Nat) (t : Option Walk) : (s.setWalk w t).lanes = s.lanes := rfl
@[simp] theorem State.setWalk_mslots (s : State) (w : Nat) (t : Option Walk) : (s.setWalk w t).mslots = s.mslots := rfl
@[simp] theorem State.setWalk_current (s : State) (w : Nat) (t : Option Walk) : (s.setWalk w t).current = s.current := rfl
@[simp] theorem State.setWalk_glory (s : State) (w : Nat) (t : Option Walk) : (s.setWalk w t).glory = s.glory := rfl
@[simp] theorem State.setWalk_beam (s : State) (w : Nat) (t : Option Walk) : (s.setWalk w t).beam = s.beam := rfl
@[simp] theorem State.setWalk_par (s : State) (w : Nat) (t : Option Walk) : (s.setWalk w t).par = s.par := rfl
@[simp] theorem State.setWalk_link (s : State) (w : Nat) (t : Option Walk) : (s.setWalk w t).link = s.link := rfl
@[simp] theorem State.setWalk_chans (s : State) (w : Nat) (t : Option Walk) : (s.setWalk w t).chans = s.chans := rfl
@[simp] theorem State.setWalk_later (s : State) (w : Nat) (t : Option Walk) : (s.setWalk w t).later = s.later := rfl
@[simp] theorem State.setWalk_emus (s : State) (w : Nat) (t : Option Walk) : (s.setWalk w t).emus = s.emus := rfl
@[simp] theorem State.setWalk_mot (s : State) (w : Nat) (t : Option Walk) : (s.setWalk w t).mot = s.mot := rfl
@[simp] theorem State.setWalk_aux (s : State) (w : Nat) (t : Option Walk) : (s.setWalk w t).aux = s.aux := rfl
@[simp] theorem State.setWalk_gaf (s : State) (w : Nat) (t : Option Walk) : (s.setWalk w t).gaf = s.gaf := rfl
@[simp] theorem State.setWalk_thyme (s : State) (w : Nat) (t : Option Walk) : (s.setWalk w t).thyme = s.thyme := rfl
@[simp] theorem State.setWalk_launches (s : State) (w : Nat) (t : Option Walk) : (s.setWalk w t).launches = s.launches := rfl
@[simp] theorem State.setWalk_ports (s : State) (w : Nat) (t : Option Walk) : (s.setWalk w t).ports = s.ports := rfl
@[simp] theorem State.setWalk_clu (s : State) (w : Nat) (t : Option Walk) : (s.setWalk w t).clu = s.clu := rfl
@[simp] theorem State.setWalk_sage (s : State) (w : Nat) (t : Option Walk) : (s.setWalk w t).sage = s.sage := rfl
@[simp] theorem State.setWalk_host (s : State) (w : Nat) (t : Option Walk) : (s.setWalk w t).host = s.host := rfl
@[simp] theorem State.setWalk_mem (s : State) (w : Nat) (t : Option Walk) : (s.setWalk w t).mem = s.mem := rfl
@[simp] theorem State.setWalk_power (s : State) (w : Nat) (t : Option Walk) : (s.setWalk w t).power = s.power := rfl
@[simp] theorem State.setWalk_out (s : State) (w : Nat) (t : Option Walk) : (s.setWalk w t).out = s.out := rfl

@[simp] theorem State.setMslot_pending (s : State) (e k : Nat) (m : Option MSlot) : (s.setMslot e k m).pending = s.pending := rfl
@[simp] theorem State.setMslot_tick (s : State) (e k : Nat) (m : Option MSlot) : (s.setMslot e k m).tick = s.tick := rfl
@[simp] theorem State.setMslot_freeCount (s : State) (e k : Nat) (m : Option MSlot) : (s.setMslot e k m).freeCount = s.freeCount := rfl
@[simp] theorem State.setMslot_regs (s : State) (e k : Nat) (m : Option MSlot) : (s.setMslot e k m).regs = s.regs := rfl
@[simp] theorem State.setMslot_root (s : State) (e k : Nat) (m : Option MSlot) : (s.setMslot e k m).root = s.root := rfl
@[simp] theorem State.setMslot_journal (s : State) (e k : Nat) (m : Option MSlot) : (s.setMslot e k m).journal = s.journal := rfl
@[simp] theorem State.setMslot_gather (s : State) (e k : Nat) (m : Option MSlot) : (s.setMslot e k m).gather = s.gather := rfl
@[simp] theorem State.setMslot_lanes (s : State) (e k : Nat) (m : Option MSlot) : (s.setMslot e k m).lanes = s.lanes := rfl
@[simp] theorem State.setMslot_blow (s : State) (e k : Nat) (m : Option MSlot) : (s.setMslot e k m).blow = s.blow := rfl
@[simp] theorem State.setMslot_current (s : State) (e k : Nat) (m : Option MSlot) : (s.setMslot e k m).current = s.current := rfl
@[simp] theorem State.setMslot_glory (s : State) (e k : Nat) (m : Option MSlot) : (s.setMslot e k m).glory = s.glory := rfl
@[simp] theorem State.setMslot_beam (s : State) (e k : Nat) (m : Option MSlot) : (s.setMslot e k m).beam = s.beam := rfl
@[simp] theorem State.setMslot_par (s : State) (e k : Nat) (m : Option MSlot) : (s.setMslot e k m).par = s.par := rfl
@[simp] theorem State.setMslot_link (s : State) (e k : Nat) (m : Option MSlot) : (s.setMslot e k m).link = s.link := rfl
@[simp] theorem State.setMslot_chans (s : State) (e k : Nat) (m : Option MSlot) : (s.setMslot e k m).chans = s.chans := rfl
@[simp] theorem State.setMslot_later (s : State) (e k : Nat) (m : Option MSlot) : (s.setMslot e k m).later = s.later := rfl
@[simp] theorem State.setMslot_emus (s : State) (e k : Nat) (m : Option MSlot) : (s.setMslot e k m).emus = s.emus := rfl
@[simp] theorem State.setMslot_mot (s : State) (e k : Nat) (m : Option MSlot) : (s.setMslot e k m).mot = s.mot := rfl
@[simp] theorem State.setMslot_aux (s : State) (e k : Nat) (m : Option MSlot) : (s.setMslot e k m).aux = s.aux := rfl
@[simp] theorem State.setMslot_gaf (s : State) (e k : Nat) (m : Option MSlot) : (s.setMslot e k m).gaf = s.gaf := rfl
@[simp] theorem State.setMslot_thyme (s : State) (e k : Nat) (m : Option MSlot) : (s.setMslot e k m).thyme = s.thyme := rfl
@[simp] theorem State.setMslot_launches (s : State) (e k : Nat) (m : Option MSlot) : (s.setMslot e k m).launches = s.launches := rfl
@[simp] theorem State.setMslot_ports (s : State) (e k : Nat) (m : Option MSlot) : (s.setMslot e k m).ports = s.ports := rfl
@[simp] theorem State.setMslot_clu (s : State) (e k : Nat) (m : Option MSlot) : (s.setMslot e k m).clu = s.clu := rfl
@[simp] theorem State.setMslot_sage (s : State) (e k : Nat) (m : Option MSlot) : (s.setMslot e k m).sage = s.sage := rfl
@[simp] theorem State.setMslot_host (s : State) (e k : Nat) (m : Option MSlot) : (s.setMslot e k m).host = s.host := rfl
@[simp] theorem State.setMslot_mem (s : State) (e k : Nat) (m : Option MSlot) : (s.setMslot e k m).mem = s.mem := rfl
@[simp] theorem State.setMslot_power (s : State) (e k : Nat) (m : Option MSlot) : (s.setMslot e k m).power = s.power := rfl
@[simp] theorem State.setMslot_out (s : State) (e k : Nat) (m : Option MSlot) : (s.setMslot e k m).out = s.out := rfl

@[simp] theorem State.drive_pending (s : State) (p : Pin) (h : Bool) : (s.drive p h).pending = s.pending := rfl
@[simp] theorem State.drive_tick (s : State) (p : Pin) (h : Bool) : (s.drive p h).tick = s.tick := rfl
@[simp] theorem State.drive_freeCount (s : State) (p : Pin) (h : Bool) : (s.drive p h).freeCount = s.freeCount := rfl
@[simp] theorem State.drive_regs (s : State) (p : Pin) (h : Bool) : (s.drive p h).regs = s.regs := rfl
@[simp] theorem State.drive_root (s : State) (p : Pin) (h : Bool) : (s.drive p h).root = s.root := rfl
@[simp] theorem State.drive_journal (s : State) (p : Pin) (h : Bool) : (s.drive p h).journal = s.journal := rfl
@[simp] theorem State.drive_gather (s : State) (p : Pin) (h : Bool) : (s.drive p h).gather = s.gather := rfl
@[simp] theorem State.drive_lanes (s : State) (p : Pin) (h : Bool) : (s.drive p h).lanes = s.lanes := rfl
@[simp] theorem State.drive_blow (s : State) (p : Pin) (h : Bool) : (s.drive p h).blow = s.blow := rfl
@[simp] theorem State.drive_mslots (s : State) (p : Pin) (h : Bool) : (s.drive p h).mslots = s.mslots := rfl
@[simp] theorem State.drive_current (s : State) (p : Pin) (h : Bool) : (s.drive p h).current = s.current := rfl
@[simp] theorem State.drive_glory (s : State) (p : Pin) (h : Bool) : (s.drive p h).glory = s.glory := rfl
@[simp] theorem State.drive_beam (s : State) (p : Pin) (h : Bool) : (s.drive p h).beam = s.beam := rfl
@[simp] theorem State.drive_par (s : State) (p : Pin) (h : Bool) : (s.drive p h).par = s.par := rfl
@[simp] theorem State.drive_link (s : State) (p : Pin) (h : Bool) : (s.drive p h).link = s.link := rfl
@[simp] theorem State.drive_chans (s : State) (p : Pin) (h : Bool) : (s.drive p h).chans = s.chans := rfl
@[simp] theorem State.drive_later (s : State) (p : Pin) (h : Bool) : (s.drive p h).later = s.later := rfl
@[simp] theorem State.drive_emus (s : State) (p : Pin) (h : Bool) : (s.drive p h).emus = s.emus := rfl
@[simp] theorem State.drive_mot (s : State) (p : Pin) (h : Bool) : (s.drive p h).mot = s.mot := rfl
@[simp] theorem State.drive_aux (s : State) (p : Pin) (h : Bool) : (s.drive p h).aux = s.aux := rfl
@[simp] theorem State.drive_gaf (s : State) (p : Pin) (h : Bool) : (s.drive p h).gaf = s.gaf := rfl
@[simp] theorem State.drive_thyme (s : State) (p : Pin) (h : Bool) : (s.drive p h).thyme = s.thyme := rfl
@[simp] theorem State.drive_launches (s : State) (p : Pin) (h : Bool) : (s.drive p h).launches = s.launches := rfl
@[simp] theorem State.drive_ports (s : State) (p : Pin) (h : Bool) : (s.drive p h).ports = s.ports := rfl
@[simp] theorem State.drive_clu (s : State) (p : Pin) (h : Bool) : (s.drive p h).clu = s.clu := rfl
@[simp] theorem State.drive_sage (s : State) (p : Pin) (h : Bool) : (s.drive p h).sage = s.sage := rfl
@[simp] theorem State.drive_host (s : State) (p : Pin) (h : Bool) : (s.drive p h).host = s.host := rfl
@[simp] theorem State.drive_mem (s : State) (p : Pin) (h : Bool) : (s.drive p h).mem = s.mem := rfl
@[simp] theorem State.drive_out (s : State) (p : Pin) (h : Bool) : (s.drive p h).out = s.out := rfl

@[simp] theorem State.putCopies_pending (s : State) (i : Nat) (l : Option (List (Nat × Bool))) : (s.putCopies i l).pending = s.pending := rfl
@[simp] theorem State.putCopies_tick (s : State) (i : Nat) (l : Option (List (Nat × Bool))) : (s.putCopies i l).tick = s.tick := rfl
@[simp] theorem State.putCopies_freeCount (s : State) (i : Nat) (l : Option (List (Nat × Bool))) : (s.putCopies i l).freeCount = s.freeCount := rfl
@[simp] theorem State.putCopies_regs (s : State) (i : Nat) (l : Option (List (Nat × Bool))) : (s.putCopies i l).regs = s.regs := rfl
@[simp] theorem State.putCopies_root (s : State) (i : Nat) (l : Option (List (Nat × Bool))) : (s.putCopies i l).root = s.root := rfl
@[simp] theorem State.putCopies_journal (s : State) (i : Nat) (l : Option (List (Nat × Bool))) : (s.putCopies i l).journal = s.journal := rfl
@[simp] theorem State.putCopies_gather (s : State) (i : Nat) (l : Option (List (Nat × Bool))) : (s.putCopies i l).gather = s.gather := rfl
@[simp] theorem State.putCopies_lanes (s : State) (i : Nat) (l : Option (List (Nat × Bool))) : (s.putCopies i l).lanes = s.lanes := rfl
@[simp] theorem State.putCopies_blow (s : State) (i : Nat) (l : Option (List (Nat × Bool))) : (s.putCopies i l).blow = s.blow := rfl
@[simp] theorem State.putCopies_mslots (s : State) (i : Nat) (l : Option (List (Nat × Bool))) : (s.putCopies i l).mslots = s.mslots := rfl
@[simp] theorem State.putCopies_current (s : State) (i : Nat) (l : Option (List (Nat × Bool))) : (s.putCopies i l).current = s.current := rfl
@[simp] theorem State.putCopies_glory (s : State) (i : Nat) (l : Option (List (Nat × Bool))) : (s.putCopies i l).glory = s.glory := rfl
@[simp] theorem State.putCopies_beam (s : State) (i : Nat) (l : Option (List (Nat × Bool))) : (s.putCopies i l).beam = s.beam := rfl
@[simp] theorem State.putCopies_par (s : State) (i : Nat) (l : Option (List (Nat × Bool))) : (s.putCopies i l).par = s.par := rfl
@[simp] theorem State.putCopies_link (s : State) (i : Nat) (l : Option (List (Nat × Bool))) : (s.putCopies i l).link = s.link := rfl
@[simp] theorem State.putCopies_chans (s : State) (i : Nat) (l : Option (List (Nat × Bool))) : (s.putCopies i l).chans = s.chans := rfl
@[simp] theorem State.putCopies_later (s : State) (i : Nat) (l : Option (List (Nat × Bool))) : (s.putCopies i l).later = s.later := rfl
@[simp] theorem State.putCopies_emus (s : State) (i : Nat) (l : Option (List (Nat × Bool))) : (s.putCopies i l).emus = s.emus := rfl
@[simp] theorem State.putCopies_mot (s : State) (i : Nat) (l : Option (List (Nat × Bool))) : (s.putCopies i l).mot = s.mot := rfl
@[simp] theorem State.putCopies_aux (s : State) (i : Nat) (l : Option (List (Nat × Bool))) : (s.putCopies i l).aux = s.aux := rfl
@[simp] theorem State.putCopies_gaf (s : State) (i : Nat) (l : Option (List (Nat × Bool))) : (s.putCopies i l).gaf = s.gaf := rfl
@[simp] theorem State.putCopies_thyme (s : State) (i : Nat) (l : Option (List (Nat × Bool))) : (s.putCopies i l).thyme = s.thyme := rfl
@[simp] theorem State.putCopies_launches (s : State) (i : Nat) (l : Option (List (Nat × Bool))) : (s.putCopies i l).launches = s.launches := rfl
@[simp] theorem State.putCopies_ports (s : State) (i : Nat) (l : Option (List (Nat × Bool))) : (s.putCopies i l).ports = s.ports := rfl
@[simp] theorem State.putCopies_clu (s : State) (i : Nat) (l : Option (List (Nat × Bool))) : (s.putCopies i l).clu = s.clu := rfl
@[simp] theorem State.putCopies_sage (s : State) (i : Nat) (l : Option (List (Nat × Bool))) : (s.putCopies i l).sage = s.sage := rfl
@[simp] theorem State.putCopies_host (s : State) (i : Nat) (l : Option (List (Nat × Bool))) : (s.putCopies i l).host = s.host := rfl
@[simp] theorem State.putCopies_power (s : State) (i : Nat) (l : Option (List (Nat × Bool))) : (s.putCopies i l).power = s.power := rfl
@[simp] theorem State.putCopies_out (s : State) (i : Nat) (l : Option (List (Nat × Bool))) : (s.putCopies i l).out = s.out := rfl

@[simp] theorem State.modDma_pending (s : State) (c : Nat) (f : DmaCh → DmaCh) : (s.modDma c f).pending = s.pending := rfl
@[simp] theorem State.modDma_tick (s : State) (c : Nat) (f : DmaCh → DmaCh) : (s.modDma c f).tick = s.tick := rfl
@[simp] theorem State.modDma_freeCount (s : State) (c : Nat) (f : DmaCh → DmaCh) : (s.modDma c f).freeCount = s.freeCount := rfl
@[simp] theorem State.modDma_regs (s : State) (c : Nat) (f : DmaCh → DmaCh) : (s.modDma c f).regs = s.regs := rfl
@[simp] theorem State.modDma_root (s : State) (c : Nat) (f : DmaCh → DmaCh) : (s.modDma c f).root = s.root := rfl
@[simp] theorem State.modDma_journal (s : State) (c : Nat) (f : DmaCh → DmaCh) : (s.modDma c f).journal = s.journal := rfl
@[simp] theorem State.modDma_gather (s : State) (c : Nat) (f : DmaCh → DmaCh) : (s.modDma c f).gather = s.gather := rfl
@[simp] theorem State.modDma_lanes (s : State) (c : Nat) (f : DmaCh → DmaCh) : (s.modDma c f).lanes = s.lanes := rfl
@[simp] theorem State.modDma_blow (s : State) (c : Nat) (f : DmaCh → DmaCh) : (s.modDma c f).blow = s.blow := rfl
@[simp] theorem State.modDma_mslots (s : State) (c : Nat) (f : DmaCh → DmaCh) : (s.modDma c f).mslots = s.mslots := rfl
@[simp] theorem State.modDma_current (s : State) (c : Nat) (f : DmaCh → DmaCh) : (s.modDma c f).current = s.current := rfl
@[simp] theorem State.modDma_glory (s : State) (c : Nat) (f : DmaCh → DmaCh) : (s.modDma c f).glory = s.glory := rfl
@[simp] theorem State.modDma_beam (s : State) (c : Nat) (f : DmaCh → DmaCh) : (s.modDma c f).beam = s.beam := rfl
@[simp] theorem State.modDma_par (s : State) (c : Nat) (f : DmaCh → DmaCh) : (s.modDma c f).par = s.par := rfl
@[simp] theorem State.modDma_link (s : State) (c : Nat) (f : DmaCh → DmaCh) : (s.modDma c f).link = s.link := rfl
@[simp] theorem State.modDma_chans (s : State) (c : Nat) (f : DmaCh → DmaCh) : (s.modDma c f).chans = s.chans := rfl
@[simp] theorem State.modDma_later (s : State) (c : Nat) (f : DmaCh → DmaCh) : (s.modDma c f).later = s.later := rfl
@[simp] theorem State.modDma_emus (s : State) (c : Nat) (f : DmaCh → DmaCh) : (s.modDma c f).emus = s.emus := rfl
@[simp] theorem State.modDma_mot (s : State) (c : Nat) (f : DmaCh → DmaCh) : (s.modDma c f).mot = s.mot := rfl
@[simp] theorem State.modDma_aux (s : State) (c : Nat) (f : DmaCh → DmaCh) : (s.modDma c f).aux = s.aux := rfl
@[simp] theorem State.modDma_gaf (s : State) (c : Nat) (f : DmaCh → DmaCh) : (s.modDma c f).gaf = s.gaf := rfl
@[simp] theorem State.modDma_thyme (s : State) (c : Nat) (f : DmaCh → DmaCh) : (s.modDma c f).thyme = s.thyme := rfl
@[simp] theorem State.modDma_launches (s : State) (c : Nat) (f : DmaCh → DmaCh) : (s.modDma c f).launches = s.launches := rfl
@[simp] theorem State.modDma_ports (s : State) (c : Nat) (f : DmaCh → DmaCh) : (s.modDma c f).ports = s.ports := rfl
@[simp] theorem State.modDma_clu (s : State) (c : Nat) (f : DmaCh → DmaCh) : (s.modDma c f).clu = s.clu := rfl
@[simp] theorem State.modDma_sage (s : State) (c : Nat) (f : DmaCh → DmaCh) : (s.modDma c f).sage = s.sage := rfl
@[simp] theorem State.modDma_mem (s : State) (c : Nat) (f : DmaCh → DmaCh) : (s.modDma c f).mem = s.mem := rfl
@[simp] theorem State.modDma_power (s : State) (c : Nat) (f : DmaCh → DmaCh) : (s.modDma c f).power = s.power := rfl
@[simp] theorem State.modDma_out (s : State) (c : Nat) (f : DmaCh → DmaCh) : (s.modDma c f).out = s.out := rfl

@[simp] theorem State.hostWrite_pending (s : State) (a : Nat) (l : List Byte) : (s.hostWrite a l).pending = s.pending := rfl
@[simp] theorem State.hostWrite_tick (s : State) (a : Nat) (l : List Byte) : (s.hostWrite a l).tick = s.tick := rfl
@[simp] theorem State.hostWrite_freeCount (s : State) (a : Nat) (l : List Byte) : (s.hostWrite a l).freeCount = s.freeCount := rfl
@[simp] theorem State.hostWrite_regs (s : State) (a : Nat) (l : List Byte) : (s.hostWrite a l).regs = s.regs := rfl
@[simp] theorem State.hostWrite_root (s : State) (a : Nat) (l : List Byte) : (s.hostWrite a l).root = s.root := rfl
@[simp] theorem State.hostWrite_journal (s : State) (a : Nat) (l : List Byte) : (s.hostWrite a l).journal = s.journal := rfl
@[simp] theorem State.hostWrite_gather (s : State) (a : Nat) (l : List Byte) : (s.hostWrite a l).gather = s.gather := rfl
@[simp] theorem State.hostWrite_lanes (s : State) (a : Nat) (l : List Byte) : (s.hostWrite a l).lanes = s.lanes := rfl
@[simp] theorem State.hostWrite_blow (s : State) (a : Nat) (l : List Byte) : (s.hostWrite a l).blow = s.blow := rfl
@[simp] theorem State.hostWrite_mslots (s : State) (a : Nat) (l : List Byte) : (s.hostWrite a l).mslots = s.mslots := rfl
@[simp] theorem State.hostWrite_current (s : State) (a : Nat) (l : List Byte) : (s.hostWrite a l).current = s.current := rfl
@[simp] theorem State.hostWrite_glory (s : State) (a : Nat) (l : List Byte) : (s.hostWrite a l).glory = s.glory := rfl
@[simp] theorem State.hostWrite_beam (s : State) (a : Nat) (l : List Byte) : (s.hostWrite a l).beam = s.beam := rfl
@[simp] theorem State.hostWrite_par (s : State) (a : Nat) (l : List Byte) : (s.hostWrite a l).par = s.par := rfl
@[simp] theorem State.hostWrite_link (s : State) (a : Nat) (l : List Byte) : (s.hostWrite a l).link = s.link := rfl
@[simp] theorem State.hostWrite_chans (s : State) (a : Nat) (l : List Byte) : (s.hostWrite a l).chans = s.chans := rfl
@[simp] theorem State.hostWrite_later (s : State) (a : Nat) (l : List Byte) : (s.hostWrite a l).later = s.later := rfl
@[simp] theorem State.hostWrite_emus (s : State) (a : Nat) (l : List Byte) : (s.hostWrite a l).emus = s.emus := rfl
@[simp] theorem State.hostWrite_mot (s : State) (a : Nat) (l : List Byte) : (s.hostWrite a l).mot = s.mot := rfl
@[simp] theorem State.hostWrite_aux (s : State) (a : Nat) (l : List Byte) : (s.hostWrite a l).aux = s.aux := rfl
@[simp] theorem State.hostWrite_gaf (s : State) (a : Nat) (l : List Byte) : (s.hostWrite a l).gaf = s.gaf := rfl
@[simp] theorem State.hostWrite_thyme (s : State) (a : Nat) (l : List Byte) : (s.hostWrite a l).thyme = s.thyme := rfl
@[simp] theorem State.hostWrite_launches (s : State) (a : Nat) (l : List Byte) : (s.hostWrite a l).launches = s.launches := rfl
@[simp] theorem State.hostWrite_ports (s : State) (a : Nat) (l : List Byte) : (s.hostWrite a l).ports = s.ports := rfl
@[simp] theorem State.hostWrite_clu (s : State) (a : Nat) (l : List Byte) : (s.hostWrite a l).clu = s.clu := rfl
@[simp] theorem State.hostWrite_sage (s : State) (a : Nat) (l : List Byte) : (s.hostWrite a l).sage = s.sage := rfl
@[simp] theorem State.hostWrite_mem (s : State) (a : Nat) (l : List Byte) : (s.hostWrite a l).mem = s.mem := rfl
@[simp] theorem State.hostWrite_power (s : State) (a : Nat) (l : List Byte) : (s.hostWrite a l).power = s.power := rfl
@[simp] theorem State.hostWrite_out (s : State) (a : Nat) (l : List Byte) : (s.hostWrite a l).out = s.out := rfl

/-! ## Pins and triples -/

/-- A pin stands as it is driven. -/
@[simp] theorem State.pin_drive_same (s : State) (p : Pin) (h : Bool) : (s.drive p h).pin p = if h then .high else .low := by
  simp [State.pin, State.drive]

/-- No other pin moves with it. -/
theorem State.pin_drive_other (s : State) {p q : Pin} (h : Bool) (hq : q ≠ p) : (s.drive p h).pin q = s.pin q := by
  have keep : (fun e : Pin × PinState => !decide (e.1 = p) && decide (e.1 = q)) = fun e => decide (e.1 = q) := by
    funext e
    by_cases he : e.1 = q
    · simp [he, hq]
    · simp [he]
  simp [State.pin, State.drive, Ne.symm hq, List.find?_filter, keep]

/-- The owner's write of a field of a triple whose copies agree. -/
theorem State.putOwned_free (s : State) {i : Nat} (x : Fld) (v : Nat) (h : s.tripleHeld i = false) : s.putOwned i x v = s.put x v := by
  simp [State.putOwned, h]

/-- While they disagree it is discarded (R418). -/
theorem State.putOwned_held (s : State) {i : Nat} (x : Fld) (v : Nat) (h : s.tripleHeld i = true) : s.putOwned i x v = s := by
  simp [State.putOwned, h]

/-- The owner's write changes the register file alone. -/
theorem State.putOwned_frame (s : State) (i : Nat) (x : Fld) (v : Nat) : Keeps s (s.putOwned i x v) [.regs] := by
  cases h : s.tripleHeld i
  · rw [s.putOwned_free x v h]
    exact ⟨rfl, fun p hp => by cases p <;> first | rfl | simp at hp⟩
  · rw [s.putOwned_held x v h]
    exact ⟨rfl, fun p _ => by cases p <;> rfl⟩

end Sys2Proof.Machine
end

