-- ==== Sys2Proof/Laws/Triso.lean ====
section
/-! SUPPORT. What issuing an instruction does, once for all Triso commands. -/

namespace Sys2Proof.Machine

open Sys2Proof

/-- A thread that issues an instruction of the command's operation carries it out. -/
theorem State.issue_of_issues {s : State} {t : Fin 4} {i : Triso} {op : Op} (h : Issues s t i) (e : i.op = op)
    (run : Triso → State → State) : s.issue t op run = .next (run i s) := by
  obtain ⟨h1, h2, h3, h4⟩ := h
  simp [State.issue, h1, h2, State.readWord, h3, h4, e]

/-- A command of another operation changes nothing. -/
theorem State.issue_other {s : State} {t : Fin 4} {i : Triso} {op : Op} (h : Issues s t i) (e : i.op ≠ op)
    (run : Triso → State → State) : s.issue t op run = .next s := by
  obtain ⟨h1, h2, h3, h4⟩ := h
  simp [State.issue, h1, h2, State.readWord, h3, h4, e]

/-- A thread that does not run, or waits, issues nothing. -/
theorem State.issue_idle {s : State} {t : Nat} {op : Op} (h : ¬((s.thread t).running = true ∧ (s.thread t).wait = .none))
    (run : Triso → State → State) : s.issue t op run = .next s := by
  simp [State.issue, h]

/-- Issuing always answers a next state. -/
theorem State.issue_next (s : State) (t : Nat) (op : Op) (run : Triso → State → State) : ∃ u, s.issue t op run = .next u := by
  unfold State.issue
  simp only
  split
  · split
    · exact ⟨_, rfl⟩
    · split
      · exact ⟨_, rfl⟩
      · split <;> exact ⟨_, rfl⟩
  · exact ⟨_, rfl⟩

/-- A general register read through the thread. -/
theorem State.reg_eq_gpr (s : State) (t : Fin 4) (r : BitVec 4) : s.reg t r = gpr s t r := by
  unfold State.reg gpr Thread.reg
  by_cases h : r = 0
  · simp [h]
  · have : r.toNat ≠ 0 := fun e => h (by apply BitVec.eq_of_toNat_eq; simpa using e)
    rw [if_neg this, if_neg h]

/-- A thread changed twice is changed by both. -/
theorem State.modThread_modThread (s : State) (t : Nat) (f g : Thread → Thread) :
    (s.modThread t f).modThread t g = s.modThread t (fun h => g (f h)) := by
  simp only [State.modThread, lmod]
  cases h : s.gaf.threads[t]? with
  | none => simp [h]
  | some a =>
    have hl : t < s.gaf.threads.length := (List.getElem?_eq_some_iff.mp h).1
    simp [hl]

/-- A thread changed is the thread with the change. -/
theorem State.thread_modThread (s : State) (t : Nat) (f : Thread → Thread) (h : t < s.gaf.threads.length) :
    (s.modThread t f).thread t = f (s.thread t) := by
  simp [State.thread, State.modThread, lmod, h]

/-- A result short of the last PC. -/
theorem State.result_eq (s : State) (t : Fin 4) (i : Triso) (v : Word) (hl : s.gaf.threads.length = 4) (hp : (s.thread t).pc ≠ 32767) :
    s.result t i v = wrote s t i.d v := by
  have h1 : ((s.setG t i.d.toNat v).thread t).pc = (s.thread t).pc := by
    rw [State.setG, State.thread_modThread _ _ _ (by omega)]
    unfold Thread.setReg
    split <;> rfl
  have h0 : (i.d = 0) ↔ (i.d.toNat = 0) :=
    ⟨fun e => by simp [e], fun e => by apply BitVec.eq_of_toNat_eq; simpa using e⟩
  unfold State.result State.threadDone State.nextPc
  rw [h1, if_neg hp, State.setG, State.modThread_modThread]
  unfold wrote
  congr 1
  funext h
  by_cases e : i.d = 0
  · have e2 := h0.mp e
    simp [Thread.setReg, e]
  · have e2 : i.d.toNat ≠ 0 := fun x => e (h0.mpr x)
    rw [if_neg e]
    simp [Thread.setReg, e2]

end Sys2Proof.Machine
end

