-- ==== Sys2Proof/Tests/Slice0.lean ====
section
/-! SUPPORT. Tests: for every statement that has hypotheses, a state and operands that meet all of them at every clause; words and values
that the manual gives; the checks of well-formedness. -/

open Sys2Proof Sys2Proof.Machine

set_option Elab.async false

/-! ## Helpers: small states from reset -/

namespace Sys2Proof.Tests

/-- Reset once the boot has released the units. -/
def booted : State := { State.reset with power := { State.reset.power with released := true } }

/-- The same with register fields set. -/
def st (l : List (Fld × Nat)) : State := l.foldl (fun s x => s.put x.1 x.2) booted

/-- Thread 0 runs at PC p, where the program memory holds an instruction; its registers are g. -/
def runs (s : State) (i : Triso) (p : Nat := 0) (g : List Word := List.replicate 16 0) (stack : List Nat := []) : State :=
  { s with gaf := { s.gaf with
      pmem := [(p, i.encode)],
      threads := s.gaf.threads.set 0 { Thread.cleared with running := true, pc := p, g := g, stack := stack } } }

/-- Registers of a thread with values in G1 and G2. -/
def g12 (a b : Word) : List Word := [0, a, b] ++ List.replicate 13 0

/-- A stripe of context 0. -/
def k1 : Stripe := { num := 1, len := 512, orgX := 0, orgY := 0, xf0 := 0, yax := 0, neg := false, ctx := 0, gen := 0, seq0 := 0, job := 0 }

/-- A state whose stripe k1 is ACTIVE. -/
def act (s : State) : State := { s with gaf := { s.gaf with active := some k1 } }

/-- An instruction by its fields. -/
def tri (op : Op) (d a b f : BitVec 4) (imm : BitVec 32) : Triso := ⟨op, d, a, b, f, imm⟩

/-- The data memory holds words at an address. -/
def data (s : State) (a : Nat) (l : List Nat) : State :=
  { s with gaf := { s.gaf with dmem := wrBytes s.gaf.dmem a (l.map (toLE 8)).flatten } }

/-- Every lane READY. -/
def lanesUp : List (Fld × Nat) := (List.range 72).map (fun l => (PUN_LANE_STATE.STATE l, 5))

/-- A state that flashes. -/
def flashes (s : State) : State := { s with mot := { s.mot with flashing := true } }

/-- Fields of the staged bank set. -/
def stage (s : State) (l : List (Fld × Nat)) : State :=
  { s with root := { s.root with staged := { s.root.staged with vals := l.foldl (fun m x => mset m x.1.key x.2) s.root.staged.vals } } }

/-- An ingest slot's segment 0 of context 0: nothing received. -/
def ing : Ingest :=
  { ctx := 0, seg := 0, session := 9, port := 0, server := 0, tries := 1, start := 0, total := none, got := [], lastAck := 0,
    uncovered := false, lossSent := [], timeouts := 0, answered := false, decrypt := false, lane := none, verdict := none,
    stopped := false, inflated := false, err := 0, parse := Parse.start, held := none }

theorem at_word {s : State} {w : Nat} {t : Walk} {l : Level} {h : Nat}
    (a : s.walk w = some t ∧ t.state = .ready ∧ t.stack.head? = some l ∧ (s.cell t.ctx l.cell).state = .resident ∧
      s.pageNeeded t = none ∧ t.word l.woff = h ∧ l.woff < (s.cell t.ctx l.cell).len) : AtWord s w t l h :=
  ⟨a.1, a.2.1, ⟨t.stack.tail, (List.cons_head?_tail a.2.2.1).symm⟩, a.2.2.2⟩

theorem at_instr {s : State} {w : Nat} {t : Walk} {l : Level} {h n : Nat}
    (a : (s.walk w = some t ∧ t.state = .ready ∧ t.stack.head? = some l ∧ (s.cell t.ctx l.cell).state = .resident ∧
      s.pageNeeded t = none ∧ t.word l.woff = h ∧ l.woff < (s.cell t.ctx l.cell).len) ∧
      reservedSet h (fun k => t.word (l.woff + k)) = false ∧ l.woff + n < (s.cell t.ctx l.cell).len) :
    AtInstr s w t l h n := ⟨at_word a.1, a.2⟩

/-- The state that a command leaves. -/
def after (o : Host.Outcome State Fault Refusal) (s : State) : State :=
  match o with
  | .next t => t
  | _ => s

theorem next_of {o : Host.Outcome State Fault Refusal} {t : State}
    (h : (match o with | .next u => decide (u = t) | _ => false) = true) : o = .next t := by
  cases o <;> simp_all

/-! ## Witnesses: the whole device and Triso -/
def c1v1 := after (exec .thymeTick State.reset) State.reset
def c1v2 := { State.reset with pending := [.thymeTick] }
/-- Thread 0 issues an instruction. -/
def go1 (i : Triso) (a : Word := 7) (b : Word := 9) : State := runs State.reset i 0 (g12 a b)

def c1v3 := tri .addi 3 1 0 0 0x80000009
def c1v4 := go1 (tri .addi 3 1 0 0 0x80000009)
def c1v5 := tri .andi 3 1 0 0 0x80000009
def c1v6 := go1 (tri .andi 3 1 0 0 0x80000009)
def c1v7 := tri .ori 3 1 0 0 0x80000009
def c1v8 := go1 (tri .ori 3 1 0 0 0x80000009)
def c1v9 := tri .xori 3 1 0 0 0x80000009
def c1v10 := go1 (tri .xori 3 1 0 0 0x80000009)
def c1v11 := tri .movi 3 0 0 0 0x80000009
def c1v12 := go1 (tri .movi 3 0 0 0 0x80000009)
def c1v13 := tri .movhi 3 0 0 0 0x80000009
def c1v14 := go1 (tri .movhi 3 0 0 0 0x80000009)

def i1b0 := tri .br 0 0 0 0 9
def i1b2 := tri .br 0 1 2 1 9
def i1c0 := tri .call 0 0 0 0 9
def i1c2 := tri .call 0 1 2 1 9
def i1r := tri .ret 0 0 0 0 0
def ret1 (l : List Nat) : State := runs State.reset i1r 0 (g12 0 0) l
def i1j := tri .jmpr 0 1 0 0 0
def i1s (n : BitVec 4) := tri .spawn 3 1 0 n 9
def i1e := tri .exit 0 0 0 0 0
def c1v15 := st [(GAF_STATUS.PROG_VALID, 1)]
def c1v16 := st [(GAF_STATUS.PROG_VALID, 1), (GAF_CTL.RUN, 1)]
/-- A thread that runs at PC 0 of an empty program memory. -/
def idleProg : State :=
  { State.reset with gaf := { State.reset.gaf with threads := State.reset.gaf.threads.set 0 { Thread.cleared with running := true } } }
def i1n := tri .nop 0 0 0 0 0
def full1 : State := runs State.reset i1c0 0 (g12 0 0) (List.replicate 16 1)
def i1l (d : BitVec 32) := tri .ld 3 0 0 0 d
def i1t (d : BitVec 32) := tri .st 0 0 2 0 d
def i1x (d : BitVec 32) := tri .xchg 3 0 2 0 d
def i1d (f : BitVec 4) (a : BitVec 32) := tri .rdreg 3 0 0 f a
def i1w (f : BitVec 4) (a : BitVec 32) := tri .wrreg 0 0 2 f a
def inc1 : Nat := THY_INC.off
def incB : BitVec 32 := BitVec.ofNat 32 THY_INC.off
def posts1 (n : Nat) (s : State) : State := { s with later := List.replicate n (2000, .posted 0 0 inc1 8 5) }
def c1v17 := posts1 1 (go1 (i1d 1 incB))
def i1wa := i1w 1 (BitVec.ofNat 32 THY_ADJ.off)

theorem witness_StepTakesFront :
    State.reset.pending = [] :=
  by decide +kernel

theorem witness_CommandsComplete :
    Instr.configBroadcast.wf = true ∧ (Instr.shRegisterWrite 0 3 4 0).wf = false :=
  by decide +kernel

theorem witness_QueueUntouched :
    exec Instr.thymeTick State.reset = Host.Outcome.next c1v1 :=
  next_of (by decide +kernel)

theorem witness_ThymeInvariant :
    step c1v2 = Host.Outcome.next c1v1 ∧ c1v2.thyme.Inv :=
  ⟨next_of (by decide +kernel), by unfold Thyme.Inv; decide +kernel⟩

theorem witness_ResetState :
    4095 < 4096 :=
  by decide +kernel

theorem witness_ConditionCodes :
    (tri Op.set 3 1 2 6 0).legal = true ∧ ((tri Op.set 3 1 2 6 0).op = Op.set ∨ (tri Op.set 3 1 2 6 0).op = Op.br ∨ (tri Op.set 3 1 2
    6 0).op = Op.call) ∧ (tri Op.br 0 0 0 0 5).legal = true ∧ ((tri Op.br 0 0 0 0 5).op = Op.set ∨ (tri Op.br 0 0 0 0 5).op = Op.br ∨
    (tri Op.br 0 0 0 0 5).op = Op.call) :=
  by decide +kernel

theorem witness_TrisoCoding :
    (tri Op.call 0 7 6 5 18).legal = true ∧ Triso.decode 3532903483369848850 = some (tri Op.call 0 7 6 5 18) :=
  by decide +kernel

theorem witness_ThreadControl :
    (0 : Word).toNat % 2 = 0 ∧ (Issues (go1 i1b0) 0 i1b0 ∧ i1b0.op = Op.br ∧ condHolds i1b0.f (gpr (go1 i1b0) 0 i1b0.a) (gpr (go1
    i1b0) 0 i1b0.b) = true ∧ Issues (go1 i1b2) 0 i1b2 ∧ i1b2.op = Op.br ∧ condHolds i1b2.f (gpr (go1 i1b2) 0 i1b2.a) (gpr (go1 i1b2) 0
    i1b2.b) = false ∧ ((go1 i1b2).thread 0).pc ≠ 32767) ∧ (Issues (go1 i1c0) 0 i1c0 ∧ i1c0.op = Op.call ∧ condHolds i1c0.f (gpr (go1
    i1c0) 0 i1c0.a) (gpr (go1 i1c0) 0 i1c0.b) = true ∧ ((go1 i1c0).thread 0).stack.length < 16) ∧ (Issues (go1 i1c2) 0 i1c2 ∧ i1c2.op
    = Op.call ∧ condHolds i1c2.f (gpr (go1 i1c2) 0 i1c2.a) (gpr (go1 i1c2) 0 i1c2.b) = false ∧ ((go1 i1c2).thread 0).pc ≠ 32767) ∧
    (Issues (ret1 [32767]) 0 i1r ∧ i1r.op = Op.ret ∧ ((ret1 [32767]).thread 0).stack = [32767] ∧ 32767 < 32768 ∧ Issues (go1 i1j
    32767) 0 i1j ∧ i1j.op = Op.jmpr ∧ BitVec.toNat (gpr (go1 i1j 32767) 0 i1j.a) < 32768) ∧ (Issues (go1 (i1s 0)) 0 (i1s 0) ∧ (i1s
    0).op = Op.spawn ∧ ((go1 (i1s 0)).thread 0).pc ≠ 32767 ∧ ((go1 (i1s 0)).thread (i1s 0).f.toNat).running = true) ∧ (Issues (go1
    (i1s 3)) 0 (i1s 3) ∧ (i1s 3).op = Op.spawn ∧ ((go1 (i1s 3)).thread 0).pc ≠ 32767 ∧ ((go1 (i1s 3)).thread (i1s 3).f.toNat).running
    = false ∧ (go1 (i1s 3)).gaf.threads.length = 4) ∧ (Issues (go1 i1e) 0 i1e ∧ i1e.op = Op.exit ∧ ((go1 i1e).thread 0).pc ≠ 32767 ∧
    (1 : Word).toNat % 2 = 1 ∧ c1v15.f GAF_STATUS.PROG_VALID = 1 ∧ c1v15.f GAF_CTL.RUN ≠ 1 ∧ State.reset.f GAF_STATUS.PROG_VALID ≠ 1) := by
  refine ⟨by decide +kernel, ?_⟩
  iterate 6 refine ⟨by unfold Issues; decide +kernel, ?_⟩
  unfold Issues; decide +kernel

theorem witness_ProgFaults :
    ((idleProg.thread 0).running = true ∧ (idleProg.thread 0).wait = Waiting.none ∧ idleProg.cellChecked 14 (8 * (idleProg.thread
    0).pc) = Checked.good ∧ Triso.decode (BitVec.ofNat 64 (idleProg.rawData 14 (8 * (idleProg.thread 0).pc))) = none ∧ Issues (runs
    State.reset i1n 32767) 0 i1n ∧ i1n.op = Op.nop ∧ ((runs State.reset i1n 32767).thread 0).pc = 32767) ∧ (Issues (go1 i1j 32768) 0
    i1j ∧ i1j.op = Op.jmpr ∧ 32768 ≤ BitVec.toNat (gpr (go1 i1j 32768) 0 i1j.a) ∧ Issues (ret1 [32768]) 0 i1r ∧ i1r.op = Op.ret ∧
    ((ret1 [32768]).thread 0).stack = [32768] ∧ 32768 ≤ 32768) ∧ (Issues full1 0 i1c0 ∧ i1c0.op = Op.call ∧ condHolds i1c0.f (gpr
    full1 0 i1c0.a) (gpr full1 0 i1c0.b) = true ∧ 16 ≤ (full1.thread 0).stack.length ∧ Issues (ret1 []) 0 i1r ∧ ((ret1 []).thread
    0).stack = []) ∧ (Issues (go1 (i1l 4)) 0 (i1l 4) ∧ (¬(BitVec.toNat (gpr (go1 (i1l 4)) 0 (i1l 4).a + BitVec.signExtend 64 (i1l
    4).imm) % 8 = 0 ∧ BitVec.toNat (gpr (go1 (i1l 4)) 0 (i1l 4).a + BitVec.signExtend 64 (i1l 4).imm) < 65536)) ∧ (i1l 4).op = Op.ld ∧
    Issues (go1 (i1t 65536)) 0 (i1t 65536) ∧ (¬(BitVec.toNat (gpr (go1 (i1t 65536)) 0 (i1t 65536).a + BitVec.signExtend 64 (i1t
    65536).imm) % 8 = 0 ∧ BitVec.toNat (gpr (go1 (i1t 65536)) 0 (i1t 65536).a + BitVec.signExtend 64 (i1t 65536).imm) < 65536)) ∧ (i1t
    65536).op = Op.st) ∧ (Issues (go1 (i1x 4294967288)) 0 (i1x 4294967288) ∧ (¬(BitVec.toNat (gpr (go1 (i1x 4294967288)) 0 (i1x
    4294967288).a + BitVec.signExtend 64 (i1x 4294967288).imm) % 8 = 0 ∧ BitVec.toNat (gpr (go1 (i1x 4294967288)) 0 (i1x 4294967288).a
    + BitVec.signExtend 64 (i1x 4294967288).imm) < 65536)) ∧ (i1x 4294967288).op = Op.xchg ∧ State.reset.gaf.threads.length = 4 ∧ 1 ≠
    0) := by
  iterate 4 refine ⟨by unfold Issues; decide +kernel, ?_⟩
  unfold Issues; decide +kernel

theorem witness_TrisoDataMemory :
    (Issues (go1 (i1l 65528)) 0 (i1l 65528) ∧ ((go1 (i1l 65528)).thread 0).pc ≠ 32767 ∧ BitVec.toNat (gpr (go1 (i1l 65528)) 0 (i1l
    65528).a + BitVec.signExtend 64 (i1l 65528).imm) = 65528 ∧ 65528 % 8 = 0 ∧ 65528 < 65536 ∧ (i1l 65528).op = Op.ld ∧ (go1 (i1l
    65528)).cellChecked 15 65528 = Checked.good) ∧ (Issues (go1 (i1t 65528)) 0 (i1t 65528) ∧ ((go1 (i1t 65528)).thread 0).pc ≠ 32767 ∧
    BitVec.toNat (gpr (go1 (i1t 65528)) 0 (i1t 65528).a + BitVec.signExtend 64 (i1t 65528).imm) = 65528 ∧ (i1t 65528).op = Op.st) ∧
    (Issues (go1 (i1x 65528)) 0 (i1x 65528) ∧ ((go1 (i1x 65528)).thread 0).pc ≠ 32767 ∧ BitVec.toNat (gpr (go1 (i1x 65528)) 0 (i1x
    65528).a + BitVec.signExtend 64 (i1x 65528).imm) = 65528 ∧ (i1x 65528).op = Op.xchg ∧ (go1 (i1x 65528)).cellChecked 15 65528 =
    Checked.good) := by
  iterate 2 refine ⟨by unfold Issues; decide +kernel, ?_⟩
  unfold Issues; decide +kernel

theorem witness_TrisoRegisterAccess :
    ((go1 i1wa).free 16 = (((go1 i1wa).free 16).1, ((go1 i1wa).free 16).2) ∧ Issues (go1 i1wa) 0 i1wa ∧ ((go1 i1wa).thread 0).pc ≠
    32767 ∧ BitVec.toNat (gpr (go1 i1wa) 0 i1wa.a + BitVec.zeroExtend 64 i1wa.imm) = THY_ADJ.off ∧ (8 = if i1wa.f = 1 then 8 else 4) ∧
    i1wa.op = Op.wrreg ∧ THY_ADJ.off < 23068672 ∧ THY_ADJ.off % 8 = 0 ∧ writesUnit (THY_ADJ.off / 2 ^ 20) = true ∧ (List.countP (fun e
    ↦ Later.postOf 0 e.2) (go1 i1wa).later < 32)) ∧ (((go1 i1wa).thread 0).wait ≠ Waiting.slot ∧ (go1 i1wa).busWrite 6 THY_ADJ.off 8
    ((5 : Word).toNat) = (((go1 i1wa).busWrite 6 THY_ADJ.off 8 5).1, true)) ∧ (Issues (go1 (i1d 1 incB)) 0 (i1d 1 incB) ∧ ((go1 (i1d 1
    incB)).thread 0).pc ≠ 32767 ∧ BitVec.toNat (gpr (go1 (i1d 1 incB)) 0 (i1d 1 incB).a + BitVec.zeroExtend 64 (i1d 1 incB).imm) =
    inc1 ∧ (8 = if (i1d 1 incB).f = 1 then 8 else 4) ∧ (i1d 1 incB).op = Op.rdreg ∧ inc1 < 23068672 ∧ inc1 % 8 = 0 ∧ readsUnit (inc1 /
    2 ^ 20) = true ∧ (∀ e ∈ (go1 (i1d 1 incB)).later, Later.postOf 0 e.2 = false) ∧ (go1 (i1d 1 incB)).busRead 6 inc1 8 false = (some
    6871947674, go1 (i1d 1 incB))) ∧ (Issues (go1 (i1d 1 12582916)) 0 (i1d 1 12582916) ∧ ((go1 (i1d 1 12582916)).thread 0).pc ≠ 32767
    ∧ BitVec.toNat (gpr (go1 (i1d 1 12582916)) 0 (i1d 1 12582916).a + BitVec.zeroExtend 64 (i1d 1 12582916).imm) = 12582916 ∧ (8 = if
    (i1d 1 12582916).f = 1 then 8 else 4) ∧ (i1d 1 12582916).op = Op.rdreg ∧ (¬(12582916 < 23068672 ∧ 12582916 % 8 = 0 ∧ readsUnit
    (12582916 / 2 ^ 20) = true))) ∧ (Issues (go1 (i1d 0 19922944)) 0 (i1d 0 19922944) ∧ ((go1 (i1d 0 19922944)).thread 0).pc ≠ 32767 ∧
    BitVec.toNat (gpr (go1 (i1d 0 19922944)) 0 (i1d 0 19922944).a + BitVec.zeroExtend 64 (i1d 0 19922944).imm) = 19922944 ∧ (4 = if
    (i1d 0 19922944).f = 1 then 8 else 4) ∧ (i1d 0 19922944).op = Op.rdreg ∧ (¬(19922944 < 23068672 ∧ 19922944 % 4 = 0 ∧ readsUnit
    (19922944 / 2 ^ 20) = true))) ∧ (Issues (go1 (i1d 0 23068672)) 0 (i1d 0 23068672) ∧ ((go1 (i1d 0 23068672)).thread 0).pc ≠ 32767 ∧
    BitVec.toNat (gpr (go1 (i1d 0 23068672)) 0 (i1d 0 23068672).a + BitVec.zeroExtend 64 (i1d 0 23068672).imm) = 23068672 ∧ (4 = if
    (i1d 0 23068672).f = 1 then 8 else 4) ∧ (i1d 0 23068672).op = Op.rdreg ∧ (¬(23068672 < 23068672 ∧ 23068672 % 4 = 0 ∧ readsUnit
    (23068672 / 2 ^ 20) = true))) ∧ (Issues c1v17 0 (i1d 1 incB) ∧ (c1v17.thread 0).pc ≠ 32767 ∧ BitVec.toNat (gpr c1v17 0 (i1d 1
    incB).a + BitVec.zeroExtend 64 (i1d 1 incB).imm) = inc1 ∧ (posts1 1 (go1 (i1d 1 incB))).drainPosts 0 = c1v17.drainPosts 0 ∧
    (((posts1 1 (go1 (i1d 1 incB))).drainPosts 0).thread 0).running = true ∧ ((posts1 1 (go1 (i1d 1 incB))).drainPosts 0).busRead 6
    inc1 8 false = (some 6871947674, (posts1 1 (go1 (i1d 1 incB))).drainPosts 0)) ∧ (Issues (posts1 32 (go1 i1wa)) 0 i1wa ∧ ((posts1
    32 (go1 i1wa)).thread 0).pc ≠ 32767 ∧ BitVec.toNat (gpr (posts1 32 (go1 i1wa)) 0 i1wa.a + BitVec.zeroExtend 64 i1wa.imm) =
    THY_ADJ.off ∧ (32 ≤ List.countP (fun e ↦ Later.postOf 0 e.2) (posts1 32 (go1 i1wa)).later)) ∧ (Issues (go1 (i1w 0 1048576)) 0 (i1w
    0 1048576) ∧ ((go1 (i1w 0 1048576)).thread 0).pc ≠ 32767 ∧ BitVec.toNat (gpr (go1 (i1w 0 1048576)) 0 (i1w 0 1048576).a +
    BitVec.zeroExtend 64 (i1w 0 1048576).imm) = 1048576 ∧ (4 = if (i1w 0 1048576).f = 1 then 8 else 4) ∧ (i1w 0 1048576).op = Op.wrreg
    ∧ (¬(1048576 < 23068672 ∧ 1048576 % 4 = 0 ∧ writesUnit (1048576 / 2 ^ 20) = true)) ∧ (∀ e ∈ (posts1 3 State.reset).later,
    Later.postOf 0 e.2 = true → e.1 ≤ (posts1 3 State.reset).mono100 + 2500)) := by
  refine ⟨⟨rfl, by unfold Issues; decide +kernel⟩, by decide +kernel, ?_⟩
  iterate 6 refine ⟨by unfold Issues; decide +kernel, ?_⟩
  unfold Issues; decide +kernel

/-! ## Witnesses: the root, unit commands and generations -/

/-- A write that waits at the root since a tick, and the tick. -/
def queued (t now : Nat) : State :=
  { State.reset with tick := now, root := { State.reset.root with queue := [{ tick := t, addr := GLY_NORM.off, val := 5 }] } }

def selcalI : Triso := tri .selcal 0 0 0 0 8

def selcalS : State := data (runs State.reset selcalI) 8 [0x20, 0x0160]
/-- A commit of thread 0 whose last write landed at tick 3, at a tick. -/
def waitsCommit (now : Nat) : State :=
  { State.reset with tick := now, root := { State.reset.root with commits := [{ thread := 0, lastTick := 3, dst := 5 }] } }
def commitI := tri .commit 5 0 0 0 0
/-- The copies of a triple disagree. -/
def torn (s : State) (i : Nat) : State := s.putCopies i (some [(1, true), (2, true), (3, false)])
def c2t := torn (waitsCommit 20) 54
def staged1 (l : List (Fld × Nat) := []) : State :=
  let s := st l; { s with root := { s.root with staged := { gen := 1, vals := [] } } }
def c2v1 := staged1 [(BMP_STATUS.FILL_BUSY, 1)]

def prepI : Triso := tri .prep 3 0 0 0 8
def prep4 : Triso := tri .prep 3 0 0 0 4
/-- A descriptor of stripe 4 of length 256 in context 0. -/
def desc4 : List Nat := [4 + 256 * 2 ^ 32, 0, 0, 0, 0]
/-- A device that can take it: a committed generation and an open context. -/
def canPrep : State := data (runs (st [(GAF_GEN.COMMITTED, 1), (GTH_CTX_CFG.OPEN 0, 1)]) prepI) 8 desc4
def goI : Triso := tri .go 3 0 0 0 0
/-- PREPARED and QUEUED stripes of a state that issues an instruction. -/
def goes (p q : Option Stripe) (i : Triso := goI) : State :=
  let s := runs State.reset i;
  { s with gaf := { s.gaf with prepared := p, queued := q } }
def c2v2 := data (runs State.reset prepI) 8 desc4
def c2p1 : State := { canPrep with gaf := { canPrep.gaf with prepared := some k1 } }
def cleared4 : State := { canPrep with root := { canPrep.root with tableCleared := true } }
def short4 : List Nat := [4 + 255 * 2 ^ 32, 0, 0, 0, 0]
def ctx14 : List Nat := [4 + 256 * 2 ^ 32, 0, 0, 0, 2]
/-- Context 0 has prepared a stripe of a number already. -/
def did (n : Nat) : State := canPrep.modCtx 0 (fun c => { c with lastPrep := some n })

def waitI : Triso := tri .wait 3 1 0 0 5
/-- Thread 0 issues WAIT for event 5 with a timeout, a mask of events being pending. -/
def waits (a p : Word) : State := (runs State.reset waitI 0 (g12 a 0)).modThread 0 (fun h => { h with pend := p })
/-- Thread 0 waits for event 5. -/
def waiting (timed : Bool) (p : Word) : State :=
  State.reset.modThread 0 (fun h => { h with running := true, wait := .event 3 32 timed, pend := p })
def sigI := tri .sig 0 0 0 0 15
def ringI := tri .ring 0 0 0 7 23

def trainI : Triso := tri .train 3 1 0 0 0
def cchkI : Triso := tri .cchk 3 0 0 0 0
def stampI (f : BitVec 4) : Triso := tri .stamp 3 (if f = 0 then 0 else 1) 0 f (if f = 0 then 0 else 7)
def armI : Triso := tri .armtp 3 1 2 7 4
def training (s : State) : State := { s with link := { s.link with train := some 1 } }
def c2v3 := runs State.reset (stampI 0)
def c2v4 := runs State.reset (stampI 1)
def c2v5 := runs State.reset armI 0 (g12 15 32)
def c2v6 := runs State.reset armI 0 (g12 16 32)
def c2v7 := flashes (runs State.reset trainI)
def c2v8 := training (runs State.reset trainI)
def c2v9 := flashes (runs State.reset cchkI)
def c2v10 := runs (st ((BMP_CC_STATUS.STATE, 1) :: lanesUp)) cchkI

def haltI : Triso := tri .halt 3 0 0 0 0
def c2v11 := runs (act (st [(MOT_STATUS.STATE, 6)])) haltI
def c2v12 := runs (act (st [(MOT_STATUS.STATE, 1)])) haltI
def c2v13 := runs (act (st [(MOT_STATUS.STATE, 5)])) haltI

def resumeI : Triso := tri .resume 3 0 2 0 0
/-- A halted stripe whose RESUME nothing refuses: both axes' channels valid. -/
def resumable : State :=
  runs (act (st ([(GAF_STATUS.HALTED, 1), (SFB_CH_STATUS.POS_VALID 0, 1), (SFB_CH_STATUS.POS_VALID 1, 1)] ++ lanesUp))) resumeI
def abandonI := tri .abandon 3 0 0 0 0

def c2r1 := resumable.put GAF_HALT_GEN.GEN 1
def c2r2 := resumable.setLane 71 0
def c2r3 := resumable.put (SFB_CH_STATUS.POS_VALID 1) 0
/-- Both axes compare, and the second one's channels deviate. -/
def strayed : State :=
  { resumable with root := { resumable.root with banks := resumable.root.banks.map (fun (b : Bank) =>
      { b with vals := mset (mset b.vals (SFB_AXIS_CFG.CHK_EN 0).key 1) (SFB_AXIS_CHK_OFFSET.OFFSET 0).key (2 ^ 40) }) } }
/-- A RESUME has been accepted and the axes are not yet at rest. -/
def twice : State := { resumable with gaf := { resumable.gaf with resumeOk := true } }
def c2r4 := resumable.modCtx 0 (fun c => { c with halt := some 0x0510 })
def c2v14 := runs (act (st [(GAF_STATUS.HALTED, 1)])) abandonI
def c2v15 := act (st [(GAF_STATUS.HALTED, 1)])

def c2q1 : RootWrite := { tick := 3, addr := GLY_NORM.off, val := 5 }

def c2q2 : CommitReq := { thread := 0, lastTick := 3, dst := 5 }

theorem witness_RootQueue :
    ((queued 3 19).root.queue = [c2q1] ∧ (queued 3 19).tick ≤ c2q1.tick + 16 ∧ (queued 3 20).root.queue = [c2q1] ∧ c2q1.tick + 16 <
    (queued 3 20).tick ∧ regAt c2q1.addr = some ((regAt GLY_NORM.off).get!.1, (regAt GLY_NORM.off).get!.2) ∧ ((List.map (fun e ↦
    e.1.key) (regAt GLY_NORM.off).get!.2).Nodup) ∧ (∀ e ∈ (regAt GLY_NORM.off).get!.2, e.1.reset < 2 ^ e.1.w)) ∧
    State.reset.root.queue = [] ∧ (Issues selcalS 0 selcalI ∧ selcalI.op = Op.selcal ∧ (selcalS.thread 0).pc ≠ 32767 ∧ (∀ e ∈
    selcalS.later, Later.postOf 0 e.2 = false) ∧ BitVec.toNat (gpr selcalS 0 selcalI.a + BitVec.signExtend 64 selcalI.imm) = 8 ∧ 8 % 8
    = 0 ∧ 8 + 8 + 8 * listSets 32 ≤ 65536 ∧ selcalS.readWord 15 8 = (some 32, selcalS) ∧ selcalS.dmemList (8 + 8) (listSets 32) =
    (some [352, 0], selcalS)) :=
  ⟨by decide +kernel, by decide +kernel, by unfold Issues; decide +kernel⟩

theorem witness_Generations :
    (Issues (runs State.reset commitI) 0 commitI ∧ commitI.op = Op.commit ∧ (waitsCommit 19).root.commits = [c2q2] ∧ (¬(((waitsCommit
    19).root.banks.all fun b ↦ decide (b.gen = (waitsCommit 19).root.staged.gen)) = true ∧ (waitsCommit 19).f GAF_STATUS.HALTED ≠ 1 ∧
    (waitsCommit 19).gaf.resumeOk = false ∧ (∀ e ∈ (waitsCommit 19).later, Later.postOf c2q2.thread e.2 = false) ∧ c2q2.lastTick + 17
    ≤ (waitsCommit 19).tick))) ∧ ((waitsCommit 20).root.commits = [c2q2] ∧ (((waitsCommit 20).root.banks.all fun b ↦ decide (b.gen =
    (waitsCommit 20).root.staged.gen)) = true) ∧ (waitsCommit 20).f GAF_STATUS.HALTED ≠ 1 ∧ (waitsCommit 20).gaf.resumeOk = false ∧ (∀
    e ∈ (waitsCommit 20).later, Later.postOf c2q2.thread e.2 = false) ∧ c2q2.lastTick + 17 ≤ (waitsCommit 20).tick ∧ ((waitsCommit
    20).thread c2q2.thread).pc ≠ 32767 ∧ (waitsCommit 20).gaf.threads.length = 4 ∧ c2q2.thread < 4 ∧ (waitsCommit 20).tripleHeld 54 =
    false) ∧ (c2t.root.commits = [c2q2] ∧ ((c2t.root.banks.all fun b ↦ decide (b.gen = c2t.root.staged.gen)) = true) ∧ c2t.f
    GAF_STATUS.HALTED ≠ 1 ∧ c2t.gaf.resumeOk = false ∧ (∀ e ∈ c2t.later, Later.postOf c2q2.thread e.2 = false) ∧ c2q2.lastTick + 17 ≤
    c2t.tick ∧ (c2t.thread c2q2.thread).pc ≠ 32767 ∧ c2t.gaf.threads.length = 4 ∧ c2t.tripleHeld 54 = true) ∧ (State.reset.actGen 3 =
    0 ∧ (torn State.reset 55).actGen 3 = 0 ∧ staged1.actGen 3 ≠ 1 ∧ staged1.root.staged.gen = 1 ∧ (3 = 1 → staged1.f
    BMP_STATUS.FILL_BUSY ≠ 1) ∧ (3 = 3 → staged1.tripleHeld 55 = false)) ∧ (staged1.actGen 1 ≠ 1 ∧ (1 = 1 → staged1.f
    BMP_STATUS.FILL_BUSY ≠ 1) ∧ (1 = 3 → staged1.tripleHeld 55 = false) ∧ c2v1.actGen 1 ≠ 1 ∧ c2v1.root.staged.gen = 1 ∧ c2v1.f
    BMP_STATUS.FILL_BUSY = 1) ∧ (staged1.actGen 2 ≠ 2 ∧ staged1.root.staged.gen ≠ 2) := by
  refine ⟨by unfold Issues; decide +kernel, ?_⟩
  iterate 4 refine ⟨by decide +kernel, ?_⟩
  decide +kernel

theorem witness_PrepareAndGo :
    (Issues (goes (some k1) none prep4) 0 prep4 ∧ ((goes (some k1) none prep4).thread 0).pc ≠ 32767 ∧ prep4.op = Op.prep ∧ (goes (some
    k1) none prep4).gaf.prepared.isSome = true ∧ BitVec.toNat (gpr (goes (some k1) none prep4) 0 prep4.a + BitVec.signExtend 64
    prep4.imm) % 8 ≠ 0) ∧ (Issues c2v2 0 prepI ∧ (c2v2.thread 0).pc ≠ 32767 ∧ prepI.op = Op.prep ∧ BitVec.toNat (gpr c2v2 0 prepI.a +
    BitVec.signExtend 64 prepI.imm) = 8 ∧ 8 % 8 = 0 ∧ 8 + 40 ≤ 65536 ∧ c2v2.dmemList 8 5 = (some desc4, c2v2) ∧ 4 = desc4.getD 0 0 % 2
    ^ 32) ∧ (Issues c2p1 0 prepI ∧ (c2p1.thread 0).pc ≠ 32767 ∧ BitVec.toNat (gpr c2p1 0 prepI.a + BitVec.signExtend 64 prepI.imm) = 8
    ∧ c2p1.dmemList 8 5 = (some desc4, c2p1) ∧ c2p1.gaf.prepared.isSome = true) ∧ (Issues cleared4 0 prepI ∧ (cleared4.thread 0).pc ≠
    32767 ∧ BitVec.toNat (gpr cleared4 0 prepI.a + BitVec.signExtend 64 prepI.imm) = 8 ∧ cleared4.dmemList 8 5 = (some desc4,
    cleared4) ∧ cleared4.gaf.prepared = none ∧ (cleared4.f GAF_GEN.COMMITTED = 0 ∨ cleared4.root.tableCleared = true)) ∧ (Issues (data
    canPrep 8 short4) 0 prepI ∧ ((data canPrep 8 short4).thread 0).pc ≠ 32767 ∧ BitVec.toNat (gpr (data canPrep 8 short4) 0 prepI.a +
    BitVec.signExtend 64 prepI.imm) = 8 ∧ (data canPrep 8 short4).dmemList 8 5 = (some short4, data canPrep 8 short4) ∧ 4 =
    short4.getD 0 0 % 2 ^ 32 ∧ 255 = short4.getD 0 0 / 2 ^ 32 % 2 ^ 32 ∧ 0 = short4.getD 4 0 / 2 % 2 ∧ (data canPrep 8
    short4).gaf.prepared = none) ∧ (Issues (data canPrep 8 ctx14) 0 prepI ∧ ((data canPrep 8 ctx14).thread 0).pc ≠ 32767 ∧
    BitVec.toNat (gpr (data canPrep 8 ctx14) 0 prepI.a + BitVec.signExtend 64 prepI.imm) = 8 ∧ (data canPrep 8 ctx14).dmemList 8 5 =
    (some ctx14, data canPrep 8 ctx14) ∧ 4 = ctx14.getD 0 0 % 2 ^ 32 ∧ 256 = ctx14.getD 0 0 / 2 ^ 32 % 2 ^ 32 ∧ 1 = ctx14.getD 4 0 / 2
    % 2 ∧ (data canPrep 8 ctx14).gaf.prepared = none) ∧ (Issues (did 4) 0 prepI ∧ ((did 4).thread 0).pc ≠ 32767 ∧ BitVec.toNat (gpr
    (did 4) 0 prepI.a + BitVec.signExtend 64 prepI.imm) = 8 ∧ (did 4).dmemList 8 5 = (some desc4, did 4) ∧ (did 4).gaf.prepared = none
    ∧ (did 4).f GAF_GEN.COMMITTED ≠ 0 ∧ (did 4).root.tableCleared = false ∧ desc4.getD 4 0 < 4) ∧ (Issues (did 3) 0 prepI ∧ ((did
    3).thread 0).pc ≠ 32767 ∧ BitVec.toNat (gpr (did 3) 0 prepI.a + BitVec.signExtend 64 prepI.imm) = 8 ∧ (did 3).dmemList 8 5 = (some
    desc4, did 3) ∧ (did 3).gaf.prepared = none ∧ (did 3).f GAF_GEN.COMMITTED ≠ 0 ∧ (did 3).root.tableCleared = false ∧ (did 3).f
    (GTH_CTX_CFG.OPEN 0) = 1 ∧ (∀ p ∈ ((did 3).ctx 0).lastPrep, p < 4) ∧ ((did 3).ctx 0).halt = none) ∧ (Issues (goes none none) 0 goI
    ∧ ((goes none none).thread 0).pc ≠ 32767 ∧ goI.op = Op.go ∧ (goes none none).gaf.prepared = none) ∧ (Issues (goes (some k1) (some
    k1)) 0 goI ∧ ((goes (some k1) (some k1)).thread 0).pc ≠ 32767 ∧ (goes (some k1) (some k1)).gaf.prepared.isSome = true ∧ (goes
    (some k1) (some k1)).gaf.queued.isSome = true) ∧ (Issues (goes (some k1) none) 0 goI ∧ ((goes (some k1) none).thread 0).pc ≠ 32767
    ∧ (goes (some k1) none).gaf.prepared = some k1 ∧ (goes (some k1) none).gaf.queued = none) ∧ (256 = desc4.getD 0 0 / 2 ^ 32 % 2 ^
    32 ∧ 0 = desc4.getD 4 0 / 2 % 2 ∧ c2v2.gaf.prepared = none ∧ (c2v2.f GAF_GEN.COMMITTED = 0 ∨ c2v2.root.tableCleared = true)) ∧
    ((data canPrep 8 short4).f GAF_GEN.COMMITTED ≠ 0 ∧ (data canPrep 8 short4).root.tableCleared = false ∧ (255 < 256 ∨ 1073741824 <
    255 ∨ 4 ≤ short4.getD 4 0)) ∧ ((data canPrep 8 ctx14).f GAF_GEN.COMMITTED ≠ 0 ∧ (data canPrep 8 ctx14).root.tableCleared = false ∧
    256 ≤ 256 ∧ 256 ≤ 1073741824 ∧ ctx14.getD 4 0 < 4 ∧ (data canPrep 8 ctx14).f (GTH_CTX_CFG.OPEN 1) ≠ 1) ∧ ((did 4).f
    (GTH_CTX_CFG.OPEN 0) = 1 ∧ ((did 4).ctx 0).lastPrep = some 4 ∧ 4 ≤ 4) := by
  iterate 11 refine ⟨by unfold Issues; decide +kernel, ?_⟩
  iterate 3 refine ⟨by decide +kernel, ?_⟩
  decide +kernel

theorem witness_Events :
    (true = true ∧ false = false ∧ ((waiting true 0).thread 0).wait = Waiting.event 3 32 true ∧ (waiting true 0).waitHit 0 32 = none ∧
    ((waiting false 0).thread 0).wait = Waiting.event 3 32 false ∧ (waiting false 0).waitHit 0 32 = none) ∧ (63 < 64 ∧
    State.reset.gaf.threads.length = 4 ∧ 5 < 64 ∧ (waiting true 32).gaf.threads.length = 4 ∧ Issues (runs State.reset sigI) 0 sigI ∧
    sigI.op = Op.sig) ∧ (Issues (runs State.reset ringI) 0 ringI ∧ ringI.op = Op.ring ∧ ringI.imm.toNat < 24 ∧ 4 ≤ 4 ∧ 4 < 5) ∧
    (Issues (waits 7 32) 0 waitI ∧ waitI.op = Op.wait ∧ ((waits 7 32).thread 0).pc ≠ 32767 ∧ (waits 7 32).waitHit 0 ((waits 7
    32).waitMask 0 waitI) = some 5) ∧ (Issues (waits 0 16) 0 waitI ∧ ((waits 0 16).thread 0).pc ≠ 32767 ∧ (waits 0 16).waitHit 0
    ((waits 0 16).waitMask 0 waitI) = none ∧ gpr (waits 0 16) 0 waitI.a = 0) ∧ (Issues (waits 7 16) 0 waitI ∧ ((waits 7 16).thread
    0).pc ≠ 32767 ∧ (waits 7 16).waitHit 0 ((waits 7 16).waitMask 0 waitI) = none ∧ gpr (waits 7 16) 0 waitI.a ≠ 0 ∧ ((waiting true
    32).thread 0).wait = Waiting.event 3 32 true ∧ (waiting true 32).waitHit 0 32 = some 5) := by
  refine ⟨⟨rfl, rfl, by decide +kernel⟩, ?_⟩
  iterate 4 refine ⟨by unfold Issues; decide +kernel, ?_⟩
  unfold Issues; decide +kernel

theorem witness_UnitCommands :
    (Issues c2v3 0 (stampI 0) ∧ (c2v3.thread 0).pc ≠ 32767 ∧ (stampI 0).op = Op.stamp ∧ (stampI 0).f = 0) ∧ (Issues c2v4 0 (stampI 1)
    ∧ (c2v4.thread 0).pc ≠ 32767 ∧ (stampI 1).op = Op.stamp ∧ (stampI 1).f = 1) ∧ (Issues c2v5 0 armI ∧ (c2v5.thread 0).pc ≠ 32767 ∧
    armI.op = Op.armtp ∧ c2v5.ahead16 (BitVec.toNat (gpr c2v5 0 armI.a)) = false ∧ Issues c2v6 0 armI ∧ (c2v6.thread 0).pc ≠ 32767 ∧
    c2v6.ahead16 (BitVec.toNat (gpr c2v6 0 armI.a)) = true) ∧ (Issues c2v7 0 trainI ∧ (c2v7.thread 0).pc ≠ 32767 ∧ trainI.op =
    Op.train ∧ c2v7.mot.flashing = true) ∧ (Issues c2v8 0 trainI ∧ (c2v8.thread 0).pc ≠ 32767 ∧ c2v8.mot.flashing = false ∧
    c2v8.link.train.isSome = true) ∧ (Issues (runs State.reset trainI) 0 trainI ∧ ((runs State.reset trainI).thread 0).pc ≠ 32767 ∧
    (runs State.reset trainI).mot.flashing = false ∧ (runs State.reset trainI).link.train = none) ∧ (Issues c2v9 0 cchkI ∧
    (c2v9.thread 0).pc ≠ 32767 ∧ cchkI.op = Op.cchk ∧ c2v9.mot.flashing = true) ∧ (Issues (runs State.reset cchkI) 0 cchkI ∧ ((runs
    State.reset cchkI).thread 0).pc ≠ 32767 ∧ (runs State.reset cchkI).mot.flashing = false ∧ (runs State.reset cchkI).allReady =
    false) ∧ (Issues c2v10 0 cchkI ∧ (c2v10.thread 0).pc ≠ 32767 ∧ c2v10.mot.flashing = false ∧ c2v10.allReady = true ∧ c2v10.f
    BMP_CC_STATUS.STATE = 1) ∧ (Issues (runs (st lanesUp) cchkI) 0 cchkI ∧ ((runs (st lanesUp) cchkI).thread 0).pc ≠ 32767 ∧ (runs (st
    lanesUp) cchkI).mot.flashing = false ∧ (runs (st lanesUp) cchkI).allReady = true ∧ (runs (st lanesUp) cchkI).f BMP_CC_STATUS.STATE
    ≠ 1) := by
  iterate 9 refine ⟨by unfold Issues; decide +kernel, ?_⟩
  unfold Issues; decide +kernel

theorem witness_HaltCommand :
    (Issues (runs State.reset haltI) 0 haltI ∧ haltI.op = Op.halt ∧ ((runs State.reset haltI).thread 0).pc ≠ 32767 ∧ ((runs
    State.reset haltI).gaf.active = none ∨ (runs State.reset haltI).f MOT_STATUS.STATE = 0 ∨ 5 < (runs State.reset haltI).f
    MOT_STATUS.STATE) ∧ Issues c2v11 0 haltI ∧ (c2v11.thread 0).pc ≠ 32767 ∧ (c2v11.gaf.active = none ∨ c2v11.f MOT_STATUS.STATE = 0 ∨
    5 < c2v11.f MOT_STATUS.STATE)) ∧ (Issues c2v12 0 haltI ∧ (c2v12.thread 0).pc ≠ 32767 ∧ c2v12.gaf.active = some k1 ∧ 1 ≤ c2v12.f
    MOT_STATUS.STATE ∧ c2v12.f MOT_STATUS.STATE ≤ 5 ∧ c2v12.f GAF_STATUS.HALTED ≠ 1) ∧ (Issues c2v13 0 haltI ∧ (c2v13.thread 0).pc ≠
    32767 ∧ c2v13.gaf.active = some k1 ∧ 1 ≤ c2v13.f MOT_STATUS.STATE ∧ c2v13.f MOT_STATUS.STATE ≤ 5 ∧ c2v13.f GAF_STATUS.HALTED ≠ 1) := by
  iterate 2 refine ⟨by unfold Issues; decide +kernel, ?_⟩
  unfold Issues; decide +kernel

theorem witness_ResumeAndAbandon :
    (Issues (runs State.reset resumeI) 0 resumeI ∧ ((runs State.reset resumeI).thread 0).pc ≠ 32767 ∧ resumeI.op = Op.resume ∧ (runs
    State.reset resumeI).f GAF_STATUS.HALTED ≠ 1 ∧ (runs State.reset resumeI).gaf.resumeOk = false) ∧ (Issues c2r1 0 resumeI ∧
    (c2r1.thread 0).pc ≠ 32767 ∧ (c2r1.f GAF_STATUS.HALTED = 1 ∨ c2r1.gaf.resumeOk = true) ∧ BitVec.toNat (gpr c2r1 0 resumeI.b) ≠
    c2r1.f GAF_HALT_GEN.GEN) ∧ (Issues c2r2 0 resumeI ∧ (c2r2.thread 0).pc ≠ 32767 ∧ (c2r2.f GAF_STATUS.HALTED = 1 ∨ c2r2.gaf.resumeOk
    = true) ∧ BitVec.toNat (gpr c2r2 0 resumeI.b) = c2r2.f GAF_HALT_GEN.GEN ∧ 71 < 72 ∧ c2r2.laneState 71 ≠ 5) ∧ (Issues c2r3 0
    resumeI ∧ (c2r3.thread 0).pc ≠ 32767 ∧ (c2r3.f GAF_STATUS.HALTED = 1 ∨ c2r3.gaf.resumeOk = true) ∧ BitVec.toNat (gpr c2r3 0
    resumeI.b) = c2r3.f GAF_HALT_GEN.GEN ∧ (∀ l < 72, c2r3.laneState l = 5) ∧ 1 < 2 ∧ 1 < 18 ∧ c2r3.axisNames 1 1 = true ∧ (c2r3.f
    (SFB_CH_STATUS.POS_VALID 1) ≠ 1 ∨ c2r3.f (SFB_CH_STATUS.REF_LOST 1) = 1)) ∧ (Issues strayed 0 resumeI ∧ (strayed.thread 0).pc ≠
    32767 ∧ (strayed.f GAF_STATUS.HALTED = 1 ∨ strayed.gaf.resumeOk = true) ∧ BitVec.toNat (gpr strayed 0 resumeI.b) = strayed.f
    GAF_HALT_GEN.GEN ∧ (∀ l < 72, strayed.laneState l = 5) ∧ 0 < 2 ∧ strayed.act 3 (SFB_AXIS_CFG.CHK_EN 0) = 1 ∧ strayed.deviates 0 =
    true) ∧ (Issues twice 0 resumeI ∧ (twice.thread 0).pc ≠ 32767 ∧ (twice.f GAF_STATUS.HALTED = 1 ∨ twice.gaf.resumeOk = true) ∧
    BitVec.toNat (gpr twice 0 resumeI.b) = twice.f GAF_HALT_GEN.GEN ∧ (∀ l < 72, twice.laneState l = 5) ∧ (∀ a < 2, (∀ n < 18,
    twice.axisNames a n = true → twice.f (SFB_CH_STATUS.POS_VALID n) = 1 ∧ twice.f (SFB_CH_STATUS.REF_LOST n) ≠ 1) ∧ (twice.act 3
    (SFB_AXIS_CFG.CHK_EN a) = 1 → twice.deviates a = false)) ∧ twice.gaf.resumeOk = true) ∧ (Issues c2r4 0 resumeI ∧ (c2r4.thread
    0).pc ≠ 32767 ∧ (c2r4.f GAF_STATUS.HALTED = 1 ∨ c2r4.gaf.resumeOk = true) ∧ BitVec.toNat (gpr c2r4 0 resumeI.b) = c2r4.f
    GAF_HALT_GEN.GEN ∧ (∀ l < 72, c2r4.laneState l = 5) ∧ (∀ a < 2, (∀ n < 18, c2r4.axisNames a n = true → c2r4.f
    (SFB_CH_STATUS.POS_VALID n) = 1 ∧ c2r4.f (SFB_CH_STATUS.REF_LOST n) ≠ 1) ∧ (c2r4.act 3 (SFB_AXIS_CFG.CHK_EN a) = 1 → c2r4.deviates
    a = false)) ∧ c2r4.gaf.resumeOk = false ∧ c2r4.gaf.active = some k1 ∧ (c2r4.ctx k1.ctx).halt = some 1296) ∧ (Issues resumable 0
    resumeI ∧ (resumable.thread 0).pc ≠ 32767 ∧ (resumable.f GAF_STATUS.HALTED = 1 ∨ resumable.gaf.resumeOk = true) ∧ BitVec.toNat
    (gpr resumable 0 resumeI.b) = resumable.f GAF_HALT_GEN.GEN ∧ (∀ l < 72, resumable.laneState l = 5) ∧ (∀ a < 2, (∀ n < 18,
    resumable.axisNames a n = true → resumable.f (SFB_CH_STATUS.POS_VALID n) = 1 ∧ resumable.f (SFB_CH_STATUS.REF_LOST n) ≠ 1) ∧
    (resumable.act 3 (SFB_AXIS_CFG.CHK_EN a) = 1 → resumable.deviates a = false)) ∧ resumable.gaf.resumeOk = false ∧ (∀ k ∈
    resumable.gaf.active, (resumable.ctx k.ctx).halt = none)) ∧ (Issues (runs State.reset abandonI) 0 abandonI ∧ ((runs State.reset
    abandonI).thread 0).pc ≠ 32767 ∧ abandonI.op = Op.abandon ∧ (runs State.reset abandonI).f GAF_STATUS.HALTED ≠ 1) ∧ (Issues c2v14 0
    abandonI ∧ (c2v14.thread 0).pc ≠ 32767 ∧ c2v14.f GAF_STATUS.HALTED = 1 ∧ c2v14.gaf.active = some k1 ∧ c2v15.gaf.active = some k1) := by
  iterate 9 refine ⟨by unfold Issues; decide +kernel, ?_⟩
  unfold Issues; decide +kernel

/-! ## Witnesses: Thyme, the axes, power -/

def slews (n : Int) : State := { State.reset with thyme := { State.reset.thyme with slew := n } }
def later1 : State := { State.reset with later := [(5, .posted 0 0 THY_ADJ.off 8 5)] }

/-- The time is n ns. -/
def atNs (s : State) (n : Nat) : State := { s with thyme := { s.thyme with ns := n } }
def c3v1 := st [(THY_SET_NS.NS, 1000000000)]
def c3v2 := st [(THY_TP_START.S 7, 16)]
def c3v3 := st [(THY_TP_START.S 7, 15)]
def c3v4 := st [(THY_TP_CTL.ARMED 7, 1)]
def c3v5 := st [(THY_TP_CTL.ARMED 3, 1)]
def c3v6 := st [(THY_TP_CTL.ARMED 3, 1), (THY_TP_PERIOD.Q 3, 16)]

/-- Capture 2 enabled for rising edges of its pin, with n entries in its FIFO and a last edge of the pin. -/
def capt (n : Nat) (l : Option Nat) : State :=
  let s := st [(THY_TC_CTL.EN 2, 1)];
  { s with thyme := { s.thyme with fifos := s.thyme.fifos.set 2 (List.replicate n 7), tcLast := s.thyme.tcLast.set 2 l } }
/-- The last edge of the pin is eight ns old. -/
def eightLater : State := { capt 7 (some 0) with tick := 32 }

/-- Axis 2 moves at speed 9, with fields set. -/
def axS (l : List (Fld × Nat)) : State :=
  let s := st ([(MOT_AX_CTL.EN 2, 1), (MOT_AX_STATUS.STATE 2, 1)] ++ l);
  { s with aux := s.aux.set 2 { vel := 9, neg := false, s0 := 0, e0 := 0 } }
/-- The axis checks each step against the encoder. -/
def checks (limit : Nat) : State :=
  axS [(MOT_AX_CTL.CHK_EN 2, 1), (MOT_AX_CHK.MUL 2, 3), (MOT_AX_CHK.DIV 2, 2), (MOT_AX_CHK.LIMIT 2, limit), (SFB_CH_POS.POS 10, 5)]
def c3v7 := st [(MOT_AX_STATUS.STATE 2, 1)]
def c3v8 := st [(MOT_AX_CTL.CUR_EN 2, 1)]

/-- A stage of boot. -/
def bootAt (n : Nat) : State := st [(PWR_BOOT_STATUS.STAGE, n)]

def c3v9 := st [(PWR_RST_CAUSE.WARM, 1), (BMP_GEOM.LOG2N, 3)]
/-- Lanes 8 to 15 and the lanes beside them READY, return lane 1 READY. -/
def group1 : State := st [(PUN_LANE_STATE.STATE 7, 5), (PUN_LANE_STATE.STATE 8, 5), (PUN_LANE_STATE.STATE 15, 4), (PUN_LANE_STATE.STATE 16, 5), (PUN_LANE_STATE.STATE 65, 5)]

/-- A field of service core 2 set, in stage 6. -/
def core (x : Nat → Fld) : State := st [(PWR_BOOT_STATUS.STAGE, 6), (x 2, 1)]
def goodHash : State := { bootAt 6 with sage := { (bootAt 6).sage with fwHash := (bootAt 6).coreHash } }
/-- Every unit has something of its own. -/
def used : State := State.drive (
  let s := st [(MRV_CTL.ENABLE, 0), (MRV_CNT_TILE.COUNT, 7), (BLP_CNT_TRAP.COUNT, 5), (PUN_LANE_STATE.STATE 3, 5), (PUN_LANE_STATE.STATE 70, 2), (MOT_AX_CTL.EN 7, 1)];
  { s with beam := { s.beam with ccGot := 5 }, later := [(5, .posted 0 0 THY_ADJ.off 8 5)] }) (.axEn 7) true

/-- Requests that wait for leave, and the leave granted. -/
def leave (w g : List Leave) (l : List (Fld × Nat) := []) : State :=
  let s := st l; { s with power := { s.power with waiting := w, grants := g } }
def c3v11 := leave [⟨.coarse, 6, 0⟩] [⟨.pixel, 475, 0⟩]
def c3v12 := leave [⟨.coarse, 6, 0⟩] [⟨.pixel, 474, 0⟩] [(GLY_CTL.ENABLE, 1)]
def oversize := leave [⟨.coarse, 475, 0⟩] [] [(GLY_CTL.ENABLE, 1), (PGV_STATE.EFF, 474)]
def c3v13 := leave [⟨.coarse, 6, 0⟩] [⟨.pixel, 474, 0⟩] [(GLY_CTL.ENABLE, 0)]
def pixTile : State := { leave [] [⟨.pixel, 6, 0⟩] with glory := { State.reset.glory with tile := some ⟨0, 1, 0, 0, 0, 0, false, 0, 0⟩ } }

/-- The first waiting request may have its leave. -/
def ready (w : Leave) (l : List (Fld × Nat)) : State := leave [w] [] (l ++ [(PGV_STATE.EFF, 474)])
def mtile : Leave := ⟨.marver 3 1, 6, 0⟩
def marver1 : State := { ready mtile [(MRV_CTL.ENABLE, 1)] with mslots := State.reset.mslots.set 7 (some ⟨0, 1, 1, 0, 0, 0, 0, false, [], false, [], 0, false, false, 0⟩) }
/-- The pixel stage has a tile, empty or not. -/
def pixels (e : Bool) : State :=
  let s := ready ⟨.pixel, 6, 0⟩ [(GLY_CTL.ENABLE, 1)];
  { s with glory := { s.glory with tile := some ⟨0, 1, 0, 0, 0, 0, e, 0, 0⟩, pix := some k1 } }
def trains : State := ready ⟨.training 1, 6, 0⟩ [(PUN_LANE_STATE.STATE 65, 5), (PUN_LANE_STATE.STATE 8, 1), (PUN_LANE_STATE.STATE 9, 5), (PUN_LANE_STATE.STATE 16, 1)]
/-- Ingest slot 4 holds a segment. -/
def sages : State := let s := ready ⟨.sage 4, 6, 0⟩ []; { s with gather := { s.gather with slots := s.gather.slots.set 4 (some ing) } }
/-- Parison has a band to sample. -/
def inBand : State :=
  let s := ready ⟨.parison, 6, 0⟩ [(PAR_CTL.ENABLE, 1)];
  { s with par := { s.par with stripe := some k1, bands := [⟨k1.key, 0, 0, 0⟩] } }

def c3q1 : Leave := { who := Requester.coarse, units := 6, since := 0 }

def c3q2 : Leave := { who := Requester.coarse, units := 475, since := 0 }

def c3q3 : Leave := { who := Requester.pixel, units := 6, since := 0 }

def c3q4 : MSlot := { ctx := 0, job := 1, stripe := 1, gen := 0, seq := 0, tcol := 0, trow := 0, started := false, queue := [], ended := false, acc := [], consumed := 0, discard := false, draining := false, word := 0 }

def c3q5 : TileHdr := { ctx := 0, stripe := 1, gen := 0, seq := 0, tcol := 0, trow := 0, empty := true, eng := 0, slot := 0 }

def c3q6 : TileHdr := { ctx := 0, stripe := 1, gen := 0, seq := 0, tcol := 0, trow := 0, empty := false, eng := 0, slot := 0 }

def c3q7 : Leave := { who := Requester.training 1, units := 6, since := 0 }

def c3q8 : Leave := { who := Requester.sage 4, units := 6, since := 0 }

def c3q9 : Leave := { who := Requester.parison, units := 6, since := 0 }

def c3q10 : Band := { key := k1.key, gen := 0, no := 0, half := 0 }

theorem witness_ThymeTick :
    (State.reset.thymeTick = State.reset.thymeTick ∧ (slews (-9)).thymeTick = (slews (-9)).thymeTick ∧ (∀ e ∈ State.reset.later,
    State.reset.thymeTick.mono100 < e.1) ∧ State.reset.launches = [] ∧ State.reset.ports = []) ∧ (later1.thymeTick = later1.thymeTick
    ∧ later1.later = [(5, Later.posted 0 0 THY_ADJ.off 8 5)] ∧ (5, Later.posted 0 0 THY_ADJ.off 8 5).1 ≤ later1.thymeTick.mono100 ∧
    State.reset.thyme.slew = 0 ∧ (slews 1).thyme.slew.natAbs ≤ max 1 (min ((slews 1).f THY_SLEW_RATE.RATE) (2 ^ 22)) ∧ (slews
    1).thyme.slew ≠ 0) :=
  ⟨⟨rfl, rfl, by decide +kernel⟩, ⟨rfl, by decide +kernel⟩⟩

theorem witness_ThymeAdjustAndPulses :
    (6442450944 ≤ (6442450944 : Word).toNat % 2 ^ 36 ∧ (6442450944 : Word).toNat % 2 ^ 36 ≤ 7301444403 ∧ 6442450944 ≤ (7301444403 :
    Word).toNat % 2 ^ 36 ∧ (7301444403 : Word).toNat % 2 ^ 36 ≤ 7301444403 ∧ ((6442450943 : Word).toNat % 2 ^ 36 < 6442450944 ∨
    7301444403 < (6442450943 : Word).toNat % 2 ^ 36) ∧ ((7301444404 : Word).toNat % 2 ^ 36 < 6442450944 ∨ 7301444403 < (7301444404 :
    Word).toNat % 2 ^ 36)) ∧ ((flashes State.reset).mot.flashing = true ∧ (1 : Word).toNat % 8 = 1 ∧ (2 : Word).toNat % 8 = 2 ∧
    c3v1.mot.flashing = false ∧ c3v1.f THY_SET_SEC.SEC < 2 ^ 48 ∧ (st [(THY_ADJ.ADJ, 5)]).mot.flashing = false ∧ (4 : Word).toNat % 8
    = 4) ∧ ((327689 : Word).toNat % 4 = 1 ∧ c3v2.ahead16 (c3v2.f (THY_TP_START.S 7)) = true ∧ (1 : Word).toNat % 4 = 1 ∧ c3v3.ahead16
    (c3v3.f (THY_TP_START.S 7)) = false ∧ (2 : Word).toNat % 4 = 2 ∧ State.reset.f (THY_TP_CTL.ARMED 0) ≠ 1) ∧ (c3v5.f
    (THY_TP_CTL.ARMED 3) = 1 ∧ c3v5.f (THY_TP_PERIOD.Q 3) = 0 ∧ c3v6.f (THY_TP_CTL.ARMED 3) = 1 ∧ 16 ≤ c3v6.f (THY_TP_PERIOD.Q 3)) := by
  iterate 3 refine ⟨by decide +kernel, ?_⟩
  decide +kernel

theorem witness_CapturesAndReferences :
    ((capt 7 none).thyme.fifos.length = 8 ∧ (capt 7 none).captures 2 0 false = true ∧ (capt 7 none).thyme.tcLast.getD 2 none = none ∧
    ((capt 7 none).thyme.fifos.getD 2 []).length < 8) ∧ ((capt 8 none).thyme.fifos.length = 8 ∧ (capt 8 none).captures 2 0 false =
    true ∧ (capt 8 none).thyme.tcLast.getD 2 none = none ∧ 8 ≤ ((capt 8 none).thyme.fifos.getD 2 []).length ∧ (capt 1 (some
    0)).thyme.fifos.length = 8 ∧ (capt 1 (some 0)).thyme.tcLast.getD 2 none = some 0 ∧ (capt 1 (some 0)).mono100 < 0 + 80) ∧
    (eightLater.thyme.fifos.length = 8 ∧ eightLater.captures 2 0 false = true ∧ eightLater.thyme.tcLast.getD 2 none = some 0 ∧ 0 + 80
    ≤ eightLater.mono100 ∧ (eightLater.thyme.fifos.getD 2 []).length < 8 ∧ (capt 1 none).thyme.fifos.length = 8 ∧ (capt 1
    none).thyme.fifos.getD 2 [] = [7]) ∧ ((capt 0 none).thyme.fifos.length = 8 ∧ (capt 0 none).thyme.fifos.getD 2 [] = [] ∧
    State.reset.thyme.refs.length = 2 ∧ State.reset.thyme.refs[1]? = some RefPair.reset ∧ (false = true ↔ State.reset.f
    THY_REF_CTL.PPS_EDGE = 1) ∧ RefPair.reset.lastPps = none ∧ (((List.range 8).all fun n ↦ !State.reset.captures n (5 + 1) false) =
    true)) := by
  iterate 3 refine ⟨by decide +kernel, ?_⟩
  decide +kernel

theorem witness_AuxiliaryAxes :
    (State.reset.f (MOT_AX_CTL.EN 0) ≠ 1 ∧ (st [(MOT_AX_CTL.EN 2, 1)]).f (MOT_AX_CTL.EN 2) = 1 ∧ sgn 32 ((5 : Word).toNat) ≠ (st
    [(MOT_AX_CTL.EN 2, 1)]).fs (MOT_AX_POS.POS 2) ∧ (st [(MOT_AX_CTL.EN 2, 1)]).f (MOT_AX_STATUS.CUR 2) ≠ 1 ∧ (st [(MOT_AX_CTL.EN 2,
    1), (MOT_AX_STATUS.CUR 2, 1)]).f (MOT_AX_CTL.EN 2) = 1 ∧ sgn 32 ((5 : Word).toNat) ≠ (st [(MOT_AX_CTL.EN 2, 1), (MOT_AX_STATUS.CUR
    2, 1)]).fs (MOT_AX_POS.POS 2) ∧ (st [(MOT_AX_CTL.EN 2, 1), (MOT_AX_STATUS.CUR 2, 1)]).f (MOT_AX_STATUS.CUR 2) = 1) ∧ ((st
    [(MOT_AX_CTL.EN 2, 1), (MOT_AX_POS.POS 2, 5), (MOT_AX_STATUS.CUR 2, 1)]).f (MOT_AX_CTL.EN 2) = 1 ∧ sgn 32 ((5 : Word).toNat) = (st
    [(MOT_AX_CTL.EN 2, 1), (MOT_AX_POS.POS 2, 5), (MOT_AX_STATUS.CUR 2, 1)]).fs (MOT_AX_POS.POS 2) ∧ ((st [(MOT_AX_CTL.EN 2, 1),
    (MOT_AX_POS.POS 2, 5), (MOT_AX_STATUS.CUR 2, 1)]).axis 2).vel = 0 ∧ (2 : Word).toNat / 2 % 2 = 1 ∧ c3v7.axState 2 = 1) ∧ ((axS
    []).f (MOT_AX_CTL.EN 2) = 1 ∧ (axS []).axState 2 = 1 ∧ (axS []).f (MOT_AX_CTL.CHK_EN 2) ≠ 1 ∧ (false = if ((axS []).axis 2).vel =
    0 then decide ((axS []).fs (MOT_AX_TARGET.TARGET 2) < (axS []).fs (MOT_AX_POS.POS 2)) else ((axS []).axis 2).neg) ∧ false = (false
    != decide ((axS []).f (MOT_AX_CTL.DIR_INV 2) = 1))) ∧ ((checks 3).f (MOT_AX_CTL.EN 2) = 1 ∧ (checks 3).axState 2 = 1 ∧ (checks
    3).f (MOT_AX_CTL.CHK_EN 2) = 1 ∧ (false = if ((checks 3).axis 2).vel = 0 then decide ((checks 3).fs (MOT_AX_TARGET.TARGET 2) <
    (checks 3).fs (MOT_AX_POS.POS 2)) else ((checks 3).axis 2).neg) ∧ (1 = sgn 32 (ofInt 32 ((checks 3).fs (MOT_AX_POS.POS 2) + if
    false = true then -1 else 1))) ∧ 1 ≤ (checks 3).f (MOT_AX_CHK.MUL 2) ∧ 1 ≤ (checks 3).f (MOT_AX_CHK.DIV 2) ∧ 4 = (checks 3).fs
    (SFB_CH_POS.POS (10 + (checks 3).f (MOT_AX_CTL.CHK_SRC 2))) - ((checks 3).axis 2).e0 - (1 - ((checks 3).axis 2).s0) * ↑((checks
    3).f (MOT_AX_CHK.MUL 2)) / ↑((checks 3).f (MOT_AX_CHK.DIV 2))) ∧ ((checks 4).f (MOT_AX_CTL.EN 2) = 1 ∧ (checks 4).axState 2 = 1 ∧
    (checks 4).f (MOT_AX_CTL.CHK_EN 2) = 1 ∧ (false = if ((checks 4).axis 2).vel = 0 then decide ((checks 4).fs (MOT_AX_TARGET.TARGET
    2) < (checks 4).fs (MOT_AX_POS.POS 2)) else ((checks 4).axis 2).neg) ∧ (1 = sgn 32 (ofInt 32 ((checks 4).fs (MOT_AX_POS.POS 2) +
    if false = true then -1 else 1))) ∧ 1 ≤ (checks 4).f (MOT_AX_CHK.MUL 2) ∧ 1 ≤ (checks 4).f (MOT_AX_CHK.DIV 2) ∧ 4 = (checks 4).fs
    (SFB_CH_POS.POS (10 + (checks 4).f (MOT_AX_CTL.CHK_SRC 2))) - ((checks 4).axis 2).e0 - (1 - ((checks 4).axis 2).s0) * ↑((checks
    4).f (MOT_AX_CHK.MUL 2)) / ↑((checks 4).f (MOT_AX_CHK.DIV 2))) ∧ ((¬(State.reset.f (MOT_AX_CTL.EN 0) = 1 ∧ State.reset.axState 0 =
    1)) ∧ c3v8.f (MOT_AX_CTL.CUR_EN 2) = 1 ∧ c3v8.f (MOT_AX_STATUS.CUR 2) ≠ 1) := by
  iterate 5 refine ⟨by decide +kernel, ?_⟩
  decide +kernel

theorem witness_Boot :
    (State.reset.f PWR_BOOT_STATUS.STAGE = 1 ∧ State.reset.lifecycle = 0 ∧ (bootAt 2).f PWR_BOOT_STATUS.STAGE ≠ 1 ∧ (bootAt 2).f
    PWR_BOOT_STATUS.STAGE = 2 ∧ (bootAt 3).f PWR_BOOT_STATUS.STAGE = 3 ∧ (bootAt 6).f PWR_BOOT_STATUS.STAGE ≠ 2 ∧ (bootAt 6).f
    PWR_BOOT_STATUS.STAGE ≠ 3) ∧ (3 < 4 ∧ (bootAt 4).f PWR_BOOT_STATUS.STAGE = 4 ∧ (bootAt 6).f PWR_BOOT_STATUS.STAGE ≠ 4) :=
  ⟨by decide +kernel, by decide +kernel⟩

theorem witness_Resets :
    2 = 1 + 1 ∧ 1 < 8 :=
  by decide +kernel

theorem witness_CoresAndUnits :
    (exec (Instr.unitReset 256) used = Host.Outcome.next (after (exec (Instr.unitReset 256) used) used) ∧ used.gaf.active = none ∧
    (256 : Word).toNat = 2 ^ 8 ∧ used.unitIdle 8 = true ∧ 4 ≤ 8 ∧ 8 ≤ 14 ∧ 8 ≠ 12) ∧ (4 = 4 ∧ 5 = 5 ∧ (16 : Word).toNat = 2 ^ 4 ∧
    used.unitIdle 4 = true ∧ (32 : Word).toNat = 2 ^ 5 ∧ used.unitIdle 5 = true) ∧ (6 = 6 ∧ 7 = 7 ∧ 8 = 8 ∧ (64 : Word).toNat = 2 ^ 6
    ∧ used.unitIdle 6 = true ∧ (128 : Word).toNat = 2 ^ 7 ∧ used.unitIdle 7 = true) ∧ (9 = 9 ∧ 10 = 10 ∧ (512 : Word).toNat = 2 ^ 9 ∧
    used.unitIdle 9 = true ∧ (1024 : Word).toNat = 2 ^ 10 ∧ used.unitIdle 10 = true) ∧ (11 = 11 ∧ 12 = 12 ∧ (2048 : Word).toNat = 2 ^
    11 ∧ used.unitIdle 11 = true ∧ (4096 : Word).toNat = 2 ^ 12 ∧ used.unitIdle 12 = true) ∧ (13 = 13 ∧ 14 = 14 ∧ (8192 : Word).toNat
    = 2 ^ 13 ∧ used.unitIdle 13 = true ∧ (16384 : Word).toNat = 2 ^ 14 ∧ used.unitIdle 14 = true) ∧ ((1 : Word).toNat % 32 = 1 ∧ 0 ≤ 1
    ∧ 2 ≠ 0 ∧ goodHash.f PWR_BOOT_STATUS.STAGE = 6 ∧ goodHash.coreHash = goodHash.sage.fwHash) ∧ (1 ≤ 1 ∧ (bootAt 6).f
    PWR_BOOT_STATUS.STAGE = 6 ∧ (bootAt 6).coreHash ≠ (bootAt 6).sage.fwHash ∧ (1 < 2 ∨ 2 = 0) ∧ (1 < 0 ∨ 0 = 0) ∧ (2 : Word).toNat %
    32 = 2 ∧ 2 ≠ 2 + 1) ∧ (3 = 2 + 1 ∧ (core PWR_SC_CTL.RUNNING).f (PWR_SC_CTL.RUNNING 2) = 1 ∧ (core PWR_SC_CTL.RUNNING).wakePending
    (2 + 1) = false ∧ (act State.reset).gaf.active.isSome = true) ∧ ((st [(MRV_CTL.ENABLE, 1)]).gaf.active = none ∧ (8,
    MRV_CTL.ENABLE) ∈ [(6, GTH_CTL.ENABLE), (7, BLP_CTL.ENABLE), (8, MRV_CTL.ENABLE), (9, GLY_CTL.ENABLE), (11, PAR_CTL.ENABLE), (12,
    LEH_CTL.ENABLE), (12, PUN_CTL.ENABLE), (13, SFB_CTL.ENABLE), (14, MOT_CTL.ENABLE)] ∧ bit ((256 : Word).toNat) (8,
    MRV_CTL.ENABLE).1 = true ∧ (st [(MRV_CTL.ENABLE, 1)]).f (8, MRV_CTL.ENABLE).2 = 1) ∧ ((st [(MOT_CTL.ENABLE, 1)]).gaf.active = none
    ∧ (14, MOT_CTL.ENABLE) ∈ [(6, GTH_CTL.ENABLE), (7, BLP_CTL.ENABLE), (8, MRV_CTL.ENABLE), (9, GLY_CTL.ENABLE), (11,
    PAR_CTL.ENABLE), (12, LEH_CTL.ENABLE), (12, PUN_CTL.ENABLE), (13, SFB_CTL.ENABLE), (14, MOT_CTL.ENABLE)] ∧ bit ((16384 :
    Word).toNat) (14, MOT_CTL.ENABLE).1 = true ∧ (st [(MOT_CTL.ENABLE, 1)]).f (14, MOT_CTL.ENABLE).2 = 1) ∧ ((st [(DMA_CH_STATUS.STATE
    15, 1)]).gaf.active = none ∧ 15 < 16 ∧ bit ((16 : Word).toNat) 4 = true ∧ (st [(DMA_CH_STATUS.STATE 15, 1)]).f
    (DMA_CH_STATUS.STATE 15) = 1) ∧ ((st [(GTH_CTX_CFG.OPEN 1, 1)]).gaf.active = none ∧ 1 < 2 ∧ bit ((64 : Word).toNat) 6 = true ∧ (st
    [(GTH_CTX_CFG.OPEN 1, 1)]).f (GTH_CTX_CFG.OPEN 1) = 1) := by
  refine ⟨⟨next_of (by decide +kernel), by decide +kernel⟩, ⟨rfl, rfl, by decide +kernel⟩, ⟨rfl, rfl, rfl, by decide +kernel⟩, ⟨rfl,
    rfl, by decide +kernel⟩, ⟨rfl, rfl, by decide +kernel⟩, ⟨rfl, rfl, by decide +kernel⟩, ?_⟩
  iterate 6 refine ⟨by decide +kernel, ?_⟩
  decide +kernel

theorem witness_Leave :
    (inBand.split k1 c3q10.half = inBand.split k1 c3q10.half ∧ inBand.power.waiting = [c3q9] ∧ leaveUsed inBand.power.grants +
    c3q9.units ≤ inBand.f PGV_STATE.EFF ∧ c3q9.who = Requester.parison ∧ inBand.runs PAR_CTL.ENABLE = true ∧ inBand.par.stripe = some
    k1 ∧ inBand.par.bands = [c3q10] ∧ (inBand.split k1 c3q10.half).bandCols 0 = (inBand.split k1 c3q10.half).bandCols (c3q10.no / max
    1 ((inBand.split k1 c3q10.half).w / 16384))) ∧ (State.reset.power.waiting = [] ∧ c3v11.power.waiting = [c3q1] ∧ c3v11.f
    PGV_STATE.EFF < leaveUsed c3v11.power.grants + c3q1.units ∧ (c3q1.units ≤ c3v11.f PGV_STATE.EFF ∨ leaveUsed c3v11.power.grants ≠
    0)) ∧ (c3v12.power.waiting = [c3q1] ∧ c3q1.who = Requester.coarse ∧ leaveUsed c3v12.power.grants + c3q1.units ≤ c3v12.f
    PGV_STATE.EFF ∧ c3v12.runs GLY_CTL.ENABLE = true) ∧ (oversize.power.waiting = [c3q2] ∧ c3q2.who = Requester.coarse ∧ leaveUsed
    oversize.power.grants = 0 ∧ oversize.f PGV_STATE.EFF < c3q2.units ∧ oversize.runs GLY_CTL.ENABLE = true) ∧ (c3v13.power.waiting =
    [c3q1] ∧ leaveUsed c3v13.power.grants + c3q1.units ≤ c3v13.f PGV_STATE.EFF ∧ c3v13.runs GLY_CTL.ENABLE = false ∧ (leave []
    [c3q1]).power.grants[0]? = some c3q1 ∧ (leave [] [c3q1]).leaveOver c3q1.who = true ∧ pixTile.power.grants[0]? = some c3q3 ∧
    pixTile.leaveOver c3q3.who = false) ∧ ((List.replicate 16 5).length = 16 ∧ 5 ∈ List.replicate 16 5 ∧ (∀ x ∈ List.replicate 16 5, x
    ≤ 5) ∧ -40 ≤ State.reset.fs PGV_THERM.T_START ∧ 90 ≤ 120) ∧ (marver1.power.waiting = [mtile] ∧ leaveUsed marver1.power.grants +
    mtile.units ≤ marver1.f PGV_STATE.EFF ∧ mtile.who = Requester.marver 3 1 ∧ marver1.mslot 3 1 = some c3q4 ∧ marver1.runs
    MRV_CTL.ENABLE = true) ∧ ((pixels true).power.waiting = [c3q3] ∧ leaveUsed (pixels true).power.grants + c3q3.units ≤ (pixels
    true).f PGV_STATE.EFF ∧ c3q3.who = Requester.pixel ∧ (pixels true).runs GLY_CTL.ENABLE = true ∧ (pixels true).glory.tile = some
    c3q5 ∧ (pixels true).glory.pix = some k1 ∧ c3q5.empty = true) ∧ ((pixels false).power.waiting = [c3q3] ∧ leaveUsed (pixels
    false).power.grants + c3q3.units ≤ (pixels false).f PGV_STATE.EFF ∧ (pixels false).runs GLY_CTL.ENABLE = true ∧ (pixels
    false).glory.tile = some c3q6 ∧ (pixels false).glory.pix = some k1 ∧ c3q6.empty = false) ∧ (trains.power.waiting = [c3q7] ∧
    leaveUsed trains.power.grants + c3q7.units ≤ trains.f PGV_STATE.EFF ∧ c3q7.who = Requester.training 1 ∧ 1 < 8 ∧ trains.laneState
    (64 + 1) = 5 ∧ (∃ l ∈ groupLanes 1, trains.laneState l = 1)) ∧ (sages.power.waiting = [c3q8] ∧ leaveUsed sages.power.grants +
    c3q8.units ≤ sages.f PGV_STATE.EFF ∧ c3q8.who = Requester.sage 4 ∧ sages.slot 4 = some ing) := by
  refine ⟨⟨rfl, by decide +kernel⟩, ?_⟩
  iterate 9 refine ⟨by decide +kernel, ?_⟩
  decide +kernel

/-! ## Witnesses: segments, cells, walks, figure code -/

/-- Reset with an ingest in slot 2. -/
def slot2 (g : Ingest) (l : List (Fld × Nat) := []) : State := (st l).setSlot 2 (some g)
def ingT (n : Nat) : Ingest := { ing with total := some n }
def ingG (l : List Nat) (n : Option Nat := none) : Ingest := { ing with total := n, got := l }
def upPort : List (Fld × Nat) := [(ETH_PORT_CFG.EN 0, 1), (ETH_PORT_CFG.ROLE 0, 1), (ETH_WST_TMO.SRV_COUNT, 2)]
/-- The state as a new packet of the example lands. -/
def landed (s : State) (seq : Nat) : State :=
  ((s.grpTouch 4).hbmWrite (slotBase 2 + seq * 8192) [7]).askLeave (.sage 2) (max 1 (s.f SAG_LEAVE.UNITS))
def after1 (g : Ingest) (total seq : Nat) : Ingest := { g with total := some total, got := seq :: g.got, answered := true, timeouts := 0 }
def ing0 : Ingest := ingG [0] (some 8193)
def ing2 : Ingest := ingG [4, 1] (some 50000)
def got31 : Ingest := ingG (List.range 31) (some 253953)
def c4v1 := landed (slot2 ing0 upPort) 1
def c4v2 := landed (slot2 ing upPort) 1
def ingL : Ingest := ingG [6, 5, 4, 0] (some 57345)
def c4v3 := landed (slot2 ingL upPort) 7
def got32 : Ingest := { ingG (List.range 32) (some 262145) with lastAck := 0 }
def pay8 : List Byte := List.replicate 8192 7
/-- The same for a whole packet. -/
def landed8 (s : State) (seq : Nat) : State :=
  ((s.grpTouch 4).hbmWrite (slotBase 2 + seq * 8192) pay8).askLeave (.sage 2) (max 1 (s.f SAG_LEAVE.UNITS))
def c4v4 := landed (slot2 got31 upPort) 31
def gotH : Ingest := { ingG (List.range 31 ++ [32]) (some 270337) with lossSent := [31] }
def c4v5 := landed8 (slot2 gotH upPort) 31
def c4v6 := { ing with tries := 2 }
def c4v7 := slot2 { ing with tries := 2 } [(ETH_PORT_CFG.EN 0, 1), (ETH_PORT_CFG.ROLE 0, 1)]
def ingU : Ingest := { ing with uncovered := true }
def c4v8 := slot2 ing ((ETH_WST_TMO.RETRY, 1) :: upPort)
def ingAns : Ingest := { ing with answered := true }
def c4v9 := slot2 ingAns ((ETH_WST_TMO.RETRY, 2) :: upPort)
def c4v10 := slot2 ing ((ETH_WST_TMO.RETRY, 2) :: upPort)

/-- A job's context 0 is open, Gather enabled and port 0 a storage port. -/
def fetchable : State :=
  st [(GTH_CTL.ENABLE, 1), (GTH_CTX_CFG.OPEN 0, 1), (ETH_PORT_CFG.EN 0, 1), (ETH_PORT_CFG.ROLE 0, 1)]

/-- A directory entry, the top cell and END, in a stored block of the deflate format. -/
def segPlain : List Byte :=
  [1] ++ toLE 2 48 ++ toLE 2 (0xFFFF - 48) ++
    ([0x50000005, 1, 0, 7, 0x10000000, 7, 0, 0, 0, 0, 0x11000000, 0xFF000000].map (toLE 4)).flatten

def segHead : List Byte := toLE 1 1 ++ List.replicate 23 0 ++ toLE 4 53 ++ List.replicate 20 0
def segText : List Byte := gcmText [] (List.replicate 12 0) segPlain
def segBytes : List Byte := segHead ++ segText ++ gcmTag [] (List.replicate 12 0) segHead segText

/-- Slot 2 holds that segment whole, its lane at work, its parser at word p. -/
def ingP (p : Nat) : Ingest :=
  { ing with total := some 117, got := [0], decrypt := true, lane := some 0, parse := { Parse.start with pos := p } }

def parsing (g : Ingest) (l : List (Fld × Nat) := []) : State :=
  let s := slot2 g ([(GTH_CTL.ENABLE, 1), (GTH_POOL_PAGES.PAGES, 262144)] ++ l);
  { s with mem := { s.mem with hbm := wrBytes [] (slotBase 2) segBytes }, gather := { s.gather with free := [(18, 0)] } }

def infl (g : Ingest) : Inflated := (parsing g).inflated 2 g
def noPool : State := let s := parsing (ingP 4); { s with gather := { s.gather with ctxs := s.gather.ctxs } }
/-- The parser over other words of the same length. -/
def plainOf (l : List Nat) : List Byte := [1] ++ toLE 2 48 ++ toLE 2 (0xFFFF - 48) ++ (l.map (toLE 4)).flatten
/-- The same in a block that is not the last: the stream goes on. -/
def cutS (g : Ingest) (w : List Nat) : State :=
  let s := parsing g
  let t := gcmText [] (List.replicate 12 0) ([0] ++ (plainOf w).drop 1)
  { s with mem := { s.mem with hbm := wrBytes [] (slotBase 2) (segHead ++ t ++ gcmTag [] (List.replicate 12 0) segHead t) } }
def cutR (g : Ingest) (w : List Nat) : Inflated := (cutS g w).inflated 2 g
def parsing' (g : Ingest) (w : List Nat) : State :=
  let s := parsing g
  let t := gcmText [] (List.replicate 12 0) (plainOf w)
  { s with mem := { s.mem with hbm := wrBytes [] (slotBase 2) (segHead ++ t ++ gcmTag [] (List.replicate 12 0) segHead t) } }
def infl' (g : Ingest) (w : List Nat) : Inflated := (parsing' g w).inflated 2 g
def wCell5 : List Nat := [0x10000005, 7, 0, 0, 0, 0, 0x11000005, 0xFF000000, 0, 0, 0, 0]
def wShort : List Nat := [0x10000005, 6, 0, 0, 0, 0, 0x11000005, 0xFF000000, 0, 0, 0, 0]
def wTwice : List Nat := [0x10000005, 7, 0, 0, 0, 0, 0x11000005, 0x10000005, 7, 0, 0, 0]
/-- A slot of which the first of two packets is in. -/
def ingPart (p : Nat) : Ingest := { ingP p with total := some 16384, parse := { (ingP p).parse with defs := [(5, 0, 7)] } }
def wBig : List Nat := [0x50000005, 65536, 0, 7, 0x10000000, 7, 0, 0, 0, 0, 0x11000000, 0xFF000000]
def wZero : List Nat := [0x50000005, 0, 0, 7, 0x10000000, 7, 0, 0, 0, 0, 0x11000000, 0xFF000000]
def wTop : List Nat := [0x50000000, 1, 0, 7, 0x10000000, 7, 0, 0, 0, 0, 0x11000000, 0xFF000000]
def ingTop : Ingest := { ingP 11 with parse := { (ingP 11).parse with top := true } }
def wEnd : List Nat := [0x50000005, 1, 0, 7, 0x10000000, 7, 0, 0, 0, 0, 0x11000000, 0xFF000001]
def ingBehind : Ingest := { ingP 11 with parse := { (ingP 11).parse with endAt := some 11 } }
def ingStop : Ingest := { ingP 4 with stopped := true }
def ingOpen (len : Nat) (b : Bool) : Ingest := { ingP 6 with parse := { (ingP 6).parse with cell := some ⟨0, 4, len, b⟩ } }
def openS : State := (parsing (ingOpen 7 true)).modCell 0 0 (fun e => { e with state := .fetching, block := some (9, 0), len := 7 })
def c4v11 := slot2 (ingP 4) [(GTH_CTL.RETRY_MAX, 3)]
def thirdFail : State := (slot2 (ingP 4) [(GTH_CTL.RETRY_MAX, 3), (GTH_CTX_CFG.OPEN 0, 1)]).modCtx 0 (fun x => { x with segFails := [(0, 3)] })

def c4q1 : Ingest := { ctx := ing0.ctx, seg := ing0.seg, session := ing0.session, port := ing0.port, server := ing0.server, tries := ing0.tries, start := ing0.start, total := some 8193, got := 1 :: ing0.got, lastAck := ing0.lastAck, uncovered := ing0.uncovered, lossSent := ing0.lossSent, timeouts := 0, answered := true, decrypt := ing0.decrypt, lane := ing0.lane, verdict := ing0.verdict, stopped := ing0.stopped, inflated := ing0.inflated, err := ing0.err, parse := ing0.parse, held := ing0.held }

def c4q2 : Ingest := { ctx := ing.ctx, seg := ing.seg, session := ing.session, port := ing.port, server := ing.server, tries := ing.tries, start := ing.start, total := some 8193, got := 1 :: ing.got, lastAck := ing.lastAck, uncovered := ing.uncovered, lossSent := ing.lossSent, timeouts := 0, answered := true, decrypt := ing.decrypt, lane := ing.lane, verdict := ing.verdict, stopped := ing.stopped, inflated := ing.inflated, err := ing.err, parse := ing.parse, held := ing.held }

def c4q3 : Ingest := { ctx := ingL.ctx, seg := ingL.seg, session := ingL.session, port := ingL.port, server := ingL.server, tries := ingL.tries, start := ingL.start, total := some 57345, got := 7 :: ingL.got, lastAck := ingL.lastAck, uncovered := ingL.uncovered, lossSent := ingL.lossSent, timeouts := 0, answered := true, decrypt := ingL.decrypt, lane := ingL.lane, verdict := ingL.verdict, stopped := ingL.stopped, inflated := ingL.inflated, err := ingL.err, parse := ingL.parse, held := ingL.held }

def c4q4 : Ingest := { ctx := got31.ctx, seg := got31.seg, session := got31.session, port := got31.port, server := got31.server, tries := got31.tries, start := got31.start, total := some 253953, got := 31 :: got31.got, lastAck := got31.lastAck, uncovered := got31.uncovered, lossSent := got31.lossSent, timeouts := 0, answered := true, decrypt := got31.decrypt, lane := got31.lane, verdict := got31.verdict, stopped := got31.stopped, inflated := got31.inflated, err := got31.err, parse := got31.parse, held := got31.held }

def c4q5 : Ingest := { ctx := gotH.ctx, seg := gotH.seg, session := gotH.session, port := gotH.port, server := gotH.server, tries := gotH.tries, start := gotH.start, total := some 270337, got := 31 :: gotH.got, lastAck := gotH.lastAck, uncovered := gotH.uncovered, lossSent := gotH.lossSent, timeouts := 0, answered := true, decrypt := gotH.decrypt, lane := gotH.lane, verdict := gotH.verdict, stopped := gotH.stopped, inflated := gotH.inflated, err := gotH.err, parse := gotH.parse, held := gotH.held }

def c4q6 : OpenCell := { id := 0, woff := 4, len := 99, inst := false }

def c4q7 : OpenCell := { id := 0, woff := 4, len := 7, inst := false }

def c4q8 : OpenCell := { id := 0, woff := 4, len := 7, inst := true }

theorem witness_SegmentTransport :
    (State.reset.storageUp = false ∧ (st upPort).storageUp = true ∧ (st upPort).slotOf 9 = none) ∧ ((slot2 (ingT 9) upPort).storageUp
    = true ∧ (slot2 (ingT 9) upPort).slotOf 9 = some 2 ∧ (slot2 (ingT 9) upPort).slot 2 = some (ingT 9) ∧ (ingT 9).total = some 9 ∧ 9
    ≠ 1) ∧ ((slot2 ing upPort).storageUp = true ∧ (slot2 ing upPort).slotOf 9 = some 2 ∧ (slot2 ing upPort).slot 2 = some ing ∧
    (ing.total = none ∨ ing.total = some 134217729) ∧ 134217728 < 134217729) ∧ ((ing.total = none ∨ ing.total = some 8193) ∧ 8193 ≤
    134217728 ∧ (8193 ≤ 0 * 8192 ∨ 8192 ≠ min 8192 (8193 - 0 * 8192) ∨ [7].length ≠ 8192) ∧ (ing.total = none ∨ ing.total = some 8192)
    ∧ 8192 ≤ 134217728 ∧ (8192 ≤ 1 * 8192 ∨ 1 ≠ min 8192 (8192 - 1 * 8192) ∨ [7].length ≠ 1)) ∧ ((slot2 (ingG [1]) upPort).storageUp =
    true ∧ (slot2 (ingG [1]) upPort).slotOf 9 = some 2 ∧ (slot2 (ingG [1]) upPort).slot 2 = some (ingG [1]) ∧ ((ingG [1]).total = none
    ∨ (ingG [1]).total = some 8193) ∧ 1 * 8192 < 8193 ∧ 1 = min 8192 (8193 - 1 * 8192) ∧ [7].length = 1 ∧ 1 ∈ (ingG [1]).got) ∧ 1 ∉
    ing.got ∧ ((slot2 ing0 upPort).storageUp = true ∧ (slot2 ing0 upPort).slotOf 9 = some 2 ∧ (slot2 ing0 upPort).slot 2 = some ing0 ∧
    (ing0.total = none ∨ ing0.total = some 8193) ∧ 1 ∉ ing0.got ∧ after1 ing0 8193 1 = c4q1 ∧ (after1 ing0 8193 1).complete = true) ∧
    (after1 ing 8193 1 = c4q2 ∧ (after1 ing 8193 1).complete = false ∧ (after1 ing 8193 1).newlyLost = [] ∧ (after1 ing 8193
    1).ackNext < (after1 ing 8193 1).lastAck + 32) ∧ ((slot2 ingL upPort).storageUp = true ∧ (slot2 ingL upPort).slotOf 9 = some 2 ∧
    (slot2 ingL upPort).slot 2 = some ingL ∧ (ingL.total = none ∨ ingL.total = some 57345) ∧ 57345 ≤ 134217728 ∧ 7 * 8192 < 57345 ∧ 1
    = min 8192 (57345 - 7 * 8192) ∧ 7 ∉ ingL.got) ∧ (after1 ingL 57345 7 = c4q3 ∧ (after1 ingL 57345 7).complete = false ∧ (after1
    ingL 57345 7).newlyLost ≠ []) ∧ ((slot2 got31 upPort).storageUp = true ∧ (slot2 got31 upPort).slotOf 9 = some 2 ∧ (slot2 got31
    upPort).slot 2 = some got31 ∧ (got31.total = none ∨ got31.total = some 253953) ∧ 253953 ≤ 134217728 ∧ 31 * 8192 < 253953 ∧ 1 = min
    8192 (253953 - 31 * 8192) ∧ 31 ∉ got31.got ∧ after1 got31 253953 31 = c4q4 ∧ (after1 got31 253953 31).complete = true) ∧ ((slot2
    gotH upPort).storageUp = true ∧ (slot2 gotH upPort).slotOf 9 = some 2 ∧ (slot2 gotH upPort).slot 2 = some gotH ∧ (gotH.total =
    none ∨ gotH.total = some 270337) ∧ 270337 ≤ 134217728 ∧ 31 * 8192 < 270337 ∧ 8192 = min 8192 (270337 - 31 * 8192) ∧ pay8.length =
    8192) ∧ (31 ∉ gotH.got ∧ after1 gotH 270337 31 = c4q5 ∧ (after1 gotH 270337 31).complete = false ∧ (after1 gotH 270337
    31).newlyLost = [] ∧ (after1 gotH 270337 31).lastAck + 32 ≤ (after1 gotH 270337 31).ackNext ∧ ing.complete = false ∧ ing.tries < 2
    * (slot2 ing upPort).servers) ∧ (c4v7.storageUp = true ∧ c4v7.slotOf 9 = some 2 ∧ c4v7.slot 2 = some c4v6 ∧ c4v6.complete = false
    ∧ 2 * c4v7.servers ≤ c4v6.tries ∧ (slot2 ingU upPort).slot 2 = some ingU ∧ ingU.uncovered = true) ∧ (ing.uncovered = false ∧
    (slot2 (ingT 0) upPort).slot 2 = some (ingT 0) ∧ (ingT 0).complete = true ∧ c4v8.slot 2 = some ing ∧ max 1 (c4v8.f
    ETH_WST_TMO.RETRY) ≤ ing.timeouts + 1) ∧ (c4v9.slot 2 = some ingAns ∧ ingAns.complete = false ∧ ingAns.timeouts + 1 < max 1
    (c4v9.f ETH_WST_TMO.RETRY) ∧ ingAns.answered = true ∧ c4v10.slot 2 = some ing ∧ ing.timeouts + 1 < max 1 (c4v10.f
    ETH_WST_TMO.RETRY) ∧ ing.answered = false) ∧ (((slot2 ing).slot 2).isSome = true ∧ (slot2 ing).storageOn ing.port = false ∧
    ((slot2 ing upPort).slot 2).isSome = true ∧ (slot2 ing upPort).storageOn ing.port = true ∧ (slot2 ing upPort).portHeld ing.port =
    false) := by
  iterate 16 refine ⟨by decide +kernel, ?_⟩
  decide +kernel

theorem witness_SegmentInstall :
    ((parsing (ingP 4)).inflated 2 (ingP 4) = infl (ingP 4) ∧ (parsing (ingP 4)).slot 2 = some (ingP 4) ∧ 4 = skipNops (infl (ingP
    4)).out ((infl (ingP 4)).out.length / 4 + 1) (ingP 4).parse.pos ∧ (ingP 4).parse.ended = false ∧ (ingP 4).parse.endAt = none ∧
    (ingP 4).parse.cell = none ∧ haveWord (infl (ingP 4)).out 4 = true ∧ wordAt (infl (ingP 4)).out 4 = 268435456) ∧ ((parsing' (ingP
    0) wCell5).inflated 2 (ingP 0) = infl' (ingP 0) wCell5 ∧ (parsing' (ingP 0) wCell5).slot 2 = some (ingP 0) ∧ 0 = skipNops (infl'
    (ingP 0) wCell5).out ((infl' (ingP 0) wCell5).out.length / 4 + 1) (ingP 0).parse.pos ∧ (ingP 0).parse.ended = false ∧ (ingP
    0).parse.endAt = none ∧ (ingP 0).parse.cell = none ∧ haveWord (infl' (ingP 0) wCell5).out 0 = true ∧ wordAt (infl' (ingP 0)
    wCell5).out 0 = 268435461) ∧ ((parsing' (ingP 0) wShort).inflated 2 (ingP 0) = infl' (ingP 0) wShort ∧ (parsing' (ingP 0)
    wShort).slot 2 = some (ingP 0) ∧ 0 = skipNops (infl' (ingP 0) wShort).out ((infl' (ingP 0) wShort).out.length / 4 + 1) (ingP
    0).parse.pos ∧ haveWord (infl' (ingP 0) wShort).out 0 = true ∧ wordAt (infl' (ingP 0) wShort).out 0 = 268435461 ∧ (parsing' (ingP
    0) wShort).runs GTH_CTL.ENABLE = true ∧ (parsing' (ingP 0) wShort).nopRefs (ingP 0) 0 (infl' (ingP 0) wShort).out = none ∧
    haveWord (infl' (ingP 0) wShort).out (0 + 1) = true ∧ 268435461 / 2 ^ 24 = 16 ∧ wordAt (infl' (ingP 0) wShort).out (0 + 1) % 2 ^
    24 < 7) ∧ ((cutS (ingPart 7) wTwice).inflated 2 (ingPart 7) = cutR (ingPart 7) wTwice ∧ (cutS (ingPart 7) wTwice).slot 2 = some
    (ingPart 7) ∧ 7 = skipNops (cutR (ingPart 7) wTwice).out ((cutR (ingPart 7) wTwice).out.length / 4 + 1) (ingPart 7).parse.pos ∧
    (ingPart 7).parse.ended = false ∧ (ingPart 7).parse.endAt = none ∧ (ingPart 7).parse.cell = none ∧ haveWord (cutR (ingPart 7)
    wTwice).out 7 = true ∧ wordAt (cutR (ingPart 7) wTwice).out 7 = 268435461) ∧ ((parsing (ingP 6)).inflated 2 (ingP 6) = infl (ingP
    6) ∧ (parsing (ingP 6)).slot 2 = some (ingP 6) ∧ 6 = skipNops (infl (ingP 6)).out ((infl (ingP 6)).out.length / 4 + 1) (ingP
    6).parse.pos ∧ (ingP 6).parse.ended = false ∧ (ingP 6).parse.endAt = none ∧ (ingP 6).parse.cell = none ∧ haveWord (infl (ingP
    6)).out 6 = true ∧ wordAt (infl (ingP 6)).out 6 = 0) ∧ ((parsing (ingP 0)).inflated 2 (ingP 0) = infl (ingP 0) ∧ (parsing (ingP
    0)).slot 2 = some (ingP 0) ∧ 0 = skipNops (infl (ingP 0)).out ((infl (ingP 0)).out.length / 4 + 1) (ingP 0).parse.pos ∧ haveWord
    (infl (ingP 0)).out 0 = true ∧ wordAt (infl (ingP 0)).out 0 = 1342177285 ∧ 1342177285 = 1342177280 + 5 ∧ haveWord (infl (ingP
    0)).out (0 + 3) = true ∧ (ingP 0).seg = 0) ∧ ((parsing' (ingP 0) wBig).inflated 2 (ingP 0) = infl' (ingP 0) wBig ∧ (parsing' (ingP
    0) wBig).slot 2 = some (ingP 0) ∧ 0 = skipNops (infl' (ingP 0) wBig).out ((infl' (ingP 0) wBig).out.length / 4 + 1) (ingP
    0).parse.pos ∧ haveWord (infl' (ingP 0) wBig).out 0 = true ∧ wordAt (infl' (ingP 0) wBig).out 0 = 1342177285 ∧ haveWord (infl'
    (ingP 0) wBig).out (0 + 3) = true ∧ 2 ^ 16 ≤ wordAt (infl' (ingP 0) wBig).out (0 + 1)) ∧ ((parsing' (ingP 0) wTop).inflated 2
    (ingP 0) = infl' (ingP 0) wTop ∧ (parsing' (ingP 0) wTop).slot 2 = some (ingP 0) ∧ 0 = skipNops (infl' (ingP 0) wTop).out ((infl'
    (ingP 0) wTop).out.length / 4 + 1) (ingP 0).parse.pos ∧ haveWord (infl' (ingP 0) wTop).out 0 = true ∧ wordAt (infl' (ingP 0)
    wTop).out 0 = 1342177280 ∧ 1342177280 = 1342177280 + 0 ∧ haveWord (infl' (ingP 0) wTop).out (0 + 3) = true ∧ wordAt (infl' (ingP
    0) wTop).out (0 + 1) < 2 ^ 16) ∧ ((parsing' (ingP 0) wZero).inflated 2 (ingP 0) = infl' (ingP 0) wZero ∧ (parsing' (ingP 0)
    wZero).slot 2 = some (ingP 0) ∧ 0 = skipNops (infl' (ingP 0) wZero).out ((infl' (ingP 0) wZero).out.length / 4 + 1) (ingP
    0).parse.pos ∧ haveWord (infl' (ingP 0) wZero).out 0 = true ∧ wordAt (infl' (ingP 0) wZero).out 0 = 1342177285 ∧ haveWord (infl'
    (ingP 0) wZero).out (0 + 3) = true ∧ wordAt (infl' (ingP 0) wZero).out (0 + 1) < 2 ^ 16 ∧ wordAt (infl' (ingP 0) wZero).out (0 +
    2) < 2 ^ 24 ∧ wordAt (infl' (ingP 0) wZero).out (0 + 3) < 2 ^ 24 ∧ wordAt (infl' (ingP 0) wZero).out (0 + 1) = 0) ∧ ((parsing
    ingTop).inflated 2 ingTop = infl ingTop ∧ (parsing ingTop).slot 2 = some ingTop ∧ 11 = skipNops (infl ingTop).out ((infl
    ingTop).out.length / 4 + 1) ingTop.parse.pos ∧ ingTop.parse.ended = false ∧ ingTop.parse.endAt = none ∧ ingTop.parse.cell = none ∧
    haveWord (infl ingTop).out 11 = true ∧ wordAt (infl ingTop).out 11 = 4278190080) ∧ (4278190080 = 4278190080 ∧ haveWord (infl
    ingTop).out (11 + 1) = false ∧ (parsing ingTop).endChecks ingTop (infl ingTop) 11 = none) ∧ ((parsing (ingP 11)).inflated 2 (ingP
    11) = infl (ingP 11) ∧ (parsing (ingP 11)).slot 2 = some (ingP 11) ∧ 11 = skipNops (infl (ingP 11)).out ((infl (ingP
    11)).out.length / 4 + 1) (ingP 11).parse.pos ∧ (ingP 11).parse.ended = false ∧ (ingP 11).parse.endAt = none ∧ (ingP 11).parse.cell
    = none ∧ haveWord (infl (ingP 11)).out 11 = true ∧ wordAt (infl (ingP 11)).out 11 = 4278190080 ∧ (ingP 11).seg = 0 ∧ (ingP
    11).parse.top = false) ∧ ((parsing' (ingP 11) wEnd).inflated 2 (ingP 11) = infl' (ingP 11) wEnd ∧ (parsing' (ingP 11) wEnd).slot 2
    = some (ingP 11) ∧ 11 = skipNops (infl' (ingP 11) wEnd).out ((infl' (ingP 11) wEnd).out.length / 4 + 1) (ingP 11).parse.pos ∧
    haveWord (infl' (ingP 11) wEnd).out 11 = true ∧ wordAt (infl' (ingP 11) wEnd).out 11 = 4278190081 ∧ 4278190081 / 2 ^ 24 = 255 ∧
    4278190081 ≠ 4278190080) ∧ ((parsing (ingP 4)).install 2 (ingP 4) 0 4 7 false = (parsing (ingP 4)).install 2 (ingP 4) 0 4 7 false
    ∧ (ingP 4).ctx < (parsing (ingP 4)).gather.ctxs.length ∧ takeBlock (parsing (ingP 4)).gather.free (orderFor 7) = some (0,
    (takeBlock (parsing (ingP 4)).gather.free 0).get!.2) ∧ (parsing ingStop).slot 2 = some ingStop ∧ ingStop.stopped = true ∧
    ingStop.parse.ended = false ∧ (ingP 4).stopped = false) ∧ (fetchable.runs GTH_CTL.ENABLE = true ∧ fetchable.f EVJ_STATUS.SAFE ≠ 1
    ∧ fetchable.freeSlot = some 0 ∧ fetchable.nextFetch = some (0, 0) ∧ fetchable.storagePort = some 0 ∧ 0 <
    fetchable.gather.slots.length ∧ fetchable.portHeld 0 = false) ∧ ((State.reset.runs GTH_CTL.ENABLE = false ∨ State.reset.f
    EVJ_STATUS.SAFE = 1 ∨ State.reset.freeSlot = none ∨ State.reset.nextFetch = none ∨ State.reset.storagePort = none)) ∧ ((parsing
    (ingP 4)).runs GTH_CTL.ENABLE = true ∧ (parsing (ingP 4)).nopRefs (ingP 4) 4 (infl (ingP 4)).out = none ∧ haveWord (infl (ingP
    4)).out (4 + 1) = true ∧ 268435456 = 268435456 + 0 ∧ 0 < 2 ^ 24 ∧ 7 = wordAt (infl (ingP 4)).out (4 + 1) % 2 ^ 24 ∧ 7 ≤ 7 ∧ ((infl
    (ingP 4)).fin = InfEnd.done ∨ (infl (ingP 4)).fin = InfEnd.inStop ∧ (ingP 4).complete = true → 4 + 7 ≤ bodyWords (infl (ingP
    4)).out)) ∧ (mget (ingP 4).parse.defs 0 = none ∧ ((ingP 4).seg ≠ 0 ∧ ((parsing (ingP 4)).cell (ingP 4).ctx 0).listed = true ∧
    ((parsing (ingP 4)).cell (ingP 4).ctx 0).seg = (ingP 4).seg ∧ ((parsing (ingP 4)).cell (ingP 4).ctx 0).woff = 4 ∧ ((parsing (ingP
    4)).cell (ingP 4).ctx 0).len = 7 ∨ (ingP 4).seg = 0 ∧ ((parsing (ingP 4)).cell (ingP 4).ctx 0).listed = false ∧ mget (ingP
    4).parse.refs 0 = none ∧ (((parsing (ingP 4)).cell (ingP 4).ctx 0).defined = true → ((parsing (ingP 4)).cell (ingP 4).ctx 0).seg =
    0)) ∧ (parsing (ingP 4)).badRefs (ingP 4).ctx (ingP 4).seg 4 (4 + 1) (infl (ingP 4)).out = [] ∧ (parsing (ingP 4)).installs (ingP
    4).ctx 0 7 = (true, false)) ∧ ((parsing' (ingP 0) wCell5).runs GTH_CTL.ENABLE = true ∧ (parsing' (ingP 0) wCell5).nopRefs (ingP 0)
    0 (infl' (ingP 0) wCell5).out = none ∧ haveWord (infl' (ingP 0) wCell5).out (0 + 1) = true ∧ 268435461 = 268435456 + 5 ∧ 5 < 2 ^
    24 ∧ 7 = wordAt (infl' (ingP 0) wCell5).out (0 + 1) % 2 ^ 24 ∧ ((infl' (ingP 0) wCell5).fin = InfEnd.done ∨ (infl' (ingP 0)
    wCell5).fin = InfEnd.inStop ∧ (ingP 0).complete = true → 0 + 7 ≤ bodyWords (infl' (ingP 0) wCell5).out) ∧ mget (ingP 0).parse.defs
    5 = none) ∧ (((ingP 0).seg ≠ 0 ∧ ((parsing' (ingP 0) wCell5).cell (ingP 0).ctx 5).listed = true ∧ ((parsing' (ingP 0) wCell5).cell
    (ingP 0).ctx 5).seg = (ingP 0).seg ∧ ((parsing' (ingP 0) wCell5).cell (ingP 0).ctx 5).woff = 0 ∧ ((parsing' (ingP 0) wCell5).cell
    (ingP 0).ctx 5).len = 7 ∨ (ingP 0).seg = 0 ∧ ((parsing' (ingP 0) wCell5).cell (ingP 0).ctx 5).listed = false ∧ mget (ingP
    0).parse.refs 5 = none ∧ (((parsing' (ingP 0) wCell5).cell (ingP 0).ctx 5).defined = true → ((parsing' (ingP 0) wCell5).cell (ingP
    0).ctx 5).seg = 0)) ∧ (parsing' (ingP 0) wCell5).badRefs (ingP 0).ctx (ingP 0).seg 0 (0 + 1) (infl' (ingP 0) wCell5).out = [] ∧
    (parsing' (ingP 0) wCell5).installs (ingP 0).ctx 5 7 = (false, false)) ∧ ((cutS (ingPart 7) wTwice).runs GTH_CTL.ENABLE = true ∧
    (cutS (ingPart 7) wTwice).nopRefs (ingPart 7) 7 (cutR (ingPart 7) wTwice).out = none ∧ haveWord (cutR (ingPart 7) wTwice).out (7 +
    1) = true ∧ 7 ≤ wordAt (cutR (ingPart 7) wTwice).out (7 + 1) % 2 ^ 24 ∧ (cutR (ingPart 7) wTwice).fin ≠ InfEnd.done ∧ ((cutR
    (ingPart 7) wTwice).fin = InfEnd.inStop → (ingPart 7).complete = false) ∧ (mget (ingPart 7).parse.defs (268435461 % 2 ^
    24)).isSome = true) ∧ ((parsing (ingP 6)).runs GTH_CTL.ENABLE = true ∧ (parsing (ingP 6)).nopRefs (ingP 6) 6 (infl (ingP 6)).out =
    none ∧ haveWord (infl (ingP 6)).out (6 + headWords 0 - 1) = true ∧ 0 / 2 ^ 24 ≠ 16 ∧ 0 / 2 ^ 24 ≠ 255 ∧ (0 / 2 ^ 24 ≠ 80 ∨ (ingP
    6).seg ≠ 0 ∨ (ingP 6).parse.begun = true)) ∧ ((ingP 0).parse.begun = false ∧ wordAt (infl (ingP 0)).out (0 + 1) < 2 ^ 16 ∧ wordAt
    (infl (ingP 0)).out (0 + 2) < 2 ^ 24 ∧ wordAt (infl (ingP 0)).out (0 + 3) < 2 ^ 24 ∧ 5 ≠ 0 ∧ mget (ingP 0).parse.refs 5 = none ∧
    wordAt (infl (ingP 0)).out (0 + 1) ≠ 0) ∧ (wordAt (infl' (ingP 0) wTop).out (0 + 2) < 2 ^ 24 ∧ wordAt (infl' (ingP 0) wTop).out (0
    + 3) < 2 ^ 24 ∧ (0 = 0 ∨ (mget (ingP 0).parse.refs 0).isSome = true)) ∧ ((parsing ingBehind).slot 2 = some ingBehind ∧ (parsing
    ingBehind).runs GTH_CTL.ENABLE = true ∧ ingBehind.parse.cell = none ∧ ingBehind.parse.endAt = some 11 ∧ haveWord ((parsing
    ingBehind).inflated 2 ingBehind).out 11 = true ∧ (ingP 4).verdict = none ∧ (ingP 4).held = none) ∧ ((parsing (ingOpen 99
    false)).slot 2 = some (ingOpen 99 false) ∧ (ingOpen 99 false).parse.cell = some c4q6 ∧ haveWord ((parsing (ingOpen 99
    false)).inflated 2 (ingOpen 99 false)).out (c4q6.woff + c4q6.len - 1) = false) ∧ ((parsing (ingOpen 7 false)).slot 2 = some
    (ingOpen 7 false) ∧ (ingOpen 7 false).parse.cell = some c4q7 ∧ haveWord ((parsing (ingOpen 7 false)).inflated 2 (ingOpen 7
    false)).out (c4q7.woff + c4q7.len - 1) = true ∧ ((ingOpen 7 false).seg = 0 ∨ (parsing (ingOpen 7 false)).badRefs (ingOpen 7
    false).ctx (ingOpen 7 false).seg (c4q7.woff + 1) (c4q7.woff + c4q7.len) ((parsing (ingOpen 7 false)).inflated 2 (ingOpen 7
    false)).out = []) ∧ c4q7.inst = false) ∧ (openS.slot 2 = some (ingOpen 7 true) ∧ (ingOpen 7 true).parse.cell = some c4q8 ∧
    haveWord (openS.inflated 2 (ingOpen 7 true)).out (c4q8.woff + c4q8.len - 1) = true ∧ ((ingOpen 7 true).seg = 0 ∨ openS.badRefs
    (ingOpen 7 true).ctx (ingOpen 7 true).seg (c4q8.woff + 1) (c4q8.woff + c4q8.len) (openS.inflated 2 (ingOpen 7 true)).out = []) ∧
    c4q8.inst = true ∧ (openS.cell (ingOpen 7 true).ctx c4q8.id).block = some (9, 0)) ∧ ((ingP 4).complete = true ∧ (ingP 4).decrypt =
    true ∧ (parsing (ingP 4)).segmentOk 2 (ingP 4) = true ∧ c4v11.slot 2 = some (ingP 4) ∧ c4v11.segmentOk 2 (ingP 4) = false ∧ mnat
    (c4v11.ctx (ingP 4).ctx).segFails (ingP 4).seg + 1 ≤ max 1 (c4v11.f GTH_CTL.RETRY_MAX) ∧ (ingP 4).ctx < c4v11.gather.ctxs.length)
    ∧ (thirdFail.slot 2 = some (ingP 4) ∧ thirdFail.segmentOk 2 (ingP 4) = false ∧ max 1 (thirdFail.f GTH_CTL.RETRY_MAX) < mnat
    (thirdFail.ctx (ingP 4).ctx).segFails (ingP 4).seg + 1 ∧ (ingP 4).ctx < thirdFail.gather.ctxs.length ∧ thirdFail.ctxOpen (ingP
    4).ctx = true ∧ (thirdFail.ctx (ingP 4).ctx).halt = none) := by
  refine ⟨⟨rfl, by decide +kernel⟩, ⟨rfl, by decide +kernel⟩, ⟨rfl, by decide +kernel⟩, ⟨rfl, by decide +kernel⟩, ⟨rfl,
    by decide +kernel⟩, ⟨rfl, by decide +kernel⟩, ⟨rfl, by decide +kernel⟩, ⟨rfl, by decide +kernel⟩, ⟨rfl, by decide +kernel⟩, ⟨rfl,
    by decide +kernel⟩, ⟨rfl, by decide +kernel⟩, ⟨rfl, by decide +kernel⟩, ⟨rfl, by decide +kernel⟩, ⟨rfl, by decide +kernel⟩, ?_⟩
  iterate 15 refine ⟨by decide +kernel, ?_⟩
  decide +kernel

/-- Context 0 whose job ends with stripe n, d being its last DONE. -/
def ends (n d : Nat) : State :=
  (st [(GTH_CTX_CFG.OPEN 0, 1)]).modCtx 0 (fun x => { x with endAfter := some n, lastDone := some d })
def c5v1 := st [(GTH_POOL_PAGES.PAGES, 262144)]
/-- A sweep of k1. -/
def sweep1 : Sweep := Sweep.start k1

/-- The dispatcher enabled over sweeps, the directory of context 0 executed. -/
def dispatch (l : List Sweep) (f : List (Fld × Nat)) : State :=
  let s := (st ((BLP_CTL.ENABLE, 1) :: f)).modCtx 0 (fun x => { x with dirDone := true });
  { s with blow := { s.blow with sweeps := l } }
def late1 : Sweep := { sweep1 with dEnded := 4000, dStarted := 4000 }
def far1 : Sweep := { sweep1 with rStarted := 128 }
def c5v2 := dispatch [late1] [(MRV_CTL.ENABLE, 1)]
def c5v3 := dispatch [sweep1] [(MRV_CTL.ENABLE, 1)]
/-- The words of a cell 5 with a box. -/
def child : List Nat := [0x10000005, 7, 0, 0, 64, 64, 0x11000005]

/-- A cell of context 0 whose words lie in page p of the pool, with the check word of the page that `child` fills. -/
def cellAt (s : State) (id p : Nat) (l : List Nat) : State :=
  let b := (l.map (toLE 4)).flatten;
  let m := wrBytes (wrBytes s.mem.hbm (s.pageAddr p) b) (s.checkAddr p) (toLE 4 794343451);
  ({ s with mem := { s.mem with hbm := m } }).modCell 0 id (fun _ =>
    { Cell.empty with state := .resident, block := some (p, 0), len := l.length, defined := true })
def w00 : Walk := newWalk false k1 0 0 0 0 0
def topIn (s : State) : State := cellAt s 0 0 [0x10000000, 7, 0, 0, 64, 64, 0x11000000]
def c5v4 := topIn (dispatch [sweep1] [])
/-- A level in cell 0 at a word, CELL_BEGIN executed. -/
def lev (woff : Nat) : Level := { topLevel with woff := woff, box := some (-100, -100, 20000, 20000) }

/-- A ready walk of tile (0, 0) that has read the given words of page 0. -/
def walk1 (st : List Level) (l : List Nat := []) : Walk := { newWalk false k1 0 0 0 0 0 with stack := st, pages := [(0, l)] }

/-- Walk context 3 in a cell of the given words. -/
def site (t : Walk) (l : List Nat) : State := (cellAt State.reset 0 0 l).setWalk 3 (some t)
def wCell : Walk := { walk1 [lev 0] with state := .waitCell, want := some 0 }
def wQueue : Walk := { walk1 [lev 0] with state := .waitQueue }
def wStart : Walk := { walk1 [lev 0] with pages := [] }
def c5v5 := State.reset.setWalk 3 (some wCell)
def c5v6 := State.reset.setWalk 3 (some wStart)

/-- A walk at word 0 of cell 0, in or before its box. -/
def here (l : List Nat) : State := site (walk1 [lev 0] l) l
def before (l : List Nat) : State := site (walk1 [topLevel] l) l
def w0 (l : List Nat) : Walk := walk1 [lev 0] l
def wB (l : List Nat) : Walk := walk1 [topLevel] l
def box1 : List Nat := [0x10000000, 7, 0, 0, 5, 5]
def box2 : List Nat := [0x10000000, 7, 6, 0, 5, 5]
def pad (h : Nat) : List Nat := [h, 0]
def w2 : Walk := walk1 [lev 0, lev 4] [0x11000000]

/-- The callers of cell 5. -/
def calls (l : List Nat) : State := cellAt (here (l ++ [0])) 5 1 child
def wC (l : List Nat) : Walk := w0 (l ++ [0])
def callW (dx : Nat) : List Nat := [0x20000005, 0, dx, 0]
def arrayW : List Nat := [0x21000005, 0, 2 + 3 * 65536, 0, 0, 100, 0, 0, 100]
def array5 : ArrayIter := { cell := 5, orient := 0, dx := 0, dy := 0, ax := 100, ay := 0, bx := 0, byy := 100, todo := [] }
def noCell : State := (here (callW 0 ++ [0])).modCtx 0 (fun x => { x with seg0Done := true })
def deepW : Walk := walk1 (lev 0 :: List.replicate 31 (lev 0)) (callW 0)
def deep : State := (calls (callW 0)).setWalk 3 (some deepW)
def notIn : State := (calls (callW 0)).modCell 0 5 (fun e => { e with state := .absent })
def badPage : State := (calls (callW 0)).modCell 0 5 (fun e => { e with block := none })
def uOf (s : State) : State := s.modCell 0 5 (fun e => { e with fails := 0 })
def c5v7 := uOf (calls (callW 0x7FFFFFFF))
def c5v8 := arrayHits (wC arrayW) (lev 0) array5 ((calls arrayW).cellBox 0 5) 2 3

/-- Words of a figure's points. -/
def rectW (x0 y0 x1 y1 : Nat) : List Nat := [0x30000000, x0, y0, x1, y1, 0]
def xtrapW (l : List Nat) : List Nat := 0x31000000 :: l ++ [0]
def ytrapW (l : List Nat) : List Nat := 0x32000000 :: l ++ [0]
def polyW (l : List Nat) : List Nat := (0x33000000 + l.length / 2) :: l ++ [0]
/-- A level placed at the end of the coordinate range. -/
def levFar : Level := { lev 0 with dx := 0x7FFFFFFF }
def wFar : Walk := walk1 [levFar] (rectW 1 0 2 128)
def c5v9 := site wFar (rectW 1 0 2 128)
def c5v10 := here (rectW 20001 0 20002 128)
def c5v11 := here (xtrapW [0, 64, 0, 64, 5, 5])
def c5v12 := here (xtrapW [64, 0, 0, 64, 5, 5])
def c5v13 := here (ytrapW [0, 64, 0, 64, 5, 5])
def c5v14 := here (ytrapW [0, 64, 0, 64, 6, 5])
def c5v15 := here (polyW [0, 0, 9, 0, 9, 9, 0, 9])
def c5v16 := here (polyW [0, 0, 9, 9, 9, 0, 0, 9])

def c5q1 : ArrayIter := { cell := 5, orient := (wC arrayW).word ((lev 0).woff + 1), dx := (wC arrayW).arg (lev 0) 3, dy := (wC arrayW).arg (lev 0) 4, ax := (wC arrayW).arg (lev 0) 5, ay := (wC arrayW).arg (lev 0) 6, bx := (wC arrayW).arg (lev 0) 7, byy := (wC arrayW).arg (lev 0) 8, todo := [] }

/-- The CRC-32C register over bytes, its value known before each byte. -/
def crcRun : List Byte → Nat → Nat
  | [], c => c
  | b :: l, 0 => crcRun l (crcByte 0x82F63B78 0 b)
  | b :: l, c + 1 => crcRun l (crcByte 0x82F63B78 (c + 1) b)

theorem crcRun_foldl (l : List Byte) (c : Nat) : crcRun l c = l.foldl (crcByte 0x82F63B78) c := by
  induction l generalizing c with
  | nil => rfl
  | cons b l ih => cases c <;> simp only [crcRun, List.foldl_cons, ih]

theorem crc_step {l r : List Byte} {a b c : Nat} (h : crcRun l a = b) (h' : crcRun r b = c) : crcRun (l ++ r) a = c := by
  rw [crcRun_foldl] at h h' ⊢; rw [List.foldl_append, h, h']

theorem crc_run {l : List Byte} {a c : Nat} (h : crcRun l 0xFFFFFFFF = a) (h' : a.xor 0xFFFFFFFF = c) : crc32c l = c := by
  rw [crcRun_foldl] at h; unfold crc32c; rw [h, h']

/-- The page that `child` fills. -/
def childPage : List Byte := (child.map (toLE 4)).flatten ++ (List.replicate 38 0 ++ (List.replicate 38 0 ++ (List.replicate 38 0 ++
    (List.replicate 38 0 ++ (List.replicate 38 0 ++ (List.replicate 38 0 ++ []))))))

theorem childPage_check : crc32c childPage = 794343451 :=
  crc_run (a := 3500623844) (crc_step (b := 3524756546) (by decide +kernel) (crc_step (b := 3466184638) (by decide +kernel)
    (crc_step (b := 1398534175) (by decide +kernel) (crc_step (b := 3143950275) (by decide +kernel)
    (crc_step (b := 1259891412) (by decide +kernel) (crc_step (b := 3922977760) (by decide +kernel)
    (crc_step (b := 3500623844) (by decide +kernel) rfl))))))) (by decide +kernel)

/-- A page that holds `child` and its check word is good. -/
theorem pageOk_child {s : State} {id p n : Nat} {x : Nat}
    (h : (s.cell 0 id).block = some (p, x) ∧ s.hbmBad (s.pageAddr (p + n)) 256 = false ∧ s.hbmBad (s.checkAddr (p + n)) 4 = false ∧
      s.hbmRead (s.pageAddr (p + n)) 256 = childPage ∧ s.hbmLE (s.checkAddr (p + n)) 4 = 794343451) : s.pageOk 0 id n = true := by
  simp [State.pageOk, h, childPage_check]

theorem offsets_met : ∀ i < 2, ∀ j < 3,
    placeInRange (lev 0) array5.orient (array5.offset i j) ((calls arrayW).cellBox (wC arrayW).ctx 5) = true ∧
      placeInBox (lev 0) array5.orient (array5.offset i j) ((calls arrayW).cellBox (wC arrayW).ctx 5) = true := by decide +kernel

theorem witness_CacheAndWalks :
    ((site wStart child).pageOk wStart.ctx (lev 0).cell 0 = true ∧ (site wStart child).walk 3 = some wStart ∧ ((site wStart
    child).cell wStart.ctx (lev 0).cell).state = CellState.resident ∧ (site wStart child).pageNeeded wStart = some 0) ∧ (2 ^ 24 ≤ 2 ^
    24 ∧ State.reset.gather.ctxs.length = 2 ∧ (2164260869 : Word).toNat / 2 ^ 31 % 2 = 1 ∧ (5 : Word).toNat / 2 ^ 31 % 2 = 0) ∧
    (((ends 3 3).ctx 0).endAfter = some 3 ∧ ((ends 3 3).ctx 0).lastDone = some 3 ∧ (ends 3 3).ctxOpen 0 = true ∧ ((ends 3 3).ctx
    0).halt = none ∧ 3 ≤ 3) ∧ (((ends 3 2).ctx 0).endAfter = some 3 ∧ ((ends 3 2).ctx 0).lastDone = some 2 ∧ (ends 3 2).ctxOpen 0 =
    true ∧ ((ends 3 2).ctx 0).halt = none ∧ 2 < 3 ∧ (ends 3 2).gather.ctxs.length = 2 ∧ (ends 3 2).sage.jobKeys.length = 2) ∧ ((0 :
    Word).toNat % 2 = 0 ∧ c5v1.ctxOpen 0 = false ∧ c5v1.ctxOpen 1 = false ∧ (1298 : Word).toNat % 2 = 0 ∧ ((ends 3 2).ctxOpen 0 = true
    ∨ (ends 3 2).ctxOpen 1 = true)) ∧ (c5v2.runs BLP_CTL.ENABLE = true ∧ bit (c5v2.f BLP_CTL.ENGINE_EN) (3 / 4) = true ∧ c5v2.walk 3 =
    none ∧ c5v2.rasterSweep = some late1 ∧ c5v2.rasterDue late1 = true ∧ c5v2.assign = some (0, 0)) ∧ (c5v3.runs BLP_CTL.ENABLE = true
    ∧ bit (c5v3.f BLP_CTL.ENGINE_EN) (3 / 4) = true ∧ c5v3.walk 3 = none ∧ (c5v3.rasterSweep = none ∨ (∃ r, c5v3.rasterSweep = some r
    ∧ c5v3.rasterDue r = false) ∨ c5v3.assign = none) ∧ c5v3.densitySweep = some sweep1) ∧ ((dispatch [far1] []).runs BLP_CTL.ENABLE =
    true ∧ bit ((dispatch [far1] []).f BLP_CTL.ENGINE_EN) (3 / 4) = true ∧ (dispatch [far1] []).walk 3 = none ∧ ((dispatch [far1]
    []).rasterSweep = none ∨ (∃ r, (dispatch [far1] []).rasterSweep = some r ∧ (dispatch [far1] []).rasterDue r = false) ∨ (dispatch
    [far1] []).assign = none) ∧ (dispatch [far1] []).densitySweep = some far1) ∧ ((dispatch [] []).runs BLP_CTL.ENABLE = true ∧ bit
    ((dispatch [] []).f BLP_CTL.ENGINE_EN) (3 / 4) = true ∧ (dispatch [] []).walk 3 = none ∧ ((dispatch [] []).rasterSweep = none ∨
    (dispatch [] []).assign = none) ∧ (dispatch [] []).densitySweep = none ∧ c5v4.blow.walks.length = 32 ∧ (c5v4.cell
    sweep1.stripe.ctx 0).state = CellState.resident) ∧ ((site wCell [1]).walk 3 = some wCell ∧ wCell.state = WalkState.waitCell ∧
    wCell.want = some 0 ∧ ((site wCell [1]).cell wCell.ctx 0).state = CellState.resident ∧ c5v5.walk 3 = some wCell ∧ (c5v5.cell
    wCell.ctx 0).state ≠ CellState.resident ∧ (c5v5.ctx wCell.ctx).seg0Done = false) ∧ ((site wQueue [1]).walk 3 = some wQueue ∧
    wQueue.state = WalkState.waitQueue ∧ (site wQueue [1]).blocksUsed < 2730 ∧ c5v6.walk 3 = some wStart ∧ wStart.stack = [lev 0] ∧
    wStart.state = WalkState.ready ∧ (c5v6.cell wStart.ctx (lev 0).cell).state ≠ CellState.resident) ∧ ((((site wStart child).modCell
    0 0 fun e ↦ { e with block := none }).walk 3 = some wStart) ∧ ((((site wStart child).modCell 0 0 fun e ↦ { e with block := none
    }).cell wStart.ctx (lev 0).cell).state = CellState.resident) ∧ (((site wStart child).modCell 0 0 fun e ↦ { e with block := none
    }).pageNeeded wStart = some 0) ∧ (((site wStart child).modCell 0 0 fun e ↦ { e with block := none }).pageOk wStart.ctx (lev
    0).cell 0 = false) ∧ 63 < 64) ∧ (((site (walk1 [lev 0] child) child).cell 0 0).block = some (0, 0) ∧ ((site (walk1 [lev 0] child)
    child).pageFail 0 0 0).walk 3 = some ((((site (walk1 [lev 0] child) child).pageFail 0 0 0).walk 3).getD w00) ∧ (site (walk1 [lev
    0] child) child).walk 3 = some (walk1 [lev 0] child) ∧ (walk1 [lev 0] child).ctx = 0 ∧ (walk1 [lev 0] child).stack = [lev 0] ∧
    (lev 0).cell = 0) := by
  refine ⟨⟨pageOk_child (p := 0) (x := 0) (by decide +kernel), by decide +kernel⟩, ?_⟩
  iterate 11 refine ⟨by decide +kernel, ?_⟩
  decide +kernel

theorem witness_FigureCode :
    (AtInstr (here (pad 16777216)) 3 (w0 (pad 16777216)) (lev 0) 16777216 1 ∧ 16777216 = 16777216 ∧ (lev 0).box.isSome = true) ∧
    (AtInstr (before (box1 ++ [0])) 3 (wB (box1 ++ [0])) topLevel 268435456 6 ∧ 268435456 = 268435456 + topLevel.cell ∧ topLevel.cell
    < 2 ^ 24 ∧ topLevel.woff = 0 ∧ (wB (box1 ++ [0])).arg topLevel 2 ≤ (wB (box1 ++ [0])).arg topLevel 4 ∧ (wB (box1 ++ [0])).arg
    topLevel 3 ≤ (wB (box1 ++ [0])).arg topLevel 5) ∧ (AtInstr (before (box2 ++ [0])) 3 (wB (box2 ++ [0])) topLevel 268435456 6 ∧
    AtInstr (here (pad 1073742079)) 3 (w0 (pad 1073742079)) (lev 0) 1073742079 1 ∧ ((wB (box2 ++ [0])).arg topLevel 4 < (wB (box2 ++
    [0])).arg topLevel 2 ∨ (wB (box2 ++ [0])).arg topLevel 5 < (wB (box2 ++ [0])).arg topLevel 3) ∧ 1073742079 = 1073741824 + 255 ∧
    255 < 256) ∧ (AtWord (site w2 [285212672]) 3 w2 (lev 0) 285212672 ∧ 285212672 = 285212672 + (lev 0).cell ∧ (lev 0).cell < 2 ^ 24 ∧
    (lev 0).woff + 1 = ((site w2 [285212672]).cell w2.ctx (lev 0).cell).len ∧ w2.stack = [lev 0, lev 4]) ∧ (AtWord (here [285212672])
    3 (w0 [285212672]) (lev 0) 285212672 ∧ AtInstr (before (pad 16777216)) 3 (wB (pad 16777216)) topLevel 16777216 1 ∧ AtWord (here
    [16777216]) 3 (w0 [16777216]) (lev 0) 16777216 ∧ (lev 0).woff + 1 = ((here [285212672]).cell (w0 [285212672]).ctx (lev
    0).cell).len ∧ (w0 [285212672]).stack = [lev 0] ∧ topLevel.box = none ∧ (lev 0).woff + 1 = ((here [16777216]).cell (w0
    [16777216]).ctx (lev 0).cell).len) ∧ (AtWord (here (pad 0)) 3 (w0 (pad 0)) (lev 0) 0 ∧ AtWord (here (pad 16777217)) 3 (w0 (pad
    16777217)) (lev 0) 16777217 ∧ instrWords 0 = none ∧ instrWords 16777217 = some 1 ∧ (lev 0).woff + 1 ≤ ((here (pad 16777217)).cell
    (w0 (pad 16777217)).ctx (lev 0).cell).len ∧ ((reservedSet 16777217 fun k ↦ (w0 (pad 16777217)).word ((lev 0).woff + k)) = true)) ∧
    (AtInstr noCell 3 (w0 (callW 0 ++ [0])) (lev 0) 536870917 4 ∧ 536870917 = 536870912 + 5 ∧ 5 < 2 ^ 24 ∧ (5 = 0 ∨ noCell.known (w0
    (callW 0 ++ [0])).ctx 5 = false ∧ (noCell.ctx (w0 (callW 0 ++ [0])).ctx).seg0Done = true)) ∧ (AtInstr deep 3 deepW (lev 0)
    536870917 4 ∧ 0 < 5 ∧ deep.known deepW.ctx 5 = true ∧ 32 ≤ deepW.stack.length) ∧ (AtInstr notIn 3 (wC (callW 0)) (lev 0) 536870917
    4 ∧ notIn.known (wC (callW 0)).ctx 5 = true ∧ (wC (callW 0)).stack.length < 32 ∧ (notIn.cell (wC (callW 0)).ctx 5).state ≠
    CellState.resident) ∧ (AtInstr badPage 3 (wC (callW 0)) (lev 0) 536870917 4 ∧ badPage.known (wC (callW 0)).ctx 5 = true ∧
    (badPage.cell (wC (callW 0)).ctx 5).state = CellState.resident ∧ badPage.pageOk (wC (callW 0)).ctx 5 0 = false) ∧ (AtInstr (calls
    (callW 2147483647)) 3 (wC (callW 2147483647)) (lev 0) 536870917 4 ∧ (calls (callW 2147483647)).pageOk (wC (callW 2147483647)).ctx
    5 0 = true ∧ (calls (callW 2147483647)).known (wC (callW 2147483647)).ctx 5 = true ∧ (wC (callW 2147483647)).stack.length < 32 ∧
    ((calls (callW 2147483647)).cell (wC (callW 2147483647)).ctx 5).state = CellState.resident ∧ c5v7 = (calls (callW
    2147483647)).pageGood (wC (callW 2147483647)).ctx 5 0 ∧ 0 = (wC (callW 2147483647)).word ((lev 0).woff + 1) ∧ placeInRange (lev 0)
    0 ((wC (callW 2147483647)).arg (lev 0) 2, (wC (callW 2147483647)).arg (lev 0) 3) ((calls (callW 2147483647)).cellBox (wC (callW
    2147483647)).ctx 5) = false) ∧ (AtInstr (calls (callW 20001)) 3 (wC (callW 20001)) (lev 0) 536870917 4 ∧ (calls (callW
    20001)).pageOk (wC (callW 20001)).ctx 5 0 = true ∧ (calls (callW 20001)).known (wC (callW 20001)).ctx 5 = true ∧ (wC (callW
    20001)).stack.length < 32 ∧ ((calls (callW 20001)).cell (wC (callW 20001)).ctx 5).state = CellState.resident ∧ uOf (calls (callW
    20001)) = (calls (callW 20001)).pageGood (wC (callW 20001)).ctx 5 0 ∧ 0 = (wC (callW 20001)).word ((lev 0).woff + 1) ∧
    placeInRange (lev 0) 0 ((wC (callW 20001)).arg (lev 0) 2, (wC (callW 20001)).arg (lev 0) 3) ((calls (callW 20001)).cellBox (wC
    (callW 20001)).ctx 5) = true ∧ placeInBox (lev 0) 0 ((wC (callW 20001)).arg (lev 0) 2, (wC (callW 20001)).arg (lev 0) 3) ((calls
    (callW 20001)).cellBox (wC (callW 20001)).ctx 5) = false) ∧ (AtInstr (calls (callW 0)) 3 (wC (callW 0)) (lev 0) 536870917 4 ∧
    (calls (callW 0)).pageOk (wC (callW 0)).ctx 5 0 = true ∧ (calls (callW 0)).known (wC (callW 0)).ctx 5 = true ∧ ((calls (callW
    0)).cell (wC (callW 0)).ctx 5).state = CellState.resident ∧ uOf (calls (callW 0)) = (calls (callW 0)).pageGood (wC (callW 0)).ctx
    5 0 ∧ 0 = (wC (callW 0)).word ((lev 0).woff + 1) ∧ placeInRange (lev 0) 0 ((wC (callW 0)).arg (lev 0) 2, (wC (callW 0)).arg (lev
    0) 3) ((calls (callW 0)).cellBox (wC (callW 0)).ctx 5) = true ∧ placeInBox (lev 0) 0 ((wC (callW 0)).arg (lev 0) 2, (wC (callW
    0)).arg (lev 0) 3) ((calls (callW 0)).cellBox (wC (callW 0)).ctx 5) = true ∧ placeMeets (wC (callW 0)) (lev 0) 0 ((wC (callW
    0)).arg (lev 0) 2, (wC (callW 0)).arg (lev 0) 3) ((calls (callW 0)).cellBox (wC (callW 0)).ctx 5) = true) ∧ (AtInstr (calls (callW
    16384)) 3 (wC (callW 16384)) (lev 0) 536870917 4 ∧ (calls (callW 16384)).pageOk (wC (callW 16384)).ctx 5 0 = true ∧ (calls (callW
    16384)).known (wC (callW 16384)).ctx 5 = true ∧ (wC (callW 16384)).stack.length < 32 ∧ ((calls (callW 16384)).cell (wC (callW
    16384)).ctx 5).state = CellState.resident ∧ uOf (calls (callW 16384)) = (calls (callW 16384)).pageGood (wC (callW 16384)).ctx 5 0
    ∧ 0 = (wC (callW 16384)).word ((lev 0).woff + 1) ∧ placeInRange (lev 0) 0 ((wC (callW 16384)).arg (lev 0) 2, (wC (callW
    16384)).arg (lev 0) 3) ((calls (callW 16384)).cellBox (wC (callW 16384)).ctx 5) = true ∧ placeInBox (lev 0) 0 ((wC (callW
    16384)).arg (lev 0) 2, (wC (callW 16384)).arg (lev 0) 3) ((calls (callW 16384)).cellBox (wC (callW 16384)).ctx 5) = true ∧
    placeMeets (wC (callW 16384)) (lev 0) 0 ((wC (callW 16384)).arg (lev 0) 2, (wC (callW 16384)).arg (lev 0) 3) ((calls (callW
    16384)).cellBox (wC (callW 16384)).ctx 5) = false) ∧ (AtInstr (calls arrayW) 3 (wC arrayW) (lev 0) 553648133 9 ∧ (calls
    arrayW).pageOk (wC arrayW).ctx 5 0 = true ∧ 553648133 = 553648128 + 5 ∧ (calls arrayW).known (wC arrayW).ctx 5 = true ∧ (wC
    arrayW).stack.length < 32 ∧ ((calls arrayW).cell (wC arrayW).ctx 5).state = CellState.resident ∧ uOf (calls arrayW) = (calls
    arrayW).pageGood (wC arrayW).ctx 5 0 ∧ 0 < 2) ∧ ((∀ (i j : ℕ), i < 2 → j < 3 → placeInRange (lev 0) array5.orient (array5.offset i
    j) ((calls arrayW).cellBox (wC arrayW).ctx 5) = true ∧ placeInBox (lev 0) array5.orient (array5.offset i j) ((calls
    arrayW).cellBox (wC arrayW).ctx 5) = true) ∧ 0 < 3 ∧ 2 < 65536 ∧ (wC arrayW).word ((lev 0).woff + 2) = 2 + 65536 * 3 ∧ array5 =
    c5q1 ∧ c5v8 = arrayHits (wC arrayW) (lev 0) array5 ((calls arrayW).cellBox (wC arrayW).ctx 5) 2 3) :=
  ⟨⟨at_instr (by decide +kernel), rfl, by decide +kernel⟩, ⟨at_instr (by decide +kernel), by decide +kernel⟩, ⟨at_instr
    (by decide +kernel), at_instr (by decide +kernel), by decide +kernel⟩, ⟨at_word (by decide +kernel), by decide +kernel⟩, ⟨at_word
    (by decide +kernel), at_instr (by decide +kernel), at_word (by decide +kernel), by decide +kernel⟩, ⟨at_word (by decide +kernel),
    at_word (by decide +kernel), by decide +kernel⟩, ⟨at_instr (by decide +kernel), by decide +kernel⟩, ⟨at_instr (by decide +kernel),
    by decide +kernel⟩, ⟨at_instr (by decide +kernel), by decide +kernel⟩, ⟨at_instr (by decide +kernel), by decide +kernel⟩,
    ⟨at_instr (by decide +kernel), pageOk_child (p := 1) (x := 0) (by decide +kernel), by decide +kernel⟩, ⟨at_instr
    (by decide +kernel), pageOk_child (p := 1) (x := 0) (by decide +kernel), by decide +kernel⟩, ⟨at_instr (by decide +kernel),
    pageOk_child (p := 1) (x := 0) (by decide +kernel), by decide +kernel⟩, ⟨at_instr (by decide +kernel), pageOk_child (p := 1) (x :=
    0) (by decide +kernel), by decide +kernel⟩, ⟨at_instr (by decide +kernel), pageOk_child (p := 1) (x := 0) (by decide +kernel),
    by decide +kernel⟩, ⟨fun i j hi hj => offsets_met i hi j hj, by decide +kernel⟩⟩

theorem witness_Figures :
    (AtInstr (here (rectW 0 0 64 128)) 3 (w0 (rectW 0 0 64 128)) (lev 0) 805306368 5 ∧ 805306368 = 805306368 ∧ (lev 0).box.isSome =
    true ∧ (w0 (rectW 0 0 64 128)).arg (lev 0) 1 = 0 ∧ (w0 (rectW 0 0 64 128)).arg (lev 0) 2 = 0 ∧ (w0 (rectW 0 0 64 128)).arg (lev 0)
    3 = 64 ∧ (w0 (rectW 0 0 64 128)).arg (lev 0) 4 = 128 ∧ 0 < 64 ∧ 0 < 128 ∧ (lev 0).takes [(0, 0), (64, 0), (0, 128), (64, 128)]) ∧
    (AtInstr (here (rectW 64 0 0 128)) 3 (w0 (rectW 64 0 0 128)) (lev 0) 805306368 5 ∧ (w0 (rectW 64 0 0 128)).arg (lev 0) 1 = 64 ∧
    (w0 (rectW 64 0 0 128)).arg (lev 0) 2 = 0 ∧ (w0 (rectW 64 0 0 128)).arg (lev 0) 3 = 0 ∧ (w0 (rectW 64 0 0 128)).arg (lev 0) 4 =
    128 ∧ (0 < 64 ∨ 128 < 0)) ∧ (AtInstr c5v9 3 wFar levFar 805306368 5 ∧ levFar.box.isSome = true ∧ wFar.arg levFar 1 = 1 ∧ wFar.arg
    levFar 2 = 0 ∧ wFar.arg levFar 3 = 2 ∧ wFar.arg levFar 4 = 128 ∧ 1 ≤ 2 ∧ 0 ≤ 128 ∧ ptInRange (place levFar.orient (levFar.dx,
    levFar.dy) (1, 0)) = false) ∧ (AtInstr c5v10 3 (w0 (rectW 20001 0 20002 128)) (lev 0) 805306368 5 ∧ (w0 (rectW 20001 0 20002
    128)).arg (lev 0) 1 = 20001 ∧ (w0 (rectW 20001 0 20002 128)).arg (lev 0) 2 = 0 ∧ (w0 (rectW 20001 0 20002 128)).arg (lev 0) 3 =
    20002 ∧ (w0 (rectW 20001 0 20002 128)).arg (lev 0) 4 = 128 ∧ 20001 ≤ 20002 ∧ (∀ p ∈ [(20001, 0), (20002, 0), (20001, 128), (20002,
    128)], ptInRange (place (lev 0).orient ((lev 0).dx, (lev 0).dy) p) = true) ∧ (lev 0).boxOf.holds (20001, 0) = false) ∧ (AtInstr
    (here (rectW 5 0 5 128)) 3 (w0 (rectW 5 0 5 128)) (lev 0) 805306368 5 ∧ 5 = 5 ∧ (w0 (rectW 5 0 5 128)).arg (lev 0) 1 = 5 ∧ (w0
    (rectW 5 0 5 128)).arg (lev 0) 2 = 0 ∧ (w0 (rectW 5 0 5 128)).arg (lev 0) 3 = 5 ∧ (w0 (rectW 5 0 5 128)).arg (lev 0) 4 = 128 ∧
    (lev 0).takes [(5, 0), (5, 0), (5, 128), (5, 128)]) ∧ (AtInstr c5v11 3 (w0 (xtrapW [0, 64, 0, 64, 5, 5])) (lev 0) 822083584 7 ∧
    822083584 = 822083584 ∧ (w0 (xtrapW [0, 64, 0, 64, 5, 5])).arg (lev 0) 1 = 0 ∧ (w0 (xtrapW [0, 64, 0, 64, 5, 5])).arg (lev 0) 2 =
    64 ∧ (w0 (xtrapW [0, 64, 0, 64, 5, 5])).arg (lev 0) 3 = 0 ∧ (w0 (xtrapW [0, 64, 0, 64, 5, 5])).arg (lev 0) 4 = 64 ∧ (w0 (xtrapW
    [0, 64, 0, 64, 5, 5])).arg (lev 0) 5 = 5 ∧ (w0 (xtrapW [0, 64, 0, 64, 5, 5])).arg (lev 0) 6 = 5) ∧ (0 ≤ 64 ∧ 5 ≤ 5 ∧ (0 < 64 ∨ 5 <
    5) ∧ (lev 0).takes [(0, 0), (64, 0), (5, 64), (5, 64)]) ∧ (AtInstr c5v12 3 (w0 (xtrapW [64, 0, 0, 64, 5, 5])) (lev 0) 822083584 7
    ∧ (w0 (xtrapW [64, 0, 0, 64, 5, 5])).arg (lev 0) 1 = 64 ∧ (w0 (xtrapW [64, 0, 0, 64, 5, 5])).arg (lev 0) 2 = 0 ∧ (w0 (xtrapW [64,
    0, 0, 64, 5, 5])).arg (lev 0) 3 = 0 ∧ (w0 (xtrapW [64, 0, 0, 64, 5, 5])).arg (lev 0) 4 = 64 ∧ (w0 (xtrapW [64, 0, 0, 64, 5,
    5])).arg (lev 0) 5 = 5 ∧ (w0 (xtrapW [64, 0, 0, 64, 5, 5])).arg (lev 0) 6 = 5 ∧ (0 < 64 ∨ 64 < 0 ∨ 5 < 5)) ∧ (AtInstr c5v13 3 (w0
    (ytrapW [0, 64, 0, 64, 5, 5])) (lev 0) 838860800 7 ∧ 838860800 = 838860800 ∧ (w0 (ytrapW [0, 64, 0, 64, 5, 5])).arg (lev 0) 1 = 0
    ∧ (w0 (ytrapW [0, 64, 0, 64, 5, 5])).arg (lev 0) 2 = 64 ∧ (w0 (ytrapW [0, 64, 0, 64, 5, 5])).arg (lev 0) 3 = 0 ∧ (w0 (ytrapW [0,
    64, 0, 64, 5, 5])).arg (lev 0) 4 = 64 ∧ (w0 (ytrapW [0, 64, 0, 64, 5, 5])).arg (lev 0) 5 = 5 ∧ (w0 (ytrapW [0, 64, 0, 64, 5,
    5])).arg (lev 0) 6 = 5 ∧ (lev 0).takes [(0, 0), (0, 64), (64, 5), (64, 5)]) ∧ (AtInstr c5v14 3 (w0 (ytrapW [0, 64, 0, 64, 6, 5]))
    (lev 0) 838860800 7 ∧ (w0 (ytrapW [0, 64, 0, 64, 6, 5])).arg (lev 0) 1 = 0 ∧ (w0 (ytrapW [0, 64, 0, 64, 6, 5])).arg (lev 0) 2 = 64
    ∧ (w0 (ytrapW [0, 64, 0, 64, 6, 5])).arg (lev 0) 3 = 0 ∧ (w0 (ytrapW [0, 64, 0, 64, 6, 5])).arg (lev 0) 4 = 64 ∧ (w0 (ytrapW [0,
    64, 0, 64, 6, 5])).arg (lev 0) 5 = 6 ∧ (w0 (ytrapW [0, 64, 0, 64, 6, 5])).arg (lev 0) 6 = 5 ∧ (64 < 0 ∨ 64 < 0 ∨ 5 < 6)) ∧
    (AtInstr c5v15 3 (w0 (polyW [0, 0, 9, 0, 9, 9, 0, 9])) (lev 0) 855638020 (1 + 2 * 4) ∧ 855638020 = 855638016 + 4 ∧ 3 ≤ 4 ∧ 4 ≤ 64
    ∧ ([(0, 0), (9, 0), (9, 9), (0, 9)] = List.map (fun i ↦ ((w0 (polyW [0, 0, 9, 0, 9, 9, 0, 9])).arg (lev 0) (1 + 2 * i), (w0 (polyW
    [0, 0, 9, 0, 9, 9, 0, 9])).arg (lev 0) (2 + 2 * i))) (List.range 4)) ∧ (lev 0).takes [(0, 0), (9, 0), (9, 9), (0, 9)] ∧ collinear
    [(0, 0), (9, 0), (9, 9), (0, 9)] = false ∧ isSimple (distinct (List.map (place (lev 0).orient ((lev 0).dx, (lev 0).dy)) [(0, 0),
    (9, 0), (9, 9), (0, 9)])) = true) ∧ (AtInstr c5v16 3 (w0 (polyW [0, 0, 9, 9, 9, 0, 0, 9])) (lev 0) 855638020 (1 + 2 * 4) ∧ ([(0,
    0), (9, 9), (9, 0), (0, 9)] = List.map (fun i ↦ ((w0 (polyW [0, 0, 9, 9, 9, 0, 0, 9])).arg (lev 0) (1 + 2 * i), (w0 (polyW [0, 0,
    9, 9, 9, 0, 0, 9])).arg (lev 0) (2 + 2 * i))) (List.range 4)) ∧ (lev 0).takes [(0, 0), (9, 9), (9, 0), (0, 9)] ∧ collinear [(0,
    0), (9, 9), (9, 0), (0, 9)] = false ∧ isSimple (distinct (List.map (place (lev 0).orient ((lev 0).dx, (lev 0).dy)) [(0, 0), (9,
    9), (9, 0), (0, 9)])) = false) ∧ (AtWord (here (polyW [0, 0, 9, 9])) 3 (w0 (polyW [0, 0, 9, 9])) (lev 0) 855638018 ∧ 855638018 =
    855638016 + 2 ∧ 2 < 256 ∧ (2 < 3 ∨ 64 < 2)) ∧ (AtWord (here (pad 855638081)) 3 (w0 (pad 855638081)) (lev 0) 855638081 ∧ 855638081
    = 855638016 + 65 ∧ 65 < 256 ∧ (65 < 3 ∨ 64 < 65)) :=
  ⟨⟨at_instr (by decide +kernel), rfl, by unfold Level.takes; decide +kernel⟩, ⟨at_instr (by decide +kernel), by decide +kernel⟩,
    ⟨at_instr (by decide +kernel), by decide +kernel⟩, ⟨at_instr (by decide +kernel), by decide +kernel⟩, ⟨at_instr
    (by decide +kernel), rfl, by unfold Level.takes; decide +kernel⟩, ⟨at_instr (by decide +kernel), rfl, by decide +kernel⟩,
    by unfold Level.takes; decide +kernel, ⟨at_instr (by decide +kernel), by decide +kernel⟩, ⟨at_instr (by decide +kernel), rfl,
    by unfold Level.takes; decide +kernel⟩, ⟨at_instr (by decide +kernel), by decide +kernel⟩, ⟨at_instr (by decide +kernel),
    by unfold Level.takes; decide +kernel⟩, ⟨at_instr (by decide +kernel), by unfold Level.takes; decide +kernel⟩, ⟨at_word
    (by decide +kernel), by decide +kernel⟩, ⟨at_word (by decide +kernel), by decide +kernel⟩⟩

/-! ## Witnesses: decompressor lanes, Marver, Glory -/

/-- Lane 3 under software over the last 16 bytes below the hidden regions. -/
def lane3 (state : Nat) (out : Nat) (l : List (Fld × Nat) := []) : State :=
  let s := st ([(DCP_CTL.OWNER 3, 1), (DCP_STATUS.STATE 3, state), (DCP_IN_ADDR.ADDR 3, 0x05FFFFF0), (DCP_IN_LEN.LEN 3, 16),
    (DCP_OUT_ADDR.ADDR 3, out), (DCP_OUT_LEN.LEN 3, 16)] ++ l);
  { s with host := { s.host with admitted := true } }

/-- Lane 3 ERROR, its input one byte longer, which reaches the ingest area. -/
def lane17 : State := lane3 4 0 [(DCP_IN_LEN.LEN 3, 17)]
/-- Lane 3 at work for software, or for Gather's slot 2. -/
def laneRun : State := lane3 1 0
def ing6 : Ingest := { ing with decrypt := true, lane := some 3 }
def laneGather : State := (st [(DCP_STATUS.STATE 3, 1)]).setSlot 2 (some ing6)
def c6v1 := inflate (laneRun.lane 3).zlib (laneRun.lane 3).input (laneRun.lane 3).limit ((laneRun.lane 3).before + (laneRun.lane 3).outLen)

/-- A record that fills pixel (0, 0), and a tile slot with records. -/
def trap1 : Trap :=
  { c0 := 0, c1 := 64, cls := 0, kind := 0, rsv := 0, lu0 := 0, lv0 := 0, lu1 := 0, lv1 := 64, ru0 := 64, rv0 := 0, ru1 := 64, rv1 := 64 }
def trapBad : Trap := { trap1 with c1 := 0 }
def ms (q : List Trap) : MSlot :=
  { ctx := 0, job := 0, stripe := 1, gen := 0, seq := 0, tcol := 0, trow := 0, started := true, queue := q, ended := false, acc := [],
    consumed := 0, discard := false, draining := false, word := 0 }

/-- Engine 31's slot 1 holds a tile with leave. -/
def eng31 (m : MSlot) : State :=
  { State.reset with
    mslots := State.reset.mslots.set 63 (some m),
    power := { State.reset.power with grants := [⟨.marver 31 1, 1, 0⟩] } }
def msFull : MSlot := { ms [trap1] with acc := [(0, [(4, 9), (3, 9), (2, 9), (1, 9)])] }
def msRest : MSlot := { ms [trap1] with discard := true }
def msGone : MSlot := { ms [] with discard := true }
def msOver : MSlot := { ms [] with draining := true, word := 65536 }
/-- A raster walk of the tile runs on. -/
def walks31 : Walk := newWalk false k1 0 0 0 31 1
def runsOn : State := let s := eng31 msGone; { s with blow := { s.blow with walks := s.blow.walks.set 5 (some walks31) } }

/-- Glory over a state. -/
def gly (g : Glory) (l : List (Fld × Nat) := []) : State :=
  let s := st ((GLY_CTL.ENABLE, 1) :: l);
  { s with
    glory := g, blow := { s.blow with sweeps := [Sweep.start k1] },
    power := { s.power with grants := [⟨.coarse, 1, 0⟩] } }

def dens1 : DensItem := { stripe := 1, gen := 0, tcol := -1, trow := -1, sums := [(0, 5)] }
def hdr1 : TileHdr := { ctx := 0, stripe := 1, gen := 0, seq := 0, tcol := 1, trow := 1023, empty := false, eng := 31, slot := 1 }
def densOf (g : Nat) : DensItem := { dens1 with gen := g }
def kOf (g : Nat) : Stripe := { k1 with gen := g }
/-- A density item of a generation waits before the coarse stage, generation 1 being staged with an ITER. -/
def coarse (g : Nat) (iter : Nat) : State :=
  let r := stage (gly { Glory.reset with coarseIn := [densOf g] }) [(GLY_CTL.ITER, iter), (GLY_REGION_SIZE.SIZE, 64)];
  { r with blow := { r.blow with sweeps := [Sweep.start (kOf g)] }, root := { r.root with staged := { r.root.staged with gen := 1 } } }
def c6v2 := gly { Glory.reset with coarseIn := [dens1], stripe := some k1 }
def c6v3 := gly { Glory.reset with stripe := some k1, colsDone := 8 }
/-- The fog map of four entries has a bad word. -/
def fogged : State :=
  let s := stage (gly { Glory.reset with stripe := some (kOf 5), colsDone := 8 }) [(GLY_CTL.FOG_EN, 1), (GLY_CTL.ITER, 2), (GLY_FOG_GEOM.FW, 2), (GLY_FOG_GEOM.FH, 2)];
  { s with mem := { s.mem with poison := [0] } }
def hdrOf (g : Nat) : TileHdr := { hdr1 with gen := g, tcol := 0, trow := 0 }
def heads (g : Nat) : State := 
  let s := gly { Glory.reset with stripe := some (kOf g), headers := [hdrOf g] }
  { s with blow := { s.blow with sweeps := [Sweep.start (kOf g)] } }

/-- A tile of engine 31 before its last pixel word, in the pixel stage. -/
def msLast : MSlot := { ms [] with draining := true, word := 65534, acc := [(65534, [(0, 1048576)])] }
def pixel : State :=
  let s := gly { Glory.reset with tile := some hdr1, pix := some k1, colsDone := 10 };
  { s with
    mslots := s.mslots.set 63 (some msLast), power := { s.power with grants := [⟨.pixel, 1, 0⟩] } }
def doseIt : Nat × Bool := doseOf (fun c => pixel.genF 1 0 (GLY_BASE_DOSE.DOSE c)) (fun c => if c = 0 then 0 else pixel.genF 1 0 (GLY_CURVE.OUT c))
        (pixel.mAt k1 511 262142) (validEntries (pixelWord (pixel.f MRV_OVL_THRESH.UNITS) ((mget msLast.acc msLast.word).getD [])))
/-- A band whose last tile is in, or not. -/
def bandS (n : Nat) : State := gly { Glory.reset with pix := some k1, tilesIn := [(0, n)], colsFreed := [(k1.key, 1)], colsDone := 6 }

theorem witness_Lanes :
    (c6v1 = inflate (laneRun.lane 3).zlib (laneRun.lane 3).input (laneRun.lane 3).limit ((laneRun.lane 3).before + (laneRun.lane
    3).outLen) ∧ laneRun.f (DCP_STATUS.STATE 3) = 1 ∧ laneGather.f (DCP_STATUS.STATE 3) = 1 ∧ laneGather.f (DCP_CTL.OWNER 3) = 0 ∧
    laneGather.slotOfLane 3 = some 2 ∧ laneGather.slot 2 = some ing6 ∧ (lane3 0 0).f (DCP_STATUS.STATE 3) ≠ 1) ∧ ((lane3 0
    0).lanes.length = 4 ∧ (lane3 0 0).laneWaiters = [] ∧ (5 : Word).toNat % 32 = 5 ∧ (lane3 0 0).f (DCP_CTL.OWNER 3) = 1 ∧ (lane3 0
    0).laneOpen 3 = true ∧ (lane3 0 0).badBuffer ((lane3 0 0).f (DCP_IN_ADDR.ADDR 3)) ((lane3 0 0).f (DCP_IN_LEN.LEN 3)) = false ∧
    (lane3 0 0).badBuffer ((lane3 0 0).f (DCP_OUT_ADDR.ADDR 3)) ((lane3 0 0).f (DCP_OUT_LEN.LEN 3)) = false) ∧ (lane17.lanes.length =
    4 ∧ lane17.laneWaiters = [] ∧ lane17.f (DCP_CTL.OWNER 3) = 1 ∧ lane17.laneOpen 3 = true ∧ lane17.badBuffer (lane17.f
    (DCP_IN_ADDR.ADDR 3)) (lane17.f (DCP_IN_LEN.LEN 3)) = true) ∧ ((lane3 2 0).lanes.length = 4 ∧ (lane3 2 0).laneWaiters = [] ∧ (9 :
    Word).toNat % 32 = 9 ∧ (lane3 2 0).f (DCP_CTL.OWNER 3) = 1 ∧ (lane3 2 0).f (DCP_STATUS.STATE 3) = 2 ∧ (lane3 2 0).badBuffer
    ((lane3 2 0).f (DCP_OUT_ADDR.ADDR 3)) ((lane3 2 0).f (DCP_OUT_LEN.LEN 3)) = false) ∧ (laneRun.lanes.length = 4 ∧
    laneRun.laneWaiters = [] ∧ (17 : Word).toNat % 32 = 17 ∧ laneRun.f (DCP_CTL.OWNER 3) = 1 ∧ (2 : Word).toNat / 4 % 8 = 0 ∧
    laneRun.laneOpen 3 = false) := by
  refine ⟨⟨rfl, by decide +kernel⟩, ?_⟩
  iterate 3 refine ⟨by decide +kernel, ?_⟩
  decide +kernel

theorem witness_Rasteriser :
    ((eng31 msRest).rasterSlot 31 = some 1 ∧ (eng31 msRest).mslot 31 1 = some msRest ∧ msRest.queue = [trap1] ∧ msRest.discard = true)
    ∧ ((eng31 (ms [trap1])).rasterSlot 31 = some 1 ∧ (eng31 (ms [trap1])).mslot 31 1 = some (ms [trap1]) ∧ (ms [trap1]).queue =
    [trap1] ∧ (ms [trap1]).discard = false ∧ trap1.ok = true ∧ (bands trap1 (ms [trap1]).acc).full = none) ∧ ((eng31
    msFull).rasterSlot 31 = some 1 ∧ (eng31 msFull).mslot 31 1 = some msFull ∧ msFull.queue = [trap1] ∧ msFull.discard = false ∧
    (bands trap1 msFull.acc).full = some 0) ∧ ((eng31 (ms [trapBad])).rasterSlot 31 = some 1 ∧ (eng31 (ms [trapBad])).mslot 31 1 =
    some (ms [trapBad]) ∧ (ms [trapBad]).queue = [trapBad] ∧ (ms [trapBad]).discard = false ∧ trapBad.ok = false ∧
    State.reset.rasterSlot 31 = none) ∧ ((eng31 msGone).mslot 31 1 = some msGone ∧ msGone.discard = true ∧ (∀ v ∈ (eng31
    msGone).blow.walks, ∀ t ∈ v, t.density = false → ¬(t.eng = 31 ∧ t.slot = 1))) ∧ (runsOn.mslot 31 1 = some msGone ∧ some walks31 ∈
    runsOn.blow.walks ∧ walks31.density = false ∧ walks31.eng = 31 ∧ walks31.slot = 1 ∧ (eng31 (ms [])).mslot 31 1 = some (ms []) ∧
    (ms []).discard = false) ∧ ((eng31 msOver).mslot 31 1 = some msOver ∧ msOver.draining = true ∧ msOver.word = 65536 ∧ (ms []).word
    ≠ 65536 ∧ [(255, 1048576), (1, 1052673), (2, 5), (3, 2000)].length ≤ 4 ∧ (∀ x ∈ [(255, 1048576), (1, 1052673), (2, 5), (3, 2000)],
    x.1 < 256)) := by
  iterate 6 refine ⟨by decide +kernel, ?_⟩
  decide +kernel

theorem witness_Glory :
    (c6v2.glory.coarseIn = [dens1] ∧ c6v2.glory.stripe = some k1 ∧ k1.num = dens1.stripe ∧ k1.gen = dens1.gen) ∧ ((coarse 1
    3).glory.coarseIn = [densOf 1] ∧ (coarse 1 3).glory.stripe = none ∧ (coarse 1 3).densStripe (densOf 1) = some (kOf 1) ∧ (coarse 1
    3).itemGate 0 (kOf 1).num (kOf 1).gen = (((coarse 1 3).itemGate 0 1 1).1, true) ∧ ((coarse 1 3).itemGate 0 1 1).1.glyCause
    (((coarse 1 3).itemGate 0 1 1).1.genF 0 (kOf 1).gen) ≠ 0) ∧ ((coarse 1 2).glory.coarseIn = [densOf 1] ∧ (coarse 1 2).glory.stripe
    = none ∧ (coarse 1 2).densStripe (densOf 1) = some (kOf 1) ∧ (coarse 1 2).itemGate 0 (kOf 1).num (kOf 1).gen = (((coarse 1
    2).itemGate 0 1 1).1, true) ∧ ((coarse 1 2).itemGate 0 1 1).1.glyCause (((coarse 1 2).itemGate 0 1 1).1.genF 0 (kOf 1).gen) = 0) ∧
    ((coarse 2 2).glory.coarseIn = [densOf 2] ∧ (coarse 2 2).glory.stripe = none ∧ (coarse 2 2).densStripe (densOf 2) = some (kOf 2) ∧
    (coarse 2 2).itemGate 0 (kOf 2).num (kOf 2).gen = (((coarse 2 2).itemGate 0 1 2).1, false) ∧ State.reset.glory.coarseIn = []) ∧
    (fogged.glory.stripe = some (kOf 5) ∧ fogged.holdsLeave Requester.coarse = true ∧ fogged.glory.colsDone < coarseCols (kOf 5) ∧
    fogged.fogBad (kOf 5) (↑fogged.glory.colsDone - 1) = some 0) ∧ (c6v3.glory.stripe = some k1 ∧ c6v3.holdsLeave Requester.coarse =
    true ∧ c6v3.glory.colsDone + 1 < coarseCols k1 ∧ c6v3.fogSuspects k1 (↑c6v3.glory.colsDone - 1) = [] ∧ (stage State.reset
    [(GLY_KERNEL_CTL.TERMS, 5)]).stg GLY_CTL.ITER ≠ 3 ∧ (4 < (stage State.reset [(GLY_KERNEL_CTL.TERMS, 5)]).stg GLY_KERNEL_CTL.TERMS
    ∨ 16 < (stage State.reset [(GLY_KERNEL_CTL.TERMS, 5)]).stg GLY_KERNEL_CTL.RADIUS)) ∧ ((stage State.reset [(GLY_KERNEL_CTL.RADIUS,
    17)]).stg GLY_CTL.ITER ≠ 3 ∧ (4 < (stage State.reset [(GLY_KERNEL_CTL.RADIUS, 17)]).stg GLY_KERNEL_CTL.TERMS ∨ 16 < (stage
    State.reset [(GLY_KERNEL_CTL.RADIUS, 17)]).stg GLY_KERNEL_CTL.RADIUS)) := by
  iterate 6 refine ⟨by decide +kernel, ?_⟩
  decide +kernel

/-! ## Witnesses: beam map, cell check, Parison -/

/-- The beam-map unit of a state. -/
def beam (b : Beam) (l : List (Fld × Nat) := []) : State := { st l with beam := b }
def fill0 : FillJob := ⟨0, 0, 0, 0, 0, 0, false⟩
def filling : State := beam { Beam.reset with fill := some fill0 }
def c6bv1 := st [(BMP_STATUS.CHECK_BUSY, 1)]
def checking : State := beam { Beam.reset with chkBank := some 1 }
/-- A temperature report in the present tick, the one before it being t. -/
def reported (r : Nat) : State := let s := beam { Beam.reset with tempTick := some r, prevTemp := some (-40, 0) }; { s with tick := 1 }

/-- Return lane 7 locked, its last ALIVE 4. -/
def locked (l : List (Fld × Nat) := []) : State :=
  (st ((PUN_CTL.ENABLE, 1) :: l)).modRet 7 (fun r => { r with lock := true, alive := some 4 })

/-- A live generation 1 that names map bank 1. -/
def live1 : State :=
  let s := stage State.reset [(BMP_SEL.MAP_BANK, 1)];
  { s with root := { s.root with staged := { s.root.staged with gen := 1 } } }
def ccReq : State := st ((BMP_CC_STATUS.STATE, 1) :: lanesUp)
def c6bv2 := beam { Beam.reset with ccSent := true } [(BMP_CC_STATUS.STATE, 1)]
def c6bv3 := beam { Beam.reset with ccCheck := true } [(BMP_CC_STATUS.STATE, 1)]
def c6bv4 := beam { Beam.reset with ccCheck := true }
def taking : State := beam { Beam.reset with ccAccept := some (0, 1) }

theorem witness_BeamTables :
    (filling.beam.fill = some fill0 ∧ State.reset.beam.fill = none ∧ (3 : Word).toNat % 2 = 1 ∧ State.reset.f BMP_STATUS.CHECK_BUSY ≠
    1 ∧ c6bv1.f BMP_STATUS.CHECK_BUSY = 1 ∧ checking.beam.chkBank = some 1 ∧ State.reset.beam.chkBank = none) ∧ (5 < 6 ∧ 5 ≤ 5 ∧
    (reported 0).beam.tempTick = some 0 ∧ 0 ≠ (reported 0).mono100) ∧ ((reported (reported 0).mono100).beam.tempTick = some (reported
    0).mono100 ∧ (reported 0).mono100 = (reported (reported 0).mono100).mono100 ∧ (reported (reported 0).mono100).beam.prevTemp = some
    (-40, 0) ∧ -32768 ≤ -40 ∧ -40 ≤ 32767) := by
  iterate 2 refine ⟨by decide +kernel, ?_⟩
  decide +kernel

theorem witness_CellCheck :
    (5 < 256 ∧ 262143 < 262144 ∧ 1 ≤ [(1, 2)].length ∧ [(1, 2)].length ≤ 5 ∧ (∀ r ∈ [(1, 2)], r.1 < 4096 ∧ r.2 < 4096) ∧ Hears locked
    7 5) ∧ (4 < 256 ∧ HeardBefore locked 7 4 ∧ c6bv2.f BMP_CC_STATUS.STATE = 1 ∧ c6bv2.beam.ccSent = true ∧ (3 : Word).toNat % 2 = 1 ∧
    live1.beam.ccAccept = none ∧ live1.liveMap ((3 : Word).toNat / 2 % 2) = true) ∧ (ccReq.f BMP_CC_STATUS.STATE = 1 ∧
    ccReq.beam.ccSent = false ∧ ccReq.link.lanes.length = 64 ∧ State.reset.f BMP_CC_STATUS.STATE ≠ 1) ∧ ((1 : Word).toNat % 2 = 1 ∧
    live1.liveMap ((1 : Word).toNat / 2 % 2) = false ∧ live1.beam.ccCheck = false ∧ c6bv3.beam.ccAccept = none ∧ c6bv3.liveMap ((1 :
    Word).toNat / 2 % 2) = false ∧ c6bv3.beam.ccCheck = true ∧ c6bv3.f BMP_CC_STATUS.STATE = 1) ∧ (c6bv4.beam.ccAccept = none ∧
    c6bv4.liveMap ((1 : Word).toNat / 2 % 2) = false ∧ c6bv4.beam.ccCheck = true ∧ c6bv4.f BMP_CC_STATUS.STATE ≠ 1 ∧
    taking.beam.ccAccept = some (0, 1) ∧ State.reset.beam.ccAccept = none) := by
  refine ⟨by unfold Hears; decide +kernel, by unfold HeardBefore; decide +kernel, ?_⟩
  iterate 2 refine ⟨by decide +kernel, ?_⟩
  decide +kernel

/-- A filled beam table of generation 0. -/
def tab (c : Nat) (g : Nat := 0) : BeamBank := { BeamBank.empty with filled := true, cause := c, gen := g }

/-- Parison before the first column of k1, under a beam table and the staged set of generation 1 or the set in force. -/
def par (t : BeamBank) (k : Stripe) (p : Nat := 8) (l : List (Fld × Nat) := []) : State :=
  let s := stage (st ((PAR_CTL.ENABLE, 1) :: l)) [(PAR_PLANES.P, p)];
  { s with par := { s.par with next := [k], bands := [⟨k.key, k.gen, 0, 0⟩] }, beam := { s.beam with activeT := t },
           root := { s.root with staged := { s.root.staged with gen := 1 } } }
def kg (g : Nat) : Stripe := { k1 with gen := g }
def gate (s : State) (g : Nat) : State := (s.itemGate 1 1 g).1
def par1 (c p : Nat) : State := let s := par (tab 0) (kg 1) p; { s with beam := { s.beam with stagedT := tab c 1 } }
def bd (g : Nat) : Band := ⟨k1.key, g, 0, 0⟩
def tabLag : BeamBank := { tab 3 with lagGroup := some 5 }
def c13v1 := gate (par (tab 0) (kg 7)) 7
/-- A stripe in the ring, and a ring of one stripe. -/
def rg (done sent : Nat) : RingStripe :=
  { num := 1, gen := 0, ctx := 0, base := 0, nc := 8, done := done, cols := 0, sent := sent, flashes := 512, minX0 := 0, closed := false }
def ring (r : RingStripe) : State := { State.reset with par := { State.reset.par with ring := [r] } }
def ringHeld : State := { ring (rg 1 0) with gaf := { State.reset.gaf with prepared := some k1 } }
/-- The same of a job whose context has closed. -/
def rgClosed : RingStripe := { rg 1 0 with closed := true }
def ringActive : State := act (ring (rg 1 0))
/-- Beams of a status whose landing points lie 65 and 63 subpixels off. -/
def be (status : Nat) : BeamEntry := { yb := 0, x0 := 0, pass := 0, status := status, dx := 65, dy := -63, gain := 0 }
def flat : Int → Int → Nat := fun _ _ => 1
def ones : Fld → Nat := fun _ => 1
/-- Parison in process with k1, its slots free or held. -/
def inProcess (sent : Nat) : State :=
  { booted with par := { State.reset.par with stripe := some k1, bands := [bd 0], ring := [{ rg 0 0 with num := 0, nc := 512, sent := sent }, rg 0 0], burst := 1 } }
/-! ## Witnesses: Lehr and Punty -/

def half0 (ready : Bool) (g : Nat := 0) : Half := { stripe := 1, gen := g, chunk := 0, part := 0, ready := ready, codes := [] }

/-- k1 ACTIVE and armed from flash 0, in the ring, with a staging half. -/
def serving (done : Nat) (ready : Bool) (l : List (Fld × Nat) := []) : State :=
  let s := act (st ((LEH_CTL.ENABLE, 1) :: (PUN_CTL.ENABLE, 1) :: l));
  { s with
    mot := { s.mot with armed := true, a0 := [(0, 50000), (1, 90000)] },
    par := { s.par with ring := [rg done 0] },
    link := { s.link with halves := [some (half0 ready), none] } }

/-- Flash 1's commit point is next; its planes hold the ACKs of the lanes of a mask. -/
def commits (mask : Nat) : State :=
  let s := serving 2 true;
  { s with
    mot := { s.mot with committed := 1 }, link := { s.link with acks := (List.range 8).map (fun p => (16 + p, mask)) } }
def staleS : State :=
  let s := serving 1 false;
  { s with gaf := { s.gaf with active := some (kg 5) }, link := { s.link with halves := [some (half0 false 5), none] } }

/-- Lane 63 replaced. -/
def ln63 (s : State) (p : PLane) : State := s.modPln 63 (fun _ => p)
def frm (flash plane ftype : Nat) : FrameSent := ⟨flash, plane, ftype, false, false⟩
/-- Lane 63 in a state of its training. -/
def tr63 (n : Nat) : State := st [(PUN_CTL.ENABLE, 1), (PUN_LANE_STATE.STATE 63, n)]
def p0 : PLane := PLane.reset
def pCc : PLane := { p0 with ccDue := true }
def ccS : State := ln63 (serving 2 true [(PUN_LANE_STATE.STATE 63, 5), (BMP_CC_STATUS.STATE, 1)]) pCc
def pSync : PLane := { p0 with sync := true, out := [frm 0 0 3, frm 0 0 3, frm 0 0 3] }
def syncS : State := ln63 (serving 2 true [(PUN_LANE_STATE.STATE 63, 5)]) pSync
def pNext : PLane := { p0 with next := (0, 7) }
def nextS : State :=
  let r := ln63 (serving 2 true [(PUN_LANE_STATE.STATE 63, 5)]) pNext;
  { r with link := { r.link with serve := some (0, 0) } }
def pFull : PLane := { p0 with out := List.replicate 4 (frm 0 0 0) }
def pRep : PLane := { p0 with replay := [frm 5 7 0], kept := [(frm 5 7 0, [1], []), (frm 5 7 0, [], [])] }
def servingUp : State := serving 2 true [(PUN_LANE_STATE.STATE 63, 5)]
def pRep1 : PLane := { p0 with replay := [frm 0 0 1], kept := [(frm 0 0 1, [], [])] }
def c13v2 := ln63 (serving 2 true [(BMP_CC_STATUS.STATE, 1), (PUN_LANE_STATE.STATE 63, 5)]) pRep1
/-- Return lane 7 locked, its last ALIVE 4. -/
def locked7 (s : State) : State := s.modRet 7 (fun r => { r with lock := true, alive := some 4 })
def pOut : PLane := { p0 with out := [frm 5 7 0] }
def outS : State := ln63 (serving 2 true) pOut
def timed (n : Nat) : State := let s := serving 2 true; { s with thyme := { s.thyme with ns := n } }

def trained (n : Nat) (l : List (Fld × Nat) := []) : State :=
  locked7 (st ([(PUN_CTL.ENABLE, 1), (PUN_LANE_STATE.STATE 63, n), (PUN_LANE_STATE.STATE 71, 5)] ++ l))
/-- Lane 63 in EQ with the requests that it has received. -/
def eqS (n : Nat) : State := (trained 3).modPln 63 (fun _ => { p0 with tapReqs := n })
def pEq (n : Nat) : PLane := { p0 with tapReqs := n }
def c13v3 := locked7 (serving 2 true [(MOT_STATUS.STATE, 4)])
/-- A message of type 1 with ALIVE a, its CRC right. -/
def hd (a : Nat) : Word := BitVec.ofNat 64 (0x2D + 2 ^ 8 + 2 ^ 16 * a)
def tl (a : Nat) : Word := BitVec.ofNat 64 (0x35 + 2 ^ 32 * crc32c (toLE 8 (hd a).toNat ++ toLE 8 0 ++ toLE 8 0))
def prbs (l : List (Fld × Nat)) : State := st ([(PUN_LANE_STATE.STATE 71, 7), (PUN_PRBS_CTL.CHK_EN 71, 1)] ++ l)
def prbsL (n : Nat) : State := st ([(PUN_LANE_STATE.STATE n, 7), (PUN_PRBS_CTL.CHK_EN n, 1)])
def synced : State :=
  prbs [(PUN_PRBS_CTL.SYNC 71, 1), (PUN_PRBS_CTL.GEN_EN 71, 1), (PUN_PRBS_CTL.LOOP 71, 1), (PUN_PRBS_CTL.RATE 71, 1), (PUN_PRBS_CTL.PATTERN 71, 3)]

theorem witness_PlaneCode :
    0 < [1].length ∧ weightsOk [1] = true ∧ 1 ≤ [1].sum ∧ 4095 < 2 ^ 12 :=
  by decide +kernel

theorem witness_ParisonStripes :
    ((inProcess 0).split k1 0 = (inProcess 0).split k1 (bd 0).half ∧ (inProcess 0).par.stripe = some k1 ∧ (inProcess 0).par.bands =
    [bd 0] ∧ (inProcess 0).ringOf k1 = some (rg 0 0) ∧ (inProcess 0).par.burst ≠ 0 ∧ (inProcess 0).mustHold ((inProcess 0).split k1 0)
    (bd 0).no = true) ∧ ((par (tab 0) k1).par.stripe = none ∧ (par (tab 0) k1).par.next = [k1] ∧ (par (tab 0) k1).par.bands = [bd 0] ∧
    (bd 0).key = k1.key ∧ (par (tab 0) k1).runs PAR_CTL.ENABLE = true ∧ (par (tab 0) k1).itemGate 1 k1.num (bd 0).gen = (gate (par
    (tab 0) k1) 0, true) ∧ (gate (par (tab 0) k1) 0).beamTable k1.gen = some (tab 0) ∧ (tab 0).cause = 0) ∧ ((gate (par (tab 0) k1)
    0).parCause ((gate (par (tab 0) k1) 0).genF 1 k1.gen) = 0 ∧ (tab 0).lagGroup = none ∧ (tab 0).bad = none) ∧ ((par1 0 8).par.stripe
    = none ∧ (par1 0 8).par.next = [kg 1] ∧ (par1 0 8).par.bands = [bd 1] ∧ (bd 1).key = (kg 1).key ∧ (par1 0 8).runs PAR_CTL.ENABLE =
    true ∧ (par1 0 8).itemGate 1 (kg 1).num (bd 1).gen = (gate (par1 0 8) 1, true) ∧ (gate (par1 0 8) 1).beamTable (kg 1).gen = some
    (tab 0 1) ∧ (tab 0 1).cause = 0) ∧ ((gate (par1 0 8) 1).parCause ((gate (par1 0 8) 1).genF 1 (kg 1).gen) = 0 ∧ (tab 0 1).lagGroup
    = none ∧ (tab 0 1).bad = none) ∧ ((par (tab 3) k1).par.stripe = none ∧ (par (tab 3) k1).par.next = [k1] ∧ (par (tab 3)
    k1).par.bands = [bd 0] ∧ (par (tab 3) k1).runs PAR_CTL.ENABLE = true ∧ (par (tab 3) k1).itemGate 1 k1.num (bd 0).gen = (gate (par
    (tab 3) k1) 0, true) ∧ (gate (par (tab 3) k1) 0).beamTable k1.gen = some (tab 3) ∧ (tab 3).cause ≠ 0 ∧ (gate (par (tab 3) k1)
    0).parCause ((gate (par (tab 3) k1) 0).genF 1 k1.gen) = 0 ∧ (tab 3).lagGroup = none ∧ (tab 3).bad = none) ∧ ((par1 0
    13).par.stripe = none ∧ (par1 0 13).par.next = [kg 1] ∧ (par1 0 13).par.bands = [bd 1] ∧ (par1 0 13).runs PAR_CTL.ENABLE = true ∧
    (par1 0 13).itemGate 1 (kg 1).num (bd 1).gen = (gate (par1 0 13) 1, true) ∧ (gate (par1 0 13) 1).beamTable (kg 1).gen = some (tab
    0 1) ∧ (gate (par1 0 13) 1).parCause ((gate (par1 0 13) 1).genF 1 (kg 1).gen) ≠ 0) ∧ ((par tabLag k1).par.stripe = none ∧ (par
    tabLag k1).par.next = [k1] ∧ (par tabLag k1).par.bands = [bd 0] ∧ (par tabLag k1).runs PAR_CTL.ENABLE = true ∧ (par tabLag
    k1).itemGate 1 k1.num (bd 0).gen = (gate (par tabLag k1) 0, true) ∧ (gate (par tabLag k1) 0).beamTable k1.gen = some tabLag ∧
    tabLag.cause ≠ 0 ∧ (gate (par tabLag k1) 0).parCause ((gate (par tabLag k1) 0).genF 1 k1.gen) = 0 ∧ tabLag.lagGroup = some 5 ∧
    tabLag.bad = none) ∧ ((par (tab 0) (kg 7)).par.stripe = none ∧ (par (tab 0) (kg 7)).par.next = [kg 7] ∧ (par (tab 0) (kg
    7)).par.bands = [bd 7] ∧ (bd 7).key = (kg 7).key ∧ (par (tab 0) (kg 7)).runs PAR_CTL.ENABLE = true ∧ (par (tab 0) (kg 7)).itemGate
    1 (kg 7).num (bd 7).gen = (c13v1, false)) ∧ (ringActive.gaf.prepared = none ∧ ringActive.gaf.queued = none ∧ ringActive.gaf.active
    = some k1 ∧ (rg 1 0).num = k1.num ∧ (rg 1 0).ctx = k1.ctx ∧ (rg 1 0).closed = false ∧ (rgClosed.num ≠ k1.num ∨ rgClosed.ctx ≠
    k1.ctx ∨ rgClosed.closed = true)) ∧ (State.reset.par.bands = [] ∧ releaseFirst (ring (rg 1 0)).par.ring = some (rg 1 0, [rg 1 1])
    ∧ (ring (rg 1 0)).par.holdFrom = none ∧ (ring (rg 1 0)).chunkSent (rg 1 0) = true ∧ (rg 1 0).sent < (rg 1 0).done) ∧ (releaseFirst
    ringHeld.par.ring = some (rg 1 0, [rg 1 1]) ∧ ringHeld.par.holdFrom = none ∧ ringHeld.chunkSent (rg 1 0) = false ∧ releaseFirst
    (ring (rg 0 0)).par.ring = some (rg 0 0, [rg 0 1]) ∧ (ring (rg 0 0)).par.holdFrom = none ∧ (rg 0 0).done ≤ (rg 0 0).sent) ∧ (1 <
    64 ∧ (be 1).dx = 64 * 1 + 1 ∧ (be 1).dy = 64 * -1 + 1 ∧ (be 1).status ≠ 0 ∧ (be 0).dx = 64 * 1 + 1 ∧ (be 0).dy = 64 * -1 + 1 ∧ (be
    0).status = 0) ∧ (0 < 1 ∧ 64 * ones PAR_LNOM.LNOM = 64 * 1 * 1) ∧ (1 ≤ 17 ∧ (List.replicate 64 7).length = 64 * 1) := by
  refine ⟨⟨rfl, by decide +kernel⟩, ?_⟩
  iterate 13 refine ⟨by decide +kernel, ?_⟩
  decide +kernel

theorem witness_ChunksAndCommits :
    ((∃ h, some h ∈ (serving 2 true).link.halves ∧ h.ready = true ∧ h.chunk = (serving 2 true).lehrNext / 64 ∧ h.part = (serving 2
    true).partOf k1.gen (serving 2 true).lehrNext) ∧ (serving 2 true).gaf.active = some k1 ∧ (serving 2 true).link.serve = none ∧
    (serving 2 true).runs LEH_CTL.ENABLE = true ∧ (serving 2 true).live (serving 2 true).lehrNext = true ∧ (serving 2 true).lehrNext <
    (serving 2 true).nf k1 ∧ (serving 2 true).ringOf k1 = some (rg 2 0) ∧ (64 * ((serving 2 true).lehrNext / 64 + 1) < (serving 2
    true).nf k1 → (serving 2 true).lehrNext / 64 + 1 < (rg 2 0).done)) ∧ ((∃ h, some h ∈ (serving 1 true).link.halves ∧ h.ready = true
    ∧ h.chunk = (serving 1 true).lehrNext / 64 ∧ h.part = (serving 1 true).partOf k1.gen (serving 1 true).lehrNext) ∧ (serving 1
    true).gaf.active = some k1 ∧ (serving 1 true).link.serve = none ∧ (serving 1 true).runs LEH_CTL.ENABLE = true ∧ (serving 1
    true).live (serving 1 true).lehrNext = true ∧ (serving 1 true).lehrNext < (serving 1 true).nf k1 ∧ (serving 1 true).ringOf k1 =
    some (rg 1 0) ∧ 64 * ((serving 1 true).lehrNext / 64 + 1) < (serving 1 true).nf k1) ∧ ((rg 1 0).done ≤ (serving 1 true).lehrNext /
    64 + 1 ∧ (serving 1 true).mot.armed = true ∧ (serving 1 true).f GAF_STATUS.HALTED ≠ 1) ∧ ((serving 1 false).gaf.active = some k1 ∧
    (List.findIdx? (fun x ↦ Option.any (fun y ↦ !y.ready) x) (serving 1 false).link.halves = some 0) ∧ (serving 1
    false).link.halves[0]? = some (some (half0 false)) ∧ (serving 1 false).ringOf k1 = some (rg 1 0) ∧ (serving 1 false).itemGate 2
    (half0 false).stripe (half0 false).gen = (((serving 1 false).itemGate 2 1 0).1, true)) ∧ (staleS.gaf.active = some (kg 5) ∧
    (List.findIdx? (fun x ↦ Option.any (fun y ↦ !y.ready) x) staleS.link.halves = some 0) ∧ staleS.link.halves[0]? = some (some (half0
    false 5)) ∧ staleS.ringOf (kg 5) = some (rg 1 0) ∧ staleS.itemGate 2 (half0 false 5).stripe (half0 false 5).gen =
    ((staleS.itemGate 2 1 5).1, false)) ∧ ((commits (2 ^ 64 - 1)).gaf.active = some k1 ∧ (commits (2 ^ 64 - 1)).live (commits (2 ^ 64
    - 1)).mot.committed = true ∧ (commits (2 ^ 64 - 1)).mot.committed < (commits (2 ^ 64 - 1)).nf k1 ∧ (commits (2 ^ 64 -
    1)).mot.committed ≠ (commits (2 ^ 64 - 1)).mot.t0 ∧ (mget (commits (2 ^ 64 - 1)).mot.a0 ((commits (2 ^ 64 - 1)).mot.committed -
    1)).isSome = true ∧ (∀ l < 64, ∀ p < (commits (2 ^ 64 - 1)).planes k1.gen, bit (mnat (commits (2 ^ 64 - 1)).link.acks ((commits (2
    ^ 64 - 1)).mot.committed * 16 + p)) l = true)) ∧ ((commits (2 ^ 63 - 1)).gaf.active = some k1 ∧ (commits (2 ^ 63 - 1)).live
    (commits (2 ^ 63 - 1)).mot.committed = true ∧ (commits (2 ^ 63 - 1)).mot.committed < (commits (2 ^ 63 - 1)).nf k1 ∧ (commits (2 ^
    63 - 1)).mot.committed ≠ (commits (2 ^ 63 - 1)).mot.t0 ∧ (mget (commits (2 ^ 63 - 1)).mot.a0 ((commits (2 ^ 63 - 1)).mot.committed
    - 1)).isSome = true ∧ (∃ l < 64, ∃ p < (commits (2 ^ 63 - 1)).planes k1.gen, bit (mnat (commits (2 ^ 63 - 1)).link.acks ((commits
    (2 ^ 63 - 1)).mot.committed * 16 + p)) l = false) ∧ (commits (2 ^ 63 - 1)).f GAF_STATUS.HALTED ≠ 1) ∧ State.reset.gaf.active =
    none := by
  refine ⟨⟨⟨half0 true, by decide +kernel⟩, by decide +kernel⟩, ⟨⟨half0 true, by decide +kernel⟩, by decide +kernel⟩, ?_⟩
  iterate 5 refine ⟨by decide +kernel, ?_⟩
  decide +kernel

theorem witness_PlaneFrames :
    (5 < 256 ∧ 0 < 2 ^ 24 ∧ 0 < 16 ∧ 0 < 4 ∧ 255 < 256 ∧ 0 < 256 ∧ Hears (locked7 (serving 2 true)) 7 5) ∧ (4 < 256 ∧ HeardBefore
    (locked7 (serving 2 true)) 7 4 ∧ (List.find? (fun x ↦ x.answers 5 7 0) (outS.pln 63).out = some (frm 5 7 0)) ∧ (frm 5 7 0).ftype =
    0 ∧ outS.live (frm 5 7 0).flash = true ∧ outS.mot.committed ≤ (frm 5 7 0).flash ∧ (List.find? (fun x ↦ x.answers 5 6 0) (outS.pln
    63).out = none)) ∧ ((tr63 2).runs PUN_CTL.ENABLE = true ∧ (tr63 2).link.lanes[63]? = some p0 ∧ p0.out.length < 4 ∧ p0.replay = []
    ∧ ((tr63 2).laneState 63 = 2 ∨ (tr63 2).laneState 63 = 3 ∨ (tr63 2).laneState 63 = 4 ∧ p0.verify + List.countP (fun f ↦ f.ver)
    p0.out < 4096)) ∧ ((tr63 4).runs PUN_CTL.ENABLE = true ∧ (tr63 4).link.lanes[63]? = some p0 ∧ ((tr63 4).laneState 63 = 2 ∨ (tr63
    4).laneState 63 = 3 ∨ (tr63 4).laneState 63 = 4 ∧ p0.verify + List.countP (fun f ↦ f.ver) p0.out < 4096)) ∧ (ccS.runs
    PUN_CTL.ENABLE = true ∧ ccS.link.lanes[63]? = some pCc ∧ pCc.out.length < 4 ∧ pCc.replay = [] ∧ ccS.laneState 63 = 5 ∧ pCc.ccDue =
    true ∧ ccS.f BMP_CC_STATUS.STATE = 1) ∧ (syncS.runs PUN_CTL.ENABLE = true ∧ syncS.link.lanes[63]? = some pSync ∧ pSync.out.length
    < 4 ∧ pSync.replay = [] ∧ syncS.laneState 63 = 5 ∧ (pSync.ccDue = false ∨ syncS.f BMP_CC_STATUS.STATE ≠ 1) ∧ syncS.gaf.active =
    some k1 ∧ pSync.next = (0, 0)) ∧ (syncS.live 0 = true ∧ 0 < syncS.nf k1 ∧ syncS.frameDue 0 = true ∧ pSync.sync = true) ∧
    (nextS.runs PUN_CTL.ENABLE = true ∧ nextS.link.lanes[63]? = some pNext ∧ pNext.out.length < 4 ∧ pNext.replay = [] ∧
    nextS.laneState 63 = 5 ∧ (pNext.ccDue = false ∨ nextS.f BMP_CC_STATUS.STATE ≠ 1) ∧ nextS.gaf.active = some k1 ∧ pNext.next = (0,
    7)) ∧ (nextS.live 0 = true ∧ 0 < nextS.nf k1 ∧ nextS.frameDue 0 = true ∧ pNext.sync = false ∧ nextS.serves k1.gen 0 = true ∧
    (State.reset.runs PUN_CTL.ENABLE = false ∨ 4 ≤ (State.reset.pln 63).out.length) ∧ ((ln63 (tr63 2) pFull).runs PUN_CTL.ENABLE =
    false ∨ 4 ≤ ((ln63 (tr63 2) pFull).pln 63).out.length)) ∧ ((ln63 servingUp pRep).runs PUN_CTL.ENABLE = true ∧ (ln63 servingUp
    pRep).laneState 63 = 5 ∧ (ln63 servingUp pRep).link.lanes[63]? = some pRep ∧ pRep.replay = [frm 5 7 0] ∧ ((frm 5 7 0).ftype = 1 ∧
    (ln63 servingUp pRep).f BMP_CC_STATUS.STATE = 1 ∨ (frm 5 7 0).ftype ≠ 1 ∧ (ln63 servingUp pRep).live (frm 5 7 0).flash = true) ∧
    (List.find? (fun y ↦ decide (y.1 = frm 5 7 0)) pRep.kept.reverse = some (frm 5 7 0, [], []))) ∧ (c13v2.runs PUN_CTL.ENABLE = true
    ∧ c13v2.laneState 63 = 5 ∧ c13v2.link.lanes[63]? = some pRep1 ∧ pRep1.replay = [frm 0 0 1] ∧ ((frm 0 0 1).ftype = 1 ∧ c13v2.f
    BMP_CC_STATUS.STATE = 1 ∨ (frm 0 0 1).ftype ≠ 1 ∧ c13v2.live (frm 0 0 1).flash = true) ∧ (List.find? (fun y ↦ decide (y.1 = frm 0
    0 1)) pRep1.kept.reverse = some (frm 0 0 1, [], [])) ∧ ((State.reset.pln 63).replay = [] ∨ State.reset.runs PUN_CTL.ENABLE = false
    ∨ State.reset.laneState 63 ≠ 5)) ∧ ((((ln63 (serving 2 true) pRep).pln 63).replay = [] ∨ (ln63 (serving 2 true) pRep).runs
    PUN_CTL.ENABLE = false ∨ (ln63 (serving 2 true) pRep).laneState 63 ≠ 5) ∧ 63 < (ln63 servingUp pRep).link.lanes.length) ∧
    ((outS.pln 63).out = [frm 5 7 0] ∧ (State.reset.pln 63).out = []) ∧ ((timed 5661).gaf.active = some k1 ∧ (frm 1 7 0).ftype = 0 ∧
    (timed 5661).live (frm 1 7 0).flash = true ∧ (timed 5661).commitTime k1 (frm 1 7 0).flash = some 59240 ∧ 59240 < ↑(timed
    5661).now100 + 2 * 1320 ∧ (timed 5661).f GAF_STATUS.HALTED ≠ 1) ∧ ((timed 0).gaf.active = some k1 ∧ (timed 0).live (frm 1 7
    0).flash = true ∧ (timed 0).commitTime k1 (frm 1 7 0).flash = some 59240 ∧ ↑(timed 0).now100 + 2 * 1320 ≤ 59240 ∧ (timed
    0).link.lanes[63]? = some p0) := by
  refine ⟨by unfold Hears; decide +kernel, by unfold HeardBefore; decide +kernel, ?_⟩
  iterate 12 refine ⟨by decide +kernel, ?_⟩
  decide +kernel

theorem witness_LaneStates :
    (5 < 256 ∧ 255 < 256 ∧ Hears (trained 3) 7 5 ∧ 4 < 256 ∧ HeardBefore (trained 3) 7 4) ∧ (Hears (eqS 4094) 7 5 ∧ (eqS
    4094).laneState 63 = 3 ∧ (eqS 4094).link.lanes[63]? = some (pEq 4094) ∧ (pEq 4094).tapReqs + 1 < 4096) ∧ (false = false ∧ Hears
    (eqS 4095) 7 5 ∧ (eqS 4095).laneState 63 = 3 ∧ (eqS 4095).link.lanes[63]? = some (pEq 4095) ∧ 4096 ≤ (pEq 4095).tapReqs + 1 ∧
    (List.replicate 8 20).length = 8 ∧ (∀ x ∈ List.replicate 8 20, -32768 ≤ x ∧ x < 32768)) ∧ (true = true ∧ Hears c13v3 7 5 ∧
    c13v3.gaf.active.isSome = true ∧ c13v3.f GAF_STATUS.HALTED ≠ 1 ∧ (trained 3).laneState (64 + 7) = 5 ∧ State.reset.laneState (64 +
    7) ≠ 5) ∧ (0 < 4 ∧ 63 / 8 = 7 ∧ (trained 3).laneState 63 = 3 ∧ (trained 3).link.lanes[63]? = some p0 ∧ tapRequest p0.taps
    p0.preset 0 0 0 = some p0.taps ∧ 1 < 4 ∧ tapRequest p0.taps p0.preset 1 0 0 = none) ∧ (State.reset.link.rets[7]? = some
    RLane.reset ∧ RLane.reset.lock = false ∧ ((trained 5).ret 7).lock = true) ∧ ((trained 5).runs PUN_CTL.ENABLE = true ∧ (trained
    5).laneState (64 + 7) ≠ 7 ∧ BitVec.toNat (hd 4) % 256 = 45 ∧ BitVec.toNat (tl 4) % 256 = 53 ∧ (BitVec.toNat (tl 4) / 2 ^ 32 ≠
    crc32c (toLE 8 (BitVec.toNat (hd 4)) ++ toLE 8 ((0 : Word).toNat) ++ toLE 8 ((0 : Word).toNat)) ∨ bits (BitVec.toNat (hd 4)) 8 4 =
    0 ∨ 5 < bits (BitVec.toNat (hd 4)) 8 4 ∨ ((trained 5).ret 7).alive = some (bits (BitVec.toNat (hd 4)) 16 8))) ∧ (BitVec.toNat (hd
    5) % 256 = 45 ∧ BitVec.toNat (tl 5) % 256 = 53 ∧ BitVec.toNat (tl 5) / 2 ^ 32 = crc32c (toLE 8 (BitVec.toNat (hd 5)) ++ toLE 8 ((0
    : Word).toNat) ++ toLE 8 ((0 : Word).toNat)) ∧ 1 ≤ bits (BitVec.toNat (hd 5)) 8 4 ∧ bits (BitVec.toNat (hd 5)) 8 4 ≤ 5 ∧ ((trained
    5).ret 7).alive ≠ some (bits (BitVec.toNat (hd 5)) 16 8)) ∧ (1 ≤ (trained 3).laneState 63 ∧ (trained 3).laneState 63 ≤ 3 ∧ 4 ≤
    (trained 4).laneState 63 ∧ (bit ((63 : Word).toNat) 0 = true ∨ bit ((63 : Word).toNat) 1 = true) ∧ State.reset.mot.flashing =
    false) ∧ ((bit ((2 : Word).toNat) 0 = true ∨ bit ((2 : Word).toNat) 1 = true) ∧ (flashes State.reset).mot.flashing = true ∧
    (flashes State.reset).laneState 71 ≠ 7 ∧ bit ((32 : Word).toNat) 0 = false ∧ bit ((32 : Word).toNat) 1 = false ∧ (st
    [(PUN_LANE_STATE.STATE 71, 7), (PUN_PRBS_CTL.GEN_EN 71, 1)]).laneState 71 = 7) ∧ (bit ((0 : Word).toNat) 0 = false ∧ bit ((0 :
    Word).toNat) 1 = false ∧ (st [(PUN_LANE_STATE.STATE 63, 7), (PUN_PRBS_CTL.CHK_EN 63, 1)]).laneState 63 = 7 ∧ (prbs []).laneState
    71 = 7 ∧ (prbs []).f (PUN_PRBS_CTL.CHK_EN 71) = 1 ∧ (prbs []).f (PUN_PRBS_CTL.SYNC 71) ≠ 1 ∧ ((prbs []).f (PUN_PRBS_CTL.LOOP 71) =
    1 ∧ (prbs []).f (PUN_PRBS_CTL.GEN_EN 71) = 1 ∨ (prbs []).f (PUN_PRBS_CTL.LOOP 71) ≠ 1 ∧ 64 ≤ 71)) ∧ ((prbsL 63).laneState 63 = 7 ∧
    (prbsL 63).f (PUN_PRBS_CTL.CHK_EN 63) = 1 ∧ (prbsL 63).f (PUN_PRBS_CTL.SYNC 63) ≠ 1 ∧ (prbsL 63).f (PUN_PRBS_CTL.LOOP 63) ≠ 1 ∧ 63
    < 64) ∧ (synced.laneState 71 = 7 ∧ synced.f (PUN_PRBS_CTL.CHK_EN 71) = 1 ∧ synced.f (PUN_PRBS_CTL.SYNC 71) = 1 ∧ 1 = min (synced.f
    (PUN_PRBS_ERR.COUNT 71) + 1) (2 ^ (PUN_PRBS_ERR.COUNT 71).w - 1) ∧ (synced.f (PUN_PRBS_CTL.LOOP 71) = 1 ∧ synced.f
    (PUN_PRBS_CTL.GEN_EN 71) = 1 ∨ synced.f (PUN_PRBS_CTL.LOOP 71) ≠ 1 ∧ 64 ≤ 71)) ∧ (synced.f (PUN_PRBS_CTL.GEN_EN 71) = 1 ∧ synced.f
    (PUN_PRBS_CTL.LOOP 71) = 1 ∧ synced.f (PUN_PRBS_CTL.RATE 71) ≠ 0) ∧ (bit ((63 : Word).toNat) 0 = true ∧ bit ((63 : Word).toNat) 1
    = true ∧ bit ((63 : Word).toNat) 4 = true ∧ bit ((63 : Word).toNat) 5 = true ∧ synced.f (PUN_PRBS_CTL.PATTERN 71) = bits ((63 :
    Word).toNat) 2 2 ∧ State.reset.laneState 71 ≠ 7) := by
  refine ⟨by unfold Hears HeardBefore; decide +kernel, by unfold Hears; decide +kernel, ⟨rfl, by unfold Hears; decide +kernel⟩, ⟨rfl,
    by unfold Hears; decide +kernel⟩, ?_⟩
  iterate 10 refine ⟨by decide +kernel, ?_⟩
  decide +kernel

/-! ## Witnesses: stage motion and the flash sequencer -/

/-- A profile within its rules. -/
def profOk : List (Fld × Nat) := [0, 100, 100, 0, 100, 100, 10, 50].zipIdx.map (fun x => (MOT_PROF.VALUE x.2, x.1))

/-- The stripe k1 is QUEUED and the motion unit enabled. -/
def queuedK (l : List (Fld × Nat)) : State :=
  let s := st ((MOT_CTL.ENABLE, 1) :: l)
  { s with gaf := { s.gaf with queued := some k1 } }

def openC : List (Fld × Nat) := [(GTH_CTX_CFG.OPEN 0, 1)]

/-- The ACTIVE stripe k1 with a latched profile. -/
def goes7 (l : List (Fld × Nat)) (f : Motion → Motion := id) : State :=
  let s := act (st l)
  { s with mot := f { s.mot with prof := [0, 100, 100, 0, 100, 100, 10, 50], vc := 100 } }
def c7v1 := queuedK [(CLU_STATUS.STATE, 3)]
def c7v2 := queuedK [(CLU_STATUS.STATE, 4)]
def c7v3 := goes7 [(MOT_STATUS.STATE, 2), (MOT_LEAD_CFG.START, 0)]
def c7v4 := goes7 [(MOT_STATUS.STATE, 2)]
def c7v5 := goes7 [(MOT_STATUS.STATE, 5)]
def c7v6 := goes7 [(MOT_STATUS.STATE, 5), (CLU_STATUS.STATE, 1), (ETH_PORT_CFG.EN 2, 1), (ETH_PORT_CFG.EN 3, 1), (ETH_PORT_CFG.ROLE 2, 2), (ETH_PORT_CFG.ROLE 3, 2)]
def c7v7 := goes7 [(MOT_STATUS.STATE, 4)]
def resumed7 (l : List (Fld × Nat)) (t0 : Nat) : State :=
  let s := goes7 ((MOT_STATUS.STATE, 6) :: l) (fun m => { m with t0 := t0 })
  { s with gaf := { s.gaf with resumeOk := true } }
def c7v8 := resumed7 [(LEH_CTL.ENABLE, 1)] 5

/-- A source sample that registered in SEQ: X moves at a speed towards flash 0. -/
def seenAt (s : State) (pos : Int) (speed : Int) : State :=
  s.modChan 0 (fun c => { c with seen := { pos := pos, speed := speed, stamp := 0 } })
def ring7 : RingStripe := { num := 1, gen := 0, ctx := 0, base := 0, nc := 9, done := 9, cols := 512, sent := 0, flashes := 512, minX0 := 0, closed := false }
def watches (l : List (Fld × Nat)) (pos : Int) (speed : Int := 107374182400) (f : Motion → Motion := id) : State :=
  let s := goes7 (l ++ lanesUp) (fun m => f { m with leadOver := true })
  let s := { s with par := { s.par with ring := [ring7] } }
  let b := { s with root := { s.root with banks := s.root.banks.map (fun b => { b with vals := [(SFB_AXIS_CFG.SRC 0, 0), (SFB_AXIS_SCALE.SCALE 0, 65536)].foldl (fun m x => mset m x.1.key x.2) b.vals }) } }
  seenAt b pos speed
def w7 := watches [(FLS_ARM.LEAD, 200)] (-650)
def w7s (m : Map Nat → Map Nat) (f : State → State := id) : State := f { w7 with root := { w7.root with banks := w7.root.banks.map (fun b => { b with vals := m b.vals }), staged := { w7.root.staged with gen := 7 } } }
def w7n := w7s (fun v => mset v PUN_KS_CTL.EN.key 1) (fun s => { s.put (GTH_CTX_CFG.OPEN 0) 1 with link := { s.link with nonces := s.link.nonces.set 0 (some 9) } })
def w7b := { w7n with mot := { w7n.mot with badNonce := true } }
def w7g := act (w7s id (fun s => { s with root := { s.root with banks := s.root.banks.map (fun b => { b with gen := 5 }) } }))
def w7l := watches [] (-100000)
def w7d := watches [] (-100)
def lk (t : Nat) (l : List (Fld × Nat)) (pos : Int) (speed : Int := 107374182400) : State :=
  watches l pos speed (fun m => { m with armed := true, begun := true, flashing := true, next := t, committed := t, a0 := [(0, 6000)] })
def lk0 := lk 0 [(FLS_CTL.DL_EN, 1)] (-100)
def lkF := lk 0 [(FLS_CTL.DL_EN, 1)] (-3000)
def lkS := lk 0 [] (-100) 100
def lkO := lk 0 [] (-100)
def lk1 := lk 1 [(FLS_CTL.DL_EN, 1)] (-100)
def lk1w : State := { lk1 with mot := { lk1.mot with a0 := [(0, 100002384 - 10600)] } }
def lk1h : State := { lk1 with mot := { lk1.mot with a0 := [(0, 100001384)] } }
def ps7 (n : Nat) (t : Nat := 0) : State := let s := lk 0 [(MOT_STATUS.STATE, 4)] (-100); { s with mot := { s.mot with struck := (t, n), committed := t + 1, next := t + 1, a0 := [(t, 6000)] } }

/-- k1 flashes in STATE 4 on a plan that cruises at 100 px/s. -/
def paced (l : List (Fld × Nat)) (cols : Nat := 0) (vc : Nat := 100) : State :=
  let s := watches ((MOT_STATUS.STATE, 4) :: (MOT_VPLAN.V, 100) :: l) (-400) 107374182400 (fun m => { m with flashing := true, begun := true, armed := true, vc := vc })
  { s with par := { s.par with total := cols, ring := [{ ring7 with cols := cols }] } }
def c7bv1 := paced [(MOT_LEAD_CFG.PACE, 3)]
def c7bv2 := paced [(MOT_LEAD_CFG.PACE, 0), (MOT_LEAD_CFG.START, 0)] 0 150
def c7bv3 := paced [(MOT_LEAD_CFG.PACE, 0), (MOT_LEAD_CFG.START, 0)] 4000000
def sp7 (l : List (Fld × Nat)) (seq : Nat := 9) : State := let s := paced ((MOT_CTL.ENABLE, 1) :: l); { s with mot := { s.mot with spSeq := seq } }
def c7bv4 := sp7 [(MOT_CTL.SP0_EN, 1), (MOT_CTL.SP1_EN, 1)] 65535
def sp7i := st [(MOT_CTL.ENABLE, 1), (MOT_CTL.SP1_EN, 1)]
def ret7 (st : Nat) (seq : Nat) : List Byte := let b : List Byte := [0x5A, BitVec.ofNat 8 st] ++ toLE 2 seq ++ List.replicate 8 0; b ++ toLE 4 (crc32c b)
def sr7 := sp7 [(MOT_CTL.SP1_EN, 1), (MOT_CTL.RET1_EN, 1)]

theorem witness_StripePhases :
    ((queuedK profOk).gaf.queued = some k1 ∧ (queuedK profOk).gaf.active = none ∧ (queuedK profOk).f MOT_CTL.ENABLE = 1 ∧ (queuedK
    profOk).safeNow = false ∧ (queuedK profOk).exposes = true ∧ (queuedK profOk).profBad = none) ∧ ((queuedK openC).gaf.queued = some
    k1 ∧ (queuedK openC).gaf.active = none ∧ (queuedK openC).f MOT_CTL.ENABLE = 1 ∧ (queuedK openC).safeNow = false ∧ (queuedK
    openC).exposes = true ∧ (queuedK openC).profBad = some 7 ∧ (queuedK openC).ctxOpen k1.ctx = true ∧ (queuedK
    openC).gather.ctxs[k1.ctx]? = some JobCtx.empty ∧ JobCtx.empty.halt = none) ∧ ((State.reset.f MOT_CTL.ENABLE ≠ 1 ∨
    State.reset.gaf.queued = none ∨ State.reset.gaf.active ≠ none ∨ State.reset.exposes = false) ∧ (c7v1.f MOT_CTL.ENABLE ≠ 1 ∨
    c7v1.gaf.queued = none ∨ c7v1.gaf.active ≠ none ∨ c7v1.exposes = false) ∧ (st [(MOT_STATUS.STATE, 1)]).f MOT_STATUS.STATE = 1 ∧
    (st [(MOT_STATUS.STATE, 2)]).f MOT_STATUS.STATE ≠ 1 ∧ c7v3.gaf.active = some k1 ∧ c7v3.f MOT_STATUS.STATE = 2 ∧ ↑(c7v3.f
    MOT_LEAD_CFG.START) ≤ c7v3.lambda) ∧ (c7v4.gaf.active = some k1 ∧ c7v4.f MOT_STATUS.STATE = 2 ∧ c7v4.lambda < ↑(c7v4.f
    MOT_LEAD_CFG.START) ∧ c7v5.gaf.active = some k1 ∧ c7v5.safeNow = false ∧ (c7v5.f MOT_STATUS.STATE = 5 ∨ c7v5.gaf.ending = true)) ∧
    (c7v6.gaf.active = some k1 ∧ c7v6.safeNow = false ∧ (c7v6.f MOT_STATUS.STATE = 5 ∨ c7v6.gaf.ending = true) ∧ c7v7.gaf.active =
    some k1 ∧ c7v7.safeNow = false ∧ c7v7.f MOT_STATUS.STATE ≠ 5 ∧ c7v7.gaf.ending = false) ∧ ((resumed7 [] 512).gaf.active = some k1
    ∧ (resumed7 [] 512).f MOT_STATUS.STATE = 6 ∧ (resumed7 [] 512).gaf.resumeOk = true ∧ (resumed7 [] 512).f GAF_STATUS.HALTED ≠ 1 ∧
    (resumed7 [] 512).safeNow = false ∧ (resumed7 [] 512).nf k1 ≤ (resumed7 [] 512).mot.t0) ∧ (c7v8.gaf.active = some k1 ∧ c7v8.f
    MOT_STATUS.STATE = 6 ∧ c7v8.gaf.resumeOk = true ∧ c7v8.f GAF_STATUS.HALTED ≠ 1 ∧ c7v8.safeNow = false ∧ c7v8.mot.t0 < c7v8.nf k1 ∧
    State.reset.gaf.resumeOk = false) := by
  iterate 6 refine ⟨by decide +kernel, ?_⟩
  decide +kernel

theorem witness_FlashSequencer :
    (w7.gaf.active = some k1 ∧ w7.watching = true ∧ w7.armAhead k1 = some 15497 ∧ w7.armMin k1 ≤ 15497 ∧ w7.mayArm k1 = true ∧
    w7.itemGate 3 k1.num k1.gen = (w7, true) ∧ w7.nonceBad k1 = false) ∧ (w7n.gaf.active = some k1 ∧ w7n.watching = true ∧
    w7n.armAhead k1 = some 15497 ∧ w7n.armMin k1 ≤ 15497 ∧ w7n.mayArm k1 = true ∧ w7n.itemGate 3 k1.num k1.gen = (w7n, true) ∧
    w7n.nonceBad k1 = true ∧ w7n.mot.badNonce = false) ∧ (w7n.ctxOpen k1.ctx = true ∧ w7n.gather.ctxs[k1.ctx]? = some JobCtx.empty ∧
    JobCtx.empty.halt = none) ∧ (w7b.gaf.active = some k1 ∧ w7b.watching = true ∧ w7b.armAhead k1 = some 15497 ∧ w7b.armMin k1 ≤ 15497
    ∧ w7b.mayArm k1 = true ∧ w7b.itemGate 3 k1.num k1.gen = (w7b, true) ∧ w7b.nonceBad k1 = true ∧ w7b.mot.badNonce = true) ∧
    (w7g.gaf.active = some k1 ∧ w7g.watching = true ∧ w7g.armAhead k1 = some 15497 ∧ w7g.armMin k1 ≤ 15497 ∧ w7g.mayArm k1 = true ∧
    w7g.itemGate 3 k1.num k1.gen = ((w7g.itemGate 3 1 0).1, false)) ∧ (w7l.gaf.active = some k1 ∧ w7l.watching = true ∧ w7l.armAhead
    k1 = some 2384186 ∧ w7l.armMin k1 ≤ 2384186 ∧ w7l.mayArm k1 = false) ∧ (w7d.gaf.active = some k1 ∧ w7d.watching = true ∧
    w7d.armAhead k1 = some 2384 ∧ 2384 < w7d.armMin k1 ∧ (State.reset.watching = false ∨ State.reset.gaf.active = none)) ∧
    (lkF.gaf.active = some k1 ∧ lkF.live lkF.mot.next = true ∧ lkF.mot.next < lkF.nf k1 ∧ lkF.lockFar k1 lkF.mot.next = true) ∧
    (lkS.gaf.active = some k1 ∧ lkS.live lkS.mot.next = true ∧ lkS.mot.next < lkS.nf k1 ∧ lkS.lockFar k1 lkS.mot.next = false ∧
    (lkS.slow k1 = true ∨ lkS.predict k1 lkS.mot.next = none) ∧ lkS.f GAF_STATUS.HALTED ≠ 1) ∧ (lk0.gaf.active = some k1 ∧ lk0.live
    lk0.mot.next = true ∧ lk0.mot.next < lk0.nf k1 ∧ lk0.lockFar k1 lk0.mot.next = false ∧ lk0.slow k1 = false ∧ lk0.predict k1
    lk0.mot.next = some 2384 ∧ lk0.mot.next = lk0.mot.t0) ∧ (lkO.gaf.active = some k1 ∧ lkO.live lkO.mot.next = true ∧ lkO.mot.next <
    lkO.nf k1 ∧ lkO.lockFar k1 lkO.mot.next = false ∧ lkO.slow k1 = false ∧ lkO.predict k1 lkO.mot.next = some 2384 ∧ lkO.mot.next =
    lkO.mot.t0) ∧ (lk1.gaf.active = some k1 ∧ lk1.live lk1.mot.next = true ∧ lk1.mot.next < lk1.nf k1 ∧ lk1.lockFar k1 lk1.mot.next =
    false ∧ lk1.slow k1 = false ∧ lk1.predict k1 lk1.mot.next = some 100002384 ∧ lk1.mot.next ≠ lk1.mot.t0 ∧ mget lk1.mot.a0
    (lk1.mot.next - 1) = some 6000 ∧ 6000 + ↑(lk1.tMin k1.gen) ≤ 100002384) ∧ (lk1w.gaf.active = some k1 ∧ lk1w.live lk1w.mot.next =
    true ∧ lk1w.mot.next < lk1w.nf k1 ∧ lk1w.lockFar k1 lk1w.mot.next = false ∧ lk1w.slow k1 = false ∧ lk1w.predict k1 lk1w.mot.next =
    some 100002384 ∧ lk1w.mot.next ≠ lk1w.mot.t0 ∧ mget lk1w.mot.a0 (lk1w.mot.next - 1) = some 99991784 ∧ 99991784 + ↑(lk1w.tMin
    k1.gen) ≤ 100002384) ∧ (lk1h.gaf.active = some k1 ∧ lk1h.live lk1h.mot.next = true ∧ lk1h.mot.next < lk1h.nf k1 ∧ lk1h.lockFar k1
    lk1h.mot.next = false ∧ lk1h.slow k1 = false ∧ lk1h.predict k1 lk1h.mot.next = some 100002384 ∧ lk1h.mot.next ≠ lk1h.mot.t0 ∧ mget
    lk1h.mot.a0 (lk1h.mot.next - 1) = some 100001384 ∧ 100002384 < 100001384 + ↑(lk1h.tMin k1.gen) ∧ lk1h.f GAF_STATUS.HALTED ≠ 1) ∧
    ((State.reset.gaf.active = none ∨ State.reset.live State.reset.mot.next = false) ∧ (ps7 0).gaf.active = some k1 ∧ (ps7
    0).mot.struck = (0, 0) ∧ mget (ps7 0).mot.a0 0 = some 6000 ∧ (ps7 0).live 0 = true ∧ 0 < (ps7 0).mot.committed ∧ 0 < (ps7 0).nf
    k1) ∧ ((ps7 7).gaf.active = some k1 ∧ (ps7 7).mot.struck = (0, 7) ∧ mget (ps7 7).mot.a0 0 = some 6000 ∧ (ps7 7).live 0 = true ∧ 0
    < (ps7 7).mot.committed ∧ 0 < (ps7 7).nf k1) ∧ ((ps7 7 511).gaf.active = some k1 ∧ (ps7 7 511).mot.struck = (511, 7) ∧ mget (ps7 7
    511).mot.a0 511 = some 6000 ∧ (ps7 7 511).live 511 = true ∧ 511 < (ps7 7 511).mot.committed ∧ 511 < (ps7 7 511).nf k1 ∧
    State.reset.mot.committed ≤ State.reset.mot.struck.1) := by
  iterate 16 refine ⟨by decide +kernel, ?_⟩
  decide +kernel

theorem witness_PacingAndServo :
    (c7bv1.gaf.active = some k1 ∧ c7bv1.mot.flashing = true ∧ c7bv1.f MOT_STATUS.STATE = 4 ∧ c7bv1.closing k1 = false ∧ c7bv1.lambda <
    ↑(c7bv1.f MOT_LEAD_CFG.PACE) ∧ c7bv1.paceTarget < c7bv1.f MOT_VPLAN.V) ∧ (c7bv2.gaf.active = some k1 ∧ c7bv2.mot.flashing = true ∧
    c7bv2.f MOT_STATUS.STATE = 4 ∧ c7bv2.closing k1 = false ∧ ↑(c7bv2.f MOT_LEAD_CFG.PACE) ≤ c7bv2.lambda ∧ ↑(c7bv2.f
    MOT_LEAD_CFG.START) ≤ c7bv2.lambda ∧ c7bv2.f MOT_VPLAN.V < c7bv2.mot.vc) ∧ (c7bv3.gaf.active = some k1 ∧ c7bv3.mot.flashing = true
    ∧ c7bv3.f MOT_STATUS.STATE = 4 ∧ c7bv3.closing k1 = false ∧ c7bv3.f MOT_VPLAN.V ≤ c7bv3.paceTarget ∧ c7bv3.mot.vc ≤ c7bv3.f
    MOT_VPLAN.V ∧ (State.reset.gaf.active = none ∨ State.reset.mot.flashing = false ∨ State.reset.f MOT_STATUS.STATE ≠ 4 ∨ ∃ k,
    State.reset.gaf.active = some k ∧ State.reset.closing k = true)) ∧ (c7bv4.f MOT_CTL.ENABLE = 1 ∧ c7bv4.gaf.active = some k1 ∧
    c7bv4.f MOT_CTL.RET0_EN ≠ 1 ∧ c7bv4.f MOT_CTL.RET1_EN ≠ 1) ∧ (sp7i.f MOT_CTL.ENABLE = 1 ∧ sp7i.gaf.active = none ∧ sp7i.f
    MOT_CTL.RET0_EN ≠ 1 ∧ sp7i.f MOT_CTL.RET1_EN ≠ 1 ∧ State.reset.f MOT_CTL.ENABLE ≠ 1) ∧ (sr7.f MOT_CTL.ENABLE = 1 ∧ sr7.checksPort
    1 = true ∧ returnOk ((ret7 1 8).set 3 1) = false) ∧ (returnOk (ret7 1 6) = true ∧ 6 = ofLE (List.take 2 (List.drop 2 (ret7 1 6)))
    ∧ bit (BitVec.toNat ((ret7 1 6).getD 1 0)) 0 = true ∧ bit (BitVec.toNat ((ret7 1 6).getD 1 0)) 1 = false ∧ (sr7.mot.spSeq + 131071
    - 6) % 65536 ≤ 2) ∧ (returnOk (ret7 1 5) = true ∧ 5 = ofLE (List.take 2 (List.drop 2 (ret7 1 5))) ∧ (bit (BitVec.toNat ((ret7 1
    5).getD 1 0)) 0 = false ∨ bit (BitVec.toNat ((ret7 1 5).getD 1 0)) 1 = true ∨ 2 < (sr7.mot.spSeq + 131071 - 5) % 65536) ∧ returnOk
    (ret7 3 8) = true ∧ 8 = ofLE (List.take 2 (List.drop 2 (ret7 3 8))) ∧ (bit (BitVec.toNat ((ret7 3 8).getD 1 0)) 0 = false ∨ bit
    (BitVec.toNat ((ret7 3 8).getD 1 0)) 1 = true ∨ 2 < (sr7.mot.spSeq + 131071 - 8) % 65536)) ∧ (returnOk (ret7 0 8) = true ∧ 8 =
    ofLE (List.take 2 (List.drop 2 (ret7 0 8))) ∧ (bit (BitVec.toNat ((ret7 0 8).getD 1 0)) 0 = false ∨ bit (BitVec.toNat ((ret7 0
    8).getD 1 0)) 1 = true ∨ 2 < (sr7.mot.spSeq + 131071 - 8) % 65536) ∧ sp7i.checksPort 1 = false) := by
  iterate 8 refine ⟨by decide +kernel, ?_⟩
  decide +kernel

/-! ## Witnesses: stage feedback -/

/-- Channel n is on, with register fields and a change of what it holds beside them. -/
def chn (n : Nat) (l : List (Fld × Nat)) (f : Chan → Chan := id) : State :=
  (st ((SFB_CTL.ENABLE, 1) :: (SFB_CH_CFG.EN n, 1) :: l)).modChan n (fun c => f { c with track := true })
def qd (inv : Nat) (level raw a b : Nat) : State := chn 4 [(SFB_CH_CFG.DIR_INV 4, inv)] (fun c => { c with level := level, raw := raw, aAt := a, bAt := b })
def ae (n : Nat) (l : List (Fld × Nat)) (f : Chan → Chan := id) : State := chn n ([(SFB_AE_AMP_LO.A2 n, 100), (SFB_AE_AMP_HI.A2 n, 4000000), (SFB_AE_GAIN.GAIN_C n, 4096)] ++ l) f
def aeU (s : State) (a b : Nat) : State := (s.put (SFB_AE_RAW.SIN 3) a).put (SFB_AE_RAW.COS 3) b
def ae0 := ae 3 [] (fun c => { c with track := false })
def ae1 := ae 3 [(SFB_CH_CFG.FILT 3, 2)] (fun c => { c with bad := 1 })
def ae2 := ae 3 [(SFB_CH_CFG.FILT 3, 2)] (fun c => { c with bad := 2 })
def ae3 := ae 3 []
def ae4 (p inv : Nat) := ae 3 [(SFB_CH_CFG.DIR_INV 3, inv)] (fun c => { c with phi := some p })
def se (r : Bool) (l : List (Fld × Nat)) (f : Chan → Chan := id) : State := chn 9 ([(SFB_SE_CFG.BITS 1, 8), (SFB_SE_CFG.PBITS 1, 8)] ++ l) (fun c => f { c with reading := r, latch := 500 })
def c8v1 := se false [(SFB_SE_CFG.DOUBLE 1, 1)]
def seU := se true [] (fun c => { c with track := false })
def seJ := se true [(SFB_SE_JUMP.JUMP 1, 3)] (fun c => { c with lastSsi := some ⟨1, 1000⟩ })
def fr4 : List Bool := [false, false, false, false, false, true, true, false]
def fr5 : List Bool := [false, false, false, false, false, true, true, true]
def re8 := chn 17 [] (fun c => { c with track := false, lastSsi := some ⟨1, 1000⟩ })
def en8 := st [(SFB_CTL.ENABLE, 1)]
def ix8 (l : List (Fld × Nat)) (f : Chan → Chan := id) (n : Nat := 7) : State :=
  chn n ([(SFB_CH_CFG.IDX_EN n, 1), (SFB_CH_STATUS.POS_VALID n, 1), (SFB_CH_POS.POS n, 1000)] ++ l) f
def ix8a := ix8 [(SFB_CH_CFG.IDX_EDGE 3, 1)] id 3
def ix8r := ix8 [(SFB_CH_IDX_TOL.TOL 7, 4)] (fun c => { c with idxRef := some 995 })
def ix8s := ix8 [(SFB_CH_IDX_TOL.TOL 7, 4)] (fun c => { c with idxRef := some 1000 })
def ss8 := chn 17 [(SFB_CH_SPEED.DIR 17, 1), (SFB_CH_POS.POS 17, 5)] (fun c => { c with run := [⟨3, 0⟩], dir := some true })
def ss8n := chn 17 [(SFB_CH_SPEED.DIR 17, 1), (SFB_CH_POS.POS 17, 5)] (fun c => { c with run := [⟨3, 600⟩], dir := some true, edgeAt := 50 })
def cp8 (p : Nat) := chn 17 [(SFB_CH_STATUS.POS_VALID 17, 1), (SFB_CH_POS.POS 17, p), (SFB_CMP_TARGET.TARGET 3, 10)]
def em8 (p : Nat) := chn 17 [(SFB_EMU_CTL.EN 1, 1), (SFB_EMU_CTL.SRC 1, 17), (SFB_CH_POS.POS 17, p), (SFB_EMU_RATIO.MUL 1, 1), (SFB_EMU_RATIO.DIV 1, 1)]

def c8q1 : Emu := { c0 := 0, out := 0 }

theorem witness_FeedbackChannels :
    (true = true ∧ (qd 0 3 0 7 7).chOn 4 = true ∧ (qd 0 3 0 7 7).chans[4]? = some ((qd 0 3 0 7 7).chan 4) ∧ ((qd 0 3 0 7 7).chan
    4).track = true ∧ true = (decide (((qd 0 3 0 7 7).chan 4).aAt = 7) && bit ((qd 0 3 0 7 7).chan 4).raw 0 != bit ((qd 0 3 0 7
    7).chan 4).level 0) ∧ true = (decide (((qd 0 3 0 7 7).chan 4).bAt = 7) && bit ((qd 0 3 0 7 7).chan 4).raw 1 != bit ((qd 0 3 0 7
    7).chan 4).level 1) ∧ (0 = b2n (if true = true then bit ((qd 0 3 0 7 7).chan 4).raw 0 else bit ((qd 0 3 0 7 7).chan 4).level 0) +
    2 * b2n (if true = true then bit ((qd 0 3 0 7 7).chan 4).raw 1 else bit ((qd 0 3 0 7 7).chan 4).level 1))) ∧ (false = false ∧ (qd
    0 3 0 6 6).chOn 4 = true ∧ (qd 0 3 0 6 6).chans[4]? = some ((qd 0 3 0 6 6).chan 4) ∧ ((qd 0 3 0 6 6).chan 4).track = true ∧ false
    = (decide (((qd 0 3 0 6 6).chan 4).aAt = 7) && bit ((qd 0 3 0 6 6).chan 4).raw 0 != bit ((qd 0 3 0 6 6).chan 4).level 0) ∧ false =
    (decide (((qd 0 3 0 6 6).chan 4).bAt = 7) && bit ((qd 0 3 0 6 6).chan 4).raw 1 != bit ((qd 0 3 0 6 6).chan 4).level 1) ∧ (3 = b2n
    (if false = true then bit ((qd 0 3 0 6 6).chan 4).raw 0 else bit ((qd 0 3 0 6 6).chan 4).level 0) + 2 * b2n (if false = true then
    bit ((qd 0 3 0 6 6).chan 4).raw 1 else bit ((qd 0 3 0 6 6).chan 4).level 1))) ∧ (isQuad 17 = true ∧ State.reset.chans[17]? = some
    Chan.reset ∧ 0 = cdiv (State.reset.mono100 * 2) (sampleGap 17) ∧ 2 % 4 ≠ Chan.reset.raw ∧ 4 % 4 = Chan.reset.raw ∧ isQuad 9 =
    false) ∧ ((qd 0 0 1 7 0).chOn 4 = true ∧ (qd 0 0 1 7 0).chans[4]? = some ((qd 0 0 1 7 0).chan 4) ∧ ((qd 0 0 1 7 0).chan 4).track =
    true ∧ true = (decide (((qd 0 0 1 7 0).chan 4).aAt = 7) && bit ((qd 0 0 1 7 0).chan 4).raw 0 != bit ((qd 0 0 1 7 0).chan 4).level
    0) ∧ false = (decide (((qd 0 0 1 7 0).chan 4).bAt = 7) && bit ((qd 0 0 1 7 0).chan 4).raw 1 != bit ((qd 0 0 1 7 0).chan 4).level
    1) ∧ (1 = b2n (if true = true then bit ((qd 0 0 1 7 0).chan 4).raw 0 else bit ((qd 0 0 1 7 0).chan 4).level 0) + 2 * b2n (if false
    = true then bit ((qd 0 0 1 7 0).chan 4).raw 1 else bit ((qd 0 0 1 7 0).chan 4).level 1)) ∧ true ≠ false ∧ (1 = 1 ∧ (grayPlace 1 +
    4 - grayPlace ((qd 0 0 1 7 0).chan 4).level) % 4 = 1 ∨ 1 = -1 ∧ (grayPlace 1 + 4 - grayPlace ((qd 0 0 1 7 0).chan 4).level) % 4 ≠
    1)) ∧ ((qd 1 0 2 0 7).chOn 4 = true ∧ (qd 1 0 2 0 7).chans[4]? = some ((qd 1 0 2 0 7).chan 4) ∧ ((qd 1 0 2 0 7).chan 4).track =
    true ∧ false = (decide (((qd 1 0 2 0 7).chan 4).aAt = 7) && bit ((qd 1 0 2 0 7).chan 4).raw 0 != bit ((qd 1 0 2 0 7).chan 4).level
    0) ∧ true = (decide (((qd 1 0 2 0 7).chan 4).bAt = 7) && bit ((qd 1 0 2 0 7).chan 4).raw 1 != bit ((qd 1 0 2 0 7).chan 4).level 1)
    ∧ (2 = b2n (if false = true then bit ((qd 1 0 2 0 7).chan 4).raw 0 else bit ((qd 1 0 2 0 7).chan 4).level 0) + 2 * b2n (if true =
    true then bit ((qd 1 0 2 0 7).chan 4).raw 1 else bit ((qd 1 0 2 0 7).chan 4).level 1)) ∧ false ≠ true ∧ (-1 = 1 ∧ (grayPlace 2 + 4
    - grayPlace ((qd 1 0 2 0 7).chan 4).level) % 4 = 1 ∨ -1 = -1 ∧ (grayPlace 2 + 4 - grayPlace ((qd 1 0 2 0 7).chan 4).level) % 4 ≠
    1)) ∧ (State.reset.chOn 3 = false ∧ ae0.chOn 3 = true ∧ ae0.chans[3]? = some (ae0.chan 3) ∧ aeU ae0 0 0 = (ae0.put (SFB_AE_RAW.SIN
    3) 0).put (SFB_AE_RAW.COS 3) 0 ∧ (ae0.chan 3).track = false) ∧ (ae1.chOn 3 = true ∧ ae1.chans[3]? = some (ae1.chan 3) ∧ aeU ae1
    2048 2048 = (ae1.put (SFB_AE_RAW.SIN 3) 2048).put (SFB_AE_RAW.COS 3) 2048 ∧ (ae1.chan 3).track = true ∧ 0 = ↑(2048 % 4096) - 2048
    - ae1.fs (SFB_AE_CORR.OFF_S 3) ∧ 0 = rne ((↑(2048 % 4096) - 2048 - ae1.fs (SFB_AE_CORR.OFF_C 3)) * ↑(ae1.f (SFB_AE_GAIN.GAIN_C
    3))) 4096 ∧ (0 * 0 + 0 * 0 < ↑(ae1.f (SFB_AE_AMP_LO.A2 3)) ∨ ↑(ae1.f (SFB_AE_AMP_HI.A2 3)) < 0 * 0 + 0 * 0) ∧ (ae1.chan 3).bad <
    ae1.f (SFB_CH_CFG.FILT 3)) ∧ (ae2.chOn 3 = true ∧ ae2.chans[3]? = some (ae2.chan 3) ∧ aeU ae2 2048 2048 = (ae2.put (SFB_AE_RAW.SIN
    3) 2048).put (SFB_AE_RAW.COS 3) 2048 ∧ (ae2.chan 3).track = true ∧ 0 = ↑(2048 % 4096) - 2048 - ae2.fs (SFB_AE_CORR.OFF_S 3) ∧ 0 =
    rne ((↑(2048 % 4096) - 2048 - ae2.fs (SFB_AE_CORR.OFF_C 3)) * ↑(ae2.f (SFB_AE_GAIN.GAIN_C 3))) 4096 ∧ (0 * 0 + 0 * 0 < ↑(ae2.f
    (SFB_AE_AMP_LO.A2 3)) ∨ ↑(ae2.f (SFB_AE_AMP_HI.A2 3)) < 0 * 0 + 0 * 0) ∧ ae2.f (SFB_CH_CFG.FILT 3) ≤ (ae2.chan 3).bad) ∧ (ae3.chOn
    3 = true ∧ ae3.chans[3]? = some (ae3.chan 3) ∧ aeU ae3 2048 3048 = (ae3.put (SFB_AE_RAW.SIN 3) 2048).put (SFB_AE_RAW.COS 3) 3048 ∧
    (ae3.chan 3).track = true ∧ 0 = ↑(2048 % 4096) - 2048 - ae3.fs (SFB_AE_CORR.OFF_S 3) ∧ 1000 = rne ((↑(3048 % 4096) - 2048 - ae3.fs
    (SFB_AE_CORR.OFF_C 3)) * ↑(ae3.f (SFB_AE_GAIN.GAIN_C 3))) 4096 ∧ ↑(ae3.f (SFB_AE_AMP_LO.A2 3)) ≤ 0 * 0 + 1000 * 1000 ∧ 0 * 0 +
    1000 * 1000 ≤ ↑(ae3.f (SFB_AE_AMP_HI.A2 3)) ∧ (((aeU ae3 2048 3048).modChan 3 fun c ↦ { c with bad := 0 }).phi 0 1000 = (0, (aeU
    ae3 2048 3048).modChan 3 fun c ↦ { c with bad := 0 })) ∧ (ae3.chan 3).phi = none) ∧ ((ae4 2560 1).chOn 3 = true ∧ (ae4 2560
    1).chans[3]? = some ((ae4 2560 1).chan 3) ∧ aeU (ae4 2560 1) 2048 3048 = ((ae4 2560 1).put (SFB_AE_RAW.SIN 3) 2048).put
    (SFB_AE_RAW.COS 3) 3048 ∧ ((ae4 2560 1).chan 3).track = true ∧ 0 = ↑(2048 % 4096) - 2048 - (ae4 2560 1).fs (SFB_AE_CORR.OFF_S 3) ∧
    1000 = rne ((↑(3048 % 4096) - 2048 - (ae4 2560 1).fs (SFB_AE_CORR.OFF_C 3)) * ↑((ae4 2560 1).f (SFB_AE_GAIN.GAIN_C 3))) 4096 ∧
    ↑((ae4 2560 1).f (SFB_AE_AMP_LO.A2 3)) ≤ 0 * 0 + 1000 * 1000 ∧ 0 * 0 + 1000 * 1000 ≤ ↑((ae4 2560 1).f (SFB_AE_AMP_HI.A2 3))) ∧
    ((((aeU (ae4 2560 1) 2048 3048).modChan 3 fun c ↦ { c with bad := 0 }).phi 0 1000 = (0, (aeU (ae4 2560 1) 2048 3048).modChan 3 fun
    c ↦ { c with bad := 0 })) ∧ ((ae4 2560 1).chan 3).phi = some 2560 ∧ 1536 = ((0 : Int) - 2560 + 2048) % 4096 - 2048 ∧ Int.natAbs
    1536 ≤ 1536) ∧ ((ae4 2559 0).chOn 3 = true ∧ (ae4 2559 0).chans[3]? = some ((ae4 2559 0).chan 3) ∧ aeU (ae4 2559 0) 2048 3048 =
    ((ae4 2559 0).put (SFB_AE_RAW.SIN 3) 2048).put (SFB_AE_RAW.COS 3) 3048 ∧ ((ae4 2559 0).chan 3).track = true ∧ 0 = ↑(2048 % 4096) -
    2048 - (ae4 2559 0).fs (SFB_AE_CORR.OFF_S 3) ∧ 1000 = rne ((↑(3048 % 4096) - 2048 - (ae4 2559 0).fs (SFB_AE_CORR.OFF_C 3)) *
    ↑((ae4 2559 0).f (SFB_AE_GAIN.GAIN_C 3))) 4096 ∧ ↑((ae4 2559 0).f (SFB_AE_AMP_LO.A2 3)) ≤ 0 * 0 + 1000 * 1000 ∧ 0 * 0 + 1000 *
    1000 ≤ ↑((ae4 2559 0).f (SFB_AE_AMP_HI.A2 3))) ∧ ((((aeU (ae4 2559 0) 2048 3048).modChan 3 fun c ↦ { c with bad := 0 }).phi 0 1000
    = (0, (aeU (ae4 2559 0) 2048 3048).modChan 3 fun c ↦ { c with bad := 0 })) ∧ ((ae4 2559 0).chan 3).phi = some 2559 ∧ 1537 = ((0 :
    Int) - 2559 + 2048) % 4096 - 2048 ∧ 1536 < Int.natAbs 1537 ∧ c8v1.chOn (8 + 1) = true ∧ c8v1.chans[8 + 1]? = some ((se false
    []).chan 9) ∧ ((se false []).chan 9).reading = false) ∧ ((se true []).chOn (8 + 1) = true ∧ (se true []).chans[8 + 1]? = some ((se
    true []).chan 9) ∧ ((se true []).chan 9).reading = true ∧ (se false []).chOn (8 + 1) = true ∧ (se false []).chans[8 + 1]? = some
    ((se false []).chan 9)) ∧ (seU.chOn (8 + 1) = true ∧ seU.chans[8 + 1]? = some (seU.chan 9) ∧ (seU.chan 9).reading = true ∧
    (seU.chan 9).track = false) ∧ (seJ.chOn (8 + 1) = true ∧ seJ.chans[8 + 1]? = some (seJ.chan 9) ∧ (seJ.chan 9).reading = true ∧
    (seJ.chan 9).track = true ∧ 4 = msbFirst (decide (seJ.f (SFB_SE_CFG.GRAY 1) = 1)) (List.take (seJ.sePbits 1) fr4) false 0 ∧
    seJ.seCause 1 true fr4 4 = 0) ∧ (5 = msbFirst (decide (seJ.f (SFB_SE_CFG.GRAY 1) = 1)) (List.take (seJ.sePbits 1) fr5) false 0 ∧
    seJ.seCause 1 true fr5 5 ≠ 0 ∧ seJ.seCause 1 false fr4 4 ≠ 0 ∧ State.reset.chOn (8 + 1) = false) ∧ (re8.chOn 17 = true ∧
    re8.chans[17]? = some (re8.chan 17) ∧ bit ((4241 : Word).toNat) 0 = true ∧ bit ((4241 : Word).toNat) 12 = true ∧ (re8.chan
    17).track = false ∧ bit ((0 : Word).toNat) 0 = false) ∧ (en8.chOn 17 = false ∧ en8.chans[17]? = some Chan.reset ∧ en8.f
    SFB_CTL.ENABLE = 1 ∧ bit ((4097 : Word).toNat) 0 = true ∧ bit ((4097 : Word).toNat) 12 = true ∧ en8.chOn 9 = false ∧ en8.chans[9]?
    = some Chan.reset) ∧ (bit ((1 : Word).toNat) 12 = false ∧ bit ((1 : Word).toNat) 0 = true) := by
  refine ⟨⟨rfl, by decide +kernel⟩, ⟨rfl, by decide +kernel⟩, ?_⟩
  iterate 17 refine ⟨by decide +kernel, ?_⟩
  decide +kernel

theorem witness_FeedbackFunctions :
    ((ix8 []).latchIndex 7 5 = (ix8 []).latchIndex 7 5 ∧ (chn 7 []).chans[7]? = some ((chn 7 []).chan 7) ∧ (chn 7 []).f
    (SFB_CH_STATUS.POS_VALID 7) ≠ 1 ∧ ((ix8 []).chan 7).idxRef = none) ∧ (ix8r.latchIndex 7 5 = ix8r.latchIndex 7 5 ∧ ix8r.chans[7]? =
    some (ix8r.chan 7) ∧ ix8r.f (SFB_CH_STATUS.POS_VALID 7) = 1 ∧ (ix8r.chan 7).idxRef = some 995 ∧ ix8r.f (SFB_CH_IDX_PITCH.PITCH 7)
    = 0 ∧ ix8r.f (SFB_CH_IDX_TOL.TOL 7) < (ix8r.chPos 7 - 995).natAbs) ∧ (ix8s.latchIndex 7 5 = ix8s.latchIndex 7 5 ∧ ix8s.chans[7]? =
    some (ix8s.chan 7) ∧ ix8s.f (SFB_CH_STATUS.POS_VALID 7) = 1 ∧ (ix8s.chan 7).idxRef = some 1000 ∧ ix8s.chPos 7 = 1000 ∧ bit
    ((2147483651 : Word).toNat) 31 = true ∧ bit ((2147483647 : Word).toNat) 31 = false) ∧ ((State.reset.chOn 7 = false ∨ State.reset.f
    (SFB_CH_CFG.IDX_EN 7) ≠ 1 ∨ State.reset.f (SFB_CH_STATUS.POS_VALID 7) ≠ 1) ∧ ix8a.chOn 3 = true ∧ ix8a.f (SFB_CH_CFG.IDX_EN 3) = 1
    ∧ ix8a.f (SFB_CH_STATUS.POS_VALID 3) = 1 ∧ ix8a.chans[3]? = some (ix8a.chan 3) ∧ true = decide (ix8a.f (SFB_CH_CFG.IDX_EDGE 3) =
    1) ∧ isAe 3 = true) ∧ ((ix8 []).chOn 7 = true ∧ (ix8 []).f (SFB_CH_CFG.IDX_EN 7) = 1 ∧ (ix8 []).f (SFB_CH_STATUS.POS_VALID 7) = 1
    ∧ (ix8 []).chans[7]? = some ((ix8 []).chan 7) ∧ false = decide ((ix8 []).f (SFB_CH_CFG.IDX_EDGE 7) = 1) ∧ isAe 7 = false) ∧ (((chn
    9 []).chOn 9 = false ∨ isSe 9 = true ∨ (chn 9 []).edgeNow 9 = true) ∧ (ss8.chOn 17 = false ∨ isSe 17 = true ∨ ss8.edgeNow 17 =
    true) ∧ ss8.later = [] ∧ ss8n.chOn 17 = true ∧ isSe 17 = false ∧ ss8n.edgeNow 17 = false ∧ ss8n.chans[17]? = some (ss8n.chan 17))
    ∧ (bit ((65361 : Word).toNat) 6 = true ∧ 17 = bits ((65361 : Word).toNat) 0 5 ∧ 17 < 18 ∧ (cp8 9).f (SFB_CH_STATUS.POS_VALID 17) =
    1 ∧ (bit ((65361 : Word).toNat) 5 = true ∧ (cp8 9).fs (SFB_CMP_TARGET.TARGET 3) < (cp8 9).chPos 17 ∨ bit ((65361 : Word).toNat) 5
    = false ∧ (cp8 9).chPos 17 < (cp8 9).fs (SFB_CMP_TARGET.TARGET 3))) ∧ (bit ((65393 : Word).toNat) 6 = true ∧ 17 = bits ((65393 :
    Word).toNat) 0 5 ∧ (cp8 11).f (SFB_CH_STATUS.POS_VALID 17) = 1 ∧ (bit ((65393 : Word).toNat) 5 = true ∧ (cp8 11).fs
    (SFB_CMP_TARGET.TARGET 3) < (cp8 11).chPos 17 ∨ bit ((65393 : Word).toNat) 5 = false ∧ (cp8 11).chPos 17 < (cp8 11).fs
    (SFB_CMP_TARGET.TARGET 3)) ∧ (cp8 10).f (SFB_CH_STATUS.POS_VALID 17) = 1 ∧ (cp8 10).chPos 17 = (cp8 10).fs (SFB_CMP_TARGET.TARGET
    3) ∧ bit ((65471 : Word).toNat) 6 = false) ∧ ((-1 = if (cp8 9).f (SFB_CMP_CTL.DIR 3) = 1 then (cp8 9).fs (SFB_CMP_TARGET.TARGET 3)
    - 9 else 9 - (cp8 9).fs (SFB_CMP_TARGET.TARGET 3)) ∧ -1 < 0 ∧ (0 = if (cp8 9).f (SFB_CMP_CTL.DIR 3) = 1 then (cp8 9).fs
    (SFB_CMP_TARGET.TARGET 3) - 10 else 10 - (cp8 9).fs (SFB_CMP_TARGET.TARGET 3)) ∧ 0 ≤ 0 ∧ (cp8 9).f (SFB_CMP_STEP.STEP 3) = 0) ∧
    ((em8 65536).f (SFB_EMU_CTL.EN 1) = 1 ∧ (em8 65536).f (SFB_EMU_CTL.OVR 1) ≠ 1 ∧ 65535 < ((em8 65536).emuLag 1).natAbs ∧ (em8
    65535).f (SFB_EMU_CTL.EN 1) = 1 ∧ (em8 65535).f (SFB_EMU_CTL.OVR 1) ≠ 1 ∧ ((em8 65535).emuLag 1).natAbs ≤ 65535 ∧ bit ((0 :
    Word).toNat) 0 = false) ∧ (bit ((35 : Word).toNat) 0 = true ∧ (cp8 9).f (SFB_EMU_CTL.EN 1) ≠ 1 ∧ (em8 1).f (SFB_EMU_CTL.EN 1) = 1
    ∧ (em8 1).emus[1]? = some c8q1 ∧ (em8 1).emuLag 1 ≠ 0) ∧ ((em8 (2 ^ 64 - 1)).f (SFB_EMU_CTL.EN 1) = 1 ∧ (em8 (2 ^ 64 -
    1)).emus[1]? = some c8q1 ∧ (em8 (2 ^ 64 - 1)).emuLag 1 ≠ 0 ∧ (em8 0).f (SFB_EMU_CTL.EN 1) = 1 ∧ (em8 0).emus[1]? = some c8q1 ∧
    (em8 0).emuLag 1 = 0 ∧ State.reset.f (SFB_EMU_CTL.EN 1) ≠ 1) := by
  refine ⟨⟨rfl, by decide +kernel⟩, ⟨rfl, by decide +kernel⟩, ⟨rfl, by decide +kernel⟩, ?_⟩
  iterate 8 refine ⟨by decide +kernel, ?_⟩
  decide +kernel

/-! ## Witnesses: cluster -/

/-- A device of cluster 3 in a state of R331, its highest term 5; the chain and the uplink are on. -/
def dev (state member : Nat) (l : List (Fld × Nat) := []) (f : Cluster → Cluster := id) : State :=
  let s := st ([(CLU_STATUS.STATE, state), (CLU_CFG.CLUSTER, 3), (CLU_CFG.MEMBER, member), (CLU_TERM.TERM, 5),
    (ETH_PORT_CFG.EN 0, 1), (ETH_PORT_CFG.EN 2, 1), (ETH_PORT_CFG.EN 3, 1),
    (ETH_PORT_CFG.ROLE 0, 3), (ETH_PORT_CFG.ROLE 2, 2), (ETH_PORT_CFG.ROLE 3, 2)] ++ l)
  { s with clu := f { s.clu with term := 5 } }
def desc8 : List Word := [7, 1, 2, 3, 4]
def wk9 := dev 1 16
def wk9h := dev 1 16 [] (fun c => { c with placed := [(1, desc8)], heldSeq := 1 })
def wk9f := data wk9 (wk9.slotAddr 4 + 48) [1]
def up9 := dev 4 17 [(CLU_CFG.UPLINK, 1), (SAG_FEATURE.FEATURE, 2)] (fun c => { c with upTerm := 2 })
def mg9 (g : List GrantMsg := []) (m : List Member := List.replicate 16 Member.reset) (l : List (Fld × Nat) := []) : State :=
  dev 4 17 l (fun c => { c with grants := g, members := m, alone := true, upTerm := 2 })
def gr9 : GrantMsg := { worker := 16, gseq := 1, jseq := 0, ready := true, sent := true, desc := some desc8 }
def upLink : List (Fld × Nat) := [(CLU_CFG.UPLINK, 1)]
def here9 : Member := { Member.reset with state := 1, sent := 1 }
def all9 : List Member := List.replicate 15 Member.reset ++ [here9]
/-- Worker 16 is reached through the manager of member address 18. -/
def routed (g : List GrantMsg) : State := dev 4 17 [] (fun c => { c with grants := g, members := all9, alone := true, routes := c.routes.set 15 18 })
def off9 := (mg9 [gr9] all9).put (ETH_PORT_CFG.EN 2) 0
def held9 : GrantMsg := { gr9 with sent := false }
def ownG9 : GrantMsg := { gr9 with desc := none }
def listed9 : State := dev 4 17 [] (fun c => { c with grants := [ownG9], members := all9, lists := c.lists.set 15 [desc8] })

def jr9 : JournalMsg := { jseq := 1, member := 16, full := true, record := here9 }
def mj9 := dev 4 17 [(CLU_STATUS.STANDBY_OK, 1)] (fun c => { c with journals := [jr9], applied := 1, grants := [{ gr9 with jseq := 1, ready := false, sent := false }], members := all9 })
def sb9 := dev 3 18 [] (fun c => { c with applied := 7, alone := false })
def jn9 (n : Nat) := dev 2 18 [] (fun c => { c with joinLeft := n, applied := 7 })

theorem witness_ClusterGranting :
    (1 = 1 ∧ wk9f.cluAccepts false 3 16 = true ∧ wk9f.cluState = 1 ∧ wk9f.f CLU_TERM.TERM ≤ 6 ∧ (List.find? (fun x ↦ decide (x.1 = 4))
    wk9f.clu.placed = none) ∧ wk9f.cellChecked 15 (wk9f.slotAddr 4 + 48) = Checked.good ∧ 1 = wk9f.rawData 15 (wk9f.slotAddr 4 + 48))
    ∧ (3 = 3 ∧ (2 = 2 ∨ ∀ g ∈ (mg9 [gr9] all9).clu.grants, ¬(g.worker = 16 ∧ g.gseq = 1)) ∧ (1 = 2 ∨ ∀ g ∈ (mg9 [gr9]
    all9).clu.grants, ¬(g.worker = 16 ∧ g.gseq = 2)) ∧ (mg9 [gr9] all9).clu.grants = [gr9] ∧ gr9.gseq = 1 ∧ (16 = gr9.worker ∧ 1 ≤ 16
    ∧ 16 ≤ 16 ∨ (16 = 17 ∨ 16 = 18) ∧ (mg9 [gr9] all9).routeTo gr9.worker = 16)) ∧ (((dev 1 16 [] fun c ↦ { c with servo := some 0
    }).slaved = true) ∧ ((dev 1 16 [] fun c ↦ { c with servo := some 0 }).f CLU_TERM.TERM < 6) ∧ wk9.cluAccepts false 3 16 = true ∧
    wk9.cluState = 1 ∧ 4 < wk9.f CLU_TERM.TERM) ∧ (wk9h.cluAccepts false 3 16 = true ∧ wk9h.cluState = 1 ∧ wk9h.f CLU_TERM.TERM ≤ 5 ∧
    (List.find? (fun x ↦ decide (x.1 = 1)) wk9h.clu.placed = some (1, desc8)) ∧ wk9h.cluAccepts false 3 255 = true) ∧ (wk9.f
    CLU_TERM.TERM ≤ 6 ∧ (List.find? (fun x ↦ decide (x.1 = 4)) wk9.clu.placed = none) ∧ wk9.cellChecked 15 (wk9.slotAddr 4 + 48) =
    Checked.good ∧ 0 = wk9.rawData 15 (wk9.slotAddr 4 + 48) ∧ 0 ≠ 1) ∧ (up9.cluAccepts true 3 0 = true ∧ up9.cluState = 4 ∧ up9.f
    CLU_CFG.UPLINK = 1 ∧ 1 < up9.clu.upTerm) ∧ ((mg9 [gr9] all9 upLink).cluAccepts true 3 0 = true ∧ (mg9 [gr9] all9 upLink).cluState
    = 4 ∧ (mg9 [gr9] all9 upLink).f CLU_CFG.UPLINK = 1 ∧ (mg9 [gr9] all9 upLink).clu.upTerm ≤ 2 ∧ 1 ≤ 16 ∧ 16 ≤ 16 ∧ (mg9 [gr9] all9
    upLink).clu.members.length = 16 ∧ (∃ g ∈ (mg9 [gr9] all9 upLink).clu.grants, g.worker = 16 ∧ g.gseq = 1)) ∧ ((∀ g ∈ (mg9 [gr9]
    all9 upLink).clu.grants, ¬(g.worker = 16 ∧ g.gseq = 4))) ∧ ((mg9 [] all9 upLink).cluAccepts true 3 0 = true ∧ (mg9 [] all9
    upLink).cluState = 4 ∧ (mg9 [] all9 upLink).f CLU_CFG.UPLINK = 1 ∧ (mg9 [] all9 upLink).clu.upTerm ≤ 2 ∧ (mg9 [] all9
    upLink).clu.members.length = 16 ∧ (∀ g ∈ (mg9 [] all9 upLink).clu.grants, ¬(g.worker = 16 ∧ g.gseq = 4)) ∧ (mg9 [] all9
    upLink).clu.grants = [] ∧ (mg9 [] all9 upLink).unmirrored = true ∧ (mg9 [] all9 upLink).grantTo 16 = true) ∧ ((wk9.cluState ≠ 4 ∨
    wk9.f CLU_CFG.UPLINK ≠ 1) ∧ (mg9 [gr9] all9).cluAccepts false 3 0 = true ∧ (mg9 [gr9] all9).cluState = 4 ∧ (mg9 [gr9]
    all9).clu.members.length = 16 ∧ (∃ g ∈ (mg9 [gr9] all9).clu.grants, g.worker = 16 ∧ g.gseq = 1) ∧ 1 ≠ 2 ∧ 1 ≠ 3) ∧ ((routed
    [gr9]).cluAccepts false 3 0 = true ∧ (routed [gr9]).cluState = 4 ∧ (routed [gr9]).clu.grants = [gr9] ∧ (18 = gr9.worker ∧ 1 ≤ 18 ∧
    18 ≤ 16 ∨ (18 = 17 ∨ 18 = 18) ∧ (routed [gr9]).routeTo gr9.worker = 18) ∧ gr9.desc ≠ none) ∧ ((mg9 [] all9 upLink).cluAccepts
    false 3 0 = true ∧ (1 ≤ 16 ∧ 16 ≤ 16 ∧ 16 = 16 ∨ (16 = 17 ∨ 16 = 18) ∧ 1 ≤ 0 ∧ 0 ≤ 16 ∧ 16 = 0) ∧ (mg9 [] all9
    upLink).clu.routes.length = 16) ∧ ((mg9 [] all9).cluAccepts false 3 0 = true ∧ (mg9 [] all9).cluState = 4 ∧ (1 ≤ 18 ∧ 18 ≤ 16 ∧ 1
    = 18 ∨ (18 = 17 ∨ 18 = 18) ∧ 1 ≤ 1 ∧ 1 ≤ 16 ∧ 1 = 1) ∧ (mg9 [] all9).clu.members.length = 16 ∧ (mg9 [] all9).clu.routes.length =
    16 ∧ wk9.cluAccepts false 3 0 = true ∧ wk9.cluState ≠ 4) ∧ (off9.cluAccepts false 3 0 = false ∧ mg9.cluAccepts false 4 0 = false ∧
    mg9.cluAccepts true 4 0 = false ∧ (mg9 [gr9]).cluState = 4) ∧ (gr9.worker = 15 + 1 ∧ gr9.sent = true ∧ (mg9 [gr9] all9).grantTo
    gr9.worker = true ∧ (gr9.desc = some desc8 ∨ gr9.desc = none ∧ ((mg9 [gr9] all9).cluList gr9.worker)[gr9.gseq - 1]? = some desc8))
    ∧ (listed9.cluState = 4 ∧ listed9.clu.grants = [ownG9] ∧ ownG9.worker = 15 + 1 ∧ ownG9.sent = true ∧ listed9.grantTo ownG9.worker
    = true ∧ (ownG9.desc = some desc8 ∨ ownG9.desc = none ∧ (listed9.cluList ownG9.worker)[ownG9.gseq - 1]? = some desc8)) ∧ ((mg9
    [held9] all9).cluState = 4 ∧ (mg9 [held9] all9).clu.grants = [held9] ∧ held9.worker = 15 + 1 ∧ (held9.sent = false ∨ (mg9 [held9]
    all9).grantTo held9.worker = false) ∧ (mg9 [gr9]).clu.grants = [gr9] ∧ (gr9.sent = false ∨ (mg9 [gr9]).grantTo gr9.worker =
    false)) ∧ (((mg9 [held9] all9).member (15 + 1)).state = 1 ∧ (mg9 [held9] all9).clu.members.length = 16 ∧ mg9.cluState = 4 ∧
    (mg9.member (15 + 1)).state ≠ 1 ∧ State.reset.cluState ≠ 1 ∧ (∀ p ∈ wk9.cluPorts false, wk9.portUp p = true ∧ wk9.portHeld p =
    false)) := by
  refine ⟨⟨rfl, by decide +kernel⟩, ⟨rfl, by decide +kernel⟩, ?_⟩
  iterate 15 refine ⟨by decide +kernel, ?_⟩
  decide +kernel

theorem witness_ClusterMirror :
    (sb9.memberDigest = sb9.memberDigest ∧ 7 ≤ sb9.clu.applied ∧ 7 ≠ (sb9.clu.applied + 1) % 2 ^ 32 ∧ sb9.clu.applied + 1 < 9 ∧ 7 =
    sb9.clu.applied ∧ [] ≠ sb9.memberDigest ∧ 8 ≠ sb9.clu.applied) ∧ (true = true ∧ 1 = 1 ∧ (jn9 16).cluAccepts false 3 0 = true ∧
    (jn9 16).cluState = 2 ∧ (jn9 16).f CLU_TERM.TERM ≤ 5 ∧ (jn9 16).clu.digest = none ∧ (jn9 16).clu.joinLeft = 16) ∧ (false = false ∧
    mj9.cluAccepts false 4 0 = false ∧ mj9.cluAccepts true 4 0 = false ∧ off9.cluAccepts false 3 0 = false) ∧ (mg9.cluAccepts false 3
    0 = true ∧ mg9.outranked 18 6 = true ∧ mg9.outranked 16 5 = true ∧ mg9.cluState = 4 ∧ mg9.outranked 18 5 = false) ∧ ((dev 2
    18).cluAccepts false 3 0 = true ∧ (dev 2 18).cluState = 2 ∧ (dev 2 18).f CLU_TERM.TERM ≤ 5 ∧ (dev 3 18).cluAccepts false 3 0 =
    true ∧ (dev 3 18).cluState = 3 ∧ (dev 3 18).f CLU_TERM.TERM ≤ 5 ∧ (dev 3 18).f CLU_TERM.TERM ≤ 6) ∧ (wk9.cluAccepts false 3 0 =
    true ∧ up9.cluAccepts true 3 0 = true ∧ up9.cluState = 4 ∧ up9.f CLU_CFG.UPLINK = 1 ∧ mg9.cluAccepts true 3 0 = true ∧
    (mg9.cluState ≠ 4 ∨ mg9.f CLU_CFG.UPLINK ≠ 1) ∧ mg9.f CLU_TERM.TERM ≤ 6) ∧ (wk9.cluState = 1 ∧ wk9.f CLU_TERM.TERM ≤ 5 ∧ 4 < wk9.f
    CLU_TERM.TERM ∧ 1 < up9.clu.upTerm ∧ up9.clu.upTerm ≤ 2) ∧ ((mg9 [] all9 upLink).cluAccepts true 3 0 = true ∧ (mg9 [] all9
    upLink).cluState = 4 ∧ (mg9 [] all9 upLink).f CLU_CFG.UPLINK = 1 ∧ (mg9 [] all9 upLink).clu.upTerm ≤ 2 ∧ (List.filter (fun w ↦
    decide (((mg9 [] all9 upLink).member w).state ≠ 0)) (List.map (fun x ↦ x + 1) (List.range 16)) = [16]) ∧ ((dev 3 18).cluState = 3
    ∨ (dev 3 18).cluState = 4) ∧ (mg9.cluState = 3 ∨ mg9.cluState = 4)) ∧ (wk9.cluState ≠ 3 ∧ wk9.cluState ≠ 4 ∧ mj9.cluState = 4 ∧
    mj9.clu.journals = [jr9] ∧ mj9.clu.journals ≠ [] ∧ mg9.clu.journals = [] ∧ (dev 2 18).clu.heardMgr = false) ∧ ((wk9.cluState ≠ 2 ∨
    wk9.clu.heardMgr = true) ∧ (List.replicate 16 7).length = 16 ∧ sb9.cluAccepts false 3 0 = true ∧ sb9.cluState = 3 ∧ sb9.f
    CLU_TERM.TERM ≤ 5 ∧ 8 = (sb9.clu.applied + 1) % 2 ^ 32 ∧ sb9.clu.digest = none) ∧ (2 ≠ 1 ∧ (jn9 1).cluAccepts false 3 0 = true ∧
    (jn9 1).cluState = 2 ∧ (jn9 1).f CLU_TERM.TERM ≤ 5 ∧ (jn9 1).clu.digest = none ∧ (jn9 1).clu.joinLeft = 1 ∧ 8 = ((jn9
    1).clu.applied + 1) % 2 ^ 32) ∧ (4 < sb9.f CLU_TERM.TERM ∧ (Instr.digest 3 17 0 4 8 [] = Instr.journal 3 17 0 4 8 16 true [] ∨
    Instr.digest 3 17 0 4 8 [] = Instr.digest 3 17 0 4 8 []) ∧ mj9.cluAccepts false 3 0 = true ∧ mg9.f CLU_STATUS.STANDBY_OK ≠ 1 ∧ (∀
    j ∈ mg9.clu.journals, j.full = false) ∧ mj9.f CLU_STATUS.STANDBY_OK = 1) := by
  refine ⟨⟨rfl, by decide +kernel⟩, ⟨rfl, rfl, by decide +kernel⟩, ⟨rfl, by decide +kernel⟩, ?_⟩
  iterate 8 refine ⟨by decide +kernel, ?_⟩
  decide +kernel

/-! ## Witnesses: ports, mailboxes, DMA, CRC -/

/-- Ports E2 and E3 in the chain. -/
def ch10 (l : List (Fld × Nat) := []) : State :=
  st ([(ETH_PORT_CFG.EN 2, 1), (ETH_PORT_CFG.ROLE 2, 2), (ETH_PORT_CFG.EN 3, 1), (ETH_PORT_CFG.ROLE 3, 2), (ETH_PORT_STATUS.LINK 3, 1),
    (ETH_MAC.MAC, 0x020000000001), (ETH_IP.ADDR, 0x0A000001), (ETH_IP.PREFIX, 24)] ++ l)
/-- A frame to an address, and a PTP message with a type and version. -/
def fr10 (dst type : Nat) (b : List Byte) : List Byte := toBE 6 dst ++ toBE 6 2 ++ toBE 2 type ++ b
def sync10 (t v : Nat) : List Byte := toBE 1 t ++ toBE 1 v ++ List.replicate 42 0
def ptp10 := fr10 0x011B19000000 0x88F7 (sync10 0 2)
def unk10 := fr10 0x011B19000000 0x88F7 (sync10 8 2)
def oth10 := fr10 0x020000000009 0x0800 (List.replicate 46 0)
def own10 := fr10 0x020000000001 0x88F7 (sync10 1 2)
def c10v1 := st [(ETH_PORT_CFG.EN 3, 1)]
def held10 : State := { ch10 with launches := [⟨3, 800, []⟩] }
/-- A Sync over UDP and IPv4 to the device's own address. -/
def ip10 : List Byte :=
  let u : List Byte := toBE 2 319 ++ toBE 2 319 ++ toBE 2 52 ++ toBE 2 0 ++ sync10 0 2
  let h (c : Nat) : List Byte := [0x45, 0] ++ toBE 2 72 ++ toBE 4 0 ++ [64, 17] ++ toBE 2 c ++ toBE 4 0x0A000002 ++ toBE 4 0x0A000001
  h (inetSum (wordSum (h 0))) ++ u
def ipOf10 : Ip := { src := 0x0A000002, dst := 0x0A000001, proto := 17, data := ip10.drop 20 }
def c10v2 := fr10 0x020000000001 0x0800 []
def one10 := st [(ETH_PORT_CFG.EN 2, 1), (ETH_PORT_CFG.ROLE 2, 2), (CLU_STATUS.STATE, 4), (CLU_CFG.DOMAIN, 9)]
def mgr10 := ch10 [(CLU_STATUS.STATE, 4), (CLU_CFG.DOMAIN, 9)]
def c10v3 := mgr10.sendFrameOn 2 (mgr10.syncFrameOn 2 ptp10 14 false 65536)
def c10v4 := st [(CLU_STATUS.STATE, 4), (ETH_PORT_CFG.ROLE 1, 1)]
def c10v5 := mgr10.syncFrameOn 3 ptp10 14 false 65539
def c10v6 := ch10.residence 3 ptp10 14 false 100 2000

/-- The host interface with changes, the device admitted. -/
def host (f : HostIf → HostIf) (l : List (Fld × Nat) := []) : State :=
  let s := st l
  { s with host := f { s.host with admitted := true } }
def cn10 (n : Nat) : Channel := ⟨List.replicate n (List.replicate 64 0), 65535⟩
/-- Channel (0, 5) with n messages. -/
def mbx (n : Nat) : State := host (fun h => { h with channels := h.channels.set 5 (cn10 n) })
def lock10 : State := host (fun h => { h with locks := h.locks.set 63 (some 5) })
def win10 (b : Nat) (l : List (Fld × Nat) := []) : State := host id ((GLB_HBM_WIN.BASE, b) :: l)
def c10v7 := win10 191 [(ECC_GRP_CFG.MODE 0, 0)]
def live10 : State := let s := win10 0; { s with root := { s.root with staged := { s.root.staged with gen := 1 } } }
def bad10 : State := let s := win10 191; s
def c10v8 := st [(CHK_CTL.CLAIMED 3, 1)]
/-- DMA channel 15 running, its next descriptor at an address; it moves data where there is none. -/
def dma (a : Option Nat) (l : List (Fld × Nat) := []) (asked : Bool := false) (f : DmaCh → DmaCh := id) : State :=
  host (fun h => { h with dma := h.dma.set 15 (f { DmaCh.idle with fetch := a, moved := a.isNone, irq := true, asked := asked, master := 1 }) })
    ((DMA_CH_STATUS.STATE 15, 1) :: l)
def msk10 (m : Nat) := host (fun h => { h with msixTable := wrBytes h.msixTable (16 * 16 + 12) [BitVec.ofNat 8 m] })
/-- An ABORT waits since a tick. -/
def aborts (k : Nat) : State := dma none [] false (fun d => { d with aborting := some k })
/-- Host memory at byte 64 answers with an error, and the channel's last write went there. -/
def badHost (s : State) : State := { s with host := { s.host with bad := [(64, 8)] } }
def badWrite : State := badHost (dma none [] false (fun d => { d with flush := some 64 }))
def c10v9 := dma none [(DMA_CH_STATUS.DONE_SEEN 15, 1)] true
def c10v10 := dma none [(DMA_CH_STATUS.DONE_SEEN 15, 1)] false
def c10v11 := dma (some 0) [(DMA_CFG.HOP_LIMIT, 0), (DMA_CH_HOPS.COUNT 15, 1)]
def copy1 (dst : Nat) : Desc := { src := 2 ^ 62, dst := 2 ^ 62 + dst, len := 8, flags := 256, next := 0 }
def c10v12 := { copy1 8 with len := 0 }
def badSrc : Desc := { copy1 8 with src := 2 ^ 62 + 64 }

def c10q1 : Launch := { port := 3, lt := 5000000007, frame := own10 }

theorem witness_PortsAndPtp :
    ((Instr.pauseFrame 3 = Instr.pauseFrame 3 ∨ ∃ frame bad, (bad = true ∨ ch10.takes frame = false) ∧ ch10.passesBy 3 frame = false ∧
    Instr.pauseFrame 3 = Instr.ethFrameDrop (3, frame, bad)) ∧ (Instr.ethFrameDrop (3, oth10, false) = Instr.pauseFrame 3 ∨ ∃ frame
    bad, (bad = true ∨ c10v1.takes frame = false) ∧ c10v1.passesBy 3 frame = false ∧ Instr.ethFrameDrop (3, oth10, false) =
    Instr.ethFrameDrop (3, frame, bad)) ∧ (Instr.ethFrameDrop (3, own10, true) = Instr.pauseFrame 3 ∨ ∃ frame bad, (bad = true ∨
    c10v1.takes frame = false) ∧ c10v1.passesBy 3 frame = false ∧ Instr.ethFrameDrop (3, own10, true) = Instr.ethFrameDrop (3, frame,
    bad)) ∧ ch10.f (ETH_PORT_CFG.EN 3) = 1 ∧ c10v1.f (ETH_PORT_CFG.EN 3) = 1 ∧ State.reset.f (ETH_PORT_CFG.EN 3) ≠ 1 ∧ (ch10.f
    (ETH_PORT_CFG.EN 3) ≠ 1 ∨ false = false ∧ ch10.takes oth10 = true ∨ ch10.passesBy 3 oth10 = true)) ∧ (State.reset.roleFits 1 (bits
    ((7 : Word).toNat) 1 2) = true ∧ State.reset.roleFits 3 (bits ((7 : Word).toNat) 1 2) = false ∧ 1 < 2 ∧ 2 ≤ 2 ∧ ch10.f
    (ETH_PORT_STATUS.LINK 3) = 1 ∧ ch10.f (ETH_PORT_STATUS.LINK 2) ≠ 1) ∧ (State.reset.portUp 3 = false ∧ held10.portUp 3 = true ∧
    held10.portHeld 3 = true ∧ ch10.portUp 3 = true ∧ ch10.portHeld 3 = false ∧ 167772162 ≠ ch10.f ETH_IP.ADDR ∧ (List.replicate 9174
    0).length ≤ 9174) ∧ ((167772161 ≠ ch10.f ETH_IP.ADDR ∨ 9174 < (List.replicate 9175 0).length) ∧ (167772162 ≠ ch10.f ETH_IP.ADDR ∨
    9174 < ([] : List Byte).length) ∧ ch10.takes ptp10 = true ∧ ptpEvent ptp10 = some (14, false)) ∧ (ch10.takes unk10 = true ∧
    ptpEvent unk10 = none ∧ (ptpAt unk10).isSome = true ∧ (Instr.ptpEventRx 3 unk10 (-1) false = Instr.ptpUnsupportedMessage (3,
    unk10) ∨ Instr.ptpEventRx 3 unk10 (-1) false = Instr.ptpEventRx 3 unk10 (-1) false) ∧ (Instr.ptpUnsupportedMessage (3, unk10) =
    Instr.ptpUnsupportedMessage (3, unk10) ∨ Instr.ptpUnsupportedMessage (3, unk10) = Instr.ptpEventRx 3 unk10 (-1) false) ∧ 1999 * 2
    ^ 32 < ch10.acc + 2000 * 2 ^ 32 ∧ ch10.acc + 2000 * 2 ^ 32 ≤ 2000 * 2 ^ 32) ∧ (readIp ip10 = some ipOf10 ∧ ipOf10.readUdp = some
    (319, sync10 0 2) ∧ ch10.takesIp ip10 = true ∧ (ch10.takes oth10 = false ∨ ptpAt oth10 = none) ∧ (ch10.takes c10v2 = false ∨ ptpAt
    c10v2 = none) ∧ ptpEvent c10q1.frame = some (14, false) ∧ ptpEvent oth10 = none) ∧ ((ch10.f CLU_STATUS.STATE = 0 ∨ ch10.f
    CLU_STATUS.STATE = 4 ∧ ch10.chainUp = false ∧ ch10.f (ETH_PORT_CFG.ROLE 3) = 2) ∧ (one10.f CLU_STATUS.STATE = 0 ∨ one10.f
    CLU_STATUS.STATE = 4 ∧ one10.chainUp = false ∧ one10.f (ETH_PORT_CFG.ROLE 2) = 2) ∧ mgr10.f CLU_STATUS.STATE = 4 ∧ mgr10.chainUp =
    true ∧ c10v3 = mgr10.sendFrameOn 2 (mgr10.syncFrameOn 2 ptp10 14 false 65536)) ∧ (c10v4.f CLU_STATUS.STATE = 4 ∧ c10v4.chainUp =
    false ∧ c10v4.f (ETH_PORT_CFG.ROLE 1) ≠ 2 ∧ (st [(CLU_STATUS.STATE, 5)]).f CLU_STATUS.STATE ≠ 0 ∧ (st [(CLU_STATUS.STATE, 5)]).f
    CLU_STATUS.STATE ≠ 4) ∧ (14 + 44 ≤ ptp10.length ∧ c10v5 = mgr10.syncFrameOn 3 ptp10 14 false 65539 ∧ stampParts (65539 +
    (mgr10.ptpLatency 3).1 + mgr10.fs (THY_PTP_LAT.TX 3)) = (0, 55, 16387) ∧ ch10.goesOn 3 oth10 = true ∧ oth10 = macFrame
    2199023255561 2 (List.drop 12 oth10) ∧ ptpAt oth10 = none) ∧ (ch10.goesOn 3 ptp10 = true ∧ ptp10 = macFrame 1215895175168 2
    (List.drop 12 ptp10) ∧ ptpAt ptp10 ≠ none ∧ c10v6 = ch10.residence 3 ptp10 14 false 100 2000 ∧ ch10.goesOn 3 unk10 = true ∧ ptpAt
    unk10 ≠ none) ∧ (ch10.goesOn 3 own10 = false ∧ own10 = macFrame 2199023255553 2 (List.drop 12 own10) ∧ ch10.chainUp = true ∧ 2 ≤ 3
    ∧ -2 ^ 63 ≤ 2 ^ 63 - 2 + 1 ∧ 2 ^ 63 - 2 + 1 ≤ 2 ^ 63 - 1 ∧ 2 ^ 63 - 2 ≠ 2 ^ 63 - 1) := by
  refine ⟨⟨.inl rfl, .inr ⟨oth10, false, .inr (by decide +kernel), by decide +kernel, rfl⟩, .inr ⟨own10, true, .inl rfl,
    by decide +kernel, rfl⟩, by decide +kernel⟩, ?_⟩
  iterate 9 refine ⟨by decide +kernel, ?_⟩
  decide +kernel

theorem witness_Mailboxes :
    (6 = 6 ∧ 63 < State.reset.host.locks.length ∧ State.reset.lockOwner 63 = none ∧ 5 ≠ 6 ∧ 63 < lock10.host.locks.length ∧
    lock10.lockOwner 63 = some 5 ∧ 5 ≠ 4) ∧ ((win10 191).winAddress (2 ^ 19 - 8) = (win10 191).winAddress (2 ^ 19 - 8) ∧ 8 = [1, 2, 3,
    4, 5, 6, 7, 8].length ∧ (win10 191).protectedRange ((win10 191).winAddress (2 ^ 19 - 8)) 8 = false ∧ ((win10 191).host.admitted =
    true → (win10 191).liveRange ((win10 191).winAddress (2 ^ 19 - 8)) 8 = false) ∧ (win10 191).narrow ((win10 191).winAddress (2 ^ 19
    - 8)) 8 = false) ∧ ((win10 192).winAddress 0 = (win10 192).winAddress 0 ∧ (win10 191).winAddress (2 ^ 19 - 8) = c10v7.winAddress
    (2 ^ 19 - 8) ∧ 4 = [1, 2, 3, 4].length ∧ c10v7.protectedRange ((win10 191).winAddress (2 ^ 19 - 8)) 4 = false ∧
    (c10v7.host.admitted = true → c10v7.liveRange ((win10 191).winAddress (2 ^ 19 - 8)) 4 = false) ∧ c10v7.narrow ((win10
    191).winAddress (2 ^ 19 - 8)) 4 = true ∧ (win10 192).protectedRange ((win10 192).winAddress 0) 8 = true) ∧ (live10.winAddress 0 =
    live10.winAddress 0 ∧ live10.protectedRange (live10.winAddress 0) 8 = false ∧ live10.host.admitted = true ∧ live10.liveRange
    (live10.winAddress 0) 8 = true ∧ 0 = ([] : List Byte).length) ∧ ((win10 191).winAddress 0 = (win10 191).winAddress 0 ∧ (win10
    191).protectedRange ((win10 191).winAddress 0) 8 = false ∧ (win10 191).hbmBad ((win10 191).winAddress 0) 8 = false) ∧ (0 ≤ 5 ∧ 5 ≤
    5 ∧ 0 ≠ 5 ∧ (mbx 3).host.channels[6 * 0 + 5]? = some (cn10 3) ∧ 5 < (mbx 3).host.dbPend.length ∧ (cn10 3).msgs.length < 4) ∧ ((mbx
    4).host.channels[6 * 0 + 5]? = some (cn10 4) ∧ 5 < (mbx 4).host.dbPend.length ∧ 4 ≤ (cn10 4).msgs.length ∧ (5 < 5 ∨ 5 < 5 ∨ 5 = 5)
    ∧ 5 < 6 ∧ 5 < State.reset.host.dbPend.length) ∧ (bit ((2 : Word).toNat) 0 = false ∧ bit ((1 : Word).toNat) 0 = true ∧
    lock10.lockOwner 63 ≠ some 4) := by
  refine ⟨⟨rfl, by decide +kernel⟩, ⟨rfl, by decide +kernel⟩, ⟨rfl, by decide +kernel⟩, ⟨rfl, by decide +kernel⟩, ⟨rfl,
    by decide +kernel⟩, ?_⟩
  iterate 2 refine ⟨by decide +kernel, ?_⟩
  decide +kernel

theorem witness_DmaAndCrc :
    (3 < State.reset.host.crc.length ∧ State.reset.f (CHK_CTL.CLAIMED 3) ≠ 1 ∧ 1 = 2 ^ State.reset.f (CHK_CTL.INW 3) ∧ 1 ≤ 8 ∧ bit
    ((2080 : Word).toNat) 11 = true ∧ bit ((2047 : Word).toNat) 11 = false) ∧ (3 < (st [(CHK_CTL.INW 3, 2)]).host.crc.length ∧ (st
    [(CHK_CTL.INW 3, 2)]).f (CHK_CTL.CLAIMED 3) ≠ 1 ∧ 4 = 2 ^ (st [(CHK_CTL.INW 3, 2)]).f (CHK_CTL.INW 3) ∧ 4 ≤ 4) ∧ (3 < (st
    [(CHK_CTL.INW 3, 3)]).host.crc.length ∧ (st [(CHK_CTL.INW 3, 3)]).f (CHK_CTL.CLAIMED 3) ≠ 1 ∧ 8 = 2 ^ (st [(CHK_CTL.INW 3, 3)]).f
    (CHK_CTL.INW 3) ∧ 4 < 8 ∧ c10v8.f (CHK_CTL.CLAIMED 3) = 1 ∧ (Instr.chkData 3 8 1 = Instr.chkData 3 8 1 ∨ Instr.chkData 3 8 1 =
    Instr.chkConfigWrite 3 3 1) ∧ (Instr.chkConfigWrite 3 3 1 = Instr.chkData 3 8 1 ∨ Instr.chkConfigWrite 3 3 1 =
    Instr.chkConfigWrite 3 3 1)) ∧ (15 < State.reset.host.dma.length ∧ bit ((1 : Word).toNat) 0 = true ∧ bit ((1 : Word).toNat) 1 =
    false ∧ bit ((1 : Word).toNat) 4 = false ∧ State.reset.dmaRunning 15 = false ∧ dmaMay 1 15 = true ∧ dmaMay 0 15 = false) ∧ (15 <
    (dma none).host.dma.length ∧ bit ((2 : Word).toNat) 1 = true ∧ (dma none).dmaRunning 15 = true ∧ (dma none).f (DMA_CH_HOPS.COUNT
    15) = 0) ∧ (15 < (dma none [(DMA_CH_HOPS.COUNT 15, 1)]).host.dma.length ∧ (dma none [(DMA_CH_HOPS.COUNT 15, 1)]).dmaRunning 15 =
    true ∧ (dma none [(DMA_CH_HOPS.COUNT 15, 1)]).f (DMA_CH_HOPS.COUNT 15) ≠ 0 ∧ ((dma none [(DMA_CH_HOPS.COUNT 15, 1)]).dmaCh
    15).aborting = none ∧ (msk10 0).msixMasked 16 = false ∧ (msk10 1).msixMasked 16 = true ∧ ((dma none).dmaCh 15).aborting = none) ∧
    ((aborts 0).dmaRunning 15 = true ∧ ((aborts 0).dmaCh 15).aborting = some 0 ∧ (aborts 1).dmaRunning 15 = true ∧ ((aborts 1).dmaCh
    15).aborting = some 1 ∧ (aborts 1).flushBad 15 = none ∧ (((aborts 1).dmaCh 15).moved = false ∨ 1 ≠ (aborts 1).tick)) ∧
    (badWrite.dmaRunning 15 = true ∧ (badWrite.dmaCh 15).moved = true ∧ badWrite.flushBad 15 = some 64 ∧ ((dma none).dmaCh 15).moved =
    true ∧ (dma none).flushBad 15 = none ∧ (((dma none).dmaCh 15).aborting = none ∨ ((dma none).dmaCh 15).aborting = some (dma
    none).tick)) ∧ (c10v9.dmaRunning 15 = true ∧ (c10v9.dmaCh 15).moved = true ∧ c10v9.flushBad 15 = none ∧ ((c10v9.dmaCh 15).aborting
    = none ∨ (c10v9.dmaCh 15).aborting = some c10v9.tick)) ∧ (c10v10.dmaRunning 15 = true ∧ (c10v10.dmaCh 15).moved = true ∧
    c10v10.flushBad 15 = none ∧ ((c10v10.dmaCh 15).aborting = none ∨ (c10v10.dmaCh 15).aborting = some c10v10.tick) ∧ ((aborts
    0).dmaCh 15).moved = true ∧ (aborts 0).flushBad 15 = none ∧ (((aborts 0).dmaCh 15).aborting = none ∨ ((aborts 0).dmaCh
    15).aborting = some (aborts 0).tick)) ∧ ((dma (some 0)).dmaRunning 15 = true ∧ ((dma (some 0)).dmaCh 15).moved = false ∧ ((dma
    (some 0)).dmaCh 15).aborting = none ∧ c10v11.dmaRunning 15 = true ∧ (c10v11.dmaCh 15).fetch = some 0 ∧ (c10v11.dmaCh 15).aborting
    = none ∧ max 1 (c10v11.f DMA_CFG.HOP_LIMIT) ≤ c10v11.f (DMA_CH_HOPS.COUNT 15)) ∧ ((dma (some 31)).dmaRunning 15 = true ∧ ((dma
    (some 31)).dmaCh 15).fetch = some 31 ∧ ((dma (some 31)).dmaCh 15).aborting = none ∧ (dma (some 31)).f (DMA_CH_HOPS.COUNT 15) < max
    1 ((dma (some 31)).f DMA_CFG.HOP_LIMIT) ∧ 31 % 32 ≠ 0) ∧ ((dma (some (2 ^ 62))).dmaRunning 15 = true ∧ ((dma (some (2 ^
    62))).dmaCh 15).fetch = some (2 ^ 62) ∧ ((dma (some (2 ^ 62))).dmaCh 15).aborting = none ∧ (dma (some (2 ^ 62))).f
    (DMA_CH_HOPS.COUNT 15) < max 1 ((dma (some (2 ^ 62))).f DMA_CFG.HOP_LIMIT) ∧ dmaValid (2 ^ 62) = true ∧ 2 ^ 62 % 32 = 0 ∧ (dma
    (some (2 ^ 62))).dmaRefused (2 ^ 62) 32 = none ∧ (dma (some (2 ^ 62))).dmaRead (2 ^ 62) 32 = some (List.replicate 32 0)) ∧
    ((badHost (dma (some (2 ^ 62 + 64)))).dmaRunning 15 = true ∧ ((badHost (dma (some (2 ^ 62 + 64)))).dmaCh 15).fetch = some (2 ^ 62
    + 64) ∧ ((badHost (dma (some (2 ^ 62 + 64)))).dmaCh 15).aborting = none ∧ (badHost (dma (some (2 ^ 62 + 64)))).f
    (DMA_CH_HOPS.COUNT 15) < max 1 ((badHost (dma (some (2 ^ 62 + 64)))).f DMA_CFG.HOP_LIMIT) ∧ dmaValid (2 ^ 62 + 64) = true ∧ (2 ^
    62 + 64) % 32 = 0 ∧ (badHost (dma (some (2 ^ 62 + 64)))).dmaRefused (2 ^ 62 + 64) 32 = none ∧ (badHost (dma (some (2 ^ 62 +
    64)))).dmaRead (2 ^ 62 + 64) 32 = none) ∧ ((2 ^ 62 + 60) / 2 ^ 62 = 1 ∧ c10v12.broken ((dma none).on (DMA_CH_CTL.CRC_USE 15)) =
    true) ∧ ((badHost (dma none)).dmaRunning 15 = true ∧ 15 < (badHost (dma none)).host.dma.length ∧ badSrc.broken ((badHost (dma
    none)).on (DMA_CH_CTL.CRC_USE 15)) = false ∧ badSrc.op = 0 ∧ badSrc.last = true ∧ badSrc.crc = false ∧ badSrc.sw = badSrc.dw ∧
    badSrc.src / 2 ^ 62 = 1) ∧ (badSrc.dst / 2 ^ 62 = 1 ∧ badSrc.src + badSrc.len ≤ 2 ^ 63 ∧ badSrc.dst + badSrc.len ≤ 2 ^ 63 ∧
    (badHost (dma none)).hostBad (badSrc.src % 2 ^ 62) badSrc.sw = some 64) ∧ ((copy1 8).broken ((dma none).on (DMA_CH_CTL.CRC_USE
    15)) = false ∧ (copy1 8).op = 0 ∧ (copy1 8).last = true ∧ (copy1 8).crc = false ∧ (copy1 8).sw = (copy1 8).dw ∧ (copy1 8).src / 2
    ^ 62 = 1 ∧ (copy1 8).dst / 2 ^ 62 = 1 ∧ (copy1 8).src + (copy1 8).len ≤ 2 ^ 63) ∧ ((copy1 8).dst + (copy1 8).len ≤ 2 ^ 63 ∧
    ((copy1 8).src + (copy1 8).len ≤ (copy1 8).dst ∨ (copy1 8).dst + (copy1 8).len ≤ (copy1 8).src) ∧ (dma none).hostBad ((copy1
    8).src % 2 ^ 62) (copy1 8).len = none) := by
  iterate 18 refine ⟨by decide +kernel, ?_⟩
  decide +kernel

/-! ## Witnesses: memories, journal, safe halt -/

/-- The memories with changes. -/
def memS (f : MemSys → MemSys) (l : List (Fld × Nat) := []) : State :=
  let s := st l
  { s with mem := f s.mem }
def req (port addr deadline : Nat) : HbmReq := ⟨port, 0, addr, false, 0, deadline⟩
def q11 := memS (fun m => { m with queue := [req 0 0 0] })
def l11 : List HbmReq := [req 7 0 5, req 7 8 0, req 6 0 9]
def op11 (h : Nat) (r : Bool) := memS (fun m => { m with banks := [(8191, ⟨some 5, h, r⟩)] }) [(HBM_PAGE_CFG.THRESH, 2)]
/-- Row 0 of the bank of address 0 is open. -/
def hit11 (q : List HbmReq) : State := memS (fun m => { m with queue := q, banks := [(0, ⟨some 0, 1, true⟩)] })
def pd11 := st [(HBM_PD_CFG.EN, 1)]
def c11v1 := memS (fun m => { m with hbmWritten := true })

/-- The last word of the program memory with a bit of its stored check changed, and of the data memory marked. -/
def upset : State := memS (fun m => { m with checks := [(wordKey 14 0x3FFF8, 1)] })
def marked : State := memS (fun m => { m with poison := [wordKey 15 0xFFF8] })
/-- HBM word 64 with one bit of its stored check changed, or marked. -/
def upsetH : State := memS (fun m => { m with checks := [(64, 1)] })
def markedH : State := memS (fun m => { m with poison := [64] })
def live11 : State := let s := State.reset; { s with root := { s.root with staged := { s.root.staged with gen := 1 } } }
def b8 : List Byte := [1,2,3,4,5,6,7,8]
def admit11 : State := { State.reset with host := { State.reset.host with admitted := true } }
def mode11 (g : Nat) (v : Nat) := st [(ECC_GRP_CFG.MODE g, v)]
/-- The copies of a triple disagree. -/
def held11 (i : Nat) : State := memS (fun m => { m with copies := [(i, [(5, true), (4, true), (3, true)])] })
def wr11 : State := memS (fun m => { m with grpWritten := m.grpWritten.set 15 true }) [(ECC_GRP_CFG.MODE 15, 1)]
def a1 := st [(ECC_TEST_ADDR.ADDR, 1)]
def acc11 : TestAcc := ⟨0, 13, 0, 7, 0⟩
def clr11 := memS (fun m => { m with clearing := some (13, [acc11]) })

/-- A record of a class, and a journal. -/
def rec1 (c : Nat) : Record := { time := 0, src := 1, cls := c, trunc := false, withheld := false, code := 0x0101, seq := 0, args := [] }
def jour (f : Journal → Journal) (l : List (Fld × Nat) := []) : State :=
  let s := st l
  { s with journal := f s.journal }
/-- A buffer in which n records wait. -/
def holds (n c : Nat) : State := jour (fun j => { j with inFlight := [rec1 c], waiting := List.replicate n (0, rec1 0) })
def rg11 (a : Nat) := jour (fun j => { j with waiting := [(0, rec1 0)] }) [(EVJ_CTL.RING_EN, 1), (EVJ_RING_BASE.ADDR, a), (EVJ_WR.COUNT, 63)]
def sf11 := jour (fun j => { j with safePending := some (0x1500, 1, 2) })
def jh11 := (st [(GTH_CTX_CFG.OPEN 1, 1)]).modCtx 1 (fun x => { x with halt := some 0x0910 })
def jh12 : State := { jh11 with gaf := { jh11.gaf with active := some { k1 with ctx := 1 } } }
def c11v2 := { k1 with ctx := 1 }

theorem witness_HbmControllers :
    (2 ^ 36 - 1 < 2 ^ 36 ∧ State.reset.pickReq l11 = some (req 7 0 5) ∧ req 6 0 9 ∈ l11 ∧ (req 6 0 9).isHead l11 = true ∧
    State.reset.blocked (req 6 0 9) l11 = false ∧ l11 ≠ []) ∧ ((hit11 [req 1 64 0, req 0 0 0]).pickReq [req 1 64 0, req 0 0 0] = some
    (req 0 0 0) ∧ (hit11 [req 1 64 0, req 0 0 0]).rowHit (req 0 0 0) = true ∧ (req 1 64 0 ∈ List.takeWhile (fun p ↦ !decide (p = req 0
    0 0)) [req 1 64 0, req 0 0 0]) ∧ (hit11 [req 1 64 0, req 0 0 0]).urgency (req 1 64 0) = 3 ∧ (op11 1 true).waitingAt 63 = [] ∧
    ((op11 1 true).bank 63 127).hist < (op11 1 true).f HBM_PAGE_CFG.THRESH) ∧ ((op11 2 true).waitingAt 63 = [] ∧ (op11 2 true).f
    HBM_PAGE_CFG.THRESH ≤ ((op11 2 true).bank 63 127).hist ∧ (∃ q ∈ (hit11 [req 0 0 0]).waitingAt 0, (hit11 [req 0 0 0]).mono100 ≤
    q.arrival ∧ (hit11 [req 0 0 0]).bankOf q.addr = 0) ∧ (∃ q ∈ (hit11 [req 0 0 0]).waitingAt 0, q.arrival = (hit11 [req 0 0
    0]).mono100 ∧ (hit11 [req 0 0 0]).bankOf q.addr = 0 ∧ (hit11 [req 0 0 0]).rowHit q = true) ∧ (∀ q ∈ (op11 2 true).waitingAt 63,
    q.arrival = (op11 2 true).mono100 → (op11 2 true).bankOf q.addr = 127 → (op11 2 true).rowHit q = false) ∧ ((op11 2 false).bank 63
    127).refreshed = false ∧ ((op11 2 true).bank 63 127).refreshed = true) ∧ (pd11.f HBM_PD_CFG.EN = 1 ∧ pd11.waitingAt 63 = [] ∧ (∀ b
    < 128, (pd11.bank 63 b).refreshed = true) ∧ 63 ∉ pd11.mem.asleep ∧ ((st [(HBM_PD_CFG.EN, 0)]).f HBM_PD_CFG.EN ≠ 1 ∨ (∃ q ∈ (st
    [(HBM_PD_CFG.EN, 0)]).waitingAt 63, (st [(HBM_PD_CFG.EN, 0)]).mono100 ≤ q.arrival) ∨ 63 ∈ (st [(HBM_PD_CFG.EN, 0)]).mem.asleep ∨
    (st [(HBM_PD_CFG.EN, 0)]).waitingAt 63 = [] ∧ ∃ b < 128, ((st [(HBM_PD_CFG.EN, 0)]).bank 63 b).refreshed = false) ∧ ((hit11 [req 0
    0 0]).f HBM_PD_CFG.EN ≠ 1 ∨ (∃ q ∈ (hit11 [req 0 0 0]).waitingAt 0, (hit11 [req 0 0 0]).mono100 ≤ q.arrival) ∨ 0 ∈ (hit11 [req 0 0
    0]).mem.asleep ∨ (hit11 [req 0 0 0]).waitingAt 0 = [] ∧ ∃ b < 128, ((hit11 [req 0 0 0]).bank 0 b).refreshed = false)) ∧ (0 =
    (hit11 [req 0 0 0]).hbmChannel (req 0 0 0).addr ∧ 0 = (hit11 [req 0 0 0]).bankOf (req 0 0 0).addr ∧ ((hit11 [req 0 0 0]).serveReq
    (req 0 0 0)).bankBusy 0 0 = false ∧ 0 = (hit11 [req 0 0 0, req 1 0 0]).hbmChannel (req 0 0 0).addr ∧ 0 = (hit11 [req 0 0 0, req 1
    0 0]).bankOf (req 0 0 0).addr ∧ ((hit11 [req 0 0 0, req 1 0 0]).serveReq (req 0 0 0)).bankBusy 0 0 = true) ∧ (85 ≤ 256 ∧ bit
    (State.reset.f HBM_STATUS.HOT) 3 = false ∧ 84 < 85 ∧ bit ((st [(HBM_STATUS.HOT, 8)]).f HBM_STATUS.HOT) 3 = true ∧ ((st
    [(HBM_CTL.ENABLE, 1)]).f HBM_CTL.ENABLE = 1 ∨ (st [(HBM_CTL.ENABLE, 1)]).mem.hbmWritten = true) ∧ (c11v1.f HBM_CTL.ENABLE = 1 ∨
    c11v1.mem.hbmWritten = true)) ∧ ((st [(HBM_CTL.ENABLE, 0)]).f HBM_CTL.ENABLE ≠ 1 ∧ (st [(HBM_CTL.ENABLE, 0)]).mem.hbmWritten =
    false) := by
  iterate 6 refine ⟨by decide +kernel, ?_⟩
  decide +kernel

theorem witness_ProtectedMemories :
    (0 = 0 ∧ 0 = State.reset.f ECC_TEST_ADDR.ADDR ∧ State.reset.mem.clearing = none ∧ State.reset.testAllowed 15 0 (decide (0 = 0)) =
    true ∧ (15 < 5 ∨ 13 < 15 ∨ State.reset.mem.cleared.getD 15 false = true) ∧ 15 < State.reset.mem.grpWritten.length) ∧ (1 = 1 ∧ 15 =
    bits ((79 : Word).toNat) 0 5 ∧ (1 = 0 ∧ Instr.testRd 79 = Instr.testWr 79 ∨ 1 = 1 ∧ Instr.testRd 79 = Instr.testRd 79 ∨ 1 = 2 ∧
    Instr.testRd 79 = Instr.testRdc 79) ∧ (∀ k < 3, bit ((79 : Word).toNat) (5 + k) = decide (k = 1)) ∧ State.reset.testAllowed 15 0
    (decide (1 = 0)) = true) ∧ (2 = 2 ∧ 15 = bits ((143 : Word).toNat) 0 5 ∧ (2 = 0 ∧ Instr.testRdc 143 = Instr.testWr 143 ∨ 2 = 1 ∧
    Instr.testRdc 143 = Instr.testRd 143 ∨ 2 = 2 ∧ Instr.testRdc 143 = Instr.testRdc 143) ∧ (∀ k < 3, bit ((143 : Word).toNat) (5 + k)
    = decide (k = 2)) ∧ State.reset.testAllowed 15 0 (decide (2 = 0)) = true) ∧ (wordOk 15 65528 = true ∧ State.reset.inGroup 15 65528
    = true ∧ State.reset.cellChecked 15 65528 = Checked.good ∧ marked.inGroup 15 65528 = true ∧ marked.cellChecked 15 65528 =
    Checked.bad) ∧ (wordOk 14 262136 = true ∧ upset.inGroup 14 262136 = true ∧ upset.cellChecked 14 262136 = Checked.corrected 0 0 ∧
    upsetH.suspects 60 8 = [64] ∧ markedH.hbmChecked 64 = Checked.bad ∧ upsetH.hbmChecked 64 = Checked.corrected 0 0 ∧ ((st
    [(ECC_CULLET_ADDR.VALID 15 3, 1), (ECC_GRP_CFG.MODE 15, 1)]).cullEntry 15 0).isSome = true) ∧ (State.reset.cullEntry 15 0 = none ∧
    0 + b8.length ≤ groupSpan 5 ∧ State.reset.inGroup 5 (0 / 8 * 8) = true ∧ 4 ≤ 4 ∧ (5 < 4 ∧ State.reset.protectedRange 0 b8.length =
    true ∨ 5 = 5)) ∧ (100663296 + b8.length ≤ groupSpan 0 ∧ admit11.inGroup 0 (100663296 / 8 * 8) = true ∧ (0 < 4 ∧
    admit11.protectedRange 100663296 b8.length = true ∨ 0 = 5)) ∧ (0 + b8.length ≤ groupSpan 0 ∧ live11.inGroup 0 (0 / 8 * 8) = true ∧
    0 < 4 ∧ live11.protectedRange 0 b8.length = false ∧ live11.liveRange 0 b8.length = true) ∧ (65528 + b8.length ≤ groupSpan 15 ∧
    State.reset.inGroup 15 (65528 / 8 * 8) = true ∧ (4 ≤ 4 → 15 ≠ 5 ∧ (15 < 4 → State.reset.protectedRange 65528 b8.length = false ∧
    State.reset.liveRange 65528 b8.length = false)) ∧ 65528 % 8 = 0 ∧ b8.length = 8) ∧ (65535 + [1].length ≤ groupSpan 15 ∧ (mode11 15
    0).inGroup 15 (65535 / 8 * 8) = true ∧ (4 ≤ 4 → 15 ≠ 5 ∧ (15 < 4 → (mode11 15 0).protectedRange 65535 [1].length = false ∧ (mode11
    15 0).liveRange 65535 [1].length = false)) ∧ (mode11 15 0).f (ECC_GRP_CFG.MODE 15) = 0 ∧ (65535 % 8 ≠ 0 ∨ [1].length % 8 ≠ 0)) ∧
    (State.reset.inGroup 0 (0 / 8 * 8) = true ∧ (4 ≤ 4 → 0 ≠ 5 ∧ (0 < 4 → State.reset.protectedRange 0 b8.length = false ∧
    State.reset.liveRange 0 b8.length = false)) ∧ 0 % 8 = 0 ∧ wordOk 2 0 = true ∧ State.reset.inGroup 2 0 = false ∧ 0 + b8.length ≤
    groupSpan 2 ∧ State.reset.inGroup 2 (0 / 8 * 8) = false) ∧ ((held11 63).tripleHeld 63 = true ∧ (mode11 16 1).tripleHeld 63 = false
    ∧ bits ((3840 : Word).toNat) 0 1 ≠ (mode11 16 1).f (ECC_GRP_CFG.MODE 16) ∧ (16 ≤ 16 ∨ (mode11 16 1).mem.grpWritten.getD 16 false =
    true) ∧ wr11.tripleHeld 63 = false ∧ bits ((3840 : Word).toNat) 0 1 ≠ wr11.f (ECC_GRP_CFG.MODE 15) ∧ (16 ≤ 15 ∨
    wr11.mem.grpWritten.getD 15 false = true)) ∧ ((mode11 15 1).tripleHeld 63 = false ∧ 15 < 16 ∧ (mode11 15 1).mem.grpWritten.getD 15
    false = false ∧ bit ((305419777 : Word).toNat) 0 = true ∧ bit ((305419776 : Word).toNat) 0 = false ∧ [(5, true), (5, true), (5,
    true)].length = 3 ∧ vote [(5, true), (5, true), (5, true)] = some (5, 0)) ∧ ([(5, true), (4, false), (5, true)].length = 3 ∧ vote
    [(5, true), (4, false), (5, true)] = some (5, 1) ∧ 1 ≠ 0 ∧ [(5, true), (4, true), (3, true)].length = 3 ∧ vote [(5, true), (4,
    true), (3, true)] = none ∧ (held11 54).tripleHeld 54 = true ∧ (held11 54).tripleHeld 53 = false) ∧ (5 ≠ 4 ∧ 15 = bits ((47 :
    Word).toNat) 0 5 ∧ 1 = a1.f ECC_TEST_ADDR.ADDR ∧ a1.mem.clearing = none ∧ (0 = 0 ∧ Instr.testWr 47 = Instr.testWr 47 ∨ 0 = 1 ∧
    Instr.testWr 47 = Instr.testRd 47 ∨ 0 = 2 ∧ Instr.testWr 47 = Instr.testRdc 47) ∧ (∀ k < 3, bit ((47 : Word).toNat) (5 + k) =
    decide (k = 0)) ∧ a1.testAllowed 15 1 (decide (0 = 0)) = false) ∧ (13 = bits ((45 : Word).toNat) 0 5 ∧ (0 = 0 ∧ Instr.testWr 45 =
    Instr.testWr 45 ∨ 0 = 1 ∧ Instr.testWr 45 = Instr.testRd 45 ∨ 0 = 2 ∧ Instr.testWr 45 = Instr.testRdc 45) ∧ (∀ k < 3, bit ((45 :
    Word).toNat) (5 + k) = decide (k = 0)) ∧ State.reset.testAllowed 13 0 (decide (0 = 0)) = true ∧ 5 ≤ 13 ∧ 13 ≤ 13 ∧
    State.reset.mem.cleared.getD 13 false = false) ∧ (clr11.mem.clearing = some (13, [acc11]) ∧ (∀ n < 3, bit ((45 : Word).toNat) (5 +
    n) = decide (n = 0)) ∧ clr11.testAllowed (bits ((45 : Word).toNat) 0 5) (clr11.f ECC_TEST_ADDR.ADDR) (decide (0 = 0)) = true ∧ (∀
    x ∈ [acc11], x.grp = 13) ∧ 13 < clr11.mem.cleared.length) := by
  refine ⟨⟨rfl, by decide +kernel⟩, ⟨rfl, by decide +kernel⟩, ⟨rfl, by decide +kernel⟩, ?_⟩
  iterate 13 refine ⟨by decide +kernel, ?_⟩
  decide +kernel

theorem witness_JournalAndSafeHalt :
    ((holds 1984 1).journal.inFlight = [rec1 1] ∧ (rec1 1).cls ≤ 1 ∧ (holds 1984 1).bufFree < 65 ∧ (holds 1983 1).journal.inFlight =
    [rec1 1] ∧ ((rec1 1).cls ≤ 1 ∧ 65 ≤ (holds 1983 1).bufFree ∨ 1 < (rec1 1).cls ∧ 0 < (holds 1983 1).bufFree) ∧ (holds 2047
    2).journal.inFlight = [rec1 2] ∧ ((rec1 2).cls ≤ 1 ∧ 65 ≤ (holds 2047 2).bufFree ∨ 1 < (rec1 2).cls ∧ 0 < (holds 2047 2).bufFree))
    ∧ (State.reset.journal.inFlight = [] ∧ (rg11 0).journal.waiting = [(0, rec1 0)] ∧ (rg11 0).f EVJ_CTL.RING_EN = 1 ∧ (rg11
    0).ringHeld < (rg11 0).ringSize ∧ 63 = (rg11 0).f EVJ_WR.COUNT ∧ 32 * (63 % (rg11 0).ringSize) = (rg11 0).f EVJ_RING_BASE.ADDR +
    32 * (63 % (rg11 0).ringSize) ∧ (rg11 0).ringRefused (32 * (63 % (rg11 0).ringSize)) = false) ∧ ((rg11 (2 ^ 62)).journal.waiting =
    [(0, rec1 0)] ∧ (rg11 (2 ^ 62)).f EVJ_CTL.RING_EN = 1 ∧ (rg11 (2 ^ 62)).ringHeld < (rg11 (2 ^ 62)).ringSize ∧ 63 = (rg11 (2 ^
    62)).f EVJ_WR.COUNT ∧ 2 ^ 62 + 32 * (63 % (rg11 0).ringSize) = (rg11 (2 ^ 62)).f EVJ_RING_BASE.ADDR + 32 * (63 % (rg11 (2 ^
    62)).ringSize) ∧ (rg11 (2 ^ 62)).ringRefused (2 ^ 62 + 32 * (63 % (rg11 0).ringSize)) = false) ∧ ((rg11 (2 ^ 36)).journal.waiting
    = [(0, rec1 0)] ∧ (rg11 (2 ^ 36)).f EVJ_CTL.RING_EN = 1 ∧ (rg11 (2 ^ 36)).ringHeld < (rg11 (2 ^ 36)).ringSize ∧ 63 = (rg11 (2 ^
    36)).f EVJ_WR.COUNT ∧ 2 ^ 36 + 32 * (63 % (rg11 0).ringSize) = (rg11 (2 ^ 36)).f EVJ_RING_BASE.ADDR + 32 * (63 % (rg11 (2 ^
    36)).ringSize) ∧ (true = false ∨ (rg11 (2 ^ 36)).ringRefused (2 ^ 36 + 32 * (63 % (rg11 0).ringSize)) = true) ∧ (false = false ∨
    (rg11 0).ringRefused (32 * (63 % (rg11 0).ringSize)) = true)) ∧ (0 = (0 : Word).toNat % 2 ^ 32 ∧ (State.reset.f EVJ_WR.COUNT + 2 ^
    32 - 0) % 2 ^ 32 ≤ State.reset.ringSize ∧ 1 = (1 : Word).toNat % 2 ^ 32 ∧ State.reset.ringSize < (State.reset.f EVJ_WR.COUNT + 2 ^
    32 - 1) % 2 ^ 32 ∧ sf11.journal.safePending = some (5376, 1, 2) ∧ State.reset.journal.safePending = none) ∧ (((act jh11).ctx
    1).halt = some 2320 ∧ (act jh11).ctxOpen 1 = true ∧ (∀ (k : Stripe), (act jh11).gaf.active = some k → k.ctx ≠ 1) ∧ (jh12.ctx
    1).halt = some 2320 ∧ jh12.ctxOpen 1 = true ∧ jh12.gaf.active = some c11v2 ∧ c11v2.ctx = 1) := by
  iterate 5 refine ⟨by decide +kernel, ?_⟩
  decide +kernel

/-! ## Witnesses: register bus, Sage, services -/

def eip : Nat := ETH_IP.off
def c12v1 := st [(ETH_STATUS.CFG_REFUSED, 1), (MOT_CNT_SPBAD.COUNT, 77)]
def claim12 := st [(CHK_CTL.CLAIMED 3, 1)]

/-- A request at the head of the tool host's channel to SC0. -/
def msg (tag service : Nat) (args : List Byte) : List Byte := toLE 4 0 ++ toLE 2 service ++ toLE 2 tag ++ args
/-- SC0 runs, with fields, and the host asks for a service; host memory holds bytes from offset 0. -/
def asked (tag service : Nat) (args : List Byte) (l : List (Fld × Nat) := []) (m : List Byte := []) : State :=
  let s := st ((PWR_SC_CTL.RUNNING 0, 1) :: l)
  { s with host := { s.host with channels := s.host.channels.set 1 ⟨[msg tag service args], 0⟩, mem := wrBytes [] 0 m } }
/-- The host's memory answers with an error at offset 0. -/
def bad12 (s : State) : State := { s with host := { s.host with bad := [(0, 8)] } }
def tokA (a : Nat) : List Byte := [1, BitVec.ofNat 8 a]
def hA : Nat := 2 ^ 62
def tk (a : Nat) (l : List (Fld × Nat) := []) : State := asked 9 0x51 (toLE 8 hA) l (tokA a)
def c12v2 := tokenOf ((tk 1).hostRead 0 200)
def c12v3 := tokenOf ((tk 2).hostRead 0 200)
def c12v4 := tokenOf ((tk 3).hostRead 0 200)
def c12v5 := tokenOf ((tk 4).hostRead 0 200)
def c12v6 := tokenOf ((tk 5).hostRead 0 200)
def c12v7 := tokenOf ((tk 6).hostRead 0 200)
def c12v8 := tokenOf ((tk 7).hostRead 0 200)
def c12v9 := tokenOf ((tk 8).hostRead 0 200)
def c12v10 := tokenOf ((tk 9).hostRead 0 200)
def c12v11 := tokenOf ((tk 10).hostRead 0 200)
def c12v12 := tokenOf ((tk 11).hostRead 0 200)
def tkM := asked 9 0x51 (toLE 8 5)
def badTk : State := bad12 (tk 2)
def c12v13 := tk 2 [(EVJ_STATUS.SAFE, 1)]
def c12v14 := tk 6 [(EVJ_STATUS.SAFE, 1)]
/-- The fuses of a lifecycle: its marker burned. -/
def fused (o : Nat) : State := { State.reset with sage := { State.reset.sage with fuses := wrBytes [] o (List.replicate 4 0xFF) } }
/-- A challenge outstanding since an instant. -/
def chal (since now : Nat) : State :=
  { State.reset with tick := now, sage := { State.reset.sage with chal := some [], chalAt := since } }

def tel12 := asked 9 0x40 []
def att12 := asked 9 0x52 (toLE 8 hA)
def att13 : State := { att12 with sage := { (fused 0).sage with keysOk := false } }
def att14 : State := { att12 with sage := { (fused 0).sage with keysOk := true } }
def unk12 := asked 9 0x7FFF []
def c12v15 := asked 9 0x53 (toLE 8 5 ++ toLE 4 7)
def bad31 : State := let s := asked 9 0x50 (toLE 8 hA); { s with host := { s.host with bad := [(31, 8)] } }
def ku12 (b : List Byte) := asked 9 0x12 (toLE 8 hA) [] b
def cl12 (t : Nat) (sel len : Nat) := asked 9 0x20 (toLE 8 hA ++ (toLE 4 (t + 16 * sel) ++ toLE 4 len)) [] [1, 2, 3, 4, 5, 6, 7, 8]
def cl13 : State := let s := stage (cl12 1 0 8) [(BMP_SEL.MAP_BANK, 1)]; { s with root := { s.root with staged := { s.root.staged with gen := 1 } } }
def li12 (w ap n : Nat) := asked 9 0x31 (toLE 8 hA ++ (toLE 4 (w + 256 * ap) ++ toLE 4 n))
def li13 : State := let s := li12 16 0 2; { s with clu := { s.clu with members := s.clu.members.set 15 { Member.reset with sent := 1 } } }
def pl12 (l : List (Fld × Nat)) := asked 9 0x53 (toLE 8 hA ++ toLE 4 7) l
/-- An admission block for context 1 with eight planes. -/
def adm12 : List Byte := toLE 4 (1 + 256 + 1024 * 8) ++ toLE 4 5 ++ toLE 16 77 ++ toLE 8 0 ++ [1, 1, 1, 0] ++ List.replicate 12 0 ++ toLE 16 77 ++ List.replicate 144 0
def je12 (c : Nat) (l : List (Fld × Nat) := []) := asked 9 0x11 (toLE 4 c ++ toLE 4 6) l
def c12v16 := je12 1 [(GTH_CTX_CFG.OPEN 1, 1)]
def cr12 (l : List (Fld × Nat) := []) := asked 9 0x30 (toLE 4 5 ++ toLE 4 3 ++ toLE 1 1) l
def c12v17 := cr12 [(GTH_CTX_CFG.OPEN 1, 1)]

theorem witness_RegisterBus :
    (accessOk 0 4 = true ∧ accessOk 9437248 4 = true ∧ isShReg 9437248 = true ∧ 2 < 3 ∧ 6 < State.reset.host.dbPend.length ∧ claim12.f
    (CHK_CTL.CLAIMED 3) = 1 ∧ (4 = 4 ∧ CHK_STATUS.off 3 = CHK_STATUS.off 3 ∨ 4 = 8 ∧ CHK_STATUS.off 3 = CHK_RESULT.off 3 ∨ 4 = 4 ∧ ∃ a
    ∈ [CHK_POLY.off 3, CHK_INIT.off 3, CHK_XOROUT.off 3, CHK_RESULT.off 3], CHK_STATUS.off 3 = a ∨ CHK_STATUS.off 3 = a + 4)) ∧ ((8 =
    4 ∧ CHK_RESULT.off 3 = CHK_STATUS.off 3 ∨ 8 = 8 ∧ CHK_RESULT.off 3 = CHK_RESULT.off 3 ∨ 8 = 4 ∧ ∃ a ∈ [CHK_POLY.off 3,
    CHK_INIT.off 3, CHK_XOROUT.off 3, CHK_RESULT.off 3], CHK_RESULT.off 3 = a ∨ CHK_RESULT.off 3 = a + 4) ∧ (4 = 4 ∧ CHK_XOROUT.off 3
    + 4 = CHK_STATUS.off 3 ∨ 4 = 8 ∧ CHK_XOROUT.off 3 + 4 = CHK_RESULT.off 3 ∨ 4 = 4 ∧ ∃ a ∈ [CHK_POLY.off 3, CHK_INIT.off 3,
    CHK_XOROUT.off 3, CHK_RESULT.off 3], CHK_XOROUT.off 3 + 4 = a ∨ CHK_XOROUT.off 3 + 4 = a + 4) ∧ accessOk 67108860 4 = true ∧
    windowOf 67108860 = none ∧ regRow 67108860 = none ∧ regRow (67108860 - 4) = none) :=
  ⟨by decide +kernel, by decide +kernel⟩

theorem witness_TokenActions :
    (c12v2 = tokenOf ((tk 1).hostRead 0 200) ∧ (fetched (tk 1) 297).dropChal = (fetched (tk 1) 297).dropChal ∧ hA = hostWord 1 0 ∧
    Serves (tk 1) 9 81 (toLE 8 hA) ∧ hostAddr hA = some 0 ∧ (tk 1).hostBad 0 297 = none ∧ (tk 1).hostRead 0 200 = List.take 200 ((tk
    1).hostRead 0 297) ∧ (tk 1).hostRead 200 97 = List.drop 200 ((tk 1).hostRead 0 297) ∧ c12v2.action = 1) ∧ (c12v3 = tokenOf ((tk
    2).hostRead 0 200) ∧ (fetched (tk 2) 297).dropChal = (fetched (tk 2) 297).dropChal ∧ Serves (tk 2) 9 81 (toLE 8 hA) ∧ (tk
    2).hostBad 0 297 = none ∧ (tk 2).hostRead 0 200 = List.take 200 ((tk 2).hostRead 0 297) ∧ (tk 2).hostRead 200 97 = List.drop 200
    ((tk 2).hostRead 0 297) ∧ c12v3.action = 2) ∧ (c12v4 = tokenOf ((tk 3).hostRead 0 200) ∧ (fetched (tk 3) 297).dropChal = (fetched
    (tk 3) 297).dropChal ∧ Serves (tk 3) 9 81 (toLE 8 hA) ∧ (tk 3).hostBad 0 297 = none ∧ (tk 3).hostRead 0 200 = List.take 200 ((tk
    3).hostRead 0 297) ∧ (tk 3).hostRead 200 97 = List.drop 200 ((tk 3).hostRead 0 297) ∧ c12v4.action = 3) ∧ (c12v5 = tokenOf ((tk
    4).hostRead 0 200) ∧ (fetched (tk 4) 297).dropChal = (fetched (tk 4) 297).dropChal ∧ Serves (tk 4) 9 81 (toLE 8 hA) ∧ (tk
    4).hostBad 0 297 = none ∧ (tk 4).hostRead 0 200 = List.take 200 ((tk 4).hostRead 0 297) ∧ (tk 4).hostRead 200 97 = List.drop 200
    ((tk 4).hostRead 0 297) ∧ c12v5.action = 4) ∧ (c12v6 = tokenOf ((tk 5).hostRead 0 200) ∧ (fetched (tk 5) 297).dropChal = (fetched
    (tk 5) 297).dropChal ∧ Serves (tk 5) 9 81 (toLE 8 hA) ∧ (tk 5).hostBad 0 297 = none ∧ (tk 5).hostRead 0 200 = List.take 200 ((tk
    5).hostRead 0 297) ∧ (tk 5).hostRead 200 97 = List.drop 200 ((tk 5).hostRead 0 297) ∧ c12v6.action = 5) ∧ (c12v7 = tokenOf ((tk
    6).hostRead 0 200) ∧ (fetched (tk 6) 297).dropChal = (fetched (tk 6) 297).dropChal ∧ Serves (tk 6) 9 81 (toLE 8 hA) ∧ (tk
    6).hostBad 0 297 = none ∧ (tk 6).hostRead 0 200 = List.take 200 ((tk 6).hostRead 0 297) ∧ (tk 6).hostRead 200 97 = List.drop 200
    ((tk 6).hostRead 0 297) ∧ c12v7.action = 6) ∧ (c12v8 = tokenOf ((tk 7).hostRead 0 200) ∧ (fetched (tk 7) 297).dropChal = (fetched
    (tk 7) 297).dropChal ∧ Serves (tk 7) 9 81 (toLE 8 hA) ∧ (tk 7).hostBad 0 297 = none ∧ (tk 7).hostRead 0 200 = List.take 200 ((tk
    7).hostRead 0 297) ∧ (tk 7).hostRead 200 97 = List.drop 200 ((tk 7).hostRead 0 297) ∧ c12v8.action = 7) ∧ (c12v9 = tokenOf ((tk
    8).hostRead 0 200) ∧ (fetched (tk 8) 297).dropChal = (fetched (tk 8) 297).dropChal ∧ Serves (tk 8) 9 81 (toLE 8 hA) ∧ (tk
    8).hostBad 0 297 = none ∧ (tk 8).hostRead 0 200 = List.take 200 ((tk 8).hostRead 0 297) ∧ (tk 8).hostRead 200 97 = List.drop 200
    ((tk 8).hostRead 0 297) ∧ c12v9.action = 8) ∧ (c12v10 = tokenOf ((tk 9).hostRead 0 200) ∧ (fetched (tk 9) 297).dropChal = (fetched
    (tk 9) 297).dropChal ∧ Serves (tk 9) 9 81 (toLE 8 hA) ∧ (tk 9).hostBad 0 297 = none ∧ (tk 9).hostRead 0 200 = List.take 200 ((tk
    9).hostRead 0 297) ∧ (tk 9).hostRead 200 97 = List.drop 200 ((tk 9).hostRead 0 297) ∧ c12v10.action = 9) ∧ (c12v11 = tokenOf ((tk
    10).hostRead 0 200) ∧ (fetched (tk 10) 297).dropChal = (fetched (tk 10) 297).dropChal ∧ Serves (tk 10) 9 81 (toLE 8 hA) ∧ (tk
    10).hostBad 0 297 = none ∧ (tk 10).hostRead 0 200 = List.take 200 ((tk 10).hostRead 0 297) ∧ (tk 10).hostRead 200 97 = List.drop
    200 ((tk 10).hostRead 0 297) ∧ c12v11.action = 10) ∧ (c12v12 = tokenOf ((tk 11).hostRead 0 200) ∧ (fetched (tk 11) 297).dropChal =
    (fetched (tk 11) 297).dropChal ∧ Serves (tk 11) 9 81 (toLE 8 hA) ∧ (tk 11).hostBad 0 297 = none ∧ (tk 11).hostRead 0 200 =
    List.take 200 ((tk 11).hostRead 0 297) ∧ (tk 11).hostRead 200 97 = List.drop 200 ((tk 11).hostRead 0 297) ∧ c12v12.action = 11) ∧
    ((Instr.provision 9 1 0 = Instr.provision 9 1 0 ∨ Instr.provision 9 1 0 = Instr.secure 9 1 0 ∨ Instr.provision 9 1 0 =
    Instr.retire 9 1 0 ∨ Instr.provision 9 1 0 = Instr.burnOperator 9 1 0 ∨ Instr.provision 9 1 0 = Instr.revokeOperator 9 1 0 ∨
    Instr.provision 9 1 0 = Instr.debugUnlock 9 1 0 ∨ Instr.provision 9 1 0 = Instr.lockDebug 9 1 0 ∨ Instr.provision 9 1 0 =
    Instr.burnFeature 9 1 0 ∨ Instr.provision 9 1 0 = Instr.advanceFw 9 1 0 ∨ Instr.provision 9 1 0 = Instr.advanceProg 9 1 0 ∨
    Instr.provision 9 1 0 = Instr.revokeKytuest 9 1 0) ∧ State.reset.canServe = false ∧ 5 = hostWord 0 5 ∧ (Instr.revokeKytuest 9 0 5
    = Instr.provision 9 0 5 ∨ Instr.revokeKytuest 9 0 5 = Instr.secure 9 0 5 ∨ Instr.revokeKytuest 9 0 5 = Instr.retire 9 0 5 ∨
    Instr.revokeKytuest 9 0 5 = Instr.burnOperator 9 0 5 ∨ Instr.revokeKytuest 9 0 5 = Instr.revokeOperator 9 0 5 ∨
    Instr.revokeKytuest 9 0 5 = Instr.debugUnlock 9 0 5 ∨ Instr.revokeKytuest 9 0 5 = Instr.lockDebug 9 0 5 ∨ Instr.revokeKytuest 9 0
    5 = Instr.burnFeature 9 0 5 ∨ Instr.revokeKytuest 9 0 5 = Instr.advanceFw 9 0 5 ∨ Instr.revokeKytuest 9 0 5 = Instr.advanceProg 9
    0 5 ∨ Instr.revokeKytuest 9 0 5 = Instr.revokeKytuest 9 0 5) ∧ hostAddr 5 = none ∧ Serves tkM 9 81 (toLE 8 5)) ∧ ((Instr.secure 9
    1 0 = Instr.provision 9 1 0 ∨ Instr.secure 9 1 0 = Instr.secure 9 1 0 ∨ Instr.secure 9 1 0 = Instr.retire 9 1 0 ∨ Instr.secure 9 1
    0 = Instr.burnOperator 9 1 0 ∨ Instr.secure 9 1 0 = Instr.revokeOperator 9 1 0 ∨ Instr.secure 9 1 0 = Instr.debugUnlock 9 1 0 ∨
    Instr.secure 9 1 0 = Instr.lockDebug 9 1 0 ∨ Instr.secure 9 1 0 = Instr.burnFeature 9 1 0 ∨ Instr.secure 9 1 0 = Instr.advanceFw 9
    1 0 ∨ Instr.secure 9 1 0 = Instr.advanceProg 9 1 0 ∨ Instr.secure 9 1 0 = Instr.revokeKytuest 9 1 0) ∧ badTk.hostBad 0 297 = some
    0 ∧ Serves badTk 9 81 (toLE 8 hA) ∧ c12v13.canServe = true ∧ c12v13.asks 9 81 (toLE 8 hA) = true ∧ c12v13.f EVJ_STATUS.SAFE = 1 ∧
    c12v13.tokenFor 2 hA = true) ∧ (c12v14.canServe = true ∧ c12v14.asks 9 81 (toLE 8 hA) = true ∧ c12v14.f EVJ_STATUS.SAFE = 1 ∧
    c12v14.tokenFor 6 hA = true ∧ c12v13.tokenFor 6 hA = false ∧ State.reset.tokenCode 2 [] [] = some 1 ∧ (fused 8).lifecycle = 3) ∧
    (State.reset.lifecycle = 0 ∧ 2 ≠ 1 ∧ (chal 0 600000000000).sage.chal = some [] ∧ (chal 0 600000000000).sage.chalAt + 600000000000
    ≤ (chal 0 600000000000).mono100 ∧ (chal 1 1).sage.chal = some [] ∧ (chal 1 1).mono100 < (chal 1 1).sage.chalAt + 600000000000 ∧
    State.reset.sage.chal = none) :=
  ⟨⟨rfl, rfl, by unfold Serves; decide +kernel⟩, ⟨rfl, rfl, by unfold Serves; decide +kernel⟩, ⟨rfl, rfl,
    by unfold Serves; decide +kernel⟩, ⟨rfl, rfl, by unfold Serves; decide +kernel⟩, ⟨rfl, rfl, by unfold Serves; decide +kernel⟩,
    ⟨rfl, rfl, by unfold Serves; decide +kernel⟩, ⟨rfl, rfl, by unfold Serves; decide +kernel⟩, ⟨rfl, rfl,
    by unfold Serves; decide +kernel⟩, ⟨rfl, rfl, by unfold Serves; decide +kernel⟩, ⟨rfl, rfl, by unfold Serves; decide +kernel⟩,
    ⟨rfl, rfl, by unfold Serves; decide +kernel⟩, by unfold Serves; decide +kernel, by unfold Serves; decide +kernel,
    by decide +kernel, by decide +kernel⟩

theorem witness_Services :
    ((took tel12).free 16 = (((took tel12).free 16).1, ((took tel12).free 16).2) ∧ (asked 9 1 []).canServe = true ∧ (asked 9 1
    []).asks 9 1 [] = true ∧ tel12.canServe = true ∧ tel12.asks 9 64 [] = true) ∧ ((ku12 [1, 1]).hostRead 0 176 = (ku12 [1,
    1]).hostRead 0 176 ∧ (ku12 [1, 1]).hostBad 0 176 = none ∧ Serves (ku12 [1, 1]) 9 18 (toLE 8 hA) ∧ blobType ((ku12 [1, 1]).hostRead
    0 176) = 1) ∧ ((ku12 [1, 2]).hostRead 0 176 = (ku12 [1, 2]).hostRead 0 176 ∧ (ku12 [1, 2]).hostBad 0 176 = none ∧ Serves (ku12 [1,
    2]) 9 18 (toLE 8 hA) ∧ blobType ((ku12 [1, 2]).hostRead 0 176) ≠ 1 ∧ (Serves (cl12 15 0 8) 9 32 (toLE 8 hA ++ (toLE 4 (15 + 16 *
    if false = true then 1 else 0) ++ toLE 4 8))) ∧ (14 < 15 ∨ 2 * mib < 8 ∨ (cl12 15 0 8).narrow ((cl12 15 0 8).calAddr 15) 8 =
    true)) ∧ (false = false ∧ (Serves (cl12 14 0 8) 9 32 (toLE 8 hA ++ (toLE 4 (14 + 16 * if false = true then 1 else 0) ++ toLE 4
    8))) ∧ 14 ≤ 14 ∧ (cl12 14 0 8).narrow ((cl12 14 0 8).calAddr 14) 8 = false ∧ (cl12 14 0 8).calLive 14 = false ∧ (cl12 14 0
    8).hostBad 0 8 = none) ∧ (true = true ∧ (Serves (cl12 14 1 8) 9 32 (toLE 8 hA ++ (toLE 4 (14 + 16 * if true = true then 1 else 0)
    ++ toLE 4 8))) ∧ (cl12 14 1 8).narrow ((cl12 14 1 8).calAddr 14) 8 = false ∧ (cl12 14 1 8).calLive 14 = false ∧ (cl12 14 1
    8).hostBad 0 (8 + 64) = none ∧ (Serves (li12 17 0 1) 9 49 (toLE 8 hA ++ (toLE 4 (17 + 256 * if false = true then 1 else 0) ++ toLE
    4 1))) ∧ (17 = 0 ∨ 16 < 17)) ∧ (fetched (pl12 []) 7 = fetched (pl12 []) (min 7 262441) ∧ Serves (pl12 []) 9 83 (toLE 8 hA ++ toLE
    4 7) ∧ (pl12 []).f GAF_CTL.RUN ≠ 1 ∧ (∀ h ∈ (pl12 []).gaf.threads, h.running = false) ∧ (pl12 []).hostBad 0 (min 7 262441) = none
    ∧ List.replicate 7 0 = (pl12 []).hostRead 0 (min 7 262441) ∧ State.reset.admitStatus [] = some 2) ∧ (ofLE (List.take 4 adm12) =
    ofLE (List.take 4 adm12) ∧ List.take 176 (List.drop 32 adm12) = List.take 176 (List.drop 32 adm12) ∧ (fused 0).admitStatus adm12 =
    none ∧ 1 = bits (ofLE (List.take 4 adm12)) 8 1 ∧ 1 < 2 ∧ 1 < State.reset.gather.ctxs.length) ∧ (att12.canServe = true ∧ att12.asks
    9 82 (toLE 8 hA) = true ∧ hostAddr hA = some 0 ∧ att12.inService = false) ∧ (att13.canServe = true ∧ att13.asks 9 82 (toLE 8 hA) =
    true ∧ att13.inService = true ∧ att13.sage.keysOk = false) ∧ (att14.canServe = true ∧ att14.asks 9 82 (toLE 8 hA) = true ∧
    att14.inService = true ∧ att14.sage.keysOk = true ∧ att14.host.bad = []) ∧ ((bad12 att14).canServe = true ∧ (bad12 att14).asks 9
    82 (toLE 8 hA) = true ∧ (bad12 att14).inService = true ∧ (bad12 att14).sage.keysOk = true ∧ (bad12 att14).hostBad 0 32 = some 0) ∧
    (unk12.canServe = true ∧ (unk12.channel 0 1).msgs = [msg 9 32767 []] ∧ reqCode (msg 9 32767 []) = 32767 ∧ 32767 ∉ serviceCodes ∧
    State.reset.canServe = false ∧ hostAddr 5 = none ∧ Serves (asked 9 80 (toLE 8 5)) 9 80 (toLE 8 5)) ∧ (Serves (asked 9 16 (toLE 8
    5)) 9 16 (toLE 8 5) ∧ Serves (asked 9 18 (toLE 8 5)) 9 18 (toLE 8 5) ∧ Serves c12v15 9 83 (toLE 8 5 ++ toLE 4 7) ∧ (bad12 (asked 9
    16 (toLE 8 hA))).hostBad 0 208 = some 0 ∧ Serves (bad12 (asked 9 16 (toLE 8 hA))) 9 16 (toLE 8 hA) ∧ (bad12 (asked 9 18 (toLE 8
    hA))).hostBad 0 176 = some 0 ∧ Serves (bad12 (asked 9 18 (toLE 8 hA))) 9 18 (toLE 8 hA)) ∧ (bad31.hostBad (0 + 31) 1 = some 31 ∧
    Serves bad31 9 80 (toLE 8 hA) ∧ (asked 9 80 (toLE 8 hA)).hostBad (0 + 31) 1 = none ∧ Serves (asked 9 80 (toLE 8 hA)) 9 80 (toLE 8
    hA) ∧ (asked 9 16 (toLE 8 hA)).hostBad 0 208 = none ∧ Serves (asked 9 16 (toLE 8 hA)) 9 16 (toLE 8 hA)) ∧ ((Serves cl13 9 32 (toLE
    8 hA ++ (toLE 4 (1 + 16 * if false = true then 1 else 0) ++ toLE 4 8))) ∧ 1 ≤ 14 ∧ 8 ≤ 2 * mib ∧ cl13.narrow (cl13.calAddr 1) 8 =
    false ∧ cl13.calLive 1 = true) ∧ ((Serves li13 9 49 (toLE 8 hA ++ (toLE 4 (16 + 256 * if false = true then 1 else 0) ++ toLE 4
    2))) ∧ 1 ≤ 16 ∧ 16 ≤ 16 ∧ 2 ≤ 65536 ∧ 0 < (li13.member 16).sent) ∧ ((Serves (li12 16 0 2) 9 49 (toLE 8 hA ++ (toLE 4 (16 + 256 *
    if false = true then 1 else 0) ++ toLE 4 2))) ∧ (li12 16 0 2).clu.lists.length = 16 ∧ (li12 16 0 2).clu.started.length = 16 ∧
    ((li12 16 0 2).member 16).sent = 0 ∧ (li12 16 0 2).ctxOpen 0 = false ∧ (li12 16 0 2).ctxOpen 1 = false ∧ (li12 16 0 2).hostBad 0
    (40 * 2) = none) ∧ ((Serves (li12 16 1 2) 9 49 (toLE 8 hA ++ (toLE 4 (16 + 256 * if true = true then 1 else 0) ++ toLE 4 2))) ∧
    (li12 16 1 2).clu.lists.length = 16 ∧ ((li12 16 1 2).cluList 16).length + 2 ≤ 65536 ∧ (li12 16 1 2).ctxOpen 0 = false ∧ (li12 16 1
    2).ctxOpen 1 = false ∧ (li12 16 1 2).hostBad 0 (40 * 2) = none) ∧ (Serves (pl12 [(GAF_CTL.RUN, 1)]) 9 83 (toLE 8 hA ++ toLE 4 7) ∧
    ((pl12 [(GAF_CTL.RUN, 1)]).f GAF_CTL.RUN = 1 ∨ ∃ h ∈ (pl12 [(GAF_CTL.RUN, 1)]).gaf.threads, h.running = true)) ∧ (blobType [1, 1,
    1, 1] = 1 ∧ blobTarget [1, 1, 1, 1] < State.reset.sage.jobKeys.length ∧ Serves (je12 2) 9 17 (toLE 4 2 ++ toLE 4 6) ∧ 2 ≤ 2 ∧
    Serves (je12 1) 9 17 (toLE 4 1 ++ toLE 4 6) ∧ (je12 1).ctxOpen 1 = false) ∧ (Serves c12v16 9 17 (toLE 4 1 ++ toLE 4 6) ∧
    c12v16.ctxOpen 1 = true ∧ 1 < c12v16.gather.ctxs.length ∧ Serves c12v17 9 48 (toLE 4 5 ++ toLE 4 3 ++ toLE 1 1) ∧ (c12v17.ctxOpen
    0 = true ∨ c12v17.ctxOpen 1 = true)) ∧ (Serves cr12 9 48 (toLE 4 5 ++ toLE 4 3 ++ toLE 1 1) ∧ cr12.ctxOpen 0 = false ∧
    cr12.ctxOpen 1 = false ∧ 5 % 4 < 2) := by
  refine ⟨⟨rfl, by decide +kernel⟩, ⟨rfl, by unfold Serves; decide +kernel⟩, ⟨rfl, by unfold Serves; decide +kernel⟩, ⟨rfl,
    by unfold Serves; decide +kernel⟩, ⟨rfl, by unfold Serves; decide +kernel⟩, ⟨rfl, by unfold Serves; decide +kernel⟩, ⟨rfl, rfl,
    by decide +kernel⟩, ?_⟩
  iterate 4 refine ⟨by decide +kernel, ?_⟩
  iterate 10 refine ⟨by unfold Serves; decide +kernel, ?_⟩
  unfold Serves; decide +kernel

/-- A stripe split into one pass, its only beam stuck on; no uncompensable pixel ends it. -/
def stuck : Split :=
  { k := k1, rd := fun f => if f = PAR_TOL.TOL then 65536 else 1, n := 1, q := 1, w := 32768,
    table := { BeamBank.empty with entries := [(0, { be 2 with dx := 0, dy := 0 })] }, beam := [], half := [], maxX0 := 0, minX0 := 0 }

theorem stuck_pixel (m : Map Nat) (x y : Nat) :
    (stuck.pixel m x y).1 = [(0, 1)] ∧ (stuck.pixel m x y).2.1.natAbs ≤ stuck.rd PAR_TOL.TOL := by
  have hb : mnat ([] : Map Nat) (y * 32) = 0 := rfl
  have hs : (stuck.table.entry 0).status = 2 := rfl
  have hc : codeOf stuck.rd 1 = 1 := by decide
  have ht : stuck.rd PAR_TOL.TOL = 65536 := by decide
  rw [ht]
  simp only [Split.pixel, Split.passes, show stuck.n = 1 from rfl, show stuck.q = 1 from rfl, show stuck.beam = [] from rfl,
    show List.range 1 = [0] from rfl, List.map, hb, quantise, hs, hc, deadCarry, shareOf, Nat.add_zero]
  refine ⟨rfl, ?_⟩
  simp
  omega

theorem witness_ParisonStripes_columns : ∃ (s : State) (r0 n x : Nat) (b v : Nat),
    x = (stuck.bandCols (0 / max 1 (stuck.w / 16384))).1 + s.par.bcol ∧ stuck.bandRows (0 % max 1 (stuck.w / 16384)) = (r0, n) ∧
    0 % max 1 (stuck.w / 16384) + 1 ≠ max 1 (stuck.w / 16384) ∧
    (∀ y, r0 ≤ y → y < r0 + n → (stuck.pixel s.par.doses x y).2.1.natAbs ≤ stuck.rd PAR_TOL.TOL ∧
      ∀ c ∈ (stuck.pixel s.par.doses x y).1, c.1 < 2 ^ 18) ∧
    (∃ y, r0 ≤ y ∧ y < r0 + n ∧ (b, v) ∈ (stuck.pixel s.par.doses x y).1) ∧ v ≠ 0 ∧
    ∀ y' c, r0 ≤ y' → y' < r0 + n → c ∈ (stuck.pixel s.par.doses x y').1 → c.1 = b → c.2 = v := by
  refine ⟨booted, 0, 16368, 0, 0, 1, by decide +kernel, by decide +kernel, by decide +kernel, fun y _ _ => ⟨(stuck_pixel _ _ _).2, ?_⟩,
    ⟨0, by decide, by decide, ?_⟩, by decide, fun y c _ _ h _ => ?_⟩
  · intro c h
    rw [(stuck_pixel _ _ _).1] at h
    rw [List.mem_singleton.1 h]; decide
  · rw [(stuck_pixel _ _ _).1]; simp
  · rw [(stuck_pixel _ _ _).1] at h
    rw [List.mem_singleton.1 h]

theorem rows_none (e : Split) (he : e.rd PAR_CTL.UNC_HALT ≠ 1) (x n : Nat) :
    ∀ y s acc, (e.rows x n y s acc).2.2 = none := by
  induction n with
  | zero => intro y s acc; rfl
  | succ n ih =>
    intro y s acc
    simp only [Split.rows, he, if_false]
    split <;> exact ih _ _ _

theorem oneColumn_done (e : Split) (he : e.rd PAR_CTL.UNC_HALT ≠ 1) (s : State) (b : Nat) (r : RingStripe) :
    s.oneColumn e b r = ((s.oneColumn e b r).1, true) := by
  have h := rows_none e he
  refine Prod.ext rfl ?_
  simp only [State.oneColumn]
  split
  · rename_i heq
    exact absurd (congrArg (·.2.2) heq) (by rw [h]; simp)
  · split <;> rfl

theorem witness_ParisonStripes_burst : ∃ (s u : State) (k : Stripe) (b : Band) (bs : List Band) (r : RingStripe), s.par.stripe = some k ∧
    s.par.bands = b :: bs ∧ s.ringOf k = some r ∧ s.par.burst = 1 ∧ s.mustHold (s.split k b.half) b.no = false ∧
    s.oneColumn (s.split k b.half) b.no r = (u, true) :=
  ⟨inProcess 512, _, k1, bd 0, [], rg 0 0, rfl, rfl, rfl, rfl, by decide +kernel, oneColumn_done _ (by decide +kernel) _ _ _⟩

/-- An instruction of each operation of TrisoComputes. -/
def arith : List Triso :=
  [tri .nop 0 0 0 0 0, tri .add 3 1 2 0 0, tri .sub 3 1 2 0 0, tri .and 3 1 2 0 0, tri .or 3 1 2 0 0, tri .xor 3 1 2 0 0,
   tri .shl 3 1 2 0 0, tri .shr 3 1 2 0 0, tri .sra 3 1 2 0 0, tri .mul 3 1 2 0 0, tri .set 3 1 2 1 0] ++
  [tri .addi 3 1 0 0 9, tri .andi 3 1 0 0 9, tri .ori 3 1 0 0 9, tri .xori 3 1 0 0 9, tri .shli 3 1 0 0 9, tri .shri 3 1 0 0 9,
   tri .srai 3 1 0 0 9, tri .movi 3 0 0 0 9, tri .movhi 3 0 0 0 9]

theorem witness_TrisoComputes : ∀ i ∈ arith, Issues (go1 i) 0 i ∧ ((go1 i).thread 0).pc ≠ 32767 := by
  unfold Issues; decide +kernel

theorem witness_arith_whole : ∀ o ∈ [Op.nop, .add, .sub, .and, .or, .xor, .shl, .shr, .sra, .mul, .set, .addi, .andi, .ori, .xori, .shli,
    .shri, .srai, .movi, .movhi], ∃ i ∈ arith, i.op = o := by decide +kernel

/-! ## Ill-formed commands are refused by WellFormed -/

theorem test_wf_shRegisterWrite : (Instr.shRegisterWrite 0 0x900042 4 0).wf = false ∧ (Instr.shRegisterWrite 0 0x900040 4 0).wf = true := by decide
theorem test_wf_rcRead : (Instr.rcRead 0 0x4000000 4 false).wf = false ∧ (Instr.rcRead 0 0x3FFFFFC 4 false).wf = true := by decide
theorem test_wf_registerWrite : (Instr.registerWrite 0 0x200004 8 0).wf = false ∧ (Instr.registerWrite 0 0x200004 2 0).wf = false := by decide
theorem test_wf_tjSample : (Instr.tjSample (List.replicate 15 0)).wf = false ∧ (Instr.tjSample (List.replicate 16 0)).wf = true := by decide
theorem test_wf_hbmRequest : (Instr.hbmRequest 0 (2 ^ 36) false).wf = false ∧ (Instr.hbmRequest 0 (2 ^ 36 - 1) false).wf = true := by decide
theorem test_wf_memoryRead : (Instr.memoryRead 15 0x10000 0 0).wf = false ∧ (Instr.memoryRead 15 4 0 0).wf = false := by decide
theorem test_wf_memoryWrite : (Instr.memoryWrite 15 0xFFFF 0 [0, 0]).wf = false ∧ (Instr.memoryWrite 15 0xFFFF 0 [0]).wf = true := by decide
theorem test_wf_ccResult : (Instr.ccResult 0 0 0 []).wf = false ∧ (Instr.ccResult 0 0 0 (List.replicate 6 (0, 0))).wf = false := by decide
theorem test_wf_memoryGroups : (Instr.memoryWrite 4 0x800000 0 [0]).wf = false ∧ (Instr.memoryWrite 13 0x1FFFF 0 [0]).wf = true := by decide
theorem test_wf_tmrVote : (Instr.tmrVote 0 [(1, true), (1, true)]).wf = false := by decide

/-! ## Values that the manual states -/

/-- Words of R277 and of the manual's example programs decode to the instructions that stand beside them. -/
theorem test_triso_words :
    Triso.decode 0x2730_0000_FFFF_FFFF = some (tri .movi 3 0 0 0 0xFFFFFFFF) ∧
    Triso.decode 0x27C0_0000_0000_000C = some (tri .movi 12 0 0 0 0xC) ∧
    Triso.decode 0x3107_6500_0000_0012 = some (tri .call 0 7 6 5 18) := by decide

/-- MOVI G3, −1 writes all ones (R279). -/
theorem test_movi : (match exec (.trisoMovi 0) (runs State.reset (tri .movi 3 0 0 0 0xFFFFFFFF)) with
    | .next t => decide ((t.thread 0).g.getD 3 0 = BitVec.allOnes 64 ∧ (t.thread 0).pc = 1)
    | _ => false) = true := by decide +kernel

/-- The check value of R92, over the ASCII bytes "123456789". -/
theorem test_crc32c : crc32c (ascii "123456789") = 0xE3069283 := by decide +kernel

/-- Check values of R398: CRC-16/CCITT-FALSE and, before its REFOUT and XOROUT, CRC-64/XZ. -/
theorem test_crc16 : (ascii "123456789").foldl (chkByte 16 0x1021 false) 0xFFFF = 0x29B1 := by decide +kernel
theorem test_crc64 : (reflect 64 ((ascii "123456789").foldl (chkByte 64 0x42F0E1EBA9EA3693 true) (2 ^ 64 - 1))).xor (2 ^ 64 - 1) =
    0x995DC9BBDF1939FA := by decide +kernel

/-- The worked example of dose correction: a pad of density 1 from coarse column 0 on. -/
def padKernel : Kernel :=
  { terms := 1, radius := 1, norm := 6144, eta := fun _ => 2048, tap := fun _ d => if d = 0 then 32768 else 16384,
    src := fun i _ => if 0 ≤ i then 65536 else 0, fogAt := fun _ _ => 0 }

theorem test_correction_first : [padKernel.m 1 (-1) 0, padKernel.m 1 0 0, padKernel.m 1 1 0] = [4915, 3511, 3072] := by decide +kernel
theorem test_correction_second : [padKernel.m 2 (-1) 0, padKernel.m 2 0 0, padKernel.m 2 1 0, padKernel.m 2 2 0] = [5213, 3575, 3018, 3072] := by
  decide +kernel

/-- Its doses: a full and a half covered pixel at 3,501, a full one at 3,022, and saturation at 16,382. -/
theorem test_doses :
    doseOf (fun _ => 1024) id 3501 [(0, 4095)] = (875, false) ∧ doseOf (fun _ => 1024) id 3501 [(0, 2048)] = (438, false) ∧
    doseOf (fun _ => 1024) id 3022 [(0, 4095)] = (756, false) ∧ doseOf (fun _ => 1024) id 16382 [(0, 4095)] = (4095, true) := by decide +kernel

end Sys2Proof.Tests
end

/-! # The queue behind a command (O1, O2, O3)

Each function of the model that a command runs leaves the queue as it is. One lemma a function, in the order of the model and tagged for
`simp`, so that each cites those of the functions it calls; a command's own lemma says at once that it completes and that the queue
stays. -/

namespace Sys2Proof.Machine

open Sys2Proof

-- One proof after the other: elaborated side by side, the proofs of the whole text need more memory than the check has.
set_option Elab.async false

/-! ### The queue through branches, folds and pairs -/

/-- The queue does not depend on which branch a condition takes. -/
@[simp] theorem State.ite_pending (p : Prop) [Decidable p] (a b : State) :
    (if p then a else b).pending = if p then a.pending else b.pending := apply_ite State.pending p a b

/-- A fold of updates that keep the queue keeps it. -/
@[simp] theorem foldl_pending {α : Type} {f : State → α → State} {l : List α} {s : State}
    (h : ∀ t a, (f t a).pending = t.pending) :
    (l.foldl f s).pending = s.pending := by
  induction l generalizing s with
  | nil => rfl
  | cons a l ih => rw [List.foldl_cons, ih, h]

/-- The state beside an answer, where the pair that holds both is named. -/
theorem pending_of_snd {α : Type} {p : α × State} {a : α} {t s : State} (e : p = (a, t)) (h : p.2.pending = s.pending) :
    t.pending = s.pending := by
  rw [← h, e]

theorem pending_of_fst {α : Type} {p : State × α} {a : α} {t s : State} (e : p = (t, a)) (h : p.1.pending = s.pending) :
    t.pending = s.pending := by
  rw [← h, e]

/-- A command completes and leaves the queue behind it as it is. -/
def KeepsQueue (s : State) (o : Host.Outcome State Fault Refusal) : Prop := Gives o (fun t => t.pending = s.pending)

@[simp] theorem keepsQueue_next (s t : State) : KeepsQueue s (.next t) ↔ t.pending = s.pending :=
  ⟨fun ⟨_, e, h⟩ => by cases e; exact h, fun h => ⟨t, rfl, h⟩⟩


/-- A special write, where a register has one, leaves the queue as it is. -/
def KeptIn (s : State) (o : Option State) : Prop := ∀ t, o = some t → t.pending = s.pending

@[simp] theorem keptIn_none (s : State) : KeptIn s none := fun _ h => nomatch h

@[simp] theorem keptIn_some (s t : State) : KeptIn s (some t) ↔ t.pending = s.pending :=
  ⟨fun h => h t rfl, fun h _ e => Option.some.inj e ▸ h⟩

@[simp] theorem keptIn_ite (s : State) (p : Prop) [Decidable p] (a b : Option State) :
    KeptIn s (if p then a else b) ↔ (p → KeptIn s a) ∧ (¬p → KeptIn s b) := by
  split <;> simp_all

/-! ### The queue through the register file, the journal and the event lines -/

@[simp] theorem State.puts_pending (s : State) (x : Fld) (i : Int) : (s.puts x i).pending = s.pending := rfl

@[simp] theorem State.putOwned_pending (s : State) (i : Nat) (x : Fld) (v : Nat) : (s.putOwned i x v).pending = s.pending := by
  simp [State.putOwned]

@[simp] theorem State.setPointer_pending (s : State) (i : Nat) (loaded : Bool) : (s.setPointer i loaded).pending = s.pending := by
  simp [State.setPointer]

@[simp] theorem State.releasePins_pending (s : State) : (s.releasePins).pending = s.pending := by
  unfold State.releasePins
  exact foldl_pending fun _ _ => rfl

@[simp] theorem State.hbmWrite_pending (s : State) (a : Nat) (l : List Byte) : (s.hbmWrite a l).pending = s.pending := rfl

@[simp] theorem State.pulse_pending (s : State) (line : Nat) : (s.pulse line).pending = s.pending := by simp [State.pulse]

@[simp] theorem State.msix_pending (s : State) (v : Nat) : (s.msix v).pending = s.pending := by simp [State.msix]

@[simp] theorem State.msixUnmask_pending (s : State) : (s.msixUnmask).pending = s.pending := by simp [State.msixUnmask]

@[simp] theorem State.fatal_pending (s : State) (code : Nat) (withheld : Bool) (args : List Arg) :
    (s.fatal code withheld args).pending = s.pending := by
  simp only [State.fatal]
  (repeat' split) <;> simp

@[simp] theorem State.showLeave_pending (s : State) : (s.showLeave).pending = s.pending := rfl

@[simp] theorem State.flagWait_pending (s : State) (who : Requester) : (s.flagWait who).pending = s.pending := by
  unfold State.flagWait
  split <;> simp

@[simp] theorem State.askLeave_pending (s : State) (who : Requester) (units : Nat) : (s.askLeave who units).pending = s.pending := by
  simp [State.askLeave]

@[simp] theorem State.countWait_pending (s : State) (w : Leave) : (s.countWait w).pending = s.pending := by
  unfold State.countWait
  split <;> simp

@[simp] theorem State.countGovWait_pending (s : State) : (s.countGovWait).pending = s.pending := by
  unfold State.countGovWait
  split <;> simp

@[simp] theorem State.endWait_pending (s : State) (who : Requester) : (s.endWait who).pending = s.pending := by
  unfold State.endWait
  split <;> simp

@[simp] theorem State.giveLeave_pending (s : State) (who : Requester) : (s.giveLeave who).pending = s.pending := by simp [State.giveLeave]

/-! ### The queue through the blanker link coding -/

@[simp] theorem State.dlSend_pending (s : State) (lock : Nat) (blocks : Nat → List Block) : (s.dlSend lock blocks).pending = s.pending :=
  rfl

/-! ### The queue through the frames a port sends -/

@[simp] theorem State.emit_pending (s : State) (p : Nat) (o : Output) : (s.emit p o).pending = s.pending := by simp [State.emit]

@[simp] theorem State.sendFrameOn_pending (s : State) (p : Nat) (l : List Byte) : (s.sendFrameOn p l).pending = s.pending := by
  simp [State.sendFrameOn]

@[simp] theorem State.sendServer_pending (s : State) (p server : Nat) (payload : List Byte) :
    (s.sendServer p server payload).pending = s.pending := by
  simp [State.sendServer]

@[simp] theorem State.cluSend_pending (s : State) (up : Bool) (type dst : Nat) (body : List Nat) :
    (s.cluSend up type dst body).pending = s.pending := by
  simp [State.cluSend]

/-! ### The queue through the memory cells and the Cullet remap -/

@[simp] theorem State.putData_pending (s : State) (g a d : Nat) : (s.putData g a d).pending = s.pending := by simp [State.putData]

@[simp] theorem State.putCheck_pending (s : State) (g a c : Nat) : (s.putCheck g a c).pending = s.pending := rfl

@[simp] theorem State.putRaw_pending (s : State) (g a d c : Nat) : (s.putRaw g a d c).pending = s.pending := by simp [State.putRaw]

@[simp] theorem State.grpTouch_pending (s : State) (g : Nat) : (s.grpTouch g).pending = s.pending := rfl

@[simp] theorem State.copyWord_pending (g : Nat) (s : State) (a : Nat) : (State.copyWord g s a).pending = s.pending := by
  unfold State.copyWord
  split <;> simp

@[simp] theorem State.cullInstall_pending (s : State) (g e a : Nat) (auto : Bool) : (s.cullInstall g e a auto).pending = s.pending := by
  simp [State.cullInstall]

@[simp] theorem State.cullDrop_pending (s : State) (g e : Nat) : (s.cullDrop g e).pending = s.pending := by simp [State.cullDrop]

@[simp] theorem State.cullAuto_pending (s : State) (g a : Nat) : (s.cullAuto g a).pending = s.pending := by
  unfold State.cullAuto
  (repeat' split) <;> simp

@[simp] theorem State.cullPage_pending (s : State) (a : Nat) : (s.cullPage a).pending = s.pending := by
  simp only [State.cullPage]
  (repeat' split) <;> simp

@[simp] theorem State.lastError_pending (s : State) (g a ue : Nat) : (s.lastError g a ue).pending = s.pending := rfl

@[simp] theorem State.noteUe_pending (s : State) (g a : Nat) : (s.noteUe g a).pending = s.pending := by simp [State.noteUe]

@[simp] theorem State.noteCe_pending (s : State) (g a syn d c : Nat) : (s.noteCe g a syn d c).pending = s.pending := by simp [State.noteCe]

@[simp] theorem State.noteWord_pending (s : State) (w : Nat) : (s.noteWord w).pending = s.pending := by
  unfold State.noteWord
  split <;> simp

@[simp] theorem State.noteRead_pending (s : State) (a n : Nat) : (s.noteRead a n).pending = s.pending := by simp [State.noteRead]

@[simp] theorem State.clearGroup_pending (s : State) (g : Nat) : (s.clearGroup g).pending = s.pending := by simp [State.clearGroup]

@[simp] theorem State.clearSram_pending (s : State) : (s.clearSram).pending = s.pending := by simp [State.clearSram]

/-! ### The queue through a halt -/

@[simp] theorem State.dropHalves_pending (s : State) (gen th : Nat) : (s.dropHalves gen th).pending = s.pending := rfl

@[simp] theorem State.haltRecord_pending (s : State) (th : Nat) : (s.haltRecord th).pending = s.pending := by simp [State.haltRecord]

@[simp] theorem State.sendStatus_pending (s : State) (stripe sstate : Nat) : (s.sendStatus stripe sstate).pending = s.pending := by
  simp [State.sendStatus]

@[simp] theorem State.tellStripe_pending (s : State) (stripe sstate : Nat) : (s.tellStripe stripe sstate).pending = s.pending := by
  simp [State.tellStripe]

@[simp] theorem State.latchHalt_pending (s : State) (code th : Nat) : (s.latchHalt code th).pending = s.pending := by
  unfold State.latchHalt
  (repeat' split) <;> simp

@[simp] theorem State.halt_pending (s : State) (code th : Nat) (args : List Arg) : (s.halt code th args).pending = s.pending := by
  simp [State.halt]

@[simp] theorem State.report_pending (s : State) (code n : Nat) (args : List Arg) : (s.report code n args).pending = s.pending := by
  simp [State.report]

@[simp] theorem State.reportSweep_pending (s : State) (w : Sweep) : (s.reportSweep w).pending = s.pending := by simp [State.reportSweep]

@[simp] theorem State.reportParison_pending (s : State) (k : Stripe) : (s.reportParison k).pending = s.pending := by
  simp [State.reportParison]

@[simp] theorem State.giveSlots_pending (s : State) (k : Stripe) (l : List (Option MSlot)) (i : Nat) :
    (s.giveSlots k l i).pending = s.pending := by
  induction l generalizing s i with
  | nil => rfl
  | cons m r ih =>
    unfold State.giveSlots
    dsimp only
    rw [ih]
    split <;> simp

@[simp] theorem State.dropFront_pending (s : State) (k : Stripe) : (s.dropFront k).pending = s.pending := by
  unfold State.dropFront
  simp only [State.giveSlots_pending]
  split <;> simp

@[simp] theorem State.dropGlory_pending (s : State) (k : Stripe) : (s.dropGlory k).pending = s.pending := by
  simp only [State.dropGlory]
  (repeat' split) <;> simp

@[simp] theorem State.freeHalf_pending (s : State) (h : Nat) : (s.freeHalf h).pending = s.pending := rfl

@[simp] theorem State.freeHalves_pending (s : State) (l : List Band) : (s.freeHalves l).pending = s.pending := by
  induction l generalizing s with
  | nil => rfl
  | cons b r ih => simp [State.freeHalves, ih]

@[simp] theorem State.countHold_pending (s : State) : (s.countHold).pending = s.pending := by
  unfold State.countHold
  split <;> simp

@[simp] theorem State.dropParison_pending (s : State) (k : Stripe) : (s.dropParison k).pending = s.pending := by
  unfold State.dropParison
  simp only [State.freeHalves_pending]
  split
  · split <;> simp
  · rfl

@[simp] theorem State.releaseSlots_pending (s : State) (f : RingStripe → Bool) : (s.releaseSlots f).pending = s.pending := rfl

@[simp] theorem State.dropStripe_pending (s : State) (k : Stripe) : (s.dropStripe k).pending = s.pending := by simp [State.dropStripe]

@[simp] theorem State.dropStripes_pending (s : State) (l : List Stripe) : (s.dropStripes l).pending = s.pending := by
  induction l generalizing s with
  | nil => rfl
  | cons k r ih => simp [State.dropStripes, ih]

@[simp] theorem State.endSweep_pending (s : State) (key : Nat) : (s.endSweep key).pending = s.pending := rfl

@[simp] theorem State.tileDone_pending (s : State) (key tcol : Nat) : (s.tileDone key tcol).pending = s.pending := by
  unfold State.tileDone
  split <;> simp

@[simp] theorem State.releaseOthers_pending (s : State) (c : Nat) : (s.releaseOthers c).pending = s.pending := rfl

@[simp] theorem State.tellDropped_pending (s : State) (c : Nat) (k : Option Stripe) : (s.tellDropped c k).pending = s.pending := by
  unfold State.tellDropped
  split <;> simp

@[simp] theorem State.jobHalt_pending (s : State) (c code : Nat) : (s.jobHalt c code).pending = s.pending := by
  unfold State.jobHalt
  (repeat' split) <;> simp

@[simp] theorem State.jobFault_pending (s : State) (c code : Nat) (withheld : Bool) (args : List Arg) :
    (s.jobFault c code withheld args).pending = s.pending := by
  simp [State.jobFault]

@[simp] theorem State.allFault_pending (s : State) (code : Nat) (args : List Arg) : (s.allFault code args).pending = s.pending := by
  simp [State.allFault]

@[simp] theorem State.switchBank_pending (s : State) (u : Nat) : (s.switchBank u).pending = s.pending := by simp [State.switchBank]

@[simp] theorem State.genMismatch_pending (s : State) (unit stripe gen : Nat) : (s.genMismatch unit stripe gen).pending = s.pending := by
  simp [State.genMismatch]

@[simp] theorem State.itemGate_pending (s : State) (u stripe gen : Nat) : (s.itemGate u stripe gen).1.pending = s.pending := by
  unfold State.itemGate
  (repeat' split) <;> simp

/-! ### The queue through Gather -/

@[simp] theorem State.modCell_pending (s : State) (c id : Nat) (f : Cell → Cell) : (s.modCell c id f).pending = s.pending := rfl

@[simp] theorem State.touch_pending (s : State) (c id : Nat) : (s.touch c id).pending = s.pending := rfl

@[simp] theorem State.showFree_pending (s : State) : (s.showFree).pending = s.pending := rfl

@[simp] theorem State.setFree_pending (s : State) (l : List (Nat × Nat)) : (s.setFree l).pending = s.pending := rfl

@[simp] theorem State.dropCell_pending (s : State) (c id : Nat) : (s.dropCell c id).pending = s.pending := by
  unfold State.dropCell
  split <;> simp

@[simp] theorem State.evict_pending (k : Nat) (l : List (Int × Nat × Nat)) (s : State) : (State.evict k l s).pending = s.pending := by
  induction l generalizing s with
  | nil => rfl
  | cons e r ih =>
    unfold State.evict
    split
    · rfl
    · simp [ih]

@[simp] theorem State.chargeRevoke_pending (c : Nat) (s : State) : (State.chargeRevoke c s).pending = s.pending := by
  unfold State.chargeRevoke
  split <;> simp

/-- Revoking holders keeps the queue where the release of one holder does. -/
theorem State.revoke_pending {f : State → State} (hf : ∀ t, (f t).pending = t.pending) (k : Nat) (l : List (Int × Nat × Nat)) (s : State) :
    (State.revoke f k l s).pending = s.pending := by
  induction l generalizing s with
  | nil => rfl
  | cons e r ih =>
    unfold State.revoke
    split
    · rfl
    · simp [ih, hf]

@[simp] theorem State.makeRoom_pending (s : State) (c id k : Nat) : (s.makeRoom c id k).2.pending = s.pending := by
  unfold State.makeRoom
  dsimp only
  split
  · simp
  · split
    · split <;> simp [State.revoke_pending (State.chargeRevoke_pending c)]
    · simp

@[simp] theorem State.figFault_pending (s : State) (c code seg woff hdr : Nat) : (s.figFault c code seg woff hdr).pending = s.pending := by
  simp [State.figFault]

@[simp] theorem State.parseFault_pending (s : State) (i : Nat) (g : Ingest) (code woff hdr : Nat) :
    (s.parseFault i g code woff hdr).pending = s.pending := by
  unfold State.parseFault
  split <;> simp

@[simp] theorem State.modLane_pending (s : State) (n : Nat) (f : Lane → Lane) : (s.modLane n f).pending = s.pending := rfl

@[simp] theorem State.applyOwner_pending (s : State) (n : Nat) : (s.applyOwner n).pending = s.pending := by
  unfold State.applyOwner
  split <;> simp

@[simp] theorem State.giveLanes_pending (k : Nat) (s : State) : (State.giveLanes k s).pending = s.pending := by
  induction k generalizing s with
  | zero => rfl
  | succ k ih =>
    unfold State.giveLanes
    split
    · split
      · simp [ih]
      · rfl
    · rfl

@[simp] theorem State.dropSlot_pending (s : State) (i : Nat) : (s.dropSlot i).pending = s.pending := by
  unfold State.dropSlot
  (repeat' split) <;> simp

@[simp] theorem State.fetchOut_pending (s : State) (g : Ingest) : (s.fetchOut g).pending = s.pending := by simp [State.fetchOut]

@[simp] theorem State.sendFetch_pending (s : State) (i : Nat) (g : Ingest) : (s.sendFetch i g).pending = s.pending := by
  simp [State.sendFetch]

@[simp] theorem execSegmentFetch_keepsQueue (s : State) : KeepsQueue s (execSegmentFetch s) := by
  unfold execSegmentFetch
  (repeat' split) <;> simp

@[simp] theorem State.streamFaults_pending (s : State) (i : Nat) (g : Ingest) : (s.streamFaults i g).pending = s.pending := by
  unfold State.streamFaults
  (repeat' split) <;> simp

@[simp] theorem State.absentRest_pending (s : State) (c seg : Nat) (l : List Nat) : (s.absentRest c seg l).pending = s.pending := by
  induction l generalizing s with
  | nil => rfl
  | cons id r ih => simp [State.absentRest, ih]

@[simp] theorem State.commitParse_pending (s : State) (g : Ingest) : (s.commitParse g).pending = s.pending := rfl

@[simp] theorem State.retire_pending (s : State) (i : Nat) (g : Ingest) : (s.retire i g).pending = s.pending := by simp [State.retire]

@[simp] theorem State.settle_pending (s : State) (i : Nat) : (s.settle i).pending = s.pending := by
  unfold State.settle
  split <;> simp

@[simp] theorem State.writePages_pending (s : State) (base : Nat) (body : List Byte) (n : Nat) :
    (s.writePages base body n).pending = s.pending := by
  induction n with
  | zero => rfl
  | succ n ih => simp [State.writePages, ih]

@[simp] theorem State.putCell_pending (s : State) (base woff len : Nat) (out : List Byte) :
    (s.putCell base woff len out).pending = s.pending := by
  simp [State.putCell]

@[simp] theorem State.showLane_pending (s : State) (g : Ingest) (v : Nat) : (s.showLane g v).pending = s.pending := by
  unfold State.showLane
  split <;> simp

@[simp] theorem State.stopLane_pending (s : State) (g : Ingest) (v bits : Nat) : (s.stopLane g v bits).pending = s.pending := by
  unfold State.stopLane
  split <;> simp

@[simp] theorem State.install_pending (s : State) (i : Nat) (g : Ingest) (id woff len : Nat) (cold : Bool) :
    (s.install i g id woff len cold).pending = s.pending := by
  unfold State.install
  dsimp only
  split
  · split <;> simp
  · split
    · next h => simp [pending_of_snd h (s.makeRoom_pending g.ctx id _)]
    · next h => simp [pending_of_snd h (s.makeRoom_pending g.ctx id _)]
    · next h => split <;> simp [pending_of_snd h (s.makeRoom_pending g.ctx id _)]

@[simp] theorem execInstallCell_keepsQueue (i : Fin 16) (s : State) : KeepsQueue s (execInstallCell i s) := by
  simp only [execInstallCell]
  (repeat' split) <;> simp

@[simp] theorem execSpaceResume_keepsQueue (i : Fin 16) (s : State) : KeepsQueue s (execSpaceResume i s) := by
  unfold execSpaceResume
  (repeat' split) <;> simp

@[simp] theorem execCellInflated_keepsQueue (i : Fin 16) (s : State) : KeepsQueue s (execCellInflated i s) := by
  simp only [execCellInflated]
  (repeat' split) <;> simp

@[simp] theorem execFcSegref_keepsQueue (i : Fin 16) (s : State) : KeepsQueue s (execFcSegref i s) := by
  simp only [execFcSegref]
  (repeat' split) <;> simp

@[simp] theorem execFcEnd_keepsQueue (i : Fin 16) (s : State) : KeepsQueue s (execFcEnd i s) := by
  simp only [execFcEnd]
  (repeat' split) <;> simp

@[simp] theorem State.unmake_pending (s : State) (c : Nat) (l : List Nat) : (s.unmake c l).pending = s.pending := by
  induction l generalizing s with
  | nil => rfl
  | cons id r ih => simp [State.unmake, ih]

@[simp] theorem State.release_pending (s : State) (c : Nat) (l : List Nat) : (s.release c l).pending = s.pending := by
  induction l generalizing s with
  | nil => rfl
  | cons id r ih => simp [State.release, ih]

@[simp] theorem execTagVerdict_keepsQueue (i : Fin 16) (s : State) : KeepsQueue s (execTagVerdict i s) := by
  simp only [execTagVerdict]
  (repeat' split) <;> simp

@[simp] theorem State.freeCells_pending (s : State) (c : Nat) : (s.freeCells c).pending = s.pending := by simp [State.freeCells]

@[simp] theorem State.dropSlots_pending (s : State) (c : Nat) (l : List (Option Ingest)) (i : Nat) :
    (s.dropSlots c l i).pending = s.pending := by
  induction l generalizing s i with
  | nil => rfl
  | cons g r ih =>
    unfold State.dropSlots
    dsimp only
    rw [ih]
    split <;> simp

@[simp] theorem State.zeroKey_pending (s : State) (c : Nat) : (s.zeroKey c).pending = s.pending := by simp [State.zeroKey]

@[simp] theorem State.layPool_pending (s : State) : (s.layPool).pending = s.pending := rfl

@[simp] theorem State.freePool_pending (s : State) : (s.freePool).pending = s.pending := by simp [State.freePool]

@[simp] theorem State.closeRing_pending (s : State) (c : Nat) : (s.closeRing c).pending = s.pending := rfl

@[simp] theorem State.closeCtx_pending (s : State) (c : Nat) : (s.closeCtx c).pending = s.pending := by simp [State.closeCtx]

@[simp] theorem execContextClose_keepsQueue (c : Fin 2) (s : State) : KeepsQueue s (execContextClose c s) := by
  unfold execContextClose
  (repeat' split) <;> simp

@[simp] theorem State.pinWrite_pending (s : State) (v : Nat) : (s.pinWrite v).pending = s.pending := rfl

@[simp] theorem execPinSet_keepsQueue (v : Word) (s : State) : KeepsQueue s (execPinSet v s) := by
  unfold execPinSet
  split <;> simp

@[simp] theorem execPinClear_keepsQueue (v : Word) (s : State) : KeepsQueue s (execPinClear v s) := by
  unfold execPinClear
  split <;> simp

@[simp] theorem State.gthCtlWrite_pending (s : State) (v : Nat) : (s.gthCtlWrite v).pending = s.pending := by simp [State.gthCtlWrite]

@[simp] theorem execGatherDisable_keepsQueue (v : Word) (s : State) : KeepsQueue s (execGatherDisable v s) := by
  unfold execGatherDisable
  split <;> simp

/-! ### The queue through Blowpipe -/

@[simp] theorem State.modSweep_pending (s : State) (t : Walk) (f : Sweep → Sweep) : (s.modSweep t f).pending = s.pending := rfl

@[simp] theorem State.forgetPages_pending (s : State) (c id : Nat) : (s.forgetPages c id).pending = s.pending := rfl

@[simp] theorem State.notePage_pending (s : State) (p : Nat) : (s.notePage p).pending = s.pending := by simp [State.notePage]

@[simp] theorem State.pageFail_pending (s : State) (c id n : Nat) : (s.pageFail c id n).pending = s.pending := by
  simp only [State.pageFail]
  (repeat' split) <;> simp

@[simp] theorem State.pageGood_pending (s : State) (c id n : Nat) : (s.pageGood c id n).pending = s.pending := by
  unfold State.pageGood
  split <;> simp

@[simp] theorem State.waitFor_pending (s : State) (w : Nat) (t : Walk) (id : Nat) : (s.waitFor w t id).pending = s.pending := by
  simp [State.waitFor]

@[simp] theorem execPageRead_keepsQueue (w : Fin 32) (s : State) : KeepsQueue s (execPageRead w s) := by
  unfold execPageRead
  (repeat' split) <;> simp

@[simp] theorem State.enter_pending (s : State) (w : Nat) (t : Walk) (l : Level) : (s.enter w t l).pending = s.pending := by
  simp [State.enter]

@[simp] theorem State.startRaster_pending (s : State) (w : Nat) (v : Sweep) (e k : Nat) : (s.startRaster w v e k).pending = s.pending := by
  simp [State.startRaster]

@[simp] theorem State.startDensity_pending (s : State) (w : Nat) (v : Sweep) : (s.startDensity w v).pending = s.pending := by
  simp [State.startDensity]

@[simp] theorem execWalkStart_keepsQueue (w : Fin 32) (s : State) : KeepsQueue s (execWalkStart w s) := by
  unfold execWalkStart
  (repeat' split) <;> simp

@[simp] theorem execWalkResume_keepsQueue (w : Fin 32) (s : State) : KeepsQueue s (execWalkResume w s) := by
  unfold execWalkResume
  (repeat' split) <;> simp

@[simp] theorem State.walkFault_pending (s : State) (w : Nat) (t : Walk) (l : Level) (code : Nat) :
    (s.walkFault w t l code).pending = s.pending := by
  simp [State.walkFault]

/-- A word of figure code keeps the queue where its operation does. -/
theorem State.fcStep_pending (s : State) (w op : Nat) {run : Walk → Level → (Nat → Nat) → State}
    (h : ∀ t l g, (run t l g).pending = s.pending) :
    (s.fcStep w op run).pending = s.pending := by
  unfold State.fcStep
  split
  · rfl
  · split
    · rfl
    · dsimp only
      split
      · rfl
      · split
        · simp
        · split <;> simp [h]

@[simp] theorem execFcNop_keepsQueue (w : Fin 32) (s : State) : KeepsQueue s (execFcNop w s) :=
  (keepsQueue_next s _).mpr (s.fcStep_pending w _ fun t l g => by simp)

@[simp] theorem execFcCellBegin_keepsQueue (w : Fin 32) (s : State) : KeepsQueue s (execFcCellBegin w s) :=
  (keepsQueue_next s _).mpr (s.fcStep_pending w _ fun t l g => by simp)

@[simp] theorem execFcDose_keepsQueue (w : Fin 32) (s : State) : KeepsQueue s (execFcDose w s) :=
  (keepsQueue_next s _).mpr (s.fcStep_pending w _ fun t l g => by simp)

/-- A placement keeps the queue where what is placed does. -/
theorem State.placing_pending (s : State) (w : Nat) (t : Walk) (l : Level) (id : Nat) {go : State → Box → State}
    (h : ∀ u b, (go u b).pending = u.pending) :
    (s.placing w t l id go).pending = s.pending := by
  simp [State.placing, h]

@[simp] theorem execFcCall_keepsQueue (w : Fin 32) (s : State) : KeepsQueue s (execFcCall w s) :=
  (keepsQueue_next s _).mpr (s.fcStep_pending w _ fun t l g => s.placing_pending w t l _ fun u b => by simp)

@[simp] theorem State.nextInstance_pending (s : State) (w : Nat) (t : Walk) : (s.nextInstance w t).pending = s.pending := by
  unfold State.nextInstance
  (repeat' split) <;> simp

@[simp] theorem execFcArray_keepsQueue (w : Fin 32) (s : State) : KeepsQueue s (execFcArray w s) :=
  (keepsQueue_next s _).mpr (s.fcStep_pending w _ fun t l g => s.placing_pending w t l _ fun u b => by simp)

@[simp] theorem State.degenerate_pending (s : State) (w : Nat) (t : Walk) (n : Nat) : (s.degenerate w t n).pending = s.pending := by
  simp [State.degenerate]

@[simp] theorem State.emitTraps_pending (s : State) (w : Nat) (t : Walk) (l : Level) (n : Nat) (traps : List Trapezoid) :
    (s.emitTraps w t l n traps).pending = s.pending := by
  unfold State.emitTraps
  (repeat' split) <;> simp

/-- A figure keeps the queue where its trapezoids do. -/
theorem State.figure_pending (s : State) (w : Nat) (t : Walk) (l : Level) (n : Nat) (pts : List Pt) (degen : Bool) {go : Unit → State}
    (h : (go ()).pending = s.pending) :
    (s.figure w t l n pts degen go).pending = s.pending := by
  simp [State.figure, h]

@[simp] theorem execFcRect_keepsQueue (w : Fin 32) (s : State) : KeepsQueue s (execFcRect w s) :=
  (keepsQueue_next s _).mpr (s.fcStep_pending w _ fun t l g => s.figure_pending w t l _ _ _ (by simp))

@[simp] theorem execFcXtrap_keepsQueue (w : Fin 32) (s : State) : KeepsQueue s (execFcXtrap w s) :=
  (keepsQueue_next s _).mpr (s.fcStep_pending w _ fun t l g => s.figure_pending w t l _ _ _ (by simp))

@[simp] theorem execFcYtrap_keepsQueue (w : Fin 32) (s : State) : KeepsQueue s (execFcYtrap w s) :=
  (keepsQueue_next s _).mpr (s.fcStep_pending w _ fun t l g => s.figure_pending w t l _ _ _ (by simp))

@[simp] theorem execFcPoly_keepsQueue (w : Fin 32) (s : State) : KeepsQueue s (execFcPoly w s) :=
  (keepsQueue_next s _).mpr (s.fcStep_pending w _ fun t l g => s.figure_pending w t l _ _ _ (by simp))

@[simp] theorem State.completeTile_pending (s : State) (e k : Nat) : (s.completeTile e k).pending = s.pending := by
  unfold State.completeTile
  split <;> simp

@[simp] theorem State.endRaster_pending (s : State) (t : Walk) : (s.endRaster t).pending = s.pending := by
  simp only [State.endRaster]
  (repeat' split) <;> simp

@[simp] theorem State.endDensity_pending (s : State) (t : Walk) : (s.endDensity t).pending = s.pending := rfl

@[simp] theorem State.endWalk_pending (s : State) (w : Nat) (t : Walk) : (s.endWalk w t).pending = s.pending := by simp [State.endWalk]

@[simp] theorem execFcCellEnd_keepsQueue (w : Fin 32) (s : State) :
    KeepsQueue s (execFcCellEnd w s) := (keepsQueue_next s _).mpr (s.fcStep_pending w _ fun t l g => by
    split
    · simp
    · split <;> simp)

/-! ### The queue through Marver -/

@[simp] theorem State.classOverflow_pending (s : State) (m : MSlot) (word cls : Nat) :
    (s.classOverflow m word cls).pending = s.pending := by
  simp [State.classOverflow]

@[simp] theorem execRecordConsume_keepsQueue (e : Fin 32) (s : State) : KeepsQueue s (execRecordConsume e s) := by
  simp only [execRecordConsume]
  (repeat' split) <;> simp

@[simp] theorem execDiscardEnd_keepsQueue (e : Fin 32) (k : Fin 2) (s : State) : KeepsQueue s (execDiscardEnd e k s) := by
  unfold execDiscardEnd
  (repeat' split) <;> simp

@[simp] theorem execDrainEnd_keepsQueue (e : Fin 32) (k : Fin 2) (s : State) : KeepsQueue s (execDrainEnd e k s) := by
  unfold execDrainEnd
  (repeat' split) <;> simp

/-! ### The queue through a lane under software -/

@[simp] theorem State.regionStop_pending (s : State) (n : Nat) : (s.regionStop n).pending = s.pending := rfl

@[simp] theorem State.dcpStart_pending (s : State) (n : Nat) : (s.dcpStart n).pending = s.pending := by simp [State.dcpStart]

@[simp] theorem State.dcpResume_pending (s : State) (n : Nat) : (s.dcpResume n).pending = s.pending := by simp [State.dcpResume]

@[simp] theorem State.dcpAbort_pending (s : State) (n : Nat) : (s.dcpAbort n).pending = s.pending := by simp [State.dcpAbort]

@[simp] theorem State.dcpCtlWrite_pending (s : State) (n v : Nat) : (s.dcpCtlWrite n v).pending = s.pending := by simp [State.dcpCtlWrite]

@[simp] theorem execDcpStart_keepsQueue (n : Fin 4) (v : Word) (s : State) : KeepsQueue s (execDcpStart n v s) := by
  unfold execDcpStart
  split <;> simp

@[simp] theorem execDcpResume_keepsQueue (n : Fin 4) (v : Word) (s : State) : KeepsQueue s (execDcpResume n v s) := by
  unfold execDcpResume
  split <;> simp

@[simp] theorem execDcpAbort_keepsQueue (n : Fin 4) (v : Word) (s : State) : KeepsQueue s (execDcpAbort n v s) := by
  unfold execDcpAbort
  split <;> simp

@[simp] theorem execDcpOwnerWrite_keepsQueue (n : Fin 4) (v : Word) (s : State) : KeepsQueue s (execDcpOwnerWrite n v s) :=
  ⟨_, rfl, by simp⟩

@[simp] theorem State.showEnd_pending (s : State) (n : Nat) (e : InfEnd) : (s.showEnd n e).pending = s.pending := by
  unfold State.showEnd
  split <;> simp

@[simp] theorem State.endSoft_pending (s : State) (n : Nat) : (s.endSoft n).pending = s.pending := by simp [State.endSoft]

@[simp] theorem State.endGather_pending (s : State) (n i : Nat) (g : Ingest) : (s.endGather n i g).pending = s.pending := by
  simp [State.endGather]

@[simp] theorem execDcpTaskEnd_keepsQueue (n : Fin 4) (s : State) : KeepsQueue s (execDcpTaskEnd n s) := by
  unfold execDcpTaskEnd
  (repeat' split) <;> simp

/-! ### The queue through Glory -/

@[simp] theorem State.takeDensity_pending (s : State) (k : Stripe) (d : DensItem) : (s.takeDensity k d).pending = s.pending := by
  unfold State.takeDensity
  extract_lets base one s1
  refine foldl_pending fun t n => ?_
  unfold one
  extract_lets u
  have hu : u.pending = t.pending := t.grpTouch_pending 6
  split
  extract_lets u1
  have h1 : u1.pending = t.pending := by
    unfold u1
    split <;> exact hu
  split
  · change ((u1.count GLY_CNT_DSAT.COUNT 1).flag GLY_STATUS.DSAT_SEEN).pending = t.pending
    rw [State.flag_pending, State.count_pending, h1]
  · exact h1

@[simp] theorem State.kickCoarse_pending (s : State) : (s.kickCoarse).pending = s.pending := by
  unfold State.kickCoarse
  split <;> simp

@[simp] theorem execDensityItem_keepsQueue (s : State) : KeepsQueue s (execDensityItem s) := by
  simp only [execDensityItem]
  (repeat' split) <;> simp

@[simp] theorem execCoarseColumnDone_keepsQueue (s : State) : KeepsQueue s (execCoarseColumnDone s) := by
  simp only [execCoarseColumnDone]
  (repeat' split) <;> simp

@[simp] theorem execTileHeader_keepsQueue (s : State) : KeepsQueue s (execTileHeader s) := by
  unfold execTileHeader
  (repeat' split) <;> simp

@[simp] theorem State.kickPixel_pending (s : State) : (s.kickPixel).pending = s.pending := by simp [State.kickPixel]

@[simp] theorem State.tileWritten_pending (s : State) (k : Stripe) (h : TileHdr) : (s.tileWritten k h).pending = s.pending := by
  simp [State.tileWritten]

@[simp] theorem State.pixelGranted_pending (s : State) : (s.pixelGranted).pending = s.pending := by
  unfold State.pixelGranted
  split <;> simp

@[simp] theorem execPixelWord_keepsQueue (s : State) : KeepsQueue s (execPixelWord s) := by
  simp only [execPixelWord]
  (repeat' split) <;> simp

@[simp] theorem State.kickParison_pending (s : State) : (s.kickParison).pending = s.pending := by
  unfold State.kickParison
  split <;> simp

@[simp] theorem execBandRelease_keepsQueue (s : State) : KeepsQueue s (execBandRelease s) := by
  simp only [execBandRelease]
  (repeat' split) <;> simp

/-! ### The queue through the beam map -/

@[simp] theorem State.liveRefused_pending (s : State) (a : Nat) : (s.liveRefused a).pending = s.pending := by simp [State.liveRefused]

@[simp] theorem State.tempReport_pending (s : State) (valid : Nat) (sensors : List Int) :
    (s.tempReport valid sensors).pending = s.pending := by
  unfold State.tempReport
  split <;> simp

@[simp] theorem State.startFill_pending (s : State) (gen : Nat) : (s.startFill gen).pending = s.pending := by simp [State.startFill]

@[simp] theorem State.fillReads_pending (s : State) (j : FillJob) : (s.fillReads j).pending = s.pending := by simp [State.fillReads]

@[simp] theorem execFillDone_keepsQueue (s : State) : KeepsQueue s (execFillDone s) := by
  unfold execFillDone
  split <;> simp

@[simp] theorem State.bmpCheckWrite_pending (s : State) (v : Nat) : (s.bmpCheckWrite v).pending = s.pending := by simp [State.bmpCheckWrite]

@[simp] theorem execBmpCheck_keepsQueue (v : Word) (s : State) : KeepsQueue s (execBmpCheck v s) := by
  unfold execBmpCheck
  split <;> simp

@[simp] theorem State.cellUe_pending (s : State) (a : Nat) : (s.cellUe a).pending = s.pending := by simp [State.cellUe]

@[simp] theorem State.noteCell_pending (s : State) (a : Nat) : (s.noteCell a).pending = s.pending := by simp [State.noteCell]

@[simp] theorem State.noteCells_pending (s : State) (a n : Nat) : (s.noteCells a n).pending = s.pending := by simp [State.noteCells]

@[simp] theorem execCheckDone_keepsQueue (s : State) : KeepsQueue s (execCheckDone s) := by
  unfold execCheckDone
  split <;> simp

@[simp] theorem State.hbmClear_pending (s : State) (a n : Nat) : (s.hbmClear a n).pending = s.pending := rfl

@[simp] theorem State.startCellCheck_pending (s : State) : (s.startCellCheck).pending = s.pending := by simp [State.startCellCheck]

@[simp] theorem State.putResult_pending (s : State) (b r l : Nat) (valid rlo rhi leak miss : Bool) (cur prop : Nat) :
    (s.putResult b r l valid rlo rhi leak miss cur prop).pending = s.pending := by
  unfold State.putResult
  extract_lets chg v s1 s2 s3
  have h1 : s1.pending = s.pending := s.hbmWrite_pending _ _
  have h2 : s2.pending = s.pending := by rw [State.ite_pending, State.put_pending, h1, ite_self]
  have h3 : s3.pending = s.pending := by rw [State.ite_pending, State.put_pending, h2, ite_self]
  rw [State.ite_pending, State.put_pending, h3, ite_self]

@[simp] theorem State.noteSrc_pending (s : State) (b : Nat) : (s.noteSrc b).pending = s.pending := by simp [State.noteSrc]

@[simp] theorem State.missCell_pending (s : State) (b : Nat) : (s.missCell b).pending = s.pending := by simp [State.missCell]

@[simp] theorem State.cellResult_pending (s : State) (b r l : Nat) : (s.cellResult b r l).pending = s.pending := by
  unfold State.cellResult
  (repeat' split) <;> simp

@[simp] theorem State.endCellCheck_pending (s : State) : (s.endCellCheck).pending = s.pending := by simp [State.endCellCheck]

@[simp] theorem State.cellResults_pending (g : Nat) (l : List (Nat × Nat)) (b : Nat) (s : State) :
    (State.cellResults g l b s).pending = s.pending := by
  induction l generalizing b s with
  | nil => rfl
  | cons x r ih => simp [State.cellResults, ih]

@[simp] theorem State.missRest_pending (s : State) : (s.missRest).pending = s.pending := by simp [State.missRest]

@[simp] theorem execCellCheckTimeout_keepsQueue (s : State) : KeepsQueue s (execCellCheckTimeout s) := by
  unfold execCellCheckTimeout
  split <;> simp

@[simp] theorem State.ccAcceptWrite_pending (s : State) (v : Nat) : (s.ccAcceptWrite v).pending = s.pending := by simp [State.ccAcceptWrite]

@[simp] theorem execCcAccept_keepsQueue (v : Word) (s : State) : KeepsQueue s (execCcAccept v s) := by
  unfold execCcAccept
  split <;> simp

@[simp] theorem State.acceptCopy_pending (src dst n b : Nat) (s : State) : (State.acceptCopy src dst n b s).1.pending = s.pending := by
  induction n generalizing b s with
  | zero => rfl
  | succ n ih =>
    unfold State.acceptCopy
    split
    · rfl
    · split
      · rfl
      · simp [ih]

@[simp] theorem execCcAcceptDone_keepsQueue (s : State) : KeepsQueue s (execCcAcceptDone s) := by
  simp only [execCcAcceptDone]
  (repeat' split) <;> simp

/-! ### The queue through Parison -/

@[simp] theorem State.modRing_pending (s : State) (k : Stripe) (f : RingStripe → RingStripe) : (s.modRing k f).pending = s.pending := rfl

@[simp] theorem State.recordUnc_pending (s : State) (k : Stripe) (x y : Nat) : (s.recordUnc k x y).pending = s.pending := by
  simp [State.recordUnc]

@[simp] theorem Split.rows_pending (e : Split) (x n y : Nat) (s : State) (acc : List (Nat × Nat)) :
    (e.rows x n y s acc).1.pending = s.pending := by
  induction n generalizing y s acc with
  | zero => rfl
  | succ n ih =>
    unfold Split.rows
    dsimp only
    split
    · split
      · simp
      · simp [ih]
    · simp [ih]

@[simp] theorem State.writeHeader_pending (s : State) (e : Split) (base j k : Nat) : (s.writeHeader e base j k).pending = s.pending := by
  simp [State.writeHeader]

@[simp] theorem State.writeGroup_pending (s : State) (e : Split) (base j n : Nat) : (s.writeGroup e base j n).pending = s.pending := by
  simp [State.writeGroup]

@[simp] theorem State.writeGroups_pending (s : State) (e : Split) (base j lo n : Nat) :
    (s.writeGroups e base j lo n).pending = s.pending := by
  induction n with
  | zero => rfl
  | succ n ih => simp [State.writeGroups, ih]

@[simp] theorem State.endColumn_pending (s : State) (e : Split) (base nc x : Nat) : (s.endColumn e base nc x).pending = s.pending := by
  unfold State.endColumn
  exact foldl_pending fun t j => t.writeGroups_pending e base j _ _

@[simp] theorem State.oneColumn_pending (s : State) (e : Split) (band : Nat) (r : RingStripe) :
    (s.oneColumn e band r).1.pending = s.pending := by
  unfold State.oneColumn
  dsimp only
  split
  · next h => simp [pending_of_fst h (e.rows_pending _ _ _ s [])]
  · next h =>
    have hs := pending_of_fst h (e.rows_pending _ _ _ s [])
    split
    · simp [hs]
    · simp [hs]

@[simp] theorem State.runBurst_pending (e : Split) (band n : Nat) (s : State) : (State.runBurst e band n s).pending = s.pending := by
  induction n generalizing s with
  | zero => rfl
  | succ n ih =>
    unfold State.runBurst
    split
    · rfl
    · split
      · rfl
      · split
        · simp
        · split
          · next h => rw [ih, pending_of_fst h (s.oneColumn_pending e band _)]
          · next h => exact pending_of_fst h (s.oneColumn_pending e band _)

@[simp] theorem State.endBand_pending (s : State) (e : Split) (band half : Nat) : (s.endBand e band half).pending = s.pending := by
  simp [State.endBand]

@[simp] theorem State.endParison_pending (s : State) (k : Stripe) : (s.endParison k).pending = s.pending := by simp [State.endParison]

@[simp] theorem State.burst_pending (s : State) : (s.burst).pending = s.pending := by
  unfold State.burst
  split <;> simp

@[simp] theorem State.parisonGranted_pending (s : State) : (s.parisonGranted).pending = s.pending := by
  unfold State.parisonGranted
  split <;> simp

@[simp] theorem State.zeroChecks_pending (s : State) (k : Stripe) (t : BeamBank) : (s.zeroChecks k t).pending = s.pending := by
  unfold State.zeroChecks
  (repeat' split) <;> simp

@[simp] theorem State.beginStripe_pending (s : State) (k : Stripe) (t : BeamBank) : (s.beginStripe k t).pending = s.pending := by
  simp [State.beginStripe]

@[simp] theorem execStripeColumnZero_keepsQueue (s : State) : KeepsQueue s (execStripeColumnZero s) := by
  simp only [execStripeColumnZero]
  (repeat' split) <;> simp

@[simp] theorem State.endHold_pending (s : State) : (s.endHold).pending = s.pending := by
  unfold State.endHold
  split <;> simp

@[simp] theorem execChunkRelease_keepsQueue (s : State) : KeepsQueue s (execChunkRelease s) := by
  unfold execChunkRelease
  (repeat' split) <;> simp

/-! ### The queue through Gaffer's threads -/

@[simp] theorem State.readWord_pending (s : State) (g a : Nat) : (s.readWord g a).2.pending = s.pending := by
  unfold State.readWord
  split <;> simp

@[simp] theorem State.grpWrote_pending (s : State) (g a old new lo n : Nat) : (s.grpWrote g a old new lo n).pending = s.pending := by
  simp [State.grpWrote]

@[simp] theorem State.setG_pending (s : State) (t r : Nat) (v : Word) : (s.setG t r v).pending = s.pending := rfl

@[simp] theorem State.progFault_pending (s : State) (t cause : Nat) : (s.progFault t cause).pending = s.pending := by simp [State.progFault]

@[simp] theorem State.nextPc_pending (s : State) (t : Nat) : (s.nextPc t).pending = s.pending := by simp [State.nextPc]

@[simp] theorem State.threadDone_pending (s : State) (t d : Nat) (v : Word) : (s.threadDone t d v).pending = s.pending := by
  simp [State.threadDone]

@[simp] theorem State.dmemWrite_pending (s : State) (a : Nat) (l : List Byte) : (s.dmemWrite a l).pending = s.pending := by
  simp [State.dmemWrite]

/-! ### The queue through the configuration root -/

@[simp] theorem State.landWrite_pending (s : State) (a v : Nat) : (s.landWrite a v).pending = s.pending := rfl

@[simp] theorem State.broadcast_pending (s : State) (w : RootWrite) : (s.broadcast w).pending = s.pending := by
  unfold State.broadcast
  split <;> simp

@[simp] theorem execConfigBroadcast_keepsQueue (s : State) : KeepsQueue s (execConfigBroadcast s) := by
  unfold execConfigBroadcast
  (repeat' split) <;> simp

@[simp] theorem State.copyGeneration_pending (s : State) : (s.copyGeneration).pending = s.pending := by simp [State.copyGeneration]

@[simp] theorem execGenerationCopy_keepsQueue (s : State) : KeepsQueue s (execGenerationCopy s) := by
  unfold execGenerationCopy
  (repeat' split) <;> simp

@[simp] theorem execBankSwitch_keepsQueue (u : Fin 4) (stripe gen : Nat) (s : State) : KeepsQueue s (execBankSwitch u stripe gen s) :=
  ⟨_, rfl, by simp⟩

/-! ### The queue through the axes -/

@[simp] theorem State.modAxis_pending (s : State) (a : Nat) (f : Aux → Aux) : (s.modAxis a f).pending = s.pending := rfl

@[simp] theorem State.restAxis_pending (s : State) (a st : Nat) : (s.restAxis a st).pending = s.pending := by simp [State.restAxis]

@[simp] theorem State.stopAxis_pending (s : State) (a st : Nat) : (s.stopAxis a st).pending = s.pending := by simp [State.stopAxis]

@[simp] theorem State.driveEn_pending (s : State) (a : Nat) (high : Bool) : (s.driveEn a high).pending = s.pending := rfl

@[simp] theorem State.driveCur_pending (s : State) (a : Nat) (reduced : Bool) : (s.driveCur a reduced).pending = s.pending := rfl

@[simp] theorem State.driveDir_pending (s : State) (a : Nat) (neg : Bool) : (s.driveDir a neg).pending = s.pending := by
  simp [State.driveDir]

@[simp] theorem State.stall_pending (s : State) (a : Nat) (dev : Int) : (s.stall a dev).pending = s.pending := by simp [State.stall]

@[simp] theorem State.checkAxis_pending (s : State) (a : Nat) : (s.checkAxis a).pending = s.pending := by simp [State.checkAxis]

@[simp] theorem State.checkAxes_pending (s : State) (n : Nat) : (s.checkAxes n).pending = s.pending := by simp [State.checkAxes]

@[simp] theorem State.stallAxes_pending (s : State) (n : Nat) : (s.stallAxes n).pending = s.pending := by simp [State.stallAxes]

@[simp] theorem State.axTargetWrite_pending (s : State) (a v : Nat) : (s.axTargetWrite a v).pending = s.pending := by
  simp [State.axTargetWrite]

@[simp] theorem execAxTarget_keepsQueue (a : Fin 8) (v : Word) (s : State) : KeepsQueue s (execAxTarget a v s) := ⟨_, rfl, by simp⟩

@[simp] theorem State.axStep_pending (s : State) (a : Nat) : (s.axStep a).pending = s.pending := by simp [State.axStep]

@[simp] theorem execAxStep_keepsQueue (a : Fin 8) (s : State) : KeepsQueue s (execAxStep a s) := by
  unfold execAxStep
  split <;> simp

@[simp] theorem State.axCtlWrite_pending (s : State) (a v : Nat) : (s.axCtlWrite a v).pending = s.pending := by simp [State.axCtlWrite]

@[simp] theorem execAxStop_keepsQueue (a : Fin 8) (v : Word) (s : State) : KeepsQueue s (execAxStop a v s) := by
  unfold execAxStop
  split <;> simp

@[simp] theorem execAxIdle_keepsQueue (a : Fin 8) (s : State) : KeepsQueue s (execAxIdle a s) := by
  unfold execAxIdle
  split <;> simp

/-! ### The queue through WST -/

@[simp] theorem State.dropFrame_pending (s : State) : (s.dropFrame).pending = s.pending := rfl

@[simp] theorem State.sendAck_pending (s : State) (i : Nat) (g : Ingest) (lost done : Bool) :
    (s.sendAck i g lost done).pending = s.pending := by
  simp [State.sendAck]

@[simp] theorem State.fetchFail_pending (s : State) (i : Nat) (g : Ingest) (reason : Nat) :
    (s.fetchFail i g reason).pending = s.pending := by
  simp [State.fetchFail]

@[simp] theorem State.nextServer_pending (s : State) (i : Nat) (g : Ingest) : (s.nextServer i g).pending = s.pending := by
  simp [State.nextServer]

@[simp] theorem execWstData_keepsQueue (session seq len total : Nat) (payload : List Byte) (s : State) :
    KeepsQueue s (execWstData session seq len total payload s) := by
  simp only [execWstData]
  (repeat' split) <;> simp

@[simp] theorem execWstRefuse_keepsQueue (session _reason : Nat) (s : State) : KeepsQueue s (execWstRefuse session _reason s) := by
  unfold execWstRefuse
  (repeat' split) <;> simp

@[simp] theorem execAckDelayTimeout_keepsQueue (i : Fin 16) (s : State) : KeepsQueue s (execAckDelayTimeout i s) := by
  unfold execAckDelayTimeout
  (repeat' split) <;> simp

@[simp] theorem execWstRto_keepsQueue (i : Fin 16) (s : State) : KeepsQueue s (execWstRto i s) := by
  unfold execWstRto
  (repeat' split) <;> simp

/-! ### The queue through Ethernet -/

@[simp] theorem State.portCfgWrite_pending (s : State) (p v : Nat) : (s.portCfgWrite p v).pending = s.pending := by
  simp [State.portCfgWrite]

@[simp] theorem execPortRoleWrite_keepsQueue (p : Fin 4) (v : Word) (s : State) : KeepsQueue s (execPortRoleWrite p v s) :=
  ⟨_, rfl, by simp⟩

@[simp] theorem execEthLinkUp_keepsQueue (p : Fin 4) (s : State) : KeepsQueue s (execEthLinkUp p s) := ⟨_, rfl, rfl⟩

@[simp] theorem State.linkDown_pending (s : State) (p : Nat) : (s.linkDown p).pending = s.pending := by simp [State.linkDown]

@[simp] theorem execEthLinkDown_keepsQueue (p : Fin 4) (s : State) : KeepsQueue s (execEthLinkDown p s) := ⟨_, rfl, by simp⟩

@[simp] theorem execPauseFrame_keepsQueue (p : Fin 4) (s : State) : KeepsQueue s (execPauseFrame p s) := ⟨_, rfl, by simp⟩

@[simp] theorem execEthFrameDrop_keepsQueue (r : Fin 4 × List Byte × Bool) (s : State) : KeepsQueue s (execEthFrameDrop r s) :=
  ⟨_, rfl, by simp⟩

@[simp] theorem execArpRequest_keepsQueue (p : Fin 4) (ip sender mac : Nat) (s : State) :
    KeepsQueue s (execArpRequest p ip sender mac s) := by
  unfold execArpRequest
  split <;> simp

@[simp] theorem execIcmpEcho_keepsQueue (p : Fin 4) (ip : Nat) (sender : Nat × Nat) (payload : List Byte) (s : State) :
    KeepsQueue s (execIcmpEcho p ip sender payload s) := by
  unfold execIcmpEcho
  split <;> simp

@[simp] theorem State.passOn_pending (s : State) (p : Nat) (frame : List Byte) (badFcs : Bool) :
    (s.passOn p frame badFcs).pending = s.pending := by
  simp [State.passOn]

@[simp] theorem execChainForward_keepsQueue (p : Fin 4) (dst src : Nat) (rest : List Byte) (badFcs : Bool) (s : State) :
    KeepsQueue s (execChainForward p dst src rest badFcs s) := by
  simp only [execChainForward]
  (repeat' split) <;> simp

/-! ### The queue through mailboxes and locks -/

@[simp] theorem State.signal_pending (s : State) (r : Nat) : (s.signal r).pending = s.pending := by simp [State.signal]

@[simp] theorem State.wakeCheck_pending (s : State) (r : Nat) : (s.wakeCheck r).pending = s.pending := by simp [State.wakeCheck]

@[simp] theorem State.setDb_pending (s : State) (r pend mask : Nat) : (s.setDb r pend mask).pending = s.pending := by simp [State.setDb]

@[simp] theorem State.ring_pending (s : State) (r n : Nat) : (s.ring r n).pending = s.pending := by simp [State.ring]

@[simp] theorem State.dbClear_pending (s : State) (r n : Nat) : (s.dbClear r n).pending = s.pending := by simp [State.dbClear]

@[simp] theorem State.dbMaskWrite_pending (s : State) (r n : Nat) : (s.dbMaskWrite r n).pending = s.pending := by simp [State.dbMaskWrite]

@[simp] theorem State.dbWakeWrite_pending (s : State) (r n : Nat) : (s.dbWakeWrite r n).pending = s.pending := by simp [State.dbWakeWrite]

@[simp] theorem execDbSet_keepsQueue (_m r : Fin 8) (v : Word) (s : State) : KeepsQueue s (execDbSet _m r v s) := ⟨_, rfl, by simp⟩

@[simp] theorem State.setChannel_pending (s : State) (m r : Nat) (c : Channel) : (s.setChannel m r c).pending = s.pending := rfl

@[simp] theorem State.deliver_pending (s : State) (m r : Nat) (l : List Byte) : (s.deliver m r l).pending = s.pending := by
  simp [State.deliver]

@[simp] theorem State.push_pending (s : State) (m r : Nat) (l : List Byte) : (s.push m r l).pending = s.pending := by simp [State.push]

@[simp] theorem execPush_keepsQueue (m r : Fin 8) (s : State) : KeepsQueue s (execPush m r s) := by
  unfold execPush
  split <;> simp

@[simp] theorem State.pop_pending (s : State) (m r : Nat) : (s.pop m r).pending = s.pending := rfl

@[simp] theorem execPop_keepsQueue (m : Fin 8) (from_ : Fin 6) (s : State) : KeepsQueue s (execPop m from_ s) := by
  unfold execPop
  split <;> simp

@[simp] theorem State.setLock_pending (s : State) (n : Nat) (o : Option Nat) : (s.setLock n o).pending = s.pending := rfl

@[simp] theorem State.lockRead_pending (s : State) (m n : Nat) : (s.lockRead m n).2.pending = s.pending := by
  unfold State.lockRead
  (repeat' split) <;> simp

@[simp] theorem execLockRead_keepsQueue (m : Fin 8) (n : Fin 64) (s : State) : KeepsQueue s (execLockRead m n s) := by
  unfold execLockRead
  simp

@[simp] theorem State.lockWrite_pending (s : State) (m n v : Nat) : (s.lockWrite m n v).pending = s.pending := by simp [State.lockWrite]

@[simp] theorem execLockRelease_keepsQueue (m : Fin 8) (n : Fin 64) (v : Word) (s : State) : KeepsQueue s (execLockRelease m n v s) :=
  ⟨_, rfl, by simp⟩

@[simp] theorem State.dropLocks_pending (s : State) (m : Nat) : (s.dropLocks m).pending = s.pending := rfl

@[simp] theorem State.emptyChannels_pending (s : State) (m : Nat) : (s.emptyChannels m).pending = s.pending := rfl

@[simp] theorem State.aerReport_pending (s : State) (a n : Nat) : (s.aerReport a n).pending = s.pending := rfl

@[simp] theorem State.refuseHost_pending (s : State) (kind a n : Nat) : (s.refuseHost kind a n).pending = s.pending := by
  simp [State.refuseHost]

@[simp] theorem State.winWrite_pending (s : State) (m a : Nat) (l : List Byte) : (s.winWrite m a l).1.pending = s.pending := by
  unfold State.winWrite
  (repeat' split) <;> simp

@[simp] theorem State.winRead_pending (s : State) (a len : Nat) : (s.winRead a len).2.pending = s.pending := by
  simp only [State.winRead]
  (repeat' split) <;> simp

@[simp] theorem State.answer64_pending (s : State) (v : Nat) : (s.answer64 v).pending = s.pending := rfl

@[simp] theorem State.answerErr_pending (s : State) : (s.answerErr).pending = s.pending := rfl

@[simp] theorem execHbmWindowAccess_keepsQueue (off : Nat) (write : Bool) (bytes : List Byte) (len : Nat) (s : State) :
    KeepsQueue s (execHbmWindowAccess off write bytes len s) := by
  unfold execHbmWindowAccess
  dsimp only
  split
  · simp
  · split
    · next h => simp [pending_of_snd h (s.winRead_pending _ len)]
    · next h => simp [pending_of_snd h (s.winRead_pending _ len)]

/-! ### The queue through the cluster -/

@[simp] theorem State.seeTerm_pending (s : State) (term : Nat) : (s.seeTerm term).pending = s.pending := by simp [State.seeTerm]

@[simp] theorem State.journalMember_pending (s : State) (m : Nat) (full : Bool) : (s.journalMember m full).pending = s.pending := by
  simp [State.journalMember]

@[simp] theorem State.setMember_pending (s : State) (m : Nat) (r : Member) : (s.setMember m r).pending = s.pending := by
  simp [State.setMember]

@[simp] theorem State.noteStarted_pending (s : State) (w stripe sstate : Nat) : (s.noteStarted w stripe sstate).pending = s.pending := rfl

@[simp] theorem State.sendGrant_pending (s : State) (w gseq : Nat) (d : List Word) : (s.sendGrant w gseq d).pending = s.pending := by
  simp [State.sendGrant]

@[simp] theorem State.sendMsg_pending (s : State) (g : GrantMsg) : (s.sendMsg g).pending = s.pending := by
  unfold State.sendMsg
  split <;> simp

@[simp] theorem State.grantNext_pending (s : State) (w : Nat) : (s.grantNext w).pending = s.pending := by simp [State.grantNext]

@[simp] theorem State.grantUp_pending (s : State) (w : Nat) : (s.grantUp w).pending = s.pending := by simp [State.grantUp]

@[simp] theorem State.grantAll_pending (s : State) : (s.grantAll).pending = s.pending := by simp [State.grantAll]

@[simp] theorem State.sendReady_pending (s : State) : (s.sendReady).pending = s.pending := by simp [State.sendReady]

@[simp] theorem State.releaseGrants_pending (s : State) (ok : GrantMsg → Bool) : (s.releaseGrants ok).pending = s.pending := by
  simp [State.releaseGrants]

@[simp] theorem State.cluListen_pending (s : State) : (s.cluListen).pending = s.pending := rfl

@[simp] theorem State.cluCfgWrite_pending (s : State) (v : Nat) : (s.cluCfgWrite v).pending = s.pending := by simp [State.cluCfgWrite]

@[simp] theorem State.stepDown_pending (s : State) (term : Nat) : (s.stepDown term).pending = s.pending := by simp [State.stepDown]

@[simp] theorem State.standbyFails_pending (s : State) (reason : Nat) : (s.standbyFails reason).pending = s.pending := by
  simp [State.standbyFails]

@[simp] theorem State.dmemWords_pending (s : State) (a : Nat) (l : List Word) : (s.dmemWords a l).pending = s.pending := by
  induction l generalizing s a with
  | nil => rfl
  | cons w r ih => simp [State.dmemWords, ih]

@[simp] theorem State.placeGrant_pending (s : State) (gseq : Nat) (d : List Word) : (s.placeGrant gseq d).2.pending = s.pending := by
  unfold State.placeGrant
  dsimp only
  split
  · rfl
  · split
    · next h => exact pending_of_snd h (s.readWord_pending 15 _)
    · next h =>
      have ht := pending_of_snd h (s.readWord_pending 15 _)
      split
      · exact ht
      · simp [ht]

@[simp] theorem State.relayTo_pending (s : State) (w gseq : Nat) (desc : List Word) : (s.relayTo w gseq desc).pending = s.pending := by
  simp [State.relayTo]

@[simp] theorem State.relayGrant_pending (s : State) (term gseq worker : Nat) (desc : List Word) :
    (s.relayGrant term gseq worker desc).pending = s.pending := by
  simp [State.relayGrant]

@[simp] theorem execGrant_keepsQueue (cluster : Nat) (src : Nat × Bool) (dst term gseq worker : Nat) (desc : List Word) (s : State) :
    KeepsQueue s (execGrant cluster src dst term gseq worker desc s) := by
  simp only [execGrant]
  (repeat' split) <;> simp

@[simp] theorem execStatusTimer_keepsQueue (s : State) : KeepsQueue s (execStatusTimer s) := by
  unfold execStatusTimer
  split <;> simp

@[simp] theorem State.regrant_pending (s : State) (w : Nat) : (s.regrant w).pending = s.pending := by simp [State.regrant]

@[simp] theorem State.statusOf_pending (s : State) (w src stripe sstate motion th held cause : Nat) :
    (s.statusOf w src stripe sstate motion th held cause).pending = s.pending := by
  simp [State.statusOf]

@[simp] theorem execStatus_keepsQueue (cluster src dst term stripe sstate motion th held cause worker : Nat) (s : State) :
    KeepsQueue s (execStatus cluster src dst term stripe sstate motion th held cause worker s) := by
  unfold execStatus
  (repeat' split) <;> simp

@[simp] theorem State.settleGrant_pending (s : State) (w gseq result : Nat) (g : GrantMsg) :
    (s.settleGrant w gseq result g).pending = s.pending := by
  simp [State.settleGrant]

@[simp] theorem execGrantAck_keepsQueue (cluster src dst term gseq result : Nat) (s : State) :
    KeepsQueue s (execGrantAck cluster src dst term gseq result s) := by
  unfold execGrantAck
  (repeat' split) <;> simp

@[simp] theorem execGrantRetransmit_keepsQueue (w : Fin 16) (s : State) : KeepsQueue s (execGrantRetransmit w s) := by
  unfold execGrantRetransmit
  split <;> simp

@[simp] theorem execMemberTimeout_keepsQueue (w : Fin 16) (s : State) : KeepsQueue s (execMemberTimeout w s) := by
  simp only [execMemberTimeout]
  (repeat' split) <;> simp

@[simp] theorem State.hearManager_pending (s : State) : (s.hearManager).pending = s.pending := by simp [State.hearManager]

@[simp] theorem State.seeUpper_pending (s : State) (term : Nat) : (s.seeUpper term).pending = s.pending := by simp [State.seeUpper]

@[simp] theorem execHeartbeat_keepsQueue (cluster : Nat) (src : Nat × Bool) (dst term _jseq : Nat) (standby sbFailed : Bool) (s : State) :
    KeepsQueue s (execHeartbeat cluster src dst term _jseq standby sbFailed s) := by
  unfold execHeartbeat
  (repeat' split) <;> simp

@[simp] theorem execHeartbeatTimer_keepsQueue (s : State) : KeepsQueue s (execHeartbeatTimer s) := by
  unfold execHeartbeatTimer
  split <;> simp

@[simp] theorem State.checkDigest_pending (s : State) : (s.checkDigest).pending = s.pending := by
  unfold State.checkDigest
  split <;> simp

@[simp] theorem State.joined_pending (s : State) (src : Nat) : (s.joined src).pending = s.pending := by simp [State.joined]

@[simp] theorem execJournal_keepsQueue (cluster src dst term jseq member : Nat) (full : Bool) (record : List Nat) (s : State) :
    KeepsQueue s (execJournal cluster src dst term jseq member full record s) := by
  unfold execJournal
  (repeat' split) <;> simp

@[simp] theorem execJournalAck_keepsQueue (cluster _src dst term jseq : Nat) (s : State) :
    KeepsQueue s (execJournalAck cluster _src dst term jseq s) := by
  simp only [execJournalAck]
  (repeat' split) <;> simp

@[simp] theorem execJournalRetransmit_keepsQueue (s : State) : KeepsQueue s (execJournalRetransmit s) := by
  unfold execJournalRetransmit
  split <;> simp

@[simp] theorem execJournalTimeout_keepsQueue (s : State) : KeepsQueue s (execJournalTimeout s) := by
  unfold execJournalTimeout
  split <;> simp

@[simp] theorem execDigest_keepsQueue (cluster _src dst term jseq : Nat) (digest : List Byte) (s : State) :
    KeepsQueue s (execDigest cluster _src dst term jseq digest s) := by
  unfold execDigest
  (repeat' split) <;> simp

@[simp] theorem execDigestTimer_keepsQueue (s : State) : KeepsQueue s (execDigestTimer s) := by
  unfold execDigestTimer
  split <;> simp

@[simp] theorem execJoin_keepsQueue (cluster _src dst term : Nat) (s : State) : KeepsQueue s (execJoin cluster _src dst term s) := by
  unfold execJoin
  (repeat' split) <;> simp

@[simp] theorem State.becomeManager_pending (s : State) : (s.becomeManager).pending = s.pending := by simp [State.becomeManager]

@[simp] theorem execJoinListenTimeout_keepsQueue (s : State) : KeepsQueue s (execJoinListenTimeout s) := by
  unfold execJoinListenTimeout
  split <;> simp

@[simp] theorem execManagerTimeout_keepsQueue (s : State) : KeepsQueue s (execManagerTimeout s) := by
  unfold execManagerTimeout
  split <;> simp

@[simp] theorem State.relayStatus_pending (s : State) (w : Nat) : (s.relayStatus w).pending = s.pending := by simp [State.relayStatus]

@[simp] theorem State.takeoverAbove_pending (s : State) (term : Nat) : (s.takeoverAbove term).pending = s.pending := by
  simp [State.takeoverAbove]

@[simp] theorem execTakeover_keepsQueue (cluster : Nat) (src : Nat × Bool) (dst term _jseq : Nat) (s : State) :
    KeepsQueue s (execTakeover cluster src dst term _jseq s) := by
  unfold execTakeover
  (repeat' split) <;> simp

/-! ### The queue through Lehr -/

@[simp] theorem State.beginLoad_pending (s : State) (k : Stripe) (c p : Nat) : (s.beginLoad k c p).pending = s.pending := by
  unfold State.beginLoad
  split <;> simp

@[simp] theorem State.kickLehr_pending (s : State) : (s.kickLehr).pending = s.pending := by
  unfold State.kickLehr
  split <;> simp

@[simp] theorem State.reread_pending (s : State) (chunk j check : Nat) : (s.reread chunk j check).pending = s.pending := by
  simp [State.reread]

@[simp] theorem State.stageWritten_pending (s : State) (i : Nat) : (s.stageWritten i).pending = s.pending := rfl

@[simp] theorem State.noteChunk_pending (s : State) (base c : Nat) : (s.noteChunk base c).pending = s.pending := by simp [State.noteChunk]

@[simp] theorem execChunkLoadDone_keepsQueue (s : State) : KeepsQueue s (execChunkLoadDone s) := by
  unfold execChunkLoadDone
  extract_lets s0
  have h0 : s0.pending = s.pending := s.kickLehr_pending
  split
  · split
    · next i _ _ _ _ h r _ _ =>
      split
      next t use e =>
      have ht : t.pending = s.pending := (pending_of_fst e (s0.itemGate_pending 2 h.stripe h.gen)).trans h0
      split
      · exact (keepsQueue_next s t).mpr ht
      · split
        next u e1 =>
        have hu : u.pending = s.pending := (pending_of_snd e1 (t.free_pending 8)).trans ht
        split
        · split
          next v e2 =>
          have hv : v.pending = s.pending := (pending_of_snd e2 (u.free_pending 13)).trans hu
          extract_lets s3
          have h3 : s3.pending = s.pending := by
            rw [State.ite_pending, State.reread_pending, State.noteChunk_pending, hv, ite_self]
          exact (keepsQueue_next s _).mpr ((s3.stageWritten_pending i).trans h3)
        · extract_lets s2
          have h2 : s2.pending = s.pending := by rw [State.reread_pending, State.noteRead_pending, hu]
          exact (keepsQueue_next s _).mpr ((State.halt_pending _ _ _ _).trans h2)
    · exact (keepsQueue_next s s0).mpr h0
  · exact (keepsQueue_next s s0).mpr h0

@[simp] theorem execChunkServeStart_keepsQueue (s : State) : KeepsQueue s (execChunkServeStart s) := by
  simp only [execChunkServeStart]
  (repeat' split) <;> simp

@[simp] theorem State.freeServed_pending (s : State) (k : Stripe) : (s.freeServed k).pending = s.pending := by
  unfold State.freeServed
  split <;> simp

/-! ### The queue through Punty -/

@[simp] theorem State.setLane_pending (s : State) (l st : Nat) : (s.setLane l st).pending = s.pending := rfl

@[simp] theorem State.settleTrain_pending (s : State) : (s.settleTrain).pending = s.pending := by
  unfold State.settleTrain
  extract_lets idle s1
  have h1 : s1.pending = s.pending := foldl_pending fun t g => by split <;> simp
  split
  · exact h1
  · extract_lets l bad s2
    split
    · simp [s2, h1]
    · exact h1

@[simp] theorem State.dropReplay_pending (s : State) (l : Nat) : (s.dropReplay l).pending = s.pending := rfl

@[simp] theorem State.laneDown_pending (s : State) (l cause : Nat) : (s.laneDown l cause).pending = s.pending := by simp [State.laneDown]

@[simp] theorem State.idleLine_pending (s : State) (l : Nat) : (s.idleLine l).pending = s.pending := by simp [State.idleLine]

@[simp] theorem State.leaveTest_pending (s : State) (l : Nat) : (s.leaveTest l).pending = s.pending := by simp [State.leaveTest]

@[simp] theorem State.forceDown_pending (s : State) (l cause : Nat) : (s.forceDown l cause).pending = s.pending := by simp [State.forceDown]

@[simp] theorem State.retDown_pending (s : State) (g cause : Nat) : (s.retDown g cause).pending = s.pending := by simp [State.retDown]

@[simp] theorem State.groupDown_pending (s : State) (g : Nat) : (s.groupDown g).pending = s.pending := by simp [State.groupDown]

@[simp] theorem State.laneFail_pending (s : State) (l : Nat) : (s.laneFail l).pending = s.pending := by simp [State.laneFail]

@[simp] theorem State.trainAsk_pending (s : State) (g : Nat) : (s.trainAsk g).pending = s.pending := by simp [State.trainAsk]

@[simp] theorem State.trainingGranted_pending (s : State) (g : Nat) : (s.trainingGranted g).pending = s.pending := by
  simp [State.trainingGranted]

@[simp] theorem State.startLane_pending (s : State) (l : Nat) : (s.startLane l).pending = s.pending := by simp [State.startLane]

@[simp] theorem State.startTrain_pending (s : State) (mask : Nat) : (s.startTrain mask).pending = s.pending := by simp [State.startTrain]

@[simp] theorem State.sendFrame_pending (s : State) (l gen : Nat) (f : FrameSent) (replay : Bool) (data : List Word) :
    (s.sendFrame l gen f replay data).pending = s.pending := by
  simp [State.sendFrame]

@[simp] theorem State.requestFrame_pending (s : State) (l : Nat) : (s.requestFrame l).pending = s.pending := by simp [State.requestFrame]

@[simp] theorem State.trainFrame_pending (s : State) (l : Nat) : (s.trainFrame l).pending = s.pending := by
  unfold State.trainFrame
  simp

@[simp] theorem State.syncFrame_pending (s : State) (l : Nat) (k : Stripe) : (s.syncFrame l k).pending = s.pending := by
  simp [State.syncFrame]

@[simp] theorem execPlaneFrame_keepsQueue (l : Fin 64) (s : State) : KeepsQueue s (execPlaneFrame l s) := by
  simp only [execPlaneFrame]
  (repeat' split) <;> simp

@[simp] theorem State.refused_pending (s : State) (l : Nat) (f : FrameSent) (kind : Nat) : (s.refused l f kind).pending = s.pending := by
  unfold State.refused
  (repeat' split) <;> simp

@[simp] theorem State.answer_pending (s : State) (l flash plane ftype : Nat) (nak : Bool) :
    (s.answer l flash plane ftype nak).pending = s.pending := by
  simp only [State.answer]
  (repeat' split) <;> simp

@[simp] theorem State.retBad_pending (s : State) : (s.retBad).pending = s.pending := rfl

@[simp] theorem State.answers_pending (s : State) (g flash plane ftype ack nak : Nat) :
    (s.answers g flash plane ftype ack nak).pending = s.pending := by
  simp [State.answers]

@[simp] theorem execReplaySend_keepsQueue (l : Fin 64) (s : State) : KeepsQueue s (execReplaySend l s) := by
  simp only [execReplaySend]
  (repeat' split) <;> simp

@[simp] theorem execAckTimeout_keepsQueue (l : Fin 64) (s : State) : KeepsQueue s (execAckTimeout l s) := by
  unfold execAckTimeout
  split <;> simp

@[simp] theorem execCommitPoint_keepsQueue (s : State) : KeepsQueue s (execCommitPoint s) := by
  simp only [execCommitPoint]
  (repeat' split) <;> simp

@[simp] theorem State.lockBit_pending (s : State) (l : Nat) (ok : Bool) : (s.lockBit l ok).pending = s.pending := by simp [State.lockBit]

@[simp] theorem State.takeStatus_pending (s : State) (g locked aligned : Nat) : (s.takeStatus g locked aligned).pending = s.pending := by
  simp [State.takeStatus]

@[simp] theorem State.takeTap_pending (t : State) (g l pre main post : Nat) (eqDone : Bool) :
    (t.takeTap g l pre main post eqDone).pending = t.pending := by
  simp only [State.takeTap]
  (repeat' split) <;> simp

@[simp] theorem execReturnLaneTimeout_keepsQueue (g : Fin 8) (s : State) : KeepsQueue s (execReturnLaneTimeout g s) := by
  unfold execReturnLaneTimeout
  split <;> simp

@[simp] theorem execBlockLockLoss_keepsQueue (g : Fin 8) (s : State) : KeepsQueue s (execBlockLockLoss g s) := ⟨_, rfl, by simp⟩

@[simp] theorem execBlockLockAcquire_keepsQueue (g : Fin 8) (s : State) : KeepsQueue s (execBlockLockAcquire g s) := by
  unfold execBlockLockAcquire
  split <;> simp

@[simp] theorem execTrainStateTimeout_keepsQueue (l : Fin 64) (s : State) : KeepsQueue s (execTrainStateTimeout l s) := by
  simp only [execTrainStateTimeout]
  (repeat' split) <;> simp

@[simp] theorem State.hottest_pending (s : State) (valid : Nat) (sensors : List Int) : (s.hottest valid sensors).2.pending = s.pending := by
  unfold State.hottest
  split <;> simp

@[simp] theorem State.takeTemp_pending (t : State) (valid : Nat) (ovt : Bool) (sensors : List Int) :
    (t.takeTemp valid ovt sensors).pending = t.pending := by
  simp [State.takeTemp]

@[simp] theorem State.takeMessage_pending (t : State) (g : Nat) (m : RetMsg) : (t.takeMessage g m).pending = t.pending := by
  simp [State.takeMessage]

@[simp] theorem State.receive_pending (s : State) (g : Nat) (l : List Nat) : (s.receive g l).pending = s.pending := by
  unfold State.receive
  (repeat' split) <;> simp

@[simp] theorem execAck_keepsQueue (g : Fin 8) (alive flash plane ftype ack nak : Nat) (s : State) :
    KeepsQueue s (execAck g alive flash plane ftype ack nak s) :=
  ⟨_, rfl, by simp⟩

@[simp] theorem execLinkStatus_keepsQueue (g : Fin 8) (alive locked aligned : Nat) (s : State) :
    KeepsQueue s (execLinkStatus g alive locked aligned s) :=
  ⟨_, rfl, by simp⟩

@[simp] theorem execTapReq_keepsQueue (g : Fin 8) (alive : Nat) (lane : Fin 64) (pre main post : Nat) (eqDone : Bool) (s : State) :
    KeepsQueue s (execTapReq g alive lane pre main post eqDone s) :=
  ⟨_, rfl, by simp⟩

@[simp] theorem execTempReport_keepsQueue (g : Fin 8) (alive valid : Nat) (ovt : Bool) (sensors : List Int) (s : State) :
    KeepsQueue s (execTempReport g alive valid ovt sensors s) :=
  ⟨_, rfl, by simp⟩

theorem execCcResult_keepsQueue {results : List (Nat × Nat)} (h : 1 ≤ results.length) (h5 : results.length ≤ 5) (g : Fin 8)
    (alive first : Nat) (s : State) :
    KeepsQueue s (execCcResult g alive first results s) := by
  unfold execCcResult
  rw [if_neg (by simp; exact ⟨List.ne_nil_of_length_pos h, h5⟩)]
  simp

@[simp] theorem execReturnMessageDiscard_keepsQueue (m : Fin 8 × List Word) (s : State) : KeepsQueue s (execReturnMessageDiscard m s) := by
  simp only [execReturnMessageDiscard]
  (repeat' split) <;> simp

@[simp] theorem State.requestOn_pending (s : State) (l : Nat) : (s.requestOn l).pending = s.pending := by simp [State.requestOn]

@[simp] theorem execCellCheckRequest_keepsQueue (s : State) : KeepsQueue s (execCellCheckRequest s) := by
  unfold execCellCheckRequest
  split <;> simp

@[simp] theorem State.prbsError_pending (s : State) (l : Nat) : (s.prbsError l).pending = s.pending := by simp [State.prbsError]

@[simp] theorem State.flipBit_pending (s : State) (l : Nat) : (s.flipBit l).pending = s.pending := by simp [State.flipBit]

@[simp] theorem State.startPattern_pending (s : State) (l : Nat) : (s.startPattern l).pending = s.pending := rfl

@[simp] theorem State.prbsWrite_pending (s : State) (l v : Nat) : (s.prbsWrite l v).pending = s.pending := by simp [State.prbsWrite]

@[simp] theorem execPrbsTestEnter_keepsQueue (l : Fin 72) (v : Word) (s : State) : KeepsQueue s (execPrbsTestEnter l v s) := by
  unfold execPrbsTestEnter
  split <;> simp

@[simp] theorem execPrbsInj_keepsQueue (l : Fin 72) (v : Word) (s : State) : KeepsQueue s (execPrbsInj l v s) := by
  unfold execPrbsInj
  split <;> simp

@[simp] theorem execPrbsCheckerSync_keepsQueue (l : Fin 72) (s : State) : KeepsQueue s (execPrbsCheckerSync l s) := by
  unfold execPrbsCheckerSync
  split <;> simp

@[simp] theorem execPrbsBitError_keepsQueue (l : Fin 72) (s : State) : KeepsQueue s (execPrbsBitError l s) := by
  unfold execPrbsBitError
  split <;> simp

@[simp] theorem execPrbsRateError_keepsQueue (l : Fin 72) (s : State) : KeepsQueue s (execPrbsRateError l s) := by
  unfold execPrbsRateError
  split <;> simp

/-! ### The queue through motion and flash -/

@[simp] theorem State.activate_pending (s : State) (k : Stripe) : (s.activate k).pending = s.pending := by simp [State.activate]

@[simp] theorem execStripeActivate_keepsQueue (s : State) : KeepsQueue s (execStripeActivate s) := by
  unfold execStripeActivate
  (repeat' split) <;> simp

@[simp] theorem execPositioningDone_keepsQueue (s : State) : KeepsQueue s (execPositioningDone s) := by
  unfold execPositioningDone
  split <;> simp

@[simp] theorem execRunInStart_keepsQueue (s : State) : KeepsQueue s (execRunInStart s) := by
  unfold execRunInStart
  (repeat' split) <;> simp

@[simp] theorem State.watchArm_pending (s : State) : (s.watchArm).pending = s.pending := by
  unfold State.watchArm
  (repeat' split) <;> simp

@[simp] theorem State.arm_pending (s : State) (k : Stripe) : (s.arm k).pending = s.pending := by simp [State.arm]

@[simp] theorem State.armChecked_pending (s : State) (k : Stripe) : (s.armChecked k).pending = s.pending := by simp [State.armChecked]

@[simp] theorem execT0Arm_keepsQueue (s : State) : KeepsQueue s (execT0Arm s) := by
  simp only [execT0Arm]
  (repeat' split) <;> simp

@[simp] theorem State.deflect_pending (s : State) (k : Stripe) (t a lock : Nat) : (s.deflect k t a lock).pending = s.pending := by
  simp [State.deflect]

@[simp] theorem State.flsCtlWrite_pending (s : State) (v : Nat) : (s.flsCtlWrite v).pending = s.pending := by simp [State.flsCtlWrite]

@[simp] theorem State.fixFlash_pending (s : State) (k : Stripe) (t a lock : Nat) : (s.fixFlash k t a lock).pending = s.pending := by
  simp [State.fixFlash]

@[simp] theorem State.warnSpeed_pending (s : State) (k : Stripe) (t interval : Nat) : (s.warnSpeed k t interval).pending = s.pending := by
  simp [State.warnSpeed]

@[simp] theorem execStrobeLock_keepsQueue (s : State) : KeepsQueue s (execStrobeLock s) := by
  simp only [execStrobeLock]
  (repeat' split) <;> simp

@[simp] theorem State.endFlashing_pending (s : State) : (s.endFlashing).pending = s.pending := by simp [State.endFlashing]

@[simp] theorem execPlaneStrobe_keepsQueue (s : State) : KeepsQueue s (execPlaneStrobe s) := by
  unfold execPlaneStrobe
  (repeat' split) <;> simp

@[simp] theorem State.stripeDone_pending (s : State) (k : Stripe) : (s.stripeDone k).pending = s.pending := by simp [State.stripeDone]

@[simp] theorem execRunoutDone_keepsQueue (s : State) : KeepsQueue s (execRunoutDone s) := by
  unfold execRunoutDone
  (repeat' split) <;> simp

@[simp] theorem execRestReached_keepsQueue (s : State) : KeepsQueue s (execRestReached s) := by
  simp only [execRestReached]
  (repeat' split) <;> simp

@[simp] theorem execPaceEval_keepsQueue (s : State) : KeepsQueue s (execPaceEval s) := by
  simp only [execPaceEval]
  (repeat' split) <;> simp

@[simp] theorem State.servoFault_pending (s : State) (p missed : Nat) : (s.servoFault p missed).pending = s.pending := by
  unfold State.servoFault
  split <;> simp

@[simp] theorem State.sendSetpoint_pending (s : State) (b : List Byte) (p : Nat) : (s.sendSetpoint b p).pending = s.pending := by
  simp [State.sendSetpoint]

@[simp] theorem execSetpointFrame_keepsQueue (s0 : State) : KeepsQueue s0 (execSetpointFrame s0) := by
  simp only [execSetpointFrame]
  (repeat' split) <;> simp

@[simp] theorem execServoReturn_keepsQueue (port : Fin 2) (bytes : List Byte) (s : State) :
    KeepsQueue s (execServoReturn port bytes s) := by
  simp only [execServoReturn]
  (repeat' split) <;> simp

/-! ### The queue through Thyme -/

@[simp] theorem State.setAcc_pending (s : State) (n : Int) : (s.setAcc n).pending = s.pending := rfl

@[simp] theorem State.thymeTick_pending (s : State) : (s.thymeTick).pending = s.pending := rfl

@[simp] theorem State.incWrite_pending (s : State) (v : Nat) : (s.incWrite v).pending = s.pending := by simp [State.incWrite]

@[simp] theorem execIncWrite_keepsQueue (v : Word) (s : State) : KeepsQueue s (execIncWrite v s) := ⟨_, rfl, by simp⟩

@[simp] theorem State.timeSecRead_pending (s : State) : (s.timeSecRead).2.pending = s.pending := rfl

@[simp] theorem execTimeSecRead_keepsQueue (width : Nat) (s : State) : KeepsQueue s (execTimeSecRead width s) := ⟨_, rfl, rfl⟩

@[simp] theorem State.tpMissed_pending (s : State) (n start skipped : Nat) : (s.tpMissed n start skipped).pending = s.pending := by
  simp [State.tpMissed]

@[simp] theorem State.armPulse_pending (s : State) (n : Nat) : (s.armPulse n).pending = s.pending := by simp [State.armPulse]

@[simp] theorem State.tpCtlWrite_pending (s : State) (n v : Nat) : (s.tpCtlWrite n v).pending = s.pending := by simp [State.tpCtlWrite]

@[simp] theorem execTpArm_keepsQueue (n : Fin 8) (v : Word) (s : State) : KeepsQueue s (execTpArm n v s) := by
  unfold execTpArm
  split <;> simp

@[simp] theorem execTpDisarm_keepsQueue (n : Fin 8) (v : Word) (s : State) : KeepsQueue s (execTpDisarm n v s) := by
  unfold execTpDisarm
  split <;> simp

@[simp] theorem State.skipPulse_pending (s : State) (n : Nat) : (s.skipPulse n).pending = s.pending := by
  unfold State.skipPulse
  extract_lets start q k
  split
  · split <;> rw [State.tpMissed_pending, State.count_pending, State.put_pending]
  · rfl

@[simp] theorem State.capture_pending (s : State) (n t : Nat) : (s.capture n t).pending = s.pending := by simp [State.capture]

@[simp] theorem State.captureSource_pending (s : State) (src : Nat) (falling : Bool) (t : Nat) :
    (s.captureSource src falling t).pending = s.pending := by
  simp [State.captureSource]

@[simp] theorem execCaptureEdge_keepsQueue (n : Fin 8) (falling : Bool) (s : State) : KeepsQueue s (execCaptureEdge n falling s) := by
  unfold execCaptureEdge
  split <;> simp

@[simp] theorem State.tcTimeRead_pending (s : State) (n : Nat) : (s.tcTimeRead n).2.pending = s.pending := by
  unfold State.tcTimeRead
  split <;> simp

@[simp] theorem execTcTimeRead_keepsQueue (n : Fin 8) (s : State) : KeepsQueue s (execTcTimeRead n s) := by
  unfold execTcTimeRead
  simp

@[simp] theorem execTpFire_keepsQueue (n : Fin 8) (s : State) : KeepsQueue s (execTpFire n s) := by
  unfold execTpFire
  split <;> simp

@[simp] theorem State.changeTime_pending (s : State) (n : Int) : (s.changeTime n).pending = s.pending := by simp [State.changeTime]

@[simp] theorem State.adjCtlWrite_pending (s : State) (v : Nat) : (s.adjCtlWrite v).pending = s.pending := by simp [State.adjCtlWrite]

@[simp] theorem execThySet_keepsQueue (v : Word) (s : State) : KeepsQueue s (execThySet v s) := by
  unfold execThySet
  split <;> simp

@[simp] theorem execThyStep_keepsQueue (v : Word) (s : State) : KeepsQueue s (execThyStep v s) := by
  unfold execThyStep
  split <;> simp

@[simp] theorem execThySlew_keepsQueue (v : Word) (s : State) : KeepsQueue s (execThySlew v s) := by
  unfold execThySlew
  split <;> simp

@[simp] theorem State.modRef_pending (s : State) (r : Nat) (f : RefPair → RefPair) : (s.modRef r f).pending = s.pending := rfl

@[simp] theorem State.refLost_pending (s : State) (r reason : Nat) : (s.refLost r reason).pending = s.pending := by simp [State.refLost]

@[simp] theorem execTrefEdge_keepsQueue (r : Fin 2) (s : State) : KeepsQueue s (execTrefEdge r s) := ⟨_, rfl, rfl⟩

@[simp] theorem execTrefTimeout_keepsQueue (r : Fin 2) (s : State) : KeepsQueue s (execTrefTimeout r s) := ⟨_, rfl, rfl⟩

@[simp] theorem execPpsTimeout_keepsQueue (r : Fin 2) (s : State) : KeepsQueue s (execPpsTimeout r s) := ⟨_, rfl, rfl⟩

@[simp] theorem State.ppsEdge_pending (s : State) (r : Nat) : (s.ppsEdge r).pending = s.pending := by
  unfold State.ppsEdge
  extract_lets p t s1 s2
  have h2 : s2.pending = s.pending := by
    rw [State.modRef_pending, State.put_pending, State.put_pending, State.put_pending]
  split
  · exact h2
  · extract_lets badTime s3 s4
    have h3 : s3.pending = s.pending := by
      rw [State.ite_pending, State.refLost_pending, h2, ite_self]
    have h4 : s4.pending = s.pending := by rw [State.modRef_pending, h3]
    simp only [State.ite_pending, State.refLost_pending, State.put_pending, h3, h4, ite_self]

@[simp] theorem execPpsEdge_keepsQueue (r : Fin 2) (falling : Bool) (s : State) : KeepsQueue s (execPpsEdge r falling s) :=
  ⟨_, rfl, by simp⟩

/-! ### The queue through stage feedback -/

@[simp] theorem State.toSeq_pending (s : State) (n due : Nat) : (s.toSeq n due).pending = s.pending := rfl

@[simp] theorem State.cmpMissed_pending (s : State) (c : Nat) (pos : Int) (invalid : Bool) :
    (s.cmpMissed c pos invalid).pending = s.pending := by
  simp [State.cmpMissed]

@[simp] theorem State.cmpCtlWrite_pending (s : State) (c v : Nat) : (s.cmpCtlWrite c v).pending = s.pending := by simp [State.cmpCtlWrite]

@[simp] theorem execCompareArm_keepsQueue (c : Fin 4) (v : Word) (s : State) : KeepsQueue s (execCompareArm c v s) := by
  unfold execCompareArm
  split <;> simp

@[simp] theorem State.compareAt_pending (s : State) (n at_ : Nat) (p : Int) (c : Nat) : (s.compareAt n at_ p c).pending = s.pending := by
  simp [State.compareAt]

@[simp] theorem State.emuCheck_pending (s : State) (e : Nat) : (s.emuCheck e).pending = s.pending := by simp [State.emuCheck]

@[simp] theorem State.emuRatioWrite_pending (s : State) (e v : Nat) : (s.emuRatioWrite e v).pending = s.pending := by
  simp [State.emuRatioWrite]

@[simp] theorem State.emuChecks_pending (s : State) (n : Nat) : (s.emuChecks n).pending = s.pending := by simp [State.emuChecks]

@[simp] theorem State.emuCtlWrite_pending (s : State) (e v : Nat) : (s.emuCtlWrite e v).pending = s.pending := by simp [State.emuCtlWrite]

@[simp] theorem execEmuEnable_keepsQueue (e : Fin 2) (v : Word) (s : State) : KeepsQueue s (execEmuEnable e v s) := by
  unfold execEmuEnable
  split <;> simp

@[simp] theorem State.emMove_pending (s : State) (e : Nat) (up : Bool) : (s.emMove e up).pending = s.pending := rfl

@[simp] theorem execEmuEdge_keepsQueue (e : Fin 2) (s : State) : KeepsQueue s (execEmuEdge e s) := by
  unfold execEmuEdge
  split <;> simp

@[simp] theorem State.faultEvent_pending (s : State) (n cause : Nat) : (s.faultEvent n cause).pending = s.pending := by
  simp [State.faultEvent]

@[simp] theorem State.chFault_pending (s : State) (n cause due : Nat) : (s.chFault n cause due).pending = s.pending := by
  unfold State.chFault
  simp only [State.at_pending, State.stallAxes_pending]
  exact foldl_pending fun t c => t.cmpMissed_pending c _ true

@[simp] theorem State.checkDev_pending (due : Nat) (s : State) (a : Nat) : (State.checkDev due s a).pending = s.pending := by
  simp [State.checkDev]

@[simp] theorem State.deviationEvent_pending (s : State) (a : Nat) (dev : Int) : (s.deviationEvent a dev).pending = s.pending := by
  simp [State.deviationEvent]

@[simp] theorem State.newSample_pending (s : State) (n at_ : Nat) : (s.newSample n at_).pending = s.pending := by simp [State.newSample]

@[simp] theorem State.setSpeed_pending (s : State) (n : Nat) (v : Int) (neg estimate standstill : Bool) :
    (s.setSpeed n v neg estimate standstill).pending = s.pending := by
  simp [State.setSpeed]

@[simp] theorem State.newEdge_pending (s : State) (n : Nat) (pos : Int) (t : Nat) (neg : Bool) :
    (s.newEdge n pos t neg).pending = s.pending := by
  simp only [State.newEdge]
  (repeat' split) <;> simp

@[simp] theorem State.moveTo_pending (s : State) (n : Nat) (pos : Int) (at_ : Nat) : (s.moveTo n pos at_).pending = s.pending := by
  simp [State.moveTo]

@[simp] theorem State.phi_pending (st : State) (s c : Int) : (st.phi s c).2.pending = st.pending := by
  simp only [State.phi]
  (repeat' split) <;> simp

@[simp] theorem State.aePhase_pending (s : State) (n phi : Nat) : (s.aePhase n phi).pending = s.pending := by
  unfold State.aePhase
  split <;> simp

@[simp] theorem execAeSample_keepsQueue (n : Fin 4) (rawS rawC : Nat) (s0 : State) : KeepsQueue s0 (execAeSample n rawS rawC s0) := by
  simp only [execAeSample]
  (repeat' split) <;> simp

@[simp] theorem execQuadEdge_keepsQueue (n : Fin 18) (level : Nat) (s : State) : KeepsQueue s (execQuadEdge n level s) := by
  simp only [execQuadEdge]
  (repeat' split) <;> simp

@[simp] theorem State.quadStable_pending (s : State) (n k : Nat) : (s.quadStable n k).pending = s.pending := by simp [State.quadStable]

@[simp] theorem State.soon_pending (s : State) (n : Nat) : (s.soon n).pending = s.pending := by
  unfold State.soon
  refine foldl_pending fun t e => ?_
  split <;> simp

@[simp] theorem execStandstillTimeout_keepsQueue (n : Fin 18) (s : State) : KeepsQueue s (execStandstillTimeout n s) := by
  unfold execStandstillTimeout
  split <;> simp

@[simp] theorem execSsiRead_keepsQueue (n : Fin 2) (s : State) : KeepsQueue s (execSsiRead n s) := by
  unfold execSsiRead
  split <;> simp

@[simp] theorem State.seAccept_pending (s : State) (n pos : Nat) : (s.seAccept n pos).pending = s.pending := by
  simp only [State.seAccept]
  (repeat' split) <;> simp

@[simp] theorem execSsiFrame_keepsQueue (n : Fin 2) (lineHigh : Bool) (bits_ : List Bool) (s : State) :
    KeepsQueue s (execSsiFrame n lineHigh bits_ s) := by
  unfold execSsiFrame
  (repeat' split) <;> simp

@[simp] theorem State.trackFrom_pending (s : State) (n : Nat) : (s.trackFrom n).pending = s.pending := by simp [State.trackFrom]

@[simp] theorem State.chStart_pending (s : State) (n : Nat) : (s.chStart n).pending = s.pending := by simp [State.chStart]

@[simp] theorem State.chStop_pending (s : State) (n : Nat) : (s.chStop n).pending = s.pending := by simp [State.chStop]

@[simp] theorem State.chSwitch_pending (s : State) (was : Bool) (n : Nat) : (s.chSwitch was n).pending = s.pending := by
  simp [State.chSwitch]

@[simp] theorem State.chCfgWrite_pending (s : State) (n v : Nat) : (s.chCfgWrite n v).pending = s.pending := by simp [State.chCfgWrite]

@[simp] theorem execRearm_keepsQueue (n : Fin 18) (v : Word) (s : State) : KeepsQueue s (execRearm n v s) := by
  unfold execRearm
  split <;> simp

@[simp] theorem execChannelDisable_keepsQueue (n : Fin 18) (v : Word) (s : State) : KeepsQueue s (execChannelDisable n v s) := by
  unfold execChannelDisable
  split <;> simp

@[simp] theorem State.sfbCtlWrite_pending (s : State) (v : Nat) : (s.sfbCtlWrite v).pending = s.pending := by simp [State.sfbCtlWrite]

@[simp] theorem State.latchIndex_pending (s : State) (n stamp : Nat) : (s.latchIndex n stamp).pending = s.pending := by
  unfold State.latchIndex
  (repeat' split) <;> simp

@[simp] theorem execIndexEdge_keepsQueue (n : Fin 8) (falling : Bool) (s : State) : KeepsQueue s (execIndexEdge n falling s) := by
  unfold execIndexEdge
  (repeat' split) <;> simp

@[simp] theorem State.idxTolWrite_pending (s : State) (n v : Nat) : (s.idxTolWrite n v).pending = s.pending := by simp [State.idxTolWrite]

@[simp] theorem execRefClr_keepsQueue (n : Fin 18) (v : Word) (s : State) : KeepsQueue s (execRefClr n v s) := by
  unfold execRefClr
  split <;> simp

/-! ### The queue through the CRC engines -/

@[simp] theorem State.setCrc_pending (s : State) (e v : Nat) : (s.setCrc e v).pending = s.pending := rfl

@[simp] theorem State.chkAlive_pending (s : State) (e : Nat) : (s.chkAlive e).pending = s.pending := rfl

@[simp] theorem State.crcReset_pending (s : State) (e : Nat) : (s.crcReset e).pending = s.pending := rfl

@[simp] theorem State.crcFeed_pending (s : State) (e : Nat) (l : List Byte) : (s.crcFeed e l).pending = s.pending := rfl

@[simp] theorem State.chkDrop_pending (s : State) (e : Nat) : (s.chkDrop e).pending = s.pending := rfl

@[simp] theorem State.chkCfgWrite_pending (s : State) (e reg v : Nat) : (s.chkCfgWrite e reg v).pending = s.pending := by
  simp [State.chkCfgWrite]

@[simp] theorem State.chkData_pending (s : State) (e width v : Nat) : (s.chkData e width v).pending = s.pending := by simp [State.chkData]

@[simp] theorem execChkData_keepsQueue (e : Fin 4) (width : Nat) (v : Word) (s : State) : KeepsQueue s (execChkData e width v s) :=
  ⟨_, rfl, by simp⟩

@[simp] theorem execChkInit_keepsQueue (e : Fin 4) (v : Word) (s : State) : KeepsQueue s (execChkInit e v s) := by
  unfold execChkInit
  split <;> simp

@[simp] theorem execChkConfigWrite_keepsQueue (e reg : Fin 4) (v : Word) (s : State) : KeepsQueue s (execChkConfigWrite e reg v s) :=
  ⟨_, rfl, by simp⟩

/-! ### The queue through the DMA engines -/

@[simp] theorem State.dmaUnclaim_pending (s : State) (c : Nat) : (s.dmaUnclaim c).pending = s.pending := by simp [State.dmaUnclaim]

@[simp] theorem State.dmaVector_pending (s : State) (c : Nat) : (s.dmaVector c).pending = s.pending := by simp [State.dmaVector]

@[simp] theorem State.dmaErrVector_pending (s : State) (c : Nat) : (s.dmaErrVector c).pending = s.pending := by simp [State.dmaErrVector]

@[simp] theorem State.dmaStop_pending (s : State) (c err : Nat) : (s.dmaStop c err).pending = s.pending := by simp [State.dmaStop]

@[simp] theorem State.dmaStopAt_pending (s : State) (c err a : Nat) : (s.dmaStopAt c err a).pending = s.pending := by simp [State.dmaStopAt]

@[simp] theorem State.dmaNote_pending (s : State) (a n : Nat) : (s.dmaNote a n).pending = s.pending := by simp [State.dmaNote]

@[simp] theorem State.dmaPut_pending (s : State) (a : Nat) (l : List Byte) : (s.dmaPut a l).pending = s.pending := by simp [State.dmaPut]

@[simp] theorem State.dmaFlush_pending (s : State) (c a : Nat) : (s.dmaFlush c a).pending = s.pending := by simp [State.dmaFlush]

@[simp] theorem State.dmaWrite_pending (s : State) (c a : Nat) (l : List Byte) : (s.dmaWrite c a l).1.pending = s.pending := by
  unfold State.dmaWrite
  split <;> simp

@[simp] theorem State.dmaDrain_pending (c dw n : Nat) (s : State) (hold : List Byte) (a : Nat) :
    (State.dmaDrain c dw n s hold a).1.pending = s.pending := by
  induction n generalizing s hold a with
  | zero => rfl
  | succ n ih =>
    unfold State.dmaDrain
    split
    · rfl
    · split
      · next h => rw [ih, pending_of_fst h (s.dmaWrite_pending c a _)]
      · next h => exact pending_of_fst h (s.dmaWrite_pending c a _)

@[simp] theorem State.dmaCopy_pending (c : Nat) (d : Desc) (n : Nat) (s : State) (hold : List Byte) (src dst : Nat) :
    (State.dmaCopy c d n s hold src dst).1.pending = s.pending := by
  induction n generalizing s hold src dst with
  | zero => rfl
  | succ n ih =>
    unfold State.dmaCopy
    split
    · simp
    · dsimp only
      split
      · next h => rw [ih, pending_of_fst h (State.dmaDrain_pending c d.dw 8 _ _ dst)]; simp
      · next h => rw [pending_of_fst h (State.dmaDrain_pending c d.dw 8 _ _ dst)]; simp

@[simp] theorem State.dmaOp_pending (s : State) (c : Nat) (d : Desc) : (s.dmaOp c d).1.pending = s.pending := by
  unfold State.dmaOp
  split
  · split <;> simp
  · dsimp only
    split <;> simp

@[simp] theorem State.dmaRun_pending (s : State) (c a : Nat) (d : Desc) : (s.dmaRun c a d).pending = s.pending := by
  unfold State.dmaRun
  dsimp only
  split
  · simp
  · split
    · next h => simp [pending_of_fst h (State.dmaOp_pending _ c d)]
    · next h => simp [pending_of_fst h (State.dmaOp_pending _ c d)]

@[simp] theorem execDmaDescriptor_keepsQueue (c : Fin 16) (s : State) : KeepsQueue s (execDmaDescriptor c s) := by
  unfold execDmaDescriptor
  (repeat' split) <;> simp

@[simp] theorem State.dmaStart_pending (s : State) (m c : Nat) : (s.dmaStart m c).pending = s.pending := by simp [State.dmaStart]

@[simp] theorem State.dmaAbort_pending (s : State) (c : Nat) : (s.dmaAbort c).pending = s.pending := by simp [State.dmaAbort]

@[simp] theorem State.dmaCtlWrite_pending (s : State) (m c v : Nat) : (s.dmaCtlWrite m c v).pending = s.pending := by
  simp [State.dmaCtlWrite]

@[simp] theorem execDmaStart_keepsQueue (m : Fin 8) (c : Fin 16) (v : Word) (s : State) : KeepsQueue s (execDmaStart m c v s) := by
  unfold execDmaStart
  split <;> simp

@[simp] theorem execDmaAbort_keepsQueue (m : Fin 8) (c : Fin 16) (v : Word) (s : State) : KeepsQueue s (execDmaAbort m c v s) := by
  unfold execDmaAbort
  split <;> simp

@[simp] theorem State.dmaEnd_pending (s : State) (c : Nat) : (s.dmaEnd c).pending = s.pending := by simp [State.dmaEnd]

@[simp] theorem execDmaDone_keepsQueue (c : Fin 16) (s : State) : KeepsQueue s (execDmaDone c s) := by
  simp only [execDmaDone]
  (repeat' split) <;> simp

@[simp] theorem execDmaTimeout_keepsQueue (c : Fin 16) (addr : Nat) (s : State) : KeepsQueue s (execDmaTimeout c addr s) := by
  unfold execDmaTimeout
  split <;> simp

@[simp] theorem State.fwMoved_pending (s : State) (c : Nat) : (s.fwMoved c).pending = s.pending := rfl

/-! ### The queue through Sage -/

@[simp] theorem State.respond_pending (s : State) (tag service status : Nat) (payload : List Byte) :
    (s.respond tag service status payload).pending = s.pending := by
  simp [State.respond]

@[simp] theorem State.answerUnknown_pending (n : Nat) (s : State) : (State.answerUnknown n s).pending = s.pending := by
  induction n generalizing s with
  | zero => rfl
  | succ n ih =>
    unfold State.answerUnknown
    split
    · split
      · rfl
      · simp [ih]
    · rfl

/-- A service keeps the queue where its answer does. -/
theorem State.serve_pending (s : State) (tag service : Nat) (args : List Byte) (exempt : Bool) {k : State → State}
    (h : ∀ t, (k t).pending = t.pending) :
    (s.serve tag service args exempt k).pending = s.pending := by
  simp [State.serve, h]

/-- A service at an address keeps the queue where its answer does. -/
theorem State.serveAt_pending (s : State) (tag service addr : Nat) (args : List Byte) (exempt : Bool) {k : State → Nat → State}
    (h : ∀ t a, (k t a).pending = t.pending) :
    (s.serveAt tag service addr args exempt k).pending = s.pending := by
  unfold State.serveAt
  refine s.serve_pending _ _ _ _ fun t => ?_
  split <;> simp [h]

/-- A fetch of host memory keeps the queue where what takes the bytes does. -/
theorem State.fetchHost_pending (s : State) (tag service a n : Nat) {k : State → List Byte → State}
    (h : ∀ t l, (k t l).pending = t.pending) :
    (s.fetchHost tag service a n k).pending = s.pending := by
  unfold State.fetchHost
  split <;> simp [h]

/-- A store to host memory keeps the queue where what follows it does. -/
theorem State.storeHost_pending (s : State) (tag service a : Nat) (l : List Byte) {k : State → State} (h : ∀ t, (k t).pending = t.pending) :
    (s.storeHost tag service a l k).pending = s.pending := by
  unfold State.storeHost
  split <;> simp [h]

@[simp] theorem State.putChecked_pending (s : State) (x : Fld) (v : Option Nat) : (s.putChecked x v).pending = s.pending := by
  unfold State.putChecked
  split <;> simp

@[simp] theorem State.loadTriples_pending (s : State) : (s.loadTriples).pending = s.pending := rfl

@[simp] theorem State.showFuses_pending (s : State) : (s.showFuses).pending = s.pending := by simp [State.showFuses]

@[simp] theorem State.burnByte_pending (s : State) (fails : Bool) (o : Nat) (v : Byte) : (s.burnByte fails o v).pending = s.pending := by
  simp only [State.burnByte]
  (repeat' split) <;> simp

@[simp] theorem State.burnRun_pending (s : State) (fails : Bool) (o : Nat) (l : List Byte) : (s.burnRun fails o l).pending = s.pending := by
  induction l generalizing s o with
  | nil => rfl
  | cons b r ih => simp [State.burnRun, ih]

@[simp] theorem State.burn_pending (s : State) (o : Nat) (l : List Byte) : (s.burn o l).pending = s.pending := by simp [State.burn]

@[simp] theorem State.burnChecked_pending (s : State) (o : Nat) (l : List Byte) : (s.burnChecked o l).1.pending = s.pending := by
  simp [State.burnChecked]

@[simp] theorem State.deriveKeys_pending (s : State) : (s.deriveKeys).pending = s.pending := by
  unfold State.deriveKeys
  split <;> simp

@[simp] theorem State.identitySign_pending (s : State) (hash : List Byte) : (s.identitySign hash).2.pending = s.pending := by
  simp only [State.identitySign]
  (repeat' split) <;> simp

@[simp] theorem State.sageRefuse_pending (s : State) (code : Nat) (args : List Arg) : (s.sageRefuse code args).pending = s.pending := by
  simp [State.sageRefuse]

@[simp] theorem State.loadKey_pending (s : State) (b key : List Byte) : (s.loadKey b key).pending = s.pending := by simp [State.loadKey]

@[simp] theorem State.presentBlob_pending (s : State) (b : List Byte) : (s.presentBlob b).1.pending = s.pending := by
  unfold State.presentBlob
  (repeat' split) <;> simp

@[simp] theorem State.zeroKeys_pending (s : State) : (s.zeroKeys).pending = s.pending := by simp [State.zeroKeys]

@[simp] theorem State.dropChal_pending (s : State) : (s.dropChal).pending = s.pending := rfl

@[simp] theorem State.tellLifecycle_pending (s : State) (old : Nat) : (s.tellLifecycle old).pending = s.pending := by
  simp [State.tellLifecycle]

@[simp] theorem State.answerToken_pending (s : State) (tag action status : Nat) :
    (s.answerToken tag action status).pending = s.pending := by
  simp [State.answerToken]

@[simp] theorem State.burnDone_pending (s : State) (tag action arg old : Nat) : (s.burnDone tag action arg old).pending = s.pending := by
  simp [State.burnDone]

@[simp] theorem State.burnFail_pending (s : State) (tag action o : Nat) : (s.burnFail tag action o).pending = s.pending := by
  simp [State.burnFail]

/-- A token keeps the queue where its action does. -/
theorem State.token_pending (s : State) (tag action addr : Nat) {act : State → Token → State} (h : ∀ t k, (act t k).pending = t.pending) :
    (s.token tag action addr act).pending = s.pending := by
  unfold State.token
  split
  · refine s.serveAt_pending _ _ _ _ _ fun v a => v.fetchHost_pending _ _ _ _ fun u l => ?_
    dsimp only
    split <;> simp [h]
  · rfl

@[simp] theorem State.freeBytes_pending (s : State) (n : Nat) : (s.freeBytes n).2.pending = s.pending := rfl

@[simp] theorem State.provision_pending (s : State) (tag : Nat) : (s.provision tag).pending = s.pending := by
  simp only [State.provision]
  (repeat' split) <;> simp

@[simp] theorem execProvision_keepsQueue (tag space offs : Nat) (s : State) : KeepsQueue s (execProvision tag space offs s) :=
  (keepsQueue_next s _).mpr (s.token_pending _ _ _ fun t k => by simp)

@[simp] theorem execSecure_keepsQueue (tag space offs : Nat) (s : State) : KeepsQueue s (execSecure tag space offs s) :=
  (keepsQueue_next s _).mpr (s.token_pending _ _ _ fun t k => by simp)

@[simp] theorem State.clearHbm_pending (s : State) : (s.clearHbm).pending = s.pending := rfl

@[simp] theorem State.retireDevice_pending (s : State) (tag : Nat) : (s.retireDevice tag).pending = s.pending := by
  simp [State.retireDevice]

@[simp] theorem execRetire_keepsQueue (tag space offs : Nat) (s : State) : KeepsQueue s (execRetire tag space offs s) :=
  (keepsQueue_next s _).mpr (s.token_pending _ _ _ fun t k => by simp)

@[simp] theorem execBurnOperator_keepsQueue (tag space offs : Nat) (s : State) : KeepsQueue s (execBurnOperator tag space offs s) :=
  (keepsQueue_next s _).mpr (s.token_pending _ _ _ fun t k => by simp)

@[simp] theorem execRevokeOperator_keepsQueue (tag space offs : Nat) (s : State) : KeepsQueue s (execRevokeOperator tag space offs s) :=
  (keepsQueue_next s _).mpr (s.token_pending _ _ _ fun t k => by simp)

@[simp] theorem State.unlockHalt_pending (s : State) : (s.unlockHalt).pending = s.pending := by
  unfold State.unlockHalt
  split <;> simp

@[simp] theorem State.unlock_pending (s : State) : (s.unlock).pending = s.pending := by simp [State.unlock]

@[simp] theorem execDebugUnlock_keepsQueue (tag space offs : Nat) (s : State) : KeepsQueue s (execDebugUnlock tag space offs s) :=
  (keepsQueue_next s _).mpr (s.token_pending _ _ _ fun t k => by simp)

@[simp] theorem execLockDebug_keepsQueue (tag space offs : Nat) (s : State) : KeepsQueue s (execLockDebug tag space offs s) :=
  (keepsQueue_next s _).mpr (s.token_pending _ _ _ fun t k => by simp)

@[simp] theorem execBurnFeature_keepsQueue (tag space offs : Nat) (s : State) : KeepsQueue s (execBurnFeature tag space offs s) :=
  (keepsQueue_next s _).mpr (s.token_pending _ _ _ fun t k => by simp)

@[simp] theorem State.advance_pending (s : State) (o n : Nat) : (s.advance o n).pending = s.pending := by simp [State.advance]

@[simp] theorem execAdvanceFw_keepsQueue (tag space offs : Nat) (s : State) : KeepsQueue s (execAdvanceFw tag space offs s) :=
  (keepsQueue_next s _).mpr (s.token_pending _ _ _ fun t k => by simp)

@[simp] theorem execAdvanceProg_keepsQueue (tag space offs : Nat) (s : State) : KeepsQueue s (execAdvanceProg tag space offs s) :=
  (keepsQueue_next s _).mpr (s.token_pending _ _ _ fun t k => by simp)

@[simp] theorem execRevokeKytuest_keepsQueue (tag space offs : Nat) (s : State) : KeepsQueue s (execRevokeKytuest tag space offs s) :=
  (keepsQueue_next s _).mpr (s.token_pending _ _ _ fun t k => by simp)

@[simp] theorem execChallengeExpiry_keepsQueue (s : State) : KeepsQueue s (execChallengeExpiry s) := by
  unfold execChallengeExpiry
  (repeat' split) <;> simp

/-! ### The queue through Sage's services -/

@[simp] theorem execInfo_keepsQueue (tag : Nat) (s : State) : KeepsQueue s (execInfo tag s) :=
  (keepsQueue_next s _).mpr (s.serve_pending _ _ _ _ fun t => by simp)

@[simp] theorem execTelemetry_keepsQueue (tag : Nat) (s : State) : KeepsQueue s (execTelemetry tag s) :=
  (keepsQueue_next s _).mpr (s.serve_pending _ _ _ _ fun t => by simp)

@[simp] theorem execChallenge_keepsQueue (tag addr : Nat) (s : State) :
    KeepsQueue s (execChallenge tag addr s) := (keepsQueue_next s _).mpr (s.serveAt_pending _ _ _ _ _ fun t a => by
    dsimp only
    rw [State.storeHost_pending _ _ _ _ _ fun v => by simp, State.freeBytes_pending])

@[simp] theorem execAttest_keepsQueue (tag addr : Nat) (s : State) :
    KeepsQueue s (execAttest tag addr s) := (keepsQueue_next s _).mpr (s.serveAt_pending _ _ _ _ _ fun t a => by
    split
    · simp
    · split
      · simp
      · refine t.fetchHost_pending _ _ _ _ fun v nonce => ?_
        dsimp only
        rw [State.storeHost_pending _ _ _ _ _ fun v => by simp, State.identitySign_pending])

@[simp] theorem State.gthEnable_pending (s : State) (e : Nat) : (s.gthEnable e).pending = s.pending := by simp [State.gthEnable]

@[simp] theorem State.layOut_pending (s : State) (wide : Bool) : (s.layOut wide).pending = s.pending := by simp [State.layOut]

@[simp] theorem State.openCtx_pending (s : State) (c job limit zlib : Nat) : (s.openCtx c job limit zlib).pending = s.pending := by
  simp [State.openCtx]

@[simp] theorem State.admitJob_pending (s : State) (tag : Nat) (b : List Byte) : (s.admitJob tag b).pending = s.pending := by
  unfold State.admitJob
  dsimp only
  split
  · simp
  · split
    · next h => simp [pending_of_fst h (State.presentBlob_pending _ _)]
    · next h => simp [pending_of_fst h (State.presentBlob_pending _ _)]

@[simp] theorem execAdmitJob_keepsQueue (tag addr : Nat) (s : State) : KeepsQueue s (execAdmitJob tag addr s) :=
  (keepsQueue_next s _).mpr (s.serveAt_pending _ _ _ _ _ fun t a => t.fetchHost_pending _ _ _ _ fun u b => by simp)

@[simp] theorem execJobEnd_keepsQueue (tag ctx last : Nat) (s : State) : KeepsQueue s (execJobEnd tag ctx last s) :=
  (keepsQueue_next s _).mpr (s.serve_pending _ _ _ _ fun t => by simp)

@[simp] theorem execKeyUnwrap_keepsQueue (tag addr : Nat) (s : State) :
    KeepsQueue s (execKeyUnwrap tag addr s) := (keepsQueue_next s _).mpr (s.serveAt_pending _ _ _ _ _ fun t a => t.fetchHost_pending _ _ _ _ fun v b => by
    split
    · simp
    · split
      · next h => simp [pending_of_fst h (v.presentBlob_pending b)]
      · next h => simp [pending_of_fst h (v.presentBlob_pending b)])

@[simp] theorem State.writeSel_pending (s : State) (l : List Byte) : (s.writeSel l).pending = s.pending := by
  unfold State.writeSel
  rw [foldl_pending fun t k => t.landWrite_pending _ _, State.landWrite_pending]

@[simp] theorem execCalLoad_keepsQueue (tag addr target : Nat) (sel : Bool) (len : Nat) (s : State) :
    KeepsQueue s (execCalLoad tag addr target sel len s) := (keepsQueue_next s _).mpr (s.serveAt_pending _ _ _ _ _ fun t a => by
    split
    · simp
    · split
      · simp
      · exact t.fetchHost_pending _ _ _ _ fun u l => by simp)

@[simp] theorem State.startServo_pending (s : State) (sync : Nat) : (s.startServo sync).pending = s.pending := by simp [State.startServo]

@[simp] theorem execClusterRole_keepsQueue (tag cfg group sync : Nat) (s : State) : KeepsQueue s (execClusterRole tag cfg group sync s) :=
  (keepsQueue_next s _).mpr (s.serve_pending _ _ _ _ fun t => by simp)

@[simp] theorem State.setList_pending (s : State) (w : Nat) (fresh : Bool) (l : List (List Word)) :
    (s.setList w fresh l).pending = s.pending := by
  simp [State.setList]

@[simp] theorem execClusterList_keepsQueue (tag addr worker : Nat) (append : Bool) (count : Nat) (s : State) :
    KeepsQueue s (execClusterList tag addr worker append count s) := (keepsQueue_next s _).mpr (s.serveAt_pending _ _ _ _ _ fun t a => by
    simp only [State.ite_pending, State.respond_pending]
    rw [t.fetchHost_pending _ _ _ _ fun u l => by simp]
    simp)

@[simp] theorem State.loadRefused_pending (s : State) (tag reason status : Nat) :
    (s.loadRefused tag reason status).pending = s.pending := by
  simp [State.loadRefused]

@[simp] theorem State.loadProg_pending (s : State) (img : List Byte) : (s.loadProg img).pending = s.pending := by
  unfold State.loadProg
  simp only [State.event_pending, State.flag_pending]
  exact foldl_pending fun t i => t.put_pending _ _

@[simp] theorem execProgLoad_keepsQueue (tag addr len : Nat) (s : State) :
    KeepsQueue s (execProgLoad tag addr len s) := (keepsQueue_next s _).mpr (s.serveAt_pending _ _ _ _ _ fun t a => by
    split
    · simp
    · split
      · simp
      · exact t.fetchHost_pending _ _ _ _ fun u img => by split <;> simp)

/-! ### The queue through the memories -/

@[simp] theorem State.setBank_pending (s : State) (ch b : Nat) (v : HbmBank) : (s.setBank ch b v).pending = s.pending := rfl

@[simp] theorem State.refreshBank_pending (s : State) (ch b : Nat) : (s.refreshBank ch b).pending = s.pending := rfl

@[simp] theorem State.serveReq_pending (s : State) (q : HbmReq) : (s.serveReq q).pending = s.pending := by simp [State.serveReq]

@[simp] theorem State.serveChannel_pending (ch n : Nat) (s : State) : (State.serveChannel ch n s).pending = s.pending := by
  induction n generalizing s with
  | zero => rfl
  | succ n ih =>
    unfold State.serveChannel
    split
    · simp [ih]
    · rfl

@[simp] theorem State.serveSome_pending (s : State) (ch : Nat) : (s.serveSome ch).pending = s.pending := by simp [State.serveSome]

@[simp] theorem State.reqSource_pending (s : State) (port : Nat) : (s.reqSource port).2.pending = s.pending := by
  unfold State.reqSource
  split <;> simp

theorem execHbmRequest_keepsQueue {addr : Nat} (h : addr < hbmSize) (port : Fin 8) (write : Bool) (s : State) :
    KeepsQueue s (execHbmRequest port addr write s) := by
  unfold execHbmRequest
  rw [if_neg (by omega)]
  simp

@[simp] theorem execPageIdlePrecharge_keepsQueue (ch : Fin 64) (bank : Fin 128) (s0 : State) :
    KeepsQueue s0 (execPageIdlePrecharge ch bank s0) := by
  simp only [execPageIdlePrecharge]
  (repeat' split) <;> simp

@[simp] theorem execPageMaxopen_keepsQueue (ch : Fin 64) (bank : Fin 128) (s : State) : KeepsQueue s (execPageMaxopen ch bank s) := by
  unfold execPageMaxopen
  split <;> simp

@[simp] theorem execRefreshInterval_keepsQueue (ch : Fin 64) (s : State) : KeepsQueue s (execRefreshInterval ch s) := ⟨_, rfl, by simp⟩

@[simp] theorem execForcedRefresh_keepsQueue (ch : Fin 64) (bank : Fin 128) (s : State) : KeepsQueue s (execForcedRefresh ch bank s) := by
  unfold execForcedRefresh
  split <;> simp

@[simp] theorem execHbmTempCrossing_keepsQueue (n : Fin 4) (celsius : Nat) (s : State) :
    KeepsQueue s (execHbmTempCrossing n celsius s) := by
  simp only [execHbmTempCrossing]
  (repeat' split) <;> simp

@[simp] theorem execPowerDownIdle_keepsQueue (ch : Fin 64) (s0 : State) : KeepsQueue s0 (execPowerDownIdle ch s0) := by
  simp only [execPowerDownIdle]
  (repeat' split) <;> simp

@[simp] theorem State.mapCfgWrite_pending (s : State) (v : Nat) : (s.mapCfgWrite v).pending = s.pending := by simp [State.mapCfgWrite]

@[simp] theorem execMapCfgWrite_keepsQueue (v : Word) (s : State) : KeepsQueue s (execMapCfgWrite v s) := ⟨_, rfl, by simp⟩

@[simp] theorem State.w1c_pending (s : State) (x : Fld) (v : Nat) : (s.w1c x v).pending = s.pending := by simp [State.w1c]

@[simp] theorem State.grpCfgWrite_pending (s : State) (g v : Nat) : (s.grpCfgWrite g v).pending = s.pending := by simp [State.grpCfgWrite]

@[simp] theorem execGroupModeWrite_keepsQueue (grp : Fin 18) (v : Word) (s : State) : KeepsQueue s (execGroupModeWrite grp v s) :=
  ⟨_, rfl, by simp⟩

@[simp] theorem State.cullWrite_pending (s : State) (g e v : Nat) : (s.cullWrite g e v).pending = s.pending := by simp [State.cullWrite]

@[simp] theorem execCulletEntryWrite_keepsQueue (grp : Fin 18) (e : Fin 16) (v : Word) (s : State) :
    KeepsQueue s (execCulletEntryWrite grp e v s) :=
  ⟨_, rfl, by simp⟩

@[simp] theorem State.upsetWord_pending (s : State) (g a upset : Nat) : (s.upsetWord g a upset).pending = s.pending := by
  simp [State.upsetWord]

@[simp] theorem State.ueOutcome_pending (s : State) (g a reader : Nat) : (s.ueOutcome g a reader).pending = s.pending := by
  simp [State.ueOutcome]

theorem execMemoryRead_keepsQueue {grp : Fin 18} {addr : Nat} (h : wordOk grp addr = true) (reader upset : Nat) (s : State) :
    KeepsQueue s (execMemoryRead grp addr reader upset s) := by
  unfold execMemoryRead
  simp only [h, Bool.true_eq_false, if_false]
  split
  · split <;> simp
  · simp

@[simp] theorem State.writeCell_pending (s : State) (g a : Nat) (l : List Byte) : (s.writeCell g a l).pending = s.pending := by
  simp [State.writeCell]

@[simp] theorem State.writeCells_pending (g n : Nat) (s : State) (a : Nat) (l : List Byte) :
    (State.writeCells g n s a l).pending = s.pending := by
  induction n generalizing s a l with
  | zero => rfl
  | succ n ih =>
    unfold State.writeCells
    split
    · rfl
    · simp [ih]

theorem execMemoryWrite_keepsQueue {grp : Fin 18} {addr : Nat} {bytes : List Byte} (h : addr + bytes.length ≤ groupSpan grp) (m : Nat)
    (s : State) :
    KeepsQueue s (execMemoryWrite grp addr m bytes s) := by
  unfold execMemoryWrite
  rw [if_neg (by omega)]
  simp [apply_ite (KeepsQueue s)]

@[simp] theorem State.moveKey_pending (s : State) (i : Nat) : (s.moveKey i).pending = s.pending := by simp [State.moveKey]

@[simp] theorem State.putTriple_pending (s : State) (i v : Nat) : (s.putTriple i v).pending = s.pending := by
  have fold : ((List.range 18).foldl (fun t g => t.put (ECC_GRP_CFG.MODE g) (bits v g 1)) s).pending = s.pending :=
    foldl_pending fun t g => t.put_pending _ _
  simp [State.putTriple, fold]

theorem execTmrVote_keepsQueue {copies : List (Nat × Bool)} (h : copies.length = 3) (i : Fin 64) (s : State) :
    KeepsQueue s (execTmrVote i copies s) := by
  unfold execTmrVote
  rw [if_neg (not_not.mpr h)]
  split <;> simp

@[simp] theorem State.setOwn_pending (s : State) (g a d c : Nat) : (s.setOwn g a d c).pending = s.pending := by
  unfold State.setOwn
  split <;> simp

@[simp] theorem State.testOp_pending (s : State) (t : TestAcc) : (s.testOp t).pending = s.pending := by
  simp only [State.testOp]
  (repeat' split) <;> simp

@[simp] theorem State.testRun_pending (s : State) (l : List TestAcc) : (s.testRun l).pending = s.pending := by
  induction l generalizing s with
  | nil => rfl
  | cons t r ih =>
    unfold State.testRun
    split
    · rfl
    · simp [ih]

@[simp] theorem State.testAccess_pending (s : State) (op : Nat) : (s.testAccess op).pending = s.pending := by
  unfold State.testAccess
  split <;> simp

@[simp] theorem State.testCtlWrite_pending (s : State) (v : Nat) : (s.testCtlWrite v).pending = s.pending := by simp [State.testCtlWrite]

@[simp] theorem execTestWr_keepsQueue (v : Word) (s : State) : KeepsQueue s (execTestWr v s) := by
  unfold execTestWr
  split <;> simp

@[simp] theorem execTestRd_keepsQueue (v : Word) (s : State) : KeepsQueue s (execTestRd v s) := by
  unfold execTestRd
  split <;> simp

@[simp] theorem execTestRdc_keepsQueue (v : Word) (s : State) : KeepsQueue s (execTestRdc v s) := by
  unfold execTestRdc
  split <;> simp

@[simp] theorem execTestClearDone_keepsQueue (s : State) : KeepsQueue s (execTestClearDone s) := by
  unfold execTestClearDone
  split <;> simp

@[simp] theorem State.enabled_pending (s : State) (x : Fld) : (s.enabled x).pending = s.pending := rfl

/-! ### The queue through the faults and the journal ring -/

@[simp] theorem State.runStop_pending (s : State) : (s.runStop).pending = s.pending := rfl

@[simp] theorem State.safeStop_pending (s : State) : (s.safeStop).pending = s.pending := by simp [State.safeStop]

@[simp] theorem execSafeHalt_keepsQueue (s : State) : KeepsQueue s (execSafeHalt s) := by
  unfold execSafeHalt
  split <;> simp

@[simp] theorem execJobHalted_keepsQueue (c : Fin 2) (s : State) : KeepsQueue s (execJobHalted c s) := by
  unfold execJobHalted
  (repeat' split) <;> simp

@[simp] theorem State.loseRecord_pending (s : State) (r : Record) : (s.loseRecord r).pending = s.pending := by simp [State.loseRecord]

@[simp] theorem State.showBuf_pending (s : State) : (s.showBuf).pending = s.pending := rfl

@[simp] theorem State.putRecord_pending (s : State) (p : Nat) (r : Record) : (s.putRecord p r).pending = s.pending := rfl

@[simp] theorem State.keepRecord_pending (s : State) (r : Record) : (s.keepRecord r).pending = s.pending := rfl

@[simp] theorem State.bufferRecord_pending (s : State) (r : Record) : (s.bufferRecord r).pending = s.pending := by
  unfold State.bufferRecord
  (repeat' split) <;> simp

@[simp] theorem execJournalRecord_keepsQueue (s : State) : KeepsQueue s (execJournalRecord s) := by
  unfold execJournalRecord
  split <;> simp

@[simp] theorem State.showRing_pending (s : State) : (s.showRing).pending = s.pending := State.put_pending _ _ _

@[simp] theorem State.ringIrq_pending (s : State) : (s.ringIrq).pending = s.pending := by simp [State.ringIrq]

@[simp] theorem State.reportLost_pending (s : State) : (s.reportLost).pending = s.pending := by
  unfold State.reportLost
  split <;> simp

@[simp] theorem execRingWriteDone_keepsQueue (ok : Bool) (s : State) : KeepsQueue s (execRingWriteDone ok s) := by
  simp only [execRingWriteDone]
  (repeat' split) <;> simp

@[simp] theorem State.evjRdWrite_pending (s : State) (v : Nat) : (s.evjRdWrite v).pending = s.pending := by simp [State.evjRdWrite]

@[simp] theorem execEvjRdWrite_keepsQueue (v : Word) (s : State) : KeepsQueue s (execEvjRdWrite v s) := ⟨_, rfl, by simp⟩

/-! ### The queue through the governor -/

@[simp] theorem State.leaveStart_pending (s : State) (who : Requester) : (s.leaveStart who).pending = s.pending := by
  unfold State.leaveStart
  split
  · split <;> simp
  · simp
  · simp
  · simp
  · simp
  · split <;> simp

@[simp] theorem execLeaveGrant_keepsQueue (s : State) : KeepsQueue s (execLeaveGrant s) := by
  unfold execLeaveGrant
  (repeat' split) <;> simp

@[simp] theorem execLeaveReturn_keepsQueue (i : Nat) (s : State) : KeepsQueue s (execLeaveReturn i s) := by
  unfold execLeaveReturn
  (repeat' split) <;> simp

@[simp] theorem State.setEff_pending (s : State) : (s.setEff).pending = s.pending := by simp [State.setEff]

theorem execTjSample_keepsQueue {temps : List Int} (h : temps.length = 16) (s : State) : KeepsQueue s (execTjSample temps s) := by
  unfold execTjSample
  split
  · simp at h
  · rw [if_neg (not_not.mpr h)]
    simp

@[simp] theorem State.budgetWrite_pending (s : State) (v : Nat) : (s.budgetWrite v).pending = s.pending := by simp [State.budgetWrite]

@[simp] theorem execPgvBudgetWrite_keepsQueue (v : Word) (s : State) : KeepsQueue s (execPgvBudgetWrite v s) := ⟨_, rfl, by simp⟩

/-! ### The queue through power, clocks and reset -/

@[simp] theorem State.finishRetire_pending (s : State) : (s.finishRetire).pending = s.pending := by simp [State.finishRetire]

@[simp] theorem State.bootFuses_pending (s : State) : (s.bootFuses).pending = s.pending := by simp [State.bootFuses]

@[simp] theorem State.measureBanks_pending (s : State) : (s.measureBanks).pending = s.pending := rfl

@[simp] theorem execPornRelease_keepsQueue (s : State) : KeepsQueue s (execPornRelease s) := by
  unfold execPornRelease
  split <;> simp

@[simp] theorem State.loadCores_pending (s : State) (body : List Byte) : (s.loadCores body).pending = s.pending := rfl

@[simp] theorem State.releaseUnits_pending (s : State) : (s.releaseUnits).pending = s.pending := by simp [State.releaseUnits]

@[simp] theorem State.runFirmware_pending (s : State) (img : List Byte) (source : Nat) :
    (s.runFirmware img source).pending = s.pending := by
  unfold State.runFirmware
  simp only [State.releaseUnits_pending, State.event_pending]
  rw [foldl_pending fun t n => t.put_pending _ _]
  simp

@[simp] theorem State.bootRefused_pending (s : State) (code stage : Nat) : (s.bootRefused code stage).pending = s.pending := by
  simp [State.bootRefused]

@[simp] theorem execQspiImageRead_keepsQueue (image : List Byte) (s : State) : KeepsQueue s (execQspiImageRead image s) := by
  simp only [execQspiImageRead]
  (repeat' split) <;> simp

@[simp] theorem State.bootPush_pending (s : State) (len : Nat) : (s.bootPush len).pending = s.pending := by
  simp only [State.bootPush]
  (repeat' split) <;> simp

@[simp] theorem execBootPush_keepsQueue (v : Word) (s : State) : KeepsQueue s (execBootPush v s) := ⟨_, rfl, by simp⟩

@[simp] theorem State.keepCauses_pending (s t : State) : (s.keepCauses t).pending = t.pending := foldl_pending fun u x => u.put_pending x _

@[simp] theorem State.porReset_pending (s : State) : (s.porReset).pending = s.pending := rfl

@[simp] theorem execPornAssert_keepsQueue (s : State) : KeepsQueue s (execPornAssert s) := ⟨_, rfl, by simp⟩

@[simp] theorem State.pllLost_pending (s : State) (n : Nat) : (s.pllLost n).pending = s.pending := by simp [State.pllLost]

@[simp] theorem State.clockFail_pending (s : State) : (s.clockFail).pending = s.pending := by simp [State.clockFail]

@[simp] theorem execPllLoss_keepsQueue (pll : Fin 11) (s : State) : KeepsQueue s (execPllLoss pll s) := by
  simp only [execPllLoss]
  (repeat' split) <;> simp

@[simp] theorem execPllRelock_keepsQueue (pll : Fin 11) (s : State) : KeepsQueue s (execPllRelock pll s) := ⟨_, rfl, rfl⟩

@[simp] theorem State.resetRegs_pending (s : State) (p : Nat → Bool) : (s.resetRegs p).pending = s.pending := rfl

@[simp] theorem State.resetDma_pending (s : State) (c : Nat) : (s.resetDma c).pending = s.pending := by simp [State.resetDma]

@[simp] theorem State.warmReset_pending (s : State) (perst : Bool) : (s.warmReset perst).pending = s.pending := by simp [State.warmReset]

@[simp] theorem execHostWarmReset_keepsQueue (perst : Bool) (s : State) : KeepsQueue s (execHostWarmReset perst s) := ⟨_, rfl, by simp⟩

@[simp] theorem State.bootFailed_pending (s : State) : (s.bootFailed).pending = s.pending := by
  unfold State.bootFailed
  rw [State.put_pending]
  exact foldl_pending fun t k => rfl

@[simp] theorem State.coreReset_pending (s : State) (n : Nat) : (s.coreReset n).pending = s.pending := by simp [State.coreReset]

@[simp] theorem State.coreSleep_pending (s : State) (n : Nat) : (s.coreSleep n).pending = s.pending := by simp [State.coreSleep]

@[simp] theorem State.scCtlWrite_pending (s : State) (m n v : Nat) : (s.scCtlWrite m n v).pending = s.pending := by simp [State.scCtlWrite]

@[simp] theorem execScReset_keepsQueue (m : Fin 8) (n : Fin 4) (v : Word) (s : State) : KeepsQueue s (execScReset m n v s) := by
  unfold execScReset
  split <;> simp

@[simp] theorem execScSleep_keepsQueue (m : Fin 8) (n : Fin 4) (v : Word) (s : State) : KeepsQueue s (execScSleep m n v s) := by
  unfold execScSleep
  split <;> simp

@[simp] theorem State.linesEnd_pending (s : State) : (s.linesEnd).pending = s.pending := by simp [State.linesEnd]

@[simp] theorem State.resetMotion_pending (s : State) : (s.resetMotion).pending = s.pending := by
  unfold State.resetMotion
  simp only [State.ite_pending, State.put_pending, ite_self]
  rw [foldl_pending fun t a => t.driveCur_pending a false, foldl_pending fun t a => t.driveEn_pending a false]

@[simp] theorem State.resetUnit_pending (s : State) (u : Nat) : (s.resetUnit u).pending = s.pending := by simp [State.resetUnit]

@[simp] theorem State.unitReset_pending (s : State) (v : Nat) : (s.unitReset v).pending = s.pending := by simp [State.unitReset]

@[simp] theorem execUnitReset_keepsQueue (v : Word) (s : State) : KeepsQueue s (execUnitReset v s) := ⟨_, rfl, by simp⟩

@[simp] theorem execVddFusePresent_keepsQueue (s : State) : KeepsQueue s (execVddFusePresent s) := ⟨_, rfl, rfl⟩

@[simp] theorem execVddFuseLoss_keepsQueue (s : State) : KeepsQueue s (execVddFuseLoss s) := ⟨_, rfl, rfl⟩

@[simp] theorem execThermtrip_keepsQueue (s : State) : KeepsQueue s (execThermtrip s) := ⟨_, rfl, rfl⟩

/-! ### The queue through the register bus -/

@[simp] theorem State.runStart_pending (s : State) : (s.runStart).pending = s.pending := rfl

@[simp] theorem State.gafCtlWrite_pending (s : State) (v : Nat) : (s.gafCtlWrite v).pending = s.pending := by simp [State.gafCtlWrite]

@[simp] theorem State.evsetWrite_pending (s : State) (m v : Nat) : (s.evsetWrite m v).pending = s.pending := by simp [State.evsetWrite]

@[simp] theorem State.writeFld_pending (s : State) (v : Nat) (e : Fld × FType) : (s.writeFld v e).pending = s.pending := by
  unfold State.writeFld
  split <;> simp

@[simp] theorem State.writeTyped_pending (s : State) (a v : Nat) (l : List (Fld × FType)) : (s.writeTyped a v l).pending = s.pending := by
  simp [State.writeTyped]

/-- The write of an enable bit keeps the queue where what it starts does. -/
theorem State.writeEnable_pending (s : State) (a v : Nat) (l : List (Fld × FType)) (x : Fld) {kick : State → State}
    (h : ∀ t, (kick t).pending = t.pending) :
    (s.writeEnable a v l x kick).pending = s.pending := by
  simp [State.writeEnable, h]

@[simp] theorem State.ctxCfgWrite_pending (s : State) (c v : Nat) : (s.ctxCfgWrite c v).pending = s.pending := by simp [State.ctxCfgWrite]

theorem State.writePath_keptIn (s : State) (a i v : Nat) (l : List (Fld × FType)) : KeptIn s (s.writePath a i v l) := by
  simp [State.writePath, State.writeEnable_pending]

theorem State.writeStage_keptIn (s : State) (m a i v : Nat) : KeptIn s (s.writeStage m a i v) := by
  simp [State.writeStage]

@[simp] theorem State.hbmTrain_pending (s : State) (en : Bool) : (s.hbmTrain en).pending = s.pending := by simp [State.hbmTrain]

theorem State.writeCore_keptIn (s : State) (m a i j v : Nat) (l : List (Fld × FType)) : KeptIn s (s.writeCore m a i j v l) := by
  simp [State.writeCore]

@[simp] theorem State.writeReg_pending (s : State) (m a v : Nat) (r : RegRow) (i j : Nat) :
    (s.writeReg m a v r i j).pending = s.pending := by
  unfold State.writeReg
  extract_lets l
  have path := s.writePath_keptIn a i v l
  have stage := s.writeStage_keptIn m a i v
  have core := s.writeCore_keptIn m a i j v l
  cases hp : s.writePath a i v l with
  | some t => exact path t hp
  | none =>
    cases hs : s.writeStage m a i v with
    | some t => exact stage t hs
    | none =>
      cases hc : s.writeCore m a i j v l with
      | some t => exact core t hc
      | none => exact s.writeTyped_pending a v l

@[simp] theorem State.mbxRead_pending (s : State) (m o : Nat) (coincident : Bool) : (s.mbxRead m o coincident).2.pending = s.pending := by
  simp only [State.mbxRead]
  (repeat' split) <;> simp

@[simp] theorem State.mbxWrite_pending (s : State) (m o v : Nat) : (s.mbxWrite m o v).pending = s.pending := by simp [State.mbxWrite]

@[simp] theorem State.clearRc_pending (s : State) (a : Nat) (coincident : Bool) (l : List (Fld × FType)) :
    (s.clearRc a coincident l).pending = s.pending := by
  simp [State.clearRc]

@[simp] theorem State.readReg_pending (s : State) (a : Nat) (coincident : Bool) (r : RegRow) (i j : Nat) :
    (s.readReg a coincident r i j).2.pending = s.pending := by
  unfold State.readReg
  (repeat' split) <;> simp

@[simp] theorem State.read32_pending (s : State) (a : Nat) (coincident : Bool) : (s.read32 a coincident).2.pending = s.pending := by
  simp only [State.read32]
  (repeat' split) <;> simp

@[simp] theorem State.writeHalf_pending (s : State) (a v i : Nat) (low : Bool) : (s.writeHalf a v i low).pending = s.pending := by
  simp [State.writeHalf]

@[simp] theorem State.write32_pending (s : State) (m a v : Nat) : (s.write32 m a v).pending = s.pending := by
  unfold State.write32
  split <;> simp

@[simp] theorem State.read64_pending (s : State) (a : Nat) (coincident : Bool) : (s.read64 a coincident).2.pending = s.pending := by
  simp only [State.read64]
  (repeat' split) <;> simp

@[simp] theorem State.write64_pending (s : State) (m a v : Nat) : (s.write64 m a v).pending = s.pending := by
  unfold State.write64
  split <;> simp

@[simp] theorem State.readGroup_pending (s : State) (m g a n : Nat) : (s.readGroup m g a n).2.pending = s.pending := by
  unfold State.readGroup
  split
  · next h => exact pending_of_snd h (s.readWord_pending g _)
  · next h =>
    have ht := pending_of_snd h (s.readWord_pending g _)
    split
    · split <;> exact ht
    · exact ht

@[simp] theorem State.readWindow_pending (s : State) (m : Nat) (w : Window) (a n : Nat) (coincident : Bool) :
    (s.readWindow m w a n coincident).2.pending = s.pending := by
  unfold State.readWindow
  obtain ⟨o, ho⟩ : ∃ o, a - 0x301000 = o := ⟨_, rfl⟩
  obtain ⟨p, hp⟩ : ∃ p, a + 4 - 0x301000 = p := ⟨_, rfl⟩
  rw [ho, hp]
  cases w with
  | mailbox =>
    dsimp only
    split <;> simp
  | hbm => exact s.winRead_pending _ n
  | dmem => exact s.readGroup_pending m 15 _ n
  | pmem => exact s.readGroup_pending m 14 _ n
  | fuses | msix | boot | members | records => rfl

@[simp] theorem State.writeWindow_pending (s : State) (m : Nat) (w : Window) (a n v : Nat) :
    (s.writeWindow m w a n v).1.pending = s.pending := by
  unfold State.writeWindow
  split <;> simp

@[simp] theorem State.busRead_pending (s : State) (m a n : Nat) (coincident : Bool) :
    (s.busRead m a n coincident).2.pending = s.pending := by
  simp only [State.busRead]
  (repeat' split) <;> simp

@[simp] theorem State.busWrite_pending (s : State) (m a n v : Nat) : (s.busWrite m a n v).1.pending = s.pending := by
  unfold State.busWrite
  split <;> simp

@[simp] theorem State.readCommand_pending (s : State) (m a n : Nat) (coincident : Bool) :
    (s.readCommand m a n coincident).pending = s.pending := by
  unfold State.readCommand
  split
  · next h => simp [pending_of_snd h (s.busRead_pending m a n coincident)]
  · next h => simp [pending_of_snd h (s.busRead_pending m a n coincident)]

theorem execRcRead_keepsQueue {addr width : Nat} (h : accessOk addr width = true) (m : Fin 8) (coincident : Bool) (s : State) :
    KeepsQueue s (execRcRead m addr width coincident s) := by
  simp [execRcRead, h]

theorem execRegisterWrite_keepsQueue {addr width : Nat} (h : accessOk addr width = true) (m : Fin 8) (v : Word) (s : State) :
    KeepsQueue s (execRegisterWrite m addr width v s) := by
  simp [execRegisterWrite, h]

theorem execShRegisterWrite_keepsQueue {addr width : Nat} (h : accessOk addr width = true) (m : Fin 8) (v : Word) (s : State) :
    KeepsQueue s (execShRegisterWrite m addr width v s) := by
  simp [execShRegisterWrite, h]

/-! ### The queue through Triso instructions -/

/-- An issued Triso instruction keeps the queue where its effect does (R299). -/
@[simp] theorem State.issue_keepsQueue (s : State) (t : Nat) (op : Op) {run : Triso → State → State} (h : ∀ i u, (run i u).pending = u.pending) :
    KeepsQueue s (s.issue t op run) := by
  unfold State.issue
  dsimp only
  split
  · split
    · next e => simp [pending_of_snd e (s.readWord_pending 14 _)]
    · next e =>
      split
      · simp [pending_of_snd e (s.readWord_pending 14 _)]
      · split
        · simp [h, pending_of_snd e (s.readWord_pending 14 _)]
        · simp
  · simp

@[simp] theorem State.result_pending (s : State) (t : Nat) (i : Triso) (v : Word) : (s.result t i v).pending = s.pending := by
  simp [State.result]

@[simp] theorem State.alu_pending (t : Nat) (f : Word → Word → Word) (i : Triso) (s : State) : (State.alu t f i s).pending = s.pending := by
  simp [State.alu]

@[simp] theorem execTrisoNop_keepsQueue (t : Fin 4) (s : State) : KeepsQueue s (execTrisoNop t s) :=
  s.issue_keepsQueue _ _ fun i u => by simp

@[simp] theorem execTrisoAdd_keepsQueue (t : Fin 4) (s : State) : KeepsQueue s (execTrisoAdd t s) :=
  s.issue_keepsQueue _ _ fun i u => u.alu_pending t _ i

@[simp] theorem execTrisoSub_keepsQueue (t : Fin 4) (s : State) : KeepsQueue s (execTrisoSub t s) :=
  s.issue_keepsQueue _ _ fun i u => u.alu_pending t _ i

@[simp] theorem execTrisoAnd_keepsQueue (t : Fin 4) (s : State) : KeepsQueue s (execTrisoAnd t s) :=
  s.issue_keepsQueue _ _ fun i u => u.alu_pending t _ i

@[simp] theorem execTrisoOr_keepsQueue (t : Fin 4) (s : State) : KeepsQueue s (execTrisoOr t s) :=
  s.issue_keepsQueue _ _ fun i u => u.alu_pending t _ i

@[simp] theorem execTrisoXor_keepsQueue (t : Fin 4) (s : State) : KeepsQueue s (execTrisoXor t s) :=
  s.issue_keepsQueue _ _ fun i u => u.alu_pending t _ i

@[simp] theorem execTrisoShl_keepsQueue (t : Fin 4) (s : State) : KeepsQueue s (execTrisoShl t s) :=
  s.issue_keepsQueue _ _ fun i u => u.alu_pending t _ i

@[simp] theorem execTrisoShr_keepsQueue (t : Fin 4) (s : State) : KeepsQueue s (execTrisoShr t s) :=
  s.issue_keepsQueue _ _ fun i u => u.alu_pending t _ i

@[simp] theorem execTrisoSra_keepsQueue (t : Fin 4) (s : State) : KeepsQueue s (execTrisoSra t s) :=
  s.issue_keepsQueue _ _ fun i u => u.alu_pending t _ i

@[simp] theorem execTrisoMul_keepsQueue (t : Fin 4) (s : State) : KeepsQueue s (execTrisoMul t s) :=
  s.issue_keepsQueue _ _ fun i u => u.alu_pending t _ i

@[simp] theorem execTrisoSet_keepsQueue (t : Fin 4) (s : State) : KeepsQueue s (execTrisoSet t s) :=
  s.issue_keepsQueue _ _ fun i u => by simp

@[simp] theorem execTrisoAddi_keepsQueue (t : Fin 4) (s : State) : KeepsQueue s (execTrisoAddi t s) :=
  s.issue_keepsQueue _ _ fun i u => by simp

@[simp] theorem execTrisoAndi_keepsQueue (t : Fin 4) (s : State) : KeepsQueue s (execTrisoAndi t s) :=
  s.issue_keepsQueue _ _ fun i u => by simp

@[simp] theorem execTrisoOri_keepsQueue (t : Fin 4) (s : State) : KeepsQueue s (execTrisoOri t s) :=
  s.issue_keepsQueue _ _ fun i u => by simp

@[simp] theorem execTrisoXori_keepsQueue (t : Fin 4) (s : State) : KeepsQueue s (execTrisoXori t s) :=
  s.issue_keepsQueue _ _ fun i u => by simp

@[simp] theorem execTrisoShli_keepsQueue (t : Fin 4) (s : State) : KeepsQueue s (execTrisoShli t s) :=
  s.issue_keepsQueue _ _ fun i u => by simp

@[simp] theorem execTrisoShri_keepsQueue (t : Fin 4) (s : State) : KeepsQueue s (execTrisoShri t s) :=
  s.issue_keepsQueue _ _ fun i u => by simp

@[simp] theorem execTrisoSrai_keepsQueue (t : Fin 4) (s : State) : KeepsQueue s (execTrisoSrai t s) :=
  s.issue_keepsQueue _ _ fun i u => by simp

@[simp] theorem execTrisoMovi_keepsQueue (t : Fin 4) (s : State) : KeepsQueue s (execTrisoMovi t s) :=
  s.issue_keepsQueue _ _ fun i u => by simp

@[simp] theorem execTrisoMovhi_keepsQueue (t : Fin 4) (s : State) : KeepsQueue s (execTrisoMovhi t s) :=
  s.issue_keepsQueue _ _ fun i u => by simp

@[simp] theorem State.jump_pending (s : State) (t pc : Nat) : (s.jump t pc).pending = s.pending := rfl

@[simp] theorem execTrisoBr_keepsQueue (t : Fin 4) (s : State) : KeepsQueue s (execTrisoBr t s) := s.issue_keepsQueue _ _ fun i u => by simp

@[simp] theorem execTrisoCall_keepsQueue (t : Fin 4) (s : State) : KeepsQueue s (execTrisoCall t s) :=
  s.issue_keepsQueue _ _ fun i u => by simp

@[simp] theorem execTrisoRet_keepsQueue (t : Fin 4) (s : State) : KeepsQueue s (execTrisoRet t s) := s.issue_keepsQueue _ _ fun i u => by
    split
    · simp
    · simp

@[simp] theorem execTrisoJmpr_keepsQueue (t : Fin 4) (s : State) : KeepsQueue s (execTrisoJmpr t s) :=
  s.issue_keepsQueue _ _ fun i u => by simp

@[simp] theorem execTrisoLd_keepsQueue (t : Fin 4) (s : State) : KeepsQueue s (execTrisoLd t s) := s.issue_keepsQueue _ _ fun i u => by
    split
    · simp
    · split
      · next h => simp [pending_of_snd h (u.readWord_pending 15 _)]
      · next h => simp [pending_of_snd h (u.readWord_pending 15 _)]

@[simp] theorem execTrisoSt_keepsQueue (t : Fin 4) (s : State) : KeepsQueue s (execTrisoSt t s) :=
  s.issue_keepsQueue _ _ fun i u => by split <;> simp

@[simp] theorem execTrisoXchg_keepsQueue (t : Fin 4) (s : State) : KeepsQueue s (execTrisoXchg t s) := s.issue_keepsQueue _ _ fun i u => by
    split
    · simp
    · split
      · next h => simp [pending_of_snd h (u.readWord_pending 15 _)]
      · next h => simp [pending_of_snd h (u.readWord_pending 15 _)]

@[simp] theorem State.markWrite_pending (s : State) (t : Nat) : (s.markWrite t).pending = s.pending := rfl

@[simp] theorem State.landPost_pending (s : State) (t pc a n : Nat) (v : Word) : (s.landPost t pc a n v).pending = s.pending := by
  unfold State.landPost
  dsimp only
  split
  · next h => simp [pending_of_fst h (State.busWrite_pending _ 6 a n _)]
  · next h => simp [pending_of_fst h (State.busWrite_pending _ 6 a n _)]

@[simp] theorem State.drainPosts_pending (s : State) (t : Nat) : (s.drainPosts t).pending = s.pending := by
  unfold State.drainPosts
  refine foldl_pending fun u e => ?_
  split <;> simp

@[simp] theorem execTrisoRdreg_keepsQueue (t : Fin 4) (s : State) :
    KeepsQueue s (execTrisoRdreg t s) := s.issue_keepsQueue _ _ fun i u => by
    split
    · simp
    · dsimp only
      split
      · simp
      · split
        · next h => simp [pending_of_snd h (State.busRead_pending _ 6 _ _ false)]
        · next h => simp [pending_of_snd h (State.busRead_pending _ 6 _ _ false)]

@[simp] theorem execTrisoWrreg_keepsQueue (t : Fin 4) (s : State) : KeepsQueue s (execTrisoWrreg t s) :=
  s.issue_keepsQueue _ _ fun i u => by split <;> simp

@[simp] theorem execTrisoSpawn_keepsQueue (t : Fin 4) (s : State) : KeepsQueue s (execTrisoSpawn t s) :=
  s.issue_keepsQueue _ _ fun i u => by simp

@[simp] theorem execTrisoExit_keepsQueue (t : Fin 4) (s : State) : KeepsQueue s (execTrisoExit t s) :=
  s.issue_keepsQueue _ _ fun i u => by simp

/-! ### The queue through Gaffer's commands -/

@[simp] theorem State.dmemList_pending (s : State) (a n : Nat) : (s.dmemList a n).2.pending = s.pending := by
  induction n generalizing s a with
  | zero => rfl
  | succ n ih =>
    unfold State.dmemList
    split
    · next h => exact pending_of_snd h (s.readWord_pending 15 a)
    · next h => simpa [ih] using pending_of_snd h (s.readWord_pending 15 a)

@[simp] theorem State.prepare_pending (s : State) (l : List Nat) : (s.prepare l).pending = s.pending := by simp [State.prepare]

@[simp] theorem State.prepWith_pending (s : State) (t : Nat) (i : Triso) (l : List Nat) : (s.prepWith t i l).pending = s.pending := by
  simp [State.prepWith]

@[simp] theorem execPrep_keepsQueue (t : Fin 4) (s : State) : KeepsQueue s (execPrep t s) := s.issue_keepsQueue _ _ fun i u => by
    split
    · simp
    · split
      · next h => simp [pending_of_snd h (u.dmemList_pending _ 5)]
      · next h => simp [pending_of_snd h (u.dmemList_pending _ 5)]

@[simp] theorem execGo_keepsQueue (t : Fin 4) (s : State) : KeepsQueue s (execGo t s) := s.issue_keepsQueue _ _ fun i u => by split <;> simp

@[simp] theorem execCommit_keepsQueue (t : Fin 4) (s : State) : KeepsQueue s (execCommit t s) := s.issue_keepsQueue _ _ fun i u => by simp

@[simp] theorem State.landList_pending (s : State) (l : List Nat) : (s.landList l).pending = s.pending := by
  cases l with
  | nil => rfl
  | cons e r =>
    unfold State.landList
    rw [foldl_pending fun u x => u.landWrite_pending _ _, State.landWrite_pending]

@[simp] theorem execSelcal_keepsQueue (t : Fin 4) (s : State) : KeepsQueue s (execSelcal t s) := s.issue_keepsQueue _ _ fun i u => by
    split
    · simp
    · split
      · next h => simp [pending_of_snd h (u.readWord_pending 15 _)]
      · next v h =>
        have hv := pending_of_snd h (u.readWord_pending 15 _)
        split
        · simp [hv]
        · split
          · next h => simp [hv, pending_of_snd h (v.dmemList_pending _ _)]
          · next h => simp [hv, pending_of_snd h (v.dmemList_pending _ _)]

@[simp] theorem State.takeEvent_pending (s : State) (t d e : Nat) : (s.takeEvent t d e).pending = s.pending := by simp [State.takeEvent]

@[simp] theorem execWait_keepsQueue (t : Fin 4) (s : State) : KeepsQueue s (execWait t s) := s.issue_keepsQueue _ _ fun i u => by
    dsimp only
    split <;> simp

@[simp] theorem execWaitReturn_keepsQueue (t : Fin 4) (s : State) : KeepsQueue s (execWaitReturn t s) := by
  unfold execWaitReturn
  (repeat' split) <;> simp

@[simp] theorem execWaitTimeout_keepsQueue (t : Fin 4) (s : State) : KeepsQueue s (execWaitTimeout t s) := by
  unfold execWaitTimeout
  (repeat' split) <;> simp

@[simp] theorem execSig_keepsQueue (t : Fin 4) (s : State) : KeepsQueue s (execSig t s) := s.issue_keepsQueue _ _ fun i u => by simp

@[simp] theorem execRing_keepsQueue (t : Fin 4) (s : State) : KeepsQueue s (execRing t s) := s.issue_keepsQueue _ _ fun i u => by simp

@[simp] theorem execStamp_keepsQueue (t : Fin 4) (s : State) : KeepsQueue s (execStamp t s) := s.issue_keepsQueue _ _ fun i u => by simp

@[simp] theorem execArmtp_keepsQueue (t : Fin 4) (s : State) : KeepsQueue s (execArmtp t s) := s.issue_keepsQueue _ _ fun i u => by simp

@[simp] theorem execCchk_keepsQueue (t : Fin 4) (s : State) : KeepsQueue s (execCchk t s) := s.issue_keepsQueue _ _ fun i u => by simp

@[simp] theorem execTrain_keepsQueue (t : Fin 4) (s : State) : KeepsQueue s (execTrain t s) := s.issue_keepsQueue _ _ fun i u => by simp

@[simp] theorem execHalt_keepsQueue (t : Fin 4) (s : State) : KeepsQueue s (execHalt t s) := s.issue_keepsQueue _ _ fun i u => by simp

@[simp] theorem State.acceptResume_pending (s : State) : (s.acceptResume).pending = s.pending := by
  unfold State.acceptResume
  split <;> simp

@[simp] theorem execResume_keepsQueue (t : Fin 4) (s : State) : KeepsQueue s (execResume t s) := s.issue_keepsQueue _ _ fun i u => by simp

@[simp] theorem State.abandon_pending (s : State) (k : Stripe) : (s.abandon k).pending = s.pending := by simp [State.abandon]

@[simp] theorem execAbandon_keepsQueue (t : Fin 4) (s : State) : KeepsQueue s (execAbandon t s) :=
  s.issue_keepsQueue _ _ fun i u => by split <;> simp

@[simp] theorem execRunStart_keepsQueue (v : Word) (s : State) : KeepsQueue s (execRunStart v s) := by
  unfold execRunStart
  split <;> simp

@[simp] theorem execRunStop_keepsQueue (v : Word) (s : State) : KeepsQueue s (execRunStop v s) := by
  unfold execRunStop
  split <;> simp

@[simp] theorem execEvsetWrite_keepsQueue (m : Fin 8) (v : Word) (s : State) : KeepsQueue s (execEvsetWrite m v s) := ⟨_, rfl, by simp⟩

/-! ### The queue through PTP -/

@[simp] theorem State.ptpUnsupported_pending (s : State) (p : Nat) (frame : List Byte) :
    (s.ptpUnsupported p frame).pending = s.pending := by
  simp [State.ptpUnsupported]

@[simp] theorem State.hearSync_pending (s : State) (frame : List Byte) (o : Nat) : (s.hearSync frame o).pending = s.pending := by
  simp [State.hearSync]

@[simp] theorem State.ptpReceive_pending (s : State) (p : Nat) (frame : List Byte) (boundary : Int) :
    (s.ptpReceive p frame boundary).pending = s.pending := by
  unfold State.ptpReceive
  (repeat' split) <;> simp

@[simp] theorem execPtpEventRx_keepsQueue (p : Fin 4) (frame : List Byte) (boundary : Int) (badFcs : Bool) (s : State) :
    KeepsQueue s (execPtpEventRx p frame boundary badFcs s) := by
  unfold execPtpEventRx
  split <;> simp

@[simp] theorem execPtpUnsupportedMessage_keepsQueue (r : Fin 4 × List Byte) (s : State) :
    KeepsQueue s (execPtpUnsupportedMessage r s) := by
  unfold execPtpUnsupportedMessage
  split <;> simp

@[simp] theorem execSyncTx_keepsQueue (p : Fin 4) (frame : List Byte) (at2 : Int × Int) (s : State) :
    KeepsQueue s (execSyncTx p frame at2 s) := by
  unfold execSyncTx
  (repeat' split) <;> simp

@[simp] theorem execDelayReqLaunch_keepsQueue (p : Fin 4) (frame : List Byte) (launch : Bool) (lt : Nat) (s : State) :
    KeepsQueue s (execDelayReqLaunch p frame launch lt s) := by
  unfold execDelayReqLaunch
  (repeat' split) <;> simp

@[simp] theorem State.launch_pending (s : State) (l : Launch) : (s.launch l).pending = s.pending := by
  simp only [State.launch]
  (repeat' split) <;> simp

@[simp] theorem State.launchDue_pending (s : State) : (s.launchDue).pending = s.pending := by simp [State.launchDue]

@[simp] theorem execTcForward_keepsQueue (p : Fin 4) (frame : List Byte) (rx tx : Int) (badFcs : Bool) (s : State) :
    KeepsQueue s (execTcForward p frame rx tx badFcs s) := by
  unfold execTcForward
  (repeat' split) <;> simp

/-! ### The queue through the ticks of the units -/

@[simp] theorem State.seqSample_pending (s : State) (n : Nat) (v : Seen) : (s.seqSample n v).pending = s.pending := by
  simp [State.seqSample]

@[simp] theorem State.comparePulse_pending (s : State) (c : Nat) (pin : Bool) (w t : Nat) :
    (s.comparePulse c pin w t).pending = s.pending := by
  simp [State.comparePulse]

@[simp] theorem State.come_pending (s : State) (t : Nat) (l : Later) : (s.come t l).pending = s.pending := by cases l <;> simp [State.come]

@[simp] theorem State.comeDue_pending (s : State) : (s.comeDue).pending = s.pending := by
  unfold State.comeDue
  rw [foldl_pending fun t e => t.come_pending _ _]

@[simp] theorem State.seqTick_pending (s : State) : (s.seqTick).pending = s.pending := by simp [State.seqTick]

@[simp] theorem execThymeTick_keepsQueue (s : State) : KeepsQueue s (execThymeTick s) := ⟨_, rfl, by simp⟩

@[simp] theorem execSlewEnd_keepsQueue (s : State) : KeepsQueue s (execSlewEnd s) := by
  unfold execSlewEnd
  split <;> simp

/-! ### The queue through the fetch word -/

@[simp] theorem State.withFetchWord_pending (s : State) (nbits w : Nat) : (s.withFetchWord nbits w).pending = s.pending := rfl

/-! ### Every command -/

/-- A well-formed command completes and leaves the queue behind it as it is. The commands that are ill formed for some operand use that
theirs is none of these; the others do so for every operand. -/
theorem exec_keepsQueue {i : Instr} (h : i.wf = true) (s : State) : KeepsQueue s (exec i s) := by
  cases i
  case shRegisterWrite m a n v => exact execShRegisterWrite_keepsQueue h m v s
  case rcRead m a n b => exact execRcRead_keepsQueue h m b s
  case registerWrite m a n v => exact execRegisterWrite_keepsQueue h m v s
  case tjSample temps => exact execTjSample_keepsQueue (of_decide_eq_true h) s
  case hbmRequest p a w => exact execHbmRequest_keepsQueue (of_decide_eq_true h) p w s
  case memoryRead g a r u => exact execMemoryRead_keepsQueue h r u s
  case memoryWrite g a m l => exact execMemoryWrite_keepsQueue (of_decide_eq_true h) m s
  case ccResult g a f l =>
    simp only [Instr.wf, Bool.and_eq_true, decide_eq_true_eq] at h
    exact execCcResult_keepsQueue h.1 h.2 g a f s
  case tmrVote k l => exact execTmrVote_keepsQueue (of_decide_eq_true h) k s
  all_goals simp [exec]

/-- An ill-formed command is a fault that names it. -/
theorem exec_illFormed {i : Instr} (h : i.wf = false) (s : State) : ∃ n, exec i s = .fault (.illFormed n) := by
  cases i
  case shRegisterWrite m a n v => exact ⟨_, if_neg (by simpa [Instr.wf] using h)⟩
  case rcRead m a n b => exact ⟨_, if_neg (by simpa [Instr.wf] using h)⟩
  case registerWrite m a n v => exact ⟨_, if_neg (by simpa [Instr.wf] using h)⟩
  case tjSample temps =>
    cases temps with
    | nil => exact ⟨_, rfl⟩
    | cons t r => exact ⟨_, if_pos (of_decide_eq_false h)⟩
  case hbmRequest p a w => exact ⟨_, if_pos (Nat.le_of_not_lt (of_decide_eq_false h))⟩
  case memoryRead g a r u => exact ⟨_, if_pos h⟩
  case memoryWrite g a m l => exact ⟨_, if_pos (Nat.lt_of_not_le (of_decide_eq_false h))⟩
  case ccResult g a f l =>
    refine ⟨_, if_pos ?_⟩
    simp only [Instr.wf, Bool.and_eq_false_iff, decide_eq_false_iff_not] at h
    simp only [List.isEmpty_iff_length_eq_zero]
    omega
  case tmrVote k l => exact ⟨_, if_pos (of_decide_eq_false h)⟩
  all_goals exact Bool.noConfusion h

/-- Settles O1: both clauses are the two cases of `step`'s own match on the queue. -/
theorem stepTakesFront : Obligations.StepTakesFront := by
  refine ⟨fun _ _ _ => rfl, fun s h => ?_⟩
  simp [step, h]

/-- Settles O2: a well-formed command completes, an ill-formed one is the fault that names it, and so a fault means an ill-formed one. -/
theorem commandsComplete : Obligations.CommandsComplete := by
  refine ⟨fun i s h => ?_, fun i s h => exec_illFormed h s, fun i s ⟨f, hf⟩ => ?_⟩
  · obtain ⟨t, ht, -⟩ := exec_keepsQueue h s
    exact ⟨t, ht⟩
  · by_contra hw
    obtain ⟨t, ht, -⟩ := exec_keepsQueue (eq_true_of_ne_false hw) s
    rw [ht] at hf
    cases hf

/-- Settles O3: a command that completes is well formed, and a well-formed one leaves the queue as it is. -/
theorem queueUntouched : Obligations.QueueUntouched := by
  intro c s t h
  cases hw : c.wf with
  | true =>
    obtain ⟨u, hu, hq⟩ := exec_keepsQueue hw s
    rw [hu] at h
    cases h
    exact hq
  | false =>
    obtain ⟨n, hn⟩ := exec_illFormed hw s
    rw [hn] at h
    cases h

end Sys2Proof.Machine

/-! # The state after reset, and the register bus (O5, O6) -/

namespace Sys2Proof.Machine

open Sys2Proof

set_option Elab.async false

/-- After reset no register field is listed, so each reads its reset value. -/
theorem reset_f (x : Fld) : State.reset.f x = x.reset := rfl

/-- Settles O5: after reset every list that the statement names is empty, and every field reads its reset value (`reset_f`). -/
theorem resetState : Obligations.ResetState := by
  have hthyme : State.reset.thyme.Inv := ⟨by decide, by decide, by decide⟩
  refine ⟨rfl, hthyme, rfl, rfl, rfl, rfl, reset_f, ?_⟩
  simp only [reset_f]
  exact ⟨rfl, rfl, rfl, rfl, rfl, rfl, rfl, rfl, rfl, rfl, rfl, rfl, rfl, rfl, fun _ _ => rfl⟩

/-- An RC_READ in the BAR is carried out: it reads the register bus. -/
theorem exec_rcRead {addr width : Nat} (h : accessOk addr width = true) (m : Fin 8) (b : Bool) (s : State) :
    exec (.rcRead m addr width b) s = .next (s.readCommand m addr width b) := if_pos h

/-- The reset state, but with bit 32 set in the doorbell word of every master. -/
def wideDoorbells : State :=
  { State.reset with host := { State.reset.host with dbPend := List.replicate 8 (BitVec.ofNat 64 (2 ^ 32)) } }

/-- A read of the doorbell register returns the whole doorbell word, its bit 32 included. -/
theorem rcRead_wideDoorbells :
    (wideDoorbells.readCommand 6 0x303000 4 true).host.readData = BitVec.ofNat 64 (2 ^ 32) := by decide +kernel

/-- Refutes O6: a doorbell word is held in 64 bits, and RC_READ of Gaffer's doorbell register returns it untruncated; so with bit 32 of
it set the data read is 2 ^ 32 and not the word's low 32 bits, which are 0. -/
theorem not_registerBus : ¬ Obligations.RegisterBus := by
  intro h
  obtain ⟨-, -, -, -, hdoorbell, -⟩ := h
  obtain ⟨t, ht, hdata, -⟩ := hdoorbell wideDoorbells true (by decide)
  rw [exec_rcRead (by decide)] at ht
  cases ht
  replace hdata := rcRead_wideDoorbells.symm.trans hdata
  exact absurd hdata (by decide)

end Sys2Proof.Machine

/-! # Frames of the updates that the units share

`Keeps s t l` of the named updates, composed one after the other; the parts that a composed update may change are compared by `decide`. -/

namespace Sys2Proof.Machine

open Sys2Proof

set_option Elab.async false

/-! ### Frames: composition, and one part changed -/

theorem Keeps.refl (s : State) (l : List Part) : Keeps s s l := ⟨rfl, fun p _ => by cases p <;> rfl⟩

/-- Two updates one after the other, the second of which changes parts that the first may change as well. -/
theorem Keeps.then {s t u : State} {l m : List Part} (h : Keeps s t l) (g : Keeps t u m) (hm : m ⊆ l := by decide) : Keeps s u l := by
  refine ⟨g.1.trans h.1, fun p hp => ?_⟩
  have h1 := h.2 p hp
  have h2 := g.2 p fun hq => hp (hm hq)
  cases p <;> exact Eq.trans h2 h1

theorem Keeps.mono {s t : State} {l m : List Part} (h : Keeps s t l) (hl : l ⊆ m := by decide) : Keeps s t m :=
  ⟨h.1, fun p hp => h.2 p fun hq => hp (hl hq)⟩

/-- A fold of updates changes what one of them may change. -/
theorem Keeps.foldl {α : Type} {f : State → α → State} {l : List Part} (h : ∀ t a, Keeps t (f t a) l) (as : List α) (s : State) :
    Keeps s (as.foldl f s) l := by
  induction as generalizing s with
  | nil => exact .refl s l
  | cons a as ih => exact (h s a).then (ih (f s a)) (List.Subset.refl l)

theorem Keeps.ite {s t u : State} {l : List Part} (p : Prop) [Decidable p] (h : Keeps s t l) (g : Keeps s u l) :
    Keeps s (if p then t else u) l := by
  split
  · exact h
  · exact g

/-- A field reads the same where the register file does. -/
theorem Keeps.f_eq {s t : State} {l : List Part} (h : Keeps s t l) (x : Fld) (hl : Part.regs ∉ l := by decide) : t.f x = s.f x := by
  have hr : t.regs = s.regs := h.2 .regs hl
  simp only [State.f, hr]

/-- Closes the frame of a record update: a part that is not named is unchanged by definition. -/
theorem Keeps.of_same {s t : State} {l : List Part} (hq : t.pending = s.pending) (h : ∀ p, p ∈ l ∨ p.same s t) : Keeps s t l :=
  ⟨hq, fun p hp => (h p).resolve_left hp⟩

theorem State.put_keeps (s : State) (x : Fld) (v : Nat) : Keeps s (s.put x v) [.regs] :=
  .of_same rfl fun p => by cases p <;> simp [Part.same]

theorem State.flag_keeps (s : State) (x : Fld) : Keeps s (s.flag x) [.regs] :=
  .of_same rfl fun p => by cases p <;> simp [Part.same]

theorem State.count_keeps (s : State) (x : Fld) (n : Nat) : Keeps s (s.count x n) [.regs] :=
  .of_same rfl fun p => by cases p <;> simp [Part.same]

theorem State.send_keeps (s : State) (o : Output) : Keeps s (s.send o) [.out] :=
  .of_same rfl fun p => by cases p <;> simp [Part.same]

theorem State.modCtx_keeps (s : State) (c : Nat) (f : JobCtx → JobCtx) : Keeps s (s.modCtx c f) [.gather] :=
  .of_same rfl fun p => by cases p <;> simp [Part.same]

theorem keeps_journal (s : State) (j : Journal) : Keeps s { s with journal := j } [.journal] :=
  .of_same rfl fun p => by cases p <;> simp [Part.same]

theorem keeps_gaf (s : State) (g : Gaffer) : Keeps s { s with gaf := g } [.gaf] :=
  .of_same rfl fun p => by cases p <;> simp [Part.same]

theorem keeps_mot (s : State) (m : Motion) : Keeps s { s with mot := m } [.mot] :=
  .of_same rfl fun p => by cases p <;> simp [Part.same]

theorem keeps_link (s : State) (l : Link) : Keeps s { s with link := l } [.link] :=
  .of_same rfl fun p => by cases p <;> simp [Part.same]

theorem keeps_power (s : State) (w : Power) : Keeps s { s with power := w } [.power] :=
  .of_same rfl fun p => by cases p <;> simp [Part.same]

theorem keeps_ports (s : State) (q : List (Nat × Output)) : Keeps s { s with ports := q } [.ports] :=
  .of_same rfl fun p => by cases p <;> simp [Part.same]

theorem keeps_clu (s : State) (c : Cluster) : Keeps s { s with clu := c } [.clu] :=
  .of_same rfl fun p => by cases p <;> simp [Part.same]

theorem keeps_gaf_mot_link (s : State) (g : Gaffer) (m : Motion) (l : Link) :
    Keeps s { s with gaf := g, mot := m, link := l } [.gaf, .mot, .link] :=
  .of_same rfl fun p => by cases p <;> simp [Part.same]

theorem keeps_work (s : State) (b : Blowpipe) (n : List (Option MSlot)) (y : Glory) (r : Parison) :
    Keeps s { s with blow := b, mslots := n, glory := y, par := r } [.blow, .mslots, .glory, .par] :=
  .of_same rfl fun p => by cases p <;> simp [Part.same]

/-! ### Frames of the events, of leave and of what a worker reports -/

theorem State.journalEvent_keeps (s : State) (code cls : Nat) (w : Bool) (args : List Arg) :
    Keeps s (s.journalEvent code cls w args) [.regs, .journal] :=
  .then (.mono (s.put_keeps _ _)) (keeps_journal _ _)

theorem State.report_keeps (s : State) (code n : Nat) (args : List Arg) : Keeps s (s.report code n args) [.regs, .journal] :=
  .ite _ (.refl s _) (s.journalEvent_keeps code 0 false args)

theorem State.pulse_keeps (s : State) (line : Nat) : Keeps s (s.pulse line) [.regs, .gaf] := by
  have h := Keeps.mono (keeps_gaf s { s.gaf with
    threads := s.gaf.threads.map fun t => { t with pend := BitVec.ofNat 64 (setBit t.pend.toNat line) } }) (m := [.regs, .gaf])
  exact .ite _ h ((h.then (State.count_keeps _ _ _)).then (State.flag_keeps _ _))

/-- A pulse changes no more of Gaffer than the threads' pending registers. -/
theorem State.pulse_gaf (s : State) (line : Nat) : ∃ l, (s.pulse line).gaf = { s.gaf with threads := l } := by
  simp only [State.pulse]
  split <;> exact ⟨_, rfl⟩

/-- A pulse leaves every field but those that count and flag a merged one. -/
theorem State.pulse_f (s : State) (line : Nat) {x : Fld} (hc : x.key ≠ GAF_CNT_EVMERGE.COUNT.key) (hf : x.key ≠ GAF_STATUS.EV_MERGE.key) :
    (s.pulse line).f x = s.f x := by
  simp only [State.pulse]
  split
  · rfl
  · rw [State.flag, State.f_put_other _ _ hf, State.count, State.f_put_other _ _ hc]
    rfl

theorem State.emit_keeps (s : State) (p : Nat) (o : Output) : Keeps s (s.emit p o) [.ports, .out] :=
  .ite _ (.refl s _) (.ite _ (.mono (keeps_ports s _)) (.mono (s.send_keeps o)))

theorem State.cluSend_keeps (s : State) (up : Bool) (type dst : Nat) (body : List Nat) :
    Keeps s (s.cluSend up type dst body) [.clu, .ports, .out] :=
  .then (.mono (.foldl (fun t p => t.emit_keeps p _) _ s)) (keeps_clu _ _)

theorem State.tellStripe_keeps (s : State) (stripe sstate : Nat) : Keeps s (s.tellStripe stripe sstate) [.clu, .ports, .out] :=
  .ite _ (s.cluSend_keeps _ _ _ _) (.refl s _)

theorem State.tellDropped_keeps (s : State) (c : Nat) (k : Option Stripe) : Keeps s (s.tellDropped c k) [.clu, .ports, .out] := by
  cases k with
  | none => exact .refl s _
  | some k => exact .ite _ (s.tellStripe_keeps _ _) (.refl s _)

theorem State.beginLoad_keeps (s : State) (k : Stripe) (c p : Nat) : Keeps s (s.beginLoad k c p) [.link] := by
  unfold State.beginLoad
  split
  · exact .ite _ (keeps_link s _) (.refl s _)
  · exact .refl s _

theorem State.kickLehr_keeps (s : State) : Keeps s s.kickLehr [.link] := by
  unfold State.kickLehr
  split
  · exact .refl s _
  · exact .ite _ (s.beginLoad_keeps _ _ _) (.refl s _)

theorem State.countWait_keeps (s : State) (w : Leave) : Keeps s (s.countWait w) [.regs] := by
  unfold State.countWait
  cases w.who with
  | training _ | sage _ => exact .refl s _
  | marver _ _ | coarse | pixel | parison => exact s.count_keeps _ _

theorem State.countGovWait_keeps (s : State) : Keeps s s.countGovWait [.regs, .power] := by
  unfold State.countGovWait
  split
  · exact .refl s _
  · exact .then (.mono (s.count_keeps _ _)) (keeps_power _ _)

theorem State.endWait_keeps (s : State) (who : Requester) : Keeps s (s.endWait who) [.regs, .power] := by
  unfold State.endWait
  split
  · exact .then (.mono (s.countWait_keeps _)) (State.countGovWait_keeps _)
  · exact .refl s _

theorem State.showLeave_keeps (s : State) : Keeps s s.showLeave [.regs] := .then (s.put_keeps _ _) (State.put_keeps _ _ _)

theorem State.giveLeave_keeps (s : State) (who : Requester) : Keeps s (s.giveLeave who) [.regs, .power] :=
  ((s.endWait_keeps who).then (keeps_power _ _)).then (State.showLeave_keeps _)

end Sys2Proof.Machine

/-! # The phases of a stripe (O46)

The frames of the data path that drops a stripe, then the state after a job's halt, an activation and a stripe's end, and the commands of
the phases. -/

namespace Sys2Proof.Machine

open Sys2Proof

set_option Elab.async false

/-! ### Frames of the data path that drops a stripe -/

/-- What a unit of the data path may change when it drops a stripe: its own work, the leave that it returns and what it reports. -/
def dropParts : List Part := [.regs, .journal, .power, .blow, .mslots, .glory, .par]

theorem Keeps.drops {s t : State} {l : List Part} (h : Keeps s t l) (hl : l ⊆ dropParts := by decide) : Keeps s t dropParts := h.mono hl

theorem State.reportSweep_keeps (s : State) (w : Sweep) : Keeps s (s.reportSweep w) dropParts := by
  have h : Keeps s ((s.report 0x074F w.degenerate [a32 w.stripe.num, a32 w.degenerate]).report 0x0603 w.revoked
      [a32 w.stripe.num, a32 w.revoked]) dropParts := .then (s.report_keeps _ _ _).drops (State.report_keeps _ _ _ _)
  exact .ite _ h (h.then (State.report_keeps _ _ _ _))

theorem State.reportParison_keeps (s : State) (k : Stripe) : Keeps s (s.reportParison k) dropParts :=
  .then (.then (.ite _ (.refl s _) (s.journalEvent_keeps _ _ _ _).drops) (State.report_keeps _ _ _ _)) (State.report_keeps _ _ _ _)

theorem State.giveSlots_keeps (s : State) (k : Stripe) (l : List (Option MSlot)) (i : Nat) : Keeps s (s.giveSlots k l i) dropParts := by
  induction l generalizing s i with
  | nil => exact .refl s _
  | cons m r ih =>
    refine Keeps.then ?_ (ih _ (i + 1))
    cases m with
    | none => exact .refl s _
    | some t => exact .ite _ (s.giveLeave_keeps _).drops (.refl s _)

theorem State.dropFront_keeps (s : State) (k : Stripe) : Keeps s (s.dropFront k) dropParts := by
  refine .then (.then (.then ?_ (keeps_work _ _ _ _ _)) (State.giveSlots_keeps _ k _ 0)) (keeps_work _ _ _ _ _)
  split
  · exact s.reportSweep_keeps _
  · exact .refl s _

theorem State.dropGlory_keeps (s : State) (k : Stripe) : Keeps s (s.dropGlory k) dropParts := by
  unfold State.dropGlory
  extract_lets t1 g1 s1 t2 g2 s2
  have h1 : Keeps s s1 dropParts := by
    unfold s1
    split
    · exact .ite _ (.then (.then (s.report_keeps _ _ _).drops (State.giveLeave_keeps _ _)) (keeps_work _ _ _ _ _)) (.refl s _)
    · exact .refl s _
  have h2 : Keeps s s2 dropParts := by
    unfold s2
    split
    · exact .ite _ (.then (.then (h1.then (s1.report_keeps _ _ _)) (State.giveLeave_keeps _ _)) (keeps_work _ _ _ _ _)) h1
    · exact h1
  exact h2.then (keeps_work s2 _ _ _ _)

theorem State.freeHalves_keeps (s : State) (l : List Band) : Keeps s (s.freeHalves l) dropParts := by
  induction l generalizing s with
  | nil => exact .refl s _
  | cons b r ih => exact .then (keeps_work s _ _ _ _).drops (ih _)

theorem State.countHold_keeps (s : State) : Keeps s s.countHold dropParts := by
  unfold State.countHold
  split
  · exact .refl s _
  · exact .then (.then (s.count_keeps _ _).drops (State.put_keeps _ _ _)) (keeps_work _ _ _ _ _)

theorem State.dropParison_keeps (s : State) (k : Stripe) : Keeps s (s.dropParison k) dropParts := by
  refine .then (.then ?_ (State.freeHalves_keeps _ _)) (keeps_work _ _ _ _ _)
  split
  · exact .ite _ (.then (.then (.then s.countHold_keeps (State.reportParison_keeps _ k)) (State.giveLeave_keeps _ _))
      (keeps_work _ _ _ _ _)) (.refl s _)
  · exact .refl s _

theorem State.dropStripes_keeps (s : State) (l : List Stripe) : Keeps s (s.dropStripes l) dropParts := by
  induction l generalizing s with
  | nil => exact .refl s _
  | cons k r ih =>
    exact .then (.then (.then (s.dropFront_keeps k) (State.dropGlory_keeps _ k)) (State.dropParison_keeps _ k)) (ih _)

/-! ### A job halts (R425) -/

/-- A context that has changed reads as changed. -/
theorem State.ctx_modCtx_same {s : State} {c : Nat} {x : JobCtx} (hx : s.gather.ctxs[c]? = some x) (f : JobCtx → JobCtx) :
    (s.modCtx c f).ctx c = f x := by
  obtain ⟨hc, rfl⟩ := List.getElem?_eq_some_iff.mp hx
  simp [State.ctx, State.modCtx, lmod, hc]

/-- The job of a context is halted with a code, and Gaffer has no PREPARED or QUEUED stripe of it. -/
def State.haltedJob (s : State) (c code : Nat) : State :=
  let s1 := s.modCtx c (fun x => { x with halt := some code })
  { s1 with gaf := { s1.gaf with
    prepared := s1.gaf.prepared.filter (fun k => !decide (k.ctx = c)),
    queued := s1.gaf.queued.filter (fun k => !decide (k.ctx = c)) } }

/-- The first class 3 event of an open context halts its job; the rest is the data path that drops its stripes, and the reports. -/
theorem State.jobHalt_keeps {s : State} {c : Nat} (code : Nat) {x : JobCtx} (ho : s.ctxOpen c = true)
    (hx : s.gather.ctxs[c]? = some x) (hh : x.halt = none) :
    Keeps (s.haltedJob c code) (s.jobHalt c code) (.clu :: .ports :: .out :: dropParts) := by
  have hc : (s.ctx c).halt = none := by simp [State.ctx, List.getD_eq_getElem?_getD, hx, hh]
  unfold State.jobHalt
  rw [if_pos ho, hc]
  exact .then (.then (.then (.mono (State.dropStripes_keeps _ _)) (keeps_work _ _ _ _ _)) (State.tellDropped_keeps _ _ _))
    (State.tellDropped_keeps _ _ _)

/-- No context's OPEN bit lies in the register that counts the motion unit's events. -/
theorem ctxOpen_key_ne_seq (c : Nat) : (GTH_CTX_CFG.OPEN c).key ≠ (EVJ_SEQ.SEQ 0x0E).key := by
  simp only [Fld.key, GTH_CTX_CFG.OPEN, GTH_CTX_CFG.off, EVJ_SEQ.SEQ, EVJ_SEQ.off]
  omega

/-- An event of the motion unit leaves a context open that is open. -/
theorem State.ctxOpen_journalEvent {s : State} {c : Nat} (ho : s.ctxOpen c = true) (cls : Nat) (w : Bool) (args : List Arg) :
    (s.journalEvent 0x0E20 cls w args).ctxOpen c = true := by
  have h : (s.journalEvent 0x0E20 cls w args).f (GTH_CTX_CFG.OPEN c) = s.f (GTH_CTX_CFG.OPEN c) :=
    s.f_put_other _ (ctxOpen_key_ne_seq c)
  simp only [State.ctxOpen, State.on, h] at ho ⊢
  exact ho

/-- PROFILE_INVALID: the job halts, its QUEUED stripe is discarded, and the motion unit stays as it is (R254, R425). -/
theorem State.jobFault_profileInvalid {s : State} {c : Nat} {x : JobCtx} (ho : s.ctxOpen c = true)
    (hx : s.gather.ctxs[c]? = some x) (hh : x.halt = none) (args : List Arg) :
    ((s.jobFault c 0x0E20 false args).ctx c).halt = some 0x0E20 ∧ (s.jobFault c 0x0E20 false args).mot = s.mot ∧
      (s.jobFault c 0x0E20 false args).gaf.active = s.gaf.active ∧
      (s.jobFault c 0x0E20 false args).gaf.queued = s.gaf.queued.filter (fun k => !decide (k.ctx = c)) := by
  have hk := State.jobHalt_keeps 0x0E20 (State.ctxOpen_journalEvent ho 3 false args) hx hh
  have hgather : (s.jobFault c 0x0E20 false args).gather = _ := hk.2 .gather (by decide)
  have hmot : (s.jobFault c 0x0E20 false args).mot = _ := hk.2 .mot (by decide)
  have hgaf : (s.jobFault c 0x0E20 false args).gaf = _ := hk.2 .gaf (by decide)
  refine ⟨?_, hmot, ?_, ?_⟩
  · rw [State.ctx, hgather]
    exact congrArg JobCtx.halt (State.ctx_modCtx_same hx fun x => { x with halt := some 0x0E20 })
  · rw [hgaf]
    rfl
  · rw [hgaf]
    rfl

/-! ### A stripe becomes ACTIVE (R254, R256, R289) -/

/-- The register fields at an activation. -/
def State.activatedRegs (s : State) (k : Stripe) : State :=
  ((((((s.put FLS_CTL.DIR (b2n k.neg)).puts FLS_XF0.XF0 k.xf0).puts FLS_YS.YS k.yax).put MOT_STATUS.CAPPED
    (b2n (decide (s.cruiseCap k.gen < s.profReg 2)))).put MOT_STATUS.PACED 0).put MOT_VPLAN.V
    (min (s.profReg 2) (s.cruiseCap k.gen))).put MOT_STATUS.STATE 1

/-- The units of the motion at an activation: Gaffer, the motion unit and the blanker link, before the plan is laid. -/
def State.activatedUnits (s : State) (k : Stripe) : State :=
  let s2 := s.activatedRegs k
  { s2 with
    gaf := { s2.gaf with active := some k, queued := none, resumeOk := false, ending := false },
    mot := { s2.mot with
      prof := (List.range 8).map s.profReg, vc := min (s.profReg 2) (s.cruiseCap k.gen), t0 := 0, leadOver := false, armed := false,
      begun := false, badNonce := false, flashing := false, next := 0, a0 := [], committed := 0, struck := (0, 0), warned := false },
    link := { s2.link with halves := [none, none], serve := none, acks := [] } }

/-- The same with the plan of the positioning. -/
def State.activated (s : State) (k : Stripe) : State :=
  { s.activatedUnits k with mot := (s.activatedUnits k).mot.setPlan ((s.activatedUnits k).positioning k 0) }

theorem State.activatedRegs_keeps (s : State) (k : Stripe) : Keeps s (s.activatedRegs k) [.regs] :=
  ((((((s.put_keeps _ _).then (State.put_keeps _ _ _)).then (State.put_keeps _ _ _)).then (State.put_keeps _ _ _)).then
    (State.put_keeps _ _ _)).then (State.put_keeps _ _ _)).then (State.put_keeps _ _ _)

/-- Behind these come the context's last activated stripe, the report to the manager, and the first load of Lehr. -/
theorem State.activate_keeps (s : State) (k : Stripe) : Keeps (s.activated k) (s.activate k) [.gather, .clu, .ports, .out, .link] :=
  .then (.then (.mono (State.modCtx_keeps _ _ _)) (State.tellStripe_keeps _ _ _)) (State.kickLehr_keeps _)

theorem State.activatedUnits_keeps (s : State) (k : Stripe) : Keeps s (s.activatedUnits k) [.regs, .gaf, .mot, .link] :=
  .then (.mono (s.activatedRegs_keeps k)) (keeps_gaf_mot_link _ _ _ _)

theorem State.activated_keeps (s : State) (k : Stripe) : Keeps s (s.activated k) [.regs, .gaf, .mot, .link] :=
  (s.activatedUnits_keeps k).then (keeps_mot _ _)

theorem State.activatedRegs_f (s : State) (k : Stripe) :
    (s.activatedRegs k).f MOT_STATUS.STATE = 1 ∧
    (s.activatedRegs k).f MOT_VPLAN.V = min (s.profReg 2) (s.cruiseCap k.gen) % 2 ^ 32 ∧
    (s.activatedRegs k).f MOT_STATUS.CAPPED = (if s.cruiseCap k.gen < s.profReg 2 then 1 else 0) ∧
    (s.activatedRegs k).f MOT_STATUS.PACED = 0 ∧ (s.activatedRegs k).f FLS_CTL.DIR = (if k.neg = true then 1 else 0) := by
  have hbit (b : Bool) : b2n b % 2 ^ 1 = if b = true then 1 else 0 := by cases b <;> rfl
  simp (disch := decide) only [State.activatedRegs, State.puts, State.f_put_same, State.f_put_other]
  refine ⟨rfl, rfl, ?_, rfl, hbit k.neg⟩
  exact (hbit _).trans (by simp only [decide_eq_true_eq])

/-- The plan laid at an activation is a positioning that begins now, at the present end of both axes' motion. -/
theorem State.positioning_begins (s : State) (k : Stripe) (t0 : Nat) :
    (s.positioning k t0).t0 = s.now100 ∧ (s.positioning k t0).x.p0 = s.mot.plan.x.final ∧
    (s.positioning k t0).y.p0 = s.mot.plan.y.final := ⟨rfl, rfl, rfl⟩

/-- The time is Thyme's alone. -/
theorem Keeps.now100_eq {s t : State} {l : List Part} (h : Keeps s t l) (hl : Part.thyme ∉ l := by decide) : t.now100 = s.now100 := by
  have hth : t.thyme = s.thyme := h.2 .thyme hl
  simp only [State.now100, State.now, hth]

theorem State.activatedUnits_plan (s : State) (k : Stripe) : (s.activatedUnits k).mot.plan = s.mot.plan := rfl

/-- What an activation brings about. -/
theorem State.activate_spec (s : State) (k : Stripe) :
    (s.activate k).gaf = (s.activatedUnits k).gaf ∧
    (s.activate k).mot = (s.activatedUnits k).mot.setPlan ((s.activatedUnits k).positioning k 0) ∧
    (∀ x, (s.activate k).f x = (s.activatedRegs k).f x) ∧
    Keeps s (s.activate k) [.regs, .gather, .gaf, .link, .mot, .clu, .ports, .out] := by
  have h := s.activate_keeps k
  have hregs : (s.activate k).regs = (s.activatedRegs k).regs := h.2 .regs (by decide)
  exact ⟨h.2 .gaf (by decide), h.2 .mot (by decide), fun x => by simp only [State.f, hregs], ((s.activated_keeps k).mono).then h⟩

/-- The plan that an activation lays begins now, at the present end of both axes' motion. -/
theorem State.activate_plan (s : State) (k : Stripe) :
    (s.activate k).mot.plan.t0 = s.now100 ∧ (s.activate k).mot.plan.x.p0 = s.mot.plan.x.final ∧
    (s.activate k).mot.plan.y.p0 = s.mot.plan.y.final := by
  obtain ⟨-, hmot, -, -⟩ := s.activate_spec k
  obtain ⟨ht0, hx, hy⟩ := (s.activatedUnits k).positioning_begins k 0
  rw [hmot]
  refine ⟨ht0.trans (s.activatedUnits_keeps k).now100_eq, hx.trans ?_, hy.trans ?_⟩
  · rw [s.activatedUnits_plan]
  · rw [s.activatedUnits_plan]

/-! ### A stripe is DONE (R256, R289, R297, R298) -/

/-- The state of a stripe's end, before its pulse and its report. -/
def State.ended (s : State) (k : Stripe) : State :=
  let s1 := (s.put MOT_STATUS.STATE 0).modCtx k.ctx (fun c => { c with lastDone := some k.num })
  { s1 with gaf := { s1.gaf with active := none, resumeOk := false, ending := false, last := (k.num, if s.gaf.ending then 6 else 5) },
            mot := { s1.mot with flashing := false, armed := false, leadOver := false },
            link := { s1.link with halves := [none, none], serve := none } }

theorem State.ended_keeps (s : State) (k : Stripe) : Keeps s (s.ended k) [.regs, .gather, .gaf, .mot, .link] :=
  .then (.then (.mono (s.put_keeps _ _)) (State.modCtx_keeps _ _ _)) (keeps_gaf_mot_link _ _ _ _)

/-- What the end of a stripe brings about. -/
theorem State.stripeDone_spec (s : State) (k : Stripe) :
    (s.stripeDone k).gaf.active = none ∧ (s.stripeDone k).f MOT_STATUS.STATE = 0 ∧
    (s.stripeDone k).gaf.last = (k.num, if s.gaf.ending = true then 6 else 5) ∧
    (s.stripeDone k).mot.flashing = false ∧ (s.stripeDone k).link.serve = none ∧
    Keeps s (s.stripeDone k) [.regs, .gather, .gaf, .mot, .link, .clu, .ports, .out] := by
  have hp := (s.ended k).pulse_keeps 2
  have ht : Keeps ((s.ended k).pulse 2) (s.stripeDone k) [.clu, .ports, .out] := State.tellStripe_keeps _ _ _
  obtain ⟨l, hl⟩ := (s.ended k).pulse_gaf 2
  have hgaf : (s.stripeDone k).gaf = _ := (ht.2 .gaf (by decide)).trans hl
  have hmot : (s.stripeDone k).mot = (s.ended k).mot := (ht.2 .mot (by decide)).trans (hp.2 .mot (by decide))
  have hlink : (s.stripeDone k).link = (s.ended k).link := (ht.2 .link (by decide)).trans (hp.2 .link (by decide))
  have hstate : (s.stripeDone k).f MOT_STATUS.STATE = (s.ended k).f MOT_STATUS.STATE :=
    (ht.f_eq _).trans (State.pulse_f _ 2 (by decide) (by decide))
  refine ⟨?_, hstate.trans (s.f_put_same MOT_STATUS.STATE 0), ?_, ?_, ?_, (((s.ended_keeps k).mono).then hp).then ht⟩
  · rw [hgaf]
    rfl
  · rw [hgaf]
    rfl
  · rw [hmot]
    rfl
  · rw [hlink]
    rfl

/-! ### The commands of the phases -/

/-- STRIPE_ACTIVATE of a queued stripe where nothing holds it off: its profile decides. -/
theorem exec_stripeActivate_queued {s : State} {k : Stripe} (hq : s.gaf.queued = some k) (ha : s.gaf.active = none)
    (he : s.f MOT_CTL.ENABLE = 1) (hsafe : s.safeNow = false) (hx : s.exposes = true) :
    exec .stripeActivate s = .next (match s.profBad with
      | some i => s.jobFault k.ctx 0x0E20 false [a32 k.num, a8 i]
      | none => s.activate k) := by
  simp only [exec, execStripeActivate, hq, ha, State.on, he, hsafe, hx]
  cases s.profBad <;> rfl

theorem exec_stripeActivate_idle {s : State}
    (h : s.f MOT_CTL.ENABLE ≠ 1 ∨ s.gaf.queued = none ∨ s.gaf.active ≠ none ∨ s.exposes = false) :
    exec .stripeActivate s = .next s := by
  simp only [exec, execStripeActivate]
  split
  · next k hq ha =>
    refine if_pos ?_
    rcases h with he | hn | hn | hx
    · exact .inl (by simpa [State.on] using he)
    · exact nomatch hq.symm.trans hn
    · exact absurd ha hn
    · exact .inr (.inr hx)
  · rfl

theorem State.exposes_iff (s : State) :
    s.exposes = true ↔ s.f CLU_STATUS.STATE ≤ 1 ∨ (s.f CLU_STATUS.STATE = 4 ∧ ∀ r ∈ s.clu.members, r.state = 0) := by
  simp [State.exposes]

theorem exec_positioningDone (s : State) :
    exec .positioningDone s = .next (if s.f MOT_STATUS.STATE = 1 then s.put MOT_STATUS.STATE 2 else s) :=
  (apply_ite Host.Outcome.next _ _ _).symm

/-- One field set: the frame of the register file. -/
theorem State.put_keepsFields (s : State) (x : Fld) (v : Nat) : KeepsFields s (s.put x v) [x] :=
  fun _ h => s.f_put_other v (by simpa using h)

/-- RUN_IN_START with an ACTIVE stripe in its lead wait. -/
theorem exec_runInStart_waiting {s : State} {k : Stripe} (ha : s.gaf.active = some k) (hm : s.f MOT_STATUS.STATE = 2) :
    exec .runInStart s = .next (if (s.f MOT_LEAD_CFG.START : Int) ≤ s.lambda then
      { s.put MOT_STATUS.STATE 3 with mot := { s.mot.setPlan (s.stripePlan k) with leadOver := true } } else s) := by
  simp only [exec, execRunInStart, ha, hm, true_and]
  exact (apply_ite Host.Outcome.next _ _ _).symm

/-- The plan of a stripe begins now, at X_in. -/
theorem State.stripePlan_begins (s : State) (k : Stripe) :
    (s.stripePlan k).t0 = s.now100 ∧ (s.stripePlan k).x.p0 = s.xIn k s.mot.t0 := by
  refine ⟨rfl, ?_⟩
  simp only [State.stripePlan, Stripe.track]
  split <;> rfl

/-- RUNOUT_DONE with an ACTIVE stripe and no class 4 event. -/
theorem exec_runoutDone_active {s : State} {k : Stripe} (ha : s.gaf.active = some k) (hsafe : s.safeNow = false) :
    exec .runoutDone s =
      .next (if s.f MOT_STATUS.STATE = 5 ∨ s.gaf.ending = true then s.stripeDone k else s) := by
  simp only [exec, execRunoutDone, ha, hsafe, Bool.false_eq_true, not_false_eq_true, true_and]
  exact (apply_ite Host.Outcome.next _ _ _).symm

/-- A resumed stripe positions again, from its resume flash. -/
def State.repositioned (s : State) (k : Stripe) : State :=
  let s1 := ((s.put MOT_STATUS.STATE 1).put MOT_VPLAN.V s.mot.vc).put MOT_STATUS.PACED 0
  { s1 with mot := { s1.mot.setPlan (s1.positioning k s.mot.t0) with leadOver := false, armed := false } }

theorem State.repositioned_keeps (s : State) (k : Stripe) : Keeps s (s.repositioned k) [.regs, .mot] :=
  .then (.then (.then (.mono (s.put_keeps _ _)) (State.put_keeps _ _ _)) (State.put_keeps _ _ _)) (keeps_mot _ _)

theorem State.repositioned_f (s : State) (k : Stripe) :
    (s.repositioned k).f MOT_STATUS.STATE = 1 ∧ (s.repositioned k).f MOT_VPLAN.V = s.mot.vc % 2 ^ 32 ∧
    (s.repositioned k).f MOT_STATUS.PACED = 0 := by
  have hf (x : Fld) : (s.repositioned k).f x = (((s.put MOT_STATUS.STATE 1).put MOT_VPLAN.V s.mot.vc).put MOT_STATUS.PACED 0).f x := rfl
  simp (disch := decide) only [hf, State.f_put_same, State.f_put_other]
  exact ⟨rfl, rfl, rfl⟩

/-- REST_REACHED of an accepted resume. -/
theorem exec_restReached_resumed {s : State} {k : Stripe} (ha : s.gaf.active = some k) (hm : s.f MOT_STATUS.STATE = 6)
    (hr : s.gaf.resumeOk = true) (hh : s.f GAF_STATUS.HALTED ≠ 1) (hsafe : s.safeNow = false) :
    exec .restReached s = .next (if s.nf k ≤ s.mot.t0 then s.stripeDone k else (s.repositioned k).kickLehr) := by
  simp only [exec, execRestReached, ha, hm, hr, hsafe, State.on, hh]
  exact (apply_ite Host.Outcome.next _ _ _).symm

theorem exec_restReached_idle {s : State} (hr : s.gaf.resumeOk = false) : exec .restReached s = .next s := by
  simp only [exec, execRestReached]
  split
  · exact if_neg (by simp [hr])
  · rfl

/-! ### The statement -/

/-- Settles O46: each clause is the command's equation with the fields and the frame of the state that it names. -/
theorem stripePhases : Obligations.StripePhases := by
  refine ⟨fun s k hq ha he hsafe hx => ⟨fun hb => ?_, fun i x hb ho hc hh => ?_⟩, fun s h => exec_stripeActivate_idle h,
    State.exposes_iff, fun s => ⟨fun h => ?_, fun h => ?_⟩, fun s k ha hm => ⟨fun h => ?_, fun h => ?_⟩,
    fun s k ha hsafe => ⟨fun h => ?_, fun h5 he => ?_⟩, fun s k ha hm hr hh hsafe => ⟨fun h => ?_, fun h => ?_⟩,
    fun s => exec_restReached_idle⟩
  · obtain ⟨hgaf, hmot, hf, hkeeps⟩ := s.activate_spec k
    obtain ⟨hstate, hv, hcapped, hpaced, hdir⟩ := s.activatedRegs_f k
    obtain ⟨ht0, hx0, hy0⟩ := s.activate_plan k
    refine ⟨_, exec_stripeActivate_queued hq ha he hsafe hx, ?_⟩
    rw [hb]
    refine ⟨?_, ?_, (hf _).trans hstate, (hf _).trans hv, (hf _).trans hcapped, (hf _).trans hpaced, ?_, ?_, ?_, ?_, ht0, hx0, hy0,
      (hf _).trans hdir, hkeeps⟩
    · rw [hgaf]
      rfl
    · rw [hgaf]
      rfl
    all_goals
      rw [hmot]
      rfl
  · obtain ⟨hhalt, hmot, hactive, hqueued⟩ := State.jobFault_profileInvalid ho hc hh [a32 k.num, a8 i]
    refine ⟨_, exec_stripeActivate_queued hq ha he hsafe hx, ?_⟩
    rw [hb]
    exact ⟨hactive.trans ha, by simp [hqueued, hq], hhalt, hmot⟩
  · refine ⟨_, exec_positioningDone s, ?_⟩
    rw [if_pos h]
    exact ⟨s.f_put_same _ 2, s.put_keeps _ 2, s.put_keepsFields _ 2⟩
  · rw [exec_positioningDone, if_neg h]
  · refine ⟨_, exec_runInStart_waiting ha hm, ?_⟩
    rw [if_pos h]
    obtain ⟨ht0, hp0⟩ := s.stripePlan_begins k
    exact ⟨s.f_put_same MOT_STATUS.STATE 3, rfl, ht0, hp0, rfl, .then (.mono (s.put_keeps _ 3)) (keeps_mot _ _), s.put_keepsFields _ 3⟩
  · rw [exec_runInStart_waiting ha hm, if_neg (by omega)]
  · refine ⟨_, exec_runoutDone_active ha hsafe, ?_⟩
    rw [if_pos h]
    exact s.stripeDone_spec k
  · rw [exec_runoutDone_active ha hsafe, if_neg (by simp [h5, he])]
  · refine ⟨_, exec_restReached_resumed ha hm hr hh hsafe, ?_⟩
    rw [if_pos h]
    obtain ⟨hactive, hstate, hlast, -, -, hkeeps⟩ := s.stripeDone_spec k
    exact ⟨hactive, hstate, hlast, hkeeps⟩
  · refine ⟨_, exec_restReached_resumed ha hm hr hh hsafe, ?_⟩
    rw [if_neg (by omega)]
    have hl := (s.repositioned k).kickLehr_keeps
    have hmot : (s.repositioned k).kickLehr.mot = (s.repositioned k).mot := hl.2 .mot (by decide)
    obtain ⟨hstate, hv, hpaced⟩ := s.repositioned_f k
    refine ⟨(hl.f_eq _).trans hstate, (hl.f_eq _).trans hv, (hl.f_eq _).trans hpaced, ?_, ?_, ?_, hl.2 .gaf (by decide),
      ((s.repositioned_keeps k).mono).then hl⟩
    all_goals
      rw [hmot]
      rfl

end Sys2Proof.Machine

/-! # What a thread's instruction leaves behind

A result and the next PC of a thread that issues an instruction, for the statements about Gaffer's commands. -/

namespace Sys2Proof.Machine

open Sys2Proof

set_option Elab.async false

/-- A thread that issues an instruction is one of Gaffer's. -/
theorem Issues.lt_length {s : State} {t : Fin 4} {i : Triso} (h : Issues s t i) : t.val < s.gaf.threads.length := by
  obtain ⟨hrun, -⟩ := h
  by_contra hlt
  rw [State.thread, List.getD_eq_default _ _ (Nat.le_of_not_lt hlt)] at hrun
  exact Bool.noConfusion hrun

/-- A thread short of the last PC goes on. -/
theorem State.nextPc_eq {s : State} {t : Nat} (hp : (s.thread t).pc ≠ 32767) :
    s.nextPc t = s.modThread t (fun h => { h with pc := h.pc + 1, wait := .none }) := if_neg hp

theorem Thread.setReg_pc (h : Thread) (r : Nat) (v : Word) : (h.setReg r v).pc = h.pc := by
  unfold Thread.setReg
  split <;> rfl

/-- A result of a thread short of the last PC: D, G0 excepted, and the PC. -/
theorem State.threadDone_eq {s : State} {t : Nat} (d : Nat) (v : Word) (ht : t < s.gaf.threads.length) (hp : (s.thread t).pc ≠ 32767) :
    s.threadDone t d v =
      s.modThread t (fun h => { h with g := if d = 0 then h.g else h.g.set d v, pc := h.pc + 1, wait := .none }) := by
  have hpc : ((s.setG t d v).thread t).pc ≠ 32767 := by
    rwa [State.setG, State.thread_modThread _ _ _ ht, Thread.setReg_pc]
  rw [State.threadDone, State.nextPc_eq hpc, State.setG, State.modThread_modThread]
  congr 1
  funext h
  unfold Thread.setReg
  split <;> rfl

/-- The same of an instruction that the thread issues. -/
theorem State.result_wrote {s : State} {t : Fin 4} {i : Triso} (v : Word) (ht : t.val < s.gaf.threads.length)
    (hp : (s.thread t).pc ≠ 32767) : s.result t i v = wrote s t i.d v := by
  have h0 : (i.d.toNat = 0) = (i.d = 0) := by rw [← BitVec.toNat_inj]; rfl
  simp only [State.result, State.threadDone_eq _ _ ht hp, wrote, h0]

/-- The same behind an update that leaves Gaffer as it is. -/
theorem State.result_of_issues {s u : State} {t : Fin 4} {i : Triso} (v : Word) (hi : Issues s t i) (hp : (s.thread t).pc ≠ 32767)
    (hgaf : u.gaf = s.gaf) : u.result t i v = wrote u t i.d v := by
  have hthread : u.thread t = s.thread t := by rw [State.thread, hgaf]; rfl
  exact State.result_wrote v (hgaf ▸ hi.lt_length) (hthread ▸ hp)

end Sys2Proof.Machine

/-! # Writes that wait at the configuration root (O16) -/

namespace Sys2Proof.Machine

open Sys2Proof

set_option Elab.async false

theorem keeps_root (s : State) (r : Root) : Keeps s { s with root := r } [.root] :=
  .of_same rfl fun p => by cases p <;> simp [Part.same]

/-! ### The broadcast of a shadow write (R28) -/

/-- The SH fields of a register take their bits of a value. -/
def State.putShadows (s : State) (v : Nat) (l : List (Fld × FType)) : State :=
  l.foldl (fun t e => if e.2 = .sh then t.put e.1 (bits v e.1.lo e.1.w) else t) s

theorem State.broadcast_eq {s : State} {w : RootWrite} {n : Nat} {l : List (Fld × FType)} (h : regAt w.addr = some (n, l)) :
    s.broadcast w = s.putShadows w.val.toNat l := by
  simp only [State.broadcast, h]
  rfl

theorem State.putShadows_keeps (s : State) (v : Nat) (l : List (Fld × FType)) : Keeps s (s.putShadows v l) [.regs] :=
  Keeps.foldl (fun t _ => .ite _ (t.put_keeps _ _) (.refl t _)) l s

theorem State.broadcast_keeps (s : State) (w : RootWrite) : Keeps s (s.broadcast w) [.regs] := by
  unfold State.broadcast
  split
  · exact State.putShadows_keeps s _ _
  · exact .refl s _

/-- A field that is none of the register's SH fields keeps its value. -/
theorem State.putShadows_f_other (s : State) (v : Nat) (l : List (Fld × FType)) {x : Fld}
    (h : ∀ e ∈ l, e.2 = .sh → x.key ≠ e.1.key) : (s.putShadows v l).f x = s.f x := by
  induction l generalizing s with
  | nil => rfl
  | cons e l ih =>
    rw [State.putShadows, List.foldl_cons]
    refine (ih _ fun d hd => h d (List.mem_cons_of_mem _ hd)).trans ?_
    split
    · next he => exact s.f_put_other _ (h e List.mem_cons_self he)
    · rfl

/-- An SH field takes its bits, where the register lists each field once. -/
theorem State.putShadows_f_sh (s : State) (v : Nat) {l : List (Fld × FType)} (hn : (l.map (fun e => e.1.key)).Nodup) :
    ∀ e ∈ l, e.2 = .sh → (s.putShadows v l).f e.1 = bits v e.1.lo e.1.w := by
  induction l generalizing s with
  | nil => exact fun _ h => nomatch h
  | cons d l ih =>
    rw [List.map_cons, List.nodup_cons] at hn
    obtain ⟨hd, hn⟩ := hn
    intro e he hsh
    rcases List.mem_cons.mp he with rfl | he
    · have hother : ∀ c ∈ l, c.2 = .sh → e.1.key ≠ c.1.key := fun c hc _ hk => hd (hk ▸ List.mem_map_of_mem hc)
      rw [State.putShadows, List.foldl_cons, if_pos hsh]
      exact (State.putShadows_f_other _ v l hother).trans ((s.f_put_same _ _).trans (Nat.mod_mod _ _))
    · exact ih _ hn e he hsh

/-- CONFIG_BROADCAST of a write that the root has held for its 16 ticks. -/
theorem exec_configBroadcast_due {s : State} {w : RootWrite} {r : List RootWrite} (hq : s.root.queue = w :: r)
    (hw : w.tick + 16 < s.tick) :
    exec .configBroadcast s = .next ({ s with root := { s.root with queue := r } }.broadcast w) := by
  simp only [exec, execConfigBroadcast, hq]
  exact if_pos hw

theorem exec_configBroadcast_young {s : State} {w : RootWrite} {r : List RootWrite} (hq : s.root.queue = w :: r)
    (hw : s.tick ≤ w.tick + 16) : exec .configBroadcast s = .next s := by
  simp only [exec, execConfigBroadcast, hq]
  exact if_neg (Nat.not_lt.mpr hw)

theorem exec_configBroadcast_empty {s : State} (hq : s.root.queue = []) : exec .configBroadcast s = .next s := by
  simp only [exec, execConfigBroadcast, hq]

/-! ### A write lands at the root -/

/-- GLY_NORM is an SH register that no operation of its own answers: its write lands at the root. -/
theorem exec_shRegisterWrite_glyNorm (s : State) (m : Fin 8) (v : Word) :
    exec (.shRegisterWrite m GLY_NORM.off 4 v) s = .next (s.landWrite GLY_NORM.off (v.toNat % 2 ^ 32)) := by
  have hsh : isShReg GLY_NORM.off = true := by decide +kernel
  have hacc : accessOk GLY_NORM.off 4 = true := by decide
  simp only [exec, execShRegisterWrite, hacc, if_true, hsh, Bool.true_or, State.busWrite]
  rfl

/-- Writes that land at the root one after the other stand there in that order. -/
theorem State.foldl_landWrite {α : Type} (f g : α → Nat) (l : List α) (s : State) :
    (l.foldl (fun (u : State) x => u.landWrite (f x) (g x)) s) = { s with root := { s.root with
      queue := s.root.queue ++ l.map (fun x => RootWrite.mk s.tick (f x) (BitVec.ofNat 64 (g x))) } } := by
  induction l generalizing s with
  | nil => simp
  | cons x l ih =>
    rw [List.foldl_cons, ih]
    simp [State.landWrite]

/-- What a SELCAL list puts at the root: entry 0, then its sets. -/
def State.listWrites (s : State) (e : Nat) (l : List Nat) : List RootWrite :=
  { tick := s.tick, addr := BMP_SEL.off, val := BitVec.ofNat 64 (e % 2 ^ 32) } ::
    l.zipIdx.map (fun x => { tick := s.tick, addr := BMP_SET.off x.2, val := BitVec.ofNat 64 (x.1 % 2 ^ 32) })

theorem State.landList_eq (s : State) (e : Nat) (l : List Nat) :
    s.landList (e :: l) = { s with root := { s.root with queue := s.root.queue ++ s.listWrites e l } } := by
  rw [State.landList, State.foldl_landWrite]
  simp [State.landWrite, State.listWrites]

/-- With no write of the thread outstanding there is nothing to drain. -/
theorem State.drainPosts_none {s : State} {t : Nat} (h : ∀ e ∈ s.later, e.2.postOf t = false) : s.drainPosts t = s := by
  have hnone : s.later.filter (fun e => e.2.postOf t) = [] := List.filter_eq_nil_iff.mpr fun e he => by simp [h e he]
  have hall : s.later.filter (fun e => !e.2.postOf t) = s.later := List.filter_eq_self.mpr fun e he => by simp [h e he]
  rw [State.drainPosts, hnone, hall]
  rfl

/-- The address of a structure that lies in the data memory. -/
theorem State.dataBlock_eq {s : State} {t : Fin 4} {i : Triso} {n a : Nat} (ha : (gpr s t i.a + i.imm.signExtend 64).toNat = a)
    (h8 : a % 8 = 0) (hn : a + n ≤ 65536) : s.dataBlock t i n = some a := by
  subst ha
  rw [← State.reg_eq_gpr] at h8 hn ⊢
  exact if_pos ⟨h8, hn⟩

/-- SELCAL of a list that lies in the data memory and reads without error. -/
theorem exec_selcal_list {s : State} {t : Fin 4} {i : Triso} {a e : Nat} {l : List Nat} (hi : Issues s t i) (hop : i.op = .selcal)
    (hp : (s.thread t).pc ≠ 32767) (hl : ∀ e ∈ s.later, e.2.postOf t = false)
    (ha : (gpr s t i.a + i.imm.signExtend 64).toNat = a) (h8 : a % 8 = 0) (hn : a + 8 + 8 * listSets e ≤ 65536)
    (he : s.readWord 15 a = (some e, s)) (hlist : s.dmemList (a + 8) (listSets e) = (some l, s)) :
    exec (.selcal t) s = .next (((s.landList (e :: l)).markWrite t).modThread t (fun h => { h with pc := h.pc + 1, wait := .none })) := by
  obtain ⟨hrun, -⟩ := id hi
  have hthread : ((s.landList (e :: l)).markWrite t).thread t = s.thread t := by rw [State.landList_eq]; rfl
  simp only [exec, execSelcal]
  rw [State.issue_of_issues hi hop]
  simp only [State.dataBlock_eq ha h8 (show a + 8 ≤ 65536 by omega), he, hlist, State.drainPosts_none hl, hrun, if_neg (Nat.not_lt.mpr hn),
    Bool.true_eq_false, if_false, State.nextPc_eq (hthread ▸ hp)]

/-- Settles O16. -/
theorem rootQueue : Obligations.RootQueue := by
  refine ⟨⟨fun s w r => exec_configBroadcast_young, fun s w r n l hq hw hreg hn _ => ?_, fun s => exec_configBroadcast_empty⟩, fun s m v => ?_,
    fun s t i a e l hi hop hp hlater ha h8 hn he hlist => ?_⟩
  · refine ⟨_, exec_configBroadcast_due hq hw, ?_⟩
    rw [State.broadcast_eq hreg]
    have hk := State.putShadows_keeps { s with root := { s.root with queue := r } } w.val.toNat l
    refine ⟨hk.2 .root (by decide), State.putShadows_f_sh _ _ hn, fun x hx => ?_, (keeps_root s _).mono.then hk⟩
    refine State.putShadows_f_other _ _ l fun e he hsh hkey => hx ?_
    simp only [List.map_map, List.mem_map, List.mem_filter, decide_eq_true_eq]
    exact ⟨e, ⟨he, hsh⟩, hkey.symm⟩
  · exact ⟨_, exec_shRegisterWrite_glyNorm s m v, rfl, rfl, rfl, rfl, keeps_root s _⟩
  · refine ⟨_, exec_selcal_list hi hop hp hlater ha h8 hn he hlist, ?_⟩
    rw [State.landList_eq]
    exact ⟨rfl, rfl, rfl, (keeps_root s _).mono.then (keeps_gaf _ _)⟩

end Sys2Proof.Machine

/-! # Frames of the register file, and of the fill that a commit starts -/

namespace Sys2Proof.Machine

open Sys2Proof

set_option Elab.async false

/-! ### Frames of the register file -/

theorem KeepsFields.refl (s : State) (l : List Fld) : KeepsFields s s l := fun _ _ => rfl

theorem KeepsFields.of_regs {s t : State} (h : t.regs = s.regs) (l : List Fld) : KeepsFields s t l :=
  fun x _ => by simp only [State.f, h]

theorem KeepsFields.then {s t u : State} {l m : List Fld} (h : KeepsFields s t l) (g : KeepsFields t u m) (hm : m ⊆ l := by decide) :
    KeepsFields s u l :=
  fun x hx => (g x fun hk => hx (List.map_subset _ hm hk)).trans (h x hx)

theorem KeepsFields.mono {s t : State} {l m : List Fld} (h : KeepsFields s t l) (hl : l ⊆ m := by decide) : KeepsFields s t m :=
  fun x hx => h x fun hk => hx (List.map_subset _ hl hk)

theorem KeepsFields.ite {s t u : State} {l : List Fld} (p : Prop) [Decidable p] (h : KeepsFields s t l) (g : KeepsFields s u l) :
    KeepsFields s (if p then t else u) l := by
  split
  · exact h
  · exact g

theorem State.event_keepsFields (s : State) (code cls : Nat) (args : List Arg) :
    KeepsFields s (s.event code cls args) [EVJ_SEQ.SEQ (code / 256)] :=
  s.put_keepsFields _ _

theorem State.event_keeps (s : State) (code cls : Nat) (args : List Arg) : Keeps s (s.event code cls args) [.regs, .journal] :=
  s.journalEvent_keeps code cls false args

theorem keeps_beam (s : State) (b : Beam) : Keeps s { s with beam := b } [.beam] :=
  .of_same rfl fun p => by cases p <;> simp [Part.same]

theorem State.modThread_keeps (s : State) (t : Nat) (f : Thread → Thread) : Keeps s (s.modThread t f) [.gaf] := keeps_gaf s _

/-- A triple's copies are memory's. -/
theorem Keeps.tripleHeld_eq {s t : State} {l : List Part} (h : Keeps s t l) (i : Nat) (hl : Part.mem ∉ l := by decide) :
    t.tripleHeld i = s.tripleHeld i := by
  have hm : t.mem = s.mem := h.2 .mem hl
  simp only [State.tripleHeld, hm]

/-! ### The fill that a commit starts (R154 to R156) -/

/-- The fields that the start of a fill may change. -/
def fillFields : List Fld :=
  [EVJ_SEQ.SEQ 0x0A, BMP_STATUS.TEMP_STALE, BMP_STATUS.TEMP_RANGE, BMP_GEN_TEMP.T, BMP_GEN_TEMP.F, BMP_GEN_SETS.K, BMP_GEN_SETS.SLOT_LO,
    BMP_GEN_SETS.SLOT_HI, BMP_GEN_SETS.MAP_BANK, BMP_STATUS.FILL_BUSY, BMP_STATUS.FILL_ERR, BMP_CHECK_RESULT.DONE]

/-- What the start of a fill leaves unchanged. -/
theorem State.startFill_frame (s : State) (gen : Nat) :
    Keeps s (s.startFill gen) [.regs, .journal, .beam] ∧ KeepsFields s (s.startFill gen) fillFields := by
  unfold State.startFill
  extract_lets rd n t0 age t stale s1 bad out s2 kf lo hi s3 s4
  have h1 : Keeps s s1 [.regs, .journal] ∧ KeepsFields s s1 fillFields :=
    ⟨.ite _ ((s.flag_keeps _).mono.then (State.event_keeps _ _ _ _)) (.refl s _),
     .ite _ (.then (s.put_keepsFields _ 1).mono (State.event_keepsFields _ _ _ _)) (.refl s _)⟩
  have h2 : Keeps s s2 [.regs, .journal] ∧ KeepsFields s s2 fillFields :=
    ⟨.ite _ (.then (h1.1.then (State.flag_keeps _ _)) (State.event_keeps _ _ _ _)) h1.1,
     .ite _ (.then (h1.2.then (State.put_keepsFields _ _ 1)) (State.event_keepsFields _ _ _ _)) h1.2⟩
  have h3 : Keeps s s3 [.regs, .journal] ∧ KeepsFields s s3 fillFields :=
    ⟨(((((h2.1.then (State.put_keeps _ _ _)).then (State.put_keeps _ _ _)).then (State.put_keeps _ _ _)).then
      (State.put_keeps _ _ _)).then (State.put_keeps _ _ _)).then (State.put_keeps _ _ _),
     (((((h2.2.then (State.put_keepsFields _ _ _)).then (State.put_keepsFields _ _ _)).then (State.put_keepsFields _ _ _)).then
      (State.put_keepsFields _ _ _)).then (State.put_keepsFields _ _ _)).then (State.put_keepsFields _ _ _)⟩
  have h4 : Keeps s s4 [.regs, .journal] ∧ KeepsFields s s4 fillFields :=
    ⟨((h3.1.then (State.put_keeps _ _ _)).then (State.put_keeps _ _ _)).then (State.put_keeps _ _ _),
     ((h3.2.then (State.put_keepsFields _ _ _)).then (State.put_keepsFields _ _ _)).then (State.put_keepsFields _ _ _)⟩
  exact ⟨h4.1.mono.then (keeps_beam _ _), h4.2.then (.of_regs rfl [])⟩

end Sys2Proof.Machine

/-! # Commits, generation copies and bank switches (O17) -/

namespace Sys2Proof.Machine

open Sys2Proof

set_option Elab.async false

/-! ### Fields that no broadcast reaches -/

/-- What a register is found at lies in the register map. -/
theorem regAt_mem {a n : Nat} {l : List (Fld × FType)} (h : regAt a = some (n, l)) :
    ∃ r ∈ regTable, ∃ i < r.n1, ∃ j < r.n2, l = r.fields i j := by
  obtain ⟨r, hr, hmap⟩ := List.exists_of_findSome?_eq_some h
  obtain ⟨⟨i, j⟩, hij, he⟩ := Option.map_eq_some_iff.mp hmap
  obtain ⟨j', hj, hfound⟩ := List.exists_of_findSome?_eq_some hij
  simp only [Option.ite_none_right_eq_some, Option.some.injEq, Prod.mk.injEq] at hfound
  obtain ⟨⟨-, -, hi⟩, rfl, rfl⟩ := hfound
  exact ⟨r, hr, _, hi, j', List.mem_range.mp hj, (Prod.mk.inj he).2.symm⟩

/-- Whether no SH field of the register map has a field's key. -/
def neverSh (x : Fld) : Bool :=
  regTable.all fun r => (List.range r.n1).all fun i => (List.range r.n2).all fun j => (r.fields i j).all fun e =>
    !(decide (e.2 = .sh) && decide (e.1.key = x.key))

theorem ne_key_of_neverSh {x : Fld} (hx : neverSh x = true) {a n : Nat} {l : List (Fld × FType)} (h : regAt a = some (n, l)) :
    ∀ e ∈ l, e.2 = .sh → x.key ≠ e.1.key := by
  obtain ⟨r, hr, i, hi, j, hj, rfl⟩ := regAt_mem h
  intro e he hsh hkey
  simp only [neverSh, List.all_eq_true, List.mem_range] at hx
  simpa [hsh, hkey] using hx r hr i hi j hj e he

/-- A broadcast leaves a field that is never an SH field. -/
theorem State.broadcast_f_other {x : Fld} (hx : neverSh x = true) (s : State) (w : RootWrite) : (s.broadcast w).f x = s.f x := by
  cases h : regAt w.addr with
  | none => simp only [State.broadcast, h]
  | some p =>
    obtain ⟨n, l⟩ := p
    rw [State.broadcast_eq h]
    exact State.putShadows_f_other s _ l (ne_key_of_neverSh hx h)

theorem neverSh_committed : neverSh GAF_GEN.COMMITTED = true := by decide +kernel

/-! ### The copy of a commit (R29, R292) -/

theorem mget_filter {α : Type} (p : Nat → Bool) (m : Map α) {k : Nat} (hk : p k = true) :
    mget (m.filter (fun e => p e.1)) k = mget m k := by
  induction m with
  | nil => rfl
  | cons e m ih =>
    obtain ⟨a, v⟩ := e
    by_cases ha : a = k
    · simp [mget, ha, hk]
    · cases hp : p a <;> simp [mget, ha, hp, ih]

theorem State.commitReady_iff (s : State) (c : CommitReq) :
    s.commitReady c = true ↔ s.root.banks.all (fun b => decide (b.gen = s.root.staged.gen)) = true ∧ s.f GAF_STATUS.HALTED ≠ 1 ∧
      s.gaf.resumeOk = false ∧ (∀ e ∈ s.later, e.2.postOf c.thread = false) ∧ c.lastTick + 17 ≤ s.tick := by
  simp [State.commitReady, State.allEntered, State.on, and_assoc]

/-- The writes that a copy broadcasts, and those that are late. -/
def State.dueWrites (s : State) : List RootWrite := s.root.queue.filter (fun w => decide (w.tick + 17 ≤ s.tick))
def State.lateWrites (s : State) : List RootWrite := s.root.queue.filter (fun w => !decide (w.tick + 17 ≤ s.tick))

/-- The generation that a copy makes; while triple 54 is held it makes none (R418). -/
def State.copiedGen (s : State) : Nat := if s.tripleHeld 54 then s.root.staged.gen else (s.root.staged.gen + 1) % 2 ^ 32

/-- The shadows at a copy. -/
def State.copyShadows (s : State) : State := s.dueWrites.foldl State.broadcast s

/-- The root after a copy. -/
def State.copiedRoot (s : State) : Root :=
  { s.root with
    queue := s.lateWrites, staged := { gen := s.copiedGen, vals := s.copyShadows.regs.filter (fun (e : Nat × Nat) => isShKey e.1) } }

theorem State.copyShadows_keeps (s : State) : Keeps s s.copyShadows [.regs] :=
  Keeps.foldl State.broadcast_keeps _ s

theorem State.copyShadows_f_other {x : Fld} (hx : neverSh x = true) (s : State) : s.copyShadows.f x = s.f x := by
  unfold State.copyShadows
  generalize s.dueWrites = l
  induction l generalizing s with
  | nil => rfl
  | cons w l ih => exact (ih _).trans (s.broadcast_f_other hx w)

/-- What a copy changes beside the root: COMMITTED, the shadows, and what the fill and a late write report. -/
theorem State.copyGeneration_spec (s : State) :
    s.copyGeneration.root = s.copiedRoot ∧
    s.copyGeneration.f GAF_GEN.COMMITTED =
      (if s.tripleHeld 54 then s.f GAF_GEN.COMMITTED else (s.root.staged.gen + 1) % 2 ^ 32) ∧
    Keeps s s.copyGeneration [.regs, .root, .journal, .beam] := by
  unfold State.copyGeneration
  extract_lets late s1 gen src s2 s3 s4
  have hs1 : s1 = s.copyShadows := rfl
  have hroot1 : s1.root = s.root := s.copyShadows_keeps.2 .root (by decide)
  have hkeep2 : Keeps s s2 [.regs, .root] := s.copyShadows_keeps.mono.then (keeps_root _ _)
  have hroot2 : s2.root = s.copiedRoot := by
    simp only [s2, src, hs1]
    rw [← hs1, hroot1]
    rfl
  have hheld : s2.tripleHeld 54 = s.tripleHeld 54 := hkeep2.tripleHeld_eq 54
  have hkeep3 : Keeps s2 s3 [.regs] := s2.putOwned_frame _ _ _
  have h4 : Keeps s3 s4 [.regs, .journal] ∧
      KeepsFields s3 s4 [GAF_STATUS.LATE_WRITE, GAF_CNT_LATE.COUNT, EVJ_SEQ.SEQ 0x0F] :=
    ⟨.ite _ (.refl _ _) (.then ((State.flag_keeps _ _).mono.then (State.count_keeps _ _ _)) (State.event_keeps _ _ _ _)),
     .ite _ (.refl _ _) (.then ((State.put_keepsFields _ _ 1).mono.then (State.put_keepsFields _ _ _)) (State.event_keepsFields _ _ _ _))⟩
  obtain ⟨h5, hf5⟩ := s4.startFill_frame gen
  refine ⟨?_, ?_, ((hkeep2.mono.then hkeep3).then h4.1).then h5⟩
  · exact (h5.2 .root (by decide)).trans ((h4.1.2 .root (by decide)).trans ((hkeep3.2 .root (by decide)).trans hroot2))
  · refine (hf5 _ (by decide)).trans ((h4.2 _ (by decide)).trans ?_)
    by_cases hh : s.tripleHeld 54 = true
    · rw [if_pos hh]
      simp only [s3, s2.putOwned_held _ _ (hheld.trans hh)]
      exact s.copyShadows_f_other neverSh_committed
    · rw [if_neg hh]
      have hfree := Bool.eq_false_iff.mpr hh
      simp only [s3, s2.putOwned_free _ _ (hheld.trans hfree), gen, if_neg hh, State.f_put_same]
      exact Nat.mod_mod _ _

/-- Where no write waits, the staged bank takes the shadows as they stand. -/
theorem State.copiedRoot_stg {s : State} (hq : s.root.queue = []) {x : Fld} (hx : isShKey x.key = true) :
    (mget s.copiedRoot.staged.vals x.key).getD x.reset = s.f x := by
  have hdue : s.dueWrites = [] := by simp [State.dueWrites, hq]
  simp only [State.copiedRoot, State.copyShadows, hdue, List.foldl_nil]
  rw [mget_filter isShKey s.regs hx]
  rfl

/-! ### A thread after a pulse -/

theorem bit_eq_testBit (v n : Nat) : bit v n = v.testBit n := (Nat.testBit_eq_decide_div_mod_eq).symm

theorem bit_setBit_same (v n : Nat) : bit (setBit v n) n = true := by
  unfold setBit
  split
  · next h => exact h
  · next h =>
    rw [bit_eq_testBit] at h ⊢
    rw [Nat.add_comm, Nat.testBit_two_pow_add_eq, Bool.eq_false_iff.mpr h]
    rfl

/-- A pulse changes the pending registers, and of Gaffer nothing else. -/
theorem State.pulse_gaf_eq (s : State) (line : Nat) : (s.pulse line).gaf = { s.gaf with
    threads := s.gaf.threads.map fun t => { t with pend := BitVec.ofNat 64 (setBit t.pend.toNat line) } } := by
  simp only [State.pulse]
  split <;> rfl

theorem State.pulse_threads_length (s : State) (line : Nat) : (s.pulse line).gaf.threads.length = s.gaf.threads.length := by
  simp [State.pulse_gaf_eq]

theorem State.thread_pulse {s : State} {t : Nat} (line : Nat) (ht : t < s.gaf.threads.length) :
    (s.pulse line).thread t = { s.thread t with pend := BitVec.ofNat 64 (setBit (s.thread t).pend.toNat line) } := by
  simp [State.thread, State.pulse_gaf_eq, List.getD_eq_getElem?_getD, List.getElem?_eq_getElem ht]

/-- A pulsed line is pending in each thread. -/
theorem State.pulse_pend {s : State} {t line : Nat} (ht : t < s.gaf.threads.length) (hl : line < 64) :
    bit ((s.pulse line).thread t).pend.toNat line = true := by
  rw [State.thread_pulse line ht, bit_eq_testBit, BitVec.toNat_ofNat, Nat.testBit_mod_two_pow, ← bit_eq_testBit, bit_setBit_same]
  simpa using hl

theorem State.thread_modThread_other (s : State) {t u : Nat} (f : Thread → Thread) (h : u ≠ t) :
    (s.modThread t f).thread u = s.thread u := by
  simp only [State.thread, State.modThread, lmod]
  split
  · simp [List.getD_eq_getElem?_getD, List.getElem?_set_ne h.symm]
  · rfl

/-! ### COMMIT and GENERATION_COPY -/

theorem exec_commit {s : State} {t : Fin 4} {i : Triso} (hi : Issues s t i) (hop : i.op = .commit) :
    exec (.commit t) s = .next { s.modThread t (fun h => { h with wait := .commit }) with
      root := { s.root with commits := s.root.commits ++ [{ thread := t, lastTick := s.root.threadTick.getD t 0, dst := i.d.toNat }] } } :=
  State.issue_of_issues hi hop _

theorem exec_generationCopy_wait {s : State} {c : CommitReq} {r : List CommitReq} (hc : s.root.commits = c :: r)
    (h : ¬ s.commitReady c = true) : exec .generationCopy s = .next s := by
  simp only [exec, execGenerationCopy, hc]
  exact if_neg h

/-- The root gives its oldest commit a tick: the others wait on. -/
def State.given (s : State) (r : List CommitReq) : State := { s with root := { s.root with commits := r } }

/-- The commit tick: the copy, its pulse, and the thread that goes on with the generation. -/
def State.committed (s : State) (c : CommitReq) (r : List CommitReq) : State :=
  ((s.given r).copyGeneration.pulse 4).modThread c.thread (fun h => { h with
    g := if c.dst = 0 then h.g else h.g.set c.dst (BitVec.ofNat 64 s.copiedGen), pc := h.pc + 1, wait := .none })

section
variable {s : State} {c : CommitReq} {r : List CommitReq}

theorem State.given_copy_gaf : (s.given r).copyGeneration.gaf = s.gaf := by
  obtain ⟨-, -, hk⟩ := (s.given r).copyGeneration_spec
  exact hk.2 .gaf (by decide)

theorem exec_generationCopy_ready (hc : s.root.commits = c :: r) (h : s.commitReady c = true) (hp : (s.thread c.thread).pc ≠ 32767)
    (hl : c.thread < s.gaf.threads.length) : exec .generationCopy s = .next (s.committed c r) := by
  obtain ⟨hroot, -, -⟩ := (s.given r).copyGeneration_spec
  have hgaf : (s.given r).copyGeneration.gaf = s.gaf := State.given_copy_gaf
  have hthread : (s.given r).copyGeneration.thread c.thread = s.thread c.thread := by rw [State.thread, hgaf]; rfl
  have hlen : c.thread < (s.given r).copyGeneration.gaf.threads.length := hgaf.symm ▸ hl
  have hgen : (s.given r).copyGeneration.root.staged.gen = s.copiedGen := by rw [hroot]; rfl
  have hexec : exec .generationCopy s = .next (((s.given r).copyGeneration.pulse 4).threadDone c.thread c.dst
      (BitVec.ofNat 64 (s.given r).copyGeneration.root.staged.gen)) := by
    simp only [exec, execGenerationCopy, hc, h, if_true]
    rfl
  rw [hexec, hgen, State.threadDone_eq]
  · rfl
  · rwa [State.pulse_threads_length]
  · rwa [State.thread_pulse 4 hlen, hthread]

/-- What a commit tick does to the root, and its frame. -/
theorem State.committed_spec :
    (s.committed c r).root = (s.given r).copiedRoot ∧
    (s.committed c r).f GAF_GEN.COMMITTED =
      (if s.tripleHeld 54 then s.f GAF_GEN.COMMITTED else (s.root.staged.gen + 1) % 2 ^ 32) ∧
    Keeps s (s.committed c r) [.regs, .root, .journal, .beam, .gaf] := by
  obtain ⟨hroot, hf, hk⟩ := (s.given r).copyGeneration_spec
  have hp := (s.given r).copyGeneration.pulse_keeps 4
  have hm : Keeps _ (s.committed c r) [.gaf] := State.modThread_keeps _ _ _
  refine ⟨?_, ?_, (((keeps_root s _).mono.then hk).then hp).then hm⟩
  · exact (hm.2 .root (by decide)).trans ((hp.2 .root (by decide)).trans hroot)
  · exact (hm.f_eq _).trans ((State.pulse_f _ 4 (by decide) (by decide)).trans hf)

/-- The threads at a commit tick: line 4 is pending in each, and the one that committed goes on. -/
theorem State.committed_thread (hl : c.thread < s.gaf.threads.length) :
    ((s.committed c r).thread c.thread).pc = (s.thread c.thread).pc + 1 ∧ ((s.committed c r).thread c.thread).wait = .none ∧
    ((s.committed c r).thread c.thread).g =
      (if c.dst = 0 then (s.thread c.thread).g else (s.thread c.thread).g.set c.dst (BitVec.ofNat 64 s.copiedGen)) ∧
    ∀ n, n < s.gaf.threads.length → bit ((s.committed c r).thread n).pend.toNat 4 = true := by
  have hgaf : (s.given r).copyGeneration.gaf = s.gaf := State.given_copy_gaf
  have hthread (n : Nat) : (s.given r).copyGeneration.thread n = s.thread n := by rw [State.thread, hgaf]; rfl
  have hpulsed : c.thread < ((s.given r).copyGeneration.pulse 4).gaf.threads.length := by rwa [State.pulse_threads_length, hgaf]
  have hsame : (s.committed c r).thread c.thread = _ := State.thread_modThread _ c.thread _ hpulsed
  rw [State.thread_pulse 4 (hgaf.symm ▸ hl), hthread] at hsame
  refine ⟨by rw [hsame], by rw [hsame], by rw [hsame], fun n hn => ?_⟩
  have hpend := State.pulse_pend (s := (s.given r).copyGeneration) (t := n) (line := 4) (hgaf.symm ▸ hn) (by decide)
  by_cases hnt : n = c.thread
  · subst hnt
    rwa [State.committed, State.thread_modThread _ _ _ hpulsed]
  · rwa [State.committed, State.thread_modThread_other _ _ hnt]

end

/-! ### BANK_SWITCH (R31) -/

section
variable {s : State} {u stripe gen : Nat}

theorem State.itemGate_active (h : s.actGen u = gen) : s.itemGate u stripe gen = (s, true) := if_pos h

theorem State.itemGate_staged (h : s.actGen u ≠ gen) (hs : s.root.staged.gen = gen) (hb : u = 1 → s.f BMP_STATUS.FILL_BUSY ≠ 1) :
    s.itemGate u stripe gen = (s.switchBank u, true) := by
  rw [State.itemGate, if_neg h, if_pos hs, if_neg]
  simpa [State.on] using hb

theorem State.itemGate_filling (h : s.actGen 1 ≠ gen) (hs : s.root.staged.gen = gen) (hb : s.f BMP_STATUS.FILL_BUSY = 1) :
    s.itemGate 1 stripe gen = (s, false) := by
  rw [State.itemGate, if_neg h, if_pos hs, if_pos]
  simp [State.on, hb]

theorem State.itemGate_unknown (h : s.actGen u ≠ gen) (hs : s.root.staged.gen ≠ gen) :
    s.itemGate u stripe gen = (s.halt 0x0F11 s.openFlash [a8 (switchUnit u), a32 stripe, a32 gen], false) := by
  rw [State.itemGate, if_neg h, if_neg hs]
  rfl

end

/-- What a bank switch changes. -/
theorem State.switchBank_spec (s : State) (u : Nat) (h3 : u = 3 → s.tripleHeld 55 = false) :
    (s.switchBank u).root = { s.root with banks := s.root.banks.set u s.root.staged } ∧
    (s.switchBank u).beam = (if u = 1 then { s.beam with activeT := s.beam.stagedT } else s.beam) ∧
    (s.switchBank u).f GAF_GEN.ACTIVE = (if u = 3 then s.root.staged.gen % 2 ^ 32 else s.f GAF_GEN.ACTIVE) ∧
    KeepsFields s (s.switchBank u) [GAF_GEN.ACTIVE] ∧ Keeps s (s.switchBank u) [.root, .beam, .regs] := by
  by_cases hu1 : u = 1
  · subst hu1
    exact ⟨rfl, rfl, rfl, .of_regs rfl _, .then (.mono (keeps_root s _)) (keeps_beam _ _)⟩
  by_cases hu3 : u = 3
  · subst hu3
    have heq : s.switchBank 3 =
        ({ s with root := { s.root with banks := s.root.banks.set 3 s.root.staged } }).put GAF_GEN.ACTIVE s.root.staged.gen :=
      State.putOwned_free _ _ _ (h3 rfl)
    rw [heq]
    exact ⟨rfl, rfl, State.f_put_same _ _ _, .then (.of_regs rfl _) (State.put_keepsFields _ _ _),
      .then (.mono (keeps_root s _)) (State.put_keeps _ _ _)⟩
  · have heq : s.switchBank u = { s with root := { s.root with banks := s.root.banks.set u s.root.staged } } := by
      simp only [State.switchBank, if_neg hu1, if_neg hu3]
    rw [heq, if_neg hu1, if_neg hu3]
    exact ⟨rfl, rfl, rfl, .of_regs rfl _, .mono (keeps_root s _)⟩

/-! ### The statement -/

/-- Settles O17. -/
theorem generations : Obligations.Generations := by
  refine ⟨⟨fun s t i => exec_commit, fun s c r hc h => exec_generationCopy_wait hc fun hr => h ((s.commitReady_iff c).mp hr),
    fun s c r hc hb hh hres hl ht hp hlen hthr => ?_⟩, fun s u stripe gen => ⟨fun h => ?_, fun h hs hb h3 => ?_, fun h hs hb => ?_, fun h hs => ?_⟩⟩
  · have hready : s.commitReady c = true := (s.commitReady_iff c).mpr ⟨hb, hh, hres, hl, ht⟩
    have hexec := exec_generationCopy_ready hc hready hp (hlen.symm ▸ hthr)
    obtain ⟨hroot, hf, hk⟩ := State.committed_spec (s := s) (c := c) (r := r)
    obtain ⟨hpc, hwait, hg, hpend⟩ := State.committed_thread (s := s) (c := c) (r := r) (hlen.symm ▸ hthr)
    refine ⟨fun h54 => ⟨_, hexec, ?_, ?_⟩, fun h54 => ⟨_, hexec, ?_⟩⟩
    · rw [hroot]
      exact if_pos h54
    · rw [hf, if_pos h54]
    · have hgen : s.copiedGen = (s.root.staged.gen + 1) % 2 ^ 32 := if_neg (by simp [h54])
      rw [hgen] at hg
      refine ⟨?_, ?_, fun hq x hx => ?_, ?_, ?_, ?_, hpc, hwait, hg, fun n => hpend n (hlen.symm ▸ n.isLt), hk.2 .mot (by decide),
        hk.2 .par (by decide), hk.2 .link (by decide), hk.2 .mem (by decide)⟩
      · rw [hroot]
        exact hgen
      · rw [hf, h54]
        rfl
      · rw [State.stg, hroot]
        exact State.copiedRoot_stg (s := s.given r) hq hx
      all_goals
        rw [hroot]
        rfl
  · exact congrArg (fun p => Host.Outcome.next (Prod.fst p)) (State.itemGate_active h)
  · refine ⟨_, congrArg (fun p => Host.Outcome.next (Prod.fst p)) (State.itemGate_staged h hs fun hu => hb (Fin.ext hu)), ?_⟩
    have hu1 : (u = 1) = (u.val = 1) := by rw [Fin.ext_iff]; rfl
    have hu3 : (u = 3) = (u.val = 3) := by rw [Fin.ext_iff]; rfl
    simp only [hu1, ← hs]
    simp only [hu3] at h3 ⊢
    exact s.switchBank_spec u h3
  · exact congrArg (fun p => Host.Outcome.next (Prod.fst p)) (State.itemGate_filling h hs hb)
  · exact congrArg (fun p => Host.Outcome.next (Prod.fst p)) (State.itemGate_unknown h hs)

end Sys2Proof.Machine

/-! # STAMP, ARMTP, CCHK and TRAIN (O20) -/

namespace Sys2Proof.Machine

open Sys2Proof

set_option Elab.async false

/-! ### The registers of a timed pulse -/

/-- The five registers of timed pulse n: no two of its fields share a key, nor do they share one with what TP_MISSED changes. -/
theorem tp_keys (n : Nat) :
    (THY_TP_CTL.ARMED n).key ≠ (THY_TP_CTL.WIDTH n).key ∧ (THY_TP_START.S n).key ≠ (THY_TP_PERIOD.Q n).key ∧
    (THY_TP_START.S n).key ≠ (THY_TP_CTL.WIDTH n).key ∧ (THY_TP_START.S n).key ≠ (THY_TP_CTL.ARMED n).key ∧
    (THY_TP_PERIOD.Q n).key ≠ (THY_TP_CTL.WIDTH n).key ∧ (THY_TP_PERIOD.Q n).key ≠ (THY_TP_CTL.ARMED n).key := by
  simp only [Fld.key, THY_TP_CTL.ARMED, THY_TP_CTL.WIDTH, THY_TP_CTL.off, THY_TP_START.S, THY_TP_START.off, THY_TP_PERIOD.Q, THY_TP_PERIOD.off]
  omega

theorem State.tpMissed_keeps (s : State) (n start skipped : Nat) : Keeps s (s.tpMissed n start skipped) [.regs, .journal] :=
  (s.flag_keeps _).mono.then (State.event_keeps _ _ _ _)

theorem State.tpMissed_f_tp (s : State) (n start skipped : Nat) {k : Nat} (hk : k < 8) :
    (s.tpMissed n start skipped).f (THY_TP_CTL.ARMED k) = s.f (THY_TP_CTL.ARMED k) ∧
    (s.tpMissed n start skipped).f (THY_TP_START.S k) = s.f (THY_TP_START.S k) := by
  have hf : KeepsFields s (s.tpMissed n start skipped) [THY_STATUS.TP_MISS_SEEN, EVJ_SEQ.SEQ 0x02] :=
    .then (s.put_keepsFields _ 1).mono (State.event_keepsFields _ _ _ _)
  constructor <;> refine hf _ ?_ <;>
    simp only [List.map_cons, List.map_nil, List.mem_cons, List.not_mem_nil, or_false, Fld.key, THY_TP_CTL.ARMED, THY_TP_CTL.off, THY_TP_START.S,
      THY_TP_START.off, THY_STATUS.TP_MISS_SEEN, THY_STATUS.off, EVJ_SEQ.SEQ, EVJ_SEQ.off] <;> omega

/-- A timed pulse armed with a start that lies ahead. -/
def State.armedTp (s : State) (n start period width : Nat) : State :=
  (((s.put (THY_TP_START.S n) start).put (THY_TP_PERIOD.Q n) period).put (THY_TP_CTL.WIDTH n) width).put (THY_TP_CTL.ARMED n) 1

theorem State.armPulse_ahead {s : State} {n start : Nat} (period width : Nat) (hs : start < 2 ^ 64) (h : s.ahead16 start = true) :
    (((s.put (THY_TP_START.S n) start).put (THY_TP_PERIOD.Q n) period).put (THY_TP_CTL.WIDTH n) width).armPulse n =
      s.armedTp n start period width := by
  obtain ⟨-, hsq, hsw, -, -, -⟩ := tp_keys n
  have hstart : (((s.put (THY_TP_START.S n) start).put (THY_TP_PERIOD.Q n) period).put (THY_TP_CTL.WIDTH n) width).f
      (THY_TP_START.S n) = start := by
    rw [State.f_put_other _ _ hsw, State.f_put_other _ _ hsq, State.f_put_same]
    exact Nat.mod_eq_of_lt hs
  rw [State.armPulse, hstart]
  exact if_pos h

theorem State.armedTp_keeps (s : State) (n start period width : Nat) : Keeps s (s.armedTp n start period width) [.regs] :=
  (((s.put_keeps _ _).then (State.put_keeps _ _ _)).then (State.put_keeps _ _ _)).then (State.put_keeps _ _ _)

theorem State.armedTp_f (s : State) (n start period width : Nat) :
    (s.armedTp n start period width).f (THY_TP_CTL.ARMED n) = 1 ∧
    (s.armedTp n start period width).f (THY_TP_START.S n) = start % 2 ^ 64 ∧
    (s.armedTp n start period width).f (THY_TP_PERIOD.Q n) = period % 2 ^ 64 ∧
    (s.armedTp n start period width).f (THY_TP_CTL.WIDTH n) = width % 2 ^ 16 := by
  obtain ⟨haw, hsq, hsw, hsa, hqw, hqa⟩ := tp_keys n
  refine ⟨State.f_put_same _ _ _, ?_, ?_, ?_⟩
  · rw [State.armedTp, State.f_put_other _ _ hsa, State.f_put_other _ _ hsw, State.f_put_other _ _ hsq, State.f_put_same]
    rfl
  · rw [State.armedTp, State.f_put_other _ _ hqa, State.f_put_other _ _ hqw, State.f_put_same]
    rfl
  · rw [State.armedTp, State.f_put_other _ _ haw.symm, State.f_put_same]
    rfl

/-! ### A cell check starts (R163) -/

theorem State.startCellCheck_keeps (s : State) : Keeps s s.startCellCheck [.regs, .beam] :=
  (Keeps.mono ((((((s.put_keeps _ _).then (State.put_keeps _ _ _)).then (State.flag_keeps _ _)).then (State.put_keeps _ _ _)).then
    (State.put_keeps _ _ _)).then (State.put_keeps _ _ _))).then (keeps_beam _ _)

theorem State.startCellCheck_f (s : State) :
    s.startCellCheck.f BMP_CC_STATUS.STATE = 1 ∧ s.startCellCheck.f BMP_CC_STATUS.SRC_BANK = s.stg BMP_SEL.MAP_BANK % 2 := by
  have hf (x : Fld) : s.startCellCheck.f x = ((((((s.put BMP_CC_STATUS.STATE 1).put BMP_CC_STATUS.SRC_BANK
    (s.stg BMP_SEL.MAP_BANK)).flag BMP_STATUS.CC_BUSY).put BMP_CC_FAIL.COUNT 0).put BMP_CC_PROP.COUNT 0).put BMP_CC_MISS.COUNT 0).f x := rfl
  simp (disch := decide) only [hf, State.flag, State.f_put_same, State.f_put_other]
  exact ⟨rfl, rfl⟩

/-! ### STAMP, ARMTP, TRAIN and CCHK as a thread issues them -/

section
variable {s : State} {t : Fin 4} {i : Triso}

theorem exec_stamp (hi : Issues s t i) (hop : i.op = .stamp) (hp : (s.thread t).pc ≠ 32767) :
    exec (.stamp t) s = .next (wrote (if i.f = 1 then s.event 0x0F01 0 [a8 t, a32 i.imm.toNat, a64 (gpr s t i.a).toNat] else s) t i.d
      (BitVec.ofNat 64 (s.thyme.sec * 1000000000 + s.thyme.ns))) := by
  simp only [exec, execStamp]
  rw [State.issue_of_issues hi hop, State.reg_eq_gpr]
  rw [State.result_of_issues _ hi hp (by split <;> rfl)]
  rfl

theorem exec_armtp (hi : Issues s t i) (hop : i.op = .armtp) (hp : (s.thread t).pc ≠ 32767) :
    exec (.armtp t) s = .next (if s.ahead16 (gpr s t i.a).toNat = true then
        wrote (s.armedTp (i.f.toNat % 8) (gpr s t i.a).toNat (gpr s t i.b).toNat i.imm.toNat) t i.d 0
      else wrote (s.tpMissed (i.f.toNat % 8) (gpr s t i.a).toNat 0) t i.d 1) := by
  simp only [exec, execArmtp]
  rw [State.issue_of_issues hi hop, State.reg_eq_gpr, State.reg_eq_gpr]
  split
  · next h => rw [State.armPulse_ahead _ _ (gpr s t i.a).isLt h]; exact congrArg Host.Outcome.next (State.result_of_issues _ hi hp ((State.armedTp_keeps _ _ _ _ _).2 .gaf (by decide)))
  · exact congrArg Host.Outcome.next (State.result_of_issues _ hi hp ((State.tpMissed_keeps _ _ _ _).2 .gaf (by decide)))

theorem exec_train (hi : Issues s t i) (hop : i.op = .train) :
    exec (.train t) s = .next (if s.mot.flashing = true then s.result t i 1 else if s.link.train.isSome = true then s.result t i 2
      else (s.startTrain (gpr s t i.a).toNat).threadDone t i.d.toNat 0) := by
  simp only [exec, execTrain]
  rw [State.issue_of_issues hi hop, State.reg_eq_gpr]
  rfl

theorem exec_cchk (hi : Issues s t i) (hop : i.op = .cchk) (hp : (s.thread t).pc ≠ 32767) :
    exec (.cchk t) s = .next (if s.cchkCode = 0 then wrote s.startCellCheck t i.d 0
      else wrote (s.event 0x0A02 0 [a8 s.cchkCode]) t i.d (BitVec.ofNat 64 s.cchkCode)) := by
  simp only [exec, execCchk]
  rw [State.issue_of_issues hi hop]
  split
  · exact congrArg Host.Outcome.next (State.result_of_issues _ hi hp (s.startCellCheck_keeps.2 .gaf (by decide)))
  · exact congrArg Host.Outcome.next (State.result_of_issues _ hi hp ((s.event_keeps _ _ _).2 .gaf (by decide)))

end

theorem wrote_gaf {s u : State} (t : Fin 4) (d : BitVec 4) (v : Word) (h : u.gaf = s.gaf) : (wrote u t d v).gaf = (wrote s t d v).gaf := by
  simp only [wrote, State.modThread, h]

theorem wrote_keeps (s : State) (t : Fin 4) (d : BitVec 4) (v : Word) : Keeps s (wrote s t d v) [.gaf] := s.modThread_keeps _ _

/-- Settles O20. -/
theorem unitCommands : Obligations.UnitCommands := by
  refine ⟨fun s t i hi hp => ⟨fun hop h0 => ?_, fun hop h1 => ?_, fun hop h => ?_, fun hop h => ?_⟩,
    fun s t i hi hp => ⟨fun hop h => ?_, fun hop h hb => ?_, fun hop h hb => ?_, fun hop h => ?_, fun hop h ha => ?_, fun hop h ha hs => ?_,
      fun hop h ha hs => ?_⟩⟩
  · rw [exec_stamp hi hop hp, if_neg (by simp [h0])]
  · rw [exec_stamp hi hop hp, if_pos h1]
  · refine ⟨_, exec_armtp hi hop hp, ?_⟩
    rw [if_neg (by simp [h])]
    obtain ⟨harmed, hstart⟩ := s.tpMissed_f_tp (i.f.toNat % 8) (gpr s t i.a).toNat 0 (Nat.mod_lt _ (by decide))
    exact ⟨harmed, hstart, wrote_gaf _ _ _ ((s.tpMissed_keeps _ _ _).2 .gaf (by decide)), (s.tpMissed_keeps _ _ _).mono.then (wrote_keeps _ _ _ _)⟩
  · refine ⟨_, exec_armtp hi hop hp, ?_⟩
    rw [if_pos h]
    obtain ⟨harmed, hstart, hperiod, hwidth⟩ := s.armedTp_f (i.f.toNat % 8) (gpr s t i.a).toNat (gpr s t i.b).toNat i.imm.toNat
    exact ⟨harmed, hstart.trans (Nat.mod_eq_of_lt (gpr s t i.a).isLt), hperiod.trans (Nat.mod_eq_of_lt (gpr s t i.b).isLt), hwidth, wrote_gaf _ _ _ ((s.armedTp_keeps _ _ _ _).2 .gaf (by decide)),
      (s.armedTp_keeps _ _ _ _).mono.then (wrote_keeps _ _ _ _)⟩
  · rw [exec_train hi hop, if_pos h, State.result_wrote _ hi.lt_length hp]
  · rw [exec_train hi hop, if_neg (by simp [h]), if_pos hb, State.result_wrote _ hi.lt_length hp]
  · rw [exec_train hi hop, if_neg (by simp [h]), if_neg (by simp [hb])]
  · have hc : s.cchkCode = 1 := if_pos h
    rw [exec_cchk hi hop hp, hc]
    rfl
  · have hc : s.cchkCode = 2 := by simp [State.cchkCode, h, ha]
    rw [exec_cchk hi hop hp, hc]
    rfl
  · have hc : s.cchkCode = 3 := by simp [State.cchkCode, h, ha, hs]
    rw [exec_cchk hi hop hp, hc]
    rfl
  · have hc : s.cchkCode = 0 := by simp [State.cchkCode, h, ha, hs]
    refine ⟨_, exec_cchk hi hop hp, ?_⟩
    rw [if_pos hc]
    obtain ⟨hstate, hsrc⟩ := s.startCellCheck_f
    exact ⟨hstate, hsrc, wrote_gaf _ _ _ (s.startCellCheck_keeps.2 .gaf (by decide)), s.startCellCheck_keeps.mono.then (wrote_keeps _ _ _ _)⟩

end Sys2Proof.Machine

/-! # A stripe halts (R295)

What the halt that Gaffer latches shows in its registers, and what it leaves unchanged. -/

namespace Sys2Proof.Machine

open Sys2Proof

set_option Elab.async false

theorem keeps_out (s : State) (o : List Output) : Keeps s { s with out := o } [.out] :=
  .of_same rfl fun p => by cases p <;> simp [Part.same]

theorem keeps_freeCount (s : State) (n : Nat) : Keeps s { s with freeCount := n } [.freeCount] :=
  .of_same rfl fun p => by cases p <;> simp [Part.same]

theorem State.free_keeps (s : State) (w : Nat) : Keeps s (s.free w).2 [.freeCount] := keeps_freeCount s _

/-- A record on DL0 moves the place, the scrambler and the ALIVE of the lane. -/
theorem State.dlSend_frame (s : State) (lock : Nat) (blocks : Nat → List Block) :
    Keeps s (s.dlSend lock blocks) [.mot, .out, .freeCount] ∧
    ∃ free scr alive, (s.dlSend lock blocks).mot = { s.mot with dlFree := free, dlScr := scr, dlAlive := alive } :=
  ⟨.then (.then (.mono (s.free_keeps 16)) (State.send_keeps _ _)) (keeps_mot _ _), _, _, _, rfl⟩

theorem State.haltRecord_frame (s : State) (th : Nat) :
    Keeps s (s.haltRecord th) [.mot, .out, .freeCount] ∧
    ∃ free scr alive, (s.haltRecord th).mot = { s.mot with dlFree := free, dlScr := scr, dlAlive := alive } := by
  unfold State.haltRecord
  split
  · exact s.dlSend_frame _ _
  · exact ⟨.refl s _, _, _, _, rfl⟩

theorem State.dropHalves_keeps (s : State) (gen th : Nat) : Keeps s (s.dropHalves gen th) [.link] := keeps_link s _

/-- The parts that a halt may change. -/
def haltParts : List Part := [.regs, .journal, .link, .mot, .out, .freeCount, .gaf, .clu, .ports]

/-- The first flash that a halt at a flash leaves out: before t₀ is armed that is t₀. -/
def State.haltFlash (s : State) (th : Nat) : Nat := if s.mot.armed then th else s.mot.t0

/-- Gaffer's registers at a halt of a stripe. -/
def State.haltRegs (s : State) (a : Stripe) (code th : Nat) : State :=
  ((((((s.put GAF_HALT_FLASH.TH th).put GAF_HALT_STRIPE.STRIPE a.num).put GAF_HALT_GEN.GEN a.gen).put GAF_HALT_CAUSE.CODE code).put
    GAF_HALT_CAUSE.MORE 0).flag GAF_STATUS.HALTED).put MOT_STATUS.STATE 6

theorem State.haltRegs_keeps (s : State) (a : Stripe) (code th : Nat) : Keeps s (s.haltRegs a code th) [.regs] :=
  ((((((s.put_keeps _ _).then (State.put_keeps _ _ _)).then (State.put_keeps _ _ _)).then (State.put_keeps _ _ _)).then
    (State.put_keeps _ _ _)).then (State.flag_keeps _ _)).then (State.put_keeps _ _ _)

theorem State.haltRegs_f (s : State) (a : Stripe) (code th : Nat) :
    (s.haltRegs a code th).f GAF_STATUS.HALTED = 1 ∧ (s.haltRegs a code th).f GAF_HALT_CAUSE.CODE = code % 2 ^ 16 ∧
    (s.haltRegs a code th).f GAF_HALT_FLASH.TH = th % 2 ^ 32 := by
  simp (disch := decide) only [State.haltRegs, State.flag, State.f_put_same, State.f_put_other]
  exact ⟨rfl, rfl, rfl⟩

/-- The halt with its halves dropped and its record sent. -/
def State.haltSent (s : State) (a : Stripe) (code th : Nat) : State := ((s.haltRegs a code th).dropHalves a.gen th).haltRecord th

/-- The halt with the stage braked: before its pulse and its report. -/
def State.halted (s : State) (a : Stripe) (code th : Nat) : State :=
  { s.haltSent a code th with
    gaf := { (s.haltSent a code th).gaf with resumeOk := false, haltTick := s.tick },
    mot := { (s.haltSent a code th).mot.setPlan s.brakePlan with flashing := false, leadOver := false } }

theorem keeps_gaf_mot (s : State) (g : Gaffer) (m : Motion) : Keeps s { s with gaf := g, mot := m } [.gaf, .mot] :=
  .of_same rfl fun p => by cases p <;> simp [Part.same]

theorem State.latchHalt_fresh {s : State} {a : Stripe} (hh : s.f GAF_STATUS.HALTED ≠ 1) (ha : s.gaf.active = some a) (code th : Nat) :
    s.latchHalt code th = ((s.halted a code (s.haltFlash th)).pulse 3).tellStripe a.num 4 := by
  unfold State.latchHalt
  rw [if_neg (by simpa [State.on] using hh), ha]
  rfl

/-- The pulse and the report of a halt leave every field but the pulse's own. -/
theorem State.halted_told_f (s : State) (a : Stripe) (code th : Nat) {x : Fld} (h1 : x.key ≠ GAF_CNT_EVMERGE.COUNT.key)
    (h2 : x.key ≠ GAF_STATUS.EV_MERGE.key) :
    (((s.halted a code th).pulse 3).tellStripe a.num 4).f x = (s.haltRegs a code th).f x := by
  obtain ⟨hk, -⟩ := ((s.haltRegs a code th).dropHalves a.gen th).haltRecord_frame th
  exact (((s.halted a code th).pulse 3).tellStripe_keeps a.num 4).f_eq x |>.trans ((State.pulse_f _ 3 h1 h2).trans (hk.f_eq x))

/-- What a halt event brings about where no stripe is halted yet. -/
theorem State.latchHalt_spec {s : State} {a : Stripe} (ha : s.gaf.active = some a) (hh : s.f GAF_STATUS.HALTED ≠ 1) (code th : Nat) :
    (s.latchHalt code th).f GAF_STATUS.HALTED = 1 ∧ (s.latchHalt code th).f GAF_HALT_CAUSE.CODE = code % 2 ^ 16 ∧
    (s.latchHalt code th).f GAF_HALT_FLASH.TH = s.haltFlash th % 2 ^ 32 ∧
    (s.latchHalt code th).mot.armed = s.mot.armed ∧ (s.latchHalt code th).mot.a0 = s.mot.a0 ∧
    (s.latchHalt code th).mot.committed = s.mot.committed ∧ (s.latchHalt code th).gaf.active = some a := by
  rw [State.latchHalt_fresh hh ha]
  generalize s.haltFlash th = th
  obtain ⟨hk, free, scr, alive, hmot⟩ := ((s.haltRegs a code th).dropHalves a.gen th).haltRecord_frame th
  have hpulse := (s.halted a code th).pulse_keeps 3
  have htell := ((s.halted a code th).pulse 3).tellStripe_keeps a.num 4
  obtain ⟨l, hl⟩ := (s.halted a code th).pulse_gaf 3
  have hf {x : Fld} := s.halted_told_f a code th (x := x)
  have hm : (((s.halted a code th).pulse 3).tellStripe a.num 4).mot = (s.halted a code th).mot :=
    (htell.2 .mot (by decide)).trans (hpulse.2 .mot (by decide))
  have hgaf : (((s.halted a code th).pulse 3).tellStripe a.num 4).gaf.active = some a := by
    rw [htell.2 .gaf (by decide), hl]
    exact (congrArg Gaffer.active (hk.2 .gaf (by decide))).trans ha
  have hsent : (s.haltSent a code th).mot = { s.mot with dlFree := free, dlScr := scr, dlAlive := alive } := hmot
  obtain ⟨hhalted, hcode, hth⟩ := s.haltRegs_f a code th
  refine ⟨(hf (by decide) (by decide)).trans hhalted, (hf (by decide) (by decide)).trans hcode,
    (hf (by decide) (by decide)).trans hth, ?_, ?_, ?_, hgaf⟩
  all_goals
    rw [hm, State.halted, hsent]
    rfl

/-- Of the halves in staging a halt keeps those that a test passes, and where they stand. -/
def KeepsHalves (s t : State) : Prop := ∃ p, t.link.halves = s.link.halves.map (Option.filter p)

theorem KeepsHalves.of_link {s t : State} (h : t.link = s.link) : KeepsHalves s t := by
  refine ⟨fun _ => true, ?_⟩
  have hid : (Option.filter fun _ : Half => true) = id := by
    funext x
    cases x <;> rfl
  rw [h, hid, List.map_id]

theorem State.latchHalt_halted {s : State} (hh : s.f GAF_STATUS.HALTED = 1) (code th : Nat) :
    s.latchHalt code th =
      if s.gaf.haltTick = s.tick ∧ code < s.f GAF_HALT_CAUSE.CODE then
        (((s.count GAF_HALT_CAUSE.MORE 1).put GAF_HALT_CAUSE.CODE code).put GAF_HALT_FLASH.TH (s.haltFlash th)).dropHalves
          (s.f GAF_HALT_GEN.GEN) (s.haltFlash th)
      else s.count GAF_HALT_CAUSE.MORE 1 :=
  if_pos (by simpa [State.on] using hh)

theorem State.latchHalt_idle {s : State} (hh : s.f GAF_STATUS.HALTED ≠ 1) (ha : s.gaf.active = none) (code th : Nat) :
    s.latchHalt code th = s := by
  rw [State.latchHalt, if_neg (by simpa [State.on] using hh), ha]

/-- What every event of class 2 leaves unchanged, halted or not. -/
theorem State.latchHalt_frame (s : State) (code th : Nat) :
    Keeps s (s.latchHalt code th) haltParts ∧ KeepsHalves s (s.latchHalt code th) := by
  by_cases hh : s.f GAF_STATUS.HALTED = 1
  · rw [State.latchHalt_halted hh]
    have h1 := s.count_keeps GAF_HALT_CAUSE.MORE 1
    split
    · exact ⟨.then (.mono ((h1.then (State.put_keeps _ _ _)).then (State.put_keeps _ _ _))) (State.dropHalves_keeps _ _ _), _, rfl⟩
    · exact ⟨h1.mono, .of_link rfl⟩
  cases ha : s.gaf.active with
  | none =>
    rw [State.latchHalt_idle hh ha]
    exact ⟨.refl s _, .of_link rfl⟩
  | some a =>
    rw [State.latchHalt_fresh hh ha]
    generalize s.haltFlash th = th
    have hdrop : Keeps s ((s.haltRegs a code th).dropHalves a.gen th) haltParts :=
      .then (.mono (s.haltRegs_keeps a code th)) (State.dropHalves_keeps _ _ _)
    obtain ⟨hrecord, -⟩ := ((s.haltRegs a code th).dropHalves a.gen th).haltRecord_frame th
    have hhalted : Keeps (s.haltSent a code th) (s.halted a code th) [.gaf, .mot] := keeps_gaf_mot _ _ _
    have hpulse := (s.halted a code th).pulse_keeps 3
    have htell := ((s.halted a code th).pulse 3).tellStripe_keeps a.num 4
    have hlink : (((s.halted a code th).pulse 3).tellStripe a.num 4).link = ((s.haltRegs a code th).dropHalves a.gen th).link :=
      (htell.2 .link (by decide)).trans ((hpulse.2 .link (by decide)).trans ((hhalted.2 .link (by decide)).trans
        (hrecord.2 .link (by decide))))
    refine ⟨.then (.then (.then (hdrop.then hrecord) hhalted) hpulse) htell, ?_⟩
    rw [KeepsHalves, hlink]
    exact ⟨_, rfl⟩

/-- A halted stripe stays halted. -/
theorem State.latchHalt_stays {s : State} (hh : s.f GAF_STATUS.HALTED = 1) (code th : Nat) :
    (s.latchHalt code th).f GAF_STATUS.HALTED = 1 := by
  rw [State.latchHalt_halted hh, ← hh]
  split
  · refine ((State.dropHalves_keeps _ _ _).f_eq _).trans ?_
    simp (disch := decide) only [State.count, State.f_put_other]
  · exact s.f_put_other _ (by decide)

/-- The event that halts leaves Gaffer's and the motion unit's fields. -/
theorem State.event_f_other (s : State) {x : Fld} (hx : x.addr < 0x1400100) (hlo : x.lo < 64) (code cls : Nat) (args : List Arg) :
    (s.event code cls args).f x = s.f x := by
  refine s.f_put_other _ ?_
  simp only [Fld.key, EVJ_SEQ.SEQ, EVJ_SEQ.off]
  omega

/-- A stripe in motion halts at an event of class 2: the registers of R295, and what of the motion unit stays. -/
theorem State.halt_spec {s : State} {a : Stripe} (ha : s.gaf.active = some a) (hh : s.f GAF_STATUS.HALTED ≠ 1) (code th : Nat)
    (args : List Arg) :
    (s.halt code th args).f GAF_STATUS.HALTED = 1 ∧ (s.halt code th args).f GAF_HALT_CAUSE.CODE = code % 2 ^ 16 ∧
    (s.halt code th args).f GAF_HALT_FLASH.TH = s.haltFlash th % 2 ^ 32 ∧
    (s.halt code th args).mot.armed = s.mot.armed ∧ (s.halt code th args).mot.a0 = s.mot.a0 ∧
    (s.halt code th args).mot.committed = s.mot.committed ∧ (s.halt code th args).gaf.active = some a := by
  have he := s.event_f_other (x := GAF_STATUS.HALTED) (by decide) (by decide) code 2 args
  exact State.latchHalt_spec (s := s.event code 2 args) ha (he ▸ hh) code th

theorem State.halt_stays {s : State} (hh : s.f GAF_STATUS.HALTED = 1) (code th : Nat) (args : List Arg) :
    (s.halt code th args).f GAF_STATUS.HALTED = 1 :=
  State.latchHalt_stays ((s.event_f_other (x := GAF_STATUS.HALTED) (by decide) (by decide) code 2 args).trans hh) code th

theorem State.halt_frame (s : State) (code th : Nat) (args : List Arg) :
    Keeps s (s.halt code th args) haltParts ∧ KeepsHalves s (s.halt code th args) := by
  obtain ⟨hk, hh⟩ := (s.event code 2 args).latchHalt_frame code th
  exact ⟨.then (.mono (s.event_keeps _ _ _)) hk, hh⟩

end Sys2Proof.Machine

/-! # What a read of HBM reports (R409, R410, R415)

An error that a read finds changes the memory, the journal, and registers of the memory groups and of the journal: none below them. -/

namespace Sys2Proof.Machine

open Sys2Proof

set_option Elab.async false

theorem keeps_mem (s : State) (m : MemSys) : Keeps s { s with mem := m } [.mem] :=
  .of_same rfl fun p => by cases p <;> simp [Part.same]

/-- A state in which errors of memory have been noted: every register below the memory controllers reads the same. -/
def Notes (s t : State) : Prop := Keeps s t [.regs, .journal, .mem] ∧ ∀ x : Fld, x.addr < 0x1000000 → x.lo < 64 → t.f x = s.f x

theorem Notes.refl (s : State) : Notes s s := ⟨.refl s _, fun _ _ _ => rfl⟩

theorem Notes.then {s t u : State} (h : Notes s t) (g : Notes t u) : Notes s u :=
  ⟨h.1.then g.1, fun x ha hl => (g.2 x ha hl).trans (h.2 x ha hl)⟩

theorem Notes.ite {s t u : State} (p : Prop) [Decidable p] (h : Notes s t) (g : Notes s u) : Notes s (if p then t else u) := by
  split
  · exact h
  · exact g

theorem Notes.foldl {α : Type} {f : State → α → State} (h : ∀ t a, Notes t (f t a)) (as : List α) (s : State) : Notes s (as.foldl f s) := by
  induction as generalizing s with
  | nil => exact .refl s
  | cons a as ih => exact (h s a).then (ih (f s a))

theorem Notes.mem (s : State) (m : MemSys) : Notes s { s with mem := m } := ⟨(keeps_mem s m).mono, fun _ _ _ => rfl⟩

theorem Notes.put (s : State) {x : Fld} (hx : 0x1000000 ≤ x.addr) (v : Nat) : Notes s (s.put x v) := by
  refine ⟨(s.put_keeps x v).mono, fun y ha hl => s.f_put_other v ?_⟩
  simp only [Fld.key]
  omega

theorem Notes.event (s : State) (code cls : Nat) (args : List Arg) : Notes s (s.event code cls args) :=
  ⟨(s.event_keeps code cls args).mono, fun _ ha hl => s.event_f_other (by omega) hl code cls args⟩

/-- The registers of the memory groups lie above those of the data path. -/
theorem eccAddr (base g : Nat) (h : 0x1100000 ≤ base) : 0x1000000 ≤ base + 0x40 * g := by omega

theorem cullAddr (base g e : Nat) (h : 0x1100000 ≤ base) : 0x1000000 ≤ base + 0x100 * g + 0x10 * e := by omega

section

variable {g : Nat} (hg : g < 4) (s : State)

include hg

theorem State.putData_notes (a d : Nat) : Notes s (s.putData g a d) := by
  rw [State.putData, if_pos hg]
  exact .mem s _

theorem State.putRaw_notes (a d c : Nat) : Notes s (s.putRaw g a d c) := (s.putData_notes hg a d).then (.mem _ _)

theorem State.copyWord_notes (a : Nat) : Notes s (State.copyWord g s a) := by
  unfold State.copyWord
  split
  · exact .refl s
  · exact s.putData_notes hg _ _
  · exact .mem s _

theorem State.cullInstall_notes (e a : Nat) (auto : Bool) : Notes s (s.cullInstall g e a auto) := by
  unfold State.cullInstall
  extract_lets block own s1 keys src s2
  have h2 : Notes s s2 := .then (.foldl (fun t => State.copyWord_notes hg t) _ s) (.mem s1 _)
  exact h2.then (.then (.then (.then (.put s2 (cullAddr _ g e (by decide)) 1) (.put _ (cullAddr _ g e (by decide)) _))
    (.put _ (cullAddr _ g e (by decide)) _)) (.event _ _ _ _))

theorem State.cullAuto_notes (a : Nat) : Notes s (s.cullAuto g a) := by
  unfold State.cullAuto
  refine .ite _ ?_ (.refl s)
  split
  · exact s.cullInstall_notes hg _ _ _
  · exact .ite _ (.refl s) (.then (.then (.mem s _) (.put _ (eccAddr _ g (by decide)) 1)) (.event _ _ _ _))

theorem State.noteUe_notes (a : Nat) : Notes s (s.noteUe g a) := by
  unfold State.noteUe State.lastError
  have ha (base : Nat) (h : 0x1100000 ≤ base) := eccAddr base g h
  exact .then (.then (.then (.then (.put s (ha _ (by decide)) _) (.put _ (ha _ (by decide)) 1)) (.put _ (ha _ (by decide)) a))
    (.put _ (ha _ (by decide)) 1)) (State.cullAuto_notes hg _ a)

theorem State.noteCe_notes (a syn d c : Nat) : Notes s (s.noteCe g a syn d c) := by
  unfold State.noteCe
  extract_lets block w s1 s2 n
  have h1 : Notes s s1 := by
    have ha (base : Nat) (h : 0x1100000 ≤ base) := eccAddr base g h
    exact .then (.then (.then (.then (.put s (ha _ (by decide)) _) (.put _ (ha _ (by decide)) 1)) (.put _ (ha _ (by decide)) a))
      (.put _ (ha _ (by decide)) 0)) (.event _ _ _ _)
  have h2 : Notes s s2 := h1.then (.ite _ (s1.putRaw_notes hg _ _ _) (.refl s1))
  exact h2.then (.ite _ (.then (.mem s2 _) (State.cullAuto_notes hg _ a)) (.mem s2 _))

end

theorem State.hbmGroup_lt (s : State) (a : Nat) : s.hbmGroup a < 4 := by
  have : s.hbmChannel a < 64 := by
    unfold State.hbmChannel
    extract_lets
    split <;> exact Nat.mod_lt _ (by decide)
  unfold State.hbmGroup
  omega

theorem State.noteWord_notes (s : State) (w : Nat) : Notes s (s.noteWord w) := by
  unfold State.noteWord
  split
  · exact .refl s
  · exact s.noteCe_notes (s.hbmGroup_lt w) _ _ _ _
  · exact s.noteUe_notes (s.hbmGroup_lt w) _

theorem State.noteRead_notes (s : State) (a n : Nat) : Notes s (s.noteRead a n) := .foldl State.noteWord_notes _ s

theorem State.noteChunk_notes (s : State) (base c : Nat) : Notes s (s.noteChunk base c) := .foldl State.noteWord_notes _ s

/-- A page of HBM that is withheld is redirected where an entry is free. -/
theorem State.cullPage_notes (s : State) (a : Nat) : Notes s (s.cullPage a) := by
  unfold State.cullPage
  extract_lets g
  split
  · exact s.cullInstall_notes (s.hbmGroup_lt a) _ _ _
  · exact .refl s

end Sys2Proof.Machine

/-! # Staging, underrun and commit points (O43) -/

namespace Sys2Proof.Machine

open Sys2Proof

set_option Elab.async false

/-! ### The fields that a halt may change -/

/-- The fields that the latch of a halt may change. -/
def latchFields : List Fld :=
  [GAF_HALT_FLASH.TH, GAF_HALT_STRIPE.STRIPE, GAF_HALT_GEN.GEN, GAF_HALT_CAUSE.CODE, GAF_HALT_CAUSE.MORE, GAF_STATUS.HALTED,
    MOT_STATUS.STATE, GAF_CNT_EVMERGE.COUNT, GAF_STATUS.EV_MERGE]

theorem Keeps.keepsFields {s t : State} {l : List Part} (h : Keeps s t l) (hl : Part.regs ∉ l := by decide) (m : List Fld) :
    KeepsFields s t m :=
  .of_regs (h.2 .regs hl) m

theorem State.haltRegs_keepsFields (s : State) (a : Stripe) (code th : Nat) : KeepsFields s (s.haltRegs a code th) latchFields :=
  (((((((s.put_keepsFields _ _).mono).then (State.put_keepsFields _ _ _)).then (State.put_keepsFields _ _ _)).then
    (State.put_keepsFields _ _ _)).then (State.put_keepsFields _ _ _)).then (State.put_keepsFields _ _ 1)).then (State.put_keepsFields _ _ _)

theorem State.latchHalt_keepsFields (s : State) (code th : Nat) : KeepsFields s (s.latchHalt code th) latchFields := by
  by_cases hh : s.f GAF_STATUS.HALTED = 1
  · rw [State.latchHalt_halted hh]
    have h1 : KeepsFields s (s.count GAF_HALT_CAUSE.MORE 1) latchFields := (s.put_keepsFields _ _).mono
    split
    · exact .then ((h1.then (State.put_keepsFields _ _ _)).then (State.put_keepsFields _ _ _))
        ((State.dropHalves_keeps _ _ _).keepsFields (m := []))
    · exact h1
  cases ha : s.gaf.active with
  | none =>
    rw [State.latchHalt_idle hh ha]
    exact .refl s _
  | some a =>
    rw [State.latchHalt_fresh hh ha]
    generalize s.haltFlash th = th
    intro x hx
    have hne {y : Fld} (hy : y ∈ latchFields) : x.key ≠ y.key := fun he => hx (List.mem_map.mpr ⟨y, hy, he.symm⟩)
    exact (s.halted_told_f a code th (hne (by decide)) (hne (by decide))).trans (s.haltRegs_keepsFields a code th x hx)

theorem State.halt_keepsFields (s : State) (code th : Nat) (args : List Arg) :
    KeepsFields s (s.halt code th args) (EVJ_SEQ.SEQ (code / 256) :: latchFields) :=
  .then ((s.event_keepsFields code 2 args).mono (List.cons_subset_cons _ (List.nil_subset _)))
    ((s.event code 2 args).latchHalt_keepsFields code th) (List.subset_cons_self _ _)

/-! ### The commit point (R213) -/

theorem keeps_mot_link (s : State) (m : Motion) (l : Link) : Keeps s { s with mot := m, link := l } [.mot, .link] :=
  .of_same rfl fun p => by cases p <;> simp [Part.same]

theorem State.lanesWithout_eq_zero_iff (s : State) (t p : Nat) :
    s.lanesWithout t p = 0 ↔ ∀ l, l < 64 → ∀ k, k < p → bit (mnat s.link.acks (t * 16 + k)) l = true := by
  simp [State.lanesWithout, List.countP_eq_zero]

section

variable {s : State} {k : Stripe} (ha : s.gaf.active = some k) (hlive : s.live s.mot.committed = true) (hn : s.mot.committed < s.nf k)
  (ht0 : s.mot.committed ≠ s.mot.t0) (hknown : (mget s.mot.a0 (s.mot.committed - 1)).isSome = true)

include ha hlive hn ht0 hknown

theorem execCommitPoint_eq :
    execCommitPoint s =
      if s.lanesWithout s.mot.committed (s.planes k.gen) = 0 then
        .next { s with
          mot := { s.mot with committed := s.mot.committed + 1 },
          link := { s.link with acks := s.link.acks.filter (fun (e : Nat × Nat) => decide (s.mot.committed < e.1 / 16)) } }
      else .next (s.halt 0x0C11 s.mot.committed
        [a32 s.mot.committed, a32 (s.lanesWithout s.mot.committed (s.planes k.gen))]) := by
  simp only [execCommitPoint, ha, if_neg ht0]
  rw [if_pos ⟨hlive, hn, hknown⟩]

theorem exec_commitPoint_acked
    (hacks : ∀ l, l < 64 → ∀ p, p < s.planes k.gen → bit (mnat s.link.acks (s.mot.committed * 16 + p)) l = true) :
    Gives (exec .commitPoint s) (fun t => t.mot = { s.mot with committed := s.mot.committed + 1 } ∧
      (∀ e ∈ t.link.acks, s.mot.committed < e.1 / 16) ∧ Keeps s t [.mot, .link]) := by
  refine ⟨_, (execCommitPoint_eq ha hlive hn ht0 hknown).trans (if_pos ((s.lanesWithout_eq_zero_iff _ _).mpr hacks)), rfl,
    fun e he => ?_, keeps_mot_link s _ _⟩
  simpa using (List.mem_filter.mp he).2

theorem exec_commitPoint_missing
    (hmiss : ∃ l, l < 64 ∧ ∃ p, p < s.planes k.gen ∧ bit (mnat s.link.acks (s.mot.committed * 16 + p)) l = false)
    (hh : s.f GAF_STATUS.HALTED ≠ 1) :
    Gives (exec .commitPoint s) (fun t =>
      t.f GAF_STATUS.HALTED = 1 ∧ t.f GAF_HALT_CAUSE.CODE = 0x0C11 ∧ t.mot.committed = s.mot.committed) := by
  have hne : s.lanesWithout s.mot.committed (s.planes k.gen) ≠ 0 := by
    intro h0
    obtain ⟨l, hl, p, hp, hb⟩ := hmiss
    simp [(s.lanesWithout_eq_zero_iff _ _).mp h0 l hl p hp] at hb
  obtain ⟨h1, h2, -, -, -, h3, -⟩ := State.halt_spec ha hh 0x0C11 s.mot.committed
    [a32 s.mot.committed, a32 (s.lanesWithout s.mot.committed (s.planes k.gen))]
  exact ⟨_, (execCommitPoint_eq ha hlive hn ht0 hknown).trans (if_neg hne), h1, h2, h3⟩

end

/-! ### Serving a half (R23, R190) -/

/-- Lehr serves a half: its register names the chunk. -/
def State.serving (s : State) (c p : Nat) : State :=
  ({ s with link := { s.link with serve := some (c, p) } }).put LEH_CHUNK.CHUNK c

theorem State.serving_keeps (s : State) (c p : Nat) : Keeps s (s.serving c p) [.regs, .link] :=
  .then (.mono (keeps_link s _)) (State.put_keeps _ _ _)

theorem State.serving_spec (s : State) (c p : Nat) :
    (s.serving c p).link.serve = some (c, p) ∧ (s.serving c p).f LEH_CHUNK.CHUNK = c % 2 ^ 32 ∧
    (s.serving c p).f GAF_STATUS.HALTED = s.f GAF_STATUS.HALTED :=
  ⟨rfl, State.f_put_same _ _ _, State.f_put_other _ _ (by decide)⟩

theorem State.beginLoad_serve (s : State) (k : Stripe) (c p : Nat) : (s.beginLoad k c p).link.serve = s.link.serve := by
  unfold State.beginLoad
  split
  · split <;> rfl
  · rfl

/-- Whether the chunk after a chunk has flashes, and whether it is complete. -/
def State.nextNeeded (s : State) (k : Stripe) (c : Nat) : Bool := decide (64 * (c + 1) < s.nf k)

/-- What a serve start loads next: the other half of a chunk, or the chunk behind it. -/
def State.loadNext (s2 : State) (s : State) (k : Stripe) (c p : Nat) : State :=
  if s.widePlanes k.gen ∧ p = 0 then s2.beginLoad k c 1
  else if s.nextNeeded k c then s2.beginLoad k (c + 1) 0
  else s2

theorem State.loadNext_keeps (s2 s : State) (k : Stripe) (c p : Nat) : Keeps s2 (s2.loadNext s k c p) [.link] :=
  .ite _ (s2.beginLoad_keeps _ _ _) (.ite _ (s2.beginLoad_keeps _ _ _) (.refl s2 _))

theorem State.loadNext_serve (s2 s : State) (k : Stripe) (c p : Nat) : (s2.loadNext s k c p).link.serve = s2.link.serve := by
  unfold State.loadNext
  split
  · exact s2.beginLoad_serve _ _ _
  · split
    · exact s2.beginLoad_serve _ _ _
    · rfl

section

variable {s : State} {k : Stripe} {r : RingStripe} (ha : s.gaf.active = some k) (hserve : s.link.serve = none)
  (hen : s.runs LEH_CTL.ENABLE = true) (hlive : s.live s.lehrNext = true) (hn : s.lehrNext < s.nf k) (hr : s.ringOf k = some r)
  (hhalf : ∃ h, some h ∈ s.link.halves ∧ h.ready = true ∧ h.chunk = s.lehrNext / 64 ∧ h.part = s.partOf k.gen s.lehrNext)

include ha hserve hen hlive hn hr hhalf

theorem execChunkServeStart_eq :
    execChunkServeStart s = .next
      ((if s.nextNeeded k (s.lehrNext / 64) && !decide (s.lehrNext / 64 + 1 < r.done) && !s.on GAF_STATUS.HALTED then
          (s.serving (s.lehrNext / 64) (s.partOf k.gen s.lehrNext)).halt 0x0C13 (64 * (s.lehrNext / 64 + 1)) [a32 (s.lehrNext / 64 + 1)]
        else s.serving (s.lehrNext / 64) (s.partOf k.gen s.lehrNext)).loadNext s k (s.lehrNext / 64) (s.partOf k.gen s.lehrNext)) := by
  have hany : s.link.halves.any (fun h => h.any (fun x =>
      x.ready && decide (x.chunk = s.lehrNext / 64) && decide (x.part = s.partOf k.gen s.lehrNext))) = true := by
    obtain ⟨h, hmem, hready, hchunk, hpart⟩ := hhalf
    exact List.any_eq_true.mpr ⟨some h, hmem, by simp [hready, hchunk, hpart]⟩
  simp only [execChunkServeStart, ha, hserve, hr]
  rw [if_pos ⟨hen, hlive, hn, hany⟩]
  unfold State.loadNext State.nextNeeded
  split
  · rfl
  · split <;> rfl

theorem exec_chunkServeStart_serves (hdone : 64 * (s.lehrNext / 64 + 1) < s.nf k → s.lehrNext / 64 + 1 < r.done) :
    Gives (exec .chunkServeStart s) (fun t =>
      t.link.serve = some (s.lehrNext / 64, s.partOf k.gen s.lehrNext) ∧ t.f LEH_CHUNK.CHUNK = s.lehrNext / 64 % 2 ^ 32 ∧
      Keeps s t [.regs, .link]) := by
  have hfull : ¬ ((s.nextNeeded k (s.lehrNext / 64) && !decide (s.lehrNext / 64 + 1 < r.done) && !s.on GAF_STATUS.HALTED) = true) := by
    simp only [State.nextNeeded, Bool.and_eq_true, Bool.not_eq_true', decide_eq_true_eq, decide_eq_false_iff_not]
    exact fun h => h.1.2 (hdone h.1.1)
  obtain ⟨h1, h2, -⟩ := s.serving_spec (s.lehrNext / 64) (s.partOf k.gen s.lehrNext)
  have hload := (s.serving (s.lehrNext / 64) (s.partOf k.gen s.lehrNext)).loadNext_keeps s k (s.lehrNext / 64) (s.partOf k.gen s.lehrNext)
  refine ⟨_, (execChunkServeStart_eq ha hserve hen hlive hn hr hhalf).trans (by rw [if_neg hfull]), ?_, ?_, .then (s.serving_keeps _ _) hload⟩
  · exact (State.loadNext_serve _ _ _ _ _).trans h1
  · exact (hload.f_eq _).trans h2

theorem exec_chunkServeStart_underrun (hmore : 64 * (s.lehrNext / 64 + 1) < s.nf k) (hdone : r.done ≤ s.lehrNext / 64 + 1)
    (harmed : s.mot.armed = true) (hh : s.f GAF_STATUS.HALTED ≠ 1) :
    Gives (exec .chunkServeStart s) (fun t => t.f GAF_STATUS.HALTED = 1 ∧ t.f GAF_HALT_CAUSE.CODE = 0x0C13 ∧
      t.f GAF_HALT_FLASH.TH = 64 * (s.lehrNext / 64 + 1) % 2 ^ 32) := by
  have hcond : (s.nextNeeded k (s.lehrNext / 64) && !decide (s.lehrNext / 64 + 1 < r.done) && !s.on GAF_STATUS.HALTED) = true := by
    simp [State.nextNeeded, State.on, hmore, hh, hdone]
  have hkeep := s.serving_keeps (s.lehrNext / 64) (s.partOf k.gen s.lehrNext)
  have hmot := hkeep.2 .mot (by decide)
  have hflash : (s.serving (s.lehrNext / 64) (s.partOf k.gen s.lehrNext)).haltFlash (64 * (s.lehrNext / 64 + 1)) =
      64 * (s.lehrNext / 64 + 1) := if_pos (by rw [hmot, harmed])
  obtain ⟨-, -, hnh⟩ := s.serving_spec (s.lehrNext / 64) (s.partOf k.gen s.lehrNext)
  obtain ⟨h1, h2, h3, -⟩ := State.halt_spec (s := s.serving (s.lehrNext / 64) (s.partOf k.gen s.lehrNext))
    ((congrArg Gaffer.active (hkeep.2 .gaf (by decide))).trans ha) (hnh ▸ hh) 0x0C13 (64 * (s.lehrNext / 64 + 1))
    [a32 (s.lehrNext / 64 + 1)]
  rw [hflash] at h3
  refine ⟨_, (execChunkServeStart_eq ha hserve hen hlive hn hr hhalf).trans (by rw [if_pos hcond]), ?_, ?_, ?_⟩
  · exact ((State.loadNext_keeps _ _ _ _ _).f_eq _).trans h1
  · exact ((State.loadNext_keeps _ _ _ _ _).f_eq _).trans h2
  · exact ((State.loadNext_keeps _ _ _ _ _).f_eq _).trans h3

end

/-! ### A half arrives (R190 to R193) -/

theorem State.kickLehr_of_half {s : State} {i : Nat} {h : Half} (hi : s.link.halves[i]? = some (some h)) : s.kickLehr = s := by
  have hall : ¬ (s.link.halves.all (fun h => h.isNone) = true) := by
    intro hall
    simpa using List.all_eq_true.mp hall _ (List.mem_of_getElem? hi)
  unfold State.kickLehr
  split
  · rfl
  · exact if_neg fun hc => hall hc.2.1

theorem State.reread_keeps (s : State) (c j v : Nat) : Keeps s (s.reread c j v) [.regs, .journal] :=
  .then (.mono ((s.count_keeps _ 1).then (State.flag_keeps _ _))) (State.event_keeps _ _ _ _)

theorem State.reread_spec (s : State) (c j v : Nat) :
    (s.reread c j v).f LEH_STATUS.REREAD_SEEN = 1 ∧
    (s.reread c j v).f LEH_CNT_REREAD.COUNT = min (s.f LEH_CNT_REREAD.COUNT + 1) (2 ^ LEH_CNT_REREAD.COUNT.w - 1) ∧
    (s.reread c j v).f GAF_STATUS.HALTED = s.f GAF_STATUS.HALTED := by
  unfold State.reread
  rw [State.event_f_other _ (by decide) (by decide), State.event_f_other _ (by decide) (by decide),
    State.event_f_other _ (by decide) (by decide)]
  simp (disch := decide) only [State.flag, State.count, State.f_put_same, State.f_put_other]
  refine ⟨rfl, Nat.mod_eq_of_lt ?_, trivial⟩
  exact lt_of_le_of_lt (min_le_right _ _) (Nat.sub_lt (by decide) (by decide))

theorem State.stageWritten_keeps (s : State) (i : Nat) : Keeps s (s.stageWritten i) [.mem] :=
  .then (keeps_mem s _) (keeps_mem _ _)

theorem keeps_mem_link (s : State) (m : MemSys) (l : Link) : Keeps s { s with mem := m, link := l } [.mem, .link] :=
  .of_same rfl fun p => by cases p <;> simp [Part.same]

/-- A switch of Lehr's bank changes the root only. -/
theorem State.itemGate_two_keeps {s g : State} {st gen : Nat} (h : s.itemGate 2 st gen = (g, true)) : Keeps s g [.root] := by
  by_cases h1 : s.actGen 2 = gen
  · rw [State.itemGate_active h1] at h
    exact (Prod.mk.inj h).1 ▸ .refl s _
  by_cases h2 : s.root.staged.gen = gen
  · rw [State.itemGate_staged h1 h2 nofun] at h
    exact (Prod.mk.inj h).1 ▸ keeps_root s _
  · rw [State.itemGate_unknown h1 h2] at h
    simp at h

/-- A half whose blocks pass is in staging. -/
def State.loaded (s : State) (i : Nat) (h : Half) (m : Map (List Nat)) : State :=
  { s.stageWritten i with link := { s.link with halves := s.link.halves.set i (some { h with ready := true, codes := m }) } }

theorem State.loaded_keeps (s : State) (i : Nat) (h : Half) (m : Map (List Nat)) : Keeps s (s.loaded i h m) [.mem, .link] :=
  keeps_mem_link s _ _

/-- A half one of whose blocks has failed both reads leaves staging, and the stripe halts. -/
def State.badBlock (s : State) (i c j v flash : Nat) : State :=
  ({ s with link := { s.link with halves := s.link.halves.set i none } }).halt 0x0C12 flash [a32 c, a32 j, a8 v]

theorem State.badBlock_halves (s : State) {i : Nat} {h : Option Half} (hi : s.link.halves[i]? = some h) (c j v flash : Nat) :
    (s.badBlock i c j v flash).link.halves[i]? = some none := by
  obtain ⟨-, p, hp⟩ := State.halt_frame { s with link := { s.link with halves := s.link.halves.set i none } } 0x0C12 flash
    [a32 c, a32 j, a8 v]
  have hlt : i < s.link.halves.length := (List.getElem?_eq_some_iff.mp hi).1
  rw [State.badBlock, hp, List.getElem?_map, List.getElem?_set_self hlt]
  rfl

theorem State.badBlock_halted {s : State} {k : Stripe} (ha : s.gaf.active = some k) (i c j v flash : Nat) :
    (s.badBlock i c j v flash).f GAF_STATUS.HALTED = 1 ∧
    (s.f GAF_STATUS.HALTED ≠ 1 → (s.badBlock i c j v flash).f GAF_HALT_CAUSE.CODE = 0x0C12) := by
  by_cases hh : s.f GAF_STATUS.HALTED = 1
  · exact ⟨State.halt_stays (s := { s with link := { s.link with halves := s.link.halves.set i none } }) hh _ _ _, fun hn => absurd hh hn⟩
  · obtain ⟨h1, h2, -⟩ := State.halt_spec (s := { s with link := { s.link with halves := s.link.halves.set i none } }) ha hh 0x0C12 flash
      [a32 c, a32 j, a8 v]
    exact ⟨h1, fun _ => h2⟩

theorem State.badBlock_keepsFields (s : State) (i c j v flash : Nat) :
    KeepsFields s (s.badBlock i c j v flash) (EVJ_SEQ.SEQ (0x0C12 / 256) :: latchFields) :=
  State.halt_keepsFields { s with link := { s.link with halves := s.link.halves.set i none } } 0x0C12 flash [a32 c, a32 j, a8 v]

/-- The half that has arrived, once its item has passed the switching point: its blocks are checked. -/
def State.arrived (s : State) (k : Stripe) (r : RingStripe) (i : Nat) (h : Half) : State :=
  let (c, s1) := s.free 8
  match s.readChunk k r.base h.chunk 4096 [] with
  | (m, none) =>
    let (v, s2) := s1.free 13
    let s3 := if bit v 12 then (s2.noteChunk r.base h.chunk).reread h.chunk (v % 4096) c else s2.noteChunk r.base h.chunk
    s3.loaded i h m
  | (_, some j) =>
    ((s1.noteRead (s.blockAddr r.base j h.chunk) (if s.widePlanes k.gen then 8336 else 4176)).reread h.chunk j c).badBlock
      i h.chunk j c s.openFlash

theorem State.arrived_good {s : State} {k : Stripe} {r : RingStripe} {h : Half} {m : Map (List Nat)}
    (hread : s.readChunk k r.base h.chunk 4096 [] = (m, none)) (i : Nat) :
    ∃ u, Keeps s u [.regs, .journal, .mem, .freeCount] ∧ s.arrived k r i h = u.loaded i h m := by
  unfold State.arrived
  rw [hread]
  have hnote := ((s.free 8).2.free 13).2.noteChunk_notes r.base h.chunk
  have hk : Keeps s ((s.free 8).2.free 13).2 [.regs, .journal, .mem, .freeCount] := .then (.mono (s.free_keeps 8)) (State.free_keeps _ 13)
  exact ⟨_, .ite _ ((hk.then hnote.1).then (State.reread_keeps _ _ _ _)) (hk.then hnote.1), rfl⟩

theorem State.arrived_bad {s : State} {k : Stripe} {r : RingStripe} {h : Half} {m : Map (List Nat)} {j : Nat}
    (hread : s.readChunk k r.base h.chunk 4096 [] = (m, some j)) (i : Nat) :
    ∃ u, Notes (s.free 8).2 u ∧
      s.arrived k r i h = (u.reread h.chunk j (s.free 8).1).badBlock i h.chunk j (s.free 8).1 s.openFlash := by
  unfold State.arrived
  rw [hread]
  exact ⟨_, State.noteRead_notes _ _ _, rfl⟩

section

variable {s g : State} {k : Stripe} {i : Nat} {h : Half} {r : RingStripe} (ha : s.gaf.active = some k)
  (hfind : s.link.halves.findIdx? (fun x => x.any (fun y => !y.ready)) = some i) (hi : s.link.halves[i]? = some (some h))
  (hr : s.ringOf k = some r)

include ha hfind hi hr

theorem execChunkLoadDone_eq {use : Bool} (hgate : s.itemGate 2 h.stripe h.gen = (g, use)) :
    execChunkLoadDone s = if use = false then .next g else .next (g.arrived k r i h) := by
  have hget : s.link.halves.getD i none = some h := by rw [List.getD_eq_getElem?_getD, hi, Option.getD_some]
  unfold execChunkLoadDone State.arrived
  generalize 4096 = n
  rw [State.kickLehr_of_half hi]
  extract_lets s0
  split
  · next k' i' hk' hi' =>
    cases Option.some.inj (hk'.symm.trans ha)
    cases Option.some.inj (hi'.symm.trans hfind)
    split
    · next h' r' hh' hr' =>
      cases Option.some.inj (hh'.symm.trans hget)
      cases Option.some.inj (hr'.symm.trans hr)
      rw [hgate]
      cases use
      · rfl
      · simp only [Bool.true_eq_false, if_false]
        generalize g.readChunk k r.base h.chunk n [] = found
        obtain ⟨m, _ | j⟩ := found <;> rfl
    · next hno =>
      exact absurd hr (hno h r hget)
  · next hno =>
    exact absurd hfind (hno k i ha)

theorem exec_chunkLoadDone_gated (hgate : s.itemGate 2 h.stripe h.gen = (g, false)) : exec .chunkLoadDone s = .next g :=
  (execChunkLoadDone_eq ha hfind hi hr hgate).trans (if_pos rfl)

variable (hgate : s.itemGate 2 h.stripe h.gen = (g, true))

include hgate

theorem exec_chunkLoadDone_good {m : Map (List Nat)} (hread : g.readChunk k r.base h.chunk 4096 [] = (m, none)) :
    Gives (exec .chunkLoadDone s) (fun t =>
      t.link.halves = s.link.halves.set i (some { h with ready := true, codes := m }) ∧
      Keeps s t [.regs, .journal, .root, .link, .mem, .freeCount]) := by
  have hg := State.itemGate_two_keeps hgate
  obtain ⟨u, hu, harr⟩ := State.arrived_good hread i
  have hlink : u.link = s.link := (hu.2 .link (by decide)).trans (hg.2 .link (by decide))
  refine ⟨_, (execChunkLoadDone_eq ha hfind hi hr hgate).trans (if_neg (by decide)), ?_, ?_⟩
  · rw [harr, ← hlink]
    rfl
  · rw [harr]
    exact (hg.mono.then hu).then (u.loaded_keeps i h m)

theorem exec_chunkLoadDone_bad {m : Map (List Nat)} {j : Nat} (hread : g.readChunk k r.base h.chunk 4096 [] = (m, some j)) :
    Gives (exec .chunkLoadDone s) (fun t =>
      t.link.halves[i]? = some none ∧ t.f LEH_STATUS.REREAD_SEEN = 1 ∧
      t.f LEH_CNT_REREAD.COUNT = min (s.f LEH_CNT_REREAD.COUNT + 1) (2 ^ LEH_CNT_REREAD.COUNT.w - 1) ∧
      t.f GAF_STATUS.HALTED = 1 ∧ (s.f GAF_STATUS.HALTED ≠ 1 → t.f GAF_HALT_CAUSE.CODE = 0x0C12)) := by
  obtain ⟨u, hu, harr⟩ := State.arrived_bad hread i
  have hg : Keeps s (g.free 8).2 [.root, .freeCount] := (State.itemGate_two_keeps hgate).mono.then (g.free_keeps 8)
  obtain ⟨hseen, hcount, hhalted⟩ := u.reread_spec h.chunk j (g.free 8).1
  have hv : Keeps s (u.reread h.chunk j (g.free 8).1) [.root, .freeCount, .regs, .journal, .mem] :=
    (hg.mono.then hu.1).then (u.reread_keeps _ _ _)
  have hf {x : Fld} (hx : x.addr < 0x1000000) (hlo : x.lo < 64) : u.f x = s.f x := (hu.2 x hx hlo).trans (hg.f_eq x)
  obtain ⟨h1, h2⟩ := State.badBlock_halted ((congrArg Gaffer.active (hv.2 .gaf (by decide))).trans ha) i h.chunk j (g.free 8).1 g.openFlash
  have hkeep := (u.reread h.chunk j (g.free 8).1).badBlock_keepsFields i h.chunk j (g.free 8).1 g.openFlash
  have hhalt : (u.reread h.chunk j (g.free 8).1).f GAF_STATUS.HALTED = s.f GAF_STATUS.HALTED :=
    hhalted.trans (hf (by decide) (by decide))
  refine ⟨_, (execChunkLoadDone_eq ha hfind hi hr hgate).trans (if_neg (by decide)), ?_⟩
  rw [harr]
  refine ⟨?_, ?_, ?_, h1, fun hn => h2 (hhalt ▸ hn)⟩
  · exact State.badBlock_halves _ (h := some h) (by rw [hv.2 .link (by decide)]; exact hi) _ _ _ _
  · exact (hkeep _ (by decide)).trans hseen
  · exact (hkeep _ (by decide)).trans (hcount.trans (by rw [hf (by decide) (by decide)]))

end

/-- Without a stripe in motion Lehr and the commit point do nothing. -/
theorem exec_noStripe {s : State} (ha : s.gaf.active = none) :
    exec .chunkServeStart s = .next s ∧ exec .chunkLoadDone s = .next s ∧ exec .commitPoint s = .next s := by
  have hkick : s.kickLehr = s := by rw [State.kickLehr, ha]
  refine ⟨?_, ?_, ?_⟩
  · change execChunkServeStart s = _
    rw [execChunkServeStart, ha]
  · change execChunkLoadDone s = _
    unfold execChunkLoadDone
    rw [hkick]
    extract_lets s0
    split
    · next hk _ => exact absurd (hk.symm.trans ha) nofun
    · rfl
  · change execCommitPoint s = _
    rw [execCommitPoint, ha]

/-- Settles O43: the outcome of each of the three steps as one case distinction, and the frame of what it reports. -/
theorem chunksAndCommits : Obligations.ChunksAndCommits := by
  unfold Obligations.ChunksAndCommits
  refine ⟨fun s k r ha hserve hen hlive hn hr hhalf => ⟨?_, ?_⟩, fun s g k i h r ha hfind hi hr => ⟨fun hgate => ?_, ?_⟩,
    fun s k ha hlive hn ht0 hknown => ⟨?_, ?_⟩, fun s => exec_noStripe⟩
  · exact exec_chunkServeStart_serves ha hserve hen hlive hn hr hhalf
  · exact exec_chunkServeStart_underrun ha hserve hen hlive hn hr hhalf
  · rcases hread : g.readChunk k r.base h.chunk 4096 [] with ⟨m, _ | j⟩
    · exact exec_chunkLoadDone_good ha hfind hi hr hgate hread
    · exact exec_chunkLoadDone_bad ha hfind hi hr hgate hread
  · exact exec_chunkLoadDone_gated ha hfind hi hr
  · exact exec_commitPoint_acked ha hlive hn ht0 hknown
  · exact exec_commitPoint_missing ha hlive hn ht0 hknown

end Sys2Proof.Machine

/-! # A context whose OPEN bit is an event counter (O47)

The register of a context lies at 0x600100 + 0x10 × its number, for every number that a stripe may carry; that of context 0xE0003 is the
register in which the journal counts Punty's events. The event of a refused nonce closes that context before the halt of its job looks
at it. -/

namespace Sys2Proof.Machine

open Sys2Proof

set_option Elab.async false

/-- A class 3 event after which its context is not open halts no job. -/
theorem State.jobFault_ctxs_of_closed {s : State} {c code : Nat} {args : List Arg}
    (h : (s.journalEvent code 3 false args).ctxOpen c = false) : (s.jobFault c code false args).gather.ctxs = s.gather.ctxs := by
  have hne : ¬ ((s.journalEvent code 3 false args).ctxOpen c = true) := by rw [h]; exact Bool.false_ne_true
  rw [State.jobFault, State.jobHalt, if_neg hne]
  rfl

/-- An event raises the count of its source's events. -/
theorem State.journalEvent_seq (s : State) (code cls : Nat) (args : List Arg) :
    (s.journalEvent code cls false args).f (EVJ_SEQ.SEQ (code / 256)) = (s.f (EVJ_SEQ.SEQ (code / 256)) + 1) % 2 ^ 32 :=
  State.f_put_same _ _ _

/-- The nonce of a stripe is refused, and the first time its job faults. -/
def State.nonceRefused (s : State) (k : Stripe) : State :=
  { s with mot := { s.mot with badNonce := true } }.jobFault k.ctx 0x0C20 false
    [a32 k.num, a8 (s.genF 2 k.gen PUN_KS_CTL.SLOT), a32 (s.nonceOf k % 2 ^ 32)]

theorem State.watchArm_in_time {s : State} {k : Stripe} {d : Int} (ha : s.gaf.active = some k) (hw : s.watching = true)
    (hd : s.armAhead k = some d) (hmin : s.armMin k ≤ d) : s.watchArm = s := by
  simp only [State.watchArm, ha, hw, hd, if_true, if_neg (not_lt.mpr hmin)]

theorem exec_t0Arm_nonceRefused {s g : State} {k : Stripe} {d : Int} (ha : s.gaf.active = some k) (hw : s.watching = true)
    (hd : s.armAhead k = some d) (hmin : s.armMin k ≤ d) (hmay : s.mayArm k = true) (hgate : s.itemGate 3 k.num k.gen = (g, true))
    (hbad : g.nonceBad k = true) (hfirst : g.mot.badNonce = false) : exec .t0Arm s = .next (g.nonceRefused k) := by
  change execT0Arm s = _
  simp only [execT0Arm, State.watchArm_in_time ha hw hd hmin, ha, hmay, hgate, if_true, State.armChecked, hbad, hfirst,
    Bool.false_eq_true, if_false]
  rfl

/-! ### The state -/

/-- The context whose OPEN bit is bit 0 of Punty's count of events. -/
def collidingCtx : Nat := 0xE0003

theorem open_key_collidingCtx : (GTH_CTX_CFG.OPEN collidingCtx).key = (EVJ_SEQ.SEQ 0x0C).key := by decide

theorem State.f_open_collidingCtx (s : State) : s.f (GTH_CTX_CFG.OPEN collidingCtx) = s.f (EVJ_SEQ.SEQ 0x0C) := by
  rw [State.f, State.f, open_key_collidingCtx]
  rfl

/-- Punty's second event closes the context. -/
theorem State.second_event_closes {s : State} (h : s.f (EVJ_SEQ.SEQ 0x0C) = 1) (code cls : Nat) (args : List Arg)
    (hc : code / 256 = 0x0C) : (s.journalEvent code cls false args).ctxOpen collidingCtx = false := by
  have hseq := s.journalEvent_seq code cls args
  rw [hc, h, ← State.f_open_collidingCtx] at hseq
  rw [State.ctxOpen, State.on, hseq]
  rfl

/-- A stripe of that context. -/
def collidingStripe : Stripe :=
  { num := 1, len := 512, orgX := 0, orgY := 0, xf0 := 0, yax := 0, neg := false, ctx := collidingCtx, gen := 0, seq0 := 0, job := 0 }

/-- A bank under which a stripe is encrypted and axis X reads channel 0 in grid units. -/
def encryptedBank : Bank :=
  { Bank.zero with
    vals := mset (mset (mset Bank.zero.vals (SFB_AXIS_SCALE.SCALE 0).key 65536) (SFB_AXIS_CFG.SRC 0).key 0) PUN_KS_CTL.EN.key 1 }

/-- The registers: all lanes READY, and Punty has registered one event. -/
def collidingRegs : State :=
  (((List.range 72).foldl (fun s l => s.put (PUN_LANE_STATE.STATE l) 5) State.reset).put FLS_ARM.LEAD 200).put (EVJ_SEQ.SEQ 0x0C) 1

/-- The stripe is 650 units before its first flash at 100 px/s, its chunks are complete, and its slot has used nonce 9. -/
def nonceCollision : State :=
  { collidingRegs with
    root := { collidingRegs.root with banks := List.replicate 4 encryptedBank, staged := { Bank.zero with gen := 7 } }
    gather := { collidingRegs.gather with ctxs := List.replicate (collidingCtx + 1) JobCtx.empty }
    par := { collidingRegs.par with ring :=
      [{ num := 1, gen := 0, ctx := collidingCtx, base := 0, nc := 9, done := 9, cols := 512, sent := 0, flashes := 512, minX0 := 0,
         closed := false }] }
    link := { collidingRegs.link with nonces := collidingRegs.link.nonces.set 0 (some 9) }
    chans := collidingRegs.chans.set 0 { Chan.reset with seen := { pos := -650, speed := 107374182400, stamp := 0 } }
    mot := { collidingRegs.mot with prof := [0, 100, 100, 0, 100, 100, 10, 50], vc := 100, leadOver := true }
    gaf := { collidingRegs.gaf with active := some collidingStripe }
    power := { collidingRegs.power with released := true } }

theorem nonceCollision_ctx : nonceCollision.gather.ctxs[collidingStripe.ctx]? = some JobCtx.empty := by
  change (List.replicate (collidingCtx + 1) JobCtx.empty)[collidingCtx]? = _
  rw [List.getElem?_replicate, if_pos (Nat.lt_succ_self _)]

theorem nonceCollision_watches : nonceCollision.watching = true ∧ nonceCollision.armAhead collidingStripe = some 15497 ∧
    nonceCollision.armMin collidingStripe ≤ 15497 ∧ nonceCollision.mayArm collidingStripe = true := by
  decide +kernel

theorem nonceCollision_nonce : nonceCollision.actGen 3 = collidingStripe.gen ∧ nonceCollision.nonceBad collidingStripe = true ∧
    nonceCollision.ctxOpen collidingStripe.ctx = true := by
  decide +kernel

theorem nonceCollision_seq :
    { nonceCollision with mot := { nonceCollision.mot with badNonce := true } }.f (EVJ_SEQ.SEQ 0x0C) = 1 := by
  decide +kernel

/-- The event raises the count from 1 to 2: the context reads as closed. -/
theorem nonceCollision_closes (args : List Arg) :
    ({ nonceCollision with mot := { nonceCollision.mot with badNonce := true } }.journalEvent 0x0C20 3 false args).ctxOpen
      collidingStripe.ctx = false := by
  exact State.second_event_closes (nonceCollision_seq) 0x0C20 3 args rfl

/-- Refutes O47: the job of context 0xE0003 is not halted, since the event itself clears the bit that says that the context is open. -/
theorem not_flashSequencer : ¬ Obligations.FlashSequencer := by
  unfold Obligations.FlashSequencer
  rintro ⟨harm, -⟩
  obtain ⟨hw, hd, hmin, hmay⟩ := nonceCollision_watches
  obtain ⟨hgen, hbad, hopen⟩ := nonceCollision_nonce
  have hgate := State.itemGate_active (stripe := collidingStripe.num) hgen
  obtain ⟨h, -⟩ := ((harm nonceCollision collidingStripe 15497 rfl hw hd).1 hmin).1 nonceCollision hmay
  obtain ⟨-, hhalts, -⟩ := h hgate
  obtain ⟨t, ht, hhalt, -⟩ := hhalts JobCtx.empty hbad rfl hopen nonceCollision_ctx rfl
  cases Host.Outcome.next.inj (ht.symm.trans (exec_t0Arm_nonceRefused rfl hw hd hmin hmay hgate hbad rfl))
  rw [State.ctx, State.nonceRefused, State.jobFault_ctxs_of_closed (nonceCollision_closes _), List.getD_eq_getElem?_getD] at hhalt
  have := hhalt.symm.trans (congrArg (fun o => (o.getD JobCtx.empty).halt) nonceCollision_ctx)
  exact absurd this nofun

end Sys2Proof.Machine

/-! # Leave (R451, R452)

A request waits behind those that wait and takes nothing; a requester that gives its leave up holds none. -/

namespace Sys2Proof.Machine

open Sys2Proof

set_option Elab.async false

theorem State.flagWait_keeps (s : State) (who : Requester) : Keeps s (s.flagWait who) [.regs] := by
  unfold State.flagWait
  cases who with
  | training _ | sage _ => exact .refl s _
  | marver _ _ | coarse | pixel | parison => exact s.flag_keeps _

theorem State.askLeave_keeps (s : State) (who : Requester) (units : Nat) : Keeps s (s.askLeave who units) [.regs, .power] := by
  unfold State.askLeave
  extract_lets s1
  have h1 : Keeps s s1 [.regs] := .ite _ (.refl s _) (s.flagWait_keeps who)
  exact (h1.mono.then (keeps_power _ _)).then (State.showLeave_keeps _)

/-- A request stands behind those that wait, from now on; no grant changes. -/
theorem State.askLeave_power (s : State) (who : Requester) (units : Nat) :
    (s.askLeave who units).power.waiting = s.power.waiting ++ [⟨who, units, s.mono100⟩] ∧
    (s.askLeave who units).power.grants = s.power.grants := by
  unfold State.askLeave
  extract_lets s1
  have h1 : Keeps s s1 [.regs] := .ite _ (.refl s _) (s.flagWait_keeps who)
  have hp : s1.power = s.power := h1.2 .power (by decide)
  have ht : s1.tick = s.tick := h1.2 .tick (by decide)
  constructor
  · change s1.power.waiting ++ [Leave.mk who units s1.mono100] = _
    rw [hp, State.mono100, ht]
    rfl
  · change s1.power.grants = _
    rw [hp]

theorem State.askLeave_holdsLeave (s : State) (who other : Requester) (units : Nat) :
    (s.askLeave who units).holdsLeave other = s.holdsLeave other := by
  simp only [State.holdsLeave, (s.askLeave_power who units).2]

theorem State.giveLeave_holdsLeave (s : State) (who : Requester) : (s.giveLeave who).holdsLeave who = false := by
  have hg : (s.giveLeave who).power.grants = (s.endWait who).power.grants.filter (fun g => !decide (g.who = who)) := rfl
  simp [State.holdsLeave, hg]

end Sys2Proof.Machine

/-! # The coarse stage and the pixel stage (O38) -/

namespace Sys2Proof.Machine

open Sys2Proof

set_option Elab.async false

theorem keeps_glory (s : State) (g : Glory) : Keeps s { s with glory := g } [.glory] :=
  .of_same rfl fun p => by cases p <;> simp [Part.same]

theorem keeps_glory_par (s : State) (g : Glory) (p : Parison) : Keeps s { s with glory := g, par := p } [.glory, .par] :=
  .of_same rfl fun p => by cases p <;> simp [Part.same]

/-! ### Density items (R31, R131, R146) -/

theorem exec_densityItem_inWork {s : State} {d : DensItem} {rest : List DensItem} {k : Stripe} (hin : s.glory.coarseIn = d :: rest)
    (hk : s.glory.stripe = some k) (hnum : k.num = d.stripe) (hgen : k.gen = d.gen) :
    exec .densityItem s = .next (({ s with glory := { s.glory with coarseIn := rest } }).takeDensity k d).kickCoarse := by
  change execDensityItem s = _
  simp only [execDensityItem, hin, hk]
  exact if_pos ⟨hnum, hgen⟩

theorem exec_densityItem_none {s : State} (hin : s.glory.coarseIn = []) : exec .densityItem s = .next s := by
  change execDensityItem s = _
  simp only [execDensityItem, hin]

section

variable {s g : State} {d : DensItem} {rest : List DensItem} {k : Stripe} (hin : s.glory.coarseIn = d :: rest)
  (hk : s.glory.stripe = none) (hd : s.densStripe d = some k)

include hin hk hd

theorem exec_densityItem_gated (hgate : s.itemGate 0 k.num k.gen = (g, false)) : exec .densityItem s = .next g := by
  change execDensityItem s = _
  simp only [execDensityItem, hin, hk, hd, hgate, if_true]

variable (hgate : s.itemGate 0 k.num k.gen = (g, true))

include hgate

theorem exec_densityItem_refused (hc : g.glyCause (g.genF 0 k.gen) ≠ 0) :
    exec .densityItem s =
      .next ((({ g with glory := { g.glory with coarseIn := rest } }).jobFault k.ctx 0x0910 false
        [a32 k.num, a32 k.gen, a8 (g.glyCause (g.genF 0 k.gen))]).dropStripe k) := by
  change execDensityItem s = _
  simp only [execDensityItem, hin, hk, hd, hgate, Bool.true_eq_false, if_false]
  exact if_pos hc

theorem exec_densityItem_begins (hc : g.glyCause (g.genF 0 k.gen) = 0) :
    exec .densityItem s =
      .next (({ g with glory := { g.glory with
        coarseIn := rest, stripe := some k, src := [], dens := [], corr := [], colsDone := 0, dsat := 0 } }).takeDensity k d).kickCoarse := by
  change execDensityItem s = _
  simp only [execDensityItem, hin, hk, hd, hgate, Bool.true_eq_false, if_false]
  exact if_neg (by simpa using hc)

end

/-! ### A coarse column (R135, R144, R409) -/

theorem State.kickCoarse_keeps (s : State) : Keeps s s.kickCoarse [.regs, .power] := by
  unfold State.kickCoarse
  split
  · exact .refl s _
  · exact .ite _ (s.askLeave_keeps _ _) (.refl s _)

theorem State.kickCoarse_holdsLeave (s : State) (who : Requester) : s.kickCoarse.holdsLeave who = s.holdsLeave who := by
  unfold State.kickCoarse
  split
  · rfl
  · split
    · exact s.askLeave_holdsLeave _ _ _
    · rfl

/-- The corrections with those of a coarse column: m_ITER of each of its cells. -/
def State.columnCorr (s : State) (k : Stripe) (i : Int) : Map Nat :=
  ((List.range (4 * s.rows k + 2)).map (fun j => (j : Int) - 1)).foldl (fun m j =>
    mset m (cellKey i j) ((s.kernel k).m (s.genF 0 k.gen GLY_CTL.ITER) i j)) s.glory.corr

section

variable {s : State} {k : Stripe} (hk : s.glory.stripe = some k) (hl : s.holdsLeave .coarse = true)

include hk hl

theorem exec_coarseColumnDone_bad {w : Nat} (hn : s.glory.colsDone < coarseCols k)
    (hbad : s.fogBad k ((s.glory.colsDone : Int) - 1) = some w) :
    ∃ n, Keeps s n [.regs, .mem, .journal] ∧
      exec .coarseColumnDone s = .next (n.jobFault k.ctx 0x1110 false [a8 (s.hbmGroup w), a36 w, a8 0]) := by
  refine ⟨(s.fogSuspects k ((s.glory.colsDone : Int) - 1)).foldl State.noteWord s, (Notes.foldl State.noteWord_notes _ s).1.mono, ?_⟩
  change execCoarseColumnDone s = _
  simp only [execCoarseColumnDone, hk, hbad]
  exact if_neg (by simp [hl, hn])

theorem exec_coarseColumnDone_good (hn : s.glory.colsDone + 1 < coarseCols k)
    (hgood : s.fogSuspects k ((s.glory.colsDone : Int) - 1) = []) :
    Gives (exec .coarseColumnDone s) (fun t => t.glory.colsDone = s.glory.colsDone + 1 ∧ t.holdsLeave .coarse = false ∧
      t.glory.corr = s.columnCorr k ((s.glory.colsDone : Int) - 1) ∧ Keeps s t [.regs, .glory, .power]) := by
  have hbad : s.fogBad k ((s.glory.colsDone : Int) - 1) = none := by simp [State.fogBad, hgood]
  have hexec : execCoarseColumnDone s = .next (({ s with glory := { s.glory with
      corr := s.columnCorr k ((s.glory.colsDone : Int) - 1), colsDone := s.glory.colsDone + 1 } }).giveLeave .coarse).kickCoarse := by
    simp only [execCoarseColumnDone, hk, hbad, hgood, List.foldl_nil]
    rw [if_neg (by simp [hl]; omega), if_neg]
    · rfl
    · have hg (u : State) : (u.giveLeave .coarse).glory = u.glory := (u.giveLeave_keeps .coarse).2 .glory (by decide)
      rw [hg]
      exact Nat.ne_of_lt hn
  refine ⟨_, hexec, ?_⟩
  generalize hs1 : { s with glory := { s.glory with
      corr := s.columnCorr k ((s.glory.colsDone : Int) - 1), colsDone := s.glory.colsDone + 1 } } = s1
  have h1 : Keeps s s1 [.glory] := hs1 ▸ keeps_glory s _
  have h2 := (s1.giveLeave_keeps .coarse).then (State.kickCoarse_keeps _)
  have hglory : (s1.giveLeave .coarse).kickCoarse.glory = s1.glory := h2.2 .glory (by decide)
  refine ⟨?_, ?_, ?_, h1.mono.then h2⟩
  · rw [hglory, ← hs1]
  · rw [State.kickCoarse_holdsLeave, State.giveLeave_holdsLeave]
  · rw [hglory, ← hs1]

end

/-! ### Kernel and checks (R135, R146) -/

theorem Kernel.m_le (e : Kernel) (n : Nat) (i j : Int) : e.m n i j ≤ 65535 := by
  cases n with
  | zero => simp [Kernel.m]
  | succ n =>
    rw [Kernel.m]
    split
    · exact Nat.zero_le _
    · exact Int.toNat_le.mpr (min_le_left _ _)

theorem State.glyCause_spec (s : State) (rd : Fld → Nat) :
    s.glyCause rd ≤ 7 ∧ (s.glyCause rd = 1 ↔ rd GLY_CTL.ITER = 3) ∧
    (rd GLY_CTL.ITER ≠ 3 → (4 < rd GLY_KERNEL_CTL.TERMS ∨ 16 < rd GLY_KERNEL_CTL.RADIUS) → s.glyCause rd = 2) := by
  unfold State.glyCause
  extract_lets la fog sh fw fh a lo
  by_cases h1 : rd GLY_CTL.ITER = 3
  · simp only [if_pos h1]
    exact ⟨by decide, by simp [h1], fun h => absurd h1 h⟩
  by_cases h2 : 4 < rd GLY_KERNEL_CTL.TERMS ∨ 16 < rd GLY_KERNEL_CTL.RADIUS
  · simp only [if_neg h1, if_pos h2]
    exact ⟨by decide, by simp [h1], fun _ _ => trivial⟩
  · simp only [if_neg h1, if_neg h2]
    refine ⟨?_, ⟨fun h => ?_, fun h => absurd h h1⟩, fun _ h => absurd h h2⟩
    · (repeat' split) <;> decide
    · exfalso
      revert h
      (repeat' split) <;> decide

theorem State.mAt_of_noIter {s : State} {k : Stripe} (h : s.genF 0 k.gen GLY_CTL.ITER = 0) (x y : Nat) : s.mAt k x y = 4096 := by
  rw [State.mAt, if_pos h]

/-! ### Tile headers (R31, R140, R141, R144) -/

theorem exec_tileHeader_busy {s : State} {h : TileHdr} (ht : s.glory.tile = some h) : exec .tileHeader s = .next s := by
  change execTileHeader s = _
  simp only [execTileHeader, ht]

/-- The pixel stage with the header of a tile. -/
def State.headerTaken (s : State) (k : Stripe) (h : TileHdr) : State :=
  { s with glory := { s.glory with
    pix := some k, tile := some h, sat := (if s.glory.pix.isSome then s.glory.sat else 0),
    headers := s.glory.headers.filter (fun x => !decide (x = h)),
    halfUsed := s.glory.halfUsed.set (s.bandOf k h % 2) (some (s.bandOf k h)) } }

section

variable {s : State} {k : Stripe} {h : TileHdr} (ht : s.glory.tile = none) (hk : s.pixStripe = some k)
  (hen : s.runs GLY_CTL.ENABLE = true) (hasked : s.askedLeave .pixel = false) (hnext : s.nextHeader k = some h)

include ht hk hen hasked hnext

theorem execTileHeader_eq :
    execTileHeader s =
      if s.genKnown 1 h.gen = false then .next (s.genMismatch 0x09 h.stripe h.gen)
      else .next ((s.headerTaken k h).askLeave .pixel (max 1 (s.f GLY_LEAVE.PIXEL))) := by
  simp only [execTileHeader, ht, hk, hnext]
  rw [if_pos (by simp [hen, hasked])]
  unfold State.headerTaken
  cases s.glory.pix <;> rfl

theorem exec_tileHeader_known (hgen : s.genKnown 1 h.gen = true) :
    Gives (exec .tileHeader s) (fun t => t.glory.tile = some h ∧ t.glory.pix = some k ∧ h ∉ t.glory.headers ∧
      t.power.waiting = s.power.waiting ++ [⟨.pixel, max 1 (s.f GLY_LEAVE.PIXEL), s.mono100⟩] ∧ t.power.grants = s.power.grants ∧
      Keeps s t [.regs, .glory, .power]) := by
  have hkeep := (s.headerTaken k h).askLeave_keeps .pixel (max 1 (s.f GLY_LEAVE.PIXEL))
  have hglory := hkeep.2 .glory (by decide)
  obtain ⟨hwait, hgrants⟩ := (s.headerTaken k h).askLeave_power .pixel (max 1 (s.f GLY_LEAVE.PIXEL))
  refine ⟨_, (execTileHeader_eq ht hk hen hasked hnext).trans (if_neg (by simp [hgen])), ?_, ?_, ?_, hwait, hgrants,
    .then (.mono (keeps_glory s _)) hkeep⟩
  · rw [hglory]
    rfl
  · rw [hglory]
    rfl
  · rw [hglory]
    simp [State.headerTaken]

theorem exec_tileHeader_unknown (hgen : s.genKnown 1 h.gen = false) :
    exec .tileHeader s = .next (s.halt 0x0F11 s.openFlash [a8 0x09, a32 h.stripe, a32 h.gen]) :=
  (execTileHeader_eq ht hk hen hasked hnext).trans (if_pos hgen)

end

/-! ### Pixel words (R125, R126, R138, R139) -/

theorem keeps_blow (s : State) (b : Blowpipe) : Keeps s { s with blow := b } [.blow] :=
  .of_same rfl fun p => by cases p <;> simp [Part.same]

theorem keeps_mslots (s : State) (l : List (Option MSlot)) : Keeps s { s with mslots := l } [.mslots] :=
  .of_same rfl fun p => by cases p <;> simp [Part.same]

theorem keeps_glory_mem (s : State) (g : Glory) (m : MemSys) : Keeps s { s with glory := g, mem := m } [.glory, .mem] :=
  .of_same rfl fun p => by cases p <;> simp [Part.same]

theorem State.setMslot_keeps (s : State) (e k : Nat) (m : Option MSlot) : Keeps s (s.setMslot e k m) [.mslots] := keeps_mslots s _

/-- A slot that holds a tile reads as it is set. -/
theorem State.mslot_setMslot {s u : State} {e k : Nat} {m : MSlot} (h : s.mslot e k = some m) (hu : u.mslots = s.mslots)
    (x : Option MSlot) : (u.setMslot e k x).mslot e k = x := by
  have hlt : 2 * e + k < u.mslots.length := hu ▸ (List.getElem?_eq_some_iff.mp (Option.join_eq_some_iff.mp h)).1
  rw [State.mslot, State.setMslot, List.getElem?_set_self hlt]
  rfl

/-- A number put where nothing stands reads as it is, though a 0 is not listed. -/
theorem mnat_lmod_mset {l : List (Map Nat)} {i key : Nat} {b : Map Nat} (hb : l[i]? = some b) (hnone : mget b key = none) (v : Nat) :
    mnat ((if v = 0 then l else lmod l i (fun m => mset m key v)).getD i []) key = v := by
  by_cases hv : v = 0
  · rw [if_pos hv, List.getD_eq_getElem?_getD, hb, hv]
    simp [mnat, hnone]
  · have hlt : i < l.length := (List.getElem?_eq_some_iff.mp hb).1
    rw [if_neg hv, lmod, hb, List.getD_eq_getElem?_getD, List.getElem?_set_self hlt]
    simp [mnat]

theorem exec_pixelWord_writes {s : State} {k : Stripe} {h : TileHdr} {m : MSlot} {xt y : Nat} (ht : s.glory.tile = some h) (hk : s.glory.pix = some k)
    (hm : s.mslot h.eng h.slot = some m) (hne : h.empty = false) (hdrain : m.draining = true) (hword : m.word + 1 < 65536)
    (hl : s.holdsLeave .pixel = true) (hxt : xt = h.tcol * 256 + m.word / 256) (hy : y = h.trow * 256 + m.word % 256)
    (hcols : min (xt / 64 + 3) (coarseCols k) ≤ s.glory.colsDone) {b : Map Nat} (hb : s.glory.halves[s.bandOf k h % 2]? = some b)
    (hnone : mget b (xt * 2 ^ 18 + y) = none) {d : Nat} {sat : Bool}
    (hdose : doseOf (fun c => s.genF 1 k.gen (GLY_BASE_DOSE.DOSE c)) (fun c => if c = 0 then 0 else s.genF 1 k.gen (GLY_CURVE.OUT c))
        (s.mAt k xt y) (validEntries (pixelWord (s.f MRV_OVL_THRESH.UNITS) ((mget m.acc m.word).getD []))) = (d, sat)) :
      Gives (exec .pixelWord s) (fun t =>
        mnat (t.glory.halves.getD (s.bandOf k h % 2) []) (xt * 2 ^ 18 + y) = d + (if sat = true then 4096 else 0) ∧
        t.mslot h.eng h.slot = some { m with acc := mdel m.acc m.word, word := m.word + 1 } ∧
        Keeps s t [.regs, .mslots, .glory, .blow, .mem]) := by
  subst hxt hy
  change Gives (execPixelWord s) _
  unfold execPixelWord
  split
  · next h' k' hh' hk' =>
    cases Option.some.inj (hh'.symm.trans ht)
    cases Option.some.inj (hk'.symm.trans hk)
    split
    · next hno => exact absurd (hm.symm.trans hno) nofun
    · next m' hm' =>
      cases Option.some.inj (hm'.symm.trans hm)
      extract_lets xt y sums pw cl ov s1 s2 s3 srcBlow s4 rd n src5 srcGlory5
      rw [if_neg (by simp [hne, hdrain, hl]; omega)]
      split
      next d' sat' hd' =>
      cases hd'.symm.trans hdose
      extract_lets v s5 src6 srcGlory6 s6 s7
      rw [if_neg (by omega)]
      have h3 : Keeps s s3 [.regs] :=
        have h1 := (s.count_keeps MRV_CNT_CLAMP.COUNT cl).then (State.count_keeps _ MRV_CNT_OVER.COUNT ov)
        have h2 : Keeps s s2 [.regs] := .ite _ (h1.then (s1.flag_keeps _)) h1
        .ite _ (h2.then (s2.flag_keeps _)) h2
      have h4 : Keeps s s4 [.regs, .blow] := h3.mono.then (keeps_blow s3 _)
      have h5 : Keeps s4 s5 [.glory, .mem] := .ite _ (.mono (keeps_mem s4 _)) (keeps_glory_mem s4 _ _)
      have h6 : Keeps s5 s6 [.regs, .glory] :=
        .ite _ (.then (.mono (.then (s5.count_keeps _ _) (State.flag_keeps _ _))) (keeps_glory src6 _)) (.refl s5 _)
      have hall : Keeps s s6 [.regs, .glory, .blow, .mem] := (h4.mono.then h5).then h6
      have hglory : s4.glory = s.glory := h4.2 .glory (by decide)
      have hhalves5 : s5.glory.halves =
          if v = 0 then s.glory.halves else lmod s.glory.halves (n % 2) (fun b => mset b (xt * 2 ^ 18 + y) v) := by
        rw [← hglory]
        simp only [s5]
        split <;> rfl
      have hhalves : s7.glory.halves = s5.glory.halves := by
        change s6.glory.halves = _
        simp only [s6]
        split <;> rfl
      refine ⟨s7, rfl, ?_, State.mslot_setMslot hm (hall.2 .mslots (by decide)) _, hall.mono.then (s6.setMslot_keeps _ _ _)⟩
      rw [hhalves, hhalves5]
      exact mnat_lmod_mset hb hnone v
  · next hno => exact absurd hk (hno h k ht)
/-! ### Bands (R141) -/

theorem exec_bandRelease_waits {s : State} {k : Stripe} (hk : s.glory.pix = some k)
    (ht : mnat s.glory.tilesIn s.glory.bandNext ≠ min 64 (s.rows k)) : exec .bandRelease s = .next s := by
  change execBandRelease s = _
  simp only [execBandRelease, hk]
  exact if_neg fun h => ht h.2.1

theorem State.kickParison_keeps (s : State) : Keeps s s.kickParison [.regs, .power] := by
  unfold State.kickParison
  split
  · exact .ite _ (s.askLeave_keeps _ _) (.refl s _)
  · exact .refl s _

/-- The next band released to Parison. -/
def State.bandOut (s : State) (k : Stripe) (b : Nat) : State :=
  { s with
    glory := { s.glory with bandNext := s.glory.bandNext + 1, tilesIn := mdel s.glory.tilesIn s.glory.bandNext },
    par := { s.par with bands := s.par.bands ++ [{ key := k.key, gen := k.gen, no := b, half := s.glory.bandNext % 2 }] } }

theorem exec_bandRelease_releases {s : State} {k : Stripe} {b : Nat} (hk : s.glory.pix = some k)
    (hb : b = s.glory.bandNext - s.glory.bandBase) (hlast : b + 1 < cdiv k.len 256 * s.bandsPer k)
    (htiles : mnat s.glory.tilesIn s.glory.bandNext = min 64 (s.rows k)) (hfreed : b / s.bandsPer k < mnat s.glory.colsFreed k.key)
    (hcols : min (4 * (b / s.bandsPer k) + 6) (coarseCols k) ≤ s.glory.colsDone) :
    Gives (exec .bandRelease s) (fun t =>
      t.par.bands = s.par.bands ++ [{ key := k.key, gen := k.gen, no := b, half := s.glory.bandNext % 2 }] ∧
      t.glory.bandNext = s.glory.bandNext + 1 ∧ t.glory.pix = some k ∧ Keeps s t [.regs, .glory, .par, .power]) := by
  have hexec : execBandRelease s =
      .next ((s.bandOut k b).put GLY_SEQ_RELEASED.SEQ (k.seq0 + b / s.bandsPer k)).kickParison := by
    unfold execBandRelease
    split
    · next hno => exact absurd (hk.symm.trans hno) nofun
    · next k' hk' =>
      cases Option.some.inj (hk'.symm.trans hk)
      extract_lets n per c col total srcGlory srcPar s1 src srcGlory1 s2
      subst hb
      have hs2 : s2 = s1 := if_neg (Nat.ne_of_lt hlast)
      rw [if_pos ⟨Nat.lt_of_succ_lt hlast, htiles, hfreed, hcols⟩, hs2]
      rfl
  refine ⟨_, hexec, ?_⟩
  have h1 : Keeps s (s.bandOut k b) [.glory, .par] := keeps_glory_par s _ _
  have h2 : Keeps (s.bandOut k b) ((s.bandOut k b).put GLY_SEQ_RELEASED.SEQ (k.seq0 + b / s.bandsPer k)).kickParison [.regs, .power] :=
    ((s.bandOut k b).put_keeps _ _).mono.then (State.kickParison_keeps _)
  have hglory := h2.2 .glory (by decide)
  have hpar := h2.2 .par (by decide)
  refine ⟨?_, ?_, ?_, h1.mono.then h2⟩
  · rw [hpar]
    rfl
  · rw [hglory]
    rfl
  · rw [hglory]
    exact hk

/-- Settles O38: each step of the two stages through the equation of its branch and the frame of the leave that it asks for or gives up. -/
theorem glory : Obligations.Glory := by
  unfold Obligations.Glory
  refine ⟨⟨?_, ?_, ?_, ?_, ?_, ?_, ?_⟩, ?_, ?_, ?_, ?_, ?_, ?_⟩
  · exact fun s d rest k hin hk hnum hgen => exec_densityItem_inWork hin hk hnum hgen
  · exact fun s g d rest k hin hk hd => ⟨fun hgate =>
      ⟨exec_densityItem_refused hin hk hd hgate, exec_densityItem_begins hin hk hd hgate⟩, exec_densityItem_gated hin hk hd⟩
  · exact fun s => exec_densityItem_none
  · exact fun s k w hk hl hn hbad => exec_coarseColumnDone_bad hk hl hn hbad
  · exact fun s k hk hl hn hgood => exec_coarseColumnDone_good hk hl hn hgood
  · exact fun e i j => ⟨by rw [Kernel.m], fun n => e.m_le n i j⟩
  · exact fun s rd => s.glyCause_spec rd
  · exact fun s k h ht hk hen hasked hnext =>
      ⟨exec_tileHeader_known ht hk hen hasked hnext, exec_tileHeader_unknown ht hk hen hasked hnext⟩
  · exact fun s h => exec_tileHeader_busy
  · exact fun s k h m xt y ht hk hm hne hdrain hword hl hxt hy hcols b hb hnone d sat hdose =>
      exec_pixelWord_writes ht hk hm hne hdrain hword hl hxt hy hcols hb hnone hdose
  · exact fun s k b hk hb hlast htiles hfreed hcols => exec_bandRelease_releases hk hb hlast htiles hfreed hcols
  · exact fun s k => exec_bandRelease_waits
  · exact fun s k x y hiter => State.mAt_of_noIter hiter x y

end Sys2Proof.Machine

/-! # Walks that a dropped stripe loses (R99, R425)

A unit that gives a stripe up ends walks of it and begins none: every walk that remains stands where it stood. -/

namespace Sys2Proof.Machine

open Sys2Proof

set_option Elab.async false

/-- Every walk of the second state is that of the first in the same context. -/
def DropsWalks (s t : State) : Prop := ∀ w v, t.walk w = some v → s.walk w = some v

theorem DropsWalks.refl (s : State) : DropsWalks s s := fun _ _ h => h

theorem DropsWalks.then {s t u : State} (h : DropsWalks s t) (g : DropsWalks t u) : DropsWalks s u := fun w v hv => h w v (g w v hv)

theorem DropsWalks.of_blow {s t : State} (h : t.blow = s.blow) : DropsWalks s t := fun w v hv => by
  rwa [State.walk, h] at hv

theorem DropsWalks.ite {s t u : State} (p : Prop) [Decidable p] (h : DropsWalks s t) (g : DropsWalks s u) :
    DropsWalks s (if p then t else u) := by
  split
  · exact h
  · exact g

theorem Keeps.dropsWalks {s t : State} {l : List Part} (h : Keeps s t l) (hl : Part.blow ∉ l := by decide) : DropsWalks s t :=
  .of_blow (h.2 .blow hl)

theorem State.walk_map {s t : State} {f : Option Walk → Option Walk} (h : t.blow.walks = s.blow.walks.map f) (hf : f none = none)
    (w : Nat) : t.walk w = f (s.walk w) := by
  rw [State.walk, State.walk, h, List.getElem?_map]
  cases s.blow.walks[w]? with
  | none => exact hf.symm
  | some o => rfl

theorem DropsWalks.of_filter {s t : State} {p : Walk → Bool} (h : t.blow.walks = s.blow.walks.map (fun w => w.filter p)) :
    DropsWalks s t := by
  intro w v hv
  rw [State.walk_map h rfl] at hv
  exact (Option.filter_eq_some_iff.mp hv).1

theorem State.reportSweep_dropsWalks (s : State) (w : Sweep) : DropsWalks s (s.reportSweep w) :=
  have h := ((s.report_keeps 0x074F w.degenerate _).dropsWalks).then (State.report_keeps _ 0x0603 w.revoked _).dropsWalks
  .ite _ h (h.then (State.report_keeps _ _ _ _).dropsWalks)

theorem State.giveSlots_dropsWalks (s : State) (k : Stripe) (l : List (Option MSlot)) (i : Nat) : DropsWalks s (s.giveSlots k l i) := by
  induction l generalizing s i with
  | nil => exact .refl s
  | cons m r ih =>
    refine DropsWalks.then ?_ (ih _ (i + 1))
    cases m with
    | none => exact .refl s
    | some t => exact .ite _ (s.giveLeave_keeps _).dropsWalks (.refl s)

theorem State.dropFront_dropsWalks (s : State) (k : Stripe) : DropsWalks s (s.dropFront k) := by
  unfold State.dropFront
  extract_lets s1 srcBlow s2 s3
  have h1 : DropsWalks s s1 := by
    unfold s1
    split
    · exact s.reportSweep_dropsWalks _
    · exact .refl s
  have h2 : DropsWalks s1 s2 := .of_filter (p := fun t => !t.isOf k) rfl
  exact ((h1.then h2).then (s2.giveSlots_dropsWalks k s2.mslots 0)).then (.of_blow rfl)

theorem State.dropGlory_dropsWalks (s : State) (k : Stripe) : DropsWalks s (s.dropGlory k) := by
  unfold State.dropGlory
  extract_lets t1 g1 s1 t2 g2 s2
  have h1 : DropsWalks s s1 := by
    unfold s1
    split
    · exact .ite _ (.then (s.report_keeps _ _ _).dropsWalks (.then (State.giveLeave_keeps _ _).dropsWalks (.of_blow rfl))) (.refl s)
    · exact .refl s
  have h2 : DropsWalks s1 s2 := by
    unfold s2
    split
    · exact .ite _ (.then (s1.report_keeps _ _ _).dropsWalks (.then (State.giveLeave_keeps _ _).dropsWalks (.of_blow rfl))) (.refl s1)
    · exact .refl s1
  exact (h1.then h2).then (.of_blow rfl)

theorem State.freeHalves_dropsWalks (s : State) (l : List Band) : DropsWalks s (s.freeHalves l) := by
  induction l generalizing s with
  | nil => exact .refl s
  | cons b r ih => exact .then (t := s.freeHalf b.half) (.of_blow rfl) (ih _)

theorem State.countHold_dropsWalks (s : State) : DropsWalks s s.countHold := by
  unfold State.countHold
  split
  · exact .refl s
  · exact .of_blow rfl

theorem State.reportParison_dropsWalks (s : State) (k : Stripe) : DropsWalks s (s.reportParison k) :=
  .then (.ite _ (.refl s) (s.journalEvent_keeps _ _ _ _).dropsWalks)
    (.then (State.report_keeps _ _ _ _).dropsWalks (State.report_keeps _ _ _ _).dropsWalks)

theorem State.dropParison_dropsWalks (s : State) (k : Stripe) : DropsWalks s (s.dropParison k) := by
  unfold State.dropParison
  extract_lets t p s1 s2
  have h1 : DropsWalks s s1 := by
    unfold s1
    split
    · exact .ite _ (.then s.countHold_dropsWalks (.then (State.reportParison_dropsWalks _ k)
        (.then (State.giveLeave_keeps _ _).dropsWalks (.of_blow rfl)))) (.refl s)
    · exact .refl s
  exact (h1.then (s1.freeHalves_dropsWalks _)).then (.of_blow rfl)

theorem State.dropStripes_dropsWalks (s : State) (l : List Stripe) : DropsWalks s (s.dropStripes l) := by
  induction l generalizing s with
  | nil => exact .refl s
  | cons k r ih =>
    exact .then (s.dropFront_dropsWalks k) (.then (State.dropGlory_dropsWalks _ k) (.then (State.dropParison_dropsWalks _ k) (ih _)))

theorem State.jobHalt_dropsWalks (s : State) (c code : Nat) : DropsWalks s (s.jobHalt c code) := by
  unfold State.jobHalt
  split
  · split
    · exact .refl s
    · exact .then (t := s.haltedJob c code) (.of_blow rfl) (.then (State.dropStripes_dropsWalks _ _)
        (.then (t := State.releaseOthers _ c) (.of_blow rfl)
          (.then (State.tellDropped_keeps _ _ _).dropsWalks (State.tellDropped_keeps _ _ _).dropsWalks)))
  · exact .refl s

/-- A class 3 event ends walks and begins none. -/
theorem State.jobFault_dropsWalks (s : State) (c code : Nat) (withheld : Bool) (args : List Arg) :
    DropsWalks s (s.jobFault c code withheld args) :=
  .then (s.journalEvent_keeps _ _ _ _).dropsWalks (State.jobHalt_dropsWalks _ _ _)

end Sys2Proof.Machine

/-! # The cell cache and the walks (O33) -/

namespace Sys2Proof.Machine

open Sys2Proof

set_option Elab.async false

theorem keeps_gather (s : State) (g : Gather) : Keeps s { s with gather := g } [.gather] :=
  .of_same rfl fun p => by cases p <;> simp [Part.same]

theorem keeps_lanes (s : State) (l : List Lane) : Keeps s { s with lanes := l } [.lanes] :=
  .of_same rfl fun p => by cases p <;> simp [Part.same]

theorem keeps_sage (s : State) (g : Sage) : Keeps s { s with sage := g } [.sage] :=
  .of_same rfl fun p => by cases p <;> simp [Part.same]

theorem keeps_par (s : State) (p : Parison) : Keeps s { s with par := p } [.par] :=
  .of_same rfl fun p => by cases p <;> simp [Part.same]

/-! ### Blocks (R88) -/

/-- The block of a length is the smallest that holds it. -/
theorem orderFor_spec {len : Nat} (h : len ≤ 2 ^ 24) : len ≤ 2 ^ orderFor len * 64 ∧ ∀ j, j < orderFor len → 2 ^ j * 64 < len := by
  unfold orderFor
  cases hf : (List.range 19).find? (fun k => decide (len ≤ 2 ^ k * 64)) with
  | none =>
    have hno := List.find?_range_eq_none.mp hf 18 (by decide)
    simp only [Bool.not_eq_true', decide_eq_false_iff_not] at hno
    omega
  | some k =>
    obtain ⟨hk, -, hbefore⟩ := List.find?_range_eq_some.mp hf
    exact ⟨of_decide_eq_true hk, fun j hj => by simpa using hbefore j hj⟩

/-! ### Contexts and cells (R87) -/

theorem State.modCell_keeps (s : State) (c id : Nat) (f : Cell → Cell) : Keeps s (s.modCell c id f) [.gather] := s.modCtx_keeps _ _

theorem State.ctx_modCtx (s : State) (c d : Nat) (f : JobCtx → JobCtx) :
    (s.modCtx d f).ctx c = if d = c ∧ c < s.gather.ctxs.length then f (s.ctx c) else s.ctx c := by
  unfold State.ctx State.modCtx lmod
  by_cases hd : d < s.gather.ctxs.length
  · rw [List.getElem?_eq_getElem hd]
    simp only [List.getD_eq_getElem?_getD, List.getElem?_set]
    by_cases hdc : d = c
    · subst hdc
      simp [hd]
    · simp [hdc]
  · rw [List.getElem?_eq_none (by omega)]
    rw [if_neg (by omega)]

/-- A context that a change leaves as it is reads as before, wherever the change goes. -/
theorem State.ctx_modCtx_fixed {s : State} {c : Nat} {x : JobCtx} (h : s.ctx c = x) (d : Nat) {f : JobCtx → JobCtx} (hf : f x = x) :
    (s.modCtx d f).ctx c = x := by
  rw [State.ctx_modCtx, h, hf, ite_self]

theorem State.modCtx_length (s : State) (c : Nat) (f : JobCtx → JobCtx) : (s.modCtx c f).gather.ctxs.length = s.gather.ctxs.length := by
  unfold State.modCtx lmod
  split
  · exact List.length_set
  · rfl

theorem State.cell_modCell_same {s : State} {c : Nat} (hc : c < s.gather.ctxs.length) (id : Nat) (f : Cell → Cell) :
    (s.modCell c id f).cell c id = f (s.cell c id) := by
  rw [State.cell, State.modCell, State.ctx_modCtx, if_pos ⟨rfl, hc⟩, mget_mset_same]
  rfl

theorem State.cell_of_ctxs {s t : State} (h : t.gather.ctxs = s.gather.ctxs) (c id : Nat) : t.cell c id = s.cell c id := by
  simp only [State.cell, State.ctx, h]

/-- Where a change of a cell leaves its state, the state reads as before. -/
theorem State.cell_state_modCell (s : State) (c id : Nat) {f : Cell → Cell} (hf : ∀ e, (f e).state = e.state) (d j : Nat) :
    ((s.modCell c id f).cell d j).state = (s.cell d j).state := by
  rw [State.cell, State.modCell, State.ctx_modCtx]
  by_cases h : c = d ∧ d < s.gather.ctxs.length
  · rw [if_pos h]
    obtain ⟨rfl, -⟩ := h
    by_cases hj : j = id
    · subst hj
      rw [mget_mset_same]
      exact hf _
    · rw [mget_mset_other _ _ hj]
      rfl
  · rw [if_neg h]
    rfl

/-! ### Pins (R94) -/

theorem State.pinWrite_perm {s : State} (v : Nat) (hlen : s.gather.ctxs.length = 2) :
    ((s.pinWrite v).cell (v / 2 ^ 24 % 2) (v % 2 ^ 24)).perm = bit v 31 := by
  have hid : bits v 0 24 = v % 2 ^ 24 := by rw [bits, Nat.pow_zero, Nat.div_one]
  have hlt : v / 2 ^ 24 % 2 < s.gather.ctxs.length := by omega
  have h := State.cell_modCell_same hlt (v % 2 ^ 24) (fun e => { e with perm := bit v 31 })
  rw [State.pinWrite, hid, show bits v 24 1 = v / 2 ^ 24 % 2 from rfl, h]

theorem exec_pinSet {s : State} (v : Word) (hlen : s.gather.ctxs.length = 2) (hv : v.toNat / 2 ^ 31 % 2 = 1) :
    Gives (exec (.pinSet v) s) (fun t => (t.cell (v.toNat / 2 ^ 24 % 2) (v.toNat % 2 ^ 24)).perm = true ∧ Keeps s t [.gather]) := by
  have hbit : bit v.toNat 31 = true := decide_eq_true hv
  exact ⟨_, if_pos hbit, (State.pinWrite_perm _ hlen).trans hbit, s.modCell_keeps _ _ _⟩

theorem exec_pinClear {s : State} (v : Word) (hlen : s.gather.ctxs.length = 2) (hv : v.toNat / 2 ^ 31 % 2 = 0) :
    Gives (exec (.pinClear v) s) (fun t => (t.cell (v.toNat / 2 ^ 24 % 2) (v.toNat % 2 ^ 24)).perm = false ∧ Keeps s t [.gather]) := by
  have hbit : bit v.toNat 31 = false := decide_eq_false (by omega)
  exact ⟨_, if_neg (by simp [hbit]), (State.pinWrite_perm _ hlen).trans hbit, s.modCell_keeps _ _ _⟩

/-! ### A context closes (R87) -/

theorem exec_contextClose {s : State} {c : Fin 2} {n d : Nat} (hn : (s.ctx c).endAfter = some n) (hd : (s.ctx c).lastDone = some d)
    (ho : s.ctxOpen c = true) (hh : (s.ctx c).halt = none) :
    (n ≤ d → exec (.contextClose c) s = .next (s.closeCtx c)) ∧ (d < n → exec (.contextClose c) s = .next s) := by
  have hexec : exec (.contextClose c) s = if s.ctxOpen c ∧ n ≤ d ∧ (s.ctx c).halt = none then .next (s.closeCtx c) else .next s := by
    change execContextClose c s = _
    rw [execContextClose, hn, hd]
  rw [hexec]
  exact ⟨fun h => if_pos ⟨ho, h, hh⟩, fun h => if_neg fun hc => absurd hc.2.1 (by omega)⟩

/-- What the closing of a context may change before its key goes: its cells, its slots with their leave and lanes. -/
def Tidies (s t : State) : Prop :=
  Keeps s t [.regs, .gather, .power, .lanes] ∧ t.gather.ctxs.length = s.gather.ctxs.length

theorem Tidies.refl (s : State) : Tidies s s := ⟨.refl s _, rfl⟩

theorem Tidies.then {s t u : State} (h : Tidies s t) (g : Tidies t u) : Tidies s u := ⟨h.1.then g.1, g.2.trans h.2⟩

theorem Tidies.of_keeps {s t : State} {l : List Part} (h : Keeps s t l) (hg : Part.gather ∉ l := by decide)
    (hl : l ⊆ [.regs, .gather, .power, .lanes] := by decide) : Tidies s t :=
  ⟨h.mono hl, congrArg (fun g => g.ctxs.length) (h.2 .gather hg)⟩

theorem Tidies.ite {s t u : State} (p : Prop) [Decidable p] (h : Tidies s t) (g : Tidies s u) : Tidies s (if p then t else u) := by
  split
  · exact h
  · exact g

theorem State.modCtx_tidies (s : State) (c : Nat) (f : JobCtx → JobCtx) : Tidies s (s.modCtx c f) :=
  ⟨(s.modCtx_keeps c f).mono, s.modCtx_length c f⟩

theorem State.setFree_keeps (s : State) (l : List (Nat × Nat)) : Keeps s (s.setFree l) [.regs, .gather] :=
  .then (.mono (keeps_gather s _)) (State.put_keeps _ _ _)

theorem State.setFree_tidies (s : State) (l : List (Nat × Nat)) : Tidies s (s.setFree l) := ⟨(s.setFree_keeps l).mono, rfl⟩

theorem State.setSlot_tidies (s : State) (i : Nat) (g : Option Ingest) : Tidies s (s.setSlot i g) := ⟨(keeps_gather s _).mono, rfl⟩

theorem State.dropCell_tidies (s : State) (c id : Nat) : Tidies s (s.dropCell c id) := by
  unfold State.dropCell
  extract_lets s1
  have h1 : Tidies s s1 := by
    unfold s1
    split
    · exact s.setFree_tidies _
    · exact .refl s
  exact h1.then (State.modCtx_tidies _ _ _)

theorem State.unmake_tidies (s : State) (c : Nat) (l : List Nat) : Tidies s (s.unmake c l) := by
  induction l generalizing s with
  | nil => exact .refl s
  | cons id r ih => exact (s.dropCell_tidies c id).then (ih _)

theorem State.put_tidies (s : State) (x : Fld) (v : Nat) : Tidies s (s.put x v) := .of_keeps (s.put_keeps x v)

theorem State.applyOwner_tidies (s : State) (n : Nat) : Tidies s (s.applyOwner n) := by
  unfold State.applyOwner
  split
  · exact .ite _ ((s.put_tidies _ _).then (.of_keeps (keeps_lanes _ _))) (.refl s)
  · exact .refl s

theorem State.giveLanes_tidies (k : Nat) (s : State) : Tidies s (State.giveLanes k s) := by
  induction k generalizing s with
  | zero => exact .refl s
  | succ k ih =>
    unfold State.giveLanes
    split
    · split
      · exact .then (.then (.then (.then (s.setSlot_tidies _ _) (State.put_tidies _ _ _)) (State.put_tidies _ _ _))
          (State.put_tidies _ _ _)) (ih _)
      · exact .refl s
    · exact .refl s

theorem State.dropSlot_tidies (s : State) (i : Nat) : Tidies s (s.dropSlot i) := by
  unfold State.dropSlot
  split
  · exact .refl s
  · extract_lets s1
    have h1 : Tidies s s1 := (s.setSlot_tidies i none).then (.of_keeps (State.giveLeave_keeps _ _))
    split
    · exact h1.then (.then (.then (s1.put_tidies _ _) (State.applyOwner_tidies _ _)) (State.giveLanes_tidies _ _))
    · exact h1

theorem State.dropSlots_tidies (s : State) (c : Nat) (l : List (Option Ingest)) (i : Nat) : Tidies s (s.dropSlots c l i) := by
  induction l generalizing s i with
  | nil => exact .refl s
  | cons g r ih =>
    refine Tidies.then ?_ (ih _ (i + 1))
    cases g with
    | none => exact .refl s
    | some x => exact .ite _ (s.dropSlot_tidies i) (.refl s)

theorem State.setPointer_keeps (s : State) (i : Nat) (loaded : Bool) : Keeps s (s.setPointer i loaded) [.mem] :=
  .ite _ (.refl s _) (keeps_mem s _)

theorem State.zeroKey_keeps (s : State) (c : Nat) : Keeps s (s.zeroKey c) [.regs, .sage, .mem] :=
  .then (.then (.then (.mono (keeps_sage s _)) (State.setPointer_keeps _ _ _)) (State.put_keeps _ _ _)) (State.put_keeps _ _ _)

theorem State.zeroKey_jobKeys (s : State) (c : Nat) : (s.zeroKey c).sage.jobKeys = s.sage.jobKeys.set c none := by
  have h := State.setPointer_keeps { s with sage := { s.sage with jobKeys := s.sage.jobKeys.set c none } } (56 + c) false
  exact congrArg Sage.jobKeys (h.2 .sage (by decide))

/-- The pool laid out changes the allocator and its register alone. -/
theorem State.layPool_keeps (s : State) : Keeps s s.layPool [.regs, .gather] := .then (.mono (keeps_gather s _)) (State.setFree_keeps _ _)

theorem State.freePool_keeps (s : State) : Keeps s s.freePool [.regs, .gather] :=
  .ite _ (.then (.mono ((s.modCtx_keeps _ _).then (State.modCtx_keeps _ _ _))) (State.layPool_keeps _)) (.refl s _)

theorem State.freePool_ctx {s : State} {c : Nat} (h : s.ctx c = JobCtx.empty) : s.freePool.ctx c = JobCtx.empty := by
  unfold State.freePool
  split
  · exact State.ctx_modCtx_fixed (State.ctx_modCtx_fixed h 0 rfl) 1 rfl
  · exact h

theorem State.freePool_f (s : State) {x : Fld} (hx : x.key ≠ GTH_FREE_PAGES.FREE.key) : s.freePool.f x = s.f x := by
  unfold State.freePool
  split
  · exact State.f_put_other _ _ hx
  · rfl

/-- A context before its pool is freed: closed, without cells, slots, key and walks. -/
def State.closedCtx (s : State) (c : Nat) : State :=
  let s1 := (s.freeCells c).dropSlots c (s.freeCells c).gather.slots 0
  let s2 := ((s1.modCtx c (fun _ => JobCtx.empty)).zeroKey c).put (GTH_CTX_CFG.OPEN c) 0
  ({ s2 with blow := { s2.blow with
      walks := s2.blow.walks.map (fun (w : Option Walk) => w.filter (fun t => !decide (t.ctx = c))) } }).closeRing c

theorem State.closeCtx_eq (s : State) (c : Nat) : s.closeCtx c = (s.closedCtx c).freePool.pulse 12 := rfl

theorem State.closedCtx_spec {s : State} {c : Nat} (hc : c < s.gather.ctxs.length) :
    (s.closedCtx c).f (GTH_CTX_CFG.OPEN c) = 0 ∧ (s.closedCtx c).ctx c = JobCtx.empty ∧
    (s.closedCtx c).sage.jobKeys = s.sage.jobKeys.set c none := by
  unfold State.closedCtx
  extract_lets s1 s2
  have h1 : Tidies s s1 := (s.unmake_tidies c _).then (State.dropSlots_tidies _ _ _ _)
  have hctx : (s1.modCtx c (fun _ => JobCtx.empty)).ctx c = JobCtx.empty := by
    rw [State.ctx_modCtx, if_pos ⟨rfl, h1.2 ▸ hc⟩]
  have hkey := (s1.modCtx c (fun _ => JobCtx.empty)).zeroKey_keeps c
  have hgather := hkey.2 .gather (by decide)
  have hsage : s1.sage = s.sage := h1.1.2 .sage (by decide)
  have hput : s2.f (GTH_CTX_CFG.OPEN c) = 0 := State.f_put_same _ _ _
  have hlast : Keeps ((s1.modCtx c (fun _ => JobCtx.empty)).zeroKey c) s2 [.regs] := State.put_keeps _ _ _
  generalize hblow : { s2.blow with walks := s2.blow.walks.map (fun (w : Option Walk) => w.filter (fun t => !decide (t.ctx = c))) } = b
  have hend : Keeps s2 ({ s2 with blow := b }.closeRing c) [.blow, .par] := .then (.mono (keeps_blow s2 b)) (keeps_par _ _)
  refine ⟨(hend.f_eq _).trans hput, ?_, ?_⟩
  · rw [State.ctx, hend.2 .gather (by decide), hlast.2 .gather (by decide), hgather]
    exact hctx
  · rw [hend.2 .sage (by decide), hlast.2 .sage (by decide), State.zeroKey_jobKeys, ← hsage,
      (s1.modCtx_keeps c _).2 .sage (by decide)]

theorem open_key_ne (c : Fin 2) : (GTH_CTX_CFG.OPEN c).key ≠ GTH_FREE_PAGES.FREE.key ∧
    (GTH_CTX_CFG.OPEN c).key ≠ GAF_CNT_EVMERGE.COUNT.key ∧ (GTH_CTX_CFG.OPEN c).key ≠ GAF_STATUS.EV_MERGE.key := by
  revert c
  decide

/-- A closed context: not open, without cells, and without its key. -/
theorem State.closeCtx_spec {s : State} (c : Fin 2) (hctx : s.gather.ctxs.length = 2) (hkeys : s.sage.jobKeys.length = 2) :
    (s.closeCtx c).f (GTH_CTX_CFG.OPEN c) = 0 ∧ (s.closeCtx c).ctx c = JobCtx.empty ∧
    (s.closeCtx c).sage.jobKeys[c.val]? = some none := by
  obtain ⟨hopen, hempty, hkey⟩ := State.closedCtx_spec (s := s) (c := c) (by omega)
  obtain ⟨hfree, hcnt, hmerge⟩ := open_key_ne c
  have hpulse := (s.closedCtx c).freePool.pulse_keeps 12
  rw [State.closeCtx_eq]
  refine ⟨?_, ?_, ?_⟩
  · exact (State.pulse_f _ 12 hcnt hmerge).trans ((State.freePool_f _ hfree).trans hopen)
  · exact (congrArg (fun g => g.ctxs.getD c JobCtx.empty) (hpulse.2 .gather (by decide))).trans (State.freePool_ctx hempty)
  · rw [hpulse.2 .sage (by decide), (s.closedCtx c).freePool_keeps.2 .sage (by decide), hkey,
      List.getElem?_set_self (by omega)]

/-! ### Gather is disabled (R93) -/

/-- GTH_CTL with the fields of a write. -/
def State.ctlFields (s : State) (v : Nat) : State :=
  ((s.put GTH_CTL.ENABLE (bits v 0 1)).put GTH_CTL.SLOTS (bits v 1 4)).put GTH_CTL.RETRY_MAX (bits v 8 4)

theorem State.ctlFields_keeps (s : State) (v : Nat) : Keeps s (s.ctlFields v) [.regs] :=
  ((s.put_keeps _ _).then (State.put_keeps _ _ _)).then (State.put_keeps _ _ _)

theorem State.ctlFields_f (s : State) {v : Nat} (hv : v % 2 = 0) :
    (s.ctlFields v).f GTH_CTL.ENABLE = 0 ∧ (s.ctlFields v).f GTH_CTL.SLOTS = v / 2 % 16 ∧
    (s.ctlFields v).f GTH_CTL.RETRY_MAX = v / 2 ^ 8 % 16 := by
  simp (disch := decide) only [State.ctlFields, State.f_put_same, State.f_put_other, bits]
  refine ⟨?_, ?_, ?_⟩
  · change v / 2 ^ 0 % 2 ^ 1 % 2 ^ 1 = 0
    omega
  · exact Nat.mod_mod _ _
  · exact Nat.mod_mod _ _

theorem State.ctlFields_f_other (s : State) (v : Nat) {x : Fld} (h1 : x.key ≠ GTH_CTL.ENABLE.key) (h2 : x.key ≠ GTH_CTL.SLOTS.key)
    (h3 : x.key ≠ GTH_CTL.RETRY_MAX.key) : (s.ctlFields v).f x = s.f x := by
  rw [State.ctlFields, State.f_put_other _ _ h3, State.f_put_other _ _ h2, State.f_put_other _ _ h1]

theorem exec_gatherDisable_eq (s : State) {v : Word} (hv : v.toNat % 2 = 0) :
    exec (.gatherDisable v) s = .next (s.ctlFields v.toNat).freePool := by
  have hbit : bit v.toNat 0 = false := decide_eq_false (by simpa using hv)
  change execGatherDisable v s = _
  rw [execGatherDisable, if_neg (by simp [hbit]), State.gthCtlWrite]
  exact congrArg _ (if_neg (by simp [hbit]))

theorem State.ctlFields_open (s : State) (v : Nat) :
    (s.ctlFields v).ctxOpen 0 = s.ctxOpen 0 ∧ (s.ctlFields v).ctxOpen 1 = s.ctxOpen 1 := by
  have h0 := s.ctlFields_f_other v (x := GTH_CTX_CFG.OPEN 0) (by decide) (by decide) (by decide)
  have h1 := s.ctlFields_f_other v (x := GTH_CTX_CFG.OPEN 1) (by decide) (by decide) (by decide)
  simp only [State.ctxOpen, State.on, h0, h1, and_self]

theorem exec_gatherDisable_closed {s : State} {v : Word} (hv : v.toNat % 2 = 0) (h0 : s.ctxOpen 0 = false) (h1 : s.ctxOpen 1 = false) :
    Gives (exec (.gatherDisable v) s) (fun t => t.f GTH_CTL.ENABLE = 0 ∧ t.gather.withheld = [] ∧
      t.gather.free = poolBlocks (s.f GTH_POOL_PAGES.PAGES) ∧ Keeps s t [.regs, .gather]) := by
  obtain ⟨hen, -, -⟩ := s.ctlFields_f hv
  obtain ⟨ho0, ho1⟩ := s.ctlFields_open v.toNat
  have hpages := s.ctlFields_f_other v.toNat (x := GTH_POOL_PAGES.PAGES) (by decide) (by decide) (by decide)
  have hlay : (s.ctlFields v.toNat).freePool =
      (((s.ctlFields v.toNat).modCtx 0 (fun x => { x with cells := [] })).modCtx 1 (fun x => { x with cells := [] })).layPool :=
    if_pos (by simp [ho0, ho1, h0, h1, State.on, hen])
  refine ⟨_, exec_gatherDisable_eq s hv, ?_, ?_, ?_, .then (.mono (s.ctlFields_keeps _)) (State.freePool_keeps _)⟩
  · exact (State.freePool_f _ (by decide)).trans hen
  · rw [hlay]
    rfl
  · rw [hlay, ← hpages]
    rfl

theorem exec_gatherDisable_open {s : State} {v : Word} (hv : v.toNat % 2 = 0) (ho : s.ctxOpen 0 = true ∨ s.ctxOpen 1 = true) :
    Gives (exec (.gatherDisable v) s) (fun t => t.f GTH_CTL.ENABLE = 0 ∧ t.f GTH_CTL.SLOTS = v.toNat / 2 % 16 ∧
      t.f GTH_CTL.RETRY_MAX = v.toNat / 2 ^ 8 % 16 ∧ Keeps s t [.regs]) := by
  obtain ⟨hen, hslots, hretry⟩ := s.ctlFields_f hv
  obtain ⟨ho0, ho1⟩ := s.ctlFields_open v.toNat
  have hstay : (s.ctlFields v.toNat).freePool = s.ctlFields v.toNat := if_neg (by rcases ho with h | h <;> simp [ho0, ho1, h])
  exact ⟨_, (exec_gatherDisable_eq s hv).trans (by rw [hstay]), hen, hslots, hretry, s.ctlFields_keeps _⟩

/-! ### Walks start (R20, R47, R99, R100, R107) -/

section

variable {s : State} {w : Fin 32} (hen : s.runs BLP_CTL.ENABLE = true) (heng : bit (s.f BLP_CTL.ENGINE_EN) (w / 4) = true)
  (hw : s.walk w = none)

include hen heng hw

theorem exec_walkStart_eq :
    exec (.walkStart w) s = match s.rasterSweep.filter s.rasterDue, s.densitySweep, s.assign with
      | some r, _, some (e, k) => .next (s.startRaster w r e k)
      | _, some d, _ => .next (s.startDensity w d)
      | _, _, _ => .next s := by
  change execWalkStart w s = _
  rw [execWalkStart, if_pos ⟨hen, heng, hw⟩] <;> rfl

theorem exec_walkStart_raster {r : Sweep} {e k : Nat} (hr : s.rasterSweep = some r) (hdue : s.rasterDue r = true)
    (ha : s.assign = some (e, k)) : exec (.walkStart w) s = .next (s.startRaster w r e k) := by
  have hf : s.rasterSweep.filter s.rasterDue = some r := by rw [hr, Option.filter_some_pos hdue]
  rw [exec_walkStart_eq hen heng hw, hf, ha]

theorem exec_walkStart_density {d : Sweep}
    (hno : s.rasterSweep = none ∨ (∃ r, s.rasterSweep = some r ∧ s.rasterDue r = false) ∨ s.assign = none)
    (hd : s.densitySweep = some d) : exec (.walkStart w) s = .next (s.startDensity w d) := by
  have hf : s.rasterSweep.filter s.rasterDue = none ∨ s.assign = none := by
    obtain hr | ⟨r, hr, hdue⟩ | ha := hno
    · exact .inl (by rw [hr]; rfl)
    · exact .inl (by rw [hr, Option.filter_some_neg (by simp [hdue])])
    · exact .inr ha
  rw [exec_walkStart_eq hen heng hw, hd]
  obtain hf | ha := hf
  · rw [hf]
  · rw [ha]
    cases s.rasterSweep.filter s.rasterDue <;> rfl

theorem exec_walkStart_none (hno : s.rasterSweep = none ∨ s.assign = none) (hd : s.densitySweep = none) :
    exec (.walkStart w) s = .next s := by
  rw [exec_walkStart_eq hen heng hw, hd]
  obtain hr | ha := hno
  · rw [hr]
    rfl
  · rw [ha]
    cases s.rasterSweep.filter s.rasterDue <;> rfl

end

theorem exec_walkStart_busy {s : State} {w : Fin 32} {t : Walk} (hw : s.walk w = some t) : exec (.walkStart w) s = .next s :=
  if_neg fun h => absurd (h.2.2.symm.trans hw) nofun

theorem State.walk_setWalk_same {s : State} {w : Nat} (hw : w < s.blow.walks.length) (t : Option Walk) : (s.setWalk w t).walk w = t := by
  rw [State.walk, State.setWalk, List.getElem?_set_self hw]
  rfl

/-- Where a cell is RESIDENT a walk that enters it is ready at its level. -/
theorem State.enter_walk {s : State} {w : Nat} {t : Walk} {l : Level} (hw : w < s.blow.walks.length)
    (hr : (s.cell t.ctx l.cell).state = .resident) :
    (s.enter w t l).walk w = some { t with stack := l :: t.stack, pages := [], state := .ready, want := none } := by
  unfold State.enter
  extract_lets t1 s1 s2
  have htouch (d j : Nat) : ((s.touch t.ctx l.cell).cell d j).state = (s.cell d j).state := by
    unfold State.touch
    extract_lets srcGather s1'
    refine (s1'.cell_state_modCell t.ctx l.cell (by intro e; rfl) d j).trans ?_
    rw [State.cell_of_ctxs (s := s) (t := s1') rfl]
  have h1 : (s1.cell t.ctx l.cell).state = .resident := (htouch _ _).trans hr
  have h2 : (s2.cell t.ctx l.cell).state = .resident := by
    unfold s2
    split
    · exact (s1.cell_state_modCell _ _ (by intro e; rfl) _ _).trans h1
    · exact h1
  have hlen : w < s2.blow.walks.length := by
    have hb : s2.blow = s.blow := by
      unfold s2
      split <;> rfl
    rwa [hb]
  rw [if_pos h2, State.walk_setWalk_same hlen]

theorem State.modSweep_walks (s : State) (t : Walk) (f : Sweep → Sweep) : (s.modSweep t f).blow.walks = s.blow.walks := rfl

/-- A density walk stands at the top cell of its tile. -/
theorem State.startDensity_walk {s : State} {w : Fin 32} {v : Sweep} (hlen : s.blow.walks.length = 32)
    (hr : (s.cell v.stripe.ctx 0).state = .resident) :
    ∃ t, (s.startDensity w v).walk w = some t ∧ t.density = true ∧ t.stack = [topLevel] ∧ t.state = .ready ∧ t.stripe = v.stripe.num ∧
      t.tcol = ((v.dStarted / s.densityRows v.stripe : Nat) : Int) - (s.margin v.stripe : Int) ∧
      t.trow = ((v.dStarted % s.densityRows v.stripe : Nat) : Int) - (s.margin v.stripe : Int) := by
  unfold State.startDensity
  extract_lets r m col row last seq t
  have hw : w.val < s.blow.walks.length := by omega
  exact ⟨_, State.enter_walk hw hr, rfl, rfl, rfl, rfl, rfl, rfl⟩

theorem State.startRaster_walk {s : State} {w : Fin 32} {v : Sweep} (hlen : s.blow.walks.length = 32)
    (hr : (s.cell v.stripe.ctx 0).state = .resident) (e k : Nat) :
    ∃ t, (s.startRaster w v e k).walk w = some t ∧ t.density = false ∧ t.stack = [topLevel] ∧ t.state = .ready ∧
      t.stripe = v.stripe.num ∧ t.tcol = ((v.rStarted / s.rows v.stripe : Nat) : Int) ∧
      t.trow = ((v.rStarted % s.rows v.stripe : Nat) : Int) ∧ t.eng = e ∧ t.slot = k := by
  unfold State.startRaster
  extract_lets rows col t m s1
  have h1 : Keeps s s1 [.regs, .power, .mslots] := .then (s.setMslot_keeps _ _ _).mono (State.askLeave_keeps _ _ _)
  have hgather := h1.2 .gather (by decide)
  have hblow := h1.2 .blow (by decide)
  refine ⟨_, State.enter_walk ?_ ?_, rfl, rfl, rfl, rfl, rfl, rfl, rfl, rfl⟩
  · rw [State.modSweep_walks, hblow]
    omega
  · exact (congrArg Cell.state (State.cell_of_ctxs (congrArg Gather.ctxs hgather) _ _)).trans hr

/-! ### Walks go on (R91, R107) -/

section

variable {s : State} {w : Fin 32} {t : Walk} (hw : s.walk w = some t)

include hw

theorem exec_walkResume_resident {id : Nat} (hst : t.state = .waitCell) (hwant : t.want = some id)
    (hr : (s.cell t.ctx id).state = .resident) :
    exec (.walkResume w) s = .next (s.setWalk w (some { t with state := .ready, want := none })) := by
  change execWalkResume w s = _
  simp only [execWalkResume, hw, hst, hwant]
  exact if_pos (.inl hr)

theorem exec_walkResume_waits {id : Nat} (hst : t.state = .waitCell) (hwant : t.want = some id)
    (hr : (s.cell t.ctx id).state ≠ .resident) (h0 : (s.ctx t.ctx).seg0Done = false) : exec (.walkResume w) s = .next s := by
  change execWalkResume w s = _
  simp only [execWalkResume, hw, hst, hwant]
  exact if_neg (by simp [hr, h0])

theorem exec_walkResume_queue (hst : t.state = .waitQueue) (hb : s.blocksUsed < 2730) :
    exec (.walkResume w) s = .next (s.setWalk w (some { t with state := .ready, want := none })) := by
  change execWalkResume w s = _
  simp only [execWalkResume, hw, hst]
  exact if_pos hb

/-! ### Pages (R92, R96) -/

variable {l : Level} {r : List Level} (hst : t.stack = l :: r) (hready : t.state = .ready)

include hst hready

theorem execPageRead_eq :
    execPageRead w s = if (s.cell t.ctx l.cell).state ≠ .resident then .next (s.waitFor w t l.cell)
      else match s.pageNeeded t with
        | none => .next s
        | some p =>
          if s.pageOk t.ctx l.cell p then
            .next ((s.setWalk w (some { t with pages := mset t.pages p (s.pageWords t.ctx l.cell p) })).pageGood t.ctx l.cell p)
          else .next ((s.waitFor w t l.cell).pageFail t.ctx l.cell p) := by
  unfold execPageRead
  split
  · next hno => exact absurd (hw.symm.trans hno) nofun
  · next t' ht' =>
    cases Option.some.inj (ht'.symm.trans hw)
    split
    · next hno => exact absurd (hst.symm.trans hno) nofun
    · next l' r' hl' =>
      cases (List.cons.inj (hl'.symm.trans hst)).1
      rw [if_neg (by simp [hready])] <;> rfl

theorem exec_pageRead_notResident (hr : (s.cell t.ctx l.cell).state ≠ .resident) :
    exec (.pageRead w) s = .next (s.waitFor w t l.cell) :=
  (execPageRead_eq hw hst hready).trans (if_pos hr)

theorem exec_pageRead_page {p : Nat} (hr : (s.cell t.ctx l.cell).state = .resident) (hp : s.pageNeeded t = some p) :
    exec (.pageRead w) s = if s.pageOk t.ctx l.cell p then
        .next ((s.setWalk w (some { t with pages := mset t.pages p (s.pageWords t.ctx l.cell p) })).pageGood t.ctx l.cell p)
      else .next ((s.waitFor w t l.cell).pageFail t.ctx l.cell p) := by
  refine (execPageRead_eq hw hst hready).trans ((if_neg (by simp [hr])).trans ?_)
  rw [hp]

end

/-- A walk executes the words that it has read. -/
theorem Walk.word_page (t : Walk) (p : Nat) {i : Nat} (l : List Nat) (hi : i < 64) :
    Walk.word { t with pages := mset t.pages p l } (64 * p + i) = l.getD i 0 := by
  have hdiv : (64 * p + i) / 64 = p := by omega
  have hmod : (64 * p + i) % 64 = i := by omega
  rw [Walk.word, hdiv, hmod, mget_mset_same]
  rfl

theorem State.notePage_notes (s : State) (p : Nat) : Notes s (s.notePage p) := (s.noteRead_notes _ _).then (State.noteRead_notes _ _ _)

theorem State.forgetPages_blow {s t : State} (h : t.blow = s.blow) (c id : Nat) :
    (t.forgetPages c id).blow = (s.forgetPages c id).blow := by
  simp only [State.forgetPages, h]

/-- After a page failure the walks in the cell have read nothing of it; every other walk stands or has ended. -/
theorem State.pageFail_forgets {s : State} {c id n p k : Nat} (hb : (s.cell c id).block = some (p, k)) :
    ∃ u, DropsWalks u (s.pageFail c id n) ∧ u.blow = (s.forgetPages c id).blow := by
  unfold State.pageFail
  extract_lets e fails d
  split
  · next hno => exact absurd (hb.symm.trans hno) nofun
  · next p' k' hp' =>
    extract_lets s1 s2 s3 full srcGather s4 s5
    have h1 : (s1.modCell c id (fun e => { e with state := .absent, block := none, fails := fails })).blow = s.blow :=
      ((s.setFree_keeps _).mono.then (s1.modCell_keeps c id _) : Keeps s _ [.regs, .gather]).2 .blow (by decide)
    have h3 : Keeps s2 s3 [.regs, .journal, .mem] := (s2.notePage_notes _).1.then (State.count_keeps _ _ _)
    have h4 : DropsWalks s3 s4 := by
      refine .then ?_ (State.cullPage_notes _ _).1.dropsWalks
      exact (keeps_gather s3 _).dropsWalks
    have h5 : DropsWalks s4 s5 := by
      unfold s5
      split
      · exact (s4.modCtx_keeps c _).dropsWalks.then (State.jobFault_dropsWalks _ _ _ _ _)
      · exact (s4.flag_keeps _).dropsWalks.then (State.journalEvent_keeps _ _ _ _ _).dropsWalks
    refine ⟨s2, ((h3.dropsWalks.then h4).then h5).then ?_, State.forgetPages_blow h1 c id⟩
    split
    · exact s5.jobFault_dropsWalks _ _ _ _
    · exact .refl s5

theorem State.pageFail_pages {s : State} {w : Fin 32} {c id p k n : Nat} {v t : Walk} {l : Level} {r : List Level}
    (hb : (s.cell c id).block = some (p, k)) (hv : (s.pageFail c id n).walk w = some v) (hw : s.walk w = some t) (hc : t.ctx = c)
    (hst : t.stack = l :: r) (hl : l.cell = id) : v.pages = [] := by
  obtain ⟨u, hdrop, hblow⟩ := State.pageFail_forgets (n := n) hb
  have hu := hdrop w v hv
  rw [State.walk_map (s := s) (t := u) (congrArg Blowpipe.walks hblow) rfl, hw] at hu
  simp only [Option.map_some, hst, List.head?_cons, hc, hl, and_self, if_true, Option.some.injEq] at hu
  rw [← hu]

/-- Settles O33: the allocator by its search, the context that closes by the frame of each of its steps, the walks by what an entry, a
resumption and a page check make of them. -/
theorem cacheAndWalks : Obligations.CacheAndWalks := by
  unfold Obligations.CacheAndWalks
  refine ⟨⟨?_, ?_, ?_, ?_, ?_, ?_⟩, ?_, ?_, ?_, ?_, ?_, ?_⟩
  · exact fun len => orderFor_spec
  · exact fun s v hlen => ⟨exec_pinSet v hlen, exec_pinClear v hlen⟩
  · exact fun s c n d hn hd ho hh => exec_contextClose hn hd ho hh
  · exact fun s c => State.closeCtx_spec c
  · exact fun s v => exec_gatherDisable_closed
  · exact fun s v => exec_gatherDisable_open
  · exact fun s w hen heng hw => ⟨fun r e k => exec_walkStart_raster hen heng hw, fun d => exec_walkStart_density hen heng hw,
      exec_walkStart_none hen heng hw⟩
  · exact fun s w v hlen hr => ⟨State.startDensity_walk hlen hr, State.startRaster_walk hlen hr⟩
  · exact fun s w t hw => ⟨fun id => exec_walkResume_resident hw, fun id => exec_walkResume_waits hw, exec_walkResume_queue hw,
      exec_walkStart_busy hw⟩
  · exact fun s w t l r hw hst hready => ⟨exec_pageRead_notResident hw hst hready, fun p hr hp =>
      ⟨fun hok => (exec_pageRead_page hw hst hready hr hp).trans (if_pos hok),
        fun hbad => (exec_pageRead_page hw hst hready hr hp).trans (if_neg (by simp [hbad]))⟩⟩
  · exact fun t p i l hi => t.word_page p l hi
  · exact fun s w c id p k n v t l r => State.pageFail_pages

end Sys2Proof.Machine

/-! # The store codec and the quantisation of a pixel (R171, R172, R174, R181) -/

namespace Sys2Proof.Machine

open Sys2Proof

set_option Elab.async false

/-! ### The codec loses nothing (R181) -/

/-- A group packed is unpacked: its control bits say which of its words stand among the literals. -/
theorem ungroup_codecGroup (g : List Nat) (i prev : Nat) (rest : List Nat) :
    ∃ m, (codecGroup g i prev).1 = 2 ^ i * m ∧ ungroup g.length m prev ((codecGroup g i prev).2 ++ rest) = some (g, rest) := by
  induction g generalizing i prev with
  | nil => exact ⟨0, rfl, rfl⟩
  | cons w r ih =>
    obtain ⟨m, hm, hun⟩ := ih (i + 1) w
    by_cases h : w = prev
    · subst h
      refine ⟨2 * m, ?_, ?_⟩
      · simp only [codecGroup, if_true, hm]
        ring
      · have hodd : ¬ (2 * m % 2 = 1) := by omega
        have hhalf : 2 * m / 2 = m := by omega
        simp only [codecGroup, if_true, List.length_cons, ungroup, if_neg hodd, hhalf, hun, Option.map_some]
    · refine ⟨2 * m + 1, ?_, ?_⟩
      · simp only [codecGroup, if_neg h, hm]
        ring
      · have hodd : (2 * m + 1) % 2 = 1 := by omega
        have hhalf : (2 * m + 1) / 2 = m := by omega
        simp only [codecGroup, if_neg h, List.length_cons, ungroup, if_pos hodd, hhalf, List.cons_append, hun, Option.map_some]

/-- The words of n groups come back from their packed form. -/
theorem ungroups_codecGroups {n k : Nat} (hk : n ≤ k) {l : List Nat} (hl : l.length = 64 * n) (prev : Nat) :
    ungroups n prev (codecGroups k l prev) = some l := by
  induction n generalizing k l prev with
  | zero =>
    obtain rfl := List.eq_nil_of_length_eq_zero hl
    cases k <;> rfl
  | succ n ih =>
    obtain ⟨k, rfl⟩ : ∃ j, k = j + 1 := ⟨k - 1, by omega⟩
    have hne : l.isEmpty = false := by
      cases l with
      | nil => simp at hl
      | cons => rfl
    have hrest := ih (k := k) (by omega) (l := l.drop 64) (by simp; omega) ((l.take 64).getLastD prev)
    obtain ⟨m, hm, hun⟩ := ungroup_codecGroup (l.take 64) 0 prev (codecGroups k (l.drop 64) ((l.take 64).getLastD prev))
    rw [Nat.pow_zero, Nat.one_mul] at hm
    rw [← hm, List.length_take_of_le (by omega)] at hun
    simp only [codecGroups, hne, Bool.false_eq_true, if_false, List.cons_append, ungroups, hun, hrest, Option.map_some,
      List.take_append_drop]

/-! ### Shares and levels (R171, R174) -/

theorem rne_mul {v b : Int} (hb : 0 < b) : rne (b * v) b = v := by
  have habs : (b.natAbs : Int) = b := by omega
  simp only [rne, if_neg hb.ne', if_neg (not_lt.mpr hb.le), habs, Int.mul_ediv_cancel_left v hb.ne', Int.mul_emod_right, mul_zero,
    if_pos hb]

theorem shareOf_exact (rd : Fld → Nat) {n s v : Nat} (q : Nat) (hn : 0 < n) (h : s * rd PAR_LNOM.LNOM = 64 * n * v) :
    shareOf rd n q s = (min (q * 65536) v, decide (q * 65536 < v)) := by
  have hr : rne ((s * rd PAR_LNOM.LNOM : Nat) : Int) ((64 * n : Nat) : Int) = v := by
    rw [h, Nat.cast_mul]
    exact rne_mul (by omega)
  simp only [shareOf, hr, Int.toNat_natCast]

/-- What a pass at a level delivers: an excluded beam nothing, a stuck-on one all its levels. -/
def Pass.delivers (q : Nat) (p : Pass) (lv : Nat) : Int :=
  if p.entry.status = 1 then (0 : Int) else if p.entry.status = 2 then (q : Int) * 65536 else lv * (4 * p.entry.gain)

/-- The part of the carry that a pass brings before the first is quantised. -/
def Pass.dead (q : Nat) (p : Pass) : Int :=
  if p.entry.status = 1 then (p.share : Int) else if p.entry.status = 2 then (p.share : Int) - q * 65536 else 0

/-- Levels for the passes of a pixel: no more than Q, and Q where the beam is stuck on. -/
def levelsFit (q : Nat) (l : List Pass) (lv : List Nat) : Prop :=
  lv.length = l.length ∧ ∀ x ∈ l.zip lv, x.2 ≤ q ∧ (x.1.entry.status = 2 → x.2 = q)

theorem levelsFit.cons {q : Nat} {l : List Pass} {lv : List Nat} (h : levelsFit q l lv) {p : Pass} {v : Nat} (hv : v ≤ q)
    (hs : p.entry.status = 2 → v = q) : levelsFit q (p :: l) (v :: lv) := by
  obtain ⟨hlen, hall⟩ := h
  refine ⟨by simp [hlen], fun x hx => ?_⟩
  rw [List.zip_cons_cons] at hx
  obtain rfl | hx := List.mem_cons.mp hx
  · exact ⟨hv, hs⟩
  · exact hall x hx

/-- The codes are those of the levels, and what is left over is the carry with all shares less what the levels deliver. -/
theorem quantise_levels (rd : Fld → Nat) (q : Nat) (l : List Pass) (c : Int) :
    ∃ lv : List Nat, levelsFit q l lv ∧
      (quantise rd q l c).1 = (l.zip lv).map (fun x => (x.1.beam, if x.1.entry.status = 1 then 0 else codeOf rd x.2)) ∧
      (quantise rd q l c).2 = c - (l.map (Pass.dead q)).sum + (l.map (fun p => (p.share : Int))).sum -
        ((l.zip lv).map (fun x => x.1.delivers q x.2)).sum := by
  induction l generalizing c with
  | nil => exact ⟨[], ⟨rfl, by simp⟩, rfl, by simp [quantise]⟩
  | cons p r ih =>
    by_cases h1 : p.entry.status = 1
    · obtain ⟨lv, hfit, hcodes, herr⟩ := ih c
      refine ⟨0 :: lv, hfit.cons (Nat.zero_le _) (by omega), ?_, ?_⟩
      · simp [quantise, h1, hcodes]
      · simp [quantise, h1, herr, Pass.dead, Pass.delivers]
        ring
    by_cases h2 : p.entry.status = 2
    · obtain ⟨lv, hfit, hcodes, herr⟩ := ih c
      refine ⟨q :: lv, hfit.cons le_rfl fun _ => rfl, ?_, ?_⟩
      · simp [quantise, h2, hcodes]
      · simp [quantise, h2, herr, Pass.dead, Pass.delivers]
        ring
    · generalize hlv : max 0 (min (q : Int) (rne ((p.share : Int) + c) (4 * p.entry.gain))) = v
      obtain ⟨v, rfl⟩ : ∃ n : Nat, v = n := ⟨v.toNat, by omega⟩
      obtain ⟨lv, hfit, hcodes, herr⟩ := ih ((p.share : Int) + c - v * (4 * p.entry.gain))
      refine ⟨v :: lv, hfit.cons (by omega) fun h => absurd h h2, ?_, ?_⟩
      · simp [quantise, h1, h2, hcodes, hlv]
      · simp [quantise, h1, h2, herr, hlv, Pass.dead, Pass.delivers]
        ring

theorem deadCarry_eq (q : Nat) (l : List Pass) : deadCarry q l = (l.map (Pass.dead q)).sum := rfl

/-- With the carry of the dead beams the passes deliver the sum of the shares less E. -/
theorem quantise_exact (rd : Fld → Nat) (q : Nat) (l : List Pass) :
    ∃ lv : List Nat, lv.length = l.length ∧
      (quantise rd q l (deadCarry q l)).1 = (l.zip lv).map (fun x => (x.1.beam, if x.1.entry.status = 1 then 0 else codeOf rd x.2)) ∧
      (∀ x ∈ l.zip lv, x.2 ≤ q ∧ (x.1.entry.status = 2 → x.2 = q)) ∧
      (quantise rd q l (deadCarry q l)).2 = (l.map (fun p => (p.share : Int))).sum -
        ((l.zip lv).map (fun x => x.1.delivers q x.2)).sum := by
  obtain ⟨lv, ⟨hlen, hall⟩, hcodes, herr⟩ := quantise_levels rd q l (deadCarry q l)
  exact ⟨lv, hlen, hcodes, hall, by rw [herr, deadCarry_eq, sub_self, zero_add]⟩

/-! ### Samples (R172) -/

theorem sampleAt_dead {d : Int → Int → Nat} {e : BeamEntry} (h : e.status ≠ 0) (x y : Nat) : sampleAt d e x y = 4096 * d x y := if_pos h

/-- The sample of a live beam weighs the four pixels around its landing point. -/
theorem sampleAt_live {d : Int → Int → Nat} {e : BeamEntry} (h : e.status = 0) (x y : Nat) {fx fy : Nat} {i j : Int} (hfx : fx < 64)
    (hfy : fy < 64) (hdx : e.dx = 64 * i + fx) (hdy : e.dy = 64 * j + fy) :
    sampleAt d e x y = d (x + i) (y + j) * (64 - fx) * (64 - fy) + d (x + i + 1) (y + j) * fx * (64 - fy) +
      d (x + i) (y + j + 1) * (64 - fx) * fy + d (x + i + 1) (y + j + 1) * fx * fy := by
  have hi : e.dx / 64 = i := by omega
  have hj : e.dy / 64 = j := by omega
  have hx : (e.dx % 64).toNat = fx := by omega
  have hy : (e.dy % 64).toNat = fy := by omega
  simp only [sampleAt, h, hi, hj, hx, hy, ne_eq, not_true_eq_false, if_false]

end Sys2Proof.Machine

/-! # A column of Parison (R174 to R182) -/

namespace Sys2Proof.Machine

open Sys2Proof

set_option Elab.async false

/-! ### What stays while a column is worked on -/

/-- Parison at work: its stripe, its place in the burst and in the band, and the edge store stay. -/
def Works (s t : State) : Prop :=
  Keeps s t [.regs, .par, .mem] ∧ t.par.stripe = s.par.stripe ∧ t.par.burst = s.par.burst ∧ t.par.bcol = s.par.bcol ∧
  t.par.doses = s.par.doses

theorem Works.refl (s : State) : Works s s := ⟨.refl s _, rfl, rfl, rfl, rfl⟩

theorem Works.then {s t u : State} (h : Works s t) (g : Works t u) : Works s u := by
  obtain ⟨hk, h1, h2, h3, h4⟩ := h
  obtain ⟨gk, g1, g2, g3, g4⟩ := g
  exact ⟨hk.then gk, g1.trans h1, g2.trans h2, g3.trans h3, g4.trans h4⟩

theorem Works.ite {s t u : State} (p : Prop) [Decidable p] (h : Works s t) (g : Works s u) : Works s (if p then t else u) := by
  split
  · exact h
  · exact g

theorem Works.foldl {α : Type} {f : State → α → State} (h : ∀ t a, Works t (f t a)) (as : List α) (s : State) : Works s (as.foldl f s) := by
  induction as generalizing s with
  | nil => exact .refl s
  | cons a as ih => exact (h s a).then (ih (f s a))

theorem Works.of_keeps {s t : State} {l : List Part} (h : Keeps s t l) (hp : Part.par ∉ l := by decide)
    (hl : l ⊆ [.regs, .par, .mem] := by decide) : Works s t := by
  have hpar : t.par = s.par := h.2 .par hp
  exact ⟨h.mono hl, by rw [hpar], by rw [hpar], by rw [hpar], by rw [hpar]⟩

/-- A change of Parison that leaves the four. -/
theorem Works.of_par (s : State) (p : Parison) (h1 : p.stripe = s.par.stripe) (h2 : p.burst = s.par.burst) (h3 : p.bcol = s.par.bcol)
    (h4 : p.doses = s.par.doses) : Works s { s with par := p } := ⟨(keeps_par s p).mono, h1, h2, h3, h4⟩

theorem State.hbmWrite_keeps (s : State) (a : Nat) (l : List Byte) : Keeps s (s.hbmWrite a l) [.mem] := keeps_mem s _

/-! ### The rows of a column (R174, R176) -/

theorem State.recordUnc_works (s : State) (k : Stripe) (x y : Nat) : Works s (s.recordUnc k x y) := by
  unfold State.recordUnc
  extract_lets n s1 s2 s3
  have h2 : Keeps s s2 [.regs] := (((((s.count_keeps _ _).then (State.flag_keeps _ _)).then (State.put_keeps _ _ _)).then
    (State.put_keeps _ _ _)).then (State.put_keeps _ _ _)).then (State.put_keeps _ _ _)
  have h3 : Keeps s s3 [.regs] := .ite _ h2 (((h2.then (State.put_keeps _ _ _)).then (State.put_keeps _ _ _)).then (State.flag_keeps _ _))
  exact (Works.of_keeps h3).then (.of_par s3 _ rfl rfl rfl rfl)

/-- A row's capped shares are counted. -/
def State.capped (s : State) (c : Nat) : State :=
  if c = 0 then s else
    { (s.count PAR_CNT_LSAT.COUNT c).flag PAR_STATUS.LSAT_SEEN with par := { s.par with lsat := s.par.lsat + c } }

theorem State.capped_works (s : State) (c : Nat) : Works s (s.capped c) := by
  have h : Keeps s ((s.count PAR_CNT_LSAT.COUNT c).flag PAR_STATUS.LSAT_SEEN) [.regs] := (s.count_keeps _ _).then (State.flag_keeps _ _)
  exact .ite _ (.refl s) ((Works.of_keeps h).then (.of_par _ _ rfl rfl rfl rfl))

theorem Split.rows_succ (e : Split) (x n y : Nat) (s : State) (acc : List (Nat × Nat)) :
    e.rows x (n + 1) y s acc =
      if (e.rd PAR_TOL.TOL : Int) < ((e.pixel s.par.doses x y).2.1.natAbs : Int) then
        if e.rd PAR_CTL.UNC_HALT = 1 then
          ((s.capped (e.pixel s.par.doses x y).2.2).recordUnc e.k x y, acc, some (y, (e.pixel s.par.doses x y).2.1))
        else e.rows x n (y + 1) ((s.capped (e.pixel s.par.doses x y).2.2).recordUnc e.k x y) ((e.pixel s.par.doses x y).1 ++ acc)
      else e.rows x n (y + 1) (s.capped (e.pixel s.par.doses x y).2.2) ((e.pixel s.par.doses x y).1 ++ acc) := by
  rw [Split.rows]
  rfl

theorem Split.rows_works (e : Split) (x n y : Nat) (s : State) (acc : List (Nat × Nat)) : Works s (e.rows x n y s acc).1 := by
  induction n generalizing y s acc with
  | zero => exact .refl s
  | succ n ih =>
    rw [Split.rows_succ]
    have h1 := s.capped_works (e.pixel s.par.doses x y).2.2
    have h2 := h1.then (State.recordUnc_works _ e.k x y)
    split
    · split
      · exact h2
      · exact h2.then (ih _ _ _)
    · exact h1.then (ih _ _ _)

/-- Rows within the tolerance hold no pixel that stops Parison, and add the codes of their pixels. -/
theorem Split.rows_tolerable {e : Split} {x n y : Nat} {s : State}
    (h : ∀ z, y ≤ z → z < y + n → (e.pixel s.par.doses x z).2.1.natAbs ≤ e.rd PAR_TOL.TOL) (acc : List (Nat × Nat)) :
    (e.rows x n y s acc).2.2 = none ∧
    ∀ c, c ∈ (e.rows x n y s acc).2.1 ↔ c ∈ acc ∨ ∃ z, y ≤ z ∧ z < y + n ∧ c ∈ (e.pixel s.par.doses x z).1 := by
  induction n generalizing y s acc with
  | zero => exact ⟨rfl, fun c => ⟨.inl, fun h => h.resolve_right fun ⟨z, h1, h2, _⟩ => by omega⟩⟩
  | succ n ih =>
    have hd : (s.capped (e.pixel s.par.doses x y).2.2).par.doses = s.par.doses := (s.capped_works _).2.2.2.2
    rw [Split.rows_succ, if_neg (by have := h y le_rfl (by omega); omega)]
    obtain ⟨hnone, hmem⟩ := ih (y := y + 1) (s := s.capped (e.pixel s.par.doses x y).2.2)
      (fun z h1 h2 => by rw [hd]; exact h z (by omega) (by omega)) ((e.pixel s.par.doses x y).1 ++ acc)
    refine ⟨hnone, fun c => (hmem c).trans ?_⟩
    rw [hd, List.mem_append]
    constructor
    · rintro ((hc | hc) | ⟨z, h1, h2, hc⟩)
      · exact .inr ⟨y, le_rfl, by omega, hc⟩
      · exact .inl hc
      · exact .inr ⟨z, by omega, by omega, hc⟩
    · rintro (hc | ⟨z, h1, h2, hc⟩)
      · exact .inl (.inr hc)
      · obtain rfl | hz := Nat.eq_or_lt_of_le h1
        · exact .inl (.inl hc)
        · exact .inr ⟨z, hz, by omega, hc⟩

/-! ### The store (R179 to R182) -/

theorem State.writeHeader_works (s : State) (e : Split) (base j k : Nat) : Works s (s.writeHeader e base j k) := by
  unfold State.writeHeader
  extract_lets b s1
  have h1 : Works s s1 := .of_keeps (s.hbmWrite_keeps _ _)
  exact h1.then ((Works.of_keeps (s1.count_keeps _ _)).then (.of_par _ _ rfl rfl rfl rfl))

theorem State.writeGroup_works (s : State) (e : Split) (base j n : Nat) : Works s (s.writeGroup e base j n) := by
  unfold State.writeGroup
  extract_lets p per g words before s1
  have h1 : Works s s1 := .of_keeps (s.hbmWrite_keeps _ _)
  exact .ite _ (h1.then (s1.writeHeader_works _ _ _ _)) h1

theorem State.writeGroups_works (s : State) (e : Split) (base j lo n : Nat) : Works s (s.writeGroups e base j lo n) := by
  induction n with
  | zero => exact .refl s
  | succ n ih => exact ih.then (State.writeGroup_works _ _ _ _ _)

theorem State.endColumn_works (s : State) (e : Split) (base nc x : Nat) : Works s (s.endColumn e base nc x) :=
  .foldl (fun t _ => t.writeGroups_works _ _ _ _ _) _ s

/-! ### A column -/

/-- The codes of a column in the assembly SRAM: each at the flash at which its beam meets the pixel. -/
def Split.assembled (e : Split) (x : Nat) (codes : List (Nat × Nat)) (asm : Map Nat) : Map Nat :=
  codes.foldl (fun m c => if c.2 = 0 then m else mset m ((x + (e.table.entry c.1).x0) * 2 ^ 18 + c.1) c.2) asm

/-- A code that no other of its beam contradicts stands at its place. -/
theorem Split.mget_assembled (e : Split) (x : Nat) {codes : List (Nat × Nat)} {b v : Nat} (hb : b < 2 ^ 18) (hv : v ≠ 0)
    (hlt : ∀ c ∈ codes, c.1 < 2 ^ 18) (hone : ∀ c ∈ codes, c.1 = b → c.2 = v) (asm : Map Nat)
    (h : (b, v) ∈ codes ∨ mget asm ((x + (e.table.entry b).x0) * 2 ^ 18 + b) = some v) :
    mget (e.assembled x codes asm) ((x + (e.table.entry b).x0) * 2 ^ 18 + b) = some v := by
  induction codes generalizing asm with
  | nil => exact h.resolve_left List.not_mem_nil
  | cons c r ih =>
    refine ih (fun d hd => hlt d (List.mem_cons_of_mem _ hd)) (fun d hd => hone d (List.mem_cons_of_mem _ hd)) _ ?_
    have hc := hlt c List.mem_cons_self
    by_cases hcb : c.1 = b
    · have hcv := hone c List.mem_cons_self hcb
      subst hcb
      exact .inr (by simp only [hcv, if_neg hv, mget_mset_same])
    · obtain hmem | hasm := h
      · obtain rfl | hmem := List.mem_cons.mp hmem
        · exact absurd rfl hcb
        · exact .inl hmem
      · refine .inr ?_
        dsimp only
        split
        · exact hasm
        · rwa [mget_mset_other _ _ (by omega)]

/-- A column's codes enter the assembly SRAM, and the burst goes on to the next. -/
def State.columnIn (s : State) (e : Split) (x : Nat) (codes : List (Nat × Nat)) : State :=
  { s.grpTouch 9 with par := { s.par with asm := e.assembled x codes s.par.asm, bcol := s.par.bcol + 1, burst := s.par.burst - 1 } }

theorem keeps_mem_par (s : State) (m : MemSys) (p : Parison) : Keeps s { s with mem := m, par := p } [.mem, .par] :=
  .of_same rfl fun p => by cases p <;> simp [Part.same]

theorem State.columnIn_keeps (s : State) (e : Split) (x : Nat) (codes : List (Nat × Nat)) : Keeps s (s.columnIn e x codes) [.mem, .par] :=
  keeps_mem_par s _ _

/-- A column stored: the ring knows how far the stripe is. -/
def State.columnStored (s : State) (e : Split) (x done : Nat) : State :=
  (({ s with par := { s.par with col := x + 1, total := s.par.total + 1 } }).put PAR_COL_DONE.COL (x + 1)).modRing e.k
    (fun q => { q with done := done, cols := x + 1 })

theorem State.columnStored_works (s : State) (e : Split) (x done : Nat) : Works s (s.columnStored e x done) :=
  .then (.then (.of_par s _ rfl rfl rfl rfl) (.of_keeps (State.put_keeps _ _ _))) (.of_par _ _ rfl rfl rfl rfl)

/-- The column that Parison works on. -/
def State.columnOf (s : State) (e : Split) (band : Nat) : Nat := (e.bandCols (band / max 1 (e.w / 16384))).1 + s.par.bcol

/-- The rows of that column, worked on. -/
def State.columnRows (s : State) (e : Split) (band : Nat) : State × List (Nat × Nat) × Option (Nat × Int) :=
  e.rows (s.columnOf e band) (e.bandRows (band % max 1 (e.w / 16384))).2 (e.bandRows (band % max 1 (e.w / 16384))).1 s []

/-- The chunks that are complete once a column is stored. -/
def Split.chunksDone (e : Split) (r : RingStripe) (x : Nat) : Nat := if x + 1 = e.k.len then r.nc else min r.nc ((x + 1 + e.minX0) / 64)

/-- The state behind a column that no pixel stops: with the last band of the column it is stored. -/
def State.columnDone (s : State) (e : Split) (band : Nat) (r : RingStripe) : State :=
  let u := (s.columnRows e band).1.columnIn e (s.columnOf e band) (s.columnRows e band).2.1
  if band % max 1 (e.w / 16384) + 1 = max 1 (e.w / 16384) then
    (u.endColumn e r.base r.nc (s.columnOf e band)).columnStored e (s.columnOf e band) (e.chunksDone r (s.columnOf e band))
  else u

theorem State.oneColumn_none {s : State} {e : Split} {band : Nat} (h : (s.columnRows e band).2.2 = none) (r : RingStripe) :
    s.oneColumn e band r = (s.columnDone e band r, true) := by
  rcases hrow : s.columnRows e band with ⟨s1, codes, o⟩
  rw [hrow] at h
  cases h
  rw [State.columnDone, hrow]
  rw [State.columnRows] at hrow
  unfold State.oneColumn
  extract_lets per x d done
  split
  next r0 n hband =>
  rw [show e.bandRows (band % max 1 (e.w / 16384)) = (r0, n) from hband] at hrow
  split
  · next hstop => exact absurd ((congrArg (fun p => p.2.2) hstop).symm.trans (congrArg (fun p => p.2.2) hrow)) nofun
  · next s1' codes' hrow' =>
    obtain ⟨rfl, hc⟩ := Prod.mk.inj (hrow'.symm.trans hrow)
    obtain ⟨rfl, -⟩ := Prod.mk.inj hc
    extract_lets asm srcMem srcPar s2 s3 srcPar3
    have hs2 : s2 = s1'.columnIn e (s.columnOf e band) codes' := rfl
    have hs3 : s3 = (s1'.columnIn e (s.columnOf e band) codes').endColumn e r.base r.nc (s.columnOf e band) := rfl
    by_cases hlast : band % max 1 (e.w / 16384) + 1 = max 1 (e.w / 16384)
    · rw [if_pos hlast, if_pos hlast, ← hs3]
      rfl
    · rw [if_neg hlast, if_neg hlast, ← hs2]

/-- A column that a pixel stops halts the job and counts as not done. -/
theorem State.oneColumn_some {s : State} {e : Split} {band : Nat} {o : Nat × Int} (h : (s.columnRows e band).2.2 = some o)
    (r : RingStripe) : (s.oneColumn e band r).2 = false := by
  unfold State.oneColumn
  rcases hrow : s.columnRows e band with ⟨s1, codes, o⟩
  rw [hrow] at h
  cases h
  rw [State.columnRows] at hrow
  simp only [State.columnOf] at hrow
  dsimp only
  rw [hrow]

theorem State.columnDone_works (s : State) (e : Split) (band : Nat) (r : RingStripe) :
    Works ((s.columnRows e band).1.columnIn e (s.columnOf e band) (s.columnRows e band).2.1) (s.columnDone e band r) :=
  .ite _ (.then (State.endColumn_works _ _ _ _ _) (State.columnStored_works _ _ _ _)) (.refl _)

/-- What a column that is done leaves of the burst, the stripe and the rest of the state. -/
theorem State.oneColumn_frame {s u : State} {e : Split} {band : Nat} {r : RingStripe} (h : s.oneColumn e band r = (u, true)) :
    Keeps s u [.regs, .par, .mem] ∧ u.par.stripe = s.par.stripe ∧ u.par.burst = s.par.burst - 1 ∧ u.par.bcol = s.par.bcol + 1 := by
  have hnone : (s.columnRows e band).2.2 = none := by
    cases ho : (s.columnRows e band).2.2 with
    | none => rfl
    | some o => exact absurd ((congrArg Prod.snd h).symm.trans (State.oneColumn_some ho r)) nofun
  rw [State.oneColumn_none hnone] at h
  obtain ⟨rfl, -⟩ := Prod.mk.inj h
  obtain ⟨hrows, rstripe, rburst, rbcol, -⟩ : Works s (s.columnRows e band).1 := e.rows_works _ _ _ _ _
  obtain ⟨hdone, dstripe, dburst, dbcol, -⟩ := s.columnDone_works e band r
  refine ⟨(hrows.then (State.columnIn_keeps _ _ _ _)).then hdone, dstripe.trans rstripe, ?_, ?_⟩
  · exact dburst.trans (congrArg (· - 1) rburst)
  · exact dbcol.trans (congrArg (· + 1) rbcol)

/-- A column within the tolerance, not in the last band of its rows: what its pixels deliver stands in the assembly SRAM. -/
theorem State.oneColumn_tolerable {s : State} {e : Split} {band : Nat} {r0 n x : Nat} {r : RingStripe} (hx : x = s.columnOf e band)
    (hband : e.bandRows (band % max 1 (e.w / 16384)) = (r0, n)) (hmid : band % max 1 (e.w / 16384) + 1 ≠ max 1 (e.w / 16384))
    (htol : ∀ y, r0 ≤ y → y < r0 + n →
      (e.pixel s.par.doses x y).2.1.natAbs ≤ e.rd PAR_TOL.TOL ∧ ∀ c ∈ (e.pixel s.par.doses x y).1, c.1 < 2 ^ 18) :
    (s.oneColumn e band r).2 = true ∧ (s.oneColumn e band r).1.par.bcol = s.par.bcol + 1 ∧
    (s.oneColumn e band r).1.par.burst = s.par.burst - 1 ∧ Keeps s (s.oneColumn e band r).1 [.regs, .par, .mem] ∧
    ∀ y b v, r0 ≤ y → y < r0 + n → (b, v) ∈ (e.pixel s.par.doses x y).1 → v ≠ 0 →
      (∀ y' c, r0 ≤ y' → y' < r0 + n → c ∈ (e.pixel s.par.doses x y').1 → c.1 = b → c.2 = v) →
      mget (s.oneColumn e band r).1.par.asm ((x + (e.table.entry b).x0) * 2 ^ 18 + b) = some v := by
  have hrows : s.columnRows e band = e.rows x n r0 s [] := by rw [State.columnRows, hband, hx]
  obtain ⟨hnone, hmem⟩ := Split.rows_tolerable (fun z h1 h2 => (htol z h1 h2).1) []
  rw [← hrows] at hnone hmem
  have hone := State.oneColumn_none hnone r
  obtain ⟨hkeep, -, hburst, hbcol⟩ := State.oneColumn_frame hone
  have hdone : s.columnDone e band r = (s.columnRows e band).1.columnIn e (s.columnOf e band) (s.columnRows e band).2.1 := if_neg hmid
  rw [hone]
  refine ⟨rfl, hbcol, hburst, hkeep, fun y b v h1 h2 hbv hv hsame => ?_⟩
  rw [hdone, ← hx]
  refine e.mget_assembled x ((htol y h1 h2).2 _ hbv) hv (fun c hc => ?_) (fun c hc => ?_) _ (.inl ((hmem _).mpr (.inr ⟨y, h1, h2, hbv⟩)))
  · obtain hc | ⟨z, hz1, hz2, hc⟩ := (hmem c).mp hc
    · exact absurd hc List.not_mem_nil
    · exact (htol z hz1 hz2).2 c hc
  · obtain hc | ⟨z, hz1, hz2, hc⟩ := (hmem c).mp hc
    · exact absurd hc List.not_mem_nil
    · exact hsame z c hz1 hz2 hc

end Sys2Proof.Machine

/-! # A stripe enters Parison, its bursts and its chunks (O42) -/

namespace Sys2Proof.Machine

open Sys2Proof

set_option Elab.async false

/-! ### Bursts (R22, R187) -/

theorem State.runBurst_held {s : State} {e : Split} {band n : Nat} {r : RingStripe} (hburst : s.par.burst ≠ 0)
    (hr : s.ringOf e.k = some r) (hhold : s.mustHold e band = true) :
    State.runBurst e band (n + 1) s = { s.flag PAR_STATUS.HOLD with par := { s.par with holdFrom := some s.mono100 } } := by
  rw [State.runBurst, if_neg hburst, hr]
  exact if_pos hhold

/-- The last column of a burst ends the run. -/
theorem State.runBurst_last {s u : State} {e : Split} {band n : Nat} {r : RingStripe} (hburst : s.par.burst = 1)
    (hr : s.ringOf e.k = some r) (hhold : s.mustHold e band = false) (hone : s.oneColumn e band r = (u, true)) :
    State.runBurst e band (n + 1) s = u := by
  obtain ⟨-, -, hu, -⟩ := State.oneColumn_frame hone
  rw [State.runBurst, if_neg (by omega), hr]
  dsimp only
  rw [if_neg (by simp [hhold]), hone]
  cases n with
  | zero => rfl
  | succ n => exact if_pos (by omega)

theorem State.endBand_keeps (s : State) (e : Split) (band half : Nat) : Keeps s (s.endBand e band half) [.glory, .mem, .par] :=
  .then (.then (.mono (keeps_glory s _)) (keeps_mem _ _)) (keeps_par _ _)

theorem State.reportParison_events (s : State) (k : Stripe) : Keeps s (s.reportParison k) [.regs, .journal] :=
  .then (.then (.ite _ (.refl s _) (s.journalEvent_keeps _ _ _ _)) (State.report_keeps _ _ _ _)) (State.report_keeps _ _ _ _)

theorem State.endParison_keeps (s : State) (k : Stripe) : Keeps s (s.endParison k) [.regs, .journal, .par] :=
  .then (.mono (s.reportParison_events k)) (keeps_par _ _)

theorem State.kickParison_holdsLeave (s : State) (who : Requester) : s.kickParison.holdsLeave who = s.holdsLeave who := by
  unfold State.kickParison
  split
  · split
    · exact s.askLeave_holdsLeave _ _ _
    · rfl
  · rfl

theorem Keeps.holdsLeave {s t : State} {l : List Part} (h : Keeps s t l) (who : Requester) (hl : Part.power ∉ l := by decide) :
    t.holdsLeave who = s.holdsLeave who := by
  have hp : t.power = s.power := h.2 .power hl
  simp only [State.holdsLeave, hp]

/-- A burst is over: its leave is returned, the band and the stripe end where they do, and the next burst is requested. -/
def State.burstOver (s1 : State) (e : Split) (b : Band) (k : Stripe) : State :=
  let s2 := s1.giveLeave .parison
  let s3 := if (e.bandCols (b.no / max 1 (e.w / 16384))).2 ≤ (e.bandCols (b.no / max 1 (e.w / 16384))).1 + s2.par.bcol then
      s2.endBand e b.no b.half else s2
  let s4 := if s3.par.col = k.len then s3.endParison k else s3
  s4.kickParison

theorem State.burstOver_spec (s1 : State) (e : Split) (b : Band) (k : Stripe) :
    (s1.burstOver e b k).holdsLeave .parison = false ∧ (s1.burstOver e b k).link = s1.link := by
  unfold State.burstOver
  extract_lets s2 s3 s4
  have h3 : Keeps s2 s3 [.glory, .mem, .par, .regs, .journal] := .ite _ (s2.endBand_keeps e b.no b.half).mono (.refl s2 _)
  have h4 : Keeps s2 s4 [.glory, .mem, .par, .regs, .journal] := .ite _ (h3.then (s3.endParison_keeps k)) h3
  constructor
  · rw [State.kickParison_holdsLeave, h4.holdsLeave]
    exact s1.giveLeave_holdsLeave .parison
  · exact (s4.kickParison_keeps.2 .link (by decide)).trans ((h4.2 .link (by decide)).trans ((s1.giveLeave_keeps _).2 .link (by decide)))

theorem State.burst_eq {s : State} {k : Stripe} {b : Band} {bs : List Band} (hk : s.par.stripe = some k) (hb : s.par.bands = b :: bs) :
    s.burst = if (State.runBurst (s.split k b.half) b.no 8 s).par.stripe = none ∨ (State.runBurst (s.split k b.half) b.no 8 s).par.burst ≠ 0
      then State.runBurst (s.split k b.half) b.no 8 s
      else (State.runBurst (s.split k b.half) b.no 8 s).burstOver (s.split k b.half) b k := by
  rw [State.burst, hk, hb]
  rfl

section

variable {s : State} {k : Stripe} {b : Band} {bs : List Band} {r : RingStripe} (hk : s.par.stripe = some k) (hb : s.par.bands = b :: bs)
  (hr : s.ringOf k = some r) (hburst : s.par.burst ≠ 0)

include hk hb hr hburst

theorem State.burst_held (hhold : s.mustHold (s.split k b.half) b.no = true) :
    s.burst = { s.flag PAR_STATUS.HOLD with par := { s.par with holdFrom := some s.mono100 } } := by
  rw [State.burst_eq hk hb, State.runBurst_held (n := 7) (e := s.split k b.half) hburst hr hhold]
  exact if_pos (.inr hburst)

omit hburst in
/-- The last column of a burst returns the leave, and the lanes are left as the column has left them. -/
theorem State.burst_last {u : State} (hhold : s.mustHold (s.split k b.half) b.no = false) (hone : s.par.burst = 1)
    (hu : s.oneColumn (s.split k b.half) b.no r = (u, true)) : s.burst.holdsLeave .parison = false ∧ s.burst.link = u.link := by
  obtain ⟨-, hstripe, hburst, -⟩ := State.oneColumn_frame hu
  rw [State.burst_eq hk hb, State.runBurst_last (n := 7) (e := s.split k b.half) hone hr hhold hu,
    if_neg (by simp [hstripe, hk, hburst, hone])]
  exact u.burstOver_spec _ b k

end

/-! ### Column 0 (R31, R159, R178, R188) -/

/-- A switch of Parison's bank changes the root and the active table. -/
theorem State.itemGate_one_keeps {s g : State} {st gen : Nat} (h : s.itemGate 1 st gen = (g, true)) : Keeps s g [.root, .beam] := by
  by_cases h1 : s.actGen 1 = gen
  · rw [State.itemGate_active h1] at h
    exact (Prod.mk.inj h).1 ▸ .refl s _
  by_cases h2 : s.root.staged.gen = gen
  · by_cases hb : s.f BMP_STATUS.FILL_BUSY = 1
    · rw [State.itemGate_filling h1 h2 hb] at h
      simp at h
    · rw [State.itemGate_staged h1 h2 fun _ => hb] at h
      exact (Prod.mk.inj h).1 ▸ .then (.mono (keeps_root s _)) (keeps_beam _ _)
  · rw [State.itemGate_unknown h1 h2] at h
    simp at h

/-- Parison with a stripe begun. -/
def State.begunPar (s : State) (k : Stripe) (t : BeamBank) : Parison :=
  { s.par with
    stripe := some k, next := s.par.next.drop 1, bcol := 0, burst := 0, col := 0, doses := [], asm := [], unc := 0, lsat := 0, held := 0,
    ring := s.par.ring.dropWhile (fun (q : RingStripe) => decide (q.nc ≤ q.sent)) ++ [s.ringPlace k t],
    owner := k.ctx * 2 ^ 128 + k.job }

theorem State.beginStripe_spec (s : State) (k : Stripe) (t : BeamBank) :
    (s.beginStripe k t).par = s.begunPar k t ∧ Keeps s (s.beginStripe k t) [.regs, .par] ∧ (s.beginStripe k t).f PAR_COL_DONE.COL = 0 := by
  have hputs : Keeps { s with par := s.begunPar k t } (s.beginStripe k t) [.regs] :=
    (((((State.put_keeps _ _ _).then (State.put_keeps _ _ _)).then (State.put_keeps _ _ _)).then (State.put_keeps _ _ _)).then
      (State.put_keeps _ _ _)).then (State.put_keeps _ _ _)
  refine ⟨hputs.2 .par (by decide), .then (.mono (keeps_par s _)) hputs, ?_⟩
  simp (disch := decide) only [State.beginStripe, State.f_put_same, State.f_put_other]
  rfl

/-- The fields that a request for leave shows. -/
def leaveFields : List Fld := [PAR_STATUS.LEAVE_WAIT, GLY_STATUS.LEAVE_WAIT, MRV_STATUS.LEAVE_WAIT, PGV_STATE.USED, PGV_STATUS.WAITING]

theorem State.flagWait_keepsFields (s : State) (who : Requester) : KeepsFields s (s.flagWait who) leaveFields := by
  unfold State.flagWait
  cases who with
  | training _ | sage _ => exact .refl s _
  | marver _ _ | coarse | pixel | parison => exact (s.put_keepsFields _ 1).mono

theorem State.askLeave_keepsFields (s : State) (who : Requester) (units : Nat) : KeepsFields s (s.askLeave who units) leaveFields := by
  unfold State.askLeave
  extract_lets s1
  have h1 : KeepsFields s s1 leaveFields := .ite _ (.refl s _) (s.flagWait_keepsFields who)
  exact ((h1.then (m := []) (.of_regs rfl _)).then (State.put_keepsFields _ _ _)).then (State.put_keepsFields _ _ _)

theorem State.kickParison_f (s : State) {x : Fld} (hx : x.key ∉ leaveFields.map Fld.key) : s.kickParison.f x = s.f x := by
  unfold State.kickParison
  split
  · split
    · exact s.askLeave_keepsFields _ _ x hx
    · rfl
  · rfl

section

variable {s g : State} {k : Stripe} {rest : List Stripe} {b : Band} {r : List Band} (hp : s.par.stripe = none) (hnext : s.par.next = k :: rest)
  (hb : s.par.bands = b :: r) (hkey : b.key = k.key) (hen : s.runs PAR_CTL.ENABLE = true)

include hp hnext hb hkey hen

theorem exec_stripeColumnZero_gated (hgate : s.itemGate 1 k.num b.gen = (g, false)) : exec .stripeColumnZero s = .next g := by
  change execStripeColumnZero s = _
  simp only [execStripeColumnZero, hp, hnext, hb]
  rw [if_neg (by simp [hkey, hen]), hgate]
  rfl

variable {t : BeamBank} (hgate : s.itemGate 1 k.num b.gen = (g, true)) (ht : g.beamTable k.gen = some t)

include hgate ht

theorem exec_stripeColumnZero_open :
    exec .stripeColumnZero s =
      if g.zeroOk k t then .next (g.beginStripe k t).kickParison else .next ((g.zeroChecks k t).dropStripe k) := by
  change execStripeColumnZero s = _
  simp only [execStripeColumnZero, hp, hnext, hb]
  rw [if_neg (by simp [hkey, hen]), hgate]
  dsimp only
  rw [if_neg (by decide), ht]

theorem exec_stripeColumnZero_begins (hc : t.cause = 0) (hpc : g.parCause (g.genF 1 k.gen) = 0) (hlag : t.lagGroup = none)
    (hbad : t.bad = none) :
    Gives (exec .stripeColumnZero s) (fun u =>
      u.par.stripe = some k ∧ u.par.next = rest ∧ u.par.bands = s.par.bands ∧ u.f PAR_COL_DONE.COL = 0 ∧
      u.par.ring = s.par.ring.dropWhile (fun q => decide (q.nc ≤ q.sent)) ++
        [{ num := k.num, gen := k.gen, ctx := k.ctx, base := s.nextBase, nc := cdiv (k.len + t.maxX0) 64, done := 0, cols := 0, sent := 0,
           flashes := k.len + t.maxX0, minX0 := t.minX0, closed := false }] ∧
      Keeps s u [.regs, .par, .power, .root, .beam]) := by
  have hok : g.zeroOk k t = true := by simp [State.zeroOk, hc, hpc, hlag, hbad]
  have hg := State.itemGate_one_keeps hgate
  have hpar : g.par = s.par := hg.2 .par (by decide)
  obtain ⟨hbegin, hregs, hcol⟩ := g.beginStripe_spec k t
  have hkick := (g.beginStripe k t).kickParison_keeps
  have hupar : (g.beginStripe k t).kickParison.par = s.begunPar k t := by
    rw [hkick.2 .par (by decide), hbegin]
    simp only [State.begunPar, State.ringPlace, State.nextBase, hpar]
  refine ⟨_, (exec_stripeColumnZero_open hp hnext hb hkey hen hgate ht).trans (if_pos hok), ?_, ?_, ?_, ?_, ?_, ?_⟩
  · rw [hupar]
    rfl
  · rw [hupar, State.begunPar, hnext]
    rfl
  · rw [hupar]
    rfl
  · exact ((g.beginStripe k t).kickParison_f (by decide)).trans hcol
  · rw [hupar]
    rfl
  · exact (hg.mono.then hregs).then hkick

/-- A stripe that fails its checks halts its job with each of them, and leaves the data path. -/
theorem exec_stripeColumnZero_fails (hfail : g.zeroOk k t = false) :
    exec .stripeColumnZero s = .next ((g.zeroChecks k t).dropStripe k) :=
  (exec_stripeColumnZero_open hp hnext hb hkey hen hgate ht).trans (if_neg (by simp [hfail]))

theorem exec_stripeColumnZero_map (hc : t.cause ≠ 0) (hpc : g.parCause (g.genF 1 k.gen) = 0) (hlag : t.lagGroup = none)
    (hbad : t.bad = none) :
    exec .stripeColumnZero s = .next ((g.jobFault k.ctx 0x0A10 false [a32 k.num, a32 k.gen, a8 t.cause, a32 t.beam]).dropStripe k) := by
  rw [exec_stripeColumnZero_fails hp hnext hb hkey hen hgate ht (by simp [State.zeroOk, hc]), State.zeroChecks, hlag, hbad]
  simp only [hpc, if_neg hc, if_true]

theorem exec_stripeColumnZero_set (hc : t.cause = 0) (hpc : g.parCause (g.genF 1 k.gen) ≠ 0) (hlag : t.lagGroup = none)
    (hbad : t.bad = none) :
    exec .stripeColumnZero s =
      .next ((g.jobFault k.ctx 0x0B11 false [a32 k.num, a32 k.gen, a8 (g.parCause (g.genF 1 k.gen))]).dropStripe k) := by
  rw [exec_stripeColumnZero_fails hp hnext hb hkey hen hgate ht (by simp [State.zeroOk, hpc]), State.zeroChecks, hlag, hbad]
  simp only [hc, if_neg hpc, if_true]

theorem exec_stripeColumnZero_lags {j : Nat} (hc : t.cause ≠ 0) (hpc : g.parCause (g.genF 1 k.gen) = 0) (hlag : t.lagGroup = some j)
    (hbad : t.bad = none) :
    exec .stripeColumnZero s =
      .next (((g.jobFault k.ctx 0x0A10 false [a32 k.num, a32 k.gen, a8 t.cause, a32 t.beam]).jobFault k.ctx 0x0B12 false
        [a32 k.num, a32 k.gen, a32 j]).dropStripe k) := by
  rw [exec_stripeColumnZero_fails hp hnext hb hkey hen hgate ht (by simp [State.zeroOk, hc]), State.zeroChecks, hlag, hbad]
  simp only [hpc, if_neg hc, if_true]

end

theorem exec_stripeColumnZero_none {s : State} (hb : s.par.bands = []) : exec .stripeColumnZero s = .next s := by
  change execStripeColumnZero s = _
  unfold execStripeColumnZero
  split
  · next h => exact absurd (hb.symm.trans h) nofun
  · rfl

/-! ### Chunks leave (R184) -/

/-- Where only the ACTIVE stripe is left, its chunks wait for its strobes and every other is over. -/
theorem State.chunkSent_iff {s : State} {r : RingStripe} {a : Stripe} (hp : s.gaf.prepared = none) (hq : s.gaf.queued = none)
    (ha : s.gaf.active = some a) :
    (r.num = a.num → r.ctx = a.ctx → r.closed = false → (s.chunkSent r = true ↔ min (64 * (r.sent + 1)) r.flashes ≤ s.mot.struck.1)) ∧
    (r.num ≠ a.num ∨ r.ctx ≠ a.ctx ∨ r.closed = true → s.chunkSent r = true) := by
  have heq : s.chunkSent r = if r.isOf a then decide (min (64 * (r.sent + 1)) r.flashes ≤ s.mot.struck.1) else true := by
    simp only [State.chunkSent, hp, hq, ha, Option.any_none, Bool.or_self, Bool.false_eq_true, if_false]
  rw [heq]
  refine ⟨fun hn hc ho => ?_, fun h => if_neg ?_⟩
  · rw [if_pos (by simp [RingStripe.isOf, hn, hc, ho]), decide_eq_true_iff]
  · simp only [RingStripe.isOf, Bool.and_eq_true, decide_eq_true_eq, Bool.not_eq_true']
    rintro ⟨⟨hn, hc⟩, ho⟩
    rcases h with h | h | h
    · exact h hn
    · exact h hc
    · simp [ho] at h

theorem State.endHold_free {s : State} (h : s.par.holdFrom = none) : s.endHold = s := by
  rw [State.endHold, h]

theorem exec_chunkRelease {s : State} {r : RingStripe} {l : List RingStripe} (hr : releaseFirst s.par.ring = some (r, l))
    (hh : s.par.holdFrom = none) :
    (s.chunkSent r = true → r.sent < r.done → exec .chunkRelease s = .next { s with par := { s.par with ring := l } }) ∧
    (s.chunkSent r = false → exec .chunkRelease s = .next s) ∧ (r.done ≤ r.sent → exec .chunkRelease s = .next s) := by
  have heq : exec .chunkRelease s = if ¬ s.chunkSent r ∨ r.done ≤ r.sent then .next s
      else .next { s with par := { s.par with ring := l } } := by
    change execChunkRelease s = _
    rw [execChunkRelease, hr]
    dsimp only
    rw [State.endHold_free hh, State.endHold_free (s := { s with par := { s.par with ring := l } }) hh]
  rw [heq]
  exact ⟨fun hs hd => if_neg (by simp [hs]; omega), fun hs => if_pos (by simp [hs]), fun hd => if_pos (.inr hd)⟩

/-- Settles O42: column 0 by its checks, a burst by what one column makes of it, the quantisation and the codec by induction over a pixel's
passes and a block's words. -/
theorem parisonStripes : Obligations.ParisonStripes := by
  unfold Obligations.ParisonStripes
  refine ⟨⟨?_, ?_, ?_, ?_⟩, ?_, ?_, ?_, ?_, ?_, ?_⟩
  · exact fun s g k rest b r t hp hnext hb hkey hen => ⟨fun hgate ht =>
      ⟨exec_stripeColumnZero_begins hp hnext hb hkey hen hgate ht, exec_stripeColumnZero_map hp hnext hb hkey hen hgate ht,
        exec_stripeColumnZero_set hp hnext hb hkey hen hgate ht, fun j => exec_stripeColumnZero_lags hp hnext hb hkey hen hgate ht⟩,
      exec_stripeColumnZero_gated hp hnext hb hkey hen⟩
  · exact fun s r a => State.chunkSent_iff
  · exact fun s => exec_stripeColumnZero_none
  · exact fun s r l => exec_chunkRelease
  · exact fun d e x y fx fy i j hfx hfy hdx hdy => ⟨fun h => sampleAt_dead h x y, fun h => sampleAt_live h x y hfx hfy hdx hdy⟩
  · exact fun rd n q s v hn h => shareOf_exact rd q hn h
  · exact fun rd q l => quantise_exact rd q l
  · exact fun s e band r0 n x r hx hband hmid htol => State.oneColumn_tolerable hx hband hmid htol
  · rintro s k b bs r e hk hb hr hburst rfl
    exact ⟨State.burst_held hk hb hr hburst, fun u => State.burst_last hk hb hr⟩
  · exact fun n l hn hl => ungroups_codecGroups hn hl 0

end Sys2Proof.Machine

/-! # An admitted context's limit (O60) -/

namespace Sys2Proof.Machine

open Sys2Proof

set_option Elab.async false

/-- A write of GTH_CTL leaves every field but its own and the count of free pages. -/
theorem State.gthCtlWrite_f_other (s : State) (v : Nat) {x : Fld} (h1 : x.key ≠ GTH_CTL.ENABLE.key) (h2 : x.key ≠ GTH_CTL.SLOTS.key)
    (h3 : x.key ≠ GTH_CTL.RETRY_MAX.key) (h4 : x.key ≠ GTH_FREE_PAGES.FREE.key) : (s.gthCtlWrite v).f x = s.f x := by
  unfold State.gthCtlWrite
  split
  · exact (State.f_put_other _ _ h4).trans (s.ctlFields_f_other v h1 h2 h3)
  · exact (State.freePool_f _ h4).trans (s.ctlFields_f_other v h1 h2 h3)

/-- GTH_CTX_LIMIT has 27 bits: an opened context shows its limit modulo 2 ^ 27. -/
theorem State.openCtx_limit (s : State) (job limit zlib : Nat) :
    (s.openCtx 0 job limit zlib).f (GTH_CTX_LIMIT.LIMIT 0) = limit % 2 ^ 27 :=
  calc (s.openCtx 0 job limit zlib).f (GTH_CTX_LIMIT.LIMIT 0)
    _ = (((s.put (GTH_CTX_LIMIT.LIMIT 0) limit).put (GTH_CTX_CFG.ZLIB 0) zlib).gthEnable 1).f (GTH_CTX_LIMIT.LIMIT 0) :=
      (State.pulse_f _ 11 (by decide) (by decide)).trans (State.f_put_other _ _ (by decide))
    _ = ((s.put (GTH_CTX_LIMIT.LIMIT 0) limit).put (GTH_CTX_CFG.ZLIB 0) zlib).f (GTH_CTX_LIMIT.LIMIT 0) :=
      State.gthCtlWrite_f_other _ _ (by decide) (by decide) (by decide) (by decide)
    _ = limit % 2 ^ 27 := (State.f_put_other _ _ (by decide)).trans (State.f_put_same _ _ _)

/-- Refutes O60: a context of the device after reset, opened with the limit 2 ^ 27, shows the limit 0, where the statement asks for the
limit modulo 2 ^ 32. An admission (R386) refuses such a limit before it opens a context; the statement's clause is about every limit. -/
theorem not_services : ¬ Obligations.Services := by
  unfold Obligations.Services
  rintro ⟨-, -, -, -, -, -, -, -, -, hopen, -⟩
  obtain ⟨-, -, hlimit, -⟩ := hopen State.reset 0 0 (2 ^ 27) 0 (by decide) (by decide)
  exact absurd ((State.openCtx_limit _ _ _ _).symm.trans hlimit) (by decide)

end Sys2Proof.Machine

/-! # Instructions of a walk context (O34, O35) -/

namespace Sys2Proof.Machine

open Sys2Proof

set_option Elab.async false

/-! ### The faults that an instruction shows by itself (R37 to R39, R49, R51, R56, R57, R62 to R66, R72, R74) -/

/-- What `State.fcStep` looks for first: an instruction that runs past its definition of n words shows the faults of its header only. -/
def Walk.shows (t : Walk) (l : Level) (n h : Nat) : Option Nat :=
  if l.woff + (instrWords h).getD 1 ≤ n then wordFault h (fun k => t.word (l.woff + k)) else headFault h

/-- What may not stand where it does: SEGREF and END in a cell, an instruction before CELL_BEGIN, and one other than CELL_END whose words
reach the last one of a definition of n words (R45, R50). -/
def Level.misplaced (l : Level) (n h : Nat) : Prop :=
  h / 2 ^ 24 = 0x50 ∨ h / 2 ^ 24 = 0xFF ∨ (h / 2 ^ 24 ≠ 0x10 ∧ l.box = none) ∨
    (h / 2 ^ 24 ≠ 0x11 ∧ n ≤ l.woff + (instrWords h).getD 1)

section
variable {h : Nat} {wd : Nat → Nat}

theorem wordFault_illegal (hn : instrWords h = none) : wordFault h wd = some 0x0740 := by
  simp [wordFault, hn]

theorem headFault_illegal (hn : instrWords h = none) : headFault h = some 0x0740 := by
  simp [headFault, hn]

theorem wordFault_reserved {n : Nat} (hn : instrWords h = some n) (hr : reservedSet h wd = true) : wordFault h wd = some 0x0741 := by
  simp [wordFault, hn, hr]

theorem wordFault_count {n : Nat} (hn : instrWords h = some n) (hr : reservedSet h wd = false) (hc : badCount h wd = true) :
    wordFault h wd = some 0x0742 := by
  simp [wordFault, hn, hr, hc]

theorem wordFault_order {n : Nat} (hn : instrWords h = some n) (hr : reservedSet h wd = false) (hc : badCount h wd = false)
    (ho : badOrder h wd = true) : wordFault h wd = some 0x0743 := by
  simp [wordFault, hn, hr, hc, ho]

theorem wordFault_none {n : Nat} (hn : instrWords h = some n) (hr : reservedSet h wd = false) (hc : badCount h wd = false)
    (ho : badOrder h wd = false) : wordFault h wd = none := by
  simp [wordFault, hn, hr, hc, ho]

end

/-! ### A context at an instruction -/

section
variable {s : State} {w op h n : Nat} {t : Walk} {l : Level} {run : Walk → Level → (Nat → Nat) → State}

theorem AtWord.header (a : AtWord s w t l h) : t.word (l.woff + 0) = h := by
  obtain ⟨-, -, -, -, -, hh, -⟩ := a
  exact hh

theorem State.fcStep_shows {c : Nat} (a : AtWord s w t l h) (hf : t.shows l (s.cell t.ctx l.cell).len h = some c) :
    s.fcStep w op run = s.walkFault w t l c := by
  obtain ⟨hw, hst, ⟨r, hs⟩, hres, hp, rfl, hlen⟩ := a
  unfold Walk.shows at hf
  simp [State.fcStep, hw, hs, hst, hres, hp, Nat.not_le.mpr hlen, hf]

theorem State.fcStep_misplaced (a : AtWord s w t l h) (hf : t.shows l (s.cell t.ctx l.cell).len h = none)
    (hm : l.misplaced (s.cell t.ctx l.cell).len h) : s.fcStep w op run = s.walkFault w t l 0x0744 := by
  obtain ⟨hw, hst, ⟨r, hs⟩, hres, hp, rfl, hlen⟩ := a
  unfold Walk.shows at hf
  unfold Level.misplaced at hm
  simp only [State.fcStep, hw, hs, hst, hres, hp, Nat.not_le.mpr hlen, Nat.add_zero, hf, if_pos hm]
  simp

theorem State.fcStep_runs (a : AtWord s w t l h) (hf : t.shows l (s.cell t.ctx l.cell).len h = none)
    (hm : ¬ l.misplaced (s.cell t.ctx l.cell).len h) (hop : h / 2 ^ 24 = op) :
    s.fcStep w op run = run t l (fun k => t.word (l.woff + k)) := by
  obtain ⟨hw, hst, ⟨r, hs⟩, hres, hp, rfl, hlen⟩ := a
  unfold Walk.shows at hf
  unfold Level.misplaced at hm
  simp only [State.fcStep, hw, hs, hst, hres, hp, Nat.not_le.mpr hlen, Nat.add_zero, hf, if_neg hm, if_pos hop]
  simp

theorem AtInstr.shows (a : AtInstr s w t l h n) (hn : instrWords h = some n) :
    t.shows l (s.cell t.ctx l.cell).len h = wordFault h (fun k => t.word (l.woff + k)) := by
  obtain ⟨-, -, hlen⟩ := a
  exact if_pos (by rw [hn]; exact hlen.le)

/-- An instruction of the command's opcode that shows no fault and that may stand where it does is carried out. -/
theorem State.fcStep_instr (a : AtInstr s w t l h n) (hop : h / 2 ^ 24 = op) (hn : instrWords h = some n)
    (hc : badCount h (fun k => t.word (l.woff + k)) = false) (ho : badOrder h (fun k => t.word (l.woff + k)) = false)
    (hb : op = 0x10 ∨ l.box.isSome = true) (h50 : op ≠ 0x50 := by decide) (hFF : op ≠ 0xFF := by decide) :
    s.fcStep w op run = run t l (fun k => t.word (l.woff + k)) := by
  obtain ⟨hat, hr, hlen⟩ := a
  refine State.fcStep_runs hat ((AtInstr.shows ⟨hat, hr, hlen⟩ hn).trans (wordFault_none hn hr hc ho)) ?_ hop
  rintro (h1 | h1 | ⟨h1, h2⟩ | ⟨-, h2⟩)
  · exact h50 (hop.symm.trans h1)
  · exact hFF (hop.symm.trans h1)
  · rcases hb with hb | hb
    · exact h1 (hop.trans hb)
    · rw [h2] at hb
      exact Bool.noConfusion hb
  · rw [hn] at h2
    exact absurd hlen (Nat.not_lt.mpr h2)

/-- BAD_ORDER. -/
theorem State.fcStep_order (a : AtInstr s w t l h n) (hn : instrWords h = some n)
    (hc : badCount h (fun k => t.word (l.woff + k)) = false) (ho : badOrder h (fun k => t.word (l.woff + k)) = true) :
    s.fcStep w op run = s.walkFault w t l 0x0743 :=
  State.fcStep_shows a.1 ((a.shows hn).trans (wordFault_order hn a.2.1 hc ho))

/-- An instruction before CELL_BEGIN is CELL_NEST. -/
theorem State.fcStep_noBox (a : AtInstr s w t l h n) (h10 : h / 2 ^ 24 ≠ 0x10) (hn : instrWords h = some n)
    (hc : badCount h (fun k => t.word (l.woff + k)) = false) (ho : badOrder h (fun k => t.word (l.woff + k)) = false)
    (hb : l.box = none) : s.fcStep w op run = s.walkFault w t l 0x0744 :=
  State.fcStep_misplaced a.1 ((a.shows hn).trans (wordFault_none hn a.2.1 hc ho)) (.inr (.inr (.inl ⟨h10, hb⟩)))

end

end Sys2Proof.Machine

/-! # Figures (O35) -/

namespace Sys2Proof.Machine

open Sys2Proof

set_option Elab.async false

/-! ### What a figure's header and pairs of words show (R62 to R66) -/

section
variable {h : Nat} {wd : Nat → Nat}

theorem badCount_other (h33 : h / 2 ^ 24 ≠ 0x33) (h21 : h / 2 ^ 24 ≠ 0x21) : badCount h wd = false := by
  simp only [badCount, badVertices, decide_eq_false h33, decide_eq_false h21, Bool.false_and, Bool.or_self]

theorem badCount_poly (hh : h / 2 ^ 24 = 0x33) : badCount h wd = badVertices h := by
  simp only [badCount, hh, Nat.reduceEqDiff, decide_false, Bool.false_and, Bool.or_false]

theorem badVertices_poly (hh : h / 2 ^ 24 = 0x33) : badVertices h = true ↔ h % 256 < 3 ∨ 64 < h % 256 := by
  simp only [badVertices, hh, decide_true, Bool.true_and, Bool.not_eq_true', Bool.and_eq_false_iff, decide_eq_false_iff_not]
  omega

theorem badOrder_rect (hh : h / 2 ^ 24 = 0x30) : badOrder h wd = true ↔ w32 (wd 3) < w32 (wd 1) ∨ w32 (wd 4) < w32 (wd 2) := by
  simp only [badOrder, hh, Bool.or_eq_true, decide_eq_true_eq]

theorem badOrder_trap (hh : h / 2 ^ 24 = 0x31 ∨ h / 2 ^ 24 = 0x32) :
    badOrder h wd = true ↔ w32 (wd 2) < w32 (wd 1) ∨ w32 (wd 4) < w32 (wd 3) ∨ w32 (wd 6) < w32 (wd 5) := by
  rcases hh with hh | hh <;> simp only [badOrder, hh, Bool.or_eq_true, decide_eq_true_eq, or_assoc]

theorem badOrder_poly (hh : h / 2 ^ 24 = 0x33) : badOrder h wd = false := by
  simp only [badOrder, hh]

end

/-! ### The checks of a figure's vertices (R41, R51, R65) -/

section
variable {s : State} {w n : Nat} {t : Walk} {l : Level} {pts : List Pt} {degen : Bool} {go : Unit → State}

theorem State.figure_range {p : Pt} (hp : p ∈ pts) (hr : ptInRange (place l.orient (l.dx, l.dy) p) = false) :
    s.figure w t l n pts degen go = s.walkFault w t l 0x0748 :=
  if_pos fun hall => by rw [List.all_eq_true.mp hall p hp] at hr; exact Bool.noConfusion hr

theorem State.figure_box (hr : ∀ p ∈ pts, ptInRange (place l.orient (l.dx, l.dy) p) = true) {p : Pt} (hp : p ∈ pts)
    (hb : l.boxOf.holds p = false) : s.figure w t l n pts degen go = s.walkFault w t l 0x0749 :=
  (if_neg (not_not.mpr (List.all_eq_true.mpr hr))).trans
    (if_pos fun hall => by rw [List.all_eq_true.mp hall p hp] at hb; exact Bool.noConfusion hb)

theorem State.figure_takes (h : l.takes pts) : s.figure w t l n pts degen go = if degen then s.degenerate w t n else go () :=
  (if_neg (not_not.mpr (List.all_eq_true.mpr h.1))).trans (if_neg (not_not.mpr (List.all_eq_true.mpr h.2)))

theorem State.figure_emits (h : l.takes pts) (hd : degen = false) : s.figure w t l n pts degen go = go () :=
  (State.figure_takes h).trans (by rw [hd]; rfl)

theorem State.figure_degenerate (h : l.takes pts) (hd : degen = true) : s.figure w t l n pts degen go = s.degenerate w t n :=
  (State.figure_takes h).trans (by rw [hd]; rfl)

end

/-! ### A figure that is in order comes to its vertices' checks -/

/-- The corners of a RECT (R62). -/
def Walk.rectCorners (t : Walk) (l : Level) : List Pt :=
  [(t.arg l 1, t.arg l 2), (t.arg l 3, t.arg l 2), (t.arg l 1, t.arg l 4), (t.arg l 3, t.arg l 4)]

/-- The box of a RECT in plate coordinates. -/
def Walk.rectBox (t : Walk) (l : Level) : Box :=
  (Box.mk (t.arg l 1) (t.arg l 2) (t.arg l 3) (t.arg l 4)).move l.orient (l.dx, l.dy)

/-- The vertices of a POLY of n (R66). -/
def Walk.polyVertices (t : Walk) (l : Level) (n : Nat) : List Pt :=
  (List.range n).map (fun i => (t.arg l (1 + 2 * i), t.arg l (2 + 2 * i)))

section
variable {s : State} {w : Fin 32} {t : Walk} {l : Level} {h : Nat}

theorem exec_fcRect_ordered (hb : l.box.isSome = true) (a : AtInstr s w t l h 5) (hh : h / 2 ^ 24 = 0x30) (hx : t.arg l 1 ≤ t.arg l 3)
    (hy : t.arg l 2 ≤ t.arg l 4) : exec (.fcRect w) s = .next (s.figure w t l 5 (t.rectCorners l)
      (decide (t.arg l 1 = t.arg l 3) || decide (t.arg l 2 = t.arg l 4)) (fun _ => s.emitTraps w t l 5
        [makeTrap 0 (0, 0) false (t.rectBox l).y0 (t.rectBox l).y1 (t.rectBox l).x0 (t.rectBox l).x1 (t.rectBox l).x0
          (t.rectBox l).x1])) := by
  have ho : ¬ badOrder h (fun k => t.word (l.woff + k)) = true := by
    rw [badOrder_rect hh]
    exact fun hf => hf.elim (not_lt.mpr hx) (not_lt.mpr hy)
  change execFcRect w s = _
  rw [execFcRect, State.fcStep_instr a hh (by simp only [instrWords, hh]) (badCount_other (by omega) (by omega))
    (Bool.eq_false_iff.mpr ho) (.inr hb)]
  rfl

theorem exec_fcRect_unordered (a : AtInstr s w t l h 5) (hh : h / 2 ^ 24 = 0x30) (ho : t.arg l 3 < t.arg l 1 ∨ t.arg l 4 < t.arg l 2) :
    exec (.fcRect w) s = .next (s.walkFault w t l 0x0743) :=
  congrArg _ (State.fcStep_order a (by simp only [instrWords, hh]) (badCount_other (by omega) (by omega)) ((badOrder_rect hh).mpr ho))

theorem badOrder_trap_false (hh : h / 2 ^ 24 = 0x31 ∨ h / 2 ^ 24 = 0x32) (h1 : t.arg l 1 ≤ t.arg l 2) (h2 : t.arg l 3 ≤ t.arg l 4)
    (h3 : t.arg l 5 ≤ t.arg l 6) : badOrder h (fun k => t.word (l.woff + k)) = false := by
  rw [← Bool.not_eq_true, badOrder_trap hh]
  rintro (hf | hf | hf)
  · exact not_lt.mpr h1 hf
  · exact not_lt.mpr h2 hf
  · exact not_lt.mpr h3 hf

theorem exec_fcXtrap_ordered (hb : l.box.isSome = true) (a : AtInstr s w t l h 7) (hh : h / 2 ^ 24 = 0x31)
    (h1 : t.arg l 1 ≤ t.arg l 2) (h2 : t.arg l 3 ≤ t.arg l 4) (h3 : t.arg l 5 ≤ t.arg l 6) :
    exec (.fcXtrap w) s = .next (s.figure w t l 7
      [(t.arg l 3, t.arg l 1), (t.arg l 4, t.arg l 1), (t.arg l 5, t.arg l 2), (t.arg l 6, t.arg l 2)]
      (decide (t.arg l 1 = t.arg l 2) || (decide (t.arg l 3 = t.arg l 4) && decide (t.arg l 5 = t.arg l 6)))
      (fun _ => s.emitTraps w t l 7
        [makeTrap l.orient (l.dx, l.dy) false (t.arg l 1) (t.arg l 2) (t.arg l 3) (t.arg l 4) (t.arg l 5) (t.arg l 6)])) := by
  change execFcXtrap w s = _
  rw [execFcXtrap, State.fcStep_instr a hh (by simp only [instrWords, hh]) (badCount_other (by omega) (by omega))
    (badOrder_trap_false (.inl hh) h1 h2 h3) (.inr hb)]
  rfl

theorem exec_fcYtrap_ordered (hb : l.box.isSome = true) (a : AtInstr s w t l h 7) (hh : h / 2 ^ 24 = 0x32)
    (h1 : t.arg l 1 ≤ t.arg l 2) (h2 : t.arg l 3 ≤ t.arg l 4) (h3 : t.arg l 5 ≤ t.arg l 6) :
    exec (.fcYtrap w) s = .next (s.figure w t l 7
      [(t.arg l 1, t.arg l 3), (t.arg l 1, t.arg l 4), (t.arg l 2, t.arg l 5), (t.arg l 2, t.arg l 6)]
      (decide (t.arg l 1 = t.arg l 2) || (decide (t.arg l 3 = t.arg l 4) && decide (t.arg l 5 = t.arg l 6)))
      (fun _ => s.emitTraps w t l 7
        [makeTrap l.orient (l.dx, l.dy) true (t.arg l 1) (t.arg l 2) (t.arg l 3) (t.arg l 4) (t.arg l 5) (t.arg l 6)])) := by
  change execFcYtrap w s = _
  rw [execFcYtrap, State.fcStep_instr a hh (by simp only [instrWords, hh]) (badCount_other (by omega) (by omega))
    (badOrder_trap_false (.inr hh) h1 h2 h3) (.inr hb)]
  rfl

/-- A trapezoid whose pairs fall is BAD_ORDER, whichever command meets it. -/
theorem State.fcStep_trap_unordered {op : Nat} {run : Walk → Level → (Nat → Nat) → State} (a : AtInstr s w t l h 7)
    (hh : h / 2 ^ 24 = 0x31 ∨ h / 2 ^ 24 = 0x32) (ho : t.arg l 2 < t.arg l 1 ∨ t.arg l 4 < t.arg l 3 ∨ t.arg l 6 < t.arg l 5) :
    s.fcStep w op run = s.walkFault w t l 0x0743 :=
  State.fcStep_order a (by rcases hh with hh | hh <;> simp only [instrWords, hh]) (badCount_other (by omega) (by omega))
    ((badOrder_trap hh).mpr ho)

theorem exec_fcPoly_counted {n : Nat} (hb : l.box.isSome = true) (a : AtInstr s w t l h (1 + 2 * n)) (hh : h = 0x33000000 + n)
    (h3 : 3 ≤ n) (h64 : n ≤ 64) : exec (.fcPoly w) s = .next (s.figure w t l (1 + 2 * n) (t.polyVertices l n)
      (collinear (t.polyVertices l n)) (fun _ =>
        if isSimple (distinct ((t.polyVertices l n).map (place l.orient (l.dx, l.dy)))) then
          s.emitTraps w t l (1 + 2 * n) (decompose (distinct ((t.polyVertices l n).map (place l.orient (l.dx, l.dy)))))
        else s.walkFault w t l 0x074A)) := by
  have hdiv : h / 2 ^ 24 = 0x33 := by omega
  have hmod : h % 256 = n := by omega
  have hword : t.word (l.woff + 0) % 256 = n := by rw [a.1.header, hmod]
  have hc : ¬ badCount h (fun k => t.word (l.woff + k)) = true := by
    rw [badCount_poly hdiv, badVertices_poly hdiv]
    omega
  change execFcPoly w s = _
  rw [execFcPoly, State.fcStep_instr a hdiv (by simp only [instrWords, hdiv, hmod]) (Bool.eq_false_iff.mpr hc)
    (badOrder_poly hdiv) (.inr hb)]
  simp only [hword]
  rfl

/-- BAD_COUNT is shown by the header of a POLY alone, whole or cut short. -/
theorem exec_fcPoly_badCount {n : Nat} (a : AtWord s w t l h) (hh : h = 0x33000000 + n) (h256 : n < 256) (hn : n < 3 ∨ 64 < n) :
    exec (.fcPoly w) s = .next (s.walkFault w t l 0x0742) := by
  have hdiv : h / 2 ^ 24 = 0x33 := by omega
  have hmod : h % 2 ^ 24 = n := by omega
  have hwords : instrWords h = some (1 + 2 * (h % 256)) := by simp only [instrWords, hdiv]
  have hv : badVertices h = true := (badVertices_poly hdiv).mpr (by omega)
  have hres : headReserved h = false := by
    simp only [headReserved, hdiv, hmod, decide_eq_false_iff_not]
    omega
  refine congrArg _ (State.fcStep_shows a ?_)
  unfold Walk.shows
  split
  · exact wordFault_count hwords (by simp only [reservedSet, hres, hdiv, Bool.or_self]) ((badCount_poly hdiv).trans hv)
  · simp [headFault, hwords, hres, hv]

end

/-- Settles O35: a figure of its opcode and its length shows its fault by itself, or comes to the checks of its vertices. -/
theorem figures : Obligations.Figures := by
  unfold Obligations.Figures
  refine fun s w t l h hb => ⟨?_, ?_, ?_, ?_, ?_⟩
  · rintro _ _ _ _ a hh rfl rfl rfl rfl
    have hh : h / 2 ^ 24 = 0x30 := by omega
    have hrun := exec_fcRect_ordered hb a hh
    refine ⟨fun hx hy htakes => ?_, exec_fcRect_unordered a hh, fun hx hy hr => ?_, fun hx hy hr hbox => ?_, fun hx hy htakes => ?_⟩
    · exact (hrun hx.le hy.le).trans (congrArg _ (State.figure_emits htakes (by simp [hx.ne, hy.ne])))
    · exact (hrun hx hy).trans (congrArg _ (State.figure_range (.head _) hr))
    · exact (hrun hx hy).trans (congrArg _ (State.figure_box hr (.head _) hbox))
    · exact (hrun hx.le hy).trans (congrArg _ (State.figure_degenerate htakes (by simp [hx])))
  · rintro _ _ _ _ _ _ a hh rfl rfl rfl rfl rfl rfl
    have hh : h / 2 ^ 24 = 0x31 := by omega
    refine ⟨fun h1 h2 h3 hne htakes => ?_, fun ho => congrArg _ (State.fcStep_trap_unordered a (.inl hh) ho)⟩
    exact (exec_fcXtrap_ordered hb a hh h1.le h2 h3).trans
      (congrArg _ (State.figure_emits htakes (by rcases hne with hne | hne <;> simp [h1.ne, hne.ne])))
  · rintro _ _ _ _ _ _ a hh rfl rfl rfl rfl rfl rfl
    have hh : h / 2 ^ 24 = 0x32 := by omega
    refine ⟨fun h1 h2 h3 hne htakes => ?_, fun ho => congrArg _ (State.fcStep_trap_unordered a (.inr hh) ho)⟩
    exact (exec_fcYtrap_ordered hb a hh h1.le h2 h3).trans
      (congrArg _ (State.figure_emits htakes (by rcases hne with hne | hne <;> simp [h1.ne, hne.ne])))
  · rintro n _ a hh h3 h64 rfl htakes hline
    have hrun := (exec_fcPoly_counted hb a hh h3 h64).trans (congrArg _ (State.figure_emits htakes hline))
    exact ⟨fun hs => hrun.trans (congrArg _ (if_pos hs)), fun hs => hrun.trans (congrArg _ (if_neg (Bool.eq_false_iff.mp hs)))⟩
  · exact fun n a hh h256 hn => exec_fcPoly_badCount a hh h256 hn

end Sys2Proof.Machine

/-! # Control words and placements of figure code (O34) -/

namespace Sys2Proof.Machine

open Sys2Proof

set_option Elab.async false

/-! ### Control words (R49 to R51, R59, R71, R74) -/

section
variable {h : Nat} {wd : Nat → Nat}

theorem badOrder_cellBegin (hh : h / 2 ^ 24 = 0x10) : badOrder h wd = true ↔ w32 (wd 4) < w32 (wd 2) ∨ w32 (wd 5) < w32 (wd 3) := by
  simp only [badOrder, hh, Bool.or_eq_true, decide_eq_true_eq]

/-- Only CELL_BEGIN and the figures have words that must not fall. -/
theorem badOrder_other (h10 : h / 2 ^ 24 ≠ 0x10) (hf : h / 2 ^ 24 < 0x30 ∨ 0x33 ≤ h / 2 ^ 24) : badOrder h wd = false := by
  unfold badOrder
  split
  case h_1 hc => exact absurd hc h10
  case h_2 | h_3 | h_4 => omega
  case h_5 => rfl

end

section
variable {s : State} {w : Fin 32} {t : Walk} {l : Level} {h : Nat}

theorem exec_fcNop_advances (hb : l.box.isSome = true) (a : AtInstr s w t l h 1) (hh : h / 2 ^ 24 = 0x01) :
    exec (.fcNop w) s = .next (s.setWalk w (some (t.advance 1))) :=
  congrArg _ (State.fcStep_instr a hh (by simp only [instrWords, hh]) (badCount_other (by omega) (by omega))
    (badOrder_other (by omega) (by omega)) (.inr hb))

theorem exec_fcNop_noBox (hb : l.box = none) (a : AtInstr s w t l h 1) (hh : h / 2 ^ 24 = 0x01) :
    exec (.fcNop w) s = .next (s.walkFault w t l 0x0744) :=
  congrArg _ (State.fcStep_noBox a (by omega) (by simp only [instrWords, hh]) (badCount_other (by omega) (by omega))
    (badOrder_other (by omega) (by omega)) hb)

/-- A NOP where CELL_END must stand is CELL_NEST. -/
theorem exec_fcNop_atEnd (a : AtWord s w t l h) (hh : h = 0x01000000) (hlen : l.woff + 1 = (s.cell t.ctx l.cell).len) :
    exec (.fcNop w) s = .next (s.walkFault w t l 0x0744) := by
  subst hh
  have hshows : t.shows l (s.cell t.ctx l.cell).len 0x01000000 = none :=
    (if_pos hlen.le).trans (wordFault_none (n := 1) rfl rfl (badCount_other (by decide) (by decide))
      (badOrder_other (by decide) (by decide)))
  exact congrArg _ (State.fcStep_misplaced a hshows (.inr (.inr (.inr ⟨by decide, hlen.ge⟩))))

theorem exec_fcNop_illegal (a : AtWord s w t l h) (hn : instrWords h = none) : exec (.fcNop w) s = .next (s.walkFault w t l 0x0740) := by
  refine congrArg _ (State.fcStep_shows a ?_)
  unfold Walk.shows
  split
  · exact wordFault_illegal hn
  · exact headFault_illegal hn

theorem exec_fcNop_reserved {n : Nat} (a : AtWord s w t l h) (hn : instrWords h = some n) (hlen : l.woff + n ≤ (s.cell t.ctx l.cell).len)
    (hr : reservedSet h (fun k => t.word (l.woff + k)) = true) : exec (.fcNop w) s = .next (s.walkFault w t l 0x0741) :=
  congrArg _ (State.fcStep_shows a ((if_pos (by rw [hn]; exact hlen)).trans (wordFault_reserved hn hr)))

theorem exec_fcCellBegin_opens (a : AtInstr s w t l h 6) (hh : h = 0x10000000 + l.cell) (hid : l.cell < 2 ^ 24) (hw : l.woff = 0)
    (hx : t.arg l 2 ≤ t.arg l 4) (hy : t.arg l 3 ≤ t.arg l 5) :
    exec (.fcCellBegin w) s = .next (s.setWalk w (some ((t.advance 6).modTop (fun l' => { l' with
      box := some (t.arg l 2, t.arg l 3, t.arg l 4, t.arg l 5) })))) := by
  have hdiv : h / 2 ^ 24 = 0x10 := by omega
  have ho : ¬ badOrder h (fun k => t.word (l.woff + k)) = true := by
    rw [badOrder_cellBegin hdiv]
    exact fun hf => hf.elim (not_lt.mpr hx) (not_lt.mpr hy)
  have hword : t.word (l.woff + 0) % 2 ^ 24 = l.cell := by rw [a.1.header]; omega
  change execFcCellBegin w s = _
  rw [execFcCellBegin, State.fcStep_instr a hdiv (by simp only [instrWords, hdiv]) (badCount_other (by omega) (by omega))
    (Bool.eq_false_iff.mpr ho) (.inl rfl)]
  exact congrArg _ (if_neg (by rw [hword]; exact fun hf => hf.elim (· hw) (· rfl)))

theorem exec_fcCellBegin_unordered (a : AtInstr s w t l h 6) (hh : h / 2 ^ 24 = 0x10)
    (ho : t.arg l 4 < t.arg l 2 ∨ t.arg l 5 < t.arg l 3) : exec (.fcCellBegin w) s = .next (s.walkFault w t l 0x0743) :=
  congrArg _ (State.fcStep_order a (by simp only [instrWords, hh]) (badCount_other (by omega) (by omega)) ((badOrder_cellBegin hh).mpr ho))

theorem exec_fcDose_sets {c : Nat} (hb : l.box.isSome = true) (a : AtInstr s w t l h 1) (hh : h = 0x40000000 + c) (hc : c < 256) :
    exec (.fcDose w) s = .next (s.setWalk w (some ((t.advance 1).modTop (fun l' => { l' with cls := c })))) := by
  have hdiv : h / 2 ^ 24 = 0x40 := by omega
  have hword : t.word (l.woff + 0) % 256 = c := by rw [a.1.header]; omega
  change execFcDose w s = _
  rw [execFcDose, State.fcStep_instr a hdiv (by simp only [instrWords, hdiv]) (badCount_other (by omega) (by omega))
    (badOrder_other (by omega) (by omega)) (.inr hb)]
  simp only [hword]

/-- CELL_END at the last word of its definition closes the cell (R50). -/
theorem exec_fcCellEnd_closes (hb : l.box.isSome = true) (a : AtWord s w t l h) (hh : h = 0x11000000 + l.cell) (hid : l.cell < 2 ^ 24)
    (hlen : l.woff + 1 = (s.cell t.ctx l.cell).len) :
    (∀ c r, t.stack = l :: c :: r → exec (.fcCellEnd w) s = .next (s.nextInstance w { t with stack := c :: r })) ∧
    (t.stack = [l] → exec (.fcCellEnd w) s = .next (s.endWalk w t)) := by
  have hdiv : h / 2 ^ 24 = 0x11 := by omega
  have hn : instrWords h = some 1 := by simp only [instrWords, hdiv]
  have hword : t.word (l.woff + 0) % 2 ^ 24 = l.cell := by rw [a.header]; omega
  have hshows : t.shows l (s.cell t.ctx l.cell).len h = none :=
    (if_pos (by rw [hn]; exact hlen.le)).trans (wordFault_none hn (by simp only [reservedSet, headReserved, hdiv, Bool.or_self])
      (badCount_other (by omega) (by omega)) (badOrder_other (by omega) (by omega)))
  have hplace : ¬ l.misplaced (s.cell t.ctx l.cell).len h := by
    rintro (h1 | h1 | ⟨-, h1⟩ | ⟨h1, -⟩)
    · omega
    · omega
    · rw [h1] at hb
      exact Bool.noConfusion hb
    · exact h1 hdiv
  have hcond : ¬ (t.word (l.woff + 0) % 2 ^ 24 ≠ l.cell ∨ l.woff + 1 ≠ (s.cell t.ctx l.cell).len) :=
    fun hf => hf.elim (· hword) (· hlen)
  have hrun := fun run => State.fcStep_runs (run := run) a hshows hplace hdiv
  refine ⟨fun c r hs => ?_, fun hs => ?_⟩
  all_goals
    change execFcCellEnd w s = _
    rw [execFcCellEnd, hrun]
    simp only [if_neg hcond, hs]

/-! ### CALL (R46, R47, R51, R56, R101) -/

section
variable {id : Nat} {go : State → Box → State}

theorem State.placing_undefined (hu : id = 0 ∨ (s.known t.ctx id = false ∧ (s.ctx t.ctx).seg0Done = true)) :
    s.placing w t l id go = s.walkFault w t l 0x0746 := if_pos hu

theorem State.placing_defined (h0 : 0 < id) (hk : s.known t.ctx id = true) : s.placing w t l id go =
    if 32 ≤ t.stack.length then s.walkFault w t l 0x0747
    else if (s.cell t.ctx id).state ≠ .resident then s.waitFor w t id
    else if ¬ s.pageOk t.ctx id 0 then (s.waitFor w t id).pageFail t.ctx id 0
    else go (s.pageGood t.ctx id 0) (s.cellBox t.ctx id) := if_neg (by simp [h0.ne', hk])

theorem State.placing_deep (h0 : 0 < id) (hk : s.known t.ctx id = true) (hd : 32 ≤ t.stack.length) :
    s.placing w t l id go = s.walkFault w t l 0x0747 := (State.placing_defined h0 hk).trans (if_pos hd)

theorem State.placing_waits (h0 : 0 < id) (hk : s.known t.ctx id = true) (hd : t.stack.length < 32)
    (hr : (s.cell t.ctx id).state ≠ .resident) : s.placing w t l id go = s.waitFor w t id :=
  (State.placing_defined h0 hk).trans ((if_neg (not_le.mpr hd)).trans (if_pos hr))

theorem State.placing_resident (h0 : 0 < id) (hk : s.known t.ctx id = true) (hd : t.stack.length < 32)
    (hr : (s.cell t.ctx id).state = .resident) : s.placing w t l id go =
      if ¬ s.pageOk t.ctx id 0 then (s.waitFor w t id).pageFail t.ctx id 0 else go (s.pageGood t.ctx id 0) (s.cellBox t.ctx id) :=
  (State.placing_defined h0 hk).trans ((if_neg (not_le.mpr hd)).trans (if_neg (not_not.mpr hr)))

theorem State.placing_badPage (h0 : 0 < id) (hk : s.known t.ctx id = true) (hd : t.stack.length < 32)
    (hr : (s.cell t.ctx id).state = .resident) (hp : s.pageOk t.ctx id 0 = false) :
    s.placing w t l id go = (s.waitFor w t id).pageFail t.ctx id 0 :=
  (State.placing_resident h0 hk hd hr).trans (if_pos (by simp [hp]))

theorem State.placing_goes (h0 : 0 < id) (hk : s.known t.ctx id = true) (hd : t.stack.length < 32)
    (hr : (s.cell t.ctx id).state = .resident) (hp : s.pageOk t.ctx id 0 = true) :
    s.placing w t l id go = go (s.pageGood t.ctx id 0) (s.cellBox t.ctx id) :=
  (State.placing_resident h0 hk hd hr).trans (if_neg (not_not.mpr hp))

/-- A CALL is one placement: its origin and orientation come from its words. -/
theorem exec_fcCall_placing (hb : l.box.isSome = true) (a : AtInstr s w t l h 4) (hh : h = 0x20000000 + id) (hid : id < 2 ^ 24) :
    exec (.fcCall w) s = .next (s.placing w t l id (fun u b =>
      if ¬ placeInRange l (t.word (l.woff + 1)) (t.arg l 2, t.arg l 3) b then u.walkFault w t l 0x0748
      else if ¬ placeInBox l (t.word (l.woff + 1)) (t.arg l 2, t.arg l 3) b then u.walkFault w t l 0x0749
      else if placeMeets t l (t.word (l.woff + 1)) (t.arg l 2, t.arg l 3) b then
        u.enter w (t.advance 4) (childLevel l id (t.word (l.woff + 1)) (t.arg l 2, t.arg l 3))
      else (u.setWalk w (some (t.advance 4))).count BLP_CNT_CULL.COUNT 1)) := by
  have hdiv : h / 2 ^ 24 = 0x20 := by omega
  have hword : t.word (l.woff + 0) % 2 ^ 24 = id := by rw [a.1.header]; omega
  change execFcCall w s = _
  rw [execFcCall, State.fcStep_instr a hdiv (by simp only [instrWords, hdiv]) (badCount_other (by omega) (by omega))
    (badOrder_other (by omega) (by omega)) (.inr hb)]
  simp only [hword]
  rfl

/-! ### ARRAY (R57, R102) -/

/-- The array that an ARRAY's words give, before its instances are known. -/
def Walk.array (t : Walk) (l : Level) (id : Nat) : ArrayIter :=
  { cell := id, orient := t.word (l.woff + 1), dx := t.arg l 3, dy := t.arg l 4, ax := t.arg l 5, ay := t.arg l 6, bx := t.arg l 7,
    byy := t.arg l 8, todo := [] }

/-- The extreme instances of an array, at which range and box are checked. -/
def arrayEnds (nx ny : Nat) : List (Nat × Nat) := [(0, 0), (nx - 1, 0), (0, ny - 1), (nx - 1, ny - 1)]

theorem arrayEnds_all {nx ny : Nat} (hx : 0 < nx) (hy : 0 < ny) {p : Nat × Nat → Bool}
    (hp : ∀ i j, i < nx → j < ny → p (i, j) = true) : (arrayEnds nx ny).all p = true := by
  simp only [arrayEnds, List.all_cons, List.all_nil, Bool.and_true, Bool.and_eq_true]
  exact ⟨hp _ _ hx hy, hp _ _ (by omega) hy, hp _ _ hx (by omega), hp _ _ (by omega) (by omega)⟩

/-- BAD_COUNT of an ARRAY is a zero count. -/
theorem badCount_array {wd : Nat → Nat} {nx ny : Nat} (hh : h / 2 ^ 24 = 0x21) (hx : wd 2 % 65536 = nx) (hy : wd 2 / 65536 = ny)
    (hx0 : 0 < nx) (hy0 : 0 < ny) : badCount h wd = false := by
  have h33 : h / 2 ^ 24 ≠ 0x33 := by omega
  simp only [badCount, badVertices, hx, hy, decide_eq_false h33, decide_eq_false hx0.ne', decide_eq_false hy0.ne', Bool.false_and,
    Bool.or_false, Bool.and_false]

theorem exec_fcArray_placing {nx ny : Nat} (hb : l.box.isSome = true) (a : AtInstr s w t l h 9) (hh : h = 0x21000000 + id)
    (hid : id < 2 ^ 24) (hx0 : 0 < nx) (hy0 : 0 < ny) (hx : nx < 65536) (hw : t.word (l.woff + 2) = nx + 65536 * ny) :
    exec (.fcArray w) s = .next (s.placing w t l id (fun u b =>
      if ¬ (arrayEnds nx ny).all (fun e => placeInRange l (t.array l id).orient ((t.array l id).offset e.1 e.2) b) then
        u.walkFault w t l 0x0748
      else if ¬ (arrayEnds nx ny).all (fun e => placeInBox l (t.array l id).orient ((t.array l id).offset e.1 e.2) b) then
        u.walkFault w t l 0x0749
      else (u.count BLP_CNT_CULL.COUNT (nx * ny - (arrayHits t l (t.array l id) b nx ny).length)).nextInstance w
        ((t.advance 9).modTop (fun l' => { l' with
          arr := some { t.array l id with todo := arrayHits t l (t.array l id) b nx ny } })))) := by
  have hdiv : h / 2 ^ 24 = 0x21 := by omega
  have hword : t.word (l.woff + 0) % 2 ^ 24 = id := by rw [a.1.header]; omega
  have hnx : t.word (l.woff + 2) % 65536 = nx := by omega
  have hny : t.word (l.woff + 2) / 65536 = ny := by omega
  change execFcArray w s = _
  rw [execFcArray, State.fcStep_instr a hdiv (by simp only [instrWords, hdiv]) (badCount_array hdiv hnx hny hx0 hy0)
    (badOrder_other (by omega) (by omega)) (.inr hb)]
  simp only [hword, hnx, hny]
  rfl

end

end

/-- Settles O34: a control word shows its fault by itself, stands where it may not, or is carried out; a placement is judged by its cell,
then by its box. -/
theorem figureCode : Obligations.FigureCode := by
  unfold Obligations.FigureCode
  refine ⟨fun s w t l h => ⟨?_, ?_, ?_, ?_, ?_, ?_, ?_, ?_, ?_⟩, fun s u w t l h id => ⟨?_, ?_⟩⟩
  · exact fun a hh hb => exec_fcNop_advances hb a (by omega)
  · exact exec_fcCellBegin_opens
  · exact fun a hh hid => exec_fcCellBegin_unordered a (by omega)
  · exact fun c a hh hc hb => exec_fcDose_sets hb a hh hc
  · exact fun a hh hid hb => exec_fcCellEnd_closes hb a hh hid
  · exact fun a hh hb => exec_fcNop_noBox hb a (by omega)
  · exact exec_fcNop_atEnd
  · exact exec_fcNop_illegal
  · exact fun n => exec_fcNop_reserved
  · intro a hh hid hb
    have hcall := exec_fcCall_placing hb a hh hid
    refine ⟨fun hu => ?_, fun h0 hk hd => ?_, fun h0 hk hd hr => ?_, fun h0 hk hd hr hp => ?_, ?_⟩
    · exact hcall.trans (congrArg _ (State.placing_undefined hu))
    · exact hcall.trans (congrArg _ (State.placing_deep h0 hk hd))
    · exact hcall.trans (congrArg _ (State.placing_waits h0 hk hd hr))
    · exact hcall.trans (congrArg _ (State.placing_badPage h0 hk hd hr hp))
    · rintro _ h0 hk hd hr hp rfl rfl
      have hgo := hcall.trans (congrArg _ (State.placing_goes h0 hk hd hr hp))
      refine ⟨fun hrange => hgo.trans (congrArg _ (if_pos (by simp [hrange]))), fun hrange => ?_⟩
      have hgo := hgo.trans (congrArg _ (if_neg (not_not.mpr hrange)))
      refine ⟨fun hbox => hgo.trans (congrArg _ (if_pos (by simp [hbox]))), fun hbox => ?_⟩
      have hgo := hgo.trans (congrArg _ (if_neg (not_not.mpr hbox)))
      exact ⟨fun hm => hgo.trans (congrArg _ (if_pos hm)), fun hm => hgo.trans (congrArg _ (if_neg (by simp [hm])))⟩
  · rintro nx ny _ _ a hb hh h0 hid hk hd hr hp rfl hx0 hy0 hx hw rfl hall rfl
    refine (exec_fcArray_placing hb a hh hid hx0 hy0 hx hw).trans (congrArg _ ?_)
    have hrange := arrayEnds_all hx0 hy0 (p := fun e => placeInRange l (t.array l id).orient ((t.array l id).offset e.1 e.2) _)
      fun i j hi hj => (hall i j hi hj).1
    have hbox := arrayEnds_all hx0 hy0 (p := fun e => placeInBox l (t.array l id).orient ((t.array l id).offset e.1 e.2) _)
      fun i j hi hj => (hall i j hi hj).2
    exact (State.placing_goes h0 hk hd hr hp).trans ((if_neg (not_not.mpr hrange)).trans (if_neg (not_not.mpr hbox)))

end Sys2Proof.Machine

/-! # The limit of tag failures (O32) -/

namespace Sys2Proof.Machine

open Sys2Proof

set_option Elab.async false

/-! ### A failing tag (R79) -/

/-- The fields that the return of leave may change: the wait counters and what the governor shows. -/
def returnFields : List Fld :=
  [MRV_CNT_LEAVE_WAIT.COUNT, GLY_CNT_LEAVE_WAIT.COUNT, PAR_CNT_LEAVE_WAIT.COUNT, PGV_CNT_WAIT.COUNT, PGV_STATE.USED, PGV_STATUS.WAITING]

theorem State.count_keepsFields (s : State) (x : Fld) (n : Nat) : KeepsFields s (s.count x n) [x] := s.put_keepsFields x _

theorem State.countWait_keepsFields (s : State) (w : Leave) : KeepsFields s (s.countWait w) returnFields := by
  unfold State.countWait
  extract_lets n
  cases w.who with
  | training _ | sage _ => exact .refl s _
  | marver _ _ | coarse | pixel | parison => exact (s.count_keepsFields _ n).mono

theorem State.countGovWait_keepsFields (s : State) : KeepsFields s s.countGovWait returnFields := by
  unfold State.countGovWait
  split
  · exact .refl s _
  · exact ((s.count_keepsFields _ _).mono).then (m := []) (.of_regs rfl _)

theorem State.giveLeave_keepsFields (s : State) (who : Requester) : KeepsFields s (s.giveLeave who) returnFields := by
  have hwait : KeepsFields s (s.endWait who) returnFields := by
    unfold State.endWait
    split
    · exact (s.countWait_keepsFields _).then (State.countGovWait_keepsFields _)
    · exact .refl s _
  exact ((hwait.then (m := []) (.of_regs rfl _)).then (State.put_keepsFields _ _ _)).then (State.put_keepsFields _ _ _)

/-- What a failing tag leaves behind: the failure is counted, the slot is free and the cells made from the segment are gone. -/
def State.tagFailed (s : State) (i : Nat) (g : Ingest) : State :=
  let s0 := (s.giveLeave (.sage i)).noteRead (slotBase i) (g.total.getD 0)
  let s1 := (((s0.count SAG_CNT_TAGFAIL.COUNT 1).flag SAG_STATUS.TAG_SEEN).dropSlot i).unmake g.ctx g.parse.made
  let s2 := s1.modCtx g.ctx (fun x => { x with
    segFails := mset x.segFails g.seg (mnat (s.ctx g.ctx).segFails g.seg + 1), seg0 := x.seg0 && !decide (g.seg = 0) })
  s2.absentRest g.ctx g.seg ((s2.ctx g.ctx).cells.map Prod.fst)

section
variable {s : State} {i : Fin 16} {g : Ingest}

/-- One failure more than RETRY_MAX allows is SEG_AUTH_LIMIT. -/
theorem exec_tagVerdict_limit (hs : s.slot i = some g) (hc : g.complete = true) (hd : g.decrypt = true) (hv : g.verdict = none)
    (hok : s.segmentOk i g = false) (hmax : max 1 (s.f GTH_CTL.RETRY_MAX) < mnat (s.ctx g.ctx).segFails g.seg + 1) :
    exec (.tagVerdict i) s = .next (((s.tagFailed i g).modCtx g.ctx (fun x => { x with segDead := g.seg :: x.segDead })).jobFault g.ctx
      0x0611 false [a8 g.ctx, a16 g.seg]) := by
  change execTagVerdict i s = _
  simp only [execTagVerdict, hs, hc, hd, hv, hok, hmax, if_true, not_true_eq_false, Option.isSome_none,
    Bool.false_eq_true, or_self, if_false]
  rfl

theorem State.dropSlot_laneless (hs : s.slot i = some g) (hl : g.lane = none) :
    s.dropSlot i = (s.setSlot i none).giveLeave (.sage i) := by
  simp only [State.dropSlot, hs, hl]

/-- Where no word of the HBM has an error, a read notes nothing. -/
theorem State.noteRead_clean (hc : s.mem.checks = []) (hp : s.mem.poison = []) (a n : Nat) : s.noteRead a n = s := by
  simp [State.noteRead, State.suspects, hc, hp]

theorem State.noteRead_giveLeave_clean (hc : s.mem.checks = []) (hp : s.mem.poison = []) (who : Requester) (a n : Nat) :
    (s.giveLeave who).noteRead a n = s.giveLeave who := by
  have hmem : (s.giveLeave who).mem = s.mem := (s.giveLeave_keeps who).2 .mem (by decide)
  exact State.noteRead_clean (hmem ▸ hc) (hmem ▸ hp) a n

/-- What Sage shows and Gather frees for a failing tag, before the cells made from the segment go. -/
def State.tagCounted (s : State) (i : Nat) : State :=
  ((((s.giveLeave (.sage i)).count SAG_CNT_TAGFAIL.COUNT 1).flag SAG_STATUS.TAG_SEEN).setSlot i none).giveLeave (.sage i)

/-- The failure is entered with its segment. -/
def Ingest.failed (g : Ingest) (n : Nat) (x : JobCtx) : JobCtx :=
  { x with segFails := mset x.segFails g.seg n, seg0 := x.seg0 && !decide (g.seg = 0) }

theorem State.tagCounted_ctxs (s : State) (i : Nat) : (s.tagCounted i).gather.ctxs = s.gather.ctxs := by
  have hfirst : (s.giveLeave (.sage i)).gather = s.gather := (s.giveLeave_keeps _).2 .gather (by decide)
  have hlast : (s.tagCounted i).gather = _ := (State.giveLeave_keeps _ (.sage i)).2 .gather (by decide)
  rw [hlast]
  change (s.giveLeave (.sage i)).gather.ctxs = _
  rw [hfirst]

theorem State.tagCounted_tagfail (s : State) (i : Nat) :
    (s.tagCounted i).f SAG_CNT_TAGFAIL.COUNT = min (s.f SAG_CNT_TAGFAIL.COUNT + 1) (2 ^ 32 - 1) :=
  calc (s.tagCounted i).f SAG_CNT_TAGFAIL.COUNT
    _ = (((s.giveLeave (.sage i)).count SAG_CNT_TAGFAIL.COUNT 1).flag SAG_STATUS.TAG_SEEN).f SAG_CNT_TAGFAIL.COUNT :=
      State.giveLeave_keepsFields _ (.sage i) _ (by decide)
    _ = ((s.giveLeave (.sage i)).count SAG_CNT_TAGFAIL.COUNT 1).f SAG_CNT_TAGFAIL.COUNT := State.f_put_other _ _ (by decide)
    _ = min ((s.giveLeave (.sage i)).f SAG_CNT_TAGFAIL.COUNT + 1) (2 ^ 32 - 1) := State.count_f _ _ _
    _ = min (s.f SAG_CNT_TAGFAIL.COUNT + 1) (2 ^ 32 - 1) := by rw [State.giveLeave_keepsFields s (.sage i) _ (by decide)]

theorem State.halt_modCtx {f : JobCtx → JobCtx} (hf : ∀ x, (f x).halt = x.halt) (s : State) (c d : Nat) :
    ((s.modCtx d f).ctx c).halt = (s.ctx c).halt := by
  rw [State.ctx_modCtx]
  split
  · exact hf _
  · rfl

/-- A segment of which nothing was made, in a slot without a lane, of a context without cells. -/
theorem State.tagFailed_bare (hs : s.slot i = some g) (hl : g.lane = none) (hmade : g.parse.made = []) (hcells : (s.ctx g.ctx).cells = [])
    (hc : s.mem.checks = []) (hp : s.mem.poison = []) :
    s.tagFailed i g = (s.tagCounted i).modCtx g.ctx (g.failed (mnat (s.ctx g.ctx).segFails g.seg + 1)) := by
  have hgather : (s.giveLeave (.sage i)).gather = s.gather := (s.giveLeave_keeps _).2 .gather (by decide)
  have hslot : (((s.giveLeave (.sage i)).count SAG_CNT_TAGFAIL.COUNT 1).flag SAG_STATUS.TAG_SEEN).slot i = some g :=
    (congrArg (fun h : Gather => (h.slots[(i : Nat)]?).join) hgather).trans hs
  have hctx : (s.tagCounted i).ctx g.ctx = s.ctx g.ctx := congrArg (fun l => l.getD g.ctx JobCtx.empty) (s.tagCounted_ctxs i)
  have hnone : (((s.tagCounted i).modCtx g.ctx (g.failed (mnat (s.ctx g.ctx).segFails g.seg + 1))).ctx g.ctx).cells = [] := by
    rw [State.ctx_modCtx, hctx]
    split
    · exact hcells
    · exact hcells
  simp only [State.tagFailed, State.noteRead_giveLeave_clean hc hp, State.dropSlot_laneless hslot hl, hmade]
  change State.absentRest ((s.tagCounted i).modCtx g.ctx (g.failed _)) _ _
    (List.map _ (((s.tagCounted i).modCtx g.ctx (g.failed _)).ctx g.ctx).cells) = _
  rw [hnone]
  rfl

end

/-! ### The state -/

/-- The context whose OPEN bit is bit 0 of the count of tag failures. -/
def tagCtx : Nat := 0xCFFF3

theorem open_key_tagCtx : (GTH_CTX_CFG.OPEN tagCtx).key = SAG_CNT_TAGFAIL.COUNT.key := by decide

theorem State.f_open_tagCtx (s : State) : s.f (GTH_CTX_CFG.OPEN tagCtx) = s.f SAG_CNT_TAGFAIL.COUNT := by
  rw [State.f, State.f, open_key_tagCtx]
  rfl

theorem State.f_modCtx (s : State) (c : Nat) (f : JobCtx → JobCtx) (x : Fld) : (s.modCtx c f).f x = s.f x := rfl

/-- With two tag failures counted that context reads as closed, and a class 3 event halts no job in it. -/
theorem State.jobFault_tagCtx {s : State} (h : s.f SAG_CNT_TAGFAIL.COUNT = 2) (code : Nat) (args : List Arg) :
    ((s.jobFault tagCtx code false args).ctx tagCtx).halt = (s.ctx tagCtx).halt := by
  have hclosed : (s.journalEvent code 3 false args).ctxOpen tagCtx = false := by
    have hcount := (s.event_f_other (x := SAG_CNT_TAGFAIL.COUNT) (by decide) (by decide) code 3 args).trans h
    rw [State.ctxOpen, State.on, State.f_open_tagCtx]
    exact decide_eq_false (by rw [show (s.journalEvent code 3 false args).f _ = 2 from hcount]; decide)
  rw [State.ctx, State.jobFault_ctxs_of_closed hclosed, State.ctx]

/-- A job whose segment 1 has failed 15 times in a row. -/
def failedJob : JobCtx := { JobCtx.empty with segFails := [(1, 15)] }

/-- Segment 1 of that context, decrypted, of no bytes: its tag fails. -/
def failedSegment : Ingest :=
  { ctx := tagCtx, seg := 1, session := 0, port := 0, server := 0, tries := 1, start := 0, total := some 0, got := [], lastAck := 0,
    uncovered := false, lossSent := [], timeouts := 0, answered := true, decrypt := true, lane := none, verdict := none, stopped := false,
    inflated := false, err := 0, parse := Parse.start, held := none }

/-- One tag has failed, and the segment stands in slot 0. -/
def tagCollision : State :=
  let r := State.reset.put SAG_CNT_TAGFAIL.COUNT 1
  { r with gather := { r.gather with ctxs := List.replicate (tagCtx + 1) failedJob, slots := r.gather.slots.set 0 (some failedSegment) } }

theorem tagCollision_slot : tagCollision.slot (0 : Fin 16) = some failedSegment := by decide +kernel

theorem tagCollision_fails : tagCollision.segmentOk (0 : Fin 16) failedSegment = false := by decide +kernel

theorem tagCollision_tagfail : tagCollision.f SAG_CNT_TAGFAIL.COUNT = 1 :=
  show (State.reset.put SAG_CNT_TAGFAIL.COUNT 1).f SAG_CNT_TAGFAIL.COUNT = 1 from State.f_put_same _ _ 1

theorem tagCollision_open : tagCollision.ctxOpen tagCtx = true := by
  rw [State.ctxOpen, State.on, State.f_open_tagCtx, tagCollision_tagfail]
  rfl

theorem tagCollision_length : tagCtx < tagCollision.gather.ctxs.length :=
  lt_of_lt_of_eq (Nat.lt_succ_self _) (List.length_replicate (a := failedJob)).symm

theorem tagCollision_ctx : tagCollision.ctx tagCtx = failedJob := by
  change (List.replicate (tagCtx + 1) failedJob).getD tagCtx JobCtx.empty = _
  rw [List.getD_eq_getElem?_getD, List.getElem?_replicate, if_pos (Nat.lt_succ_self _)]
  rfl

theorem tagCollision_limit :
    max 1 (tagCollision.f GTH_CTL.RETRY_MAX) < mnat (tagCollision.ctx failedSegment.ctx).segFails failedSegment.seg + 1 := by
  rw [show tagCollision.ctx failedSegment.ctx = failedJob from tagCollision_ctx]
  decide +kernel

theorem tagCollision_counted :
    (tagCollision.tagCounted (0 : Fin 16)).f SAG_CNT_TAGFAIL.COUNT = 2 ∧
      ((tagCollision.tagCounted (0 : Fin 16)).ctx tagCtx).halt = none := by
  constructor
  · rw [State.tagCounted_tagfail, tagCollision_tagfail]
    rfl
  · rw [State.ctx, State.tagCounted_ctxs]
    exact congrArg JobCtx.halt tagCollision_ctx

/-- What else the failing tag enters in the context leaves its job without a halt. -/
theorem tagCollision_stays {f g : JobCtx → JobCtx} (hf : ∀ x, (f x).halt = x.halt) (hg : ∀ x, (g x).halt = x.halt) (args : List Arg) :
    (((((tagCollision.tagCounted (0 : Fin 16)).modCtx failedSegment.ctx f).modCtx failedSegment.ctx g).jobFault failedSegment.ctx 0x0611
      false args).ctx failedSegment.ctx).halt = none := by
  rw [show failedSegment.ctx = tagCtx from rfl]
  obtain ⟨hcount, hnone⟩ := tagCollision_counted
  rw [State.jobFault_tagCtx (by rw [State.f_modCtx, State.f_modCtx, hcount]), State.halt_modCtx hg, State.halt_modCtx hf, hnone]

/-- Refutes O32: one failure more than RETRY_MAX does not halt the job of context 0xCFFF3, since the count of the failure itself clears the
bit that says that the context is open. The device has contexts 0 and 1 (R87); the statement's clause is about every number below the
length of the table of contexts. -/
theorem not_segmentInstall : ¬ Obligations.SegmentInstall := by
  unfold Obligations.SegmentInstall
  rintro ⟨-, -, -, -, -, -, hverdict⟩
  obtain ⟨-, -, -, -, -, -, hlimit⟩ := hverdict tagCollision 0 failedSegment tagCollision_slot
  have hctx : tagCollision.ctx failedSegment.ctx = failedJob := tagCollision_ctx
  obtain ⟨t, ht, hhalt, -⟩ := hlimit (by decide) rfl rfl tagCollision_fails tagCollision_limit tagCollision_length tagCollision_open
    (congrArg JobCtx.halt hctx)
  have hexec := exec_tagVerdict_limit tagCollision_slot (by decide) rfl rfl tagCollision_fails tagCollision_limit
  rw [State.tagFailed_bare tagCollision_slot rfl rfl (congrArg JobCtx.cells hctx) rfl rfl] at hexec
  cases Host.Outcome.next.inj (ht.symm.trans hexec)
  refine absurd (hhalt.symm.trans (tagCollision_stays ?_ ?_ _)) nofun
  · exact fun _ => rfl
  · exact fun _ => rfl

end Sys2Proof.Machine

/-! # The decompressor lanes under software (O36)

A write of DCP_CTL takes OWNER and ZLIB, then carries out START, RESUME and ABORT; a lane's fields tell apart what each of them leaves. -/

namespace Sys2Proof.Machine

open Sys2Proof

set_option Elab.async false

/-! ### The fields of a lane -/

/-- Two fields of one lane at different places have different keys. -/
theorem laneKey_ne {n a b lo lo' w w' r r' : Nat} (h : a * 64 + lo ≠ b * 64 + lo') :
    (Fld.mk (a + 0x40 * n) lo w r).key ≠ (Fld.mk (b + 0x40 * n) lo' w' r').key := by
  simp only [Fld.key]
  omega

/-- A field of a lane keeps its value where a field of the lane at another place is set. -/
theorem State.f_put_laneField (s : State) (v : Nat) {n a b lo lo' w w' r r' : Nat} (h : a * 64 + lo ≠ b * 64 + lo') :
    (s.put (Fld.mk (b + 0x40 * n) lo' w' r') v).f (Fld.mk (a + 0x40 * n) lo w r) = s.f (Fld.mk (a + 0x40 * n) lo w r) :=
  s.f_put_other v (laneKey_ne h)

/-- The fields that a write of DCP_CTL takes. -/
def ctlTakes (n : Nat) : List Fld := [DCP_CTL.ZLIB n, DCP_CTL.OWNER n]

/-- The fields that a lane's task reads or shows. -/
def taskFields (n : Nat) : List Fld :=
  [DCP_STATUS.STATE n, DCP_STATUS.ERR n, DCP_STATUS.IN_BITS n, DCP_IN_ADDR.ADDR n, DCP_IN_LEN.LEN n, DCP_OUT_ADDR.ADDR n,
    DCP_OUT_LEN.LEN n, DCP_IN_CONSUMED.COUNT n, DCP_OUT_PRODUCED.COUNT n]

theorem taskFields_spec (n : Fin 4) : ∀ x ∈ taskFields n,
    x.key ∉ (ctlTakes n).map Fld.key ∧ x.addr < 0x1000000 ∧ x.lo < 64 := by
  revert n
  decide

/-- The counts of a task are not where its lane shows why it has stopped. -/
theorem endField_ne (n : Fin 4) :
    (DCP_IN_CONSUMED.COUNT n).key ∉ [DCP_STATUS.STATE n, DCP_STATUS.ERR n].map Fld.key ∧
    (DCP_OUT_PRODUCED.COUNT n).key ∉ [DCP_STATUS.STATE n, DCP_STATUS.ERR n].map Fld.key ∧
    (DCP_STATUS.IN_BITS n).key ∉ [DCP_STATUS.STATE n, DCP_STATUS.ERR n].map Fld.key := by
  revert n
  decide

/-- No register of the memory controllers is one that a write of DCP_CTL takes. -/
theorem memoryField_not_taken (n : Fin 4) {x : Fld} (hx : 0x1000000 ≤ x.addr) : x.key ∉ (ctlTakes n).map Fld.key := by
  have hn := n.isLt
  simp only [ctlTakes, DCP_CTL.ZLIB, DCP_CTL.OWNER, DCP_CTL.off, Fld.key, List.map_cons, List.map_nil, List.mem_cons, List.not_mem_nil,
    or_false, not_or]
  omega

/-- A read of HBM delivers the same wherever memory and the memory controllers' registers are the same. -/
theorem State.hbmRead_congr {s t : State} (hm : t.mem = s.mem) (hf : ∀ x : Fld, 0x1000000 ≤ x.addr → t.f x = s.f x) (a n : Nat) :
    t.hbmRead a n = s.hbmRead a n := by
  have hgroup (b : Nat) : t.hbmGroup b = s.hbmGroup b := by
    have hhash : t.on HBM_MAP_CFG.HASH = s.on HBM_MAP_CFG.HASH := by rw [State.on, hf _ (by decide), State.on]
    simp only [State.hbmGroup, State.hbmChannel, hhash, hf HBM_MAP_CFG.GRAIN (by decide)]
  have hmode (g b : Nat) : t.cellMode g b = s.cellMode g b := by
    have hvalid (e : Nat) := hf (ECC_CULLET_ADDR.VALID g e) (cullAddr _ g e (by decide))
    have haddr (e : Nat) := hf (ECC_CULLET_ADDR.ADDR g e) (cullAddr _ g e (by decide))
    have hcull : t.cullEntry g b = s.cullEntry g b := by simp only [State.cullEntry, State.on, hvalid, haddr]
    simp only [State.cellMode, hcull, hf (ECC_GRP_CFG.MODE g) (eccAddr _ g (by decide))]
  simp only [State.hbmRead, State.hbmByte, State.hbmChecked, hm, hgroup, hmode]

/-! ### A lane and its owner (R81) -/

@[simp] theorem State.modLane_f (s : State) (n : Nat) (g : Lane → Lane) (x : Fld) : (s.modLane n g).f x = s.f x := rfl

@[simp] theorem State.put_lane (s : State) (x : Fld) (v n : Nat) : (s.put x v).lane n = s.lane n := rfl

theorem State.modLane_keeps (s : State) (n : Nat) (g : Lane → Lane) : Keeps s (s.modLane n g) [.lanes] := keeps_lanes s _

@[simp] theorem State.modLane_length (s : State) (n : Nat) (g : Lane → Lane) : (s.modLane n g).lanes.length = s.lanes.length := by
  unfold State.modLane lmod
  split
  · exact List.length_set
  · rfl

theorem State.lane_modLane {s : State} {n : Nat} (h : n < s.lanes.length) (g : Lane → Lane) : (s.modLane n g).lane n = g (s.lane n) := by
  simp [State.lane, State.modLane, lmod, h]

theorem State.lane_congr {s t : State} (h : t.lanes = s.lanes) (n : Nat) : t.lane n = s.lane n := by
  simp only [State.lane, h]

theorem State.laneOpen_congr {s t : State} {n : Nat} (h : t.f (DCP_STATUS.STATE n) = s.f (DCP_STATUS.STATE n)) :
    t.laneOpen n = s.laneOpen n := by
  simp only [State.laneOpen, h]

theorem State.badBuffer_congr {s t : State} (h : t.host = s.host) (a n : Nat) : t.badBuffer a n = s.badBuffer a n := by
  simp only [State.badBuffer, State.hidden, h]

theorem State.applyOwner_none {s : State} {n : Nat} (h : (s.lane n).nextOwner = none) : s.applyOwner n = s := by
  rw [State.applyOwner, h]

theorem State.applyOwner_busy {s : State} {n : Nat} (h : s.laneOpen n = false) : s.applyOwner n = s := by
  unfold State.applyOwner
  split
  · exact if_neg (by simp [h])
  · rfl

theorem State.applyOwner_open {s : State} {n v : Nat} (hv : (s.lane n).nextOwner = some v) (ho : s.laneOpen n = true) :
    s.applyOwner n = (s.put (DCP_CTL.OWNER n) v).modLane n (fun l => { l with nextOwner := none }) := by
  rw [State.applyOwner, hv]
  exact if_pos ho

/-- An OWNER value that takes effect changes OWNER, and of the lane only that none waits any more. -/
theorem State.applyOwner_frame {s : State} {n : Nat} (hlen : n < s.lanes.length) :
    Keeps s (s.applyOwner n) [.regs, .lanes] ∧ KeepsFields s (s.applyOwner n) (ctlTakes n) ∧
    (s.applyOwner n).lanes.length = s.lanes.length ∧ ∃ o, (s.applyOwner n).lane n = { s.lane n with nextOwner := o } := by
  cases ho : s.laneOpen n with
  | false =>
    rw [State.applyOwner_busy ho]
    exact ⟨.refl s _, .refl s _, rfl, _, rfl⟩
  | true =>
    cases hv : (s.lane n).nextOwner with
    | none =>
      rw [State.applyOwner_none hv]
      exact ⟨.refl s _, .refl s _, rfl, _, rfl⟩
    | some v =>
      rw [State.applyOwner_open hv ho]
      have hput : KeepsFields s (s.put (DCP_CTL.OWNER n) v) (ctlTakes n) := (s.put_keepsFields _ v).mono (by simp [ctlTakes])
      refine ⟨.then (.mono (s.put_keeps _ _)) (State.modLane_keeps _ _ _), fun x hx => hput x hx, State.modLane_length _ _ _, none, ?_⟩
      exact State.lane_modLane (s := s.put (DCP_CTL.OWNER n) v) hlen _

theorem State.laneWaiters_eq_nil_iff (s : State) : s.laneWaiters = [] ↔
    ∀ i < 16, ∀ g, s.slot i = some g → ¬ (g.decrypt = true ∧ g.lane = none ∧ ¬ g.inflated = true) := by
  unfold State.laneWaiters
  extract_lets l
  rw [List.map_eq_nil_iff, ← List.length_eq_zero_iff, List.length_mergeSort, List.length_eq_zero_iff, List.filterMap_eq_nil_iff]
  simp only [List.mem_range]
  refine forall₂_congr fun i _ => ?_
  cases s.slot i with
  | none => simp
  | some g => simp

/-- Where no slot waits for a lane, none is given out. -/
theorem State.giveLanes_of_no_waiter {s t : State} {l : List Part} (hw : s.laneWaiters = []) (h : Keeps s t l) (k : Nat)
    (hl : Part.gather ∉ l := by decide) : State.giveLanes k t = t := by
  have hg : t.gather = s.gather := h.2 .gather hl
  have ht : t.laneWaiters = [] := by
    rw [State.laneWaiters_eq_nil_iff] at hw ⊢
    simpa only [State.slot, hg] using hw
  cases k with
  | zero => rfl
  | succ k =>
    rw [State.giveLanes, ht]
    split
    · next hi => exact absurd hi nofun
    · rfl

/-! ### A write of DCP_CTL (R81, R83, R85) -/

/-- OWNER and ZLIB of a write taken: OWNER at once where the lane has no task. -/
def State.ctlTaken (s : State) (n v : Nat) : State :=
  ((s.put (DCP_CTL.ZLIB n) (bits v 1 1)).modLane n (fun l => { l with nextOwner := some (bits v 0 1) })).applyOwner n

/-- What a lane's OWNER field and waiting OWNER value are after a write. -/
structure Taken (s t : State) (n owner : Nat) (next : Option Nat) : Prop where
  keeps : Keeps s t [.regs, .lanes]
  fields : KeepsFields s t (ctlTakes n)
  owner_eq : t.f (DCP_CTL.OWNER n) = owner
  lane_eq : t.lane n = { s.lane n with nextOwner := next }
  length_eq : t.lanes.length = s.lanes.length

/-- The value that waits takes effect where the lane has no task. -/
theorem Taken.owner_applied {s t : State} {n o v : Nat} (h : Taken s t n o (some v)) (hlt : n < t.lanes.length)
    (ho : t.laneOpen n = true) : Taken s (t.applyOwner n) n (v % 2) none := by
  obtain ⟨hk, hf, hl, -⟩ := State.applyOwner_frame hlt
  have happly := State.applyOwner_open (congrArg Lane.nextOwner h.lane_eq) ho
  refine ⟨h.keeps.then hk, h.fields.then hf (List.Subset.refl _), ?_, ?_, hl.trans h.length_eq⟩
  · rw [happly, State.modLane_f, State.f_put_same]
    rfl
  · rw [happly]
    exact (State.lane_modLane (s := t.put (DCP_CTL.OWNER n) v) hlt _).trans (by rw [State.put_lane, h.lane_eq])

section

variable {s : State} {n : Fin 4} (hlen : s.lanes.length = 4)

include hlen

/-- A write of OWNER and ZLIB before OWNER takes effect. -/
theorem State.ctlWaits_taken (z o : Nat) :
    Taken s ((s.put (DCP_CTL.ZLIB n) z).modLane n (fun l => { l with nextOwner := some o })) n (s.f (DCP_CTL.OWNER n)) (some o) where
  keeps := .then (.mono (s.put_keeps _ _)) (State.modLane_keeps _ _ _)
  fields := fun x hx => (s.put_keepsFields (DCP_CTL.ZLIB n) z).mono (by simp [ctlTakes]) x hx
  owner_eq := s.f_put_other _ (laneKey_ne (by decide))
  lane_eq := State.lane_modLane (s := s.put (DCP_CTL.ZLIB n) z) (by simp [hlen]) _
  length_eq := State.modLane_length _ _ _

/-- While a task runs or is stopped, OWNER waits. -/
theorem State.ctlTaken_busy (ho : s.laneOpen n = false) (v : Nat) :
    Taken s (s.ctlTaken n v) n (s.f (DCP_CTL.OWNER n)) (some (v % 2)) := by
  have hw := State.ctlWaits_taken (s := s) (n := n) hlen (bits v 1 1) (bits v 0 1)
  have hopen := (State.laneOpen_congr (hw.fields _ (taskFields_spec n _ (by simp [taskFields])).1)).trans ho
  rw [State.ctlTaken, State.applyOwner_busy hopen]
  simpa [bits] using hw

/-- Where the lane has no task OWNER is taken at once. -/
theorem State.ctlTaken_open (ho : s.laneOpen n = true) (v : Nat) : Taken s (s.ctlTaken n v) n (v % 2) none := by
  have hw := State.ctlWaits_taken (s := s) (n := n) hlen (bits v 1 1) (bits v 0 1)
  have hopen := (State.laneOpen_congr (hw.fields _ (taskFields_spec n _ (by simp [taskFields])).1)).trans ho
  rw [State.ctlTaken]
  simpa [bits] using hw.owner_applied (by simp [hlen]) hopen

end

/-- ZLIB is taken whatever becomes of OWNER. -/
theorem State.ctlTaken_zlib (s : State) (n v : Nat) : (s.ctlTaken n v).f (DCP_CTL.ZLIB n) = v / 2 % 2 := by
  unfold State.ctlTaken
  generalize hmade : (s.put (DCP_CTL.ZLIB n) (bits v 1 1)).modLane n (fun l => { l with nextOwner := some (bits v 0 1) }) = u
  have hu : u.f (DCP_CTL.ZLIB n) = v / 2 % 2 := by
    rw [← hmade, State.modLane_f, State.f_put_same]
    simp [bits, DCP_CTL.ZLIB]
  unfold State.applyOwner
  split
  · split
    · exact (State.f_put_other _ _ (laneKey_ne (by decide))).trans hu
    · exact hu
  · exact hu

/-! ### START (R85) -/

/-- A lane that runs a task of which nothing is done. -/
def State.freshTask (s : State) (n : Nat) : State :=
  ((((s.put (DCP_IN_CONSUMED.COUNT n) 0).put (DCP_OUT_PRODUCED.COUNT n) 0).put (DCP_STATUS.ERR n) 0).put
    (DCP_STATUS.IN_BITS n) 0).put (DCP_STATUS.STATE n) 1

theorem State.freshTask_keeps (s : State) (n : Nat) : Keeps s (s.freshTask n) [.regs] :=
  ((((s.put_keeps _ _).then (State.put_keeps _ _ _)).then (State.put_keeps _ _ _)).then (State.put_keeps _ _ _)).then
    (State.put_keeps _ _ _)

theorem State.freshTask_f (s : State) (n : Nat) :
    (s.freshTask n).f (DCP_STATUS.STATE n) = 1 ∧ (s.freshTask n).f (DCP_IN_CONSUMED.COUNT n) = 0 ∧
    (s.freshTask n).f (DCP_OUT_PRODUCED.COUNT n) = 0 ∧ (s.freshTask n).f (DCP_STATUS.IN_BITS n) = 0 := by
  simp (disch := decide) only [State.freshTask, DCP_STATUS.STATE, DCP_STATUS.ERR, DCP_STATUS.IN_BITS, DCP_STATUS.off,
    DCP_IN_CONSUMED.COUNT, DCP_IN_CONSUMED.off, DCP_OUT_PRODUCED.COUNT, DCP_OUT_PRODUCED.off, State.f_put_same, State.f_put_laneField]
  exact ⟨rfl, rfl, rfl, rfl⟩

theorem State.regionStop_keeps (s : State) (n : Nat) : Keeps s (s.regionStop n) [.regs] := .then (s.put_keeps _ _) (State.put_keeps _ _ _)

/-- STATE and ERR as a lane that stops is set to show them. -/
theorem State.stopped_f (s : State) (n state err : Nat) :
    ((s.put (DCP_STATUS.STATE n) state).put (DCP_STATUS.ERR n) err).f (DCP_STATUS.STATE n) = state % 2 ^ (DCP_STATUS.STATE n).w ∧
    ((s.put (DCP_STATUS.STATE n) state).put (DCP_STATUS.ERR n) err).f (DCP_STATUS.ERR n) = err % 2 ^ (DCP_STATUS.ERR n).w := by
  simp (disch := decide) only [DCP_STATUS.STATE, DCP_STATUS.ERR, DCP_STATUS.off, State.f_put_same, State.f_put_laneField, and_self]

theorem State.regionStop_f (s : State) (n : Nat) :
    (s.regionStop n).f (DCP_STATUS.STATE n) = 5 ∧ (s.regionStop n).f (DCP_STATUS.ERR n) = 10 := s.stopped_f n 5 10

section

variable {s : State} {n : Fin 4} (hown : s.f (DCP_CTL.OWNER n) = 1) (ho : s.laneOpen n = true)

include hown ho

theorem State.dcpStart_refused (hin : s.badBuffer (s.f (DCP_IN_ADDR.ADDR n)) (s.f (DCP_IN_LEN.LEN n)) = true) :
    s.dcpStart n = (s.freshTask n).regionStop n := by
  rw [State.dcpStart, if_pos ⟨hown, ho⟩]
  exact if_pos (.inl hin)

/-- An accepted task takes its input as it stands in HBM and has written nothing; the read may note errors of memory. -/
theorem State.dcpStart_runs (hlen : n.val < s.lanes.length)
    (hin : s.badBuffer (s.f (DCP_IN_ADDR.ADDR n)) (s.f (DCP_IN_LEN.LEN n)) = false)
    (hout : s.badBuffer (s.f (DCP_OUT_ADDR.ADDR n)) (s.f (DCP_OUT_LEN.LEN n)) = false) :
    Keeps s (s.dcpStart n) [.regs, .lanes, .mem, .journal] ∧
    (∀ x ∈ taskFields n, (s.dcpStart n).f x = (s.freshTask n).f x) ∧
    ((s.dcpStart n).lane n).input = s.hbmRead (s.f (DCP_IN_ADDR.ADDR n) % 2 ^ 36) (s.f (DCP_IN_LEN.LEN n)) ∧
    ((s.dcpStart n).lane n).written = 0 ∧ ((s.dcpStart n).lane n).nextOwner = (s.lane n).nextOwner := by
  obtain ⟨hnote, hfields⟩ := (s.freshTask n).noteRead_notes (s.f (DCP_IN_ADDR.ADDR n) % 2 ^ 36) (s.f (DCP_IN_LEN.LEN n))
  rw [State.dcpStart, if_pos ⟨hown, ho⟩]
  extract_lets s1 ia il oa ol
  rw [if_neg (by simp [ia, il, oa, ol, hin, hout])]
  have hmade : Keeps s (s1.noteRead (ia % 2 ^ 36) il) [.regs, .mem, .journal] := (s.freshTask_keeps n).mono.then hnote
  have hlanes := hmade.2 .lanes (by decide)
  rw [State.lane_modLane (by rw [hlanes]; exact hlen), State.lane_congr hlanes]
  exact ⟨hmade.mono.then (State.modLane_keeps _ _ _),
    fun x hx => hfields x (taskFields_spec n x hx).2.1 (taskFields_spec n x hx).2.2, rfl, rfl, rfl⟩

end

section

variable {s : State} {n : Fin 4} {v : Word} (hlen : s.lanes.length = 4) (hw : s.laneWaiters = [])

include hlen hw

section

variable (hv : v.toNat % 32 = 5) (ho : s.laneOpen n = true)

include hv ho

omit hw in
/-- A write of START alone, of an idle lane that it gives to software. -/
theorem exec_dcpStart_eq : ∃ u, Taken s u n 1 none ∧ u.laneOpen n = true ∧ (∀ x ∈ taskFields n, u.f x = s.f x) ∧
    exec (.dcpStart n v) s = .next (State.giveLanes 4 ((u.dcpStart n).applyOwner n)) := by
  have htaken := State.ctlTaken_open hlen ho v.toNat
  have hf (x : Fld) (hx : x ∈ taskFields n) := htaken.fields x (taskFields_spec n x hx).1
  have h2 : bit v.toNat 2 = true := decide_eq_true (by omega)
  have h3 : bit v.toNat 3 = false := decide_eq_false (by omega)
  have h4 : bit v.toNat 4 = false := decide_eq_false (by omega)
  refine ⟨s.ctlTaken n v.toNat, by rwa [show v.toNat % 2 = 1 by omega] at htaken,
    (State.laneOpen_congr (hf _ (by simp [taskFields]))).trans ho, hf, ?_⟩
  change execDcpStart n v s = _
  simp [execDcpStart, State.dcpCtlWrite, State.ctlTaken, h2, h3, h4]

theorem exec_dcpStart_refused (hin : s.badBuffer (s.f (DCP_IN_ADDR.ADDR n)) (s.f (DCP_IN_LEN.LEN n)) = true) :
    Gives (exec (.dcpStart n v) s) (fun t =>
      t.f (DCP_STATUS.STATE n) = 5 ∧ t.f (DCP_STATUS.ERR n) = 10 ∧ Keeps s t [.regs, .lanes]) := by
  obtain ⟨u, hu, hopen, hf, hexec⟩ := exec_dcpStart_eq hlen hv ho
  have hbad := State.badBuffer_congr (hu.keeps.2 .host (by decide)) (s.f (DCP_IN_ADDR.ADDR n)) (s.f (DCP_IN_LEN.LEN n))
  rw [hin, ← hf (DCP_IN_ADDR.ADDR n) (by simp [taskFields]), ← hf (DCP_IN_LEN.LEN n) (by simp [taskFields])] at hbad
  rw [State.dcpStart_refused hu.owner_eq hopen hbad] at hexec
  have hregs : Keeps u ((u.freshTask n).regionStop n) [.regs] := (u.freshTask_keeps n).then (State.regionStop_keeps _ _)
  have hkeep : Keeps s ((u.freshTask n).regionStop n) [.regs, .lanes] := hu.keeps.then hregs
  have hnone : (((u.freshTask n).regionStop n).lane n).nextOwner = none := by
    rw [State.lane_congr (hregs.2 .lanes (by decide)), hu.lane_eq]
  rw [State.applyOwner_none hnone, State.giveLanes_of_no_waiter hw hkeep] at hexec
  obtain ⟨hstate, herr⟩ := (u.freshTask n).regionStop_f n
  exact ⟨_, hexec, hstate, herr, hkeep⟩

theorem exec_dcpStart_runs (hin : s.badBuffer (s.f (DCP_IN_ADDR.ADDR n)) (s.f (DCP_IN_LEN.LEN n)) = false)
    (hout : s.badBuffer (s.f (DCP_OUT_ADDR.ADDR n)) (s.f (DCP_OUT_LEN.LEN n)) = false) :
    Gives (exec (.dcpStart n v) s) (fun t =>
      t.f (DCP_STATUS.STATE n) = 1 ∧ t.f (DCP_IN_CONSUMED.COUNT n) = 0 ∧ t.f (DCP_OUT_PRODUCED.COUNT n) = 0 ∧
      (t.lane n).input = s.hbmRead (s.f (DCP_IN_ADDR.ADDR n) % 2 ^ 36) (s.f (DCP_IN_LEN.LEN n)) ∧ (t.lane n).written = 0 ∧
      t.f (DCP_STATUS.IN_BITS n) = 0 ∧ Keeps s t [.regs, .lanes, .mem, .journal]) := by
  obtain ⟨u, hu, hopen, hf, hexec⟩ := exec_dcpStart_eq hlen hv ho
  have hread := State.hbmRead_congr (hu.keeps.2 .mem (by decide)) (fun x hx => hu.fields x (memoryField_not_taken n hx))
  rw [← hf (DCP_IN_ADDR.ADDR n) (by simp [taskFields]), ← hf (DCP_IN_LEN.LEN n) (by simp [taskFields]),
    ← State.badBuffer_congr (hu.keeps.2 .host (by decide))] at hin
  rw [← hf (DCP_OUT_ADDR.ADDR n) (by simp [taskFields]), ← hf (DCP_OUT_LEN.LEN n) (by simp [taskFields]),
    ← State.badBuffer_congr (hu.keeps.2 .host (by decide))] at hout
  obtain ⟨hstart, hfield, hinput, hwritten, hnext⟩ :=
    State.dcpStart_runs hu.owner_eq hopen (by rw [hu.length_eq, hlen]; exact n.isLt) hin hout
  rw [hf (DCP_IN_ADDR.ADDR n) (by simp [taskFields]), hf (DCP_IN_LEN.LEN n) (by simp [taskFields]), hread] at hinput
  have hkeep : Keeps s (u.dcpStart n) [.regs, .lanes, .mem, .journal] := hu.keeps.mono.then hstart
  rw [State.applyOwner_none (by rw [hnext, hu.lane_eq]), State.giveLanes_of_no_waiter hw hkeep] at hexec
  obtain ⟨hstate, hin0, hout0, hbits⟩ := u.freshTask_f n
  exact ⟨_, hexec, (hfield _ (by simp [taskFields])).trans hstate, (hfield _ (by simp [taskFields])).trans hin0,
    (hfield _ (by simp [taskFields])).trans hout0, hinput, hwritten, (hfield _ (by simp [taskFields])).trans hbits, hkeep⟩

end

/-! ### RESUME and ABORT (R83) -/

theorem exec_dcpResume_outStopped (hv : v.toNat % 32 = 9) (hown : s.f (DCP_CTL.OWNER n) = 1) (hstop : s.f (DCP_STATUS.STATE n) = 2)
    (hout : s.badBuffer (s.f (DCP_OUT_ADDR.ADDR n)) (s.f (DCP_OUT_LEN.LEN n)) = false) :
    Gives (exec (.dcpResume n v) s) (fun t =>
      t.f (DCP_STATUS.STATE n) = 1 ∧ (t.lane n).before = (s.lane n).written ∧
      (t.lane n).outAddr = s.f (DCP_OUT_ADDR.ADDR n) % 2 ^ 36 ∧ (t.lane n).outLen = s.f (DCP_OUT_LEN.LEN n) ∧
      Keeps s t [.regs, .lanes]) := by
  have hu := State.ctlTaken_busy (s := s) (n := n) hlen (by simp [State.laneOpen, hstop]) v.toNat
  have hf (x : Fld) (hx : x ∈ taskFields n) := hu.fields x (taskFields_spec n x hx).1
  have h2 : bit v.toNat 2 = false := decide_eq_false (by omega)
  have h3 : bit v.toNat 3 = true := decide_eq_true (by omega)
  have h4 : bit v.toNat 4 = false := decide_eq_false (by omega)
  have hexec : exec (.dcpResume n v) s = .next (State.giveLanes 4 (((s.ctlTaken n v.toNat).dcpResume n).applyOwner n)) := by
    change execDcpResume n v s = _
    simp [execDcpResume, State.dcpCtlWrite, State.ctlTaken, h2, h3, h4]
  generalize s.ctlTaken n v.toNat = u at hu hf hexec
  rw [← State.badBuffer_congr (hu.keeps.2 .host (by decide))] at hout
  have heq : u.dcpResume n = (u.put (DCP_STATUS.STATE n) 1).modLane n (fun l => { l with
      before := l.written, outAddr := s.f (DCP_OUT_ADDR.ADDR n) % 2 ^ 36, outLen := s.f (DCP_OUT_LEN.LEN n) }) := by
    rw [State.dcpResume, if_neg (by simp [hu.owner_eq, hown]), if_pos ((hf _ (by simp [taskFields])).trans hstop)]
    rw [hf (DCP_OUT_ADDR.ADDR n) (by simp [taskFields]), hf (DCP_OUT_LEN.LEN n) (by simp [taskFields])]
    exact if_neg (by simp [hout])
  have hlane := State.lane_modLane (s := u.put (DCP_STATUS.STATE n) 1) (n := n) (by simp [hu.length_eq, hlen])
    (fun l => { l with before := l.written, outAddr := s.f (DCP_OUT_ADDR.ADDR n) % 2 ^ 36, outLen := s.f (DCP_OUT_LEN.LEN n) })
  rw [← heq, State.put_lane, hu.lane_eq] at hlane
  have hkeep : Keeps s (u.dcpResume n) [.regs, .lanes] :=
    heq ▸ (hu.keeps.then (u.put_keeps _ _)).then (State.modLane_keeps _ _ _)
  have hstate : (u.dcpResume n).f (DCP_STATUS.STATE n) = 1 := heq ▸ u.f_put_same (DCP_STATUS.STATE n) 1
  rw [State.applyOwner_busy (by simp [State.laneOpen, hstate]), State.giveLanes_of_no_waiter hw hkeep] at hexec
  refine ⟨_, hexec, hstate, ?_, ?_, ?_, hkeep⟩
  · rw [hlane]
  · rw [hlane]
  · rw [hlane]

theorem exec_dcpAbort_software (hv : v.toNat % 32 = 17) (hown : s.f (DCP_CTL.OWNER n) = 1) :
    Gives (exec (.dcpAbort n v) s) (fun t =>
      t.f (DCP_STATUS.STATE n) = 0 ∧ t.f (DCP_STATUS.ERR n) = 0 ∧ Keeps s t [.regs, .lanes]) := by
  have htaken : ∃ next, Taken s (s.ctlTaken n v.toNat) n 1 next := by
    cases ho : s.laneOpen n with
    | false => exact ⟨_, by simpa [hown] using State.ctlTaken_busy hlen ho v.toNat⟩
    | true => exact ⟨_, by simpa [show v.toNat % 2 = 1 by omega] using State.ctlTaken_open hlen ho v.toNat⟩
  obtain ⟨next, hu⟩ := htaken
  have h2 : bit v.toNat 2 = false := decide_eq_false (by omega)
  have h3 : bit v.toNat 3 = false := decide_eq_false (by omega)
  have h4 : bit v.toNat 4 = true := decide_eq_true (by omega)
  have hexec : exec (.dcpAbort n v) s = .next (State.giveLanes 4 (((s.ctlTaken n v.toNat).dcpAbort n).applyOwner n)) := by
    change execDcpAbort n v s = _
    simp [execDcpAbort, State.dcpCtlWrite, State.ctlTaken, h2, h3, h4]
  generalize s.ctlTaken n v.toNat = u at hu hexec
  rw [show u.dcpAbort n = (u.put (DCP_STATUS.STATE n) 0).put (DCP_STATUS.ERR n) 0 from if_pos hu.owner_eq] at hexec
  obtain ⟨hkeep, hfields, -⟩ := State.applyOwner_frame (n := n) (s := (u.put (DCP_STATUS.STATE n) 0).put (DCP_STATUS.ERR n) 0)
    (by rw [State.put_lanes, State.put_lanes, hu.length_eq, hlen]; exact n.isLt)
  have hall := ((hu.keeps.then (u.put_keeps (DCP_STATUS.STATE n) 0)).then (State.put_keeps _ (DCP_STATUS.ERR n) 0)).then hkeep
  rw [State.giveLanes_of_no_waiter hw hall] at hexec
  obtain ⟨hstate, herr⟩ := u.stopped_f n 0 0
  refine ⟨_, hexec, (hfields _ (taskFields_spec n _ (by simp [taskFields])).1).trans hstate,
    (hfields _ (taskFields_spec n _ (by simp [taskFields])).1).trans herr, hall⟩

/-! ### OWNER (R81) -/

omit hlen hw in
/-- A write of OWNER and ZLIB alone. -/
theorem exec_dcpOwnerWrite_eq (hv : v.toNat / 4 % 8 = 0) :
    exec (.dcpOwnerWrite n v) s = .next (State.giveLanes 4 ((s.ctlTaken n v.toNat).applyOwner n)) := by
  have h2 : bit v.toNat 2 = false := decide_eq_false (by omega)
  have h3 : bit v.toNat 3 = false := decide_eq_false (by omega)
  have h4 : bit v.toNat 4 = false := decide_eq_false (by omega)
  change execDcpOwnerWrite n v s = _
  simp [execDcpOwnerWrite, State.dcpCtlWrite, State.ctlTaken, h2, h3, h4]

theorem exec_dcpOwnerWrite_open (hv : v.toNat / 4 % 8 = 0) (ho : s.laneOpen n = true) :
    Gives (exec (.dcpOwnerWrite n v) s) (fun t =>
      t.f (DCP_CTL.OWNER n) = v.toNat % 2 ∧ t.f (DCP_CTL.ZLIB n) = v.toNat / 2 % 2 ∧ (t.lane n).nextOwner = none ∧
      Keeps s t [.regs, .lanes]) := by
  have hu := State.ctlTaken_open hlen ho v.toNat
  have hexec := exec_dcpOwnerWrite_eq (s := s) (n := n) hv
  have hnone := congrArg Lane.nextOwner hu.lane_eq
  rw [State.applyOwner_none hnone, State.giveLanes_of_no_waiter hw hu.keeps] at hexec
  exact ⟨_, hexec, hu.owner_eq, s.ctlTaken_zlib n v.toNat, hnone, hu.keeps⟩

theorem exec_dcpOwnerWrite_busy (hv : v.toNat / 4 % 8 = 0) (ho : s.laneOpen n = false) :
    Gives (exec (.dcpOwnerWrite n v) s) (fun t =>
      t.f (DCP_CTL.OWNER n) = s.f (DCP_CTL.OWNER n) ∧ (t.lane n).nextOwner = some (v.toNat % 2) ∧ Keeps s t [.regs, .lanes]) := by
  have hu := State.ctlTaken_busy hlen ho v.toNat
  have hexec := exec_dcpOwnerWrite_eq (s := s) (n := n) hv
  have hbusy := (State.laneOpen_congr (hu.fields _ (taskFields_spec n _ (by simp [taskFields])).1)).trans ho
  rw [State.applyOwner_busy hbusy, State.giveLanes_of_no_waiter hw hu.keeps] at hexec
  exact ⟨_, hexec, hu.owner_eq, congrArg Lane.nextOwner hu.lane_eq, hu.keeps⟩

end

/-! ### A task ends (R82 to R84) -/

theorem State.showEnd_keeps (s : State) (n : Nat) (e : InfEnd) : Keeps s (s.showEnd n e) [.regs] := by
  cases e with
  | done | outStop | inStop => exact s.put_keeps _ _
  | err c => exact .then (s.put_keeps _ _) (State.put_keeps _ _ _)

theorem State.showEnd_keepsFields (s : State) (n : Nat) (e : InfEnd) :
    KeepsFields s (s.showEnd n e) [DCP_STATUS.STATE n, DCP_STATUS.ERR n] := by
  cases e with
  | done | outStop | inStop => exact (s.put_keepsFields _ _).mono (by simp)
  | err c =>
    exact .then ((s.put_keepsFields (DCP_STATUS.STATE n) 5).mono (by simp)) (State.put_keepsFields _ (DCP_STATUS.ERR n) c) (by simp)

theorem State.showEnd_f (s : State) (n : Nat) (e : InfEnd) :
    (e = .done → (s.showEnd n e).f (DCP_STATUS.STATE n) = 4) ∧ (e = .outStop → (s.showEnd n e).f (DCP_STATUS.STATE n) = 2) ∧
    (e = .inStop → (s.showEnd n e).f (DCP_STATUS.STATE n) = 3) ∧
    (∀ c, e = .err c → (s.showEnd n e).f (DCP_STATUS.STATE n) = 5 ∧
      (s.showEnd n e).f (DCP_STATUS.ERR n) = c % 2 ^ (DCP_STATUS.ERR n).w) := by
  refine ⟨?_, ?_, ?_, ?_⟩
  · rintro rfl
    exact s.f_put_same (DCP_STATUS.STATE n) 4
  · rintro rfl
    exact s.f_put_same (DCP_STATUS.STATE n) 2
  · rintro rfl
    exact s.f_put_same (DCP_STATUS.STATE n) 3
  · rintro c rfl
    exact s.stopped_f n 5 c

/-- A software task's counts, before its lane shows why it has stopped. -/
def State.softCounts (s : State) (n : Nat) (r : Inflated) : State :=
  ((((if r.out.length = (s.lane n).written then s
    else s.hbmWrite ((s.lane n).outAddr + ((s.lane n).written - (s.lane n).before)) (r.out.drop (s.lane n).written)).put
    (DCP_IN_CONSUMED.COUNT n) r.used).put (DCP_OUT_PRODUCED.COUNT n) r.out.length).put (DCP_STATUS.IN_BITS n) r.bits).modLane n
    (fun x => { x with written := r.out.length })

theorem State.softCounts_keeps (s : State) (n : Nat) (r : Inflated) : Keeps s (s.softCounts n r) [.regs, .lanes, .mem] :=
  ((((Keeps.mono (.ite _ (.refl s [.mem]) (s.hbmWrite_keeps _ _))).then (State.put_keeps _ _ _)).then (State.put_keeps _ _ _)).then
    (State.put_keeps _ _ _)).then (State.modLane_keeps _ _ _)

theorem State.softCounts_f (s : State) (n : Nat) (r : Inflated) :
    (s.softCounts n r).f (DCP_IN_CONSUMED.COUNT n) = r.used % 2 ^ (DCP_IN_CONSUMED.COUNT n).w ∧
    (s.softCounts n r).f (DCP_OUT_PRODUCED.COUNT n) = r.out.length % 2 ^ (DCP_OUT_PRODUCED.COUNT n).w ∧
    (s.softCounts n r).f (DCP_STATUS.IN_BITS n) = r.bits % 2 ^ (DCP_STATUS.IN_BITS n).w := by
  simp (disch := decide) only [State.softCounts, State.modLane_f, DCP_STATUS.IN_BITS, DCP_STATUS.off, DCP_IN_CONSUMED.COUNT,
    DCP_IN_CONSUMED.off, DCP_OUT_PRODUCED.COUNT, DCP_OUT_PRODUCED.off, State.f_put_same, State.f_put_laneField, and_self]

theorem State.softCounts_lanes {s : State} {n : Nat} (hlen : n < s.lanes.length) (r : Inflated) :
    (s.softCounts n r).lanes.length = s.lanes.length ∧ ((s.softCounts n r).lane n).written = r.out.length := by
  unfold State.softCounts
  generalize hmade : (if r.out.length = (s.lane n).written then s
    else s.hbmWrite ((s.lane n).outAddr + ((s.lane n).written - (s.lane n).before)) (r.out.drop (s.lane n).written)) = u
  have hu : Keeps s u [.mem] := hmade ▸ .ite _ (.refl s _) (s.hbmWrite_keeps _ _)
  have hlanes : u.lanes.length = s.lanes.length := congrArg List.length (hu.2 .lanes (by decide))
  exact ⟨(State.modLane_length _ _ _).trans hlanes, congrArg Lane.written (State.lane_modLane (hlanes ▸ hlen) _)⟩

section

variable {s : State} {n : Fin 4}

theorem exec_dcpTaskEnd_software (hlen : s.lanes.length = 4) (hw : s.laneWaiters = []) (hrun : s.f (DCP_STATUS.STATE n) = 1)
    (hown : s.f (DCP_CTL.OWNER n) = 1) {r : Inflated}
    (hr : r = inflate (s.lane n).zlib (s.lane n).input (s.lane n).limit ((s.lane n).before + (s.lane n).outLen)) :
    Gives (exec (.dcpTaskEnd n) s) (fun t =>
      t.f (DCP_IN_CONSUMED.COUNT n) = r.used % 2 ^ (DCP_IN_CONSUMED.COUNT n).w ∧
      t.f (DCP_OUT_PRODUCED.COUNT n) = r.out.length % 2 ^ (DCP_OUT_PRODUCED.COUNT n).w ∧ (t.lane n).written = r.out.length ∧
      t.f (DCP_STATUS.IN_BITS n) = r.bits % 2 ^ (DCP_STATUS.IN_BITS n).w ∧
      (r.fin = .done → t.f (DCP_STATUS.STATE n) = 4) ∧ (r.fin = .outStop → t.f (DCP_STATUS.STATE n) = 2) ∧
      (r.fin = .inStop → t.f (DCP_STATUS.STATE n) = 3) ∧
      (∀ c, r.fin = .err c → t.f (DCP_STATUS.STATE n) = 5 ∧ t.f (DCP_STATUS.ERR n) = c % 2 ^ (DCP_STATUS.ERR n).w) ∧
      Keeps s t [.regs, .lanes, .mem]) := by
  have hexec : exec (.dcpTaskEnd n) s = .next (State.giveLanes 4 (((s.softCounts n r).showEnd n r.fin).applyOwner n)) := by
    subst hr
    change execDcpTaskEnd n s = _
    rw [execDcpTaskEnd, if_neg (by simp [hrun]), if_pos hown]
    rfl
  have hlt : n.val < s.lanes.length := by omega
  obtain ⟨hlanes, hwritten⟩ := State.softCounts_lanes hlt r
  obtain ⟨hin, hout, hbits⟩ := s.softCounts_f n r
  obtain ⟨hdone, houtStop, hinStop, herr⟩ := (s.softCounts n r).showEnd_f n r.fin
  have hshow := (s.softCounts n r).showEnd_keeps n r.fin
  have hshown (x : Fld) (hx : x.key ∉ [DCP_STATUS.STATE n, DCP_STATUS.ERR n].map Fld.key) :=
    (s.softCounts n r).showEnd_keepsFields n r.fin x hx
  have hsame := hshow.2 .lanes (by decide)
  obtain ⟨hkeep, hfields, -, o, hlane⟩ := State.applyOwner_frame (s := (s.softCounts n r).showEnd n r.fin) (n := n)
    (by rw [hsame, hlanes]; exact hlt)
  have hall := ((s.softCounts_keeps n r).then hshow).then hkeep
  have htask {x : Fld} (hx : x ∈ taskFields n) := hfields x (taskFields_spec n x hx).1
  rw [State.giveLanes_of_no_waiter hw hall] at hexec
  refine ⟨_, hexec, ?_, ?_, ?_, ?_, ?_, ?_, ?_, ?_, hall⟩
  · exact (htask (by simp [taskFields])).trans ((hshown _ (endField_ne n).1).trans hin)
  · exact (htask (by simp [taskFields])).trans ((hshown _ (endField_ne n).2.1).trans hout)
  · rw [hlane]
    exact (congrArg Lane.written (State.lane_congr hsame n)).trans hwritten
  · exact (htask (by simp [taskFields])).trans ((hshown _ (endField_ne n).2.2).trans hbits)
  · exact fun h => (htask (by simp [taskFields])).trans (hdone h)
  · exact fun h => (htask (by simp [taskFields])).trans (houtStop h)
  · exact fun h => (htask (by simp [taskFields])).trans (hinStop h)
  · exact fun c h => ⟨(htask (by simp [taskFields])).trans (herr c h).1, (htask (by simp [taskFields])).trans (herr c h).2⟩

theorem exec_dcpTaskEnd_gather {i : Nat} {g : Ingest} (hrun : s.f (DCP_STATUS.STATE n) = 1) (hown : s.f (DCP_CTL.OWNER n) = 0)
    (hslot : s.slotOfLane n = some i) (hg : s.slot i = some g) : exec (.dcpTaskEnd n) s = .next (s.endGather n i g) := by
  change execDcpTaskEnd n s = _
  rw [execDcpTaskEnd, if_neg (by simp [hrun]), if_neg (by simp [hown]), hslot]
  dsimp only
  rw [hg]

theorem exec_dcpTaskEnd_idle (hrun : s.f (DCP_STATUS.STATE n) ≠ 1) : exec (.dcpTaskEnd n) s = .next s := by
  change execDcpTaskEnd n s = _
  rw [execDcpTaskEnd, if_pos hrun]

end

/-- Settles O36: what a write takes of OWNER and ZLIB, then the operation that it starts, and at a task's end the counts and the state
that the lane shows; no slot waits for a lane, so none is given to Gather. -/
theorem lanes : Obligations.Lanes := by
  unfold Obligations.Lanes
  refine ⟨fun s n v hlen hw => ⟨fun hv _ ho => ⟨?_, ?_⟩, ?_, ?_, ?_, ?_, ?_⟩, ?_, ?_⟩
  · exact exec_dcpStart_runs hlen hw hv ho
  · exact exec_dcpStart_refused hlen hw hv ho
  · exact exec_dcpResume_outStopped hlen hw
  · exact exec_dcpAbort_software hlen hw
  · exact exec_dcpOwnerWrite_open hlen hw
  · exact exec_dcpOwnerWrite_busy hlen hw
  · exact fun hrun hown r hr => exec_dcpTaskEnd_software hlen hw hrun hown hr
  · exact fun s n i g => exec_dcpTaskEnd_gather
  · exact fun s n => exec_dcpTaskEnd_idle

end Sys2Proof.Machine

/-! # Leave granted, returned and budgeted (O30)

A grant moves the request at the head to the grants and counts its wait; what its holder begins is then read off the state with the
grant, which differs from the one before in the register file and the governor's lists alone. -/

namespace Sys2Proof.Machine

open Sys2Proof

set_option Elab.async false

/-! ### A wait ends, a request is granted (R451, R452) -/

theorem State.endWait_keepsFields (s : State) (who : Requester) : KeepsFields s (s.endWait who) returnFields := by
  unfold State.endWait
  split
  · exact (s.countWait_keepsFields _).then (State.countGovWait_keepsFields _)
  · exact .refl s _

/-- The end of a wait changes no more of the governor than the time up to which waiting has been counted. -/
theorem State.endWait_power (s : State) (who : Requester) : ∃ m, (s.endWait who).power = { s.power with waitMark := m } := by
  unfold State.endWait
  split
  · next w hw =>
    have hp : (s.countWait w).power = s.power := (s.countWait_keeps w).2 .power (by decide)
    unfold State.countGovWait
    split
    · exact ⟨s.power.waitMark, hp⟩
    · exact ⟨_, congrArg (fun p => { p with waitMark := (s.countWait w).mono100 }) hp⟩
  · exact ⟨s.power.waitMark, rfl⟩

theorem State.showLeave_used (s : State) : s.showLeave.f PGV_STATE.USED = leaveUsed s.power.grants % 2 ^ 16 := by
  rw [State.showLeave, State.f_put_other _ _ (by decide), State.f_put_same]
  rfl

theorem leaveUsed_append (l : List Leave) (w : Leave) : leaveUsed (l ++ [w]) = leaveUsed l + w.units := by
  simp [leaveUsed]

/-- The fields that a grant may change. -/
def grantFields : List Fld := PGV_CNT_OVERSIZE.COUNT :: returnFields

/-- The wait of a request ended, and counted where the request asks for more than EFF. -/
def State.admitted (s : State) (w : Leave) : State :=
  if s.f PGV_STATE.EFF < w.units then (s.endWait w.who).count PGV_CNT_OVERSIZE.COUNT 1 else s.endWait w.who

theorem State.admitted_keeps (s : State) (w : Leave) : Keeps s (s.admitted w) [.regs, .power] :=
  .ite _ ((s.endWait_keeps _).then (State.count_keeps _ _ _)) (s.endWait_keeps _)

theorem State.admitted_keepsFields (s : State) (w : Leave) : KeepsFields s (s.admitted w) grantFields :=
  .ite _ ((s.endWait_keepsFields _).mono.then (State.count_keepsFields _ _ _)) (s.endWait_keepsFields _).mono

theorem State.admitted_power (s : State) (w : Leave) : ∃ m, (s.admitted w).power = { s.power with waitMark := m } := by
  unfold State.admitted
  split
  · exact s.endWait_power w.who
  · exact s.endWait_power w.who

/-- The state in which the request at the head, with the requests r behind it, has been granted. -/
def State.granted (s : State) (w : Leave) (r : List Leave) : State :=
  ({ s.admitted w with power := { (s.admitted w).power with
    waiting := r, grants := (s.admitted w).power.grants ++ [w] } }).showLeave

theorem State.granted_keeps (s : State) (w : Leave) (r : List Leave) : Keeps s (s.granted w r) [.regs, .power] :=
  ((s.admitted_keeps w).then (keeps_power _ _)).then (State.showLeave_keeps _)

theorem State.granted_keepsFields (s : State) (w : Leave) (r : List Leave) : KeepsFields s (s.granted w r) grantFields :=
  (((s.admitted_keepsFields w).then (m := []) (.of_regs rfl _)).then (State.put_keepsFields _ _ _)).then (State.put_keepsFields _ _ _)

theorem State.granted_power (s : State) (w : Leave) (r : List Leave) :
    (s.granted w r).power.waiting = r ∧ (s.granted w r).power.grants = s.power.grants ++ [w] ∧
    (s.granted w r).power.released = s.power.released := by
  obtain ⟨m, hm⟩ := s.admitted_power w
  refine ⟨rfl, ?_, ?_⟩
  · change (s.admitted w).power.grants ++ [w] = _
    rw [hm]
  · change (s.admitted w).power.released = _
    rw [hm]

theorem State.granted_holdsLeave (s : State) (w : Leave) (r : List Leave) : (s.granted w r).holdsLeave w.who = true := by
  simp [State.holdsLeave, (s.granted_power w r).2.1]

theorem State.granted_runs (s : State) (w : Leave) (r : List Leave) {x : Fld} (hx : x.key ∉ grantFields.map Fld.key) :
    (s.granted w r).runs x = s.runs x := by
  simp only [State.runs, State.on, s.granted_keepsFields w r x hx, (s.granted_power w r).2.2]

theorem State.granted_used (s : State) (w : Leave) (r : List Leave) :
    (s.granted w r).f PGV_STATE.USED = (leaveUsed s.power.grants + w.units) % 2 ^ 16 := by
  obtain ⟨m, hm⟩ := s.admitted_power w
  rw [State.granted, State.showLeave_used, hm, leaveUsed_append]

/-- A request for more than EFF is counted when it is granted. -/
theorem State.granted_oversize {s : State} {w : Leave} (h : s.f PGV_STATE.EFF < w.units) (r : List Leave) :
    (s.granted w r).f PGV_CNT_OVERSIZE.COUNT = min (s.f PGV_CNT_OVERSIZE.COUNT + 1) (2 ^ PGV_CNT_OVERSIZE.COUNT.w - 1) := by
  have hshow : (s.granted w r).f PGV_CNT_OVERSIZE.COUNT = (s.admitted w).f PGV_CNT_OVERSIZE.COUNT := by
    rw [State.granted, State.showLeave, State.f_put_other _ _ (by decide), State.f_put_other _ _ (by decide)]
    rfl
  rw [hshow, State.admitted, if_pos h, State.count, State.f_put_same, s.endWait_keepsFields w.who _ (by decide)]
  exact Nat.mod_eq_of_lt (lt_of_le_of_lt (min_le_right _ _) (by decide))

/-! ### LEAVE_GRANT -/

theorem State.grantable_iff (s : State) (n : Nat) : s.grantable n = true ↔
    leaveUsed s.power.grants + n ≤ s.f PGV_STATE.EFF ∨ s.f PGV_STATE.EFF < n ∧ leaveUsed s.power.grants = 0 := by
  simp [State.grantable]

theorem exec_leaveGrant_none {s : State} (h : s.power.waiting = []) : exec .leaveGrant s = .next s := by
  change execLeaveGrant s = _
  rw [execLeaveGrant, h]

section

variable {s : State} {w : Leave} {r : List Leave} (hw : s.power.waiting = w :: r)

include hw

theorem exec_leaveGrant_waits (hused : s.f PGV_STATE.EFF < leaveUsed s.power.grants + w.units)
    (hsmall : w.units ≤ s.f PGV_STATE.EFF ∨ leaveUsed s.power.grants ≠ 0) : exec .leaveGrant s = .next s := by
  change execLeaveGrant s = _
  rw [execLeaveGrant, hw]
  refine if_neg ?_
  rw [State.grantable_iff]
  omega

theorem exec_leaveGrant_grants (hg : s.grantable w.units = true) : exec .leaveGrant s = .next ((s.granted w r).leaveStart w.who) := by
  change execLeaveGrant s = _
  rw [execLeaveGrant, hw]
  exact if_pos hg

/-! ### A column is begun or given back (R144) -/

theorem exec_leaveGrant_coarse (hwho : w.who = .coarse) (hg : s.grantable w.units = true) :
    exec .leaveGrant s = .next (if s.runs GLY_CTL.ENABLE then s.granted w r else (s.granted w r).giveLeave .coarse) := by
  rw [exec_leaveGrant_grants hw hg, hwho, ← s.granted_runs w r (by decide)]
  rfl

theorem exec_leaveGrant_coarse_begins (hwho : w.who = .coarse) (hg : s.grantable w.units = true) (hen : s.runs GLY_CTL.ENABLE = true) :
    exec .leaveGrant s = .next (s.granted w r) := by
  rw [exec_leaveGrant_coarse hw hwho hg, if_pos hen]

theorem exec_leaveGrant_coarse_returns (hwho : w.who = .coarse) (hg : s.grantable w.units = true)
    (hen : s.runs GLY_CTL.ENABLE = false) :
    Gives (exec .leaveGrant s) (fun t => t.holdsLeave .coarse = false ∧ Keeps s t [.regs, .power]) := by
  refine ⟨_, (exec_leaveGrant_coarse hw hwho hg).trans (by rw [if_neg (by simp [hen])]), State.giveLeave_holdsLeave _ _, ?_⟩
  exact (s.granted_keeps w r).then (State.giveLeave_keeps _ _)

end

/-! ### LEAVE_RETURN (R452) -/

section

variable {s : State} {k : Nat} {g : Leave} (hk : s.power.grants[k]? = some g)

include hk

theorem exec_leaveReturn_eq : exec (.leaveReturn k) s = if s.leaveOver g.who then .next (s.giveLeave g.who) else .next s := by
  change execLeaveReturn k s = _
  rw [execLeaveReturn, hk]

theorem exec_leaveReturn_over (hover : s.leaveOver g.who = true) : Gives (exec (.leaveReturn k) s) (fun t =>
    t.holdsLeave g.who = false ∧ t.f PGV_STATE.USED = leaveUsed t.power.grants % 2 ^ 16 ∧ Keeps s t [.regs, .power]) :=
  ⟨_, (exec_leaveReturn_eq hk).trans (if_pos hover), s.giveLeave_holdsLeave _, State.showLeave_used _, s.giveLeave_keeps _⟩

theorem exec_leaveReturn_holds (hover : s.leaveOver g.who = false) : exec (.leaveReturn k) s = .next s :=
  (exec_leaveReturn_eq hk).trans (if_neg (by simp [hover]))

end

/-! ### The budget (R451, R453) -/

theorem exec_tjSample_max {s : State} {temps : List Int} {m : Int} (hlen : temps.length = 16) (hm : m ∈ temps)
    (hmax : ∀ x ∈ temps, x ≤ m) : exec (.tjSample temps) s =
      .next ((s.puts PWR_TJ.TJ m).put PWR_TJ.SENSOR (temps.findIdx (fun x => decide (x = m)))).setEff := by
  cases temps with
  | nil => exact absurd hm nofun
  | cons t r =>
    have hfold : r.foldl max t = m := by
      rw [← Option.some_inj, ← List.max?_cons', List.max?_eq_some_iff]
      exact ⟨hm, hmax⟩
    change execTjSample (t :: r) s = _
    rw [execTjSample, if_neg (by simp [hlen]), hfold]

theorem exec_pgvBudgetWrite (s : State) (v : Word) : exec (.pgvBudgetWrite v) s =
    .next ((s.put PGV_BUDGET.BUDGET (v.toNat % 2 ^ 16)).put PGV_BUDGET.FLOOR (v.toNat / 2 ^ 16 % 2 ^ 16)).setEff := by
  change execPgvBudgetWrite v s = _
  simp [execPgvBudgetWrite, State.budgetWrite, bits]

theorem State.setEff_eff (s : State) : s.setEff.f PGV_STATE.EFF = s.effFor (s.fs PWR_TJ.TJ) % 2 ^ 16 := by
  unfold State.setEff
  extract_lets tj e b s1 s2
  have h1 : s1.f PGV_STATE.EFF = e % 2 ^ 16 := by
    rw [State.f_put_other _ _ (by decide), State.f_put_same]
    rfl
  have h2 : s2.f PGV_STATE.EFF = e % 2 ^ 16 := by
    simp only [s2]
    split
    · exact (State.f_put_other _ _ (by decide)).trans h1
    · exact h1
  split
  · exact ((State.event_keepsFields _ _ _ _) _ (by decide)).trans h2
  · exact h2

/-- The temperature from which EFF is FLOOR. -/
def State.thermTop (s : State) : Int := max (s.fs PGV_THERM.T_FLOOR) (s.fs PGV_THERM.T_START + 1)

/-- BUDGET as EFF takes it: EFF of a cool device. -/
def State.effTop (s : State) : Int := max 1 (s.f PGV_BUDGET.BUDGET)

/-- FLOOR as EFF takes it, at most BUDGET: EFF of a hot device. -/
def State.effFloor (s : State) : Int := min s.effTop (s.f PGV_BUDGET.FLOOR)

/-- Where EFF falls with the temperature. -/
def State.effFall (s : State) (tj : Int) : Int :=
  s.effTop - (s.effTop - s.effFloor) * (tj - s.fs PGV_THERM.T_START) / (s.thermTop - s.fs PGV_THERM.T_START)

theorem State.effFor_eq (s : State) (tj : Int) : s.effFor tj =
    (min s.effTop (max s.effFloor (if tj ≤ s.fs PGV_THERM.T_START then s.effTop else if s.thermTop ≤ tj then s.effFloor
      else s.effFall tj))).toNat := rfl

theorem State.effFloor_le (s : State) : s.effFloor ≤ s.effTop := min_le_left _ _

theorem State.effTop_toNat (s : State) : s.effTop.toNat = max 1 (s.f PGV_BUDGET.BUDGET) := by
  simp only [State.effTop]
  omega

theorem State.effFor_le (s : State) (tj : Int) : s.effFor tj ≤ max 1 (s.f PGV_BUDGET.BUDGET) := by
  rw [State.effFor_eq, ← s.effTop_toNat]
  exact Int.toNat_le_toNat (min_le_left _ _)

theorem State.le_effFor (s : State) (tj : Int) : s.effFloor.toNat ≤ s.effFor tj :=
  Int.toNat_le_toNat (le_min s.effFloor_le (le_max_left _ _))

theorem State.effFloor_toNat (s : State) : s.effFloor.toNat = min (max 1 (s.f PGV_BUDGET.BUDGET)) (s.f PGV_BUDGET.FLOOR) := by
  simp only [State.effFloor, State.effTop]
  omega

theorem State.effFor_cool {s : State} {tj : Int} (h : tj ≤ s.fs PGV_THERM.T_START) : s.effFor tj = max 1 (s.f PGV_BUDGET.BUDGET) := by
  rw [State.effFor_eq, if_pos h, max_eq_right s.effFloor_le, min_self, s.effTop_toNat]

theorem State.effFor_hot {s : State} {tj : Int} (h : s.thermTop ≤ tj) : s.effFor tj = s.effFloor.toNat := by
  have hlt : s.fs PGV_THERM.T_START < s.thermTop := lt_of_lt_of_le (Int.lt_add_one_iff.mpr le_rfl) (le_max_right _ _)
  rw [State.effFor_eq, if_neg (by omega), if_pos h, max_self, min_eq_right s.effFloor_le]

theorem State.effFor_falling {s : State} {tj : Int} (hs : s.fs PGV_THERM.T_START < tj) (ht : tj < s.thermTop) :
    s.effFor tj = (min s.effTop (max s.effFloor (s.effFall tj))).toNat := by
  rw [State.effFor_eq, if_neg (by omega), if_neg (by omega)]

theorem State.effFall_antitone (s : State) (tj tj' : Int) (h : tj ≤ tj') : s.effFall tj' ≤ s.effFall tj := by
  have hlt : s.fs PGV_THERM.T_START < s.thermTop := lt_of_lt_of_le (Int.lt_add_one_iff.mpr le_rfl) (le_max_right _ _)
  have hfloor := s.effFloor_le
  refine sub_le_sub_left (Int.ediv_le_ediv (by omega) (mul_le_mul_of_nonneg_left ?_ (by omega))) _
  omega

theorem State.effFor_antitone (s : State) {tj tj' : Int} (h : tj ≤ tj') : s.effFor tj' ≤ s.effFor tj := by
  rcases le_or_gt tj (s.fs PGV_THERM.T_START) with hcool | hs
  · rw [State.effFor_cool hcool]
    exact s.effFor_le tj'
  rcases le_or_gt s.thermTop tj' with hhot | ht
  · rw [State.effFor_hot hhot]
    exact s.le_effFor tj
  · rw [State.effFor_falling hs (by omega), State.effFor_falling (by omega) ht]
    exact Int.toNat_le_toNat (min_le_min_left _ (max_le_max_left _ (s.effFall_antitone tj tj' h)))

/-! ### A Marver tile, a pixel tile (R115, R140, R144) -/

/-- What a generation's bank holds is the root's. -/
theorem State.genF_congr {s t : State} (h : t.root = s.root) (u gen : Nat) : t.genF u gen = s.genF u gen := by
  funext x
  simp only [State.genF, State.act, State.stg, h]

theorem State.bandOf_congr {s t : State} (hroot : t.root = s.root) (hglory : t.glory = s.glory) (k : Stripe) (h : TileHdr) :
    t.bandOf k h = s.bandOf k h := by
  simp only [State.bandOf, State.bandsPer, State.rows, State.genF_congr hroot, hglory]

theorem State.mslot_congr {s t : State} (h : t.mslots = s.mslots) (e k : Nat) : t.mslot e k = s.mslot e k := by
  simp only [State.mslot, h]

section

variable {s : State} {w : Leave} {r : List Leave} (hw : s.power.waiting = w :: r)
  (hfit : leaveUsed s.power.grants + w.units ≤ s.f PGV_STATE.EFF)

include hw hfit

theorem exec_leaveGrant_fits : exec .leaveGrant s = .next ((s.granted w r).leaveStart w.who) :=
  exec_leaveGrant_grants hw ((s.grantable_iff _).mpr (.inl hfit))

theorem exec_leaveGrant_marver {e k : Nat} {m : MSlot} (hwho : w.who = .marver e k) (hm : s.mslot e k = some m)
    (hen : s.runs MRV_CTL.ENABLE = true) : Gives (exec .leaveGrant s) (fun t =>
      t.power.waiting = r ∧ t.power.grants = s.power.grants ++ [w] ∧ t.mslot e k = some { m with started := true } ∧
      Keeps s t [.regs, .power, .mslots]) := by
  obtain ⟨hwait, hgrants, -⟩ := s.granted_power w r
  have hmslots : (s.granted w r).mslots = s.mslots := (s.granted_keeps w r).2 .mslots (by decide)
  have hslot : (s.granted w r).mslot e k = some m := (State.mslot_congr hmslots e k).trans hm
  have hstart : (s.granted w r).leaveStart w.who = (s.granted w r).setMslot e k (some { m with started := true }) := by
    rw [hwho, State.leaveStart, hslot]
    exact if_pos ((s.granted_runs w r (by decide)).trans hen)
  refine ⟨_, (exec_leaveGrant_fits hw hfit).trans (congrArg _ hstart), hwait, hgrants, State.mslot_setMslot hm hmslots _, ?_⟩
  exact (s.granted_keeps w r).mono.then (State.setMslot_keeps _ _ _ _)

theorem exec_leaveGrant_pixel (hwho : w.who = .pixel) (hen : s.runs GLY_CTL.ENABLE = true) :
    exec .leaveGrant s = .next (s.granted w r).pixelGranted := by
  rw [exec_leaveGrant_fits hw hfit, hwho]
  exact congrArg _ (if_pos ((s.granted_runs w r (by decide)).trans hen))

section

variable {h : TileHdr} {k : Stripe} (hwho : w.who = .pixel) (hen : s.runs GLY_CTL.ENABLE = true) (ht : s.glory.tile = some h)
  (hk : s.glory.pix = some k)

include hwho hen ht hk

omit hw hfit hwho hen in
theorem State.granted_pixelGranted :
    (s.granted w r).pixelGranted = if h.empty then (s.granted w r).tileWritten k h else s.granted w r := by
  have hglory : (s.granted w r).glory = s.glory := (s.granted_keeps w r).2 .glory (by decide)
  rw [State.pixelGranted, hglory, ht, hk]

theorem exec_leaveGrant_pixel_empty (hempty : h.empty = true) : Gives (exec .leaveGrant s) (fun t =>
    t.glory.tile = none ∧ t.holdsLeave .pixel = false ∧ t.glory.halves = s.glory.halves ∧
    mnat t.glory.tilesIn (s.bandOf k h) = mnat s.glory.tilesIn (s.bandOf k h) + 1 ∧ Keeps s t [.regs, .power, .glory]) := by
  have hglory : (s.granted w r).glory = s.glory := (s.granted_keeps w r).2 .glory (by decide)
  have hexec := exec_leaveGrant_pixel hw hfit hwho hen
  rw [State.granted_pixelGranted ht hk, if_pos hempty] at hexec
  have hgive (u : State) : (u.giveLeave .pixel).glory = u.glory := (u.giveLeave_keeps .pixel).2 .glory (by decide)
  refine ⟨_, hexec, ?_, State.giveLeave_holdsLeave _ _, ?_, ?_, ?_⟩
  · rw [State.tileWritten, hgive]
  · rw [State.tileWritten, hgive, hglory]
  · rw [State.tileWritten, hgive, State.bandOf_congr ((s.granted_keeps w r).2 .root (by decide)) hglory, hglory]
    simp [madd, mnat]
  · exact ((s.granted_keeps w r).mono.then (keeps_glory _ _)).then (State.giveLeave_keeps _ _)

theorem exec_leaveGrant_pixel_words (hempty : h.empty = false) : Gives (exec .leaveGrant s) (fun t =>
    t.power.waiting = r ∧ t.power.grants = s.power.grants ++ [w] ∧ Keeps s t [.regs, .power]) := by
  obtain ⟨hwait, hgrants, -⟩ := s.granted_power w r
  have hexec := exec_leaveGrant_pixel hw hfit hwho hen
  rw [State.granted_pixelGranted ht hk, if_neg (by simp [hempty])] at hexec
  exact ⟨_, hexec, hwait, hgrants, s.granted_keeps w r⟩

end

end

/-! ### A lane group trains (R220, R221) -/

/-- The fields beside the lanes' own that a group's training may change. -/
def trainFields : List Fld :=
  [GAF_TRAIN_FAIL.FAILED, EVJ_SEQ.SEQ 0x0C, GAF_CNT_EVMERGE.COUNT, GAF_STATUS.EV_MERGE] ++ grantFields

theorem laneState_not_shown {l : Nat} (hl : l < 72) : (PUN_LANE_STATE.STATE l).key ∉ trainFields.map Fld.key := by
  have h : ∀ k ∈ trainFields.map Fld.key, k < 0xC01200 * 64 ∨ (0xC01200 + 4 * 72) * 64 ≤ k := by decide
  intro hk
  have := h _ hk
  simp only [PUN_LANE_STATE.STATE, PUN_LANE_STATE.off, Fld.key] at this
  omega

theorem KeepsFields.laneState {s t : State} (h : KeepsFields s t trainFields) {l : Nat} (hl : l < 72) : t.laneState l = s.laneState l :=
  h _ (laneState_not_shown hl)

theorem State.laneState_setLane (s : State) (l st k : Nat) :
    (s.setLane l st).laneState k = if k = l then st % 8 else s.laneState k := by
  unfold State.setLane State.laneState
  split
  · next h =>
    rw [h, State.f_put_same]
    rfl
  · next h =>
    refine s.f_put_other _ ?_
    simp only [PUN_LANE_STATE.STATE, PUN_LANE_STATE.off, Fld.key]
    omega

/-- The lanes of a list that wait begin to send. -/
def State.sendWaiting (s : State) (ls : List Nat) : State := ls.foldl (fun t l => if t.laneState l = 1 then t.setLane l 2 else t) s

theorem State.sendWaiting_keeps (s : State) (ls : List Nat) : Keeps s (s.sendWaiting ls) [.regs] :=
  .foldl (fun t _ => .ite _ (t.put_keeps _ _) (.refl t _)) ls s

theorem State.sendWaiting_laneState (s : State) (ls : List Nat) (k : Nat) :
    (s.sendWaiting ls).laneState k = if k ∈ ls ∧ s.laneState k = 1 then 2 else s.laneState k := by
  induction ls generalizing s with
  | nil => simp [State.sendWaiting]
  | cons l ls ih =>
    have hstep : s.sendWaiting (l :: ls) = (if s.laneState l = 1 then s.setLane l 2 else s).sendWaiting ls := rfl
    rw [hstep, ih]
    by_cases hkl : k = l
    · subst hkl
      by_cases h1 : s.laneState k = 1
      · simp [h1, State.laneState_setLane]
      · simp [h1]
    · have hsame : (if s.laneState l = 1 then s.setLane l 2 else s).laneState k = s.laneState k := by
        split
        · rw [State.laneState_setLane, if_neg hkl]
        · rfl
      simp [hsame, hkl]

theorem State.giveLeave_holdsLeave_other (s : State) {who other : Requester} (h : other ≠ who) :
    (s.giveLeave who).holdsLeave other = s.holdsLeave other := by
  obtain ⟨m, hm⟩ := s.endWait_power who
  have hg : (s.giveLeave who).power.grants = s.power.grants.filter (fun g => !decide (g.who = who)) := by
    change (s.endWait who).power.grants.filter _ = _
    rw [hm]
  rw [State.holdsLeave, hg, State.holdsLeave, Bool.eq_iff_iff]
  simp only [List.any_filter, List.any_eq_true, Bool.and_eq_true, Bool.not_eq_true', decide_eq_true_eq, decide_eq_false_iff_not]
  exact exists_congr fun x => and_congr_right fun _ => ⟨And.right, fun hx => ⟨hx ▸ h, hx⟩⟩

/-- Group g trains on: one of its lanes sends, and the group holds its leave. -/
def TrainsOn (s : State) (g : Nat) : Prop := (∃ l ∈ groupLanes g, s.laneState l = 2) ∧ s.holdsLeave (.training g) = true

/-- A group without a training lane returns its leave. -/
def State.settleGroup (t : State) (g : Nat) : State :=
  if (groupLanes g).all (fun l => t.laneState l = 0 || decide (5 ≤ t.laneState l)) && t.askedLeave (.training g) then
    t.giveLeave (.training g) else t

theorem mem_groupLanes_lt {g l : Nat} (hg : g < 8) (hl : l ∈ groupLanes g) : l < 64 := by
  simp only [groupLanes, List.mem_map, List.mem_range] at hl
  omega

theorem State.settleGroup_frame {s : State} {g : Nat} (hg : g < 8) (h : TrainsOn s g) (o : Nat) :
    Keeps s (s.settleGroup o) [.regs, .power] ∧ KeepsFields s (s.settleGroup o) trainFields ∧ TrainsOn (s.settleGroup o) g := by
  unfold State.settleGroup
  split
  · next hidle =>
    have hf : KeepsFields s (s.giveLeave (.training o)) trainFields := (s.giveLeave_keepsFields _).mono
    obtain ⟨⟨l, hl, hl2⟩, hholds⟩ := h
    have hne : Requester.training g ≠ .training o := by
      rintro ⟨⟩
      have hall := List.all_eq_true.mp (Bool.and_eq_true_iff.mp hidle).1 l hl
      simp [hl2] at hall
    refine ⟨s.giveLeave_keeps _, hf, ⟨l, hl, ?_⟩, (s.giveLeave_holdsLeave_other hne).trans hholds⟩
    exact (hf.laneState (by have := mem_groupLanes_lt hg hl; omega)).trans hl2
  · exact ⟨.refl s _, .refl s _, h⟩

theorem State.settleGroups_frame {g : Nat} (hg : g < 8) (os : List Nat) {s : State} (h : TrainsOn s g) :
    Keeps s (os.foldl State.settleGroup s) [.regs, .power] ∧ KeepsFields s (os.foldl State.settleGroup s) trainFields ∧
    TrainsOn (os.foldl State.settleGroup s) g := by
  induction os generalizing s with
  | nil => exact ⟨.refl s _, .refl s _, h⟩
  | cons o os ih =>
    obtain ⟨hk, hf, ht⟩ := State.settleGroup_frame hg h o
    obtain ⟨hk', hf', ht'⟩ := ih ht
    exact ⟨hk.then hk', hf.then hf' (List.Subset.refl _), ht'⟩

/-- A TRAIN whose lanes have all ended, told with the lanes that failed. -/
def State.trainDone (s : State) (failed : Nat) (args : List Arg) : State :=
  let s2 := (s.put GAF_TRAIN_FAIL.FAILED failed).event 0x0C04 0 args
  ({ s2 with link := { s2.link with train := none } }).pulse 8

theorem State.trainDone_frame (s : State) (failed : Nat) (args : List Arg) :
    Keeps s (s.trainDone failed args) [.regs, .link, .journal, .gaf] ∧ KeepsFields s (s.trainDone failed args) trainFields := by
  unfold State.trainDone
  extract_lets u
  have hu : Keeps s u [.regs, .journal] := .then (.mono (s.put_keeps _ _)) (State.event_keeps _ _ _ _)
  have hf : KeepsFields s u trainFields := .then (.mono (s.put_keepsFields _ _)) (State.event_keepsFields _ _ _ _)
  refine ⟨(hu.mono.then (keeps_link u _)).then (State.pulse_keeps _ _), fun x hx => ?_⟩
  have hne {y : Fld} (hy : y ∈ trainFields) : x.key ≠ y.key := fun he => hx (List.mem_map.mpr ⟨y, hy, he.symm⟩)
  exact (State.pulse_f _ _ (hne (by decide)) (hne (by decide))).trans (hf x hx)

theorem State.settleTrain_frame {s : State} {g : Nat} (hg : g < 8) (h : TrainsOn s g) :
    Keeps s s.settleTrain [.regs, .power, .link, .journal, .gaf] ∧ KeepsFields s s.settleTrain trainFields ∧
    s.settleTrain.holdsLeave (.training g) = true := by
  unfold State.settleTrain
  extract_lets idle s1
  obtain ⟨hk, hf, -, hholds⟩ : Keeps s s1 [.regs, .power] ∧ KeepsFields s s1 trainFields ∧ TrainsOn s1 g :=
    State.settleGroups_frame hg (List.range 8) h
  split
  · exact ⟨hk.mono, hf, hholds⟩
  · next mask _ =>
    extract_lets l bad s2
    split
    · obtain ⟨hk', hf'⟩ := s1.trainDone_frame (bad.foldl setBit 0) [a32 (l.length - bad.length), a32 bad.length]
      exact ⟨hk.mono.then hk', hf.then hf' (List.Subset.refl _), (hk'.holdsLeave _).trans hholds⟩
    · exact ⟨hk.mono, hf, hholds⟩

/-- A group whose return lane is READY and that has its leave begins to send on the lanes that wait. -/
theorem State.trainAsk_begins {s : State} {g : Nat} (hret : s.laneState (64 + g) = 5) (hl : ∃ l ∈ groupLanes g, s.laneState l = 1)
    (hholds : s.holdsLeave (.training g) = true) : s.trainAsk g = s.sendWaiting (groupLanes g) := by
  have hany : (groupLanes g).any (fun l => decide (s.laneState l = 1)) = true := by simpa using hl
  rw [State.trainAsk, if_pos ⟨hret, hany⟩, if_pos hholds]
  rfl

theorem exec_leaveGrant_training {s : State} {w : Leave} {r : List Leave} (hw : s.power.waiting = w :: r)
    (hfit : leaveUsed s.power.grants + w.units ≤ s.f PGV_STATE.EFF) {g : Nat} (hwho : w.who = .training g) (hg : g < 8)
    (hret : s.laneState (64 + g) = 5) (hl : ∃ l ∈ groupLanes g, s.laneState l = 1) : Gives (exec .leaveGrant s) (fun t =>
      (∀ l ∈ groupLanes g, t.laneState l = (if s.laneState l = 1 then 2 else s.laneState l)) ∧
      (∀ l, l < 72 → l ∉ groupLanes g → t.laneState l = s.laneState l) ∧ t.holdsLeave (.training g) = true ∧
      Keeps s t [.regs, .power, .link, .journal, .gaf]) := by
  have hgrant {l : Nat} (h : l < 72) : (s.granted w r).laneState l = s.laneState l := (s.granted_keepsFields w r).mono.laneState h
  have hin {l : Nat} (h : l ∈ groupLanes g) : l < 72 := by have := mem_groupLanes_lt hg h; omega
  have hholds : (s.granted w r).holdsLeave (.training g) = true := hwho ▸ s.granted_holdsLeave w r
  obtain ⟨l0, hl0, h1⟩ := hl
  have hask := State.trainAsk_begins ((hgrant (by omega)).trans hret) ⟨l0, hl0, (hgrant (hin hl0)).trans h1⟩ hholds
  have hsend := (s.granted w r).sendWaiting_keeps (groupLanes g)
  have hstate (k : Nat) (hk : k < 72) : ((s.granted w r).sendWaiting (groupLanes g)).laneState k =
      if k ∈ groupLanes g ∧ s.laneState k = 1 then 2 else s.laneState k := by
    rw [State.sendWaiting_laneState, hgrant hk]
  obtain ⟨hk, hf, hkept⟩ := State.settleTrain_frame (s := (s.granted w r).sendWaiting (groupLanes g)) hg
    ⟨⟨l0, hl0, by rw [hstate l0 (hin hl0), if_pos ⟨hl0, h1⟩]⟩, (hsend.holdsLeave _).trans hholds⟩
  have hexec : exec .leaveGrant s = .next ((s.granted w r).sendWaiting (groupLanes g)).settleTrain := by
    rw [exec_leaveGrant_fits hw hfit, hwho, ← hask]
    rfl
  refine ⟨_, hexec, fun l h => ?_, fun l hlt h => ?_, hkept, ((s.granted_keeps w r).mono.then hsend).then hk⟩
  · rw [hf.laneState (hin h), hstate l (hin h)]
    simp [h]
  · rw [hf.laneState hlt, hstate l hlt]
    simp [h]

/-! ### Sage's segment takes a lane (R81, R361) -/

theorem State.setSlot_keeps (s : State) (i : Nat) (g : Option Ingest) : Keeps s (s.setSlot i g) [.gather] := keeps_gather s _

theorem State.slot_congr {s t : State} (h : t.gather = s.gather) (i : Nat) : t.slot i = s.slot i := by
  simp only [State.slot, h]

/-- A slot that holds a segment reads as it is set, and every other slot as it was. -/
theorem State.slot_setSlot {s : State} {j : Nat} {h : Ingest} (hj : s.slot j = some h) (x : Option Ingest) (i : Nat) :
    (s.setSlot j x).slot i = if i = j then x else s.slot i := by
  have hlt : j < s.gather.slots.length := (List.getElem?_eq_some_iff.mp (Option.join_eq_some_iff.mp hj)).1
  unfold State.setSlot State.slot
  split
  · next hi =>
    rw [hi, List.getElem?_set_self hlt]
    rfl
  · next hi => rw [List.getElem?_set_ne (Ne.symm hi)]

/-- Slots that take lanes change no more of a segment than its lane. -/
theorem State.giveLanes_frame (k : Nat) (s : State) : Keeps s (State.giveLanes k s) [.regs, .gather] ∧
    ∀ i g, s.slot i = some g → ∃ l, (State.giveLanes k s).slot i = some { g with lane := l } := by
  induction k generalizing s with
  | zero => exact ⟨.refl s _, fun i g h => ⟨g.lane, h⟩⟩
  | succ k ih =>
    unfold State.giveLanes
    split
    · next n j _ _ _ =>
      split
      · next h hj =>
        generalize hmade : (((s.setSlot j (some { h with lane := some n })).put (DCP_STATUS.STATE n) 1).put (DCP_STATUS.ERR n) 0).put
          (DCP_STATUS.IN_BITS n) 0 = u
        have hputs : Keeps (s.setSlot j (some { h with lane := some n })) u [.regs] :=
          hmade ▸ ((State.put_keeps _ _ _).then (State.put_keeps _ _ _)).then (State.put_keeps _ _ _)
        have hslots : u.gather = (s.setSlot j (some { h with lane := some n })).gather := hputs.2 .gather (by decide)
        obtain ⟨hk, hlane⟩ := ih u
        refine ⟨((s.setSlot_keeps _ _).mono.then hputs).then hk, fun i g hi => ?_⟩
        have hu : ∃ l, u.slot i = some { g with lane := l } := by
          rw [State.slot_congr hslots, State.slot_setSlot hj]
          split
          · next hij =>
            subst hij
            cases hi.symm.trans hj
            exact ⟨_, rfl⟩
          · exact ⟨g.lane, hi⟩
        obtain ⟨l, hl⟩ := hu
        obtain ⟨l', hl'⟩ := hlane i _ hl
        exact ⟨l', hl'⟩
      · exact ⟨.refl s _, fun i g h => ⟨g.lane, h⟩⟩
    · exact ⟨.refl s _, fun i g h => ⟨g.lane, h⟩⟩

theorem exec_leaveGrant_sage {s : State} {w : Leave} {r : List Leave} (hw : s.power.waiting = w :: r)
    (hfit : leaveUsed s.power.grants + w.units ≤ s.f PGV_STATE.EFF) {i : Nat} {g : Ingest} (hwho : w.who = .sage i)
    (hi : s.slot i = some g) : Gives (exec .leaveGrant s) (fun t =>
      (t.slot i).map Ingest.decrypt = some true ∧ (t.slot i).map Ingest.got = some g.got ∧ t.holdsLeave (.sage i) = true ∧
      Keeps s t [.regs, .power, .gather]) := by
  have hgather : (s.granted w r).gather = s.gather := (s.granted_keeps w r).2 .gather (by decide)
  have hslot : (s.granted w r).slot i = some g := (State.slot_congr hgather i).trans hi
  have hset : ((s.granted w r).setSlot i (some { g with decrypt := true })).slot i = some { g with decrypt := true } := by
    rw [State.slot_setSlot hslot, if_pos rfl]
  obtain ⟨hk, hlane⟩ := State.giveLanes_frame 4 ((s.granted w r).setSlot i (some { g with decrypt := true }))
  obtain ⟨l, hl⟩ := hlane i _ hset
  have hall : Keeps (s.granted w r) _ [.regs, .gather] := (State.setSlot_keeps _ i (some { g with decrypt := true })).mono.then hk
  have hstart : (s.granted w r).leaveStart w.who = State.giveLanes 4 ((s.granted w r).setSlot i (some { g with decrypt := true })) := by
    rw [hwho, State.leaveStart, hslot]
  refine ⟨_, (exec_leaveGrant_fits hw hfit).trans (congrArg _ hstart), by rw [hl]; rfl, by rw [hl]; rfl, ?_,
    (s.granted_keeps w r).mono.then hall⟩
  exact (hall.holdsLeave _).trans (hwho ▸ s.granted_holdsLeave w r)

/-! ### Parison's burst (R187) -/

/-- The tables and settings of a stripe are the banks', the beam tables' and the band's half. -/
theorem State.split_congr {s t : State} (hroot : t.root = s.root) (hbeam : t.beam = s.beam) (hglory : t.glory = s.glory) (k : Stripe)
    (half : Nat) : t.split k half = s.split k half := by
  simp only [State.split, State.beamTable, State.genF_congr hroot, hbeam, hglory]

theorem exec_leaveGrant_parison {s : State} {w : Leave} {r : List Leave} (hw : s.power.waiting = w :: r)
    (hfit : leaveUsed s.power.grants + w.units ≤ s.f PGV_STATE.EFF) {k : Stripe} {b : Band} {bs : List Band} {e : Split} {c : Nat × Nat}
    (hwho : w.who = .parison) (hen : s.runs PAR_CTL.ENABLE = true) (hk : s.par.stripe = some k) (hb : s.par.bands = b :: bs)
    (he : e = s.split k b.half) (hc : c = e.bandCols (b.no / max 1 (e.w / 16384))) :
    ∃ g, Keeps s g [.regs, .power, .par] ∧ g.power.waiting = r ∧ g.power.grants = s.power.grants ++ [w] ∧
      g.par = { s.par with burst := min 8 (c.2 - c.1 - s.par.bcol) } ∧ exec .leaveGrant s = .next g.burst := by
  have hg := s.granted_keeps w r
  have hpar : (s.granted w r).par = s.par := hg.2 .par (by decide)
  have hsplit : (s.granted w r).split k b.half = e :=
    (State.split_congr (hg.2 .root (by decide)) (hg.2 .beam (by decide)) (hg.2 .glory (by decide)) k b.half).trans he.symm
  have hburst : (s.granted w r).parisonGranted = { s.granted w r with par := { s.par with
      burst := min 8 (c.2 - c.1 - s.par.bcol) } }.burst := by
    rw [State.parisonGranted, hpar, hk, hb]
    dsimp only
    rw [hsplit, ← hc]
  obtain ⟨hwait, hgrants, -⟩ := s.granted_power w r
  refine ⟨{ s.granted w r with par := { s.par with burst := min 8 (c.2 - c.1 - s.par.bcol) } }, hg.mono.then (keeps_par _ _), hwait,
    hgrants, rfl, ?_⟩
  rw [exec_leaveGrant_fits hw hfit, hwho, ← hburst]
  exact congrArg _ (if_pos ((s.granted_runs w r (by decide)).trans hen))

/-- Settles O30: each outcome of a grant by the state with the grant and what its holder begins there, a return by what it gives up, and
EFF by its three branches. -/
theorem leave : Obligations.Leave := by
  unfold Obligations.Leave
  refine ⟨⟨?_, ?_, ?_, ?_, ?_, ?_, ?_, ?_, ?_, ?_⟩, fun s w r hw hfit => ⟨?_, ?_, ?_, ?_, ?_⟩⟩
  · exact fun s => exec_leaveGrant_none
  · exact fun s w r => exec_leaveGrant_waits
  · intro s w r hw hwho hfit hen
    obtain ⟨hwait, hgrants, -⟩ := s.granted_power w r
    exact ⟨_, exec_leaveGrant_coarse_begins hw hwho ((s.grantable_iff _).mpr (.inl hfit)) hen, hwait, hgrants, s.granted_keeps w r⟩
  · intro s w r hw hwho hnone hover hen
    obtain ⟨hwait, hgrants, -⟩ := s.granted_power w r
    exact ⟨_, exec_leaveGrant_coarse_begins hw hwho ((s.grantable_iff _).mpr (.inr ⟨hover, hnone⟩)) hen, hwait, hgrants,
      State.granted_oversize hover r, s.granted_used w r, s.granted_keeps w r⟩
  · exact fun s w r hw hwho hfit => exec_leaveGrant_coarse_returns hw hwho ((s.grantable_iff _).mpr (.inl hfit))
  · exact fun s k g => exec_leaveReturn_over
  · exact fun s k g => exec_leaveReturn_holds
  · exact fun s temps m => exec_tjSample_max
  · exact exec_pgvBudgetWrite
  · exact fun s tj => ⟨s.setEff_eff, s.effFor_le tj, s.effFloor_toNat ▸ s.le_effFor tj, State.effFor_cool, fun _ => s.effFor_antitone⟩
  · exact fun e k m => exec_leaveGrant_marver hw hfit
  · exact fun h k hwho hen ht hk =>
      ⟨exec_leaveGrant_pixel_empty hw hfit hwho hen ht hk, exec_leaveGrant_pixel_words hw hfit hwho hen ht hk⟩
  · exact fun g => exec_leaveGrant_training hw hfit
  · exact fun i g => exec_leaveGrant_sage hw hfit
  · exact fun k b bs e c => exec_leaveGrant_parison hw hfit

end Sys2Proof.Machine

/-! # Records, tiles and pixel words (O37) -/

namespace Sys2Proof.Machine

open Sys2Proof

/-! ### RECORD_CONSUME (R114 to R123) -/

/-- The slot that holds a tile once its oldest record has been taken from its queue. -/
def MSlot.taken (m : MSlot) (rest : List Trap) : MSlot :=
  { m with queue := rest, consumed := m.consumed + 1, started := true }

/-- The state in which engine e rasterises its slot k. -/
def State.turnedTo (s : State) (e k : Nat) : State := { s with current := s.current.set e k }

/-- The state in which engine e has read slot k's accumulator and counted the pixels of a record (R119, R128). -/
def State.pixelsCounted (s : State) (e k : Nat) (a : Added) : State :=
  (((s.turnedTo e k).grpTouch 11).count MRV_CNT_EDGE.COUNT a.edge).count MRV_CNT_FILL.COUNT a.fill

theorem exec_recordConsume_none {s : State} {e : Fin 32} (hslot : s.rasterSlot e = none) : exec (.recordConsume e) s = .next s := by
  change execRecordConsume e s = _
  simp only [execRecordConsume, hslot]

section

variable {s : State} {e : Fin 32} {k : Nat} {m : MSlot} {r : Trap} {rest : List Trap} (hslot : s.rasterSlot e = some k)
  (hm : s.mslot e k = some m) (hq : m.queue = r :: rest)

include hslot hm hq

/-- A record at the head of the queue, by what becomes of it: consumed alone, refused, or added up. -/
theorem exec_recordConsume_eq :
    exec (.recordConsume e) s =
      if m.discard then .next ((s.turnedTo e k).setMslot e k (some (m.taken rest)))
      else if ¬ r.ok then
        .next (((s.turnedTo e k).setMslot e k (some { m.taken rest with discard := true })).fatal 0x0818 false
          [a8 e, a32 m.seq, a16 m.trow, a32 m.consumed])
      else (bands r m.acc).full.elim
        (.next (((s.pixelsCounted e k (bands r m.acc)).setMslot e k
          (some { m.taken rest with acc := (bands r m.acc).acc })).completeTile e k))
        (fun w => .next (((s.pixelsCounted e k (bands r m.acc)).setMslot e k
          (some { m.taken rest with discard := true, acc := [] })).classOverflow m w r.cls)) := by
  change execRecordConsume e s = _
  simp only [execRecordConsume, hslot, hm, hq, State.pixelsCounted, State.turnedTo, MSlot.taken]
  cases (bands r m.acc).full <;> rfl

theorem exec_recordConsume_discarded (hd : m.discard = true) :
    exec (.recordConsume e) s = .next ((s.turnedTo e k).setMslot e k (some (m.taken rest))) :=
  (exec_recordConsume_eq hslot hm hq).trans (if_pos hd)

variable (hd : m.discard = false)

include hd

theorem exec_recordConsume_refused (hok : r.ok = false) :
    exec (.recordConsume e) s =
      .next (((s.turnedTo e k).setMslot e k (some { m.taken rest with discard := true })).fatal 0x0818 false
        [a8 e, a32 m.seq, a16 m.trow, a32 m.consumed]) := by
  rw [exec_recordConsume_eq hslot hm hq, if_neg (by simp [hd]), if_pos (by simp [hok])]

variable (hok : r.ok = true)

include hok

theorem exec_recordConsume_added (hfull : (bands r m.acc).full = none) :
    exec (.recordConsume e) s =
      .next (((s.pixelsCounted e k (bands r m.acc)).setMslot e k
        (some { m.taken rest with acc := (bands r m.acc).acc })).completeTile e k) := by
  rw [exec_recordConsume_eq hslot hm hq, if_neg (by simp [hd]), if_neg (by simp [hok]), hfull, Option.elim_none]

theorem exec_recordConsume_overflows {w : Nat} (hfull : (bands r m.acc).full = some w) :
    exec (.recordConsume e) s =
      .next (((s.pixelsCounted e k (bands r m.acc)).setMslot e k
        (some { m.taken rest with discard := true, acc := [] })).classOverflow m w r.cls) := by
  rw [exec_recordConsume_eq hslot hm hq, if_neg (by simp [hd]), if_neg (by simp [hok]), hfull, Option.elim_some]

end

/-! ### DISCARD_END and DRAIN_END (R120, R126) -/

/-- A slot is fed as long as a raster walk makes records for it. -/
theorem State.fed_iff (s : State) (e k : Nat) :
    s.fed e k = true ↔ ∃ t, some t ∈ s.blow.walks ∧ t.density = false ∧ t.eng = e ∧ t.slot = k := by
  simp only [State.fed, List.any_eq_true, Option.any_eq_true, Bool.and_eq_true, Bool.not_eq_true', decide_eq_true_eq, and_assoc]
  constructor
  · rintro ⟨_, hv, t, rfl, ht⟩
    exact ⟨t, hv, ht⟩
  · rintro ⟨t, hv, ht⟩
    exact ⟨some t, hv, t, rfl, ht⟩

section

variable {s : State} {e : Fin 32} {k : Fin 2} {m : MSlot} (hm : s.mslot e k = some m)

include hm

theorem exec_discardEnd_eq :
    exec (.discardEnd e k) s =
      if m.discard ∧ s.fed e k = false then .next ((s.setMslot e k none).giveLeave (.marver e k)) else .next s := by
  change execDiscardEnd e k s = _
  simp only [execDiscardEnd, hm]

theorem exec_discardEnd_frees (hd : m.discard = true) (hfed : s.fed e k = false) :
    Gives (exec (.discardEnd e k) s) (fun t => t.mslot e k = none ∧ t.holdsLeave (.marver e k) = false ∧
      Keeps s t [.regs, .mslots, .power]) := by
  have hgive := (s.setMslot e k none).giveLeave_keeps (.marver e k)
  have hslot : ((s.setMslot e k none).giveLeave (.marver e k)).mslot e k = none :=
    (State.mslot_congr (hgive.2 .mslots (by decide)) e k).trans (State.mslot_setMslot hm rfl none)
  exact ⟨_, (exec_discardEnd_eq hm).trans (if_pos ⟨hd, hfed⟩), hslot, State.giveLeave_holdsLeave _ _,
    (s.setMslot_keeps e k none).mono.then hgive⟩

theorem exec_discardEnd_fed (hfed : s.fed e k = true) : exec (.discardEnd e k) s = .next s :=
  (exec_discardEnd_eq hm).trans (if_neg (by simp [hfed]))

theorem exec_discardEnd_kept (hd : m.discard = false) : exec (.discardEnd e k) s = .next s :=
  (exec_discardEnd_eq hm).trans (if_neg (by simp [hd]))

theorem exec_drainEnd_eq :
    exec (.drainEnd e k) s =
      if m.draining ∧ m.word = 65536 then
        .next ((((s.setMslot e k none).giveLeave (.marver e k)).count MRV_CNT_TILE.COUNT 1).tileDone (m.ctx * 2 ^ 32 + m.stripe) m.tcol)
      else .next s := by
  change execDrainEnd e k s = _
  simp only [execDrainEnd, hm]

end

/-! ### The entries of a pixel word (R125) -/

theorem packEntries_lt {es : List Nat} (h : ∀ x ∈ es, x < 2 ^ 32) : packEntries es < 2 ^ (32 * es.length) := by
  induction es with
  | nil => simp [packEntries]
  | cons x es ih =>
    have hx : x < 2 ^ 32 := h x (by simp)
    have hes := ih fun y hy => h y (by simp [hy])
    rw [packEntries, List.length_cons, Nat.mul_succ, Nat.pow_add]
    omega

/-- An entry of a packed word is the one that was packed there, and 0 behind them. -/
theorem wordEntry_packEntries {es : List Nat} (h : ∀ x ∈ es, x < 2 ^ 32) (i : Nat) : wordEntry (packEntries es) i = es.getD i 0 := by
  induction es generalizing i with
  | nil => simp [packEntries, wordEntry, bits]
  | cons x es ih =>
    have hx : x < 2 ^ 32 := h x (by simp)
    cases i with
    | zero =>
      simp only [wordEntry, bits, packEntries, List.getD_cons_zero]
      omega
    | succ i =>
      have hdiv : (x + 2 ^ 32 * packEntries es) / 2 ^ 32 = packEntries es := by omega
      have hes := ih (fun y hy => h y (by simp [hy])) i
      simp only [wordEntry, bits] at hes ⊢
      rw [packEntries, Nat.mul_succ, Nat.add_comm (32 * i), Nat.pow_add, ← Nat.div_div_eq_div_mul, hdiv, hes, List.getD_cons_succ]

/-- The valid entries of a packed word of at most four valid ones are these. -/
theorem takeWhile_valid_packEntries {es : List Nat} (hlen : es.length ≤ 4) (hlt : ∀ x ∈ es, x < 2 ^ 32)
    (hval : ∀ x ∈ es, bit x 31 = true) :
    ((List.range 4).map (wordEntry (packEntries es))).takeWhile (fun x => bit x 31) = es := by
  have hpad : (List.range 4).map (wordEntry (packEntries es)) = es ++ List.replicate (4 - es.length) 0 := by
    refine List.ext_getElem (by simp; omega) fun i _ _ => ?_
    rw [List.getElem_map, List.getElem_range, wordEntry_packEntries hlt, List.getElem_append]
    split
    · next hi => simp [hi]
    · next hi => simp [Nat.le_of_not_lt hi]
  rw [hpad, List.takeWhile_append_of_pos hval]
  simp [bit]

/-- The fields of a number put together as an entry is, with a class of n and flags of a and b. -/
theorem entry_fields {c a b n v : Nat} (hc : c < 4096) (ha : a ≤ 1) (hb : b ≤ 1) (hn : n < 256)
    (hv : v = c + a * 2 ^ 12 + b * 2 ^ 13 + n % 256 * 2 ^ 16 + 2 ^ 31) :
    v < 2 ^ 32 ∧ bit v 31 = true ∧ bits v 16 8 = n ∧ bits v 0 12 = c ∧ bit v 12 = decide (a = 1) ∧ bit v 13 = decide (b = 1) := by
  simp only [bit, bits, decide_eq_true_eq, decide_eq_decide]
  omega

theorem b2n_le_one (p : Bool) : b2n p ≤ 1 := by cases p <;> decide

theorem decide_b2n_eq_one (p : Bool) : decide (b2n p = 1) = p := by cases p <;> rfl

/-- An entry shows its class, its coverage and its two flags, and is valid (R125). -/
theorem pixelEntry_fields (th : Nat) (x : Nat × Nat) (h : x.1 < 256) :
    pixelEntry th x < 2 ^ 32 ∧ bit (pixelEntry th x) 31 = true ∧ bits (pixelEntry th x) 16 8 = x.1 ∧
    bits (pixelEntry th x) 0 12 = min 4095 (rawCover x.2) ∧ bit (pixelEntry th x) 12 = decide (4095 < rawCover x.2) ∧
    bit (pixelEntry th x) 13 = decide (1048576 + th < x.2) := by
  have hfields := entry_fields (Nat.lt_succ_of_le (Nat.min_le_left 4095 (rawCover x.2))) (b2n_le_one (decide (4095 < rawCover x.2)))
    (b2n_le_one (decide (1048576 + th < x.2))) h (v := pixelEntry th x) (by rw [pixelEntry])
  rwa [decide_b2n_eq_one, decide_b2n_eq_one] at hfields

theorem countP_map_filter {α β : Type} {f : α → β} {p : β → Bool} {q r : α → Bool} {l : List α}
    (h : ∀ x ∈ l, (p (f x) = true ∧ q x = true) ↔ r x = true) : ((l.filter q).map f).countP p = l.countP r := by
  rw [List.countP_map, List.countP_filter]
  exact List.countP_congr fun x hx => (Bool.and_eq_true _ _).to_iff.trans (h x hx)

section

variable (th : Nat) {l : List (Nat × Nat)} (hlen : l.length ≤ 4) (hcls : ∀ x ∈ l, x.1 < 256)

include hcls

theorem class_lt_of_covered {x : Nat × Nat} (hx : x ∈ l.filter (fun x => decide (0 < rawCover x.2))) : x.1 < 256 :=
  hcls x (List.mem_filter.mp hx).1

include hlen

theorem pixelWord_lt : pixelWord th l < 2 ^ 128 := by
  have hpack := packEntries_lt (es := (l.filter (fun x => decide (0 < rawCover x.2))).map (pixelEntry th)) (by
    simp only [List.forall_mem_map]
    exact fun x hx => (pixelEntry_fields th x (class_lt_of_covered hcls hx)).1)
  have hcov := List.length_filter_le (fun x : Nat × Nat => decide (0 < rawCover x.2)) l
  rw [List.length_map] at hpack
  exact hpack.trans_le (Nat.pow_le_pow_right (by decide) (by omega))

/-- The valid entries of a pixel word are the entries of its covered classes. -/
theorem takeWhile_valid_pixelWord :
    ((List.range 4).map (wordEntry (pixelWord th l))).takeWhile (fun x => bit x 31) =
      (l.filter (fun x => decide (0 < rawCover x.2))).map (pixelEntry th) := by
  have hcov := List.length_filter_le (fun x : Nat × Nat => decide (0 < rawCover x.2)) l
  refine takeWhile_valid_packEntries (by rw [List.length_map]; omega) ?_ ?_ <;> simp only [List.forall_mem_map]
  · exact fun x hx => (pixelEntry_fields th x (class_lt_of_covered hcls hx)).1
  · exact fun x hx => (pixelEntry_fields th x (class_lt_of_covered hcls hx)).2.1

theorem validEntries_pixelWord :
    validEntries (pixelWord th l) =
      (l.filter (fun x => decide (0 < rawCover x.2))).map (fun x => (x.1, min 4095 (rawCover x.2))) := by
  rw [validEntries, takeWhile_valid_pixelWord th hlen hcls, List.map_map]
  refine List.map_congr_left fun x hx => ?_
  obtain ⟨-, -, hclass, hcover, -, -⟩ := pixelEntry_fields th x (class_lt_of_covered hcls hx)
  exact Prod.ext hclass hcover

/-- A flag that no class without coverage has is counted over all classes. -/
theorem flaggedEntries_pixelWord {n : Nat} {p : Nat × Nat → Bool} (hflag : ∀ x, x.1 < 256 → bit (pixelEntry th x) n = p x)
    (hcover : ∀ x, p x = true → 0 < rawCover x.2) : flaggedEntries (pixelWord th l) n = l.countP p := by
  rw [flaggedEntries, takeWhile_valid_pixelWord th hlen hcls]
  refine countP_map_filter fun x hx => ?_
  rw [hflag x (hcls x hx), decide_eq_true_eq]
  exact and_iff_left_of_imp (hcover x)

theorem flaggedEntries_clamped : flaggedEntries (pixelWord th l) 12 = l.countP (fun x => decide (4095 < rawCover x.2)) := by
  refine flaggedEntries_pixelWord th hlen hcls (fun x h => ?_) fun x h => ?_
  · obtain ⟨-, -, -, -, hclamped, -⟩ := pixelEntry_fields th x h
    exact hclamped
  · have hfull := of_decide_eq_true h
    omega

theorem flaggedEntries_over : flaggedEntries (pixelWord th l) 13 = l.countP (fun x => decide (1048576 + th < x.2)) := by
  refine flaggedEntries_pixelWord th hlen hcls (fun x h => ?_) fun x h => ?_
  · obtain ⟨-, -, -, -, -, hover⟩ := pixelEntry_fields th x h
    exact hover
  · have hsum := of_decide_eq_true h
    unfold rawCover
    omega

end

/-- Settles O37: a record by what becomes of it, the two ends of a slot by their conditions, and a pixel word by the fields of its
entries. -/
theorem rasteriser : Obligations.Rasteriser := by
  unfold Obligations.Rasteriser
  refine ⟨fun s e k m r rest hslot hm hq => ⟨?_, ?_, ?_, ?_⟩, fun s e => exec_recordConsume_none,
    fun s e k m hm => ⟨?_, ?_, ?_, ?_, ?_⟩, fun th l hlen hcls => ⟨pixelWord_lt th hlen hcls, validEntries_pixelWord th hlen hcls,
      flaggedEntries_clamped th hlen hcls, flaggedEntries_over th hlen hcls⟩⟩
  · exact exec_recordConsume_discarded hslot hm hq
  · exact exec_recordConsume_added hslot hm hq
  · exact fun w hd hok => exec_recordConsume_overflows hslot hm hq hd hok
  · exact exec_recordConsume_refused hslot hm hq
  · intro hd hwalks
    refine exec_discardEnd_frees hm hd (Bool.eq_false_iff.mpr fun hfed => ?_)
    obtain ⟨t, ht, hdens, hto⟩ := (s.fed_iff e k).mp hfed
    exact hwalks _ ht t rfl hdens hto
  · exact fun t ht hdens heng hto => exec_discardEnd_fed hm ((s.fed_iff e k).mpr ⟨t, ht, hdens, heng, hto⟩)
  · exact exec_discardEnd_kept hm
  · exact fun hdrain hword => (exec_drainEnd_eq hm).trans (if_pos ⟨hdrain, hword⟩)
  · exact fun hword => (exec_drainEnd_eq hm).trans (if_neg fun h => hword h.2)

end Sys2Proof.Machine

/-! # The fill of the beam table and the map checks (O39) -/

namespace Sys2Proof.Machine

open Sys2Proof

set_option Elab.async false

/-! ### Numbers and fields -/

theorem b2n_mod_two (p : Bool) : b2n p % 2 = b2n p := by cases p <;> rfl

theorem bit_zero_of_odd {v : Nat} (h : v % 2 = 1) : bit v 0 = true := by simp [bit, h]

/-- A signed number of 16 bits is what its field reads as. -/
theorem sgn_ofInt {t : Int} (hlo : -32768 ≤ t) (hhi : t ≤ 32767) : sgn 16 (ofInt 16 t % 2 ^ 16) = t := by
  have hn : ((t % ((2 ^ 16 : Nat) : Int)).toNat : Int) = t % 65536 := Int.toNat_of_nonneg (Int.emod_nonneg _ (by decide))
  generalize hu : (t % ((2 ^ 16 : Nat) : Int)).toNat = u at hn
  have hlt : u < 2 ^ 16 := by omega
  rw [ofInt, hu, sgn, Nat.mod_mod, Nat.mod_eq_of_lt hlt]
  split <;> omega

theorem sgn_bounds (v : Nat) : -32768 ≤ sgn 16 v ∧ sgn 16 v ≤ 32767 := by
  simp only [sgn]
  split <;> omega

theorem interp_zero (a b : Int) : interp 0 a b = a := if_pos rfl

theorem interp_self (f : Nat) (a : Int) : interp f a a = a := by
  unfold interp
  split
  · rfl
  · rw [← Int.mul_add, Int.sub_add_cancel, Int.mul_comm]
    exact rne_mul (by decide)

/-! ### Frames -/

theorem State.grpTouch_keeps (s : State) (g : Nat) : Keeps s (s.grpTouch g) [.mem] := keeps_mem s _

theorem keeps_beam_freeCount (s : State) (b : Beam) (n : Nat) : Keeps s { s with beam := b, freeCount := n } [.beam, .freeCount] :=
  .of_same rfl fun p => by cases p <;> simp [Part.same]

theorem keeps_beam_freeCount_root (s : State) (b : Beam) (n : Nat) (r : Root) :
    Keeps s { s with beam := b, freeCount := n, root := r } [.beam, .freeCount, .root] :=
  .of_same rfl fun p => by cases p <;> simp [Part.same]

theorem State.fillReads_notes (s : State) (j : FillJob) : Notes s (s.fillReads j) := by
  have h := (s.noteRead_notes (s.mapAddr j.bank 0) (2 * mib)).then (State.noteRead_notes _ (s.setAddr j.lo 0) (2 * mib))
  exact .ite _ h (h.then (State.noteRead_notes _ _ _))

theorem State.cellUe_notes (s : State) (a : Nat) : Notes s (s.cellUe a) :=
  (s.noteUe_notes (s.hbmGroup_lt a) _).then (.event _ _ _ _)

theorem State.noteCell_notes (s : State) (a : Nat) : Notes s (s.noteCell a) := .ite _ (s.cellUe_notes a) (s.noteWord_notes _)

theorem State.noteCells_notes (s : State) (a n : Nat) : Notes s (s.noteCells a n) := .foldl State.noteCell_notes _ s

/-! ### The table that a fill leaves (R155, R157, R158, R178) -/

/-- What a keyed list made of some numbers' entries lists at a key. -/
theorem mget_filterMap {α : Type} {f : Nat → Option (Nat × α)} (hf : ∀ a x, f a = some x → x.1 = a) (l : List Nat) (b : Nat) :
    mget (l.filterMap f) b = if b ∈ l then (f b).map Prod.snd else none := by
  induction l with
  | nil => rfl
  | cons a l ih =>
    rw [List.filterMap_cons]
    cases ha : f a with
    | none =>
      rw [ih]
      by_cases hab : b = a
      · simp [hab, ha]
      · simp [hab]
    | some x =>
      obtain ⟨k, v⟩ := x
      obtain rfl : k = a := hf a _ ha
      by_cases hab : b = k
      · simp [mget, hab, ha]
      · simp [mget, hab, Ne.symm hab, ih]

/-- The entry of a beam under a fill (R157). -/
def State.filledEntry (s : State) (j : FillJob) (b : Nat) : BeamEntry :=
  let m := mapEntry (s.tableWord (s.mapAddr j.bank b))
  let lo := setEntry (s.tableWord (s.setAddr j.lo b))
  let hi := setEntry (s.tableWord (s.setAddr j.hi b))
  { yb := m.yb, x0 := m.x0, pass := m.pass, status := m.status, dx := interp j.f lo.dx hi.dx, dy := interp j.f lo.dy hi.dy,
    gain := (interp j.f lo.gain hi.gain).toNat }

theorem State.activeEntry_eq (s : State) (j : FillJob) (b : Nat) :
    s.activeEntry j b = if s.filledEntry j b = { yb := 0, x0 := 0, pass := 0, status := 0, dx := 0, dy := 0, gain := 0 } then none
      else some (b, s.filledEntry j b) := rfl

theorem BeamBank.entry_activeEntries {t : BeamBank} {s : State} {j : FillJob}
    (ht : t.entries = (List.range beams).filterMap (s.activeEntry j)) {b : Nat} (hb : b < beams) : t.entry b = s.filledEntry j b := by
  have hkey : ∀ a x, s.activeEntry j a = some x → x.1 = a := by
    intro a x h
    rw [State.activeEntry_eq] at h
    split at h
    · exact nomatch h
    · exact (Option.some.inj h) ▸ rfl
  rw [BeamBank.entry, ht, mget_filterMap hkey, if_pos (List.mem_range.mpr hb), State.activeEntry_eq]
  split
  · next h => exact h.symm
  · rfl

/-- The sets that a fill reads. -/
def FillJob.slots (j : FillJob) : List Nat := if j.f = 0 then [j.lo] else [j.lo, j.hi]

/-- Whether a fill reads its tables: LOG2N and the selection have passed. -/
def FillJob.reads (j : FillJob) : Bool := decide (j.log2n ≤ 5) && !j.selBad

/-- The cause and the beam with which a fill ends. -/
def State.fillCause (s : State) (j : FillJob) : Nat × Nat := s.validate j.log2n j.bank j.slots j.selBad

def State.filledTable (s : State) (j : FillJob) : BeamBank :=
  { gen := j.gen, filled := true, cause := (s.fillCause j).1, beam := (s.fillCause j).2,
    entries := if (s.fillCause j).1 = 0 then (List.range beams).filterMap (s.activeEntry j) else [],
    lagGroup := s.splitGroup j.bank, bad := if j.reads then s.fillBad j else none }

/-- What a fill reads has been noted, and the registers show its end. -/
def State.fillShown (s : State) (j : FillJob) : State :=
  (((((if j.reads then s.fillReads j else s).put BMP_STATUS.FILL_BUSY 0).put BMP_STATUS.FILL_ERR
    (b2n (decide ((s.fillCause j).1 ≠ 0)))).put BMP_CHECK_RESULT.CAUSE (s.fillCause j).1).put
      BMP_CHECK_RESULT.BEAM (s.fillCause j).2).flag BMP_CHECK_RESULT.DONE

def State.fillEnded (s : State) (j : FillJob) : State :=
  let s1 := s.fillShown j
  ({ s1 with beam := { s1.beam with fill := none, stagedT := s.filledTable j }, freeCount := s1.freeCount + 1,
             root := { s1.root with tableCleared := false } }.grpTouch 8).pulse 5

theorem exec_fillDone {s : State} {j : FillJob} (h : s.beam.fill = some j) : exec .fillDone s = .next (s.fillEnded j) := by
  simp only [exec, execFillDone, h]
  rfl

theorem State.filledTable_lagGroup (s : State) (j : FillJob) : (s.filledTable j).lagGroup = s.splitGroup j.bank := by
  rw [State.filledTable]

theorem State.fillShown_keeps (s : State) (j : FillJob) : Keeps s (s.fillShown j) [.regs, .journal, .mem] :=
  ((((((Notes.ite _ (s.fillReads_notes j) (.refl s)).1.then (State.put_keeps _ _ _)).then (State.put_keeps _ _ _)).then
    (State.put_keeps _ _ _)).then (State.put_keeps _ _ _)).then (State.flag_keeps _ _))

theorem State.fillEnded_keeps (s : State) (j : FillJob) :
    Keeps s (s.fillEnded j) [.regs, .beam, .freeCount, .root, .mem, .gaf, .journal] :=
  .then (.then (.then (s.fillShown_keeps j).mono (keeps_beam_freeCount_root _ _ _ _)) (State.grpTouch_keeps _ 8)) (State.pulse_keeps _ 5)

theorem State.fillEnded_beam (s : State) (j : FillJob) :
    (s.fillEnded j).beam = { s.beam with fill := none, stagedT := s.filledTable j } := by
  refine ((State.pulse_keeps _ 5).2 .beam (by decide)).trans ?_
  have hb : (s.fillShown j).beam = s.beam := (s.fillShown_keeps j).2 .beam (by decide)
  exact congrArg (fun b : Beam => { b with fill := none, stagedT := s.filledTable j }) hb

theorem State.fillEnded_f (s : State) (j : FillJob) : (s.fillEnded j).f BMP_STATUS.FILL_BUSY = 0 ∧
    (s.fillEnded j).f BMP_STATUS.FILL_ERR = b2n (decide ((s.fillCause j).1 ≠ 0)) := by
  have hf {x : Fld} (hc : x.key ≠ GAF_CNT_EVMERGE.COUNT.key) (hm : x.key ≠ GAF_STATUS.EV_MERGE.key) :
      (s.fillEnded j).f x = (s.fillShown j).f x := State.pulse_f _ 5 hc hm
  rw [hf (by decide) (by decide), hf (by decide) (by decide)]
  simp (disch := decide) only [State.fillShown, State.flag, State.f_put_same, State.f_put_other]
  exact ⟨rfl, b2n_mod_two _⟩

/-! ### Map checks (R158, R160) -/

theorem exec_bmpCheck_starts {s : State} {v : Word} (hv : v.toNat % 2 = 1) (hidle : s.f BMP_STATUS.CHECK_BUSY ≠ 1) :
    Gives (exec (.bmpCheck v) s) (fun t => t.f BMP_STATUS.CHECK_BUSY = 1 ∧ t.f BMP_CHECK_RESULT.DONE = 0 ∧
      t.beam = { s.beam with chkBank := some (v.toNat / 2 % 2) } ∧ Keeps s t [.regs, .beam]) := by
  have hoff : ¬ s.on BMP_STATUS.CHECK_BUSY = true := by simpa [State.on] using hidle
  have hexec : exec (.bmpCheck v) s = .next (s.bmpCheckWrite v.toNat) := if_pos (bit_zero_of_odd hv)
  rw [State.bmpCheckWrite, if_neg hoff, if_pos (bit_zero_of_odd hv)] at hexec
  generalize hu : (s.put BMP_CHECK.BANK (bits v.toNat 1 1)).flag BMP_STATUS.CHECK_BUSY = u at hexec
  have hbusy : u.f BMP_STATUS.CHECK_BUSY = 1 := hu ▸ State.f_put_same _ _ 1
  have hk : Keeps s u [.regs] := hu ▸ .then (s.put_keeps _ _) (State.flag_keeps _ _)
  exact ⟨_, hexec, (u.f_put_other (x := BMP_CHECK_RESULT.DONE) 0 (by decide)).trans hbusy, u.f_put_same BMP_CHECK_RESULT.DONE 0, rfl,
    (hk.mono.then (State.put_keeps _ _ _)).then (keeps_beam _ _)⟩

theorem exec_bmpCheck_busy {s : State} {v : Word} (hv : v.toNat % 2 = 1) (hbusy : s.f BMP_STATUS.CHECK_BUSY = 1) :
    Gives (exec (.bmpCheck v) s) (fun t => t.beam = s.beam ∧ Keeps s t [.regs]) := by
  have hexec : exec (.bmpCheck v) s = .next (s.bmpCheckWrite v.toNat) := if_pos (bit_zero_of_odd hv)
  rw [State.bmpCheckWrite, if_pos (by simp [State.on, hbusy])] at hexec
  exact ⟨_, hexec, rfl, s.put_keeps _ _⟩

/-- The sets that a map check reads. -/
def State.checkSlots (s : State) : List Nat := (List.range (min 8 (s.f BMP_SEL.SETS))).map (fun k => s.f (BMP_SET.SLOT k))

/-- The cause and the beam with which a map check ends. -/
def State.checkCause (s : State) (bank : Nat) : Nat × Nat := s.validate (s.f BMP_GEOM.LOG2N) bank s.checkSlots (selBad s.f)

/-- The registers show the end of a map check, with its dead rows and its MIN_OK. -/
def State.checkShown (s : State) (bank dead least : Nat) : State :=
  (((((s.put BMP_STATUS.CHECK_BUSY 0).put BMP_CHECK_RESULT.CAUSE (s.checkCause bank).1).put BMP_CHECK_RESULT.BEAM (s.checkCause bank).2).flag
    BMP_CHECK_RESULT.DONE).put BMP_CHECK_ROWS.DEAD_ROWS dead).put BMP_CHECK_ROWS.MIN_OK least

/-- What a map check has read is noted. -/
def State.checkRead (u s : State) (bank : Nat) : State :=
  (if s.f BMP_GEOM.LOG2N ≤ 5 ∧ selBad s.f = false then s.checkSlots else []).foldl
    (fun (t : State) k => t.noteCells (s.setAddr k 0) (2 * mib)) (u.noteCells (s.mapAddr bank 0) (2 * mib))

def State.checkEnded (s : State) (bank dead least : Nat) : State :=
  let s2 := (s.checkShown bank dead least).checkRead s bank
  { s2 with beam := { s2.beam with chkBank := none }, freeCount := s2.freeCount + 1 }.pulse 6

theorem exec_checkDone {s : State} {bank : Nat} (h : s.beam.chkBank = some bank) :
    ∃ dead least, exec .checkDone s = .next (s.checkEnded bank dead least) := by
  simp only [exec, execCheckDone, h]
  exact ⟨_, _, rfl⟩

section

variable (s : State) (bank dead least : Nat)

theorem State.checkShown_keeps : Keeps s (s.checkShown bank dead least) [.regs] :=
  (((((s.put_keeps _ _).then (State.put_keeps _ _ _)).then (State.put_keeps _ _ _)).then (State.flag_keeps _ _)).then
    (State.put_keeps _ _ _)).then (State.put_keeps _ _ _)

theorem State.checkRead_notes (u : State) : Notes u (u.checkRead s bank) :=
  (u.noteCells_notes _ _).then (.foldl (fun t _ => t.noteCells_notes _ _) _ _)

theorem State.checkEnded_keeps : Keeps s (s.checkEnded bank dead least) [.regs, .beam, .freeCount, .gaf, .mem, .journal] :=
  .then (.then (.then (s.checkShown_keeps bank dead least).mono (State.checkRead_notes s bank _).1) (keeps_beam_freeCount _ _ _))
    (State.pulse_keeps _ 6)

theorem State.checkEnded_beam : (s.checkEnded bank dead least).beam = { s.beam with chkBank := none } := by
  refine ((State.pulse_keeps _ 6).2 .beam (by decide)).trans ?_
  have hb : ((s.checkShown bank dead least).checkRead s bank).beam = s.beam := (State.checkRead_notes s bank _).1.2 .beam (by decide)
  exact congrArg (fun b : Beam => { b with chkBank := none }) hb

theorem State.checkEnded_f : (s.checkEnded bank dead least).f BMP_STATUS.CHECK_BUSY = 0 ∧
    (s.checkEnded bank dead least).f BMP_CHECK_RESULT.DONE = 1 ∧
    (s.checkEnded bank dead least).f BMP_CHECK_RESULT.CAUSE = (s.checkCause bank).1 % 2 ^ BMP_CHECK_RESULT.CAUSE.w := by
  have hf {x : Fld} (ha : x.addr < 0x1000000) (hl : x.lo < 64) (hc : x.key ≠ GAF_CNT_EVMERGE.COUNT.key)
      (hm : x.key ≠ GAF_STATUS.EV_MERGE.key) : (s.checkEnded bank dead least).f x = (s.checkShown bank dead least).f x :=
    (State.pulse_f _ 6 hc hm).trans ((State.checkRead_notes s bank _).2 x ha hl)
  rw [hf (by decide) (by decide) (by decide) (by decide), hf (by decide) (by decide) (by decide) (by decide),
    hf (by decide) (by decide) (by decide) (by decide)]
  simp (disch := decide) only [State.checkShown, State.flag, State.f_put_same, State.f_put_other]
  exact ⟨rfl, rfl, trivial⟩

end

theorem State.validate_geometry (s : State) {lg : Nat} (h : 5 < lg) (bank : Nat) (slots : List Nat) (sel : Bool) :
    s.validate lg bank slots sel = (1, 0) := if_pos h

theorem State.validate_selection (s : State) {lg : Nat} (h : lg ≤ 5) (bank : Nat) (slots : List Nat) :
    s.validate lg bank slots true = (2, 0) := (if_neg (Nat.not_lt.mpr h)).trans (if_pos rfl)

/-! ### The temperature of a commit (R154) -/

/-- The T that a commit takes: that of the last report before its tick, else the first set's. -/
def State.commitTemp (s : State) : Int :=
  match s.lastTemp with
  | some (v, _) => v
  | none => sgn 16 (s.stg (BMP_SET.TEMP 0))

theorem State.startFill_temp (s : State) (gen : Nat) : (s.startFill gen).f BMP_GEN_TEMP.T = ofInt 16 s.commitTemp % 2 ^ 16 := by
  unfold State.startFill
  extract_lets rd n t0 age t stale s1 bad out s2 kf lo hi s3 s4
  have ht : (s2.puts BMP_GEN_TEMP.T t).f BMP_GEN_TEMP.T = ofInt 16 s.commitTemp % 2 ^ 16 := s2.f_put_same _ _
  refine Eq.trans ?_ ht
  change s4.f BMP_GEN_TEMP.T = _
  simp (disch := decide) only [s4, s3, State.flag, State.f_put_other]

theorem State.lastTemp_earlier {s : State} {r : Nat} (h : s.beam.tempTick = some r) (hr : r ≠ s.mono100) :
    s.lastTemp = some (s.fs BMP_TEMP_NOW.T, r) := by
  simp only [State.lastTemp, h, if_neg hr]

theorem State.lastTemp_same {s : State} (h : s.beam.tempTick = some s.mono100) : s.lastTemp = s.beam.prevTemp := by
  simp only [State.lastTemp, h, if_true]

theorem State.startFill_takes {s : State} {t : Int} {q : Nat} (h : s.lastTemp = some (t, q)) (hlo : -32768 ≤ t) (hhi : t ≤ 32767)
    (gen : Nat) : (s.startFill gen).fs BMP_GEN_TEMP.T = t := by
  have ht : s.commitTemp = t := by rw [State.commitTemp, h]
  rw [State.fs, State.startFill_temp, ht]
  exact sgn_ofInt hlo hhi

/-- Settles O39: a fill and a map check by the states in which they end, the T of a commit by the last report. -/
theorem beamTables : Obligations.BeamTables := by
  unfold Obligations.BeamTables
  refine ⟨fun s j hj => ⟨_, exec_fillDone hj, ?_⟩, fun s hj => ?_, fun s v hv => ⟨exec_bmpCheck_starts hv, exec_bmpCheck_busy hv⟩,
    fun s bank hb => ?_, fun s hb => ?_,
    fun s lg bank slots sel => ⟨fun h => s.validate_geometry h _ _ _, fun h => s.validate_selection h _ _⟩,
    fun s gen r hr => ⟨fun hne => ?_, fun t q he hp hlo hhi => ?_⟩, fun a b f => ⟨interp_zero a b, interp_self f a⟩⟩
  · obtain ⟨hbusy, herr⟩ := s.fillEnded_f j
    rw [s.fillEnded_beam j]
    refine ⟨rfl, rfl, rfl, rfl, s.filledTable_lagGroup j, fun hc b hb m lo hi hm hlo hhi => ?_, hbusy, herr, rfl, s.fillEnded_keeps j⟩
    subst hm hlo hhi
    exact BeamBank.entry_activeEntries (if_pos hc) hb
  · simp only [exec, execFillDone, hj]
  · obtain ⟨dead, least, hexec⟩ := exec_checkDone hb
    obtain ⟨hbusy, hdone, hcause⟩ := s.checkEnded_f bank dead least
    exact ⟨_, hexec, s.checkEnded_beam bank dead least, hbusy, hdone, hcause, s.checkEnded_keeps bank dead least⟩
  · simp only [exec, execCheckDone, hb]
  · obtain ⟨hlo, hhi⟩ := sgn_bounds (s.f BMP_TEMP_NOW.T)
    exact State.startFill_takes (State.lastTemp_earlier hr hne) hlo hhi gen
  · subst he
    exact State.startFill_takes ((State.lastTemp_same hr).trans hp) hlo hhi gen

end Sys2Proof.Machine

/-! # Return messages (R215, R216) -/

namespace Sys2Proof.Machine

open Sys2Proof

set_option Elab.async false

/-! ### Packed numbers -/

theorem packBits_lt (w : Nat) (l : List Nat) : packBits w l < 2 ^ (w * l.length) := by
  induction l with
  | nil => exact Nat.one_pos
  | cons v r ih =>
    have hv : v % 2 ^ w < 2 ^ w := Nat.mod_lt _ (Nat.two_pow_pos w)
    calc packBits w (v :: r) < 2 ^ w + 2 ^ w * packBits w r := Nat.add_lt_add_right hv _
      _ = 2 ^ w * (packBits w r + 1) := by ring
      _ ≤ 2 ^ w * 2 ^ (w * r.length) := Nat.mul_le_mul_left _ ih
      _ = 2 ^ (w * (r.length + 1)) := by rw [← Nat.pow_add, Nat.mul_succ, Nat.add_comm]

/-- The packed numbers from the nth on. -/
theorem packBits_div (w : Nat) (l : List Nat) (n : Nat) : packBits w l / 2 ^ (w * n) = packBits w (l.drop n) := by
  induction n generalizing l with
  | zero => simp
  | succ n ih =>
    cases l with
    | nil => simp [packBits]
    | cons v r =>
      have hv : v % 2 ^ w < 2 ^ w := Nat.mod_lt _ (Nat.two_pow_pos w)
      rw [Nat.mul_succ, Nat.add_comm, Nat.pow_add, ← Nat.div_div_eq_div_mul, packBits, Nat.add_mul_div_left _ _ (Nat.two_pow_pos w),
        Nat.div_eq_of_lt hv, Nat.zero_add, ih]
      rfl

/-! ### The blocks of a message -/

theorem crcBits_lt {p : Nat} (hp : p < 2 ^ 32) (n : Nat) {c : Nat} (hc : c < 2 ^ 32) : crcBits p n c < 2 ^ 32 := by
  induction n generalizing c with
  | zero => exact hc
  | succ n ih =>
    refine ih (c := crcBit p c) ?_
    have hhalf : c / 2 < 2 ^ 32 := by omega
    unfold crcBit
    split
    · exact Nat.xor_lt_two_pow hhalf hp
    · exact hhalf

theorem crc32c_lt (l : List Byte) : crc32c l < 2 ^ 32 := by
  have hbyte (c : Nat) (b : Byte) (hc : c < 2 ^ 32) : crcByte 0x82F63B78 c b < 2 ^ 32 :=
    crcBits_lt (by decide) 8 (Nat.xor_lt_two_pow hc (by have := b.isLt; omega))
  have hfold : ∀ (l : List Byte) (c : Nat), c < 2 ^ 32 → l.foldl (crcByte 0x82F63B78) c < 2 ^ 32 := by
    intro l
    induction l with
    | nil => exact fun c hc => hc
    | cons b l ih => exact fun c hc => ih _ (hbyte c b hc)
  exact Nat.xor_lt_two_pow (hfold l _ (by decide)) (by decide)

/-- A message whose fields fit is read from its blocks. -/
theorem readReturn_blocks {m : RetMsg} (htype : 1 ≤ m.mtype ∧ m.mtype ≤ 5) (halive : m.alive < 256) (haf : m.af < 2 ^ 40)
    (hbody : m.body < 2 ^ 128) : readReturn m.blocks = some m := by
  obtain ⟨mtype, alive, af, body⟩ := m
  dsimp only at htype halive haf hbody
  simp only [RetMsg.blocks, readReturn]
  generalize hh : RetMsg.header { mtype := mtype, alive := alive, af := af, body := body } = h
  have hval : h = 45 + mtype * 2 ^ 8 + alive * 2 ^ 16 + af * 2 ^ 24 := by
    simp only [← hh, RetMsg.header, retHeaderType]
    omega
  have hcrc := crc32c_lt (toLE 8 h ++ toLE 8 (body % 2 ^ 64) ++ toLE 8 (body / 2 ^ 64 % 2 ^ 64))
  rw [← retCrc] at hcrc
  generalize retCrc h (body % 2 ^ 64) (body / 2 ^ 64 % 2 ^ 64) = c at hcrc
  have hc : bits (retTrailerType + c * 2 ^ 32) 32 32 = c := by simp only [bits, retTrailerType]; omega
  have h8 : bits h 8 4 = mtype := by simp only [bits]; omega
  have h16 : bits h 16 8 = alive := by simp only [bits]; omega
  have h24 : bits h 24 40 = af := by simp only [bits]; omega
  have hb : body % 2 ^ 64 + body / 2 ^ 64 % 2 ^ 64 * 2 ^ 64 = body := by omega
  rw [hc, h8, h16, h24, hb, if_pos ⟨rfl, htype⟩]

theorem isReturn_blocks (m : RetMsg) : isReturn m.blocks = true := by
  refine Bool.and_eq_true_iff.mpr ⟨decide_eq_true ?_, decide_eq_true ?_⟩
  · simp only [RetMsg.header, retHeaderType]
    omega
  · simp only [retTrailerType]
    omega

/-! ### A message arrives (R192, R215) -/

theorem State.listens_iff (s : State) (g : Nat) : s.listens g = true ↔
    s.runs PUN_CTL.ENABLE = true ∧ (s.ret g).lock = true ∧ s.laneState (64 + g) ≠ 7 := by
  simp [State.listens, and_assoc]

/-- A message with a new ALIVE is taken. -/
theorem State.receive_new {s : State} {g : Nat} {m : RetMsg} (h : Hears s g m.alive) (hm : readReturn m.blocks = some m) :
    s.receive g m.blocks = (heard s g m.alive).takeMessage g m := by
  obtain ⟨hrun, hlock, htest, hnew⟩ := h
  have hl : s.listens g = true := (s.listens_iff g).mpr ⟨hrun, hlock, htest⟩
  have hread : s.readMessage g m.blocks = some m := by
    rw [State.readMessage, hm]
    exact if_neg hnew
  rw [State.receive, hl, isReturn_blocks, hread]
  rfl

/-- A message with the ALIVE of the one before it is discarded. -/
theorem State.receive_repeated {s : State} {g : Nat} {m : RetMsg} (h : HeardBefore s g m.alive) (hm : readReturn m.blocks = some m) :
    s.receive g m.blocks = discarded s := by
  obtain ⟨hrun, hlock, htest, hold⟩ := h
  have hl : s.listens g = true := (s.listens_iff g).mpr ⟨hrun, hlock, htest⟩
  have hread : s.readMessage g m.blocks = none := by
    rw [State.readMessage, hm]
    exact if_pos hold
  rw [State.receive, hl, isReturn_blocks, hread]
  rfl

/-! ### CC_RESULT (R216, R219) -/

section

variable {alive first : Nat} {results : List (Nat × Nat)} (hlen : results.length ≤ 5)
  (hres : ∀ r ∈ results, r.1 < 4096 ∧ r.2 < 4096)

include hlen

theorem readReturn_ccMsg (halive : alive < 256) : readReturn (ccMsg alive first results).blocks = some (ccMsg alive first results) := by
  refine readReturn_blocks (by simp [ccMsg]) halive ?_ ?_
  · simp only [ccMsg]
    omega
  · refine (packBits_lt _ _).trans_le (Nat.pow_le_pow_right (by decide) ?_)
    rw [List.length_map, List.length_take]
    omega

include hres

/-- The result of beam `first` + n in a message. -/
theorem ccMsg_result {n : Nat} (hn : n < results.length) :
    (bits (ccMsg alive first results).body (24 * n) 12, bits (ccMsg alive first results).body (24 * n + 12) 12) = results[n] := by
  obtain ⟨hr, hl⟩ := hres results[n] (List.getElem_mem hn)
  have hdrop : (ccMsg alive first results).body / 2 ^ (24 * n) =
      (results[n].1 % 4096 + results[n].2 % 4096 * 2 ^ 12) % 2 ^ 24 +
        2 ^ 24 * packBits 24 ((results.drop (n + 1)).map (fun r => r.1 % 4096 + r.2 % 4096 * 2 ^ 12)) := by
    rw [ccMsg, List.take_of_length_le hlen, packBits_div, ← List.map_drop, List.drop_eq_getElem_cons hn]
    rfl
  refine Prod.ext ?_ ?_
  · simp only [bits, hdrop]
    omega
  · simp only [bits, Nat.pow_add, ← Nat.div_div_eq_div_mul, hdrop]
    omega

theorem State.takeMessage_ccMsg (hfirst : first < 262144) (t : State) (g : Nat) :
    t.takeMessage g (ccMsg alive first results) = t.cellResults g results first := by
  have hcount : min 5 (bits (ccMsg alive first results).af 18 3) = results.length := by
    simp only [ccMsg, bits]
    omega
  have hbeam : bits (ccMsg alive first results).af 0 18 = first := by
    simp only [ccMsg, bits]
    omega
  have hlist : (List.range results.length).map (fun n => (bits (ccMsg alive first results).body (24 * n) 12,
      bits (ccMsg alive first results).body (24 * n + 12) 12)) = results := by
    refine List.ext_getElem (by simp) fun n hn hn' => ?_
    rw [List.getElem_map, List.getElem_range]
    exact ccMsg_result hlen hres hn'
  have htake : t.takeMessage g (ccMsg alive first results) = State.cellResults g
      ((List.range (min 5 (bits (ccMsg alive first results).af 18 3))).map (fun n => (bits (ccMsg alive first results).body (24 * n) 12,
        bits (ccMsg alive first results).body (24 * n + 12) 12))) (bits (ccMsg alive first results).af 0 18) t := rfl
  rw [htake, hcount, hbeam, hlist]

end

theorem exec_ccResult {results : List (Nat × Nat)} (hpos : 1 ≤ results.length) (hlen : results.length ≤ 5) (s : State) (g : Fin 8)
    (alive first : Nat) : exec (.ccResult g alive first results) s = .next (s.receive g (ccMsg alive first results).blocks) := by
  refine if_neg ?_
  rw [List.isEmpty_iff_length_eq_zero]
  omega

end Sys2Proof.Machine

/-! # Memory read back as it is written (R12) -/

namespace Sys2Proof.Machine

open Sys2Proof

set_option Elab.async false

theorem toLE_length (n v : Nat) : (toLE n v).length = n := by
  induction n generalizing v with
  | zero => rfl
  | succ n ih => exact congrArg (· + 1) (ih (v / 256))

theorem ofLE_toLE (n v : Nat) : ofLE (toLE n v) = v % 256 ^ n := by
  induction n generalizing v with
  | zero => exact (Nat.mod_one v).symm
  | succ n ih =>
    have hsplit : v % 256 ^ (n + 1) = v % 256 + 256 * (v / 256 % 256 ^ n) := by rw [Nat.pow_succ', Nat.mod_mul]
    rw [toLE, ofLE, ih, hsplit, BitVec.toNat_ofNat]

theorem ofLE_lt (l : List Byte) : ofLE l < 256 ^ l.length := by
  induction l with
  | nil => exact Nat.one_pos
  | cons b l ih =>
    have := b.isLt
    rw [ofLE, List.length_cons, Nat.pow_succ']
    omega

theorem rdBytes_length (m : List Host.Cell) (a n : Nat) : (rdBytes m a n).length = n := by
  induction n generalizing a with
  | zero => rfl
  | succ n ih => exact congrArg (· + 1) (ih (a + 1))

/-- A range of memory is its bytes. -/
theorem rdBytes_congr {m m' : List Host.Cell} {a n : Nat} (h : ∀ k, a ≤ k → k < a + n → rdByte m k = rdByte m' k) :
    rdBytes m a n = rdBytes m' a n := by
  induction n generalizing a with
  | zero => rfl
  | succ n ih => rw [rdBytes, rdBytes, h a (Nat.le_refl a) (by omega), ih fun k hk hk' => h k (by omega) (by omega)]

theorem rdBytes_wrBytes_same (l : List Byte) (m : List Host.Cell) (a : Nat) : rdBytes (wrBytes m a l) a l.length = l := by
  induction l generalizing m a with
  | nil => rfl
  | cons v r ih =>
    have hhead : rdByte (wrBytes (wrByte m a v) (a + 1) r) a = v :=
      (rdByte_wrBytes_other r _ (.inl (Nat.lt_succ_self a))).trans (rdByte_wrByte_same m a v)
    rw [wrBytes, List.length_cons, rdBytes, hhead, ih]

theorem rdLE_wrBytes_other {l : List Byte} (m : List Host.Cell) {a b n : Nat} (h : b + n ≤ a ∨ a + l.length ≤ b) :
    rdLE (wrBytes m a l) b n = rdLE m b n :=
  congrArg ofLE (rdBytes_congr fun _ hk hk' => rdByte_wrBytes_other l m (by omega))

theorem rdLE_wrBytes_same (m : List Host.Cell) (a n v : Nat) : rdLE (wrBytes m a (toLE n v)) a n = v % 256 ^ n := by
  have h := rdBytes_wrBytes_same (toLE n v) m a
  rw [toLE_length] at h
  rw [rdLE, h, ofLE_toLE]

theorem rdLE_lt (m : List Host.Cell) (a n : Nat) : rdLE m a n < 256 ^ n := by
  simpa only [rdLE, rdBytes_length] using ofLE_lt (rdBytes m a n)

/-- An address that no cell lists reads 0. -/
theorem rdByte_unlisted {m : List Host.Cell} {k : Nat} (h : ∀ c ∈ m, c.1 ≠ k) : rdByte m k = 0 := by
  induction m with
  | nil => rfl
  | cons c r ih => exact (if_neg (h c List.mem_cons_self)).trans (ih fun d hd => h d (List.mem_cons_of_mem _ hd))

theorem State.hbmClear_rdByte (s : State) {a n k : Nat} (hlo : a ≤ k) (hhi : k < a + n) : rdByte (s.hbmClear a n).mem.hbm k = 0 := by
  refine rdByte_unlisted fun c hc => ?_
  have hout := (List.mem_filter.mp hc).2
  simp only [Bool.or_eq_true, decide_eq_true_eq] at hout
  omega

end Sys2Proof.Machine

/-! # The idle cell check (O40) -/

namespace Sys2Proof.Machine

open Sys2Proof

set_option Elab.async false

/-! ### The request on the plane lanes (R163, R212, R218) -/

theorem State.hbmClear_link (s : State) (a n : Nat) : (s.hbmClear a n).link = s.link := rfl

theorem State.hbmClear_laneState (s : State) (a n l : Nat) : (s.hbmClear a n).laneState l = s.laneState l := rfl

theorem State.pln_modPln_same {s : State} {l : Nat} (h : l < s.link.lanes.length) (f : PLane → PLane) :
    (s.modPln l f).pln l = f (s.pln l) := by
  simp [State.pln, State.modPln, lmod, h]

theorem State.pln_modPln_other (s : State) {l k : Nat} (h : k ≠ l) (f : PLane → PLane) : (s.modPln l f).pln k = s.pln k := by
  unfold State.pln State.modPln lmod
  split
  · simp [Ne.symm h]
  · rfl

theorem State.modPln_modPln (s : State) (l : Nat) (f g : PLane → PLane) :
    (s.modPln l f).modPln l g = s.modPln l (fun p => g (f p)) := by
  simp only [State.modPln, lmod]
  cases h : s.link.lanes[l]? with
  | none => simp [h]
  | some a => simp [(List.getElem?_eq_some_iff.mp h).1]

theorem State.modPln_length (s : State) (l : Nat) (f : PLane → PLane) : (s.modPln l f).link.lanes.length = s.link.lanes.length := by
  unfold State.modPln lmod
  split
  · exact List.length_set
  · rfl

/-- What a request on the lanes changes: the lanes, what is sent, and that memory has been written; not the bytes of HBM. -/
def Requests (s t : State) : Prop :=
  Keeps s t [.mem, .link, .out] ∧ t.mem.hbm = s.mem.hbm ∧ t.link.lanes.length = s.link.lanes.length

theorem Requests.refl (s : State) : Requests s s := ⟨.refl s _, rfl, rfl⟩

theorem Requests.then {s t u : State} (h : Requests s t) (g : Requests t u) : Requests s u := by
  obtain ⟨hk, hm, hl⟩ := h
  obtain ⟨hk', hm', hl'⟩ := g
  exact ⟨hk.then hk', hm'.trans hm, hl'.trans hl⟩

theorem State.modPln_requests (s : State) (l : Nat) (f : PLane → PLane) : Requests s (s.modPln l f) :=
  ⟨(keeps_link s _).mono, rfl, s.modPln_length l f⟩

/-- The cell-check request of a lane, unanswered (R218). -/
def requestSent : FrameSent := { flash := 0, plane := 0, ftype := 1, first := false, ver := false }

/-- A frame that carries no plane takes no keystream: what its leaving changes. -/
theorem State.sendFrame_plain (s : State) {f : FrameSent} (hf : f.ftype ≠ 0) (l gen : Nat) (replay : Bool) (data : List Word) :
    ∃ (a b : Output) (q : PLane → PLane), s.sendFrame l gen f replay data = (((s.grpTouch 13).send a).send b).modPln l q ∧
      ∀ p, (q p).out = p.out ++ [f] := by
  have hks : s.ksOf gen f.ftype = (false, 0) := by simp [State.ksOf, hf]
  unfold State.sendFrame
  rw [hks]
  exact ⟨_, _, _, rfl, fun _ => rfl⟩

/-- A request frame leaves: its lane has it unanswered. -/
theorem State.requestFrame_eq (s : State) (l : Nat) : ∃ (u : State) (q : PLane → PLane), s.requestFrame l = u.modPln l q ∧
    Requests s u ∧ u.link = s.link ∧ ∀ p, (q p).out = p.out ++ [requestSent] := by
  obtain ⟨a, b, q, hq, hout⟩ := s.sendFrame_plain (f := requestSent) (by decide) l 0 false
    (BitVec.ofNat 64 (1 + s.beam.ccNumber % 256 * 256) :: List.replicate 63 0)
  refine ⟨((s.grpTouch 13).send a).send b, _, (congrArg (fun t => State.modPln t l _) hq).trans (State.modPln_modPln _ l q _),
    ⟨((s.grpTouch_keeps 13).mono.then (State.send_keeps _ a)).then (State.send_keeps _ b), rfl, rfl⟩, rfl, hout⟩

theorem State.pln_congr {s t : State} (h : t.link = s.link) (l : Nat) : t.pln l = s.pln l := by
  simp only [State.pln, h]

theorem State.requestOn_requests (s : State) (l : Nat) : Requests s (s.requestOn l) := by
  obtain ⟨u, q, hq, hu, -⟩ := s.requestFrame_eq l
  unfold State.requestOn
  extract_lets p
  split
  · exact .refl s
  · split
    · exact s.modPln_requests l _
    · exact hq ▸ hu.then (u.modPln_requests l q)

theorem State.requestOn_pln_other (s : State) {l k : Nat} (h : k ≠ l) : (s.requestOn l).pln k = s.pln k := by
  obtain ⟨u, q, hq, -, hu, -⟩ := s.requestFrame_eq l
  unfold State.requestOn
  extract_lets p
  split
  · rfl
  · split
    · exact s.pln_modPln_other h _
    · rw [hq, u.pln_modPln_other h, State.pln_congr hu]

section

variable {s : State} {l : Nat}

theorem State.requestOn_notReady (h : s.laneState l ≠ 5) : s.requestOn l = s := if_pos h

theorem State.requestOn_full (h : s.laneState l = 5) (hout : 4 ≤ (s.pln l).out.length) :
    s.requestOn l = s.modPln l (fun q => { q with ccDue := true }) := (if_neg (not_not_intro h)).trans (if_pos (.inl hout))

theorem State.requestOn_sends (h : s.laneState l = 5) (hout : (s.pln l).out.length < 4) (hrep : (s.pln l).replay = []) :
    s.requestOn l = s.requestFrame l :=
  (if_neg (not_not_intro h)).trans (if_neg fun hor => hor.elim (Nat.not_le.mpr hout) fun hne => hne hrep)

end

/-- Requests on lanes of a list. -/
def State.requestAll (s : State) (ls : List Nat) : State := ls.foldl State.requestOn s

theorem State.requestAll_requests (s : State) (ls : List Nat) : Requests s (s.requestAll ls) := by
  induction ls generalizing s with
  | nil => exact .refl s
  | cons l ls ih => exact (s.requestOn_requests l).then (ih _)

theorem State.requestAll_pln_other (s : State) {ls : List Nat} {l : Nat} (h : l ∉ ls) : (s.requestAll ls).pln l = s.pln l := by
  induction ls generalizing s with
  | nil => rfl
  | cons k ls ih =>
    obtain ⟨hk, hls⟩ := List.ne_and_not_mem_of_not_mem_cons h
    exact (ih (s.requestOn k) hls).trans (s.requestOn_pln_other hk)

/-- A lane of the list meets its request as it was: what comes before changes other lanes alone, and what follows leaves it. -/
theorem State.requestAll_pln (s : State) {ls : List Nat} (hn : ls.Nodup) {l : Nat} (hl : l ∈ ls) :
    ∃ u, Requests s u ∧ u.pln l = s.pln l ∧ (s.requestAll ls).pln l = (u.requestOn l).pln l := by
  obtain ⟨before, after, rfl⟩ := List.append_of_mem hl
  obtain ⟨-, hafter, hdisj⟩ := List.nodup_append.mp hn
  have hb : l ∉ before := fun h => hdisj l h l List.mem_cons_self rfl
  refine ⟨s.requestAll before, s.requestAll_requests before, s.requestAll_pln_other hb, ?_⟩
  have hsplit : s.requestAll (before ++ l :: after) = ((s.requestAll before).requestOn l).requestAll after := List.foldl_append
  rw [hsplit, State.requestAll_pln_other _ (List.nodup_cons.mp hafter).1]

/-- The lanes of a list after their requests. -/
theorem State.requestAll_lane (s : State) {ls : List Nat} (hn : ls.Nodup) {l : Nat} (hl : l ∈ ls) (hlen : l < s.link.lanes.length) :
    (s.laneState l ≠ 5 → (s.requestAll ls).pln l = s.pln l) ∧
    (s.laneState l = 5 → 4 ≤ (s.pln l).out.length → (s.requestAll ls).pln l = { s.pln l with ccDue := true }) ∧
    (s.laneState l = 5 → (s.pln l).out.length < 4 → (s.pln l).replay = [] →
      ((s.requestAll ls).pln l).out = (s.pln l).out ++ [requestSent]) := by
  obtain ⟨u, ⟨hk, -, hulen⟩, hp, hlane⟩ := s.requestAll_pln hn hl
  have hstate : u.laneState l = s.laneState l := hk.f_eq _
  rw [hlane, ← hp, ← hstate]
  rw [← hulen] at hlen
  refine ⟨fun h => ?_, fun h hout => ?_, fun h hout hrep => ?_⟩
  · rw [State.requestOn_notReady h]
  · rw [State.requestOn_full h hout, State.pln_modPln_same hlen]
  · obtain ⟨v, q, hq, -, hv, hqout⟩ := u.requestFrame_eq l
    rw [State.requestOn_sends h hout hrep, hq, State.pln_modPln_same (hv ▸ hlen), hqout, State.pln_congr hv]

/-- The request has left. -/
def State.answersAwaited (s : State) : State := { s with beam := { s.beam with ccSent := true } }

/-- The result table is cleared and the request leaves on the lanes. -/
def State.requested (s : State) : State := ((s.hbmClear (s.resAddr 0) (2 * mib)).requestAll (List.range 64)).answersAwaited

theorem State.answersAwaited_beam (s : State) : s.answersAwaited.beam = { s.beam with ccSent := true } := rfl

theorem State.answersAwaited_mem (s : State) : s.answersAwaited.mem = s.mem := rfl

theorem State.answersAwaited_pln (s : State) (l : Nat) : s.answersAwaited.pln l = s.pln l := rfl

theorem exec_cellCheckRequest {s : State} (h : s.f BMP_CC_STATUS.STATE = 1) (hs : s.beam.ccSent = false) :
    exec .cellCheckRequest s = .next s.requested := by
  rw [exec, execCellCheckRequest, if_pos ⟨h, hs⟩, State.requested, State.requestAll]
  rfl

theorem State.requested_beam (s : State) : s.requested.beam = { s.beam with ccSent := true } := by
  obtain ⟨hk, -⟩ := (s.hbmClear (s.resAddr 0) (2 * mib)).requestAll_requests (List.range 64)
  have hb : ((s.hbmClear (s.resAddr 0) (2 * mib)).requestAll (List.range 64)).beam = s.beam := hk.2 .beam (by decide)
  rw [State.requested, State.answersAwaited_beam, hb]

theorem State.requested_keeps (s : State) : Keeps s s.requested [.beam, .mem, .link, .out] :=
  .then (.then (.mono (keeps_mem s _)) (State.requestAll_requests _ _).1) (keeps_beam _ _)

theorem State.requested_lane {s : State} {l : Nat} (hl : l < 64) (hlen : s.link.lanes.length = 64) :
    (s.laneState l ≠ 5 → s.requested.pln l = s.pln l) ∧
    (s.laneState l = 5 → 4 ≤ (s.pln l).out.length → s.requested.pln l = { s.pln l with ccDue := true }) ∧
    (s.laneState l = 5 → (s.pln l).out.length < 4 → (s.pln l).replay = [] →
      (s.requested.pln l).out = (s.pln l).out ++ [requestSent]) := by
  have hlt : l < (s.hbmClear (s.resAddr 0) (2 * mib)).link.lanes.length := by rwa [State.hbmClear_link, hlen]
  have h := State.requestAll_lane _ List.nodup_range (List.mem_range.mpr hl) hlt
  rw [State.hbmClear_laneState, State.pln_congr (s.hbmClear_link _ _)] at h
  rwa [State.requested, State.answersAwaited_pln]

/-- The result table has been cleared. -/
theorem State.requested_results (s : State) {b k : Nat} (hb : b < 262144) (hk : k < 8) :
    rdByte s.requested.mem.hbm (s.resAddr b + k) = 0 := by
  obtain ⟨-, hm, -⟩ := (s.hbmClear (s.resAddr 0) (2 * mib)).requestAll_requests (List.range 64)
  rw [State.requested, State.answersAwaited_mem, hm]
  refine s.hbmClear_rdByte ?_ ?_
  · simp only [State.resAddr]
    omega
  · simp only [State.resAddr, mib]
    omega

/-! ### Results (R163, R219) -/

/-- Results that come before the request are ignored. -/
theorem State.cellResults_unasked {s : State} {g : Nat} (hsent : s.beam.ccSent = false) (hgot : s.beam.ccGot < 262144)
    (results : List (Nat × Nat)) (b : Nat) (hin : ∀ i, i < results.length → (b + i) / 32768 = g ∧ b + i < beams) :
    s.cellResults g results b = s := by
  induction results generalizing b with
  | nil => rfl
  | cons r rest ih =>
    obtain ⟨hsector, hb⟩ := hin 0 (Nat.succ_pos _)
    have hunsent : ¬ (s.f BMP_CC_STATUS.STATE = 1 ∧ s.beam.ccSent = true) := fun h => Bool.noConfusion (hsent.symm.trans h.2)
    have hunfinished : ¬ (s.f BMP_CC_STATUS.STATE = 1 ∧ s.beam.ccGot = beams) := fun h => Nat.ne_of_lt hgot h.2
    rw [State.cellResults, if_pos (show b / 32768 = g ∧ b < beams from ⟨hsector, hb⟩), if_neg hunsent, if_neg hunfinished]
    refine ih (b + 1) fun i hi => ?_
    have := hin (i + 1) (Nat.succ_lt_succ hi)
    rwa [Nat.add_right_comm, Nat.add_assoc]

/-! ### The check ends (R163) -/

theorem State.putResult_keeps (s : State) (b r l : Nat) (valid rlo rhi leak miss : Bool) (cur prop : Nat) :
    Keeps s (s.putResult b r l valid rlo rhi leak miss cur prop) [.regs, .mem] := by
  unfold State.putResult
  extract_lets chg v s1 s2 s3
  have h1 : Keeps s s1 [.regs, .mem] := (s.hbmWrite_keeps _ _).mono
  have h2 : Keeps s s2 [.regs, .mem] := .ite _ (h1.then (State.put_keeps _ _ _)) h1
  have h3 : Keeps s s3 [.regs, .mem] := .ite _ (h2.then (State.put_keeps _ _ _)) h2
  exact .ite _ (h3.then (State.put_keeps _ _ _)) h3

theorem State.missCell_keeps (s : State) (b : Nat) : Keeps s (s.missCell b) [.regs, .mem] := s.putResult_keeps _ _ _ _ _ _ _ _ _ _

theorem State.noteSrc_notes (s : State) (b : Nat) : Notes s (s.noteSrc b) := s.noteCell_notes _

theorem State.missRest_keeps (s : State) : Keeps s s.missRest [.regs, .journal, .mem] := by
  rw [State.missRest]
  exact .foldl (fun t b => .ite _ (.refl t _) ((t.noteSrc_notes b).1.then (State.missCell_keeps _ b))) _ s

/-- The registers and the beam-map unit show the end of a check, with a copy running or not. -/
def CheckOver (t : State) (copies : Bool) : Prop :=
  t.f BMP_CC_STATUS.STATE = 2 ∧ t.f BMP_STATUS.CC_BUSY = b2n copies ∧ t.beam.ccCheck = true

theorem CheckOver.freeCount {t : State} {copies : Bool} (h : CheckOver t copies) (n : Nat) : CheckOver { t with freeCount := n } copies := h

theorem State.endCellCheck_over (s : State) : CheckOver s.endCellCheck s.beam.ccAccept.isSome := by
  have hf {x : Fld} (ha : x.addr < 0x1400100) (hl : x.lo < 64) (hc : x.key ≠ GAF_CNT_EVMERGE.COUNT.key)
      (hm : x.key ≠ GAF_STATUS.EV_MERGE.key) : s.endCellCheck.f x =
      ((s.put BMP_CC_STATUS.STATE 2).put BMP_STATUS.CC_BUSY (b2n s.beam.ccAccept.isSome)).f x := by
    unfold State.endCellCheck
    extract_lets s1
    exact (State.pulse_f _ 7 hc hm).trans (s1.event_f_other ha hl _ _ _)
  unfold CheckOver
  rw [hf (by decide) (by decide) (by decide) (by decide), hf (by decide) (by decide) (by decide) (by decide)]
  simp (disch := decide) only [State.f_put_same, State.f_put_other]
  exact ⟨rfl, b2n_mod_two _, congrArg Beam.ccCheck ((State.pulse_keeps _ 7).2 .beam (by decide))⟩

theorem exec_cellCheckTimeout_eq {s : State} (h : s.f BMP_CC_STATUS.STATE = 1) (hs : s.beam.ccSent = true) :
    exec .cellCheckTimeout s = .next { s.missRest.endCellCheck with freeCount := s.missRest.freeCount + 1 } := by
  rw [exec, execCellCheckTimeout, if_pos ⟨h, hs⟩]

theorem exec_cellCheckTimeout_ends {s : State} (h : s.f BMP_CC_STATUS.STATE = 1) (hs : s.beam.ccSent = true) :
    Gives (exec .cellCheckTimeout s) (fun t => CheckOver t s.beam.ccAccept.isSome) := by
  have hbeam : s.missRest.beam = s.beam := s.missRest_keeps.2 .beam (by decide)
  have hover := s.missRest.endCellCheck_over
  rw [hbeam] at hover
  exact ⟨_, exec_cellCheckTimeout_eq h hs, hover.freeCount _⟩

/-! ### CC_ACCEPT (R166) -/

/-- DST and the TAKE bits of a write of BMP_CC_ACCEPT. -/
def State.acceptFields (s : State) (v : Nat) : State :=
  (((s.put BMP_CC_ACCEPT.DST (bits v 1 1)).put BMP_CC_ACCEPT.TAKE_EXCL (bits v 2 1)).put
    BMP_CC_ACCEPT.TAKE_STUCK (bits v 3 1)).put BMP_CC_ACCEPT.TAKE_RESTORE (bits v 4 1)

theorem State.acceptFields_keeps (s : State) (v : Nat) : Keeps s (s.acceptFields v) [.regs] :=
  (((s.put_keeps _ _).then (State.put_keeps _ _ _)).then (State.put_keeps _ _ _)).then (State.put_keeps _ _ _)

/-- A write with START while no copy runs. -/
theorem exec_ccAccept_eq {s : State} {v : Word} (hv : v.toNat % 2 = 1) (hfree : s.beam.ccAccept = none) :
    exec (.ccAccept v) s = .next (
      if s.liveMap (v.toNat / 2 % 2) then (s.acceptFields v.toNat).put BMP_CC_ACCEPT.ERR 1
      else if ¬ s.beam.ccCheck then (s.acceptFields v.toNat).put BMP_CC_ACCEPT.ERR 2
      else if s.f BMP_CC_STATUS.STATE = 1 then (s.acceptFields v.toNat).put BMP_CC_ACCEPT.ERR 3
      else
        let s2 := (((s.acceptFields v.toNat).put BMP_CC_ACCEPT.ERR 0).put BMP_CC_ACCEPT.DONE 0).flag BMP_STATUS.CC_BUSY
        { s2 with beam := { s2.beam with ccCheck := false, ccAccept := some (s.f BMP_CC_STATUS.SRC_BANK, v.toNat / 2 % 2) } }) := by
  have hstart : ¬ (¬ bit v.toNat 0 = true ∨ s.beam.ccAccept.isSome = true) := by simp [bit_zero_of_odd hv, hfree]
  exact (if_pos (bit_zero_of_odd hv)).trans (congrArg Host.Outcome.next (if_neg hstart))

/-- A START refused with a code. -/
theorem exec_ccAccept_refused {s : State} {v : Word} {e : Nat}
    (he : exec (.ccAccept v) s = .next ((s.acceptFields v.toNat).put BMP_CC_ACCEPT.ERR e)) :
    Gives (exec (.ccAccept v) s) (fun t => t.f BMP_CC_ACCEPT.ERR = e % 8 ∧ Keeps s t [.regs]) :=
  ⟨_, he, State.f_put_same _ _ _, (s.acceptFields_keeps _).then (State.put_keeps _ _ _)⟩

section

variable {s : State} {v : Word} (hv : v.toNat % 2 = 1) (hfree : s.beam.ccAccept = none)

include hv hfree

theorem exec_ccAccept_live (hlive : s.liveMap (v.toNat / 2 % 2) = true) :
    Gives (exec (.ccAccept v) s) (fun t => t.f BMP_CC_ACCEPT.ERR = 1 ∧ Keeps s t [.regs]) := by
  refine exec_ccAccept_refused (e := 1) ((exec_ccAccept_eq hv hfree).trans ?_)
  rw [if_pos hlive]

theorem exec_ccAccept_none (hlive : s.liveMap (v.toNat / 2 % 2) = false) (hcheck : s.beam.ccCheck = false) :
    Gives (exec (.ccAccept v) s) (fun t => t.f BMP_CC_ACCEPT.ERR = 2 ∧ Keeps s t [.regs]) := by
  refine exec_ccAccept_refused (e := 2) ((exec_ccAccept_eq hv hfree).trans ?_)
  rw [if_neg (by simp [hlive]), if_pos (by simp [hcheck])]

theorem exec_ccAccept_runs (hlive : s.liveMap (v.toNat / 2 % 2) = false) (hcheck : s.beam.ccCheck = true)
    (hrun : s.f BMP_CC_STATUS.STATE = 1) :
    Gives (exec (.ccAccept v) s) (fun t => t.f BMP_CC_ACCEPT.ERR = 3 ∧ Keeps s t [.regs]) := by
  refine exec_ccAccept_refused (e := 3) ((exec_ccAccept_eq hv hfree).trans ?_)
  rw [if_neg (by simp [hlive]), if_neg (by simp [hcheck]), if_pos hrun]

theorem exec_ccAccept_starts (hlive : s.liveMap (v.toNat / 2 % 2) = false) (hcheck : s.beam.ccCheck = true)
    (hrun : s.f BMP_CC_STATUS.STATE ≠ 1) : Gives (exec (.ccAccept v) s) (fun t =>
      t.f BMP_CC_ACCEPT.ERR = 0 ∧ t.f BMP_STATUS.CC_BUSY = 1 ∧
      t.beam = { s.beam with ccCheck := false, ccAccept := some (s.f BMP_CC_STATUS.SRC_BANK, v.toNat / 2 % 2) } ∧
      Keeps s t [.regs, .beam]) := by
  have hexec := exec_ccAccept_eq hv hfree
  rw [if_neg (by simp [hlive]), if_neg (by simp [hcheck]), if_neg hrun] at hexec
  generalize hu : (((s.acceptFields v.toNat).put BMP_CC_ACCEPT.ERR 0).put BMP_CC_ACCEPT.DONE 0).flag BMP_STATUS.CC_BUSY = u at hexec
  have hk : Keeps s u [.regs] :=
    hu ▸ (((s.acceptFields_keeps _).then (State.put_keeps _ _ _)).then (State.put_keeps _ _ _)).then (State.flag_keeps _ _)
  have herr : u.f BMP_CC_ACCEPT.ERR = 0 := by
    simp (disch := decide) only [← hu, State.flag, State.f_put_same, State.f_put_other]
    rfl
  have hbusy : u.f BMP_STATUS.CC_BUSY = 1 := hu ▸ State.f_put_same _ _ 1
  have hbeam : u.beam = s.beam := hk.2 .beam (by decide)
  exact ⟨_, hexec, herr, hbusy, congrArg (fun b : Beam =>
    { b with ccCheck := false, ccAccept := some (s.f BMP_CC_STATUS.SRC_BANK, v.toNat / 2 % 2) }) hbeam, hk.mono.then (keeps_beam _ _)⟩

end

/-! ### The copy (R166) -/

/-- The copy's entry of a beam is written behind what its reads report. -/
def State.acceptOne (s : State) (src dst b : Nat) : State :=
  ((s.noteCell (s.mapAddr src b)).noteCell (s.resAddr b)).hbmWrite (s.mapAddr dst b)
    (toLE 8 (s.accepted (s.hbmLE (s.mapAddr src b) 8) (s.hbmLE (s.resAddr b) 8)))

theorem State.acceptOne_notes (s : State) (src dst b : Nat) : Notes s (s.acceptOne src dst b) :=
  ((s.noteCell_notes _).then (State.noteCell_notes _ _)).then (.mem _ _)

theorem State.acceptCopy_notes (src dst n b : Nat) (s : State) : Notes s (State.acceptCopy src dst n b s).1 := by
  induction n generalizing b s with
  | zero => exact .refl s
  | succ n ih =>
    unfold State.acceptCopy
    split
    · exact .refl s
    · split
      · exact .refl s
      · exact (s.acceptOne_notes src dst b).then (ih _ _)

/-- No word of HBM is in error. -/
def State.hbmClean (s : State) : Prop := s.mem.checks = [] ∧ s.mem.poison = []

theorem State.hbmChecked_clean {s : State} (h : s.hbmClean) (a : Nat) : s.hbmChecked a = .good := by
  obtain ⟨hc, hp⟩ := h
  simp [State.hbmChecked, hc, hp, mget]

theorem State.noteCell_clean {s : State} (h : s.hbmClean) (a : Nat) : s.noteCell a = s := by
  rw [State.noteCell, State.hbmChecked_clean h, if_neg (by decide), State.noteWord, State.hbmChecked_clean h]

theorem State.hbmLE_clean {s : State} (h : s.hbmClean) (a n : Nat) : s.hbmLE a n = rdLE s.mem.hbm a n := by
  rw [State.hbmLE, State.hbmRead, h.1]
  rfl

theorem State.hbmWrite_clean {s : State} (h : s.hbmClean) (a : Nat) (l : List Byte) : (s.hbmWrite a l).hbmClean := by
  obtain ⟨hc, hp⟩ := h
  simp [State.hbmClean, State.hbmWrite, hc, hp]

/-- The copy of an entry keeps its 64 bits. -/
theorem State.accepted_lt (s : State) {m : Nat} (hm : m < 2 ^ 64) (res : Nat) : s.accepted m res < 2 ^ 64 := by
  unfold State.accepted
  extract_lets prop take
  have hprop : prop < 4 := Nat.mod_lt _ (by decide)
  split
  · simp only [bits]
    omega
  · exact hm

theorem State.acceptOne_clean {s : State} (h : s.hbmClean) (src dst b : Nat) : s.acceptOne src dst b =
    s.hbmWrite (s.mapAddr dst b) (toLE 8 (s.accepted (rdLE s.mem.hbm (s.mapAddr src b) 8) (rdLE s.mem.hbm (s.resAddr b) 8))) := by
  rw [State.acceptOne, State.noteCell_clean h, State.noteCell_clean h, State.hbmLE_clean h, State.hbmLE_clean h]

section

variable {s : State} {src dst b : Nat} (h : s.hbmClean)

include h

theorem State.acceptOne_same : rdLE (s.acceptOne src dst b).mem.hbm (s.mapAddr dst b) 8 =
    s.accepted (rdLE s.mem.hbm (s.mapAddr src b) 8) (rdLE s.mem.hbm (s.resAddr b) 8) := by
  rw [State.acceptOne_clean h]
  exact (rdLE_wrBytes_same _ _ 8 _).trans (Nat.mod_eq_of_lt (s.accepted_lt (rdLE_lt _ _ 8) _))

theorem State.acceptOne_other {a : Nat} (ha : a + 8 ≤ s.mapAddr dst b ∨ s.mapAddr dst b + 8 ≤ a) :
    rdLE (s.acceptOne src dst b).mem.hbm a 8 = rdLE s.mem.hbm a 8 := by
  rw [State.acceptOne_clean h]
  exact rdLE_wrBytes_other _ (by rwa [toLE_length])

theorem State.acceptOne_reads : (∀ k c, (s.acceptOne src dst b).mapAddr k c = s.mapAddr k c) ∧
    (∀ c, (s.acceptOne src dst b).resAddr c = s.resAddr c) ∧ ∀ m r, (s.acceptOne src dst b).accepted m r = s.accepted m r := by
  rw [State.acceptOne_clean h]
  exact ⟨fun _ _ => rfl, fun _ => rfl, fun _ _ => rfl⟩

theorem State.acceptCopy_step (n : Nat) :
    State.acceptCopy src dst (n + 1) b s = State.acceptCopy src dst n (b + 1) (s.acceptOne src dst b) := by
  rw [State.acceptCopy, State.hbmChecked_clean h, State.hbmChecked_clean h]
  rfl

end

/-- The copy of n beams from b on meets no error, and writes each beam's entry from its own word of the source bank and its result:
both lie outside the bank that it writes. -/
theorem State.acceptCopy_clean {src dst : Nat} (hdst : dst < 2) (hne : src ≠ dst) (n : Nat) {b : Nat} {s : State}
    (h : s.hbmClean) (hn : b + n ≤ 262144) : (State.acceptCopy src dst n b s).2 = none ∧ ∀ c, c < 262144 →
      rdLE (State.acceptCopy src dst n b s).1.mem.hbm (s.mapAddr dst c) 8 =
        if b ≤ c ∧ c < b + n then s.accepted (rdLE s.mem.hbm (s.mapAddr src c) 8) (rdLE s.mem.hbm (s.resAddr c) 8)
        else rdLE s.mem.hbm (s.mapAddr dst c) 8 := by
  induction n generalizing b s with
  | zero => exact ⟨rfl, fun c _ => (if_neg (by omega)).symm⟩
  | succ n ih =>
    have hclean : (s.acceptOne src dst b).hbmClean := by
      rw [State.acceptOne_clean h]
      exact State.hbmWrite_clean h _ _
    obtain ⟨haddr, hres, hacc⟩ := State.acceptOne_reads h (src := src) (dst := dst) (b := b)
    obtain ⟨hnone, hrest⟩ := ih hclean (b := b + 1) (by omega)
    rw [State.acceptCopy_step h]
    refine ⟨hnone, fun c hc => ?_⟩
    have hc' := hrest c hc
    rw [haddr, haddr, hres, hacc] at hc'
    rw [hc', State.acceptOne_other h (a := s.mapAddr src c) (by simp only [State.mapAddr, mib]; omega),
      State.acceptOne_other h (a := s.resAddr c) (by simp only [State.resAddr, State.mapAddr, mib]; omega)]
    by_cases hcb : c = b
    · subst hcb
      rw [if_neg (by omega), if_pos (by omega), State.acceptOne_same h]
    · rw [State.acceptOne_other h (a := s.mapAddr dst c) (by simp only [State.mapAddr]; omega)]
      exact if_congr (by omega) rfl rfl

/-- The registers show the end of a copy, and its error. -/
def State.acceptShown (s : State) (bad : Option Nat) : State :=
  let s2 := match bad with
    | some a => (s.cellUe a).put BMP_CC_ACCEPT.ERR 4
    | none => s
  (s2.flag BMP_CC_ACCEPT.DONE).put BMP_STATUS.CC_BUSY (b2n (decide (s2.f BMP_CC_STATUS.STATE = 1)))

def State.acceptEnded (s : State) (src dst : Nat) : State :=
  let s3 := (State.acceptCopy src dst beams 0 s).1.acceptShown (State.acceptCopy src dst beams 0 s).2
  { s3 with beam := { s3.beam with ccAccept := none } }

theorem exec_ccAcceptDone {s : State} {src dst : Nat} (h : s.beam.ccAccept = some (src, dst)) :
    exec .ccAcceptDone s = .next (s.acceptEnded src dst) := by
  simp only [exec, execCcAcceptDone, h]
  rfl

theorem State.acceptShown_spec (s : State) (bad : Option Nat) : (s.acceptShown bad).beam = s.beam ∧
    (s.acceptShown bad).f BMP_CC_ACCEPT.DONE = 1 ∧
    (s.acceptShown bad).f BMP_STATUS.CC_BUSY = b2n (decide (s.f BMP_CC_STATUS.STATE = 1)) := by
  unfold State.acceptShown
  extract_lets s2
  have h2 : s2.beam = s.beam ∧ s2.f BMP_CC_STATUS.STATE = s.f BMP_CC_STATUS.STATE := by
    cases bad with
    | none => exact ⟨rfl, rfl⟩
    | some a =>
      obtain ⟨hk, hf⟩ := s.cellUe_notes a
      exact ⟨hk.2 .beam (by decide), (State.f_put_other _ _ (by decide)).trans (hf _ (by decide) (by decide))⟩
  obtain ⟨hbeam, hstate⟩ := h2
  refine ⟨hbeam, (State.f_put_other (x := BMP_STATUS.CC_BUSY) _ _ (by decide)).trans (State.f_put_same _ _ 1), ?_⟩
  rw [hstate]
  exact (State.f_put_same _ _ _).trans (b2n_mod_two _)

theorem State.acceptEnded_spec (s : State) (src dst : Nat) : (s.acceptEnded src dst).beam = { s.beam with ccAccept := none } ∧
    (s.acceptEnded src dst).f BMP_CC_ACCEPT.DONE = 1 ∧
    (s.acceptEnded src dst).f BMP_STATUS.CC_BUSY = b2n (decide (s.f BMP_CC_STATUS.STATE = 1)) := by
  obtain ⟨hk, hf⟩ := State.acceptCopy_notes src dst beams 0 s
  obtain ⟨hbeam, hdone, hbusy⟩ := (State.acceptCopy src dst beams 0 s).1.acceptShown_spec (State.acceptCopy src dst beams 0 s).2
  refine ⟨congrArg (fun b : Beam => { b with ccAccept := none }) (hbeam.trans (hk.2 .beam (by decide))), hdone, hbusy.trans ?_⟩
  rw [hf _ (by decide) (by decide)]

theorem State.acceptEnded_copies {s : State} {src dst : Nat} (h : s.hbmClean) (hdst : dst < 2) (hne : src ≠ dst)
    {b : Nat} (hb : b < 262144) : rdLE (s.acceptEnded src dst).mem.hbm (s.mapAddr dst b) 8 =
      s.accepted (s.hbmLE (s.mapAddr src b) 8) (s.hbmLE (s.resAddr b) 8) := by
  obtain ⟨hnone, hcopy⟩ := State.acceptCopy_clean hdst hne 262144 (b := 0) h (by omega)
  have hmem : (s.acceptEnded src dst).mem = (State.acceptCopy src dst beams 0 s).1.mem := by
    rw [State.acceptEnded, show (State.acceptCopy src dst beams 0 s).2 = none from hnone]
    rfl
  rw [hmem, State.hbmLE_clean h, State.hbmLE_clean h]
  exact (hcopy b hb).trans (if_pos (by omega))

/-- Settles O40: the request lane by lane, a message by what is read from its blocks, the copy beam by beam. -/
theorem cellCheck : Obligations.CellCheck := by
  unfold Obligations.CellCheck
  refine ⟨fun s hst hs hlen => ⟨_, exec_cellCheckRequest hst hs, s.requested_beam, fun b hb k hk => s.requested_results hb hk,
      fun l hl => State.requested_lane hl hlen, s.requested_keeps⟩,
    fun s hst => if_neg fun h => hst h.1, fun s g alive first results halive hfirst hpos hlen hres => ⟨fun h => ?_, fun h => ?_, ?_⟩,
    fun s hst hs => exec_cellCheckTimeout_ends hst hs, fun s hst => if_neg fun h => hst h.1,
    fun s v hv hfree => ⟨exec_ccAccept_live hv hfree, exec_ccAccept_none hv hfree, exec_ccAccept_runs hv hfree,
      exec_ccAccept_starts hv hfree⟩,
    fun s src dst hacc => ⟨_, exec_ccAcceptDone hacc, ?_⟩, fun s hacc => ?_⟩
  · rw [exec_ccResult hpos hlen, State.receive_new h (readReturn_ccMsg hlen halive), State.takeMessage_ccMsg hlen hres hfirst]
    rfl
  · rw [exec_ccResult hpos hlen, State.receive_repeated h (readReturn_ccMsg hlen halive)]
  · intro hsent hgot hsector hlast
    have hg := g.isLt
    refine State.cellResults_unasked hsent hgot results first fun i hi => ⟨by omega, ?_⟩
    simp only [beams]
    omega
  · obtain ⟨hbeam, hdone, hbusy⟩ := s.acceptEnded_spec src dst
    exact ⟨hbeam, hdone, hbusy, fun hc hp _ hdst hne b hb => State.acceptEnded_copies ⟨hc, hp⟩ hdst hne hb⟩
  · simp only [exec, execCcAcceptDone, hacc]

end Sys2Proof.Machine

/-! # The plane code of a level (O41) -/

namespace Sys2Proof.Machine

open Sys2Proof

/-! ### The code and its bits (R169) -/

/-- What one plane leaves of a level. -/
def planeRest (w c : Nat) : Nat := if w ≤ c then c - w else c

theorem planeCode_concat (l : List Nat) (w c : Nat) : planeCode (l ++ [w]).reverse c =
    (if w ≤ c then 2 ^ l.length else 0) + planeCode l.reverse (planeRest w c) := by
  rw [List.reverse_concat', planeCode, List.length_reverse, planeRest]
  split
  · rfl
  · exact (Nat.zero_add _).symm

theorem planeCode_lt (l : List Nat) (c : Nat) : planeCode l.reverse c < 2 ^ l.length := by
  induction l using List.reverseRecOn generalizing c with
  | nil => exact Nat.one_pos
  | append_singleton l w ih =>
    have hlow := ih (planeRest w c)
    rw [planeCode_concat, List.length_append, List.length_singleton, Nat.pow_succ]
    split <;> omega

/-- The highest plane's bit. -/
theorem bit_planeCode_top (l : List Nat) (w c : Nat) : bit (planeCode (l ++ [w]).reverse c) l.length = decide (w ≤ c) := by
  have hlow := Nat.testBit_lt_two_pow (planeCode_lt l (planeRest w c))
  rw [planeCode_concat, bit_eq_testBit]
  split
  · next h => simp [Nat.testBit_two_pow_add_eq, hlow, h]
  · next h => simp [hlow, h]

/-- The bits below the highest plane are those of what it leaves. -/
theorem bit_planeCode_low (l : List Nat) (w c : Nat) {k : Nat} (hk : k < l.length) :
    bit (planeCode (l ++ [w]).reverse c) k = bit (planeCode l.reverse (planeRest w c)) k := by
  rw [planeCode_concat, bit_eq_testBit, bit_eq_testBit]
  split
  · exact Nat.testBit_two_pow_add_gt hk _
  · rw [Nat.zero_add]

/-! ### What the planes take of a level -/

/-- The weight of the planes from m up whose bits a code holds. -/
def takenFrom (l : List Nat) (m code : Nat) : Nat :=
  ((List.range l.length).map (fun j => if m ≤ j ∧ bit code j = true then l.getD j 0 else 0)).sum

theorem takenFrom_zero (l : List Nat) (code : Nat) : takenFrom l 0 code =
    ((List.range l.length).map (fun k => if bit code k = true then l.getD k 0 else 0)).sum := by
  simp only [takenFrom, Nat.zero_le, true_and]

theorem takenFrom_of_length_le {l : List Nat} {m : Nat} (hm : l.length ≤ m) (code : Nat) : takenFrom l m code = 0 := by
  refine List.sum_eq_zero fun x hx => ?_
  obtain ⟨j, hj, rfl⟩ := List.mem_map.mp hx
  have hjl := List.mem_range.mp hj
  exact if_neg fun h => absurd h.1 (by omega)

/-- The highest plane takes its weight where the level reaches it, the planes below take of what it leaves. -/
theorem takenFrom_concat {l : List Nat} {m : Nat} (hm : m ≤ l.length) (w c : Nat) :
    takenFrom (l ++ [w]) m (planeCode (l ++ [w]).reverse c) =
      takenFrom l m (planeCode l.reverse (planeRest w c)) + if w ≤ c then w else 0 := by
  have hlow : ∀ j ∈ List.range l.length,
      (if m ≤ j ∧ bit (planeCode (l ++ [w]).reverse c) j = true then (l ++ [w]).getD j 0 else 0) =
        if m ≤ j ∧ bit (planeCode l.reverse (planeRest w c)) j = true then l.getD j 0 else 0 := by
    intro j hj
    have hjl := List.mem_range.mp hj
    rw [bit_planeCode_low l w c hjl, List.getD_append _ _ _ _ hjl]
  rw [takenFrom, List.length_append, List.length_singleton, List.range_succ, List.map_append, List.sum_append,
    List.map_congr_left hlow, ← takenFrom, List.map_singleton, List.sum_singleton, bit_planeCode_top]
  simp [hm]

/-- The rule of R169, plane by plane. -/
theorem bit_planeCode {l : List Nat} {k : Nat} (hk : k < l.length) (c : Nat) : bit (planeCode l.reverse c) k =
    decide (l.getD k 0 ≤ c - takenFrom l (k + 1) (planeCode l.reverse c)) := by
  induction l using List.reverseRecOn generalizing c with
  | nil => exact absurd hk (Nat.not_lt_zero k)
  | append_singleton l w ih =>
    rw [List.length_append, List.length_singleton] at hk
    rcases Nat.lt_succ_iff_lt_or_eq.mp hk with hlow | rfl
    · have hrest : c - takenFrom (l ++ [w]) (k + 1) (planeCode (l ++ [w]).reverse c) =
          planeRest w c - takenFrom l (k + 1) (planeCode l.reverse (planeRest w c)) := by
        rw [takenFrom_concat (m := k + 1) hlow]
        by_cases h : w ≤ c
        · simp only [planeRest, if_pos h]
          omega
        · simp only [planeRest, if_neg h, Nat.add_zero]
      rw [hrest, bit_planeCode_low l w c hlow, List.getD_append _ _ _ _ hlow, ih hlow]
    · rw [takenFrom_of_length_le (by simp), bit_planeCode_top]
      simp

/-! ### The weights of R168 -/

theorem weightsRise_of_weightsOk {l : List Nat} (h : weightsOk l = true) : weightsRise l 0 0 = true := by
  cases l with
  | nil => rfl
  | cons w r =>
    simp only [weightsOk, Bool.and_eq_true, decide_eq_true_eq] at h
    obtain ⟨⟨rfl, hrise⟩, -⟩ := h
    simpa [weightsRise] using hrise

theorem weightsRise_concat {l : List Nat} {w sum last : Nat} (h : weightsRise (l ++ [w]) sum last = true) :
    weightsRise l sum last = true ∧ w ≤ 1 + sum + l.sum := by
  induction l generalizing sum last with
  | nil =>
    simp only [List.nil_append, weightsRise, Bool.and_eq_true, decide_eq_true_eq] at h
    exact ⟨rfl, h.1.2⟩
  | cons v r ih =>
    simp only [List.cons_append, weightsRise, Bool.and_eq_true] at h ⊢
    obtain ⟨hv, hr⟩ := h
    obtain ⟨hrise, hw⟩ := ih hr
    exact ⟨⟨hv, hrise⟩, by rw [List.sum_cons]; omega⟩

/-- Under rising weights the planes take a level up to Q whole: no weight is above the sum of the lower ones by more than 1, so what
the highest plane leaves is never above that sum. -/
theorem takenFrom_planeCode {l : List Nat} (hl : weightsRise l 0 0 = true) {c : Nat} (hc : c ≤ l.sum) :
    takenFrom l 0 (planeCode l.reverse c) = c := by
  induction l using List.reverseRecOn generalizing c with
  | nil => exact (Nat.le_zero.mp hc).symm
  | append_singleton l w ih =>
    obtain ⟨hrise, hw⟩ := weightsRise_concat hl
    rw [List.sum_append, List.sum_singleton] at hc
    have hrest : planeRest w c ≤ l.sum := by
      unfold planeRest
      split <;> omega
    rw [takenFrom_concat (Nat.zero_le _), ih hrise hrest, planeRest]
    split <;> omega

/-! ### Binary weights -/

theorem planeCode_binary {n c : Nat} (hc : c < 2 ^ n) : planeCode ((List.range n).map (fun k => 2 ^ k)).reverse c = c := by
  induction n generalizing c with
  | zero => exact (Nat.lt_one_iff.mp hc).symm
  | succ n ih =>
    have hrest : planeRest (2 ^ n) c < 2 ^ n := by
      rw [Nat.pow_succ] at hc
      unfold planeRest
      split <;> omega
    rw [List.range_succ, List.map_append, List.map_singleton, planeCode_concat, ih hrest, List.length_map, List.length_range,
      planeRest]
    split <;> omega

/-- Settles O41: by induction from the highest plane down, which hands what it leaves of the level to the planes below. -/
theorem planeCode_spec : Obligations.PlaneCode := by
  unfold Obligations.PlaneCode
  refine ⟨fun l c k hk => bit_planeCode hk c, fun l hl c hc => ?_, fun n c hc => planeCode_binary hc⟩
  rw [← takenFrom_zero]
  exact takenFrom_planeCode (weightsRise_of_weightsOk hl) hc

end Sys2Proof.Machine

/-! # What the end of a training and a halt leave of the lanes

A TRAIN that ends, a lane that fails and a halt of the stripe leave every lane's state and data; the lane that goes DOWN leaves the
data of the others. -/

namespace Sys2Proof.Machine

open Sys2Proof

set_option Elab.async false

/-! ### A lane's data -/

theorem State.pln_of_getElem? {s : State} {l : Nat} {p : PLane} (h : s.link.lanes[l]? = some p) : s.pln l = p := by
  simp [State.pln, h]

theorem State.pln_modPln {s : State} {l : Nat} {p : PLane} (h : s.link.lanes[l]? = some p) (f : PLane → PLane) :
    (s.modPln l f).pln l = f p := by
  rw [State.pln_modPln_same (List.getElem?_eq_some_iff.mp h).1, State.pln_of_getElem? h]

theorem State.ret_of_getElem? {s : State} {g : Nat} {r : RLane} (h : s.link.rets[g]? = some r) : s.ret g = r := by
  simp [State.ret, h]

/-- A lane with an unanswered frame is one of the device's. -/
theorem State.lt_of_out {s : State} {l : Nat} {f : FrameSent} {r : List FrameSent} (h : (s.pln l).out = f :: r) :
    l < s.link.lanes.length := by
  by_contra hl
  rw [State.pln, List.getD_eq_default _ _ (by omega)] at h
  exact absurd h (by simp [PLane.reset])

theorem State.modPln_keeps (s : State) (l : Nat) (f : PLane → PLane) : Keeps s (s.modPln l f) [.link] := keeps_link s _

theorem State.modRet_keeps (s : State) (g : Nat) (f : RLane → RLane) : Keeps s (s.modRet g f) [.link] := keeps_link s _

theorem State.ret_congr {s t : State} (h : t.link = s.link) (g : Nat) : t.ret g = s.ret g := by
  simp only [State.ret, h]

/-! ### The fields of Punty

No field that another unit, a training or a halt shows has the key of one of Punty's. -/

/-- A field of Punty's registers. -/
def Fld.OfPunty (x : Fld) : Prop := 0xC01000 ≤ x.addr ∧ x.addr < 0xC02000 ∧ x.lo < 64

theorem Fld.OfPunty.not_mem {x : Fld} (hx : x.OfPunty) {l : List Fld}
    (hl : ∀ k ∈ l.map Fld.key, k < 0xC01000 * 64 ∨ 0xC02000 * 64 ≤ k := by decide) : x.key ∉ l.map Fld.key := by
  intro hk
  obtain ⟨hlo, hhi, hbit⟩ := hx
  have := hl _ hk
  simp only [Fld.key] at this
  omega

theorem key_ne_of_addr {x y : Fld} (h : x.addr ≠ y.addr) (hx : x.lo < 64) (hy : y.lo < 64) : x.key ≠ y.key := by
  simp only [Fld.key]
  omega

theorem ofPunty_laneState {l : Nat} (hl : l < 72) {lo w r : Nat} (hlo : lo < 64) : (Fld.mk (PUN_LANE_STATE.off l) lo w r).OfPunty := by
  simp only [Fld.OfPunty, PUN_LANE_STATE.off]
  omega

/-- A lane's state is not in a field at a lower address. -/
theorem State.laneState_put {x : Fld} (hx : x.addr < 0xC01200) (hlo : x.lo < 64) (s : State) (v l : Nat) :
    (s.put x v).laneState l = s.laneState l :=
  s.f_put_other v (key_ne_of_addr (by simp only [PUN_LANE_STATE.STATE, PUN_LANE_STATE.off]; omega) (show 0 < 64 by decide) hlo)

/-- A field of a register at another address keeps its value where a lane's state is set. -/
theorem State.f_setLane_other {x : Fld} {l : Nat} (hx : x.addr ≠ PUN_LANE_STATE.off l) (hlo : x.lo < 64) (s : State) (st : Nat) :
    (s.setLane l st).f x = s.f x :=
  s.f_put_other st (key_ne_of_addr hx hlo (show 0 < 64 by decide))

theorem State.event_punty {x : Fld} (hx : x.OfPunty) (s : State) (code cls : Nat) (args : List Arg) :
    (s.event code cls args).f x = s.f x := by
  obtain ⟨-, hhi, hlo⟩ := hx
  exact s.event_f_other (by omega) hlo code cls args

/-! ### The end of a training (R220, R228) -/

theorem KeepsFields.foldl {α : Type} {f : State → α → State} {l : List Fld} (h : ∀ t a, KeepsFields t (f t a) l) (as : List α) (s : State) :
    KeepsFields s (as.foldl f s) l :=
  List.foldlRecOn (motive := fun t => KeepsFields s t l) as f (.refl s l) fun t ht a _ => ht.then (h t a) (List.Subset.refl _)

theorem State.settleGroups_keeps (s : State) (os : List Nat) :
    Keeps s (os.foldl State.settleGroup s) [.regs, .power] ∧ KeepsFields s (os.foldl State.settleGroup s) trainFields :=
  ⟨.foldl (fun t _ => .ite _ (t.giveLeave_keeps _) (.refl t _)) os s,
   .foldl (fun t _ => .ite _ (t.giveLeave_keepsFields _).mono (.refl t _)) os s⟩

theorem State.trainDone_link (s : State) (failed : Nat) (args : List Arg) :
    (s.trainDone failed args).link.lanes = s.link.lanes ∧ (s.trainDone failed args).link.rets = s.link.rets := by
  have h : (s.trainDone failed args).link = { s.link with train := none } := (State.pulse_keeps _ 8).2 .link (by decide)
  rw [h]
  exact ⟨rfl, rfl⟩

/-- Groups that no longer train return their leave; then a TRAIN is done, or it goes on. -/
theorem State.settleTrain_cases (s : State) : s.settleTrain = (List.range 8).foldl State.settleGroup s ∨
    ∃ failed args, s.settleTrain = ((List.range 8).foldl State.settleGroup s).trainDone failed args := by
  unfold State.settleTrain
  extract_lets idle s1
  have hs1 : s1 = (List.range 8).foldl State.settleGroup s := rfl
  rw [← hs1]
  clear_value s1
  split
  · exact .inl rfl
  · extract_lets l bad s2
    split
    · refine .inr ⟨bad.foldl setBit 0, [a32 (l.length - bad.length), a32 bad.length], ?_⟩
      rw [State.trainDone]
    · exact .inl rfl

/-- Whether or not a TRAIN ends: what it may change. -/
theorem State.settleTrain_settles (s : State) :
    Keeps s s.settleTrain [.regs, .power, .link, .journal, .gaf] ∧ KeepsFields s s.settleTrain trainFields ∧
    s.settleTrain.link.lanes = s.link.lanes ∧ s.settleTrain.link.rets = s.link.rets := by
  obtain ⟨hk, hf⟩ := s.settleGroups_keeps (List.range 8)
  have hcases := s.settleTrain_cases
  generalize (List.range 8).foldl State.settleGroup s = u at hk hf hcases
  have hlink : u.link = s.link := hk.2 .link (by decide)
  rcases hcases with h | ⟨failed, args, h⟩
  · rw [h]
    exact ⟨hk.mono, hf, congrArg Link.lanes hlink, congrArg Link.rets hlink⟩
  · obtain ⟨hk', hf'⟩ := u.trainDone_frame failed args
    rw [h]
    obtain ⟨hlanes, hrets⟩ := u.trainDone_link failed args
    exact ⟨hk.mono.then hk', hf.then hf' (List.Subset.refl _), hlanes.trans (congrArg Link.lanes hlink),
      hrets.trans (congrArg Link.rets hlink)⟩

theorem State.settleTrain_laneState (s : State) {l : Nat} (hl : l < 72) : s.settleTrain.laneState l = s.laneState l :=
  s.settleTrain_settles.2.1.laneState hl

theorem State.settleTrain_pln (s : State) (l : Nat) : s.settleTrain.pln l = s.pln l := by
  simp only [State.pln, s.settleTrain_settles.2.2.1]

theorem State.settleTrain_ret (s : State) (g : Nat) : s.settleTrain.ret g = s.ret g := by
  simp only [State.ret, s.settleTrain_settles.2.2.2]

/-! ### A lane fails (R221) -/

theorem State.laneFail_keeps (s : State) (l : Nat) : Keeps s (s.laneFail l) [.regs, .link, .power, .journal, .gaf] :=
  .then (.mono ((s.put_keeps _ _).then (State.put_keeps _ _ _))) (State.settleTrain_settles _).1

theorem State.laneFail_pln (s : State) (l k : Nat) : (s.laneFail l).pln k = s.pln k := State.settleTrain_pln _ k

/-- A field of Punty keeps its value but for the lane's state and its cause. -/
theorem State.laneFail_f (s : State) (l : Nat) {x : Fld} (hx : x.OfPunty) (hl : x.addr < 0xC01200 ∨ 0xC01600 ≤ x.addr ∧ l < 72) :
    (s.laneFail l).f x = s.f x := by
  have haddr : x.addr ≠ PUN_LANE_STATE.off l := by
    simp only [PUN_LANE_STATE.off]
    omega
  exact ((State.settleTrain_settles _).2.1 x hx.not_mem).trans ((State.f_setLane_other haddr hx.2.2 _ 6).trans
    (s.f_put_other _ (key_ne_of_addr haddr hx.2.2 (show 4 < 64 by decide))))

/-! ### A halt (R295) -/

/-- Of the link a halt changes the staging halves alone. -/
theorem State.latchHalt_link (s : State) (code th : Nat) :
    ∃ h c, (s.latchHalt code th).link = { s.link with halves := h, serve := c } := by
  by_cases hh : s.f GAF_STATUS.HALTED = 1
  · rw [State.latchHalt_halted hh]
    split
    · exact ⟨_, _, rfl⟩
    · exact ⟨_, _, rfl⟩
  cases ha : s.gaf.active with
  | none => exact ⟨s.link.halves, s.link.serve, by rw [State.latchHalt_idle hh ha]⟩
  | some a =>
    rw [State.latchHalt_fresh hh ha]
    generalize s.haltFlash th = th
    obtain ⟨hrecord, -⟩ := ((s.haltRegs a code th).dropHalves a.gen th).haltRecord_frame th
    have htold : (((s.halted a code th).pulse 3).tellStripe a.num 4).link = (s.halted a code th).link :=
      ((State.tellStripe_keeps _ _ _).2 .link (by decide)).trans ((State.pulse_keeps _ 3).2 .link (by decide))
    exact ⟨_, _, htold.trans (hrecord.2 .link (by decide))⟩

theorem State.halt_pln (s : State) (code th : Nat) (args : List Arg) (l : Nat) : (s.halt code th args).pln l = s.pln l := by
  obtain ⟨h, c, hlink⟩ := (s.event code 2 args).latchHalt_link code th
  have hlanes : (s.halt code th args).link.lanes = s.link.lanes := by
    rw [State.halt, hlink]
    rfl
  simp only [State.pln, hlanes]

theorem State.laneFail_spec (s : State) {l : Nat} (hl : l < 72) (h : s.laneState l < 8) :
    (s.laneFail l).laneState l = 6 ∧ (s.laneFail l).f (PUN_LANE_STATE.CAUSE l) = s.laneState l := by
  have hsame {lo w r : Nat} (hlo : lo < 64) := (State.settleTrain_settles
    ((s.put (PUN_LANE_STATE.CAUSE l) (s.laneState l)).setLane l 6)).2.1 _ (ofPunty_laneState hl (w := w) (r := r) hlo).not_mem
  refine ⟨(hsame (by decide)).trans (State.f_put_same _ _ _), (hsame (by decide)).trans ?_⟩
  have hput : (s.put (PUN_LANE_STATE.CAUSE l) (s.laneState l)).f (PUN_LANE_STATE.CAUSE l) = s.laneState l :=
    (s.f_put_same _ _).trans (Nat.mod_eq_of_lt (lt_of_lt_of_le h (by decide : 8 ≤ 2 ^ 4)))
  exact (State.f_put_other _ 6 (by simp [PUN_LANE_STATE.STATE, Fld.key])).trans hput

/-! ### A lane goes DOWN (R221, R228) -/

theorem State.laneDown_eq_ready {s : State} {l : Nat} (h : s.laneState l = 5) (c : Nat) : s.laneDown l c =
    (((s.setLane l 0).dropReplay l).flag PUN_STATUS.DOWN_SEEN).event 0x0C03 0 [a8 l, a8 c] := if_pos h

theorem State.laneDown_cases (s : State) (l c : Nat) :
    (s.laneState l = 5 ∧ s.laneDown l c =
      (((s.setLane l 0).dropReplay l).flag PUN_STATUS.DOWN_SEEN).event 0x0C03 0 [a8 l, a8 c]) ∨
    (2 ≤ s.laneState l ∧ s.laneState l ≤ 4 ∧ s.laneDown l c = s.setLane l 0) ∨
    (¬ (2 ≤ s.laneState l ∧ s.laneState l ≤ 5) ∧ s.laneDown l c = s) := by
  unfold State.laneDown
  extract_lets st
  split
  · next h => exact .inl ⟨h, rfl⟩
  · split
    · next h => exact .inr (.inl ⟨h.1, h.2, rfl⟩)
    · exact .inr (.inr ⟨by omega, rfl⟩)

theorem State.laneDown_keeps (s : State) (l c : Nat) : Keeps s (s.laneDown l c) [.regs, .link, .journal] := by
  have hset : Keeps s (s.setLane l 0) [.regs, .link, .journal] := (s.put_keeps _ _).mono
  rcases s.laneDown_cases l c with ⟨-, h⟩ | ⟨-, -, h⟩ | ⟨-, h⟩
  · rw [h]
    exact ((hset.then (State.modPln_keeps _ l _)).then (State.flag_keeps _ _)).then (State.event_keeps _ _ _ _)
  · rwa [h]
  · rw [h]
    exact .refl s _

theorem State.laneDown_laneState (s : State) (l c : Nat) {k : Nat} (hk : k < 72) : (s.laneDown l c).laneState k =
    if k = l ∧ 2 ≤ s.laneState l ∧ s.laneState l ≤ 5 then 0 else s.laneState k := by
  rcases s.laneDown_cases l c with ⟨h5, h⟩ | ⟨h2, h4, h⟩ | ⟨hno, h⟩
  · have hdown : (s.laneDown l c).laneState k = (s.setLane l 0).laneState k := by
      rw [h]
      exact (State.event_punty (ofPunty_laneState hk (by decide)) _ _ _ _).trans (State.laneState_put (by decide) (by decide) _ 1 k)
    rw [hdown, State.laneState_setLane]
    simp [h5]
  · rw [h, State.laneState_setLane]
    by_cases hkl : k = l
    · rw [if_pos hkl, if_pos ⟨hkl, h2, by omega⟩]
    · rw [if_neg hkl, if_neg fun hc => hkl hc.1]
  · rw [h, if_neg fun hc => hno hc.2]

/-- A lane that is not READY does not become it by a lane's way DOWN. -/
theorem State.laneDown_notReady {s : State} {k : Nat} (h : s.laneState k ≠ 5) (l c : Nat) (hk : k < 72) :
    (s.laneDown l c).laneState k ≠ 5 := by
  rw [s.laneDown_laneState l c hk]
  split
  · decide
  · exact h

theorem State.laneDown_self (s : State) (c : Nat) {l : Nat} (hl : l < 72) : (s.laneDown l c).laneState l ≠ 5 := by
  rw [s.laneDown_laneState l c hl]
  split
  · decide
  · omega

/-- A field of Punty keeps its value but for the lane's state and DOWN_SEEN. -/
theorem State.laneDown_f (s : State) (l c : Nat) {x : Fld} (hx : x.OfPunty) (hl : x.addr ≠ PUN_LANE_STATE.off l)
    (hseen : x.key ≠ PUN_STATUS.DOWN_SEEN.key) : (s.laneDown l c).f x = s.f x := by
  have hset := s.f_setLane_other hl hx.2.2 0
  rcases s.laneDown_cases l c with ⟨-, h⟩ | ⟨-, -, h⟩ | ⟨-, h⟩
  · rw [h]
    exact (State.event_punty hx _ _ _ _).trans ((State.f_put_other _ 1 hseen).trans hset)
  · rwa [h]
  · rw [h]

theorem State.laneDown_seen {s : State} {l c : Nat} (h : s.laneState l = 5 ∨ s.f PUN_STATUS.DOWN_SEEN = 1) :
    (s.laneDown l c).f PUN_STATUS.DOWN_SEEN = 1 := by
  have haddr : PUN_STATUS.DOWN_SEEN.addr ≠ PUN_LANE_STATE.off l := by
    simp only [PUN_STATUS.DOWN_SEEN, PUN_STATUS.off, PUN_LANE_STATE.off]
    omega
  rcases s.laneDown_cases l c with ⟨-, hd⟩ | ⟨-, h4, hd⟩ | ⟨hno, hd⟩
  · rw [hd]
    exact (State.event_punty ⟨by decide, by decide, by decide⟩ _ _ _ _).trans (State.f_put_same _ _ 1)
  · rw [hd, s.f_setLane_other haddr (by decide)]
    exact h.resolve_left (by omega)
  · rw [hd]
    exact h.resolve_left fun h5 => hno (by omega)

theorem State.laneDown_ret (s : State) (l c g : Nat) : (s.laneDown l c).ret g = s.ret g := by
  rcases s.laneDown_cases l c with ⟨-, h⟩ | ⟨-, -, h⟩ | ⟨-, h⟩ <;> simp only [State.ret, h] <;> rfl

end Sys2Proof.Machine

/-! # Plane frames, replays and acknowledgements (O44) -/

namespace Sys2Proof.Machine

open Sys2Proof

set_option Elab.async false

/-! ### A frame leaves (R197 to R202, R226) -/

/-- A lane behind a frame that it has sent. -/
def PLane.sent (p : PLane) (f : FrameSent) (free scr : Nat) (kept : List (FrameSent × List Word × List Word)) : PLane :=
  { p with alive := (p.alive + 1) % 256, freeAt := free, out := p.out ++ [f], scr := scr, kept := kept }

/-- What a lane puts on its line for a frame: the frame, and its 66 blocks scrambled behind IDLE blocks. -/
def State.framed (s : State) (l : Nat) (f : FrameSent) (replay ks : Bool) (slot : Nat) (data words : List Word) : List Output :=
  let p := s.pln l
  let m := markerWord l f.ftype f.flash f.plane p.alive f.first replay ks slot
  let echo := (s.ret (l / 8)).echo
  let idle := cdiv (s.mono100 - p.freeAt) 20
  [.frame l (f.flash % 2 ^ 24) f.plane f.ftype p.alive f.first replay ks slot echo words (frameCrc m data),
   .line l idle (scrambleBlocks (idleRun idle p.scr) (frameBlocks m words (trailerWord echo (frameCrc m data)))).1]

/-- The words that a frame carries: of a replay those of the kept frame, else the data, under the keystream where there is one. -/
def State.sentWords (s : State) (l gen : Nat) (f : FrameSent) (replay : Bool) (data : List Word) : List Word :=
  let k := s.ksOf gen f.ftype
  let fresh := if k.1 then List.zipWith (fun a b => a ^^^ b) data (s.laneStream k.2 s.link.nonce l f.flash f.plane) else data
  if replay then (((s.pln l).keptOf f).map (fun x => x.2.2)).getD fresh else fresh

section

variable (s : State) (l gen : Nat) (f : FrameSent) (replay : Bool) (data : List Word)

theorem State.sendFrame_out : (s.sendFrame l gen f replay data).out =
    s.out ++ s.framed l f replay (s.ksOf gen f.ftype).1 (s.ksOf gen f.ftype).2 data (s.sentWords l gen f replay data) :=
  List.append_assoc s.out _ _

/-- A frame is two outputs, a change of its lane and, under a keystream, a free value used. -/
theorem State.sendFrame_eq : ∃ (a b : Output) (q : PLane → PLane) (n : Nat),
    s.sendFrame l gen f replay data = { (((s.grpTouch 13).send a).send b).modPln l q with freeCount := n } ∧
    ∀ p, ∃ free scr kept, q p = p.sent f free scr kept := ⟨_, _, _, _, rfl, fun _ => ⟨_, _, _, rfl⟩⟩

theorem State.sendFrame_keeps : Keeps s (s.sendFrame l gen f replay data) [.link, .mem, .out, .freeCount] := by
  obtain ⟨a, b, q, n, h, -⟩ := s.sendFrame_eq l gen f replay data
  rw [h]
  exact ((((s.grpTouch_keeps 13).mono.then (State.send_keeps _ a)).then (State.send_keeps _ b)).then (State.modPln_keeps _ l q)).then
    (keeps_freeCount _ n)

theorem State.sendFrame_length : (s.sendFrame l gen f replay data).link.lanes.length = s.link.lanes.length := by
  obtain ⟨a, b, q, n, h, -⟩ := s.sendFrame_eq l gen f replay data
  rw [h]
  exact State.modPln_length _ l q

variable {s l}

theorem State.sendFrame_pln (hl : l < s.link.lanes.length) :
    ∃ free scr kept, (s.sendFrame l gen f replay data).pln l = (s.pln l).sent f free scr kept := by
  obtain ⟨a, b, q, n, h, hq⟩ := s.sendFrame_eq l gen f replay data
  obtain ⟨free, scr, kept, hp⟩ := hq (s.pln l)
  rw [h]
  exact ⟨free, scr, kept, (State.pln_modPln_same (s := ((s.grpTouch 13).send a).send b) hl q).trans hp⟩

end

/-- A frame without a plane takes no keystream and no free value. -/
theorem State.sendFrame_keeps_plain (s : State) {f : FrameSent} (hf : f.ftype ≠ 0) (l gen : Nat) (replay : Bool) (data : List Word) :
    Keeps s (s.sendFrame l gen f replay data) [.link, .mem, .out] := by
  obtain ⟨a, b, q, hq, -⟩ := s.sendFrame_plain hf l gen replay data
  rw [hq]
  exact (((s.grpTouch_keeps 13).mono.then (State.send_keeps _ a)).then (State.send_keeps _ b)).then (State.modPln_keeps _ l q)

/-- The keystream is on for planes alone, and where the generation asks for it (R225). -/
theorem State.ksOf_plane (s : State) (gen : Nat) : (s.ksOf gen 0).1 = true ↔ s.genF 2 gen PUN_KS_CTL.EN = 1 := by
  simp [State.ksOf]

theorem State.sentWords_fresh {s : State} {gen : Nat} {f : FrameSent} (h : (s.ksOf gen f.ftype).1 = false) (l : Nat) (data : List Word) :
    s.sentWords l gen f false data = data := by
  simp [State.sentWords, h]

theorem State.sentWords_replay {s : State} {l : Nat} {f : FrameSent} {x : FrameSent × List Word × List Word}
    (h : (s.pln l).keptOf f = some x) (gen : Nat) (data : List Word) : s.sentWords l gen f true data = x.2.2 := by
  simp [State.sentWords, h]

/-! ### The half being served is freed (R194) -/

theorem State.freeServed_keeps (s : State) (k : Stripe) : Keeps s (s.freeServed k) [.link] := by
  unfold State.freeServed
  split
  · exact .refl s _
  · exact .ite _ (keeps_link s _) (.refl s _)

theorem State.freeServed_pln (s : State) (k : Stripe) (l : Nat) : (s.freeServed k).pln l = s.pln l := by
  unfold State.freeServed
  split
  · rfl
  · dsimp only
    split <;> rfl

/-! ### PLANE_FRAME -/

/-- A training frame leaves, and the generator of its words goes on (R222). -/
theorem State.trainFrame_eq (s : State) (l : Nat) : ∃ data z, s.trainFrame l =
    (s.sendFrame l 0 { flash := 0, plane := 0, ftype := 2, first := false, ver := decide (s.laneState l = 4) } false data).modPln l
      (fun q => { q with prbs := z }) := by
  unfold State.trainFrame
  extract_lets p
  split
  exact ⟨_, _, rfl⟩

theorem exec_planeFrame_idle {s : State} {l : Fin 64} (h : s.runs PUN_CTL.ENABLE = false ∨ 4 ≤ (s.pln l).out.length) :
    exec (.planeFrame l) s = .next s := by
  refine if_pos ?_
  rcases h with h | h
  · exact .inl (by simp [h])
  · exact .inr (.inl h)

section

variable {s : State} {l : Fin 64} (hrun : s.runs PUN_CTL.ENABLE = true) (hl : l.val < s.link.lanes.length)
  (hout : (s.pln l).out.length < 4) (hrep : (s.pln l).replay = [])

include hrun hout hrep

/-- The lane may send. -/
theorem planeFrame_open : ¬ (¬ s.runs PUN_CTL.ENABLE = true ∨ 4 ≤ (s.pln l).out.length ∨ (s.pln l).replay ≠ []) := by
  rintro (h | h | h)
  · exact h hrun
  · omega
  · exact h hrep

/-- A lane that is READY is in no state of its training. -/
theorem exec_planeFrame_request (hst : s.laneState l = 5) (hdue : (s.pln l).ccDue = true) (hcc : s.f BMP_CC_STATUS.STATE = 1) :
    exec (.planeFrame l) s = .next (s.requestFrame l) :=
  (if_neg (planeFrame_open hrun hout hrep)).trans ((if_neg (by omega)).trans (if_pos ⟨hst, hdue, hcc⟩))

include hl

theorem exec_planeFrame_train (hst : s.laneState l = 2 ∨ s.laneState l = 3 ∨
      (s.laneState l = 4 ∧ (s.pln l).verify + (s.pln l).out.countP (fun f => f.ver) < 4096)) :
    Gives (exec (.planeFrame l) s) (fun t =>
      (t.pln l).out = (s.pln l).out ++
        [{ flash := 0, plane := 0, ftype := 2, first := false, ver := decide (s.laneState l = 4) }] ∧
      (t.pln l).alive = ((s.pln l).alive + 1) % 256 ∧ t.out.length = s.out.length + 2 ∧ Keeps s t [.link, .mem, .out]) := by
  refine ⟨s.trainFrame l, (if_neg (planeFrame_open hrun hout hrep)).trans (if_pos hst), ?_⟩
  obtain ⟨data, z, htrain⟩ := s.trainFrame_eq l
  rw [htrain]
  generalize hf : FrameSent.mk 0 0 2 false (decide (s.laneState l = 4)) = f
  have hplain : f.ftype ≠ 0 := by simp [← hf]
  obtain ⟨free, scr, kept, hp⟩ := State.sendFrame_pln 0 f false data hl
  rw [State.pln_modPln_same (by rwa [State.sendFrame_length]), hp]
  refine ⟨rfl, rfl, ?_, (s.sendFrame_keeps_plain hplain _ _ _ _).then (State.modPln_keeps _ _ _)⟩
  exact (congrArg List.length (s.sendFrame_out l 0 f false data)).trans List.length_append

variable {k : Stripe} {t n : Nat} (hst : s.laneState l = 5) (hcc : (s.pln l).ccDue = false ∨ s.f BMP_CC_STATUS.STATE ≠ 1)
  (ha : s.gaf.active = some k) (hnext : (s.pln l).next = (t, n)) (hlive : s.live t = true) (ht : t < s.nf k)
  (hdue : s.frameDue t = true)

include hst hcc ha hnext hlive ht hdue

omit hl in
/-- A lane at a plane that is due. -/
theorem exec_planeFrame_due : exec (.planeFrame l) s =
    if (s.pln l).sync then .next (s.syncFrame l k)
    else if s.serves k.gen t then
      .next (((s.sendFrame l k.gen { flash := t, plane := n, ftype := 0, first := decide (t = s.mot.t0), ver := false } false
        (s.planeData l t n)).modPln l (fun q => { q with next := if n + 1 < s.planes k.gen then (t, n + 1) else (t + 1, 0) })).freeServed k)
    else .next s := by
  have hreq : ¬ (s.laneState l = 5 ∧ (s.pln l).ccDue = true ∧ s.f BMP_CC_STATUS.STATE = 1) := by
    rintro ⟨-, h, h'⟩
    rcases hcc with hcc | hcc
    · simp [hcc] at h
    · exact hcc h'
  refine (if_neg (planeFrame_open hrun hout hrep)).trans ((if_neg (by omega)).trans ((if_neg hreq).trans ?_))
  rw [ha, hnext]
  exact if_pos ⟨hst, hlive, ht, hdue⟩

theorem exec_planeFrame_sync (hsync : (s.pln l).sync = true) : Gives (exec (.planeFrame l) s) (fun u =>
    (u.pln l).sync = false ∧ (u.pln l).next = (t, n) ∧
    (u.pln l).out = (s.pln l).out ++ [{ flash := s.mot.t0, plane := 0, ftype := 3, first := false, ver := false }] ∧
    u.out.length = s.out.length + 2 ∧ Keeps s u [.link, .mem, .out]) := by
  refine ⟨s.syncFrame l k, (exec_planeFrame_due hrun hout hrep hst hcc ha hnext hlive ht hdue).trans (if_pos hsync), ?_⟩
  unfold State.syncFrame
  extract_lets d
  generalize hf : FrameSent.mk s.mot.t0 0 3 false false = f
  have hplain : f.ftype ≠ 0 := by simp [← hf]
  obtain ⟨free, scr, kept, hp⟩ := State.sendFrame_pln k.gen f false d hl
  rw [State.pln_modPln_same (by rwa [State.sendFrame_length]), hp]
  refine ⟨rfl, hnext, rfl, ?_, (s.sendFrame_keeps_plain hplain _ _ _ _).then (State.modPln_keeps _ _ _)⟩
  exact (congrArg List.length (s.sendFrame_out l k.gen f false d)).trans List.length_append

theorem exec_planeFrame_plane (hsync : (s.pln l).sync = false) (hserve : s.serves k.gen t = true) :
    Gives (exec (.planeFrame l) s) (fun u =>
      (u.pln l).next = (if n + 1 < s.planes k.gen then (t, n + 1) else (t + 1, 0)) ∧
      (u.pln l).out = (s.pln l).out ++ [{ flash := t, plane := n, ftype := 0, first := decide (t = s.mot.t0), ver := false }] ∧
      (∃ ks slot words, u.out = s.out ++ s.framed l { flash := t, plane := n, ftype := 0, first := decide (t = s.mot.t0), ver := false }
          false ks slot (s.planeData l t n) words ∧
        (ks = true ↔ s.genF 2 k.gen PUN_KS_CTL.EN = 1) ∧ (s.genF 2 k.gen PUN_KS_CTL.EN ≠ 1 → words = s.planeData l t n)) ∧
      (u.pln l).alive = ((s.pln l).alive + 1) % 256 ∧ Keeps s u [.link, .mem, .out, .freeCount]) := by
  have hdo := exec_planeFrame_due hrun hout hrep hst hcc ha hnext hlive ht hdue
  rw [if_neg (by simp [hsync]), if_pos hserve] at hdo
  refine ⟨_, hdo, ?_⟩
  generalize hf : FrameSent.mk t n 0 (decide (t = s.mot.t0)) false = f
  have htype : f.ftype = 0 := by rw [← hf]
  obtain ⟨free, scr, kept, hp⟩ := State.sendFrame_pln k.gen f false (s.planeData l t n) hl
  rw [State.freeServed_pln, State.pln_modPln_same (by rwa [State.sendFrame_length]), hp]
  have hks : (s.ksOf k.gen f.ftype).1 = true ↔ s.genF 2 k.gen PUN_KS_CTL.EN = 1 := htype ▸ s.ksOf_plane k.gen
  refine ⟨rfl, rfl, ⟨(s.ksOf k.gen f.ftype).1, (s.ksOf k.gen f.ftype).2, s.sentWords l k.gen f false (s.planeData l t n), ?_, hks,
      fun hen => ?_⟩, rfl,
    ((s.sendFrame_keeps l k.gen f false _).then (State.modPln_keeps _ _ _)).then (State.freeServed_keeps _ _)⟩
  · exact ((State.freeServed_keeps _ k).2 .out (by decide)).trans (s.sendFrame_out l k.gen f false _)
  · exact State.sentWords_fresh (by simpa using mt hks.mp hen) l _

end

/-! ### REPLAY_SEND (R202, R214, R218) -/

theorem exec_replaySend_idle {s : State} {l : Fin 64}
    (h : (s.pln l).replay = [] ∨ s.runs PUN_CTL.ENABLE = false ∨ s.laneState l ≠ 5) : exec (.replaySend l) s = .next s := by
  change execReplaySend l s = _
  unfold execReplaySend
  extract_lets p
  split
  · rfl
  · next f r hrep =>
    rcases h with h | h | h
    · exact nomatch hrep.symm.trans h
    · exact if_pos (.inl (by simp [h]))
    · exact if_pos (.inr h)

/-- A frame is about to be sent again: it is off the list of replays, counted and shown. -/
def State.replaying (s : State) (l : Nat) (r : List FrameSent) : State :=
  ((s.modPln l (fun q => { q with replay := r })).count PUN_CNT_REPLAY.COUNT 1).flag PUN_STATUS.REPLAY_SEEN

theorem State.replaying_keeps (s : State) (l : Nat) (r : List FrameSent) : Keeps s (s.replaying l r) [.regs, .link] :=
  ((s.modPln_keeps l _).mono.then (State.count_keeps _ _ 1)).then (State.flag_keeps _ _)

theorem State.replaying_pln {s : State} {l : Nat} (hl : l < s.link.lanes.length) (r : List FrameSent) :
    (s.replaying l r).pln l = { s.pln l with replay := r } := State.pln_modPln_same hl _

theorem State.replaying_ret (s : State) (l g : Nat) (r : List FrameSent) : (s.replaying l r).ret g = s.ret g := rfl

theorem State.replaying_f (s : State) (l : Nat) (r : List FrameSent) : (s.replaying l r).f PUN_STATUS.REPLAY_SEEN = 1 ∧
    (s.replaying l r).f PUN_CNT_REPLAY.COUNT = min (s.f PUN_CNT_REPLAY.COUNT + 1) (2 ^ PUN_CNT_REPLAY.COUNT.w - 1) :=
  ⟨State.f_put_same _ _ _, (State.f_put_other _ _ (by decide)).trans (State.count_f _ _ 1)⟩

theorem exec_replaySend_sends {s : State} {l : Fin 64} (hrun : s.runs PUN_CTL.ENABLE = true) (hst : s.laneState l = 5)
    (hl : l.val < s.link.lanes.length) {f : FrameSent} {r : List FrameSent} (hrep : (s.pln l).replay = f :: r)
    (hlive : (f.ftype = 1 ∧ s.f BMP_CC_STATUS.STATE = 1) ∨ (f.ftype ≠ 1 ∧ s.live f.flash = true))
    {x : FrameSent × List Word × List Word} (hkept : (s.pln l).keptOf f = some x) : Gives (exec (.replaySend l) s) (fun t =>
      (t.pln l).replay = r ∧ (t.pln l).out = (s.pln l).out ++ [f] ∧ t.f PUN_STATUS.REPLAY_SEEN = 1 ∧
      (∃ ks slot crc idle blocks, t.out = s.out ++
        [.frame l (f.flash % 2 ^ 24) f.plane f.ftype (s.pln l).alive f.first true ks slot (s.ret (l / 8)).echo x.2.2 crc,
         .line l idle blocks]) ∧
      t.f PUN_CNT_REPLAY.COUNT = min (s.f PUN_CNT_REPLAY.COUNT + 1) (2 ^ PUN_CNT_REPLAY.COUNT.w - 1) ∧
      Keeps s t [.regs, .link, .mem, .out, .freeCount]) := by
  obtain ⟨y, data, words⟩ := x
  have hdead : ¬ ((if f.ftype = 1 then decide (s.f BMP_CC_STATUS.STATE ≠ 1) else !s.live f.flash) = true) := by
    rcases hlive with ⟨h1, h2⟩ | ⟨h1, h2⟩ <;> simp [h1, h2]
  have hdo : exec (.replaySend l) s =
      .next ((s.replaying l r).sendFrame l ((s.gaf.active.map Stripe.gen).getD 0) f true data) := by
    change execReplaySend l s = _
    simp only [execReplaySend, hrep]
    rw [if_neg (by simp [hrun, hst]), if_neg hdead, hkept]
    rfl
  refine ⟨_, hdo, ?_⟩
  generalize (s.gaf.active.map Stripe.gen).getD 0 = gen
  have hlen : l.val < (s.replaying l r).link.lanes.length := (s.modPln_length l _).symm ▸ hl
  have hsend := (s.replaying l r).sendFrame_keeps l gen f true data
  obtain ⟨hseen, hcount⟩ := s.replaying_f l r
  obtain ⟨free, scr, kept, hp⟩ := State.sendFrame_pln gen f true data hlen
  rw [State.replaying_pln hl] at hp
  refine ⟨congrArg PLane.replay hp, congrArg PLane.out hp, (hsend.f_eq _).trans hseen, ?_, (hsend.f_eq _).trans hcount,
    (s.replaying_keeps l r).mono.then hsend⟩
  have hwords : (s.replaying l r).sentWords l gen f true data = words :=
    State.sentWords_replay (x := (y, data, words)) (by rw [State.replaying_pln hl]; exact hkept) gen data
  have hsent := (s.replaying l r).sendFrame_out l gen f true data
  rw [hwords, State.framed, State.replaying_pln hl] at hsent
  exact ⟨_, _, _, _, _, hsent⟩

/-! ### ACK (R211, R215, R216) -/

theorem readReturn_ackMsg {alive flash plane ftype ack nak : Nat} (halive : alive < 256) :
    readReturn (ackMsg alive flash plane ftype ack nak).blocks = some (ackMsg alive flash plane ftype ack nak) := by
  refine readReturn_blocks (by simp [ackMsg]) halive ?_ ?_
  · simp only [ackMsg]
    omega
  · simp only [ackMsg]
    omega

theorem State.takeMessage_ackMsg {flash plane ftype ack nak : Nat} (hflash : flash < 2 ^ 24) (hplane : plane < 16) (htype : ftype < 4)
    (hack : ack < 256) (hnak : nak < 256) (t : State) (g alive : Nat) :
    t.takeMessage g (ackMsg alive flash plane ftype ack nak) = t.answers g flash plane ftype ack nak := by
  have htake : t.takeMessage g (ackMsg alive flash plane ftype ack nak) =
      t.answers g (bits (ackMsg alive flash plane ftype ack nak).af 0 24) (bits (ackMsg alive flash plane ftype ack nak).af 24 4)
        (bits (ackMsg alive flash plane ftype ack nak).af 28 2) (bits (ackMsg alive flash plane ftype ack nak).body 0 8)
        (bits (ackMsg alive flash plane ftype ack nak).body 8 8) := rfl
  rw [htake]
  congr 1 <;> simp only [ackMsg, bits] <;> omega

/-! ### A lane that was READY is DOWN (R221, R228) -/

theorem State.laneDown_ready {s : State} {l : Nat} (h : s.laneState l = 5) (hl : l < s.link.lanes.length) (h72 : l < 72) (c : Nat) :
    (s.laneDown l c).laneState l = 0 ∧ ((s.laneDown l c).pln l).replay = [] ∧ ((s.laneDown l c).pln l).ccDue = false := by
  have hstate := s.laneDown_laneState l c h72
  rw [if_pos ⟨rfl, by omega, by omega⟩] at hstate
  have hp : (s.laneDown l c).pln l = { s.pln l with replay := [], ccDue := false } := by
    rw [State.laneDown_eq_ready h]
    exact State.pln_modPln_same (s := s.setLane l 0) hl _
  exact ⟨hstate, by rw [hp], by rw [hp]⟩

/-! ### One lane's answer (R211, R218) -/

theorem bit_setBit (v n : Nat) : bit (setBit v n) n = true := by
  unfold setBit
  split
  · assumption
  · next h =>
    simp only [bit, decide_eq_true_eq] at h ⊢
    rw [Nat.add_div_right _ (Nat.two_pow_pos n)]
    omega

theorem State.answer_ack {s : State} {l flash plane ftype : Nat} {f : FrameSent}
    (hf : (s.pln l).out.find? (fun x => x.answers flash plane ftype) = some f) (htype : f.ftype = 0) (hlive : s.live f.flash = true)
    (hopen : s.mot.committed ≤ f.flash) :
    bit (mnat (s.answer l flash plane ftype false).link.acks (f.flash * 16 + f.plane)) l = true ∧
    Keeps s (s.answer l flash plane ftype false) [.link] := by
  have hdo : s.answer l flash plane ftype false =
      { s.modPln l (fun q => { q with out := q.out.eraseP (fun x => x.answers flash plane ftype) }) with
        link := { (s.modPln l (fun q => { q with out := q.out.eraseP (fun x => x.answers flash plane ftype) })).link with
          acks := mset s.link.acks (f.flash * 16 + f.plane) (setBit (mnat s.link.acks (f.flash * 16 + f.plane)) l) } } := by
    simp only [State.answer, hf]
    rw [if_neg (by decide), if_pos htype, if_pos (by simp [hlive, hopen])]
    rfl
  rw [hdo]
  refine ⟨?_, (s.modPln_keeps l _).then (keeps_link _ _)⟩
  simp only [mnat, mget_mset_same]
  exact bit_setBit _ l

theorem State.answer_stray {s : State} {l flash plane ftype : Nat}
    (hf : (s.pln l).out.find? (fun x => x.answers flash plane ftype) = none) (nak : Bool) :
    (s.answer l flash plane ftype nak).f PUN_CNT_STRAY.COUNT = min (s.f PUN_CNT_STRAY.COUNT + 1) (2 ^ PUN_CNT_STRAY.COUNT.w - 1) ∧
    Keeps s (s.answer l flash plane ftype nak) [.regs] := by
  have hdo : s.answer l flash plane ftype nak = (if nak then s.count PUN_CNT_NAK.COUNT 1 else s).count PUN_CNT_STRAY.COUNT 1 := by
    simp only [State.answer, hf]
  rw [hdo]
  cases nak with
  | false => exact ⟨s.count_f _ 1, s.count_keeps _ 1⟩
  | true =>
    refine ⟨(State.count_f _ _ 1).trans ?_, (s.count_keeps _ 1).then (State.count_keeps _ _ 1)⟩
    rw [if_pos rfl, State.count, State.f_put_other _ _ (by decide)]

/-! ### A frame without an answer (R211, R213, R214, R218) -/

/-- A frame stands behind those that are to be replayed. -/
def State.again (s : State) (l : Nat) (f : FrameSent) (kind : Nat) : State :=
  (s.event 0x0C01 1 [a8 l, a32 f.flash, a8 f.plane, a8 kind]).modPln l (fun q => { q with replay := q.replay ++ [f] })

theorem State.again_pln {s : State} {l : Nat} (hl : l < s.link.lanes.length) (f : FrameSent) (kind : Nat) :
    (s.again l f kind).pln l = { s.pln l with replay := (s.pln l).replay ++ [f] } := State.pln_modPln_same hl _

theorem State.again_f {x : Fld} (hx : x.OfPunty) (s : State) (l : Nat) (f : FrameSent) (kind : Nat) : (s.again l f kind).f x = s.f x :=
  State.event_punty hx s 0x0C01 1 [a8 l, a32 f.flash, a8 f.plane, a8 kind]

/-- What a refusal does: the lane fails, the frame is replayed, the stripe halts, or nothing. -/
theorem State.refused_cases (s : State) (l : Nat) (f : FrameSent) (kind : Nat) :
    s.refused l f kind = s ∨ s.refused l f kind = s.laneFail l ∨ s.refused l f kind = s.again l f kind ∨
    ∃ args, s.refused l f kind = s.halt 0x0C10 s.openFlash args := by
  unfold State.refused
  extract_lets again
  split
  · split
    · exact .inr (.inl rfl)
    · exact .inl rfl
  · split
    · split
      · exact .inr (.inr (.inl rfl))
      · exact .inl rfl
    · split
      · exact .inl rfl
      · split
        · exact .inl rfl
        · split
          · exact .inr (.inr (.inl rfl))
          · dsimp only
            split
            · exact .inr (.inr (.inl rfl))
            · exact .inr (.inr (.inr ⟨_, rfl⟩))

/-- A refusal leaves the frames that are unanswered, and what counts and shows the timeouts. -/
theorem State.refused_leaves {s : State} {l : Nat} (hl : l < s.link.lanes.length) (f : FrameSent) (kind : Nat) :
    ((s.refused l f kind).pln l).out = (s.pln l).out ∧ (s.refused l f kind).f PUN_STATUS.TMO_SEEN = s.f PUN_STATUS.TMO_SEEN ∧
    (s.refused l f kind).f PUN_CNT_TMO.COUNT = s.f PUN_CNT_TMO.COUNT := by
  have hseen : PUN_STATUS.TMO_SEEN.OfPunty := ⟨by decide, by decide, by decide⟩
  have hcount : PUN_CNT_TMO.COUNT.OfPunty := ⟨by decide, by decide, by decide⟩
  rcases s.refused_cases l f kind with h | h | h | ⟨args, h⟩
  · rw [h]
    exact ⟨rfl, rfl, rfl⟩
  · rw [h]
    exact ⟨congrArg PLane.out (s.laneFail_pln l l), s.laneFail_f l hseen (.inl (by decide)), s.laneFail_f l hcount (.inl (by decide))⟩
  · rw [h]
    exact ⟨by rw [State.again_pln hl], s.again_f hseen l f kind, s.again_f hcount l f kind⟩
  · rw [h]
    exact ⟨congrArg PLane.out (s.halt_pln _ _ _ l), s.halt_keepsFields _ _ _ _ hseen.not_mem, s.halt_keepsFields _ _ _ _ hcount.not_mem⟩

theorem exec_ackTimeout_none {s : State} {l : Fin 64} (h : (s.pln l).out = []) : exec (.ackTimeout l) s = .next s := by
  change execAckTimeout l s = _
  rw [execAckTimeout, h]

/-- The oldest unanswered frame of a lane is off its list, counted and shown. -/
def State.timedOut (s : State) (l : Nat) (r : List FrameSent) : State :=
  ((s.modPln l (fun q => { q with out := r })).count PUN_CNT_TMO.COUNT 1).flag PUN_STATUS.TMO_SEEN

theorem exec_ackTimeout_refuses {s : State} {l : Fin 64} {f : FrameSent} {r : List FrameSent} (h : (s.pln l).out = f :: r) :
    Gives (exec (.ackTimeout l) s) (fun t => t.f PUN_STATUS.TMO_SEEN = 1 ∧
      t.f PUN_CNT_TMO.COUNT = min (s.f PUN_CNT_TMO.COUNT + 1) (2 ^ PUN_CNT_TMO.COUNT.w - 1) ∧ (t.pln l).out = r) := by
  have hdo : exec (.ackTimeout l) s = .next ((s.timedOut l r).refused l f 1) := by
    change execAckTimeout l s = _
    rw [execAckTimeout, h]
    rfl
  obtain ⟨hout, hseen, hcount⟩ := State.refused_leaves (s := s.timedOut l r) ((s.modPln_length l _).symm ▸ State.lt_of_out h) f 1
  refine ⟨_, hdo, hseen.trans (State.f_put_same _ _ _), hcount.trans ?_, hout.trans ?_⟩
  · exact (State.f_put_other _ _ (by decide)).trans (State.count_f _ _ 1)
  · exact congrArg PLane.out (State.pln_modPln_same (State.lt_of_out h) _)

section

variable {s : State} {f : FrameSent} {k : Stripe} {c : Int} (ha : s.gaf.active = some k) (htype : f.ftype = 0)
  (hlive : s.live f.flash = true) (hc : s.commitTime k f.flash = some c)

include ha htype hlive hc

/-- A plane that is still to be flashed: what decides is the time up to its commit point. -/
theorem State.refused_plane (l kind : Nat) : s.refused l f kind =
    if 2 * (tau100 : Int) ≤ c - s.now100 then s.again l f kind
    else s.halt 0x0C10 s.openFlash [a8 l, a32 f.flash, a8 f.plane, s32 ((c - s.now100) / 10)] := by
  unfold State.refused
  extract_lets again
  rw [if_neg (by omega), if_neg (by omega), ha]
  dsimp only
  rw [if_neg (by simp [hlive]), hc]
  rfl

theorem State.refused_late (l kind : Nat) (hlate : c < s.now100 + 2 * 1320) (hh : s.f GAF_STATUS.HALTED ≠ 1) :
    (s.refused l f kind).f GAF_HALT_CAUSE.CODE = 0x0C10 := by
  rw [State.refused_plane ha htype hlive hc, if_neg (by simp only [tau100]; omega)]
  obtain ⟨-, hcode, -⟩ := State.halt_spec ha hh 0x0C10 s.openFlash [a8 l, a32 f.flash, a8 f.plane, s32 ((c - s.now100) / 10)]
  exact hcode

theorem State.refused_again {l : Nat} (hl : l < s.link.lanes.length) (kind : Nat) (htime : s.now100 + 2 * 1320 ≤ c) :
    ((s.refused l f kind).pln l).replay = (s.pln l).replay ++ [f] := by
  rw [State.refused_plane ha htype hlive hc, if_pos (by simp only [tau100]; omega)]
  rw [State.again_pln hl]

end

/-! ### The statement -/

/-- Settles O44: a frame's leaving is stated once, then each command and each answer by the branch that it takes. -/
theorem planeFrames : Obligations.PlaneFrames := by
  unfold Obligations.PlaneFrames
  refine ⟨fun s l p hrun hp hout hrep => ?_, fun s l h => exec_planeFrame_idle h, fun s l p f r x hrun hst hp hrep hlive hkept => ?_,
    fun s l h => exec_replaySend_idle h, fun s l c h hl => State.laneDown_ready h hl (by omega) c,
    fun s g alive flash plane ftype ack nak halive hflash hplane htype hack hnak => ⟨fun h => ?_, fun h => ?_⟩,
    fun s l flash plane ftype => ⟨fun f hf htype hlive hopen => State.answer_ack hf htype hlive hopen,
      fun nak hf => State.answer_stray hf nak⟩,
    fun s l f r h => exec_ackTimeout_refuses h, fun s l h => exec_ackTimeout_none h,
    fun s l kind f k c ha htype hlive hc => ⟨State.refused_late ha htype hlive hc l kind, fun htime p hp => ?_⟩⟩
  · obtain ⟨hl, -⟩ := List.getElem?_eq_some_iff.mp hp
    obtain rfl := State.pln_of_getElem? hp
    refine ⟨exec_planeFrame_train hrun hl hout hrep, exec_planeFrame_request hrun hout hrep,
      fun k t n hst hcc ha hnext hlive ht hdue => ⟨exec_planeFrame_sync hrun hl hout hrep hst hcc ha hnext hlive ht hdue,
        exec_planeFrame_plane hrun hl hout hrep hst hcc ha hnext hlive ht hdue⟩⟩
  · obtain ⟨hl, -⟩ := List.getElem?_eq_some_iff.mp hp
    obtain rfl := State.pln_of_getElem? hp
    exact exec_replaySend_sends hrun hst hl hrep hlive hkept
  · refine congrArg Host.Outcome.next ((State.receive_new h (readReturn_ackMsg halive)).trans ?_)
    exact State.takeMessage_ackMsg hflash hplane htype hack hnak _ _ _
  · exact congrArg Host.Outcome.next (State.receive_repeated h (readReturn_ackMsg halive))
  · obtain ⟨hl, -⟩ := List.getElem?_eq_some_iff.mp hp
    obtain rfl := State.pln_of_getElem? hp
    exact State.refused_again ha htype hlive hc hl kind htime

end Sys2Proof.Machine

/-! # Return messages and lane states (O45, R203, R215 to R223) -/

namespace Sys2Proof.Machine

open Sys2Proof

set_option Elab.async false

/-! ### A return lane's data -/

theorem State.ret_modRet_same {s : State} {g : Nat} (h : g < s.link.rets.length) (f : RLane → RLane) :
    (s.modRet g f).ret g = f (s.ret g) := by
  simp [State.ret, State.modRet, lmod, h]

/-- A change that leaves a return lane of PORn as it is holds of every lane, one of the device's or not. -/
theorem State.ret_modRet_reset (s : State) (g : Nat) {f : RLane → RLane} (hf : f RLane.reset = RLane.reset) :
    (s.modRet g f).ret g = f (s.ret g) := by
  by_cases h : g < s.link.rets.length
  · exact State.ret_modRet_same h f
  · have hnone : s.link.rets[g]? = none := List.getElem?_eq_none (Nat.le_of_not_lt h)
    simp [State.ret, State.modRet, lmod, hnone, hf]

/-- A locked return lane is one of the device's. -/
theorem State.lt_of_lock {s : State} {g : Nat} (h : (s.ret g).lock = true) : g < s.link.rets.length := by
  by_contra hg
  rw [State.ret, List.getD_eq_default _ _ (Nat.le_of_not_lt hg)] at h
  exact absurd h (by decide)

theorem State.modRet_laneState (s : State) (g : Nat) (f : RLane → RLane) (l : Nat) : (s.modRet g f).laneState l = s.laneState l := rfl

theorem heard_keeps (s : State) (g alive : Nat) : Keeps s (heard s g alive) [.link] := s.modRet_keeps g _

theorem heard_laneState (s : State) (g alive l : Nat) : (heard s g alive).laneState l = s.laneState l := rfl

theorem heard_pln (s : State) (g alive l : Nat) : (heard s g alive).pln l = s.pln l := rfl

theorem Hears.ret_heard {s : State} {g alive : Nat} (h : Hears s g alive) :
    (heard s g alive).ret g = { s.ret g with alive := some alive, echo := alive } := State.ret_modRet_same (State.lt_of_lock h.2.1) _

/-! ### Lanes that go DOWN together (R217, R220) -/

/-- Lanes of a list go DOWN. -/
def State.lanesDown (s : State) (ls : List Nat) (c : Nat) : State := ls.foldl (fun t l => t.laneDown l c) s

theorem State.lanesDown_keeps (s : State) (ls : List Nat) (c : Nat) : Keeps s (s.lanesDown ls c) [.regs, .link, .journal] :=
  .foldl (fun t l => t.laneDown_keeps l c) ls s

theorem State.lanesDown_ret (s : State) (ls : List Nat) (c g : Nat) : (s.lanesDown ls c).ret g = s.ret g :=
  List.foldlRecOn (motive := fun (t : State) => t.ret g = s.ret g) ls _ rfl fun t ht l _ => (t.laneDown_ret l c g).trans ht

theorem State.lanesDown_seen {s : State} (h : s.f PUN_STATUS.DOWN_SEEN = 1) (ls : List Nat) (c : Nat) :
    (s.lanesDown ls c).f PUN_STATUS.DOWN_SEEN = 1 :=
  List.foldlRecOn (motive := fun (t : State) => t.f PUN_STATUS.DOWN_SEEN = 1) ls _ h fun _ ht _ _ => State.laneDown_seen (.inr ht)

theorem State.lanesDown_notReady {s : State} {k : Nat} (h : s.laneState k ≠ 5) (hk : k < 72) (ls : List Nat) (c : Nat) :
    (s.lanesDown ls c).laneState k ≠ 5 :=
  List.foldlRecOn (motive := fun (t : State) => t.laneState k ≠ 5) ls _ h fun _ ht l _ => State.laneDown_notReady ht l c hk

/-- A lane outside the list keeps its state. -/
theorem State.lanesDown_other (s : State) {ls : List Nat} {k : Nat} (hk : k < 72) (hls : k ∉ ls) (c : Nat) :
    (s.lanesDown ls c).laneState k = s.laneState k := by
  refine List.foldlRecOn (motive := fun (t : State) => t.laneState k = s.laneState k) ls _ rfl fun t ht l hl => ?_
  rw [t.laneDown_laneState l c hk]
  exact (if_neg (not_and_of_not_left _ fun h : k = l => hls (h ▸ hl))).trans ht

/-- No lane of the list is READY. -/
theorem State.lanesDown_down (s : State) {ls : List Nat} {k : Nat} (hk : k < 72) (hls : k ∈ ls) (c : Nat) :
    (s.lanesDown ls c).laneState k ≠ 5 := by
  obtain ⟨before, after, rfl⟩ := List.append_of_mem hls
  have hsplit : s.lanesDown (before ++ k :: after) c = ((s.lanesDown before c).laneDown k c).lanesDown after c := List.foldl_append
  rw [hsplit]
  exact State.lanesDown_notReady (State.laneDown_self _ c hk) hk after c

/-- A field of Punty keeps its value but for the lanes' states and DOWN_SEEN. -/
theorem State.lanesDown_f (s : State) (ls : List Nat) (c : Nat) {x : Fld} (hx : x.OfPunty) (hl : ∀ l ∈ ls, x.addr ≠ PUN_LANE_STATE.off l)
    (hseen : x.key ≠ PUN_STATUS.DOWN_SEEN.key) : (s.lanesDown ls c).f x = s.f x :=
  List.foldlRecOn (motive := fun (t : State) => t.f x = s.f x) ls _ rfl fun t ht l hm => (t.laneDown_f l c hx (hl l hm) hseen).trans ht

theorem not_mem_groupLanes {g k : Nat} (hg : g < 8) (hk : 64 ≤ k) : k ∉ groupLanes g := fun h => by
  have := mem_groupLanes_lt hg h
  omega

theorem mem_groupLanes {g i : Nat} (hi : i < 8) : 8 * g + i ∈ groupLanes g := by
  simp [groupLanes, hi]

/-- A return lane is DOWN, and its group's plane lanes are going to be. -/
def State.echoLost (s : State) (g c : Nat) : State := (s.laneDown (64 + g) c).modRet g (fun r => { r with echo := 0, good := false })

theorem State.retDown_eq (s : State) (g c : Nat) : s.retDown g c = ((s.echoLost g c).lanesDown (groupLanes g) 3).settleTrain := by
  unfold State.retDown State.lanesDown State.echoLost
  rfl

theorem State.echoLost_keeps (s : State) (g c : Nat) : Keeps s (s.echoLost g c) [.regs, .link, .journal] :=
  (s.laneDown_keeps _ c).then (State.modRet_keeps _ g _)

theorem State.retDown_keeps (s : State) (g c : Nat) : Keeps s (s.retDown g c) [.regs, .link, .power, .journal, .gaf] := by
  have hdown : Keeps s ((s.echoLost g c).lanesDown (groupLanes g) 3) [.regs, .link, .journal] :=
    (s.echoLost_keeps g c).then (State.lanesDown_keeps _ _ 3)
  rw [State.retDown_eq]
  exact hdown.mono.then (State.settleTrain_settles _).1

theorem State.retDown_ret (s : State) (g c : Nat) : (s.retDown g c).ret g = { s.ret g with echo := 0, good := false } := by
  rw [State.retDown_eq, State.settleTrain_ret, State.lanesDown_ret, State.echoLost, State.ret_modRet_reset _ _ rfl, State.laneDown_ret]

theorem State.retDown_plane (s : State) (g c : Nat) (hg : g < 8) {i : Nat} (hi : i < 8) : (s.retDown g c).laneState (8 * g + i) ≠ 5 := by
  rw [State.retDown_eq, State.settleTrain_laneState _ (by omega)]
  exact State.lanesDown_down _ (by omega) (mem_groupLanes hi) 3

theorem State.retDown_laneState (s : State) (c : Nat) {g k : Nat} (hg : g < 8) (hk : 64 ≤ k) (h72 : k < 72) :
    (s.retDown g c).laneState k = (s.laneDown (64 + g) c).laneState k := by
  rw [State.retDown_eq, State.settleTrain_laneState _ h72, State.lanesDown_other _ h72 (not_mem_groupLanes hg hk)]
  rfl

theorem State.retDown_seen {s : State} {g : Nat} (h : s.laneState (64 + g) = 5) (c : Nat) :
    (s.retDown g c).f PUN_STATUS.DOWN_SEEN = 1 := by
  have hseen : PUN_STATUS.DOWN_SEEN.OfPunty := ⟨by decide, by decide, by decide⟩
  rw [State.retDown_eq, (State.settleTrain_settles _).2.1 _ hseen.not_mem]
  exact State.lanesDown_seen (s := s.echoLost g c) (State.laneDown_seen (.inl h)) _ 3

/-- A field of Punty keeps its value but for the lanes' states and DOWN_SEEN. -/
theorem State.retDown_f (s : State) (c : Nat) {g : Nat} {x : Fld} (hx : x.OfPunty) (hl : ∀ l, l < 72 → x.addr ≠ PUN_LANE_STATE.off l)
    (hg : g < 8) (hseen : x.key ≠ PUN_STATUS.DOWN_SEEN.key) : (s.retDown g c).f x = s.f x := by
  rw [State.retDown_eq, (State.settleTrain_settles _).2.1 _ hx.not_mem, State.lanesDown_f _ _ 3 hx (fun l hm => hl l ?_) hseen]
  · exact s.laneDown_f (64 + g) c hx (hl _ (by omega)) hseen
  · have := mem_groupLanes_lt hg hm
    omega

/-! ### LINK_STATUS (R220, R221) -/

theorem readReturn_statusMsg {alive locked aligned : Nat} (halive : alive < 256) :
    readReturn (statusMsg alive locked aligned).blocks = some (statusMsg alive locked aligned) := by
  refine readReturn_blocks (by simp [statusMsg]) halive ?_ (Nat.two_pow_pos 128)
  simp only [statusMsg]
  omega

theorem State.takeMessage_statusMsg {locked aligned : Nat} (hlocked : locked < 256) (haligned : aligned < 256) (t : State) (g alive : Nat) :
    t.takeMessage g (statusMsg alive locked aligned) = t.takeStatus g locked aligned := by
  have htake : t.takeMessage g (statusMsg alive locked aligned) =
      t.takeStatus g (bits (statusMsg alive locked aligned).af 0 8) (bits (statusMsg alive locked aligned).af 8 8) := by
    have hne {n : Nat} (hn : n < 5) : ¬ (statusMsg alive locked aligned).mtype = n := Nat.ne_of_gt hn
    rw [State.takeMessage, if_neg (hne (by decide : 1 < 5)), if_neg (hne (by decide : 2 < 5)), if_neg (hne (by decide : 3 < 5)),
      if_neg (hne (by decide : 4 < 5))]
  have hlock : bits (statusMsg alive locked aligned).af 0 8 = locked := by
    simp only [statusMsg, bits]
    omega
  have halign : bits (statusMsg alive locked aligned).af 8 8 = aligned := by
    simp only [statusMsg, bits]
    omega
  rw [htake, hlock, halign]

theorem State.lockBit_keeps (s : State) (l : Nat) (ok : Bool) : Keeps s (s.lockBit l ok) [.regs, .link, .journal] :=
  .ite _ (s.laneDown_keeps l 4) (.ite _ (s.put_keeps _ _).mono (.refl s _))

theorem State.lockBit_ret (s : State) (l : Nat) (ok : Bool) (g : Nat) : (s.lockBit l ok).ret g = s.ret g := by
  unfold State.lockBit
  extract_lets st
  split
  · exact s.laneDown_ret l 4 g
  · split <;> rfl

theorem State.lockBit_other (s : State) {l k : Nat} (hk : k < 72) (h : k ≠ l) (ok : Bool) : (s.lockBit l ok).laneState k = s.laneState k := by
  unfold State.lockBit
  extract_lets st
  split
  · rw [s.laneDown_laneState l 4 hk, if_neg fun hc => h hc.1]
  · split
    · rw [State.laneState_setLane, if_neg h]
    · rfl

/-- What a LINK_STATUS tells of the plane lanes of a group. -/
def State.lockBits (s : State) (g locked aligned : Nat) : State :=
  (List.range 8).foldl (fun u i => u.lockBit (8 * g + i) (bit locked i && bit aligned i)) s

theorem State.lockBits_keeps (s : State) (g locked aligned : Nat) : Keeps s (s.lockBits g locked aligned) [.regs, .link, .journal] :=
  .foldl (fun t _ => t.lockBit_keeps _ _) _ s

theorem State.lockBits_ret (s : State) (g locked aligned k : Nat) : (s.lockBits g locked aligned).ret k = s.ret k :=
  List.foldlRecOn (motive := fun (t : State) => t.ret k = s.ret k) _ _ rfl fun t ht _ _ => (t.lockBit_ret _ _ k).trans ht

theorem State.lockBits_other (s : State) {g k : Nat} (hg : g < 8) (hk : 64 ≤ k) (h72 : k < 72) (locked aligned : Nat) :
    (s.lockBits g locked aligned).laneState k = s.laneState k := by
  refine List.foldlRecOn (motive := fun (t : State) => t.laneState k = s.laneState k) _ _ rfl fun t ht i hi => ?_
  have hlt := List.mem_range.mp hi
  exact (t.lockBit_other h72 (by omega) _).trans ht

theorem State.trainAsk_keeps (s : State) (g : Nat) : Keeps s (s.trainAsk g) [.regs, .power] :=
  .ite _ (.ite _ (s.sendWaiting_keeps _).mono (.ite _ (.refl s _) (s.askLeave_keeps _ _))) (.refl s _)

/-- A return lane that is READY stays it while its group asks for leave. -/
theorem State.trainAsk_ready {s : State} {g : Nat} (h : s.laneState (64 + g) = 5) (hg : g < 8) : (s.trainAsk g).laneState (64 + g) = 5 := by
  unfold State.trainAsk
  split
  · split
    · have hsend := s.sendWaiting_laneState (groupLanes g) (64 + g)
      rw [if_neg (by omega)] at hsend
      exact hsend.trans h
    · split
      · exact h
      · exact (s.askLeave_keepsFields _ _ _ (ofPunty_laneState (by omega) (by decide)).not_mem).trans h
  · exact h

/-- The return lane of a LINK_STATUS is READY. -/
def State.statusHeard (s : State) (g : Nat) : State := (s.modRet g (fun r => { r with good := true })).setLane (64 + g) 5

theorem State.takeStatus_eq (s : State) (g locked aligned : Nat) :
    s.takeStatus g locked aligned = (((s.statusHeard g).lockBits g locked aligned).trainAsk g).settleTrain := rfl

theorem State.takeStatus_keeps (s : State) (g locked aligned : Nat) :
    Keeps s (s.takeStatus g locked aligned) [.regs, .link, .power, .journal, .gaf] := by
  have hheard : Keeps s (s.statusHeard g) [.regs, .link] := .then (.mono (s.modRet_keeps g _)) (State.put_keeps _ _ _)
  rw [State.takeStatus_eq]
  exact ((hheard.mono.then (State.lockBits_keeps _ g locked aligned)).then (State.trainAsk_keeps _ g)).then (State.settleTrain_settles _).1

theorem State.takeStatus_laneState (s : State) {g : Nat} (hg : g < 8) (locked aligned : Nat) :
    (s.takeStatus g locked aligned).laneState (64 + g) = 5 := by
  rw [State.takeStatus_eq, State.settleTrain_laneState _ (by omega)]
  refine State.trainAsk_ready ?_ hg
  rw [State.lockBits_other _ hg (by omega) (by omega), State.statusHeard, State.laneState_setLane, if_pos rfl]

theorem State.takeStatus_ret {s : State} {g : Nat} (h : g < s.link.rets.length) (locked aligned : Nat) :
    (s.takeStatus g locked aligned).ret g = { s.ret g with good := true } := by
  rw [State.takeStatus_eq, State.settleTrain_ret, State.ret_congr ((State.trainAsk_keeps _ g).2 .link (by decide)), State.lockBits_ret]
  exact State.ret_modRet_same h _

theorem exec_linkStatus_heard {s : State} {g : Fin 8} {alive locked aligned : Nat} (halive : alive < 256) (hlocked : locked < 256)
    (haligned : aligned < 256) (h : Hears s g alive) : Gives (exec (.linkStatus g alive locked aligned) s) (fun t =>
      t.laneState (64 + g) = 5 ∧ (t.ret g).good = true ∧ (t.ret g).alive = some alive ∧ (t.ret g).echo = alive ∧
      Keeps s t [.regs, .link, .power, .journal, .gaf]) := by
  have hlen : g.val < (heard s g alive).link.rets.length := by
    have hheard : (heard s g alive).link.rets.length = s.link.rets.length := by
      simp only [heard, State.modRet, lmod]
      split
      · exact List.length_set
      · rfl
    exact hheard ▸ State.lt_of_lock h.2.1
  have hret := (State.takeStatus_ret hlen locked aligned).trans (by rw [h.ret_heard])
  refine ⟨(heard s g alive).takeStatus g locked aligned,
    congrArg Host.Outcome.next ((State.receive_new h (readReturn_statusMsg halive)).trans
      (State.takeMessage_statusMsg hlocked haligned _ _ _)), State.takeStatus_laneState _ g.isLt _ _, ?_, ?_, ?_,
    (heard_keeps s g alive).mono.then (State.takeStatus_keeps _ g locked aligned)⟩
  all_goals rw [hret]

/-! ### TAP_REQ (R221, R223) -/

/-- A flag above the fields of a number is read back. -/
theorem bit_add_b2n {v n : Nat} (h : v < 2 ^ n) (b : Bool) : bit (v + b2n b * 2 ^ n) n = b := by
  rw [bit, Nat.add_mul_div_right _ _ (Nat.two_pow_pos n), Nat.div_eq_of_lt h]
  cases b <;> rfl

theorem readReturn_tapMsg {alive lane pre main post : Nat} {done : Bool} (halive : alive < 256) :
    readReturn (tapMsg alive lane pre main post done).blocks = some (tapMsg alive lane pre main post done) := by
  refine readReturn_blocks (by simp [tapMsg]) halive ?_ (Nat.two_pow_pos 128)
  have := b2n_le_one done
  simp only [tapMsg]
  omega

theorem State.takeMessage_tapMsg {lane pre main post : Nat} (hlane : lane < 64) (hpre : pre < 4) (hmain : main < 4) (hpost : post < 4)
    (t : State) (g alive : Nat) (done : Bool) :
    t.takeMessage g (tapMsg alive lane pre main post done) = t.takeTap g lane pre main post done := by
  have htake : t.takeMessage g (tapMsg alive lane pre main post done) =
      t.takeTap g (bits (tapMsg alive lane pre main post done).af 0 6) (bits (tapMsg alive lane pre main post done).af 6 2)
        (bits (tapMsg alive lane pre main post done).af 8 2) (bits (tapMsg alive lane pre main post done).af 10 2)
        (bit (tapMsg alive lane pre main post done).af 12) := rfl
  have hdone : bit (tapMsg alive lane pre main post done).af 12 = done := bit_add_b2n (by omega) done
  rw [htake, hdone]
  congr 1 <;> simp only [tapMsg, bits] <;> omega

/-- The taps that a request leaves: set where it keeps within the limits, marked where it would break one. -/
def State.tapped (t : State) (l pre main post : Nat) : State :=
  match tapRequest (t.pln l).taps (t.pln l).preset pre main post with
  | some taps => t.modPln l (fun q => { q with taps := taps, tapReqs := q.tapReqs + 1, applied := q.applied + 1 })
  | none => ((t.flag (PUN_LANE_STATE.AT_LIMIT l)).flag PUN_STATUS.LIMIT_SEEN).modPln l (fun q => { q with tapReqs := q.tapReqs + 1 })

theorem atLimit_ne_seen (l : Nat) : (PUN_LANE_STATE.AT_LIMIT l).key ≠ PUN_STATUS.LIMIT_SEEN.key :=
  key_ne_of_addr (by simp only [PUN_LANE_STATE.AT_LIMIT, PUN_LANE_STATE.off, PUN_STATUS.LIMIT_SEEN, PUN_STATUS.off]; omega)
    (show 3 < 64 by decide) (by decide)

section

variable {t : State} {l pre main post : Nat}

theorem State.tapped_keeps (t : State) (l pre main post : Nat) : Keeps t (t.tapped l pre main post) [.regs, .link] := by
  unfold State.tapped
  split
  · exact (t.modPln_keeps l _).mono
  · exact .then (.mono ((t.flag_keeps _).then (State.flag_keeps _ _))) (State.modPln_keeps _ l _)

theorem State.tapped_laneState (t : State) (l pre main post k : Nat) : (t.tapped l pre main post).laneState k = t.laneState k := by
  have hlimit (u : State) : (u.flag (PUN_LANE_STATE.AT_LIMIT l)).laneState k = u.laneState k :=
    u.f_put_other 1 (by simp only [PUN_LANE_STATE.STATE, PUN_LANE_STATE.AT_LIMIT, PUN_LANE_STATE.off, Fld.key]; omega)
  unfold State.tapped
  split
  · rfl
  · exact (State.laneState_put (x := PUN_STATUS.LIMIT_SEEN) (by decide) (by decide) (t.flag (PUN_LANE_STATE.AT_LIMIT l)) 1 k).trans (hlimit t)

theorem State.tapped_taken (hl : l < t.link.lanes.length) {taps : Nat × Nat × Nat}
    (h : tapRequest (t.pln l).taps (t.pln l).preset pre main post = some taps) :
    ((t.tapped l pre main post).pln l).taps = taps ∧ ((t.tapped l pre main post).pln l).tapReqs = (t.pln l).tapReqs + 1 ∧
    ((t.tapped l pre main post).pln l).applied = (t.pln l).applied + 1 ∧
    (t.tapped l pre main post).f (PUN_LANE_STATE.AT_LIMIT l) = t.f (PUN_LANE_STATE.AT_LIMIT l) := by
  simp only [State.tapped, h]
  rw [State.pln_modPln_same hl]
  exact ⟨rfl, rfl, rfl, rfl⟩

theorem State.tapped_limit (hl : l < t.link.lanes.length) (h : tapRequest (t.pln l).taps (t.pln l).preset pre main post = none) :
    ((t.tapped l pre main post).pln l).taps = (t.pln l).taps ∧
    ((t.tapped l pre main post).pln l).tapReqs = (t.pln l).tapReqs + 1 ∧
    ((t.tapped l pre main post).pln l).applied = (t.pln l).applied ∧
    (t.tapped l pre main post).f (PUN_LANE_STATE.AT_LIMIT l) = 1 ∧ (t.tapped l pre main post).f PUN_STATUS.LIMIT_SEEN = 1 := by
  simp only [State.tapped, h]
  have hp := State.pln_modPln_same (s := (t.flag (PUN_LANE_STATE.AT_LIMIT l)).flag PUN_STATUS.LIMIT_SEEN) hl
    (fun q => { q with tapReqs := q.tapReqs + 1 })
  rw [hp]
  exact ⟨rfl, rfl, rfl, (State.f_put_other _ 1 (atLimit_ne_seen l)).trans (State.f_put_same _ _ 1),
    State.f_put_same _ PUN_STATUS.LIMIT_SEEN 1⟩

theorem State.takeTap_eq {g : Nat} (hlane : l / 8 = g) (hstate : t.laneState l = 3) (done : Bool) :
    t.takeTap g l pre main post done = if done then (t.tapped l pre main post).setLane l 4
      else if 4096 ≤ (t.pln l).tapReqs + 1 then (t.tapped l pre main post).laneFail l
      else t.tapped l pre main post := if_pos ⟨hlane, hstate⟩

end

section

variable {s : State} {g : Fin 8} {alive : Nat} {l : Fin 64} {pre main post : Nat} (halive : alive < 256) (hpre : pre < 4) (hmain : main < 4)
  (hpost : post < 4) (h : Hears s g alive) (hlane : l.val / 8 = g.val) (hstate : s.laneState l = 3)

include halive hpre hmain hpost h hlane hstate

theorem exec_tapReq_heard (done : Bool) : exec (.tapReq g alive l pre main post done) s =
    .next (if done then ((heard s g alive).tapped l pre main post).setLane l 4
      else if 4096 ≤ (s.pln l).tapReqs + 1 then ((heard s g alive).tapped l pre main post).laneFail l
      else (heard s g alive).tapped l pre main post) := by
  refine congrArg Host.Outcome.next ((State.receive_new h (readReturn_tapMsg halive)).trans ?_)
  rw [State.takeMessage_tapMsg l.isLt hpre hmain hpost]
  exact (State.takeTap_eq (t := heard s g alive) hlane hstate done).trans (by rw [heard_pln])

theorem exec_tapReq_failing (hmany : 4096 ≤ (s.pln l).tapReqs + 1) : Gives (exec (.tapReq g alive l pre main post false) s) (fun t =>
    t.laneState l = 6 ∧ t.f (PUN_LANE_STATE.CAUSE l) = 3 ∧ Keeps s t [.regs, .link, .power, .journal, .gaf]) := by
  refine ⟨_, (exec_tapReq_heard halive hpre hmain hpost h hlane hstate false).trans
    (congrArg Host.Outcome.next ((if_neg (by decide)).trans (if_pos hmany))), ?_⟩
  have hthree : ((heard s g alive).tapped l pre main post).laneState l = 3 := (State.tapped_laneState _ _ _ _ _ _).trans hstate
  obtain ⟨hfail, hcause⟩ := State.laneFail_spec ((heard s g alive).tapped l pre main post) (l := l) (by omega) (by omega)
  have hkeep : Keeps s ((heard s g alive).tapped l pre main post) [.regs, .link] :=
    (heard_keeps s g alive).mono.then (State.tapped_keeps _ l pre main post)
  exact ⟨hfail, hcause.trans hthree, hkeep.mono.then (State.laneFail_keeps _ l)⟩

variable (hl : l.val < s.link.lanes.length)

include hl

theorem exec_tapReq_done : Gives (exec (.tapReq g alive l pre main post true) s) (fun t => t.laneState l = 4 ∧
    (∀ taps, tapRequest (s.pln l).taps (s.pln l).preset pre main post = some taps →
      (t.pln l).taps = taps ∧ (t.pln l).applied = (s.pln l).applied + 1) ∧
    (tapRequest (s.pln l).taps (s.pln l).preset pre main post = none → (t.pln l).taps = (s.pln l).taps ∧
      (t.pln l).applied = (s.pln l).applied ∧ t.f (PUN_LANE_STATE.AT_LIMIT l) = 1 ∧ t.f PUN_STATUS.LIMIT_SEEN = 1) ∧
    Keeps s t [.regs, .link]) := by
  refine ⟨_, (exec_tapReq_heard halive hpre hmain hpost h hlane hstate true).trans (congrArg Host.Outcome.next (if_pos rfl)), ?_⟩
  have hlen : l.val < (heard s g alive).link.lanes.length := hl
  refine ⟨(State.laneState_setLane _ l 4 l).trans (if_pos rfl), fun taps htaps => ?_, fun hnone => ?_,
    ((heard_keeps s g alive).mono.then (State.tapped_keeps _ l pre main post)).then (State.put_keeps _ _ 4)⟩
  · obtain ⟨hset, -, happlied, -⟩ := State.tapped_taken hlen htaps
    exact ⟨hset, happlied⟩
  · obtain ⟨hset, -, happlied, hlimit, hseen⟩ := State.tapped_limit hlen hnone
    refine ⟨hset, happlied, (State.f_put_other _ 4 ?_).trans hlimit,
      (State.f_setLane_other ?_ (by decide) _ 4).trans hseen⟩
    · simp [PUN_LANE_STATE.AT_LIMIT, PUN_LANE_STATE.STATE, Fld.key]
    · simp only [PUN_STATUS.LIMIT_SEEN, PUN_STATUS.off, PUN_LANE_STATE.off]
      omega

theorem exec_tapReq_more (hfew : (s.pln l).tapReqs + 1 < 4096) : Gives (exec (.tapReq g alive l pre main post false) s) (fun t =>
    t.laneState l = 3 ∧ (t.pln l).tapReqs = (s.pln l).tapReqs + 1 ∧
    (t.pln l).taps = (tapRequest (s.pln l).taps (s.pln l).preset pre main post).getD (s.pln l).taps ∧
    (t.f (PUN_LANE_STATE.AT_LIMIT l) = 1 ↔
      s.f (PUN_LANE_STATE.AT_LIMIT l) = 1 ∨ tapRequest (s.pln l).taps (s.pln l).preset pre main post = none) ∧
    Keeps s t [.regs, .link]) := by
  refine ⟨_, (exec_tapReq_heard halive hpre hmain hpost h hlane hstate false).trans
    (congrArg Host.Outcome.next ((if_neg (by decide)).trans (if_neg (by omega)))), (State.tapped_laneState _ _ _ _ _ _).trans hstate, ?_⟩
  have hkeep : Keeps s ((heard s g alive).tapped l pre main post) [.regs, .link] :=
    (heard_keeps s g alive).mono.then (State.tapped_keeps _ l pre main post)
  have hlen : l.val < (heard s g alive).link.lanes.length := hl
  cases htaps : tapRequest (s.pln l).taps (s.pln l).preset pre main post with
  | none =>
    obtain ⟨hset, hreqs, -, hlimit, -⟩ := State.tapped_limit hlen htaps
    exact ⟨hreqs, hset, by simp [hlimit], hkeep⟩
  | some taps =>
    obtain ⟨hset, hreqs, -, hlimit⟩ := State.tapped_taken hlen htaps
    refine ⟨hreqs, hset, ?_, hkeep⟩
    rw [hlimit]
    simp only [reduceCtorEq, or_false]
    rfl

end

/-! ### TEMP (R154, R217) -/

theorem readReturn_tempMsg {alive valid : Nat} {ovt : Bool} {sensors : List Int} (halive : alive < 256) :
    readReturn (tempMsg alive valid ovt sensors).blocks = some (tempMsg alive valid ovt sensors) := by
  refine readReturn_blocks (by simp [tempMsg]) halive ?_ ?_
  · have := b2n_le_one ovt
    simp only [tempMsg]
    omega
  · refine (packBits_lt _ _).trans_le (Nat.pow_le_pow_right (by decide) ?_)
    rw [List.length_map, List.length_take]
    omega

theorem tempMsg_sensor {sensors : List Int} (hlen : sensors.length = 8) (hin : ∀ x ∈ sensors, -32768 ≤ x ∧ x < 32768) (alive valid : Nat)
    (ovt : Bool) {n : Nat} (hn : n < sensors.length) :
    sgn 16 (bits (tempMsg alive valid ovt sensors).body (16 * n) 16) = sensors[n] := by
  obtain ⟨hlo, hhi⟩ := hin _ (List.getElem_mem hn)
  have hbits : bits (tempMsg alive valid ovt sensors).body (16 * n) 16 = ofInt 16 sensors[n] % 2 ^ 16 := by
    rw [bits, tempMsg, List.take_of_length_le (by omega), packBits_div, ← List.map_drop, List.drop_eq_getElem_cons hn, List.map_cons,
      packBits, Nat.add_mul_mod_self_left, Nat.mod_mod]
  rw [hbits, sgn_ofInt hlo (by omega)]

theorem State.takeMessage_tempMsg {valid : Nat} {sensors : List Int} (hvalid : valid < 256) (hlen : sensors.length = 8)
    (hin : ∀ x ∈ sensors, -32768 ≤ x ∧ x < 32768) (t : State) (g alive : Nat) (ovt : Bool) :
    t.takeMessage g (tempMsg alive valid ovt sensors) = t.takeTemp valid ovt sensors := by
  have htake : t.takeMessage g (tempMsg alive valid ovt sensors) = t.takeTemp (bits (tempMsg alive valid ovt sensors).af 0 8)
      (bit (tempMsg alive valid ovt sensors).af 8)
      ((List.range 8).map (fun n => sgn 16 (bits (tempMsg alive valid ovt sensors).body (16 * n) 16))) := rfl
  have hbits : bits (tempMsg alive valid ovt sensors).af 0 8 = valid := by
    simp only [tempMsg, bits]
    omega
  have hovt : bit (tempMsg alive valid ovt sensors).af 8 = ovt := bit_add_b2n (by omega) ovt
  have hlist : (List.range 8).map (fun n => sgn 16 (bits (tempMsg alive valid ovt sensors).body (16 * n) 16)) = sensors := by
    refine List.ext_getElem (by simp [hlen]) fun n _ hn => ?_
    rw [List.getElem_map, List.getElem_range]
    exact tempMsg_sensor hlen hin alive valid ovt hn
  rw [htake, hbits, hovt, hlist]

theorem State.takeTemp_cool (t : State) (valid : Nat) (sensors : List Int) :
    t.takeTemp valid false sensors = (t.tempReport valid sensors).pulse 9 := by
  unfold State.takeTemp
  extract_lets t1
  exact if_neg (by decide)

theorem State.tempReport_keeps (s : State) (valid : Nat) (sensors : List Int) : Keeps s (s.tempReport valid sensors) [.regs, .beam] := by
  unfold State.tempReport
  split
  · exact .then (.mono (s.put_keeps _ _)) (keeps_beam _ _)
  · exact (s.flag_keeps _).mono

theorem State.tempReport_keepsFields (s : State) (valid : Nat) (sensors : List Int) :
    KeepsFields s (s.tempReport valid sensors) [BMP_TEMP_NOW.T, BMP_STATUS.TEMP_INVALID] := by
  unfold State.tempReport
  split
  · exact (s.put_keepsFields _ _).mono.then (m := []) (.of_regs rfl _)
  · exact (s.put_keepsFields _ 1).mono

theorem State.hottest_keeps (s : State) (valid : Nat) (sensors : List Int) : Keeps s (s.hottest valid sensors).2 [.freeCount] := by
  unfold State.hottest
  split
  · exact s.free_keeps 16
  · exact .refl s _

/-- A stripe in motion that halts is braked: motion state 6 (R295). -/
theorem State.halt_motion {s : State} {a : Stripe} (ha : s.gaf.active = some a) (hh : s.f GAF_STATUS.HALTED ≠ 1) (code th : Nat)
    (args : List Arg) : (s.halt code th args).f MOT_STATUS.STATE = 6 := by
  have he := s.event_f_other (x := GAF_STATUS.HALTED) (by decide) (by decide) code 2 args
  rw [State.halt, State.latchHalt_fresh (s := s.event code 2 args) (he ▸ hh) ha, State.halted_told_f _ _ _ _ (by decide) (by decide)]
  exact State.f_put_same _ MOT_STATUS.STATE 6

/-- An over-temperature of a stripe in motion (R217). -/
theorem State.takeTemp_halts {t : State} (ha : t.gaf.active.isSome = true) (hh : t.f GAF_STATUS.HALTED ≠ 1) (valid : Nat)
    (sensors : List Int) :
    (t.takeTemp valid true sensors).f GAF_STATUS.HALTED = 1 ∧ (t.takeTemp valid true sensors).f GAF_HALT_CAUSE.CODE = 0x0C14 ∧
    (t.takeTemp valid true sensors).f MOT_STATUS.STATE = 6 := by
  obtain ⟨a, ha⟩ := Option.isSome_iff_exists.mp ha
  have hreport := t.tempReport_keeps valid sensors
  have hhot := ((t.tempReport valid sensors).pulse 9).hottest_keeps valid sensors
  obtain ⟨threads, hgaf⟩ := (t.tempReport valid sensors).pulse_gaf 9
  have hactive : (((t.tempReport valid sensors).pulse 9).hottest valid sensors).2.gaf.active = some a := by
    rw [hhot.2 .gaf (by decide), hgaf, hreport.2 .gaf (by decide)]
    exact ha
  have hnot : (((t.tempReport valid sensors).pulse 9).hottest valid sensors).2.f GAF_STATUS.HALTED ≠ 1 := by
    rw [hhot.f_eq, State.pulse_f _ _ (by decide) (by decide), t.tempReport_keepsFields valid sensors _ (by decide)]
    exact hh
  have htake : ∃ th args, t.takeTemp valid true sensors =
      (((t.tempReport valid sensors).pulse 9).hottest valid sensors).2.halt 0x0C14 th args := ⟨_, _, rfl⟩
  obtain ⟨th, args, htake⟩ := htake
  obtain ⟨hhalted, hcode, -⟩ := State.halt_spec hactive hnot 0x0C14 th args
  rw [htake]
  exact ⟨hhalted, hcode, State.halt_motion hactive hnot _ _ _⟩

/-! ### Silence, block lock and the end of a training state (R203, R217, R221) -/

theorem exec_returnLaneTimeout_ready {s : State} {g : Fin 8} (h : s.laneState (64 + g) = 5) :
    Gives (exec (.returnLaneTimeout g) s) (fun t =>
      t.laneState (64 + g) = 0 ∧ t.f PUN_STATUS.DOWN_SEEN = 1 ∧ (∀ i, i < 8 → t.laneState (8 * g + i) ≠ 5) ∧ (t.ret g).echo = 0 ∧
      (t.ret g).alive = (s.ret g).alive ∧ Keeps s t [.regs, .link, .power, .journal, .gaf]) := by
  refine ⟨s.retDown g 1, if_pos h, ?_, State.retDown_seen h 1, fun i hi => s.retDown_plane g 1 g.isLt hi, ?_, ?_, s.retDown_keeps g 1⟩
  · rw [s.retDown_laneState 1 g.isLt (by omega) (by omega), s.laneDown_laneState _ _ (by omega), if_pos ⟨rfl, by omega, by omega⟩]
  · rw [s.retDown_ret]
  · rw [s.retDown_ret]

theorem exec_blockLockLoss_spec (s : State) (g : Fin 8) : Gives (exec (.blockLockLoss g) s) (fun t =>
    (t.ret g).lock = false ∧ t.laneState (64 + g) ≠ 5 ∧ (∀ i, i < 8 → t.laneState (8 * g + i) ≠ 5) ∧
    Keeps s t [.regs, .link, .power, .journal, .gaf]) := by
  have hret := (s.retDown g 2).ret_modRet_reset g (f := fun r => { r with lock := false }) rfl
  have hkeep := (s.retDown_keeps g 2).then ((s.retDown g 2).modRet_keeps g (fun r => { r with lock := false }))
  refine ⟨(s.retDown g 2).modRet g (fun r => { r with lock := false }), rfl, congrArg RLane.lock hret, ?_, fun i hi => ?_, hkeep⟩
  · rw [State.modRet_laneState, s.retDown_laneState 2 g.isLt (by omega) (by omega)]
    exact s.laneDown_self 2 (by omega)
  · rw [State.modRet_laneState]
    exact s.retDown_plane g 2 g.isLt hi

theorem exec_blockLockAcquire_free {s : State} {g : Fin 8} {r : RLane} (h : s.link.rets[g.val]? = some r) (hlock : r.lock = false) :
    Gives (exec (.blockLockAcquire g) s) (fun t => t.ret g = { r with lock := true, good := false } ∧ Keeps s t [.link]) := by
  obtain ⟨hlen, -⟩ := List.getElem?_eq_some_iff.mp h
  obtain rfl := State.ret_of_getElem? h
  exact ⟨_, if_neg (by simp [hlock]), State.ret_modRet_same hlen _, s.modRet_keeps g _⟩

/-- What a lane that listens does with the four payloads of a message that may not be taken (R215). -/
theorem exec_returnMessageDiscard_listens {s : State} {g : Fin 8} {h b0 b1 t : Word} (hrun : s.runs PUN_CTL.ENABLE = true)
    (hlock : (s.ret g).lock = true) (htest : s.laneState (64 + g) ≠ 7) (hh : h.toNat % 256 = 0x2D) (ht : t.toNat % 256 = 0x35) :
    exec (.returnMessageDiscard (g, [h, b0, b1, t])) s =
      if s.readMessage g [h.toNat, b0.toNat, b1.toNat, t.toNat] = none then .next (discarded s) else .next s := by
  have hl : s.listens g = true := (s.listens_iff g).mpr ⟨hrun, hlock, htest⟩
  have hr : isReturn [h.toNat, b0.toNat, b1.toNat, t.toNat] = true := by
    simp only [isReturn, retHeaderType, retTrailerType, hh, ht, decide_true, Bool.and_self]
  by_cases hread : s.readMessage g [h.toNat, b0.toNat, b1.toNat, t.toNat] = none
  · rw [if_pos hread]
    exact if_pos ⟨hl, hr, hread⟩
  · rw [if_neg hread]
    exact if_neg fun hc => hread hc.2.2

theorem State.readMessage_eq_none_iff (s : State) (g : Nat) (h b0 b1 t : Word) :
    s.readMessage g [h.toNat, b0.toNat, b1.toNat, t.toNat] = none ↔
      t.toNat / 2 ^ 32 ≠ crc32c (toLE 8 h.toNat ++ toLE 8 b0.toNat ++ toLE 8 b1.toNat) ∨ bits h.toNat 8 4 = 0 ∨ 5 < bits h.toNat 8 4 ∨
        (s.ret g).alive = some (bits h.toNat 16 8) := by
  have ht : bits t.toNat 32 32 = t.toNat / 2 ^ 32 := Nat.mod_eq_of_lt (by have := t.isLt; omega)
  simp only [State.readMessage, readReturn, ht, retCrc]
  by_cases hok : t.toNat / 2 ^ 32 = crc32c (toLE 8 h.toNat ++ toLE 8 b0.toNat ++ toLE 8 b1.toNat) ∧ 1 ≤ bits h.toNat 8 4 ∧
      bits h.toNat 8 4 ≤ 5
  · rw [if_pos hok]
    obtain ⟨hcrc, hlo, hhi⟩ := hok
    have hzero : ¬ bits h.toNat 8 4 = 0 := by omega
    have hmany : ¬ 5 < bits h.toNat 8 4 := by omega
    simp only [hcrc, hzero, hmany, ne_eq, not_true_eq_false, false_or, ite_eq_left_iff, reduceCtorEq, imp_false, not_not]
  · rw [if_neg hok]
    simp only [true_iff]
    refine Classical.byContradiction fun hc => hok ?_
    simp only [not_or, ne_eq, not_not] at hc
    obtain ⟨hcrc, hlo, hhi, -⟩ := hc
    exact ⟨hcrc, by omega, by omega⟩

theorem discarded_spec (s : State) :
    (discarded s).f PUN_CNT_RETBAD.COUNT = min (s.f PUN_CNT_RETBAD.COUNT + 1) (2 ^ PUN_CNT_RETBAD.COUNT.w - 1) ∧
    (discarded s).f PUN_STATUS.RETBAD_SEEN = 1 ∧ Keeps s (discarded s) [.regs] :=
  ⟨(State.f_put_other _ 1 (by decide)).trans (s.count_f _ 1), State.f_put_same _ _ 1, (s.count_keeps _ 1).then (State.flag_keeps _ _)⟩

theorem exec_trainStateTimeout_fails {s : State} {l : Fin 64} (hlo : 1 ≤ s.laneState l) (hhi : s.laneState l ≤ 3) :
    Gives (exec (.trainStateTimeout l) s) (fun t =>
      t.laneState l = 6 ∧ t.f (PUN_LANE_STATE.CAUSE l) = s.laneState l ∧ Keeps s t [.regs, .link, .power, .journal, .gaf]) := by
  obtain ⟨hfail, hcause⟩ := s.laneFail_spec (l := l) (by omega) (by omega)
  exact ⟨s.laneFail l, if_pos ⟨hlo, hhi⟩, hfail, hcause, s.laneFail_keeps l⟩

end Sys2Proof.Machine

/-! # The PRBS test (O45, R224) -/

namespace Sys2Proof.Machine

open Sys2Proof

set_option Elab.async false

/-! ### The fields of a test -/

/-- A field of a register keeps its value where one at another place of it is set. -/
theorem State.f_put_place (s : State) (v : Nat) {a lo lo' w w' r r' : Nat} (h : lo ≠ lo') :
    (s.put ⟨a, lo', w', r'⟩ v).f ⟨a, lo, w, r⟩ = s.f ⟨a, lo, w, r⟩ :=
  s.f_put_other v (by simp only [Fld.key]; omega)

theorem bits_mod (v lo w : Nat) : bits v lo w % 2 ^ w = bits v lo w := Nat.mod_mod _ _

/-- The fields of a lane's test that are shown beside its control register's. -/
theorem prbsCtl_ne_err (l : Nat) {lo w r : Nat} (hlo : lo < 64) : (Fld.mk (PUN_PRBS_CTL.off l) lo w r).key ≠ (PUN_PRBS_ERR.COUNT l).key :=
  key_ne_of_addr (by simp only [PUN_PRBS_ERR.COUNT, PUN_PRBS_ERR.off, PUN_PRBS_CTL.off]; omega) hlo (show 0 < 64 by decide)

theorem ofPunty_prbsCtl {l : Nat} (hl : l < 72) {lo w r : Nat} (hlo : lo < 64) : (Fld.mk (PUN_PRBS_CTL.off l) lo w r).OfPunty := by
  simp only [Fld.OfPunty, PUN_PRBS_CTL.off]
  omega

theorem prbsCtl_ne_lane (l : Nat) {k : Nat} (hk : k < 72) : PUN_PRBS_CTL.off l ≠ PUN_LANE_STATE.off k := by
  simp only [PUN_PRBS_CTL.off, PUN_LANE_STATE.off]
  omega

theorem prbsCtl_ne_seen (l : Nat) {lo w r : Nat} (hlo : lo < 64) :
    (Fld.mk (PUN_PRBS_CTL.off l) lo w r).key ≠ PUN_STATUS.DOWN_SEEN.key :=
  key_ne_of_addr (by simp only [PUN_STATUS.DOWN_SEEN, PUN_STATUS.off, PUN_PRBS_CTL.off]; omega) hlo (by decide)

/-- A lane's state is in no register of a test. -/
theorem State.laneState_put_prbs (s : State) (l v : Nat) {k : Nat} (hk : k < 72) {lo w r : Nat} (hlo : lo < 64) :
    (s.put ⟨PUN_PRBS_CTL.off l, lo, w, r⟩ v).laneState k = s.laneState k :=
  s.f_put_other v (key_ne_of_addr (prbsCtl_ne_lane l hk).symm (show 0 < 64 by decide) hlo)

/-- What a write of PUN_PRBS_CTL puts into its fields. -/
def State.prbsFields (s : State) (l v : Nat) : State :=
  ((((s.put (PUN_PRBS_CTL.GEN_EN l) (bits v 0 1)).put (PUN_PRBS_CTL.CHK_EN l) (bits v 1 1)).put
    (PUN_PRBS_CTL.PATTERN l) (bits v 2 2)).put (PUN_PRBS_CTL.LOOP l) (bits v 4 1)).put (PUN_PRBS_CTL.RATE l) (bits v 8 8)

/-- The written fields with SYNC, which a change of the pattern or of the checker clears. -/
def State.prbsTaken (s : State) (l v : Nat) : State :=
  if decide (s.f (PUN_PRBS_CTL.PATTERN l) = bits v 2 2) && decide (s.f (PUN_PRBS_CTL.CHK_EN l) = bits v 1 1) &&
      decide (s.f (PUN_PRBS_CTL.LOOP l) = bits v 4 1) then s.prbsFields l v
  else (s.prbsFields l v).put (PUN_PRBS_CTL.SYNC l) 0

/-- The fields of a test as they are written. -/
def Written (t : State) (l v : Nat) : Prop :=
  t.f (PUN_PRBS_CTL.GEN_EN l) = bits v 0 1 ∧ t.f (PUN_PRBS_CTL.CHK_EN l) = bits v 1 1 ∧ t.f (PUN_PRBS_CTL.PATTERN l) = bits v 2 2 ∧
  t.f (PUN_PRBS_CTL.LOOP l) = bits v 4 1 ∧ t.f (PUN_PRBS_CTL.RATE l) = bits v 8 8

/-- The fields of a test stay as written where they keep their values. -/
theorem Written.of_f {s t : State} {l v : Nat} (h : Written s l v)
    (hf : ∀ lo w r, lo < 64 → t.f ⟨PUN_PRBS_CTL.off l, lo, w, r⟩ = s.f ⟨PUN_PRBS_CTL.off l, lo, w, r⟩) : Written t l v := by
  obtain ⟨hgen, hchk, hpattern, hloop, hrate⟩ := h
  exact ⟨(hf _ _ _ (by decide)).trans hgen, (hf _ _ _ (by decide)).trans hchk, (hf _ _ _ (by decide)).trans hpattern,
    (hf _ _ _ (by decide)).trans hloop, (hf _ _ _ (by decide)).trans hrate⟩

theorem State.prbsFields_keeps (s : State) (l v : Nat) : Keeps s (s.prbsFields l v) [.regs] :=
  ((((s.put_keeps _ _).then (State.put_keeps _ _ _)).then (State.put_keeps _ _ _)).then (State.put_keeps _ _ _)).then (State.put_keeps _ _ _)

theorem State.prbsFields_written (s : State) (l v : Nat) : Written (s.prbsFields l v) l v := by
  simp (disch := decide) only [Written, State.prbsFields, PUN_PRBS_CTL.GEN_EN, PUN_PRBS_CTL.CHK_EN, PUN_PRBS_CTL.PATTERN,
    PUN_PRBS_CTL.LOOP, PUN_PRBS_CTL.RATE, State.f_put_place, State.f_put_same, bits_mod, and_self]

theorem State.prbsFields_sync (s : State) (l v : Nat) : (s.prbsFields l v).f (PUN_PRBS_CTL.SYNC l) = s.f (PUN_PRBS_CTL.SYNC l) := by
  simp (disch := decide) only [State.prbsFields, PUN_PRBS_CTL.GEN_EN, PUN_PRBS_CTL.CHK_EN, PUN_PRBS_CTL.PATTERN,
    PUN_PRBS_CTL.LOOP, PUN_PRBS_CTL.RATE, PUN_PRBS_CTL.SYNC, State.f_put_place]

theorem State.prbsFields_errors (s : State) (l v : Nat) :
    (s.prbsFields l v).f (PUN_PRBS_ERR.COUNT l) = s.f (PUN_PRBS_ERR.COUNT l) := by
  have hput (t : State) (v : Nat) {lo w r : Nat} (hlo : lo < 64) :
      (t.put ⟨PUN_PRBS_CTL.off l, lo, w, r⟩ v).f (PUN_PRBS_ERR.COUNT l) = t.f (PUN_PRBS_ERR.COUNT l) :=
    t.f_put_other v (prbsCtl_ne_err l hlo).symm
  simp (disch := decide) only [State.prbsFields, PUN_PRBS_CTL.GEN_EN, PUN_PRBS_CTL.CHK_EN, PUN_PRBS_CTL.PATTERN,
    PUN_PRBS_CTL.LOOP, PUN_PRBS_CTL.RATE, hput]

theorem State.prbsFields_laneState (s : State) (l v : Nat) {k : Nat} (hk : k < 72) : (s.prbsFields l v).laneState k = s.laneState k := by
  have hput (t : State) (v : Nat) {lo w r : Nat} (hlo : lo < 64) :
      (t.put ⟨PUN_PRBS_CTL.off l, lo, w, r⟩ v).laneState k = t.laneState k := t.laneState_put_prbs l v hk hlo
  simp (disch := decide) only [State.prbsFields, PUN_PRBS_CTL.GEN_EN, PUN_PRBS_CTL.CHK_EN, PUN_PRBS_CTL.PATTERN,
    PUN_PRBS_CTL.LOOP, PUN_PRBS_CTL.RATE, hput]

theorem State.prbsTaken_keeps (s : State) (l v : Nat) : Keeps s (s.prbsTaken l v) [.regs] :=
  .ite _ (s.prbsFields_keeps l v) ((s.prbsFields_keeps l v).then (State.put_keeps _ _ 0))

theorem State.prbsTaken_written (s : State) (l v : Nat) : Written (s.prbsTaken l v) l v := by
  unfold State.prbsTaken
  split
  · exact s.prbsFields_written l v
  · have h := s.prbsFields_written l v
    simp (disch := decide) only [Written, PUN_PRBS_CTL.GEN_EN, PUN_PRBS_CTL.CHK_EN, PUN_PRBS_CTL.PATTERN, PUN_PRBS_CTL.LOOP,
      PUN_PRBS_CTL.RATE, PUN_PRBS_CTL.SYNC, State.f_put_place] at h ⊢
    exact h

theorem State.prbsTaken_laneState (s : State) (l v : Nat) {k : Nat} (hk : k < 72) : (s.prbsTaken l v).laneState k = s.laneState k := by
  unfold State.prbsTaken
  split
  · exact s.prbsFields_laneState l v hk
  · exact (State.laneState_put_prbs _ l 0 hk (by decide)).trans (s.prbsFields_laneState l v hk)

/-! ### A write of PUN_PRBS_CTL -/

/-- Whether a write starts the generator: it was off, or its pattern changes. -/
def State.newPattern (s : State) (l v : Nat) : Bool :=
  bit v 0 && (!decide (s.laneState l = 7) || !s.on (PUN_PRBS_CTL.GEN_EN l) || !decide (s.f (PUN_PRBS_CTL.PATTERN l) = bits v 2 2))

/-- A lane enters TEST from the state t: it goes DOWN, a return lane with its group, and its IDLE blocks end. -/
def State.enterTest (t : State) (l : Nat) : State :=
  (((if l < 64 then t.laneDown l 5 else t.retDown (l - 64) 5).idleLine l).setLane l 7).settleTrain

/-- The fields and the pattern of a lane that stays in TEST or leaves it. -/
def State.staysTest (s : State) (l v : Nat) : State :=
  let ends := decide (s.laneState l = 7) && s.on (PUN_PRBS_CTL.GEN_EN l) && (!bit v 0 || s.newPattern l v)
  let t := if ends then (s.prbsTaken l v).send (.patternEnd l) else s.prbsTaken l v
  if !testOn v && decide (s.laneState l = 7) then (t.setLane l 0).modPln l (fun q => { q with freeAt := s.mono100 }) else t

/-- A lane behind the write: in TEST, or out of it. -/
def State.prbsMode (s : State) (l v : Nat) : State :=
  if testOn v && !decide (s.laneState l = 7) then (s.prbsTaken l v).enterTest l else s.staysTest l v

/-- The generator of a lane behind the write. -/
def State.prbsSends (s : State) (l v : Nat) : State :=
  if s.newPattern l v then (s.prbsMode l v).startPattern l else s.prbsMode l v

theorem State.prbsWrite_eq {s : State} {l v : Nat} (h : ¬ (testOn v && !decide (s.laneState l = 7) && s.mot.flashing) = true) :
    s.prbsWrite l v = if bit v 5 then (s.prbsSends l v).flipBit l else s.prbsSends l v := by
  unfold State.prbsWrite
  extract_lets on s1 same s2 newPattern ends s3 s4
  rw [if_neg h]
  rfl

theorem State.staysTest_keeps (s : State) (l v : Nat) : Keeps s (s.staysTest l v) [.regs, .link, .out] := by
  unfold State.staysTest
  extract_lets ends t
  have ht : Keeps s t [.regs, .link, .out] :=
    .ite _ ((s.prbsTaken_keeps l v).mono.then (State.send_keeps _ _)) (s.prbsTaken_keeps l v).mono
  exact .ite _ ((ht.then (State.put_keeps _ _ 0)).then (State.modPln_keeps _ l _)) ht

theorem State.startPattern_keeps (s : State) (l : Nat) : Keeps s (s.startPattern l) [.out] := s.send_keeps _

theorem State.prbsError_keeps (s : State) (l : Nat) : Keeps s (s.prbsError l) [.regs] := .ite _ (s.count_keeps _ 1) (.refl s _)

theorem State.prbsError_keepsFields (s : State) (l : Nat) : KeepsFields s (s.prbsError l) [PUN_PRBS_ERR.COUNT l] :=
  .ite _ (s.count_keepsFields _ 1) (.refl s _)

theorem State.flipBit_keeps (s : State) (l : Nat) : Keeps s (s.flipBit l) [.regs, .out] := by
  have hsend : Keeps s (s.send (.patternFlip l)) [.regs, .out] := (s.send_keeps _).mono
  exact .ite _ (.ite _ (hsend.then (State.prbsError_keeps _ l)) hsend) (.refl s _)

theorem State.flipBit_keepsFields (s : State) (l : Nat) : KeepsFields s (s.flipBit l) [PUN_PRBS_ERR.COUNT l] := by
  have hsend : KeepsFields s (s.send (.patternFlip l)) [PUN_PRBS_ERR.COUNT l] := .of_regs rfl _
  exact .ite _ (.ite _ (hsend.then (State.prbsError_keepsFields _ l) (List.Subset.refl _)) hsend) (.refl s _)

/-- A flipped bit adds to what is sent. -/
theorem State.mem_flipBit_out {s : State} {o : Output} (h : o ∈ s.out) (l : Nat) : o ∈ (s.flipBit l).out := by
  have hsend : o ∈ (s.send (.patternFlip l)).out := List.mem_append_left _ h
  unfold State.flipBit
  extract_lets t
  split
  · split
    · rw [(t.prbsError_keeps l).2 .out (by decide)]
      exact hsend
    · exact hsend
  · exact h

/-- A flipped bit that a synchronised checker sees through the loopback. -/
theorem State.flipBit_counts {s : State} {l : Nat} (hst : s.laneState l = 7) (hgen : s.f (PUN_PRBS_CTL.GEN_EN l) = 1)
    (hloop : s.f (PUN_PRBS_CTL.LOOP l) = 1) (hchk : s.f (PUN_PRBS_CTL.CHK_EN l) = 1) (hsync : s.f (PUN_PRBS_CTL.SYNC l) = 1) :
    s.flipBit l = (s.send (.patternFlip l)).count (PUN_PRBS_ERR.COUNT l) 1 := by
  have hloop' : (s.send (.patternFlip l)).f (PUN_PRBS_CTL.LOOP l) = 1 := hloop
  have hchk' : (s.send (.patternFlip l)).f (PUN_PRBS_CTL.CHK_EN l) = 1 := hchk
  have hsync' : (s.send (.patternFlip l)).f (PUN_PRBS_CTL.SYNC l) = 1 := hsync
  simp [State.flipBit, State.prbsError, State.on, hst, hgen, hloop, hchk', hsync']

/-! ### TEST entered (R224) -/

theorem testOn_iff (v : Nat) : testOn v = true ↔ bit v 0 = true ∨ bit v 1 = true := by simp [testOn]

theorem State.idleLine_keeps (s : State) (l : Nat) : Keeps s (s.idleLine l) [.link, .out] :=
  .ite _ ((s.send_keeps _).mono.then (State.modPln_keeps _ l _)) (.refl s _)

theorem State.enterTest_keeps (t : State) (l : Nat) : Keeps t (t.enterTest l) [.regs, .link, .power, .journal, .gaf, .out] := by
  have hdown : Keeps t (if l < 64 then t.laneDown l 5 else t.retDown (l - 64) 5) [.regs, .link, .power, .journal, .gaf, .out] :=
    .ite _ (t.laneDown_keeps l 5).mono (t.retDown_keeps (l - 64) 5).mono
  have hset := (hdown.then (State.idleLine_keeps _ l)).then (State.put_keeps _ (PUN_LANE_STATE.STATE l) 7)
  exact hset.then (State.settleTrain_settles _).1

theorem State.enterTest_laneState (t : State) {l : Nat} (hl : l < 72) : (t.enterTest l).laneState l = 7 :=
  (State.settleTrain_laneState _ hl).trans ((State.laneState_setLane _ l 7 l).trans (if_pos rfl))

/-- The fields of a test are not those that a lane's way DOWN and the end of a training change. -/
theorem State.enterTest_f (t : State) {l : Nat} (hl : l < 72) {lo w r : Nat} (hlo : lo < 64) :
    (t.enterTest l).f ⟨PUN_PRBS_CTL.off l, lo, w, r⟩ = t.f ⟨PUN_PRBS_CTL.off l, lo, w, r⟩ := by
  have hx := ofPunty_prbsCtl hl (w := w) (r := r) hlo
  have hdown : (if l < 64 then t.laneDown l 5 else t.retDown (l - 64) 5).f ⟨PUN_PRBS_CTL.off l, lo, w, r⟩ =
      t.f ⟨PUN_PRBS_CTL.off l, lo, w, r⟩ := by
    split
    · exact t.laneDown_f l 5 hx (prbsCtl_ne_lane l hl) (prbsCtl_ne_seen l hlo)
    · exact t.retDown_f 5 hx (fun k hk => prbsCtl_ne_lane l hk) (by omega) (prbsCtl_ne_seen l hlo)
  rw [State.enterTest, (State.settleTrain_settles _).2.1 _ hx.not_mem, State.f_setLane_other (prbsCtl_ne_lane l hl) hlo,
    (State.idleLine_keeps _ l).f_eq]
  exact hdown

section

variable {s : State} {l v : Nat} (hl : l < 72) (hv : testOn v = true)

include hl hv

/-- A lane that a write keeps in TEST or puts into it. -/
theorem State.prbsMode_test : (s.prbsMode l v).laneState l = 7 ∧ Written (s.prbsMode l v) l v ∧
    Keeps s (s.prbsMode l v) [.regs, .link, .power, .journal, .gaf, .out] := by
  have htaken := s.prbsTaken_written l v
  by_cases hon : s.laneState l = 7
  · have hstate : (s.prbsTaken l v).laneState l = 7 := (s.prbsTaken_laneState l v hl).trans hon
    have hmode : s.prbsMode l v = s.prbsTaken l v ∨ s.prbsMode l v = (s.prbsTaken l v).send (.patternEnd l) := by
      have hstays : s.prbsMode l v = s.staysTest l v := if_neg (by simp [hon])
      rw [hstays, State.staysTest, if_neg (by simp [hv])]
      split
      · exact .inr rfl
      · exact .inl rfl
    have hkeep : Keeps s (s.prbsMode l v) [.regs, .link, .power, .journal, .gaf, .out] := by
      have hstays : s.prbsMode l v = s.staysTest l v := if_neg (by simp [hon])
      rw [hstays]
      exact (s.staysTest_keeps l v).mono
    rcases hmode with h | h
    · rw [h] at hkeep ⊢
      exact ⟨hstate, htaken, hkeep⟩
    · rw [h] at hkeep ⊢
      exact ⟨hstate, htaken, hkeep⟩
  · have hmode : s.prbsMode l v = (s.prbsTaken l v).enterTest l := if_pos (by simp [hv, hon])
    rw [hmode]
    exact ⟨State.enterTest_laneState _ hl, htaken.of_f fun lo w r hlo => State.enterTest_f _ hl hlo,
      (s.prbsTaken_keeps l v).mono.then (State.enterTest_keeps _ l)⟩

/-- The same with the generator: one that starts sends its pattern. -/
theorem State.prbsSends_test : (s.prbsSends l v).laneState l = 7 ∧ Written (s.prbsSends l v) l v ∧
    Keeps s (s.prbsSends l v) [.regs, .link, .power, .journal, .gaf, .out] ∧
    (s.newPattern l v = true → .pattern l (bits v 2 2) (2 ^ (patternTaps (bits v 2 2)).1 - 1) ∈ (s.prbsSends l v).out) := by
  obtain ⟨hstate, hwritten, hkeep⟩ := State.prbsMode_test (s := s) hl hv
  unfold State.prbsSends
  split
  · refine ⟨hstate, hwritten, hkeep.then (State.startPattern_keeps _ l), fun _ => ?_⟩
    obtain ⟨-, -, hpattern, -⟩ := hwritten
    rw [State.startPattern, hpattern]
    exact List.mem_append_right _ (List.mem_singleton.mpr rfl)
  · next hnew => exact ⟨hstate, hwritten, hkeep, fun h => absurd h hnew⟩

end

theorem exec_prbsTestEnter_test {s : State} {l : Fin 72} {v : Word} (hv : bit v.toNat 0 = true ∨ bit v.toNat 1 = true)
    (hflash : s.mot.flashing = false) : Gives (exec (.prbsTestEnter l v) s) (fun t => t.laneState l = 7 ∧ Written t l v.toNat ∧
      (bit v.toNat 0 = true → s.f (PUN_PRBS_CTL.GEN_EN l) ≠ 1 →
        .pattern l (bits v.toNat 2 2) (2 ^ (patternTaps (bits v.toNat 2 2)).1 - 1) ∈ t.out) ∧
      Keeps s t [.regs, .link, .power, .journal, .gaf, .out]) := by
  have hon := (testOn_iff v.toNat).mpr hv
  refine ⟨s.prbsWrite l v.toNat, if_pos hon, ?_⟩
  rw [State.prbsWrite_eq (by simp [hflash])]
  obtain ⟨hstate, hwritten, hkeep, hsent⟩ := State.prbsSends_test (s := s) l.isLt hon
  have hnew (h0 : bit v.toNat 0 = true) (hgen : s.f (PUN_PRBS_CTL.GEN_EN l) ≠ 1) : s.newPattern l v.toNat = true := by
    simp [State.newPattern, State.on, h0, hgen]
  split
  · have hflip := (s.prbsSends l v.toNat).flipBit_keepsFields l
    have hlane : (PUN_LANE_STATE.STATE l).key ∉ [PUN_PRBS_ERR.COUNT l].map Fld.key := by
      simp only [List.map_cons, List.map_nil, List.mem_singleton]
      refine key_ne_of_addr ?_ (show 0 < 64 by decide) (show 0 < 64 by decide)
      simp only [PUN_LANE_STATE.STATE, PUN_LANE_STATE.off, PUN_PRBS_ERR.COUNT, PUN_PRBS_ERR.off]
      omega
    exact ⟨(hflip _ hlane).trans hstate, hwritten.of_f fun lo w r hlo => hflip _ (by simpa using prbsCtl_ne_err l hlo),
      fun h0 hgen => State.mem_flipBit_out (hsent (hnew h0 hgen)) l, hkeep.then (State.flipBit_keeps _ l)⟩
  · exact ⟨hstate, hwritten, fun h0 hgen => hsent (hnew h0 hgen), hkeep⟩

theorem exec_prbsTestEnter_flashing {s : State} {l : Fin 72} {v : Word} (hv : bit v.toNat 0 = true ∨ bit v.toNat 1 = true)
    (hflash : s.mot.flashing = true) (hst : s.laneState l ≠ 7) : exec (.prbsTestEnter l v) s = .next s := by
  have hon := (testOn_iff v.toNat).mpr hv
  refine (if_pos hon).trans (congrArg Host.Outcome.next ?_)
  exact if_pos (by simp [hon, hst, hflash])

/-! ### TEST left (R197, R224) -/

/-- A write with neither enable to a lane in TEST: the pattern ends, and IDLE blocks follow from now on. -/
theorem State.prbsWrite_leaves {s : State} {l v : Nat} (h0 : bit v 0 = false) (h1 : bit v 1 = false) (hst : s.laneState l = 7) :
    s.prbsWrite l v = (((if s.f (PUN_PRBS_CTL.GEN_EN l) = 1 then (s.prbsTaken l v).send (.patternEnd l) else s.prbsTaken l v).setLane l 0).modPln
      l (fun q => { q with freeAt := s.mono100 })) := by
  have hoff : testOn v = false := by simp [testOn, h0, h1]
  have hsends : s.prbsSends l v = (((if s.f (PUN_PRBS_CTL.GEN_EN l) = 1 then (s.prbsTaken l v).send (.patternEnd l)
      else s.prbsTaken l v).setLane l 0).modPln l (fun q => { q with freeAt := s.mono100 })) := by
    simp [State.prbsSends, State.newPattern, State.prbsMode, State.staysTest, State.on, h0, hoff, hst]
  rw [State.prbsWrite_eq (by simp [hoff]), hsends]
  split
  · refine if_neg fun hflip => ?_
    have hzero := State.laneState_setLane
      (if s.f (PUN_PRBS_CTL.GEN_EN l) = 1 then (s.prbsTaken l v).send (.patternEnd l) else s.prbsTaken l v) l 0 l
    rw [if_pos rfl] at hzero
    exact absurd (hflip.1.symm.trans hzero) (by decide)
  · rfl

section

variable {s : State} {l : Fin 72} {v : Nat} (h0 : bit v 0 = false) (h1 : bit v 1 = false) (hst : s.laneState l = 7)

include h0 h1 hst

theorem State.prbsWrite_leaves_spec : (s.prbsWrite l v).laneState l = 0 ∧ (s.prbsWrite l v).f (PUN_PRBS_CTL.GEN_EN l) = 0 ∧
    (s.prbsWrite l v).f (PUN_PRBS_CTL.CHK_EN l) = 0 ∧ Keeps s (s.prbsWrite l v) [.regs, .link, .out] := by
  rw [State.prbsWrite_leaves h0 h1 hst]
  have hbits {n : Nat} (h : bit v n = false) : bits v n 1 = 0 := by
    simp only [bit, decide_eq_false_iff_not] at h
    simp only [bits]
    omega
  generalize hu : (if s.f (PUN_PRBS_CTL.GEN_EN l) = 1 then (s.prbsTaken l v).send (.patternEnd l) else s.prbsTaken l v) = u
  have hregs : u.regs = (s.prbsTaken l v).regs := by
    rw [← hu]
    split <;> rfl
  have hkeep : Keeps s u [.regs, .link, .out] := by
    rw [← hu]
    exact .ite _ ((s.prbsTaken_keeps l v).mono.then (State.send_keeps _ _)) (s.prbsTaken_keeps l v).mono
  have hfield {lo w r : Nat} (hlo : lo < 64) : (u.setLane l 0).f ⟨PUN_PRBS_CTL.off l, lo, w, r⟩ =
      (s.prbsTaken l v).f ⟨PUN_PRBS_CTL.off l, lo, w, r⟩ :=
    (u.f_setLane_other (prbsCtl_ne_lane l l.isLt) hlo 0).trans (by simp only [State.f, hregs])
  obtain ⟨hgen, hchk, -⟩ := s.prbsTaken_written l v
  exact ⟨(State.laneState_setLane u l 0 l).trans (if_pos rfl), (hfield (by decide)).trans (hgen.trans (hbits h0)),
    (hfield (by decide)).trans (hchk.trans (hbits h1)), (hkeep.then (State.put_keeps _ _ 0)).then (State.modPln_keeps _ l _)⟩

theorem State.prbsWrite_leaves_out :
    (s.f (PUN_PRBS_CTL.GEN_EN l) = 1 → (s.prbsWrite l v).out = s.out ++ [.patternEnd l]) ∧
    (s.f (PUN_PRBS_CTL.GEN_EN l) ≠ 1 → (s.prbsWrite l v).out = s.out) := by
  have hout : (s.prbsTaken l v).out = s.out := (s.prbsTaken_keeps l v).2 .out (by decide)
  rw [State.prbsWrite_leaves h0 h1 hst]
  refine ⟨fun hgen => ?_, fun hgen => ?_⟩
  · rw [if_pos hgen, ← hout]
    rfl
  · rw [if_neg hgen]
    exact hout

theorem State.prbsWrite_leaves_freeAt (hl : l.val < s.link.lanes.length) : ((s.prbsWrite l v).pln l).freeAt = s.mono100 := by
  rw [State.prbsWrite_leaves h0 h1 hst, State.pln_modPln_same]
  have hlink : (s.prbsTaken l v).link = s.link := (s.prbsTaken_keeps l v).2 .link (by decide)
  split <;> exact hlink.symm ▸ hl

end

/-! ### Checkers (R224) -/

section

variable {s : State} {l : Fin 72}

theorem exec_prbs_notTesting (hst : s.laneState l ≠ 7) :
    exec (.prbsBitError l) s = .next s ∧ exec (.prbsRateError l) s = .next s ∧ exec (.prbsCheckerSync l) s = .next s :=
  ⟨if_neg fun h => hst h.1, if_neg fun h => hst h.1, if_neg fun h => hst h.1⟩

/-- A checker sees its own generator through the loopback, and without it the line of a return lane. -/
theorem State.checkerFed_of (h : (s.f (PUN_PRBS_CTL.LOOP l) = 1 ∧ s.f (PUN_PRBS_CTL.GEN_EN l) = 1) ∨
    (s.f (PUN_PRBS_CTL.LOOP l) ≠ 1 ∧ 64 ≤ l.val)) : s.checkerFed l = true := by
  rcases h with ⟨hloop, hgen⟩ | ⟨hloop, hl⟩
  · simp [State.checkerFed, State.on, hloop, hgen]
  · simp [State.checkerFed, State.on, hloop, hl]

variable (hst : s.laneState l = 7) (hchk : s.f (PUN_PRBS_CTL.CHK_EN l) = 1)

include hst

omit hst in
theorem exec_prbsCheckerSync_unfed (hloop : s.f (PUN_PRBS_CTL.LOOP l) ≠ 1) (hl : l.val < 64) :
    exec (.prbsCheckerSync l) s = .next s := by
  refine if_neg fun h => ?_
  obtain ⟨-, -, hfed, -⟩ := h
  simp [State.checkerFed, State.on, hloop] at hfed
  omega

include hchk

theorem exec_prbsCheckerSync_fed (hsync : s.f (PUN_PRBS_CTL.SYNC l) ≠ 1) (hfed : s.checkerFed l = true) :
    Gives (exec (.prbsCheckerSync l) s) (fun t =>
      t.f (PUN_PRBS_CTL.SYNC l) = 1 ∧ t.f (PUN_PRBS_ERR.COUNT l) = 0 ∧ Keeps s t [.regs]) := by
  refine ⟨_, if_pos ⟨hst, by simp [State.on, hchk], hfed, by simp [State.on, hsync]⟩, ?_, State.f_put_same _ (PUN_PRBS_ERR.COUNT l) 0,
    (s.flag_keeps _).then (State.put_keeps _ _ 0)⟩
  exact (State.f_put_other _ 0 (prbsCtl_ne_err l (by decide))).trans (s.f_put_same (PUN_PRBS_CTL.SYNC l) 1)

variable (hsync : s.f (PUN_PRBS_CTL.SYNC l) = 1)

include hsync

theorem exec_prbsBitError_counts (hfed : s.checkerFed l = true) : Gives (exec (.prbsBitError l) s) (fun t =>
    t.f (PUN_PRBS_ERR.COUNT l) = min (s.f (PUN_PRBS_ERR.COUNT l) + 1) (2 ^ (PUN_PRBS_ERR.COUNT l).w - 1) ∧ Keeps s t [.regs]) := by
  have herr : s.prbsError l = s.count (PUN_PRBS_ERR.COUNT l) 1 := if_pos (by simp [State.on, hchk, hsync])
  exact ⟨s.prbsError l, if_pos ⟨hst, hfed⟩, herr ▸ s.count_f _ 1, s.prbsError_keeps l⟩

theorem exec_prbsRateError_counts (hgen : s.f (PUN_PRBS_CTL.GEN_EN l) = 1) (hloop : s.f (PUN_PRBS_CTL.LOOP l) = 1)
    (hrate : s.f (PUN_PRBS_CTL.RATE l) ≠ 0) : Gives (exec (.prbsRateError l) s) (fun t =>
      t.f (PUN_PRBS_ERR.COUNT l) = min (s.f (PUN_PRBS_ERR.COUNT l) + 1) (2 ^ (PUN_PRBS_ERR.COUNT l).w - 1) ∧
      t.out = s.out ++ [.patternFlip l] ∧ Keeps s t [.regs, .out]) := by
  refine ⟨s.flipBit l, if_pos ⟨hst, hrate⟩, ?_⟩
  have hkeep := s.flipBit_keeps l
  rw [State.flipBit_counts hst hgen hloop hchk hsync] at hkeep ⊢
  exact ⟨State.count_f _ _ 1, rfl, hkeep⟩

theorem exec_prbsInj_counts {v : Word} (h0 : bit v.toNat 0 = true) (h1 : bit v.toNat 1 = true) (h4 : bit v.toNat 4 = true)
    (h5 : bit v.toNat 5 = true) (hloop : s.f (PUN_PRBS_CTL.LOOP l) = 1) (hpattern : s.f (PUN_PRBS_CTL.PATTERN l) = bits v.toNat 2 2) :
    Gives (exec (.prbsInj l v) s) (fun t =>
      t.f (PUN_PRBS_ERR.COUNT l) = min (s.f (PUN_PRBS_ERR.COUNT l) + 1) (2 ^ (PUN_PRBS_ERR.COUNT l).w - 1) ∧
      .patternFlip l ∈ t.out ∧ Keeps s t [.regs, .out]) := by
  have hbits {n : Nat} (h : bit v.toNat n = true) : bits v.toNat n 1 = 1 := by
    simp only [bit, decide_eq_true_eq] at h
    simp only [bits]
    omega
  have htaken : s.prbsTaken l v.toNat = s.prbsFields l v.toNat := if_pos (by simp [hpattern, hchk, hloop, hbits h1, hbits h4])
  have hmode : s.prbsMode l v.toNat = s.prbsFields l v.toNat := by
    have hon : testOn v.toNat = true := (testOn_iff _).mpr (.inl h0)
    have hends : (s.on (PUN_PRBS_CTL.GEN_EN l) && s.newPattern l v.toNat) = false := by
      cases hgen : s.on (PUN_PRBS_CTL.GEN_EN l) <;> simp [State.newPattern, hst, hgen, hpattern]
    rw [← htaken]
    simp [State.prbsMode, State.staysTest, hst, hon, h0, hends]
  obtain ⟨hgen', hchk', -, hloop', -⟩ := s.prbsFields_written l v.toNat
  have hsends : ∃ o, s.prbsSends l v.toNat = { s.prbsFields l v.toNat with out := s.out ++ o } := by
    have hout : (s.prbsFields l v.toNat).out = s.out := (s.prbsFields_keeps l v.toNat).2 .out (by decide)
    unfold State.prbsSends
    rw [hmode]
    split
    · exact ⟨_, by rw [← hout]; rfl⟩
    · exact ⟨[], by rw [List.append_nil, ← hout]⟩
  obtain ⟨o, hsends⟩ := hsends
  refine ⟨s.prbsWrite l v.toNat, if_pos h5, ?_⟩
  rw [State.prbsWrite_eq (by simp [hst]), if_pos h5, hsends]
  generalize hu : ({ s.prbsFields l v.toNat with out := s.out ++ o } : State) = u
  have hf (x : Fld) : u.f x = (s.prbsFields l v.toNat).f x := by rw [← hu]; rfl
  have hkeep : Keeps s u [.regs, .out] := by
    rw [← hu]
    exact (s.prbsFields_keeps l v.toNat).mono.then (keeps_out _ _)
  have hcount := State.flipBit_counts (s := u) (l := l) ((hf _).trans ((s.prbsFields_laneState l v.toNat l.isLt).trans hst))
    ((hf _).trans (hgen'.trans (hbits h0))) ((hf _).trans (hloop'.trans (hbits h4))) ((hf _).trans (hchk'.trans (hbits h1)))
    ((hf _).trans ((s.prbsFields_sync l v.toNat).trans hsync))
  have herr : u.f (PUN_PRBS_ERR.COUNT l) = s.f (PUN_PRBS_ERR.COUNT l) := (hf _).trans (s.prbsFields_errors l v.toNat)
  refine ⟨?_, ?_, hkeep.then (u.flipBit_keeps l)⟩
  · rw [hcount, State.count_f, ← herr]
    rfl
  · rw [hcount]
    exact List.mem_append_right _ (List.mem_singleton.mpr rfl)

end

/-! ### The statement -/

/-- Settles O45: each message and each timeout by what it does to the lanes that it names, then each write and each error of a test. -/
theorem laneStates : Obligations.LaneStates := by
  unfold Obligations.LaneStates
  refine ⟨⟨fun s g alive locked aligned halive hlocked haligned => ⟨exec_linkStatus_heard halive hlocked haligned, fun h => ?_⟩,
    fun s g alive l pre main post p halive hpre hmain hpost h hlane hstate hp => ?_,
    fun s g alive valid ovt sensors halive hvalid hlen hin h => ?_, fun s g => ⟨exec_returnLaneTimeout_ready, fun h => if_neg h,
      exec_blockLockLoss_spec s g, fun r => exec_blockLockAcquire_free, fun h => if_pos h,
      fun h b0 b1 t hrun hlock htest hh ht => ?_⟩, fun s l => ⟨exec_trainStateTimeout_fails, fun h => if_neg (by omega)⟩⟩,
    fun s l v hv => ⟨fun hflash => ?_, exec_prbsTestEnter_flashing hv⟩, fun s l v h0 h1 hst => ?_, fun s l hst hchk => ⟨fun hsync => ?_,
      fun hsync => ?_⟩, fun s l hst => exec_prbs_notTesting hst⟩
  · exact congrArg Host.Outcome.next (State.receive_repeated h (readReturn_statusMsg halive))
  · obtain ⟨hl, -⟩ := List.getElem?_eq_some_iff.mp hp
    obtain rfl := State.pln_of_getElem? hp
    obtain ⟨t, ht, hfour, htaken, hlimit, hkeep⟩ := exec_tapReq_done halive hpre hmain hpost h hlane hstate hl
    refine ⟨fun taps htaps => ⟨t, ht, (htaken taps htaps).1, (htaken taps htaps).2, hfour, hkeep⟩, fun hnone => ?_,
      exec_tapReq_more halive hpre hmain hpost h hlane hstate hl, exec_tapReq_failing halive hpre hmain hpost h hlane hstate⟩
    obtain ⟨hset, happlied, hat, hseen⟩ := hlimit hnone
    exact ⟨t, ht, hset, happlied, hat, hseen, hfour, hkeep⟩
  · have hdo : exec (.tempReport g alive valid ovt sensors) s = .next ((heard s g alive).takeTemp valid ovt sensors) :=
      congrArg Host.Outcome.next ((State.receive_new h (readReturn_tempMsg halive)).trans
        (State.takeMessage_tempMsg hvalid hlen hin _ _ _ _))
    refine ⟨fun hovt => ?_, fun hovt ha hh => ?_⟩
    · subst hovt
      rwa [State.takeTemp_cool] at hdo
    · subst hovt
      exact ⟨_, hdo, State.takeTemp_halts (t := heard s g alive) ha hh valid sensors⟩
  · have hdo := exec_returnMessageDiscard_listens (b0 := b0) (b1 := b1) hrun hlock htest hh ht
    refine ⟨fun hbad => ⟨_, hdo.trans (if_pos ((s.readMessage_eq_none_iff g h b0 b1 t).mpr hbad)), discarded_spec s⟩,
      fun hcrc hlo hhi hnew => hdo.trans (if_neg fun hnone => ?_)⟩
    rcases (s.readMessage_eq_none_iff g h b0 b1 t).mp hnone with hc | hc | hc | hc
    · exact hc hcrc
    · omega
    · omega
    · exact hnew hc
  · obtain ⟨t, ht, hseven, ⟨hgen, hchk, hpattern, hloop, hrate⟩, hsent, hkeep⟩ := exec_prbsTestEnter_test hv hflash
    exact ⟨t, ht, hseven, hgen, hchk, hpattern, hloop, hrate, hsent, hkeep⟩
  · obtain ⟨hzero, hgen, hchk, hkeep⟩ := State.prbsWrite_leaves_spec h0 h1 hst
    obtain ⟨hends, hsilent⟩ := State.prbsWrite_leaves_out h0 h1 hst
    exact ⟨fun h5 => if_pos h5, hzero, hgen, hchk, hends, hsilent, State.prbsWrite_leaves_freeAt h0 h1 hst, hkeep⟩
  · exact ⟨fun hfed => exec_prbsCheckerSync_fed hst hchk hsync (State.checkerFed_of hfed), exec_prbsCheckerSync_unfed⟩
  · rintro n rfl
    exact ⟨fun hfed => exec_prbsBitError_counts hst hchk hsync (State.checkerFed_of hfed),
      fun hgen hloop hrate => exec_prbsRateError_counts hst hchk hsync hgen hloop hrate,
      fun v h0 h1 h4 h5 hloop hpattern => exec_prbsInj_counts hst hchk hsync h0 h1 h4 h5 hloop hpattern⟩

end Sys2Proof.Machine
/-! # A tick of Thyme (O23) -/

namespace Sys2Proof.Machine

open Sys2Proof

set_option Elab.async false

/-! ### Time as one number (R301, R302) -/

/-- Thyme time reads what it was set to, SEC taken in its 48 bits. -/
theorem State.acc_setAcc (s : State) (i : Int) : ((s.setAcc i).acc : Int) = i % ((2 ^ 48 * 1000000000 * 2 ^ 32 : Nat) : Int) := by
  simp only [State.acc, State.now, State.setAcc, secUnits]
  omega

theorem State.thymeTick_acc (s : State) : (s.thymeTick.acc : Int) =
    (s.acc + s.f THY_INC.INC + s.slewStep) % ((2 ^ 48 * 1000000000 * 2 ^ 32 : Nat) : Int) :=
  s.acc_setAcc _

theorem State.thymeTick_keeps (s : State) : Keeps s s.thymeTick [.tick, .thyme] :=
  .of_same rfl fun p => by cases p <;> simp [Part.same, State.thymeTick, State.setAcc]

/-! ### The slew (R306) -/

theorem State.slewStep_bound (s : State) : s.slewStep.natAbs ≤ max 1 (min (s.f THY_SLEW_RATE.RATE) (2 ^ 22)) := by
  simp only [State.slewStep]
  omega

/-- A remainder that one tick can add is added whole; so is a remainder of 0. -/
theorem State.slewStep_last {s : State} (h : s.thyme.slew.natAbs ≤ max 1 (min (s.f THY_SLEW_RATE.RATE) (2 ^ 22))) :
    s.slewStep = s.thyme.slew := by
  simp only [State.slewStep]
  omega

theorem exec_slewEnd_ends {s : State} (hne : s.thyme.slew ≠ 0)
    (h : s.thyme.slew.natAbs ≤ max 1 (min (s.f THY_SLEW_RATE.RATE) (2 ^ 22))) : exec .slewEnd s = exec .thymeTick s :=
  if_pos ⟨hne, by rw [State.slewStep_last h, sub_self]⟩

/-! ### What was still to come (R239, R249, R283, R313, R318) -/

theorem State.comeDue_none {s : State} (h : ∀ e ∈ s.later, s.mono100 < e.1) : s.comeDue = s := by
  have hdue : s.later.filter (fun e => decide (e.1 ≤ s.mono100)) = [] :=
    List.filter_eq_nil_iff.mpr fun e he => by simpa using h e he
  have hrest : s.later.filter (fun e => !decide (e.1 ≤ s.mono100)) = s.later :=
    List.filter_eq_self.mpr fun e he => by simpa using h e he
  rw [State.comeDue, hdue, hrest]
  rfl

theorem State.comeDue_single {s : State} {e : Nat × Later} (h : s.later = [e]) (he : e.1 ≤ s.mono100) :
    s.comeDue = { s with later := [] }.come e.1 e.2 := by
  simp [State.comeDue, h, he]

theorem State.launchDue_none {s : State} (hl : s.launches = []) (hp : s.ports = []) : s.launchDue = s := by
  obtain ⟨⟩ := s
  subst hl hp
  rfl

/-- Settles O23: a tick is `thymeTick`, then what has come by then, in order, then the launches. -/
theorem thymeTick : Obligations.ThymeTick := by
  refine ⟨?_, fun s => ⟨s.slewStep_bound, fun h0 => ?_, State.slewStep_last, exec_slewEnd_ends⟩⟩
  · rintro s t rfl
    have hkeep := s.thymeTick_keeps
    have hlater : s.thymeTick.later = s.later := hkeep.2 .later (by decide)
    refine ⟨s.thymeTick_acc, rfl, rfl, rfl, rfl, hkeep, fun hcome hl hp => ?_, fun e he hdue => ?_, rfl⟩
    · have hidle : s.thymeTick.comeDue = s.thymeTick := State.comeDue_none (hlater ▸ hcome)
      exact congrArg Host.Outcome.next ((congrArg State.launchDue hidle).trans (State.launchDue_none hl hp))
    · exact congrArg (fun u : State => Host.Outcome.next u.launchDue) (State.comeDue_single (hlater.trans he) hdue)
  · have := State.slewStep_last (s := s) (by simp [h0])
    rw [this, h0]

end Sys2Proof.Machine
/-! # A channel of stage feedback: its registers, its data, its position

What the compares, the emulation outputs, the axis checks and the stalls do to other units leaves every channel as it stands
(`KeepsChannels`); so a new position, a fault and a new edge are read off the registers and the data of the one channel. -/

namespace Sys2Proof.Machine

open Sys2Proof

set_option Elab.async false

/-! ### The fields of a channel -/

/-- A field of a channel's registers. -/
def Fld.OfChannel (x : Fld) : Prop := 0xD01000 ≤ x.addr ∧ x.addr < 0xD02000 ∧ x.lo < 64

theorem ofChannel {n : Nat} (hn : n < 18) {a lo w r : Nat} (ha : 0xD01000 ≤ a ∧ a < 0xD01080) (hlo : lo < 64) :
    (Fld.mk (a + 0x80 * n) lo w r).OfChannel := by
  simp only [Fld.OfChannel]
  omega

/-- Two fields of one channel at different places have different keys. -/
theorem chKey_ne {n a b lo lo' w w' r r' : Nat} (h : a * 64 + lo ≠ b * 64 + lo') :
    (Fld.mk (a + 0x80 * n) lo w r).key ≠ (Fld.mk (b + 0x80 * n) lo' w' r').key := by
  simp only [Fld.key]
  omega

/-- A field of a channel keeps its value where a field of the channel at another place is set. -/
theorem State.f_put_chField (s : State) (v : Nat) {n a b lo lo' w w' r r' : Nat} (h : a * 64 + lo ≠ b * 64 + lo') :
    (s.put (Fld.mk (b + 0x80 * n) lo' w' r') v).f (Fld.mk (a + 0x80 * n) lo w r) = s.f (Fld.mk (a + 0x80 * n) lo w r) :=
  s.f_put_other v (chKey_ne h)

/-- The fields that show a channel's speed. -/
def speedFields (n : Nat) : List Fld :=
  [SFB_CH_SPEED.SPEED n, SFB_CH_SPEED.DIR n, SFB_CH_SPEED.ESTIMATE n, SFB_CH_SPEED.STANDSTILL n, SFB_CH_STATUS.STANDSTILL n]

theorem State.setSpeed_keepsFields (s : State) (n : Nat) (v : Int) (neg estimate standstill : Bool) :
    KeepsFields s (s.setSpeed n v neg estimate standstill) (speedFields n) := by
  intro x hx
  simp only [speedFields, List.map_cons, List.map_nil, List.mem_cons, List.not_mem_nil, or_false, not_or] at hx
  obtain ⟨hspeed, hdir, hest, hstill, hshown⟩ := hx
  rw [State.setSpeed, State.f_put_other _ _ hshown, State.f_put_other _ _ hstill, State.f_put_other _ _ hest,
    State.f_put_other _ _ hdir, State.puts, State.f_put_other _ _ hspeed]

theorem State.setSpeed_keeps (s : State) (n : Nat) (v : Int) (neg estimate standstill : Bool) :
    Keeps s (s.setSpeed n v neg estimate standstill) [.regs] :=
  ((((s.put_keeps _ _).then (State.put_keeps _ _ _)).then (State.put_keeps _ _ _)).then (State.put_keeps _ _ _)).then
    (State.put_keeps _ _ _)

/-- A field of a channel at any other place is none of them. -/
theorem chField_not_speed {n a lo w r : Nat} (ha : a ≠ 0xD01018) (hs : a * 64 + lo ≠ 0xD01004 * 64 + 1) (hlo : lo < 64) :
    (Fld.mk (a + 0x80 * n) lo w r).key ∉ (speedFields n).map Fld.key := by
  simp only [speedFields, List.map_cons, List.map_nil, List.mem_cons, List.not_mem_nil, or_false, not_or]
  exact ⟨chKey_ne (by omega), chKey_ne (by omega), chKey_ne (by omega), chKey_ne (by omega), chKey_ne hs⟩

/-! ### Signed fields -/

theorem sgn_mod (w v : Nat) : sgn w (v % 2 ^ w) = sgn w v := by
  simp only [sgn, Nat.mod_mod]

/-- A signed field reads the number it was set to, in its width. -/
theorem State.fs_puts (s : State) (x : Fld) (i : Int) : (s.puts x i).fs x = sgn x.w (ofInt x.w i) := by
  rw [State.fs, State.puts, State.f_put_same, sgn_mod]

/-- A position set to what it reads reads the same. -/
theorem sgn_ofInt_sgn (v : Nat) : sgn 64 (ofInt 64 (sgn 64 v)) = sgn 64 v := by
  simp only [sgn, ofInt]
  omega

/-! ### The data of a channel -/

section
variable {s : State} {n : Nat} {c : Chan}

theorem State.chan_of_getElem? (h : s.chans[n]? = some c) : s.chan n = c := by
  simp [State.chan, h]

theorem State.getElem?_modChan (h : s.chans[n]? = some c) (f : Chan → Chan) : (s.modChan n f).chans[n]? = some (f c) := by
  simp only [State.modChan, lmod, h]
  exact List.getElem?_set_self (List.getElem?_eq_some_iff.mp h).1

theorem State.chan_modChan (h : s.chans[n]? = some c) (f : Chan → Chan) : (s.modChan n f).chan n = f c :=
  State.chan_of_getElem? (State.getElem?_modChan h f)

/-- Two changes that do the same to a channel. -/
theorem State.modChan_congr (h : s.chans[n]? = some c) {f g : Chan → Chan} (hfg : f c = g c) : s.modChan n f = s.modChan n g := by
  simp only [State.modChan, lmod, h, hfg]

end

/-- A channel's data are the same where the channels are. -/
theorem Keeps.getElem?_chans {s t : State} {l : List Part} (hk : Keeps s t l) {n : Nat} {c : Chan} (h : s.chans[n]? = some c)
    (hl : Part.chans ∉ l := by decide) : t.chans[n]? = some c :=
  (congrArg (·[n]?) (hk.2 .chans hl)).trans h

theorem State.modChan_keeps (s : State) (n : Nat) (f : Chan → Chan) : Keeps s (s.modChan n f) [.chans] :=
  .of_same rfl fun p => by cases p <;> simp [Part.same]

@[simp] theorem State.modChan_f (s : State) (n : Nat) (f : Chan → Chan) (x : Fld) : (s.modChan n f).f x = s.f x := rfl

/-! ### What is still to come -/

theorem mem_insLater (l : List (Nat × Later)) (t : Nat) (x : Later) : (t, x) ∈ insLater l t x := by
  induction l with
  | nil => exact List.mem_singleton_self _
  | cons e r ih =>
    simp only [insLater]
    split
    · exact List.mem_cons_self
    · exact List.mem_cons_of_mem _ ih

/-- What comes at a time is among what is still to come. -/
theorem State.mem_at (s : State) (t : Nat) (x : Later) : (t, x) ∈ (s.at t x).later := mem_insLater _ t x

theorem State.at_keeps (s : State) (t : Nat) (x : Later) : Keeps s (s.at t x) [.later] :=
  .of_same rfl fun p => by cases p <;> simp [Part.same]

/-- An instant has the same Thyme time in two states of the same time. -/
theorem Keeps.timeAt_eq {s t : State} {l : List Part} (h : Keeps s t l) (a : Nat) (ht : Part.tick ∉ l := by decide)
    (hy : Part.thyme ∉ l := by decide) : t.timeAt a = s.timeAt a := by
  have htick : t.tick = s.tick := h.2 .tick ht
  simp only [State.timeAt, State.mono100, h.now100_eq hy, htick]

/-! ### What leaves the channels -/

/-- Every channel has the same registers and the same data in two states. -/
def KeepsChannels (s t : State) : Prop := t.chans = s.chans ∧ ∀ x : Fld, x.OfChannel → t.f x = s.f x

theorem KeepsChannels.refl (s : State) : KeepsChannels s s := ⟨rfl, fun _ _ => rfl⟩

theorem KeepsChannels.then {s t u : State} (h : KeepsChannels s t) (g : KeepsChannels t u) : KeepsChannels s u :=
  ⟨g.1.trans h.1, fun x hx => (g.2 x hx).trans (h.2 x hx)⟩

theorem KeepsChannels.ite {s t u : State} (p : Prop) [Decidable p] (h : KeepsChannels s t) (g : KeepsChannels s u) :
    KeepsChannels s (if p then t else u) := by
  split
  · exact h
  · exact g

theorem KeepsChannels.foldl {α : Type} {f : State → α → State} {as : List α} (h : ∀ t, ∀ a ∈ as, KeepsChannels t (f t a)) (s : State) :
    KeepsChannels s (as.foldl f s) :=
  List.foldlRecOn (motive := fun t => KeepsChannels s t) as f (.refl s) fun t ht a ha => ht.then (h t a ha)

theorem KeepsChannels.of_keeps {s t : State} {l : List Part} (h : Keeps s t l) (hc : Part.chans ∉ l := by decide)
    (hr : Part.regs ∉ l := by decide) :
    KeepsChannels s t :=
  ⟨h.2 .chans hc, fun x _ => h.f_eq x hr⟩

theorem KeepsChannels.chan {s t : State} (h : KeepsChannels s t) (n : Nat) : t.chan n = s.chan n := by
  rw [State.chan, h.1, State.chan]

theorem KeepsChannels.f_eq {s t : State} (h : KeepsChannels s t) {n : Nat} (hn : n < 18) {a lo w r : Nat}
    (ha : 0xD01000 ≤ a ∧ a < 0xD01080 := by decide) (hlo : lo < 64 := by decide) :
    t.f ⟨a + 0x80 * n, lo, w, r⟩ = s.f ⟨a + 0x80 * n, lo, w, r⟩ :=
  h.2 _ (ofChannel hn ha hlo)

section
variable {x : Fld} (hx : x.addr < 0xD01000 ∨ 0xD02000 ≤ x.addr) (hlo : x.lo < 64)
include hx hlo

theorem State.put_keepsChannels (s : State) (v : Nat) : KeepsChannels s (s.put x v) :=
  ⟨rfl, fun y ⟨hy, hy', hlo'⟩ => s.f_put_other v (key_ne_of_addr (by omega) hlo' hlo)⟩

end

theorem State.event_keepsChannels (s : State) (code cls : Nat) (args : List Arg) : KeepsChannels s (s.event code cls args) :=
  ⟨rfl, fun y ⟨_, hy, hlo⟩ => s.event_f_other (by omega) hlo code cls args⟩

/-- A field of a compare. -/
theorem State.put_compare_keepsChannels {c a lo w r : Nat} (hc : c < 4) (s : State) (v : Nat)
    (ha : a < 0xD00500 := by decide) (hlo : lo < 64 := by decide) : KeepsChannels s (s.put ⟨a + 0x20 * c, lo, w, r⟩ v) :=
  s.put_keepsChannels (.inl (show a + 0x20 * c < 0xD01000 by omega)) hlo v

/-- A field of a register of the motion unit. -/
theorem State.put_motion_keepsChannels {x : Fld} (hx : 0xE00000 ≤ x.addr ∧ x.lo < 64) (s : State) (v : Nat) :
    KeepsChannels s (s.put x v) :=
  s.put_keepsChannels (.inr (by omega)) hx.2 v

/-- The fields of an auxiliary axis that a stall shows are among them. -/
theorem axisField_motion (a : Nat) : ∀ x ∈ [MOT_AX_TARGET.TARGET a, MOT_AX_STATUS.STATE a, MOT_AX_STATUS.STALL a, MOT_AX_STATUS.DEV a],
    0xE00000 ≤ x.addr ∧ x.lo < 64 := by
  simp only [List.mem_cons, List.not_mem_nil, or_false, MOT_AX_TARGET.TARGET, MOT_AX_STATUS.STATE, MOT_AX_STATUS.STALL, MOT_AX_STATUS.DEV,
    MOT_AX_TARGET.off, MOT_AX_STATUS.off]
  rintro x (rfl | rfl | rfl | rfl) <;> simp only <;> omega

theorem State.cmpMissed_keepsChannels {c : Nat} (hc : c < 4) (s : State) (pos : Int) (invalid : Bool) :
    KeepsChannels s (s.cmpMissed c pos invalid) :=
  ((State.put_compare_keepsChannels hc s 0).then (State.put_keepsChannels (x := SFB_STATUS.MISS_SEEN) (by decide) (by decide) _ 1)).then
    (State.event_keepsChannels _ _ _ _)

theorem State.compareAt_keepsChannels {c : Nat} (hc : c < 4) (s : State) (n at_ : Nat) (p : Int) :
    KeepsChannels s (s.compareAt n at_ p c) := by
  have hfired (k due w : Nat) (x y : Later) :
      KeepsChannels s (((s.count (SFB_CMP_FIRED.COUNT c) k).at due x).at (due + w) y) :=
    ((State.put_compare_keepsChannels hc s _).then (.of_keeps (State.at_keeps _ _ _))).then (.of_keeps (State.at_keeps _ _ _))
  refine .ite _ (.refl s) (.ite _ ((hfired _ _ _ _ _).then (State.put_compare_keepsChannels hc _ _)) (.ite _ ?_ ?_))
  · exact (((hfired _ _ _ _ _).then (State.put_compare_keepsChannels hc _ _)).then (State.put_compare_keepsChannels hc _ _)).then
      (State.event_keepsChannels _ _ _ _)
  · exact (hfired _ _ _ _ _).then (State.put_compare_keepsChannels hc _ _)

theorem State.emuCheck_keepsChannels {e : Nat} (he : e < 2) (s : State) : KeepsChannels s (s.emuCheck e) :=
  .ite _ (((s.put_keepsChannels (x := SFB_EMU_CTL.OVR e) (.inl (by simp only [SFB_EMU_CTL.OVR, SFB_EMU_CTL.off]; omega))
      (show 16 < 64 by decide) 1).then
    (State.put_keepsChannels (x := SFB_STATUS.OVR_SEEN) (by decide) (by decide) _ 1)).then (State.event_keepsChannels _ _ _ _)) (.refl s)

theorem State.emuChecks_keeps (s : State) (n : Nat) : Keeps s (s.emuChecks n) [.regs, .journal] :=
  .foldl (fun t e => .ite _ (((t.flag_keeps _).mono.then (State.flag_keeps _ _)).then (State.event_keeps _ _ _ _)) (.refl t _)) _ s

theorem State.emuChecks_keepsChannels (s : State) (n : Nat) : KeepsChannels s (s.emuChecks n) :=
  .foldl (fun t _ he => t.emuCheck_keepsChannels (List.mem_range.mp (List.mem_of_mem_filter he))) s

theorem State.pulse_keepsChannels (s : State) (line : Nat) : KeepsChannels s (s.pulse line) := by
  refine ⟨(s.pulse_keeps line).2 .chans (by decide), fun x ⟨_, hx, hlo⟩ => s.pulse_f line ?_ ?_⟩
  · exact key_ne_of_addr (by simp only [GAF_CNT_EVMERGE.COUNT, GAF_CNT_EVMERGE.off]; omega) hlo (show 0 < 64 by decide)
  · exact key_ne_of_addr (by simp only [GAF_STATUS.EV_MERGE, GAF_STATUS.off]; omega) hlo (by decide)

theorem State.restAxis_keepsChannels (s : State) (a st : Nat) : KeepsChannels s (s.restAxis a st) := by
  have hstate : KeepsChannels s (s.put (MOT_AX_STATUS.STATE a) st) := State.put_motion_keepsChannels (axisField_motion a _ (by simp)) s st
  exact (hstate.then ⟨rfl, fun _ _ => rfl⟩).then (State.pulse_keepsChannels _ _)

theorem State.stall_keepsChannels (s : State) (a : Nat) (dev : Int) : KeepsChannels s (s.stall a dev) := by
  have htarget (i : Int) : KeepsChannels s (s.puts (MOT_AX_TARGET.TARGET a) i) :=
    State.put_motion_keepsChannels (axisField_motion a _ (by simp)) s _
  have hflag (t : State) : KeepsChannels t (t.flag (MOT_AX_STATUS.STALL a)) :=
    State.put_motion_keepsChannels (axisField_motion a _ (by simp)) t 1
  exact (((htarget _).then (State.restAxis_keepsChannels _ a 3)).then (hflag _)).then (State.event_keepsChannels _ _ _ _)

theorem State.checkAxis_keepsChannels (s : State) (a : Nat) : KeepsChannels s (s.checkAxis a) :=
  have hdev : KeepsChannels s (s.puts (MOT_AX_STATUS.DEV a) (sat32 (s.axDev a))) :=
    State.put_motion_keepsChannels (axisField_motion a _ (by simp)) s _
  .ite _ (.ite _ (hdev.then (State.stall_keepsChannels _ _ _)) hdev) (.refl s)

/-- What a new sample brings about leaves the channels. -/
theorem State.newSample_keepsChannels (s : State) (n at_ : Nat) : KeepsChannels s (s.newSample n at_) := by
  have hcompares (t : State) : ∀ c ∈ s.comparesOn n, KeepsChannels t (t.compareAt n at_ (t.chPos n) c) := fun c hc =>
    t.compareAt_keepsChannels (List.mem_range.mp (List.mem_of_mem_filter hc)) n at_ _
  have hdev (due : Nat) (t : State) (a : Nat) : KeepsChannels t (State.checkDev due t a) :=
    .ite _ (.of_keeps (t.at_keeps _ _)) (.refl t)
  exact ((((KeepsChannels.foldl hcompares s).then (State.emuChecks_keepsChannels _ n)).then (.of_keeps (State.at_keeps _ _ _))).then
    (.foldl (fun t a _ => hdev _ t a) _)).then (.foldl (fun t a _ => t.checkAxis_keepsChannels a) _)

/-! ### A fault (R232, R246, R252) -/

/-- The state in which a fault of a channel shows, before its compares disarm and its axes stall. -/
def State.faultShown (s : State) (n cause : Nat) : State :=
  ((((s.put (SFB_CH_STATUS.POS_VALID n) 0).flag (SFB_CH_STATUS.REF_LOST n)).flag (SFB_CH_STATUS.FAULT n)).put
    (SFB_CH_STATUS.CAUSE n) cause).modChan n (fun c => { c with track := false, bad := 0, reading := false })

theorem State.chFault_keepsChannels (s : State) (n cause due : Nat) : KeepsChannels (s.faultShown n cause) (s.chFault n cause due) :=
  ((KeepsChannels.foldl (fun t _ hc => t.cmpMissed_keepsChannels (List.mem_range.mp (List.mem_of_mem_filter hc)) _ true) _).then
    (.foldl (fun t a _ => t.stall_keepsChannels a _) _)).then (.of_keeps (State.at_keeps _ _ _))

section
variable {s : State} {n : Nat} {c : Chan} {cause : Nat}

theorem State.faultShown_f (hcause : cause < 16) :
    (s.faultShown n cause).f (SFB_CH_STATUS.FAULT n) = 1 ∧ (s.faultShown n cause).f (SFB_CH_STATUS.CAUSE n) = cause ∧
    (s.faultShown n cause).f (SFB_CH_STATUS.POS_VALID n) = 0 ∧ (s.faultShown n cause).f (SFB_CH_STATUS.REF_LOST n) = 1 ∧
    (s.faultShown n cause).f (SFB_CH_POS.POS n) = s.f (SFB_CH_POS.POS n) ∧
    (s.faultShown n cause).f (SFB_CH_CFG.EN n) = s.f (SFB_CH_CFG.EN n) := by
  simp (disch := decide) only [State.faultShown, State.flag, State.modChan_f, SFB_CH_STATUS.POS_VALID, SFB_CH_STATUS.REF_LOST,
    SFB_CH_STATUS.FAULT, SFB_CH_STATUS.CAUSE, SFB_CH_STATUS.off, SFB_CH_POS.POS, SFB_CH_POS.off, SFB_CH_CFG.EN, SFB_CH_CFG.off,
    State.f_put_same, State.f_put_chField]
  exact ⟨rfl, Nat.mod_eq_of_lt hcause, rfl, rfl, trivial, trivial⟩

/-- A fault of a channel as its registers and its data show it: the position stays where it was, no longer valid. -/
theorem State.chFault_spec (hn : n < 18) (h : s.chans[n]? = some c) (hcause : cause < 16) (due : Nat) :
    (s.chFault n cause due).f (SFB_CH_STATUS.FAULT n) = 1 ∧ (s.chFault n cause due).f (SFB_CH_STATUS.CAUSE n) = cause ∧
    (s.chFault n cause due).f (SFB_CH_STATUS.POS_VALID n) = 0 ∧ (s.chFault n cause due).f (SFB_CH_STATUS.REF_LOST n) = 1 ∧
    (s.chFault n cause due).chPos n = s.chPos n ∧ (s.chFault n cause due).f (SFB_CH_CFG.EN n) = s.f (SFB_CH_CFG.EN n) ∧
    ((s.chFault n cause due).chan n).track = false ∧ (due, Later.fault n cause) ∈ (s.chFault n cause due).later := by
  have hkeep := s.chFault_keepsChannels n cause due
  obtain ⟨hfault, hshown, hvalid, hlost, hpos, hen⟩ := State.faultShown_f (s := s) (n := n) hcause
  have htrack : ((s.faultShown n cause).chan n).track = false := congrArg Chan.track (State.chan_modChan h _)
  exact ⟨(hkeep.f_eq hn).trans hfault, (hkeep.f_eq hn).trans hshown, (hkeep.f_eq hn).trans hvalid, (hkeep.f_eq hn).trans hlost,
    congrArg (sgn 64) ((hkeep.f_eq hn).trans hpos), (hkeep.f_eq hn).trans hen, (congrArg Chan.track (hkeep.chan n)).trans htrack,
    State.mem_at _ _ _⟩

end

/-! ### A new position (R239 to R242) -/

section
variable {s : State} {n : Nat} {c : Chan}

/-- A new edge changes the run of a channel and what shows its speed. -/
theorem State.newEdge_spec (h : s.chans[n]? = some c) (pos : Int) (t : Nat) (neg : Bool) :
    KeepsFields s (s.newEdge n pos t neg) (speedFields n) ∧
    ∃ r d a, (s.newEdge n pos t neg).chan n = { c with run := r, dir := d, edgeAt := a } := by
  have hshown (v : Int) (estimate : Bool) (r : List Edge) :
      KeepsFields s ((s.setSpeed n v neg estimate false).modChan n (fun c => { c with run := r, dir := some neg, edgeAt := s.mono100 }))
        (speedFields n) ∧
      ∃ r' d a, ((s.setSpeed n v neg estimate false).modChan n (fun c =>
        { c with run := r, dir := some neg, edgeAt := s.mono100 })).chan n = { c with run := r', dir := d, edgeAt := a } :=
    ⟨s.setSpeed_keepsFields n v neg estimate false, r, _, _,
      State.chan_modChan ((s.setSpeed_keeps n v neg estimate false).getElem?_chans h) _⟩
  simp only [State.newEdge, State.chan_of_getElem? h]
  split
  · exact hshown _ _ _
  · split
    · exact hshown _ _ _
    · split <;> exact hshown _ _ _

/-- The state in which a new position and its stamp show. -/
def State.posShown (s : State) (n : Nat) (pos : Int) (at_ : Nat) : State :=
  (s.puts (SFB_CH_POS.POS n) pos).put (SFB_CH_STAMP.NS n) (s.timeAt at_ / 10)

theorem State.posShown_keeps (s : State) (n : Nat) (pos : Int) (at_ : Nat) : Keeps s (s.posShown n pos at_) [.regs] :=
  .then (s.put_keeps _ _) (State.put_keeps _ _ _)

/-- A move is a new sample behind the new position, with its edge where the speed count changes. -/
theorem State.moveTo_eq_newSample (h : s.chans[n]? = some c) (pos : Int) (at_ : Nat) :
    ∃ w, s.moveTo n pos at_ = w.newSample n at_ ∧ KeepsFields (s.posShown n pos at_) w (speedFields n) ∧
      ∃ r d a, w.chan n = { c with run := r, dir := d, edgeAt := a } := by
  have hshown := (s.posShown_keeps n pos at_).getElem?_chans h
  rw [State.moveTo]
  split
  · exact ⟨_, rfl, .refl _ _, c.run, c.dir, c.edgeAt, State.chan_of_getElem? hshown⟩
  · exact ⟨_, rfl, State.newEdge_spec hshown _ _ _⟩

/-- A channel that moves shows its position and the stamp of its sample; all else of it but the run of its edges stays. -/
theorem State.moveTo_spec (hn : n < 18) (h : s.chans[n]? = some c) (pos : Int) (at_ : Nat) :
    (s.moveTo n pos at_).chPos n = sgn 64 (ofInt 64 pos) ∧
    (s.moveTo n pos at_).f (SFB_CH_STAMP.NS n) = s.timeAt at_ / 10 % 2 ^ 64 ∧
    (s.moveTo n pos at_).f (SFB_CH_STATUS.POS_VALID n) = s.f (SFB_CH_STATUS.POS_VALID n) ∧
    ∃ r d a, (s.moveTo n pos at_).chan n = { c with run := r, dir := d, edgeAt := a } := by
  obtain ⟨w, hmove, hfields, r, d, a, hchan⟩ := State.moveTo_eq_newSample h pos at_
  have hkeep := w.newSample_keepsChannels n at_
  have hf {b lo v r : Nat} (hb : 0xD01000 ≤ b ∧ b < 0xD01080) (hlo : lo < 64) (hs : b ≠ 0xD01018) (hst : b * 64 + lo ≠ 0xD01004 * 64 + 1) :
      (w.newSample n at_).f ⟨b + 0x80 * n, lo, v, r⟩ = (s.posShown n pos at_).f ⟨b + 0x80 * n, lo, v, r⟩ :=
    (hkeep.f_eq hn hb hlo).trans (hfields _ (chField_not_speed hs hst hlo))
  have hpos : (s.posShown n pos at_).fs (SFB_CH_POS.POS n) = sgn 64 (ofInt 64 pos) :=
    (congrArg (sgn 64) (State.f_put_chField _ _ (by decide))).trans (s.fs_puts _ _)
  rw [hmove]
  refine ⟨(congrArg (sgn 64) (hf (by decide) (by decide) (by decide) (by decide))).trans hpos, ?_, ?_, r, d, a, (hkeep.chan n).trans hchan⟩
  · exact (hf (by decide) (by decide) (by decide) (by decide)).trans (State.f_put_same _ _ _)
  · refine (hf (by decide) (by decide) (by decide) (by decide)).trans ?_
    exact (State.f_put_chField _ _ (by decide)).trans (State.f_put_chField _ _ (by decide))

end

end Sys2Proof.Machine
/-! # Position channels (O49) -/

namespace Sys2Proof.Machine

open Sys2Proof

set_option Elab.async false

theorem State.on_eq (s : State) (x : Fld) : s.on x = decide (s.f x = 1) := rfl

/-! ### Quadrature (R234) -/

theorem exec_quadEdge_off (s : State) {n : Fin 18} (hn : isQuad n = false) (level : Nat) : exec (.quadEdge n level) s = .next s :=
  if_pos (.inl hn)

section
variable {s : State} {n : Nat} {c : Chan}

theorem exec_quadEdge_same {n : Fin 18} (h : s.chans[n.val]? = some c) {level : Nat} (hl : level % 4 = c.raw) :
    exec (.quadEdge n level) s = .next s :=
  if_pos (.inr (hl.trans (congrArg Chan.raw (State.chan_of_getElem? h)).symm))

/-- A changed level is seen in the next sample, and has its time behind the filter. -/
theorem exec_quadEdge_seen {n : Fin 18} (hn : isQuad n = true) (h : s.chans[n.val]? = some c) {level : Nat} (hl : level % 4 ≠ c.raw) :
    Gives (exec (.quadEdge n level) s) (fun t =>
      t.chan n = { c with
        raw := level % 4
        aAt := if bit (level % 4) 0 = bit c.raw 0 then c.aAt else cdiv (s.mono100 * 2) (sampleGap n)
        bAt := if bit (level % 4) 1 = bit c.raw 1 then c.bAt else cdiv (s.mono100 * 2) (sampleGap n) } ∧
      (quadInstant n (cdiv (s.mono100 * 2) (sampleGap n) + s.f (SFB_CH_CFG.FILT n)) + 1,
        Later.quad n (cdiv (s.mono100 * 2) (sampleGap n))) ∈ t.later ∧ Keeps s t [.chans, .later]) := by
  have hraw : ¬ (isQuad n = false ∨ level % 4 = (s.chan n).raw) := by
    simp [hn, State.chan_of_getElem? h, hl]
  exact ⟨_, if_neg hraw, State.chan_modChan h _, State.mem_at _ _ _, .then (.mono (s.modChan_keeps n _)) (State.at_keeps _ _ _)⟩

/-- Whether input A changed in sample k and passes the filter now. -/
def Chan.passesA (c : Chan) (k : Nat) : Bool := decide (c.aAt = k) && (bit c.raw 0 != bit c.level 0)

/-- The same of input B. -/
def Chan.passesB (c : Chan) (k : Nat) : Bool := decide (c.bAt = k) && (bit c.raw 1 != bit c.level 1)

/-- The level behind the filter then. -/
def Chan.filtered (c : Chan) (k : Nat) : Nat :=
  b2n (if c.passesA k = true then bit c.raw 0 else bit c.level 0) + 2 * b2n (if c.passesB k = true then bit c.raw 1 else bit c.level 1)

/-- What passes the filter changes the level; one input counts, both are a fault. -/
theorem State.quadStable_eq (h : s.chans[n]? = some c) (k : Nat) : s.quadStable n k =
    if (!c.passesA k && !c.passesB k) || !s.chOn n || !c.track then s.modChan n (fun c' => { c' with level := c.filtered k })
    else if c.passesA k && c.passesB k then
      (s.modChan n (fun c' => { c' with level := c.filtered k })).chFault n 3 (quadInstant n k + s.seqLatency n)
    else (s.modChan n (fun c' => { c' with level := c.filtered k })).moveTo n
      (s.chPos n + (if s.on (SFB_CH_CFG.DIR_INV n) then -(if (grayPlace (c.filtered k) + 4 - grayPlace c.level) % 4 = 1 then 1 else -1)
        else if (grayPlace (c.filtered k) + 4 - grayPlace c.level) % 4 = 1 then 1 else -1)) (quadInstant n k) := by
  rw [State.quadStable, State.chan_of_getElem? h]
  rfl

theorem State.quadStable_none (h : s.chans[n]? = some c) {k : Nat} (ha : c.passesA k = false) (hb : c.passesB k = false) :
    (s.quadStable n k).regs = s.regs := by
  simp [State.quadStable_eq h, ha, hb]

variable (hn : n < 18) (hon : s.chOn n = true) (h : s.chans[n]? = some c) (htrack : c.track = true)
include hn hon h htrack

theorem State.quadStable_both {k : Nat} (ha : c.passesA k = true) (hb : c.passesB k = true) :
    (s.quadStable n k).f (SFB_CH_STATUS.FAULT n) = 1 ∧ (s.quadStable n k).f (SFB_CH_STATUS.CAUSE n) = 3 ∧
    (s.quadStable n k).f (SFB_CH_STATUS.POS_VALID n) = 0 ∧ (s.quadStable n k).f (SFB_CH_STATUS.REF_LOST n) = 1 ∧
    (s.quadStable n k).chPos n = s.chPos n ∧ ((s.quadStable n k).chan n).track = false := by
  obtain ⟨hfault, hcause, hvalid, hlost, hpos, -, hoff, -⟩ :=
    State.chFault_spec hn (State.getElem?_modChan h (fun c' => { c' with level := c.filtered k })) (show 3 < 16 by decide)
      (quadInstant n k + s.seqLatency n)
  rw [State.quadStable_eq h, if_neg (by simp [ha, hon, htrack]), if_pos (by simp [ha, hb])]
  exact ⟨hfault, hcause, hvalid, hlost, hpos, hoff⟩

/-- One count, by the places of the levels and DIR_INV. -/
theorem State.quadStable_one {k : Nat} (hab : c.passesA k ≠ c.passesB k) {d : Int}
    (hd : d = 1 ∧ (grayPlace (c.filtered k) + 4 - grayPlace c.level) % 4 = 1 ∨
      d = -1 ∧ (grayPlace (c.filtered k) + 4 - grayPlace c.level) % 4 ≠ 1) :
    (s.quadStable n k).chPos n = sgn 64 (ofInt 64 (s.chPos n + (if s.f (SFB_CH_CFG.DIR_INV n) = 1 then -d else d))) ∧
    (s.quadStable n k).f (SFB_CH_STAMP.NS n) = s.timeAt (quadInstant n k) / 10 % 2 ^ 64 ∧
    ((s.quadStable n k).chan n).level = c.filtered k := by
  have hcount : d = if (grayPlace (c.filtered k) + 4 - grayPlace c.level) % 4 = 1 then 1 else -1 := by
    obtain ⟨rfl, hup⟩ | ⟨rfl, hdown⟩ := hd
    · rw [if_pos hup]
    · rw [if_neg hdown]
  obtain ⟨hpos, hstamp, -, r, dir, a, hchan⟩ :=
    State.moveTo_spec hn (State.getElem?_modChan h (fun c' => { c' with level := c.filtered k }))
      (s.chPos n + (if s.f (SFB_CH_CFG.DIR_INV n) = 1 then -d else d)) (quadInstant n k)
  have hb : c.passesB k = !c.passesA k := Bool.eq_not.mpr hab.symm
  have hsome : ((!c.passesA k && !c.passesB k) || !s.chOn n || !c.track) = false := by
    rw [hb, hon, htrack]
    cases c.passesA k <;> rfl
  have hone : (c.passesA k && c.passesB k) = false := by
    rw [hb, Bool.and_not_self]
  have hmove : s.quadStable n k = (s.modChan n (fun c' => { c' with level := c.filtered k })).moveTo n
      (s.chPos n + (if s.f (SFB_CH_CFG.DIR_INV n) = 1 then -d else d)) (quadInstant n k) := by
    rw [State.quadStable_eq h, hsome, hone, ← hcount]
    simp [State.on_eq]
  rw [hmove]
  exact ⟨hpos, hstamp, congrArg Chan.level hchan⟩

end

/-! ### Sin/cos (R231 to R233) -/

/-- The state in which the raw values of a sample show. -/
def State.aeShown (s : State) (n rawS rawC : Nat) : State := (s.put (SFB_AE_RAW.SIN n) rawS).put (SFB_AE_RAW.COS n) rawC

/-- The corrected sine of a sample (R231). -/
def State.aeSin (s : State) (n rawS : Nat) : Int := ((rawS % 4096 : Nat) : Int) - 2048 - s.fs (SFB_AE_CORR.OFF_S n)

/-- The corrected cosine of a sample (R231). -/
def State.aeCos (s : State) (n rawC : Nat) : Int :=
  rne ((((rawC % 4096 : Nat) : Int) - 2048 - s.fs (SFB_AE_CORR.OFF_C n)) * s.f (SFB_AE_GAIN.GAIN_C n)) 4096

theorem State.phi_keeps (s : State) (y x : Int) : Keeps s (s.phi y x).2 [.freeCount] := by
  simp only [State.phi]
  split
  · exact s.free_keeps 12
  · split
    · exact .refl s _
    · split
      · exact .refl s _
      · exact s.free_keeps 1

/-- No field of a channel but the raw values themselves shows them. -/
theorem State.aeShown_f (s : State) {n rawS rawC a lo w r : Nat} (ha : a ≠ 0xD01050 := by decide) (hlo : lo < 64 := by decide) :
    (s.aeShown n rawS rawC).f ⟨a + 0x80 * n, lo, w, r⟩ = s.f ⟨a + 0x80 * n, lo, w, r⟩ :=
  (State.f_put_chField _ _ (by omega)).trans (s.f_put_chField _ (by omega))

theorem State.aeShown_keeps (s : State) (n rawS rawC : Nat) : Keeps s (s.aeShown n rawS rawC) [.regs] :=
  .then (s.put_keeps _ _) (State.put_keeps _ _ _)

section
variable {s : State} {n p : Nat} {c : Chan}

/-- The first sample within the window makes the position valid where it stands. -/
theorem State.aePhase_first (hn : n < 18) (h : s.chans[n]? = some c) (hphi : c.phi = none) :
    (s.aePhase n p).f (SFB_CH_STATUS.POS_VALID n) = 1 ∧ (s.aePhase n p).chPos n = s.chPos n ∧
    ((s.aePhase n p).chan n).phi = some p ∧ (s.aePhase n p).f (SFB_CH_STAMP.NS n) = s.timeAt s.mono100 / 10 % 2 ^ 64 := by
  obtain ⟨hpos, hstamp, hvalid, r, d, a, hchan⟩ :=
    State.moveTo_spec (s := (s.put (SFB_CH_STATUS.POS_VALID n) 1).modChan n (fun c => { c with phi := some p })) hn
      (State.getElem?_modChan ((s.put_keeps _ _).getElem?_chans h) _) (s.chPos n) s.mono100
  rw [State.aePhase, State.chan_of_getElem? h, hphi]
  exact ⟨hvalid.trans (show (s.put (SFB_CH_STATUS.POS_VALID n) 1).f _ = 1 from s.f_put_same _ 1),
    hpos.trans (sgn_ofInt_sgn _), congrArg Chan.phi hchan, hstamp⟩

variable (hn : n < 18) (h : s.chans[n]? = some c) {q : Nat} (hphi : c.phi = some q) {d : Int}
  (hd : d = ((p : Int) - q + 2048) % 4096 - 2048)
include hn h hphi hd

/-- A later one moves it by the difference of the phases. -/
theorem State.aePhase_moves (hsmall : d.natAbs ≤ 1536) : ((s.aePhase n p).chan n).phi = some p ∧
    (s.aePhase n p).chPos n = sgn 64 (ofInt 64 (s.chPos n + (if s.f (SFB_CH_CFG.DIR_INV n) = 1 then -d else d))) := by
  obtain ⟨hpos, -, -, r, dir, a, hchan⟩ :=
    State.moveTo_spec (s := s.modChan n (fun c => { c with phi := some p })) hn (State.getElem?_modChan h _)
      (s.chPos n + (if s.f (SFB_CH_CFG.DIR_INV n) = 1 then -d else d)) s.mono100
  have hmove : s.aePhase n p = (s.modChan n (fun c => { c with phi := some p })).moveTo n
      (s.chPos n + (if s.f (SFB_CH_CFG.DIR_INV n) = 1 then -d else d)) s.mono100 := by
    simp only [State.aePhase, State.chan_of_getElem? h, hphi, ← hd, if_neg (Nat.not_lt.mpr hsmall), State.on_eq, decide_eq_true_eq]
  rw [hmove]
  exact ⟨congrArg Chan.phi hchan, hpos⟩

/-- A difference that no stage can have moved is a fault (R232). -/
theorem State.aePhase_jumps (hlarge : 1536 < d.natAbs) :
    (s.aePhase n p).f (SFB_CH_STATUS.FAULT n) = 1 ∧ (s.aePhase n p).f (SFB_CH_STATUS.CAUSE n) = 2 := by
  obtain ⟨hfault, hcause, -⟩ := State.chFault_spec hn h (show 2 < 16 by decide) (s.mono100 + s.seqLatency n)
  have hjump : s.aePhase n p = s.chFault n 2 (s.mono100 + s.seqLatency n) := by
    simp only [State.aePhase, State.chan_of_getElem? h, hphi, ← hd, if_pos hlarge]
  rw [hjump]
  exact ⟨hfault, hcause⟩

end

section
variable {s : State} {n : Fin 4} {rawS rawC : Nat} {c : Chan}

theorem exec_aeSample_off (hon : s.chOn n = false) : exec (.aeSample n rawS rawC) s = .next s := if_pos hon

/-- A sample of a channel that is on shows its raw values; one that tracks is judged by the window, and its phase taken. -/
theorem exec_aeSample_eq (hon : s.chOn n = true) (h : s.chans[n.val]? = some c) :
    exec (.aeSample n rawS rawC) s =
      if c.track = false then .next (s.aeShown n rawS rawC)
      else if s.aeSin n rawS * s.aeSin n rawS + s.aeCos n rawC * s.aeCos n rawC < s.f (SFB_AE_AMP_LO.A2 n) ∨
          s.f (SFB_AE_AMP_HI.A2 n) < s.aeSin n rawS * s.aeSin n rawS + s.aeCos n rawC * s.aeCos n rawC then
        if s.f (SFB_CH_CFG.FILT n) + 1 ≤ c.bad + 1 then
          .next ((s.aeShown n rawS rawC).chFault n 1 (s.mono100 + (s.aeShown n rawS rawC).seqLatency n))
        else .next ((s.aeShown n rawS rawC).modChan n (fun c' => { c' with bad := c.bad + 1 }))
      else
        .next ((((s.aeShown n rawS rawC).modChan n (fun c => { c with bad := 0 })).phi (s.aeSin n rawS) (s.aeCos n rawC)).2.aePhase n
          (((s.aeShown n rawS rawC).modChan n (fun c => { c with bad := 0 })).phi (s.aeSin n rawS) (s.aeCos n rawC)).1) := by
  have hchan : (s.aeShown n rawS rawC).chan n = c := State.chan_of_getElem? ((s.aeShown_keeps n rawS rawC).getElem?_chans h)
  have hsin : (s.aeShown n rawS rawC).aeSin n rawS = s.aeSin n rawS :=
    congrArg (fun v => ((rawS % 4096 : Nat) : Int) - 2048 - sgn 10 v) s.aeShown_f
  have hoff : (s.aeShown n rawS rawC).fs (SFB_AE_CORR.OFF_C n) = s.fs (SFB_AE_CORR.OFF_C n) := congrArg (sgn 10) s.aeShown_f
  have hgain : (s.aeShown n rawS rawC).f (SFB_AE_GAIN.GAIN_C n) = s.f (SFB_AE_GAIN.GAIN_C n) := s.aeShown_f
  have hcos : (s.aeShown n rawS rawC).aeCos n rawC = s.aeCos n rawC := by
    rw [State.aeCos, hoff, hgain, State.aeCos]
  have hlow : (s.aeShown n rawS rawC).f (SFB_AE_AMP_LO.A2 n) = s.f (SFB_AE_AMP_LO.A2 n) := s.aeShown_f
  have hhigh : (s.aeShown n rawS rawC).f (SFB_AE_AMP_HI.A2 n) = s.f (SFB_AE_AMP_HI.A2 n) := s.aeShown_f
  have hfilt : (s.aeShown n rawS rawC).f (SFB_CH_CFG.FILT n) = s.f (SFB_CH_CFG.FILT n) := s.aeShown_f
  rw [← hsin, ← hcos, ← hlow, ← hhigh, ← hfilt, ← hchan]
  exact if_neg (by simp [hon])

variable (hon : s.chOn n = true) (h : s.chans[n.val]? = some c)
include hon h

theorem exec_aeSample_untracked (htrack : c.track = false) : exec (.aeSample n rawS rawC) s = .next (s.aeShown n rawS rawC) :=
  (exec_aeSample_eq hon h).trans (if_pos htrack)

variable (htrack : c.track = true)
include htrack

section
variable (hout : s.aeSin n rawS * s.aeSin n rawS + s.aeCos n rawC * s.aeCos n rawC < s.f (SFB_AE_AMP_LO.A2 n) ∨
  s.f (SFB_AE_AMP_HI.A2 n) < s.aeSin n rawS * s.aeSin n rawS + s.aeCos n rawC * s.aeCos n rawC)
include hout

theorem exec_aeSample_bad (hbad : c.bad < s.f (SFB_CH_CFG.FILT n)) :
    exec (.aeSample n rawS rawC) s = .next ((s.aeShown n rawS rawC).modChan n (fun c => { c with bad := c.bad + 1 })) := by
  rw [exec_aeSample_eq hon h, if_neg (by simp [htrack]), if_pos hout, if_neg (by omega)]
  exact congrArg Host.Outcome.next (State.modChan_congr ((s.aeShown_keeps n rawS rawC).getElem?_chans h) rfl)

theorem exec_aeSample_faults (hbad : s.f (SFB_CH_CFG.FILT n) ≤ c.bad) : Gives (exec (.aeSample n rawS rawC) s) (fun t =>
    t.f (SFB_CH_STATUS.FAULT n) = 1 ∧ t.f (SFB_CH_STATUS.CAUSE n) = 1 ∧ t.f (SFB_CH_STATUS.POS_VALID n) = 0) := by
  obtain ⟨hfault, hcause, hvalid, -⟩ := State.chFault_spec (s := s.aeShown n rawS rawC) (n := n) (cause := 1) (by omega)
    ((s.aeShown_keeps n rawS rawC).getElem?_chans h) (by decide) (s.mono100 + (s.aeShown n rawS rawC).seqLatency n)
  rw [exec_aeSample_eq hon h, if_neg (by simp [htrack]), if_pos hout, if_pos (by omega)]
  exact ⟨_, rfl, hfault, hcause, hvalid⟩

end

/-- A sample within the window has its phase taken in a state in which the channel, its registers and the time are as they were. -/
theorem exec_aeSample_good {p : Nat} {v : State}
    (hlow : (s.f (SFB_AE_AMP_LO.A2 n) : Int) ≤ s.aeSin n rawS * s.aeSin n rawS + s.aeCos n rawC * s.aeCos n rawC)
    (hhigh : s.aeSin n rawS * s.aeSin n rawS + s.aeCos n rawC * s.aeCos n rawC ≤ s.f (SFB_AE_AMP_HI.A2 n))
    (hphi : ((s.aeShown n rawS rawC).modChan n (fun c => { c with bad := 0 })).phi (s.aeSin n rawS) (s.aeCos n rawC) = (p, v)) :
    exec (.aeSample n rawS rawC) s = .next (v.aePhase n p) ∧ v.chans[n.val]? = some { c with bad := 0 } ∧ v.chPos n = s.chPos n ∧
    v.f (SFB_CH_CFG.DIR_INV n) = s.f (SFB_CH_CFG.DIR_INV n) ∧ v.timeAt v.mono100 = s.timeAt s.mono100 := by
  have hv := State.phi_keeps ((s.aeShown n rawS rawC).modChan n (fun c => { c with bad := 0 })) (s.aeSin n rawS) (s.aeCos n rawC)
  rw [hphi] at hv
  have hk : Keeps s v [.regs, .chans, .freeCount] :=
    .then (.then (.mono (s.aeShown_keeps n rawS rawC)) (State.modChan_keeps _ _ _)) hv
  have hf (x : Fld) : v.f x = (s.aeShown n rawS rawC).f x := hv.f_eq x
  have hchans : v.chans = ((s.aeShown n rawS rawC).modChan n (fun c => { c with bad := 0 })).chans := hv.2 .chans (by decide)
  have hmono : v.mono100 = s.mono100 := congrArg (· * 16) (hk.2 .tick (by decide))
  refine ⟨?_, ?_, congrArg (sgn 64) ((hf _).trans s.aeShown_f), (hf _).trans s.aeShown_f, ?_⟩
  · rw [exec_aeSample_eq hon h, if_neg (by simp [htrack]), if_neg (by omega), hphi]
  · rw [hchans]
    exact State.getElem?_modChan ((s.aeShown_keeps n rawS rawC).getElem?_chans h) _
  · rw [hmono]
    exact hk.timeAt_eq _

end

/-! ### SSI (R235, R236, R243) -/

section
variable {s : State} {n : Fin 2} {c : Chan} {line : Bool} {frame : List Bool}

theorem exec_ssi_off (hon : s.chOn (8 + n) = false) :
    exec (.ssiRead n) s = .next s ∧ exec (.ssiFrame n line frame) s = .next s :=
  ⟨if_neg (by simp [hon]), if_neg (by simp [hon])⟩

theorem exec_ssiRead_busy (h : s.chans[8 + n.val]? = some c) (hread : c.reading = true) : exec (.ssiRead n) s = .next s :=
  if_neg (by simp [State.chan_of_getElem? h, hread])

theorem exec_ssiFrame_unread (h : s.chans[8 + n.val]? = some c) (hread : c.reading = false) :
    exec (.ssiFrame n line frame) s = .next s :=
  if_neg (by simp [State.chan_of_getElem? h, hread])

/-- A read clocks the line and takes the time of its first falling edge. -/
theorem exec_ssiRead_clocks (hon : s.chOn (8 + n) = true) (h : s.chans[8 + n.val]? = some c) (hread : c.reading = false) :
    Gives (exec (.ssiRead n) s) (fun t =>
      t.chan (8 + n) = { c with reading := true, latch := s.now, latchAt := s.mono100 } ∧
      t.out = s.out ++ [.ssiClock n (if s.f (SFB_SE_CFG.DOUBLE n) = 1 then 2 * s.seBits n + 1 else s.seBits n)] ∧
      Keeps s t [.chans, .out]) := by
  refine ⟨_, if_pos ⟨hon, (congrArg Chan.reading (State.chan_of_getElem? h)).trans hread⟩, State.chan_modChan h _, ?_,
    .then (.mono (s.modChan_keeps _ _)) (State.send_keeps _ _)⟩
  simp only [State.on_eq, decide_eq_true_eq]
  rfl

/-- A frame that comes in ends the read; one of a channel that tracks is accepted, or is a fault of its cause. -/
theorem exec_ssiFrame_eq (hon : s.chOn (8 + n) = true) (h : s.chans[8 + n.val]? = some c) (hread : c.reading = true) :
    exec (.ssiFrame n line frame) s =
      if c.track = false then .next (s.modChan (8 + n) (fun c => { c with reading := false }))
      else .next (
        if (s.modChan (8 + n) (fun c => { c with reading := false })).seCause n line frame
            (msbFirst (decide (s.f (SFB_SE_CFG.GRAY n) = 1)) (frame.take (s.sePbits n)) false 0) = 0 then
          (s.modChan (8 + n) (fun c => { c with reading := false })).seAccept n
            (msbFirst (decide (s.f (SFB_SE_CFG.GRAY n) = 1)) (frame.take (s.sePbits n)) false 0)
        else (s.modChan (8 + n) (fun c => { c with reading := false })).chFault (8 + n)
          ((s.modChan (8 + n) (fun c => { c with reading := false })).seCause n line frame
            (msbFirst (decide (s.f (SFB_SE_CFG.GRAY n) = 1)) (frame.take (s.sePbits n)) false 0))
          (c.latchAt + s.seqLatency (8 + n))) := by
  have hchan : s.chan (8 + n) = c := State.chan_of_getElem? h
  rw [← hchan]
  exact if_pos ⟨hon, (congrArg Chan.reading hchan).trans hread⟩

theorem exec_ssiFrame_untracked (hon : s.chOn (8 + n) = true) (h : s.chans[8 + n.val]? = some c) (hread : c.reading = true)
    (htrack : c.track = false) : Gives (exec (.ssiFrame n line frame) s) (fun t =>
      t.chan (8 + n) = { c with reading := false } ∧ Keeps s t [.chans]) :=
  ⟨_, (exec_ssiFrame_eq hon h hread).trans (if_pos htrack), State.chan_modChan h _, s.modChan_keeps _ _⟩

end

section
variable {s : State} {n : Nat} {c : Chan}

/-- The end of the read changes no cause. -/
theorem State.seCause_read (h : s.chans[8 + n]? = some c) (line : Bool) (frame : List Bool) (pos : Nat) :
    (s.modChan (8 + n) (fun c => { c with reading := false })).seCause n line frame pos = s.seCause n line frame pos := by
  have hlast : ((s.modChan (8 + n) (fun c => { c with reading := false })).chan (8 + n)).lastSsi = (s.chan (8 + n)).lastSsi := by
    rw [State.chan_modChan h, State.chan_of_getElem? h]
  simp only [State.seCause, hlast]
  rfl

theorem State.seCause_lt (s : State) (n : Nat) (line : Bool) (frame : List Bool) (pos : Nat) : s.seCause n line frame pos < 16 := by
  simp only [State.seCause]
  repeat' split
  all_goals decide

/-- The speed that an accepted position gives, from the last one before it. -/
def ssiSpeed (c : Chan) (pos : Nat) (e : Edge) : Int :=
  rne (((pos : Int) - e.pos) * 2560000000000) ((c.latch * 10 : Nat) - (e.t : Int))

/-- The state in which an accepted position shows, before its speed. -/
def State.seShown (s : State) (n pos : Nat) (c : Chan) : State :=
  ((s.put (SFB_CH_POS.POS (8 + n)) pos).put (SFB_CH_STAMP.NS (8 + n)) c.latch).put (SFB_CH_STATUS.POS_VALID (8 + n)) 1

/-- The state in which its speed shows as well. -/
def State.seMoved (s : State) (n pos : Nat) (c : Chan) : State :=
  match c.lastSsi with
  | some e => ((s.seShown n pos c).puts (SFB_CH_SPEED.SPEED (8 + n)) (ssiSpeed c pos e)).put (SFB_CH_SPEED.DIR (8 + n))
      (b2n (decide (ssiSpeed c pos e < 0)))
  | none => s.seShown n pos c

theorem State.seMoved_chans (s : State) (n pos : Nat) (c : Chan) : (s.seMoved n pos c).chans = s.chans := by
  unfold State.seMoved
  cases c.lastSsi <;> rfl

/-- The speed is shown in two fields of its own. -/
theorem State.seMoved_f (s : State) (n pos : Nat) (c : Chan) {x : Fld} (hs : x.key ≠ (SFB_CH_SPEED.SPEED (8 + n)).key)
    (hd : x.key ≠ (SFB_CH_SPEED.DIR (8 + n)).key) : (s.seMoved n pos c).f x = (s.seShown n pos c).f x := by
  unfold State.seMoved
  cases c.lastSsi with
  | none => rfl
  | some e => exact (State.f_put_other _ _ hd).trans (State.f_put_other _ _ hs)

theorem State.seMoved_speed {s : State} {n : Nat} {c : Chan} {e : Edge} (he : c.lastSsi = some e) (pos : Nat) :
    (s.seMoved n pos c).fs (SFB_CH_SPEED.SPEED (8 + n)) = sgn 48 (ofInt 48 (ssiSpeed c pos e)) := by
  rw [State.seMoved, he]
  exact (congrArg (sgn 48) (State.f_put_chField _ _ (by decide))).trans (State.fs_puts _ _ _)

theorem State.seAccept_eq {s : State} {n : Nat} {c : Chan} (h : s.chans[8 + n]? = some c) (pos : Nat) : s.seAccept n pos =
    ((s.seMoved n pos c).modChan (8 + n) (fun c' => { c' with lastSsi := some { pos := pos, t := c'.latch * 10 } })).newSample
      (8 + n) c.latchAt := by
  rw [State.seAccept, State.chan_of_getElem? h, State.seMoved]
  cases c.lastSsi <;> rfl

/-- What an accepted position shows: itself, its stamp, its speed. -/
theorem State.seAccept_spec (hn : n < 2) (h : s.chans[8 + n]? = some c) (pos : Nat) :
    (s.seAccept n pos).f (SFB_CH_POS.POS (8 + n)) = pos % 2 ^ 64 ∧ (s.seAccept n pos).f (SFB_CH_STAMP.NS (8 + n)) = c.latch % 2 ^ 64 ∧
    (s.seAccept n pos).f (SFB_CH_STATUS.POS_VALID (8 + n)) = 1 ∧
    (s.seAccept n pos).chan (8 + n) = { c with lastSsi := some { pos := pos, t := c.latch * 10 } } ∧
    (∀ e, c.lastSsi = some e → (s.seAccept n pos).fs (SFB_CH_SPEED.SPEED (8 + n)) = sgn 48 (ofInt 48 (ssiSpeed c pos e))) := by
  have hkeep := ((s.seMoved n pos c).modChan (8 + n) (fun c' =>
    { c' with lastSsi := some { pos := pos, t := c'.latch * 10 } })).newSample_keepsChannels (8 + n) c.latchAt
  rw [← State.seAccept_eq h] at hkeep
  have hch : 8 + n < 18 := by omega
  have hf {a lo w r : Nat} (ha : 0xD01000 ≤ a ∧ a < 0xD01080) (hlo : lo < 64) (hs : a ≠ 0xD01018) :
      (s.seAccept n pos).f ⟨a + 0x80 * (8 + n), lo, w, r⟩ = (s.seShown n pos c).f ⟨a + 0x80 * (8 + n), lo, w, r⟩ :=
    (hkeep.f_eq hch ha hlo).trans (s.seMoved_f n pos c (chKey_ne (by omega)) (chKey_ne (by omega)))
  refine ⟨?_, ?_, ?_, ?_, fun e he => ?_⟩
  · refine (hf (by decide) (by decide) (by decide)).trans ?_
    exact ((State.f_put_chField _ _ (by decide)).trans (State.f_put_chField _ _ (by decide))).trans (State.f_put_same _ _ _)
  · refine (hf (by decide) (by decide) (by decide)).trans ?_
    exact (State.f_put_chField _ _ (by decide)).trans (State.f_put_same _ _ _)
  · exact (hf (by decide) (by decide) (by decide)).trans (State.f_put_same _ _ 1)
  · exact (hkeep.chan _).trans (State.chan_modChan (by rw [State.seMoved_chans]; exact h) _)
  · exact (congrArg (sgn 48) (hkeep.f_eq hch)).trans (State.seMoved_speed he pos)

end

section
variable {s : State} {n : Fin 2} {c : Chan} {line : Bool} {frame : List Bool}
variable (hon : s.chOn (8 + n) = true) (h : s.chans[8 + n.val]? = some c) (hread : c.reading = true) (htrack : c.track = true)
  {pos : Nat} (hpos : pos = msbFirst (decide (s.f (SFB_SE_CFG.GRAY n) = 1)) (frame.take (s.sePbits n)) false 0)
include hon h hread htrack hpos

theorem exec_ssiFrame_accepted (hcause : s.seCause n line frame pos = 0) : Gives (exec (.ssiFrame n line frame) s) (fun t =>
    t.f (SFB_CH_POS.POS (8 + n)) = pos % 2 ^ 64 ∧ t.f (SFB_CH_STAMP.NS (8 + n)) = c.latch % 2 ^ 64 ∧
    t.f (SFB_CH_STATUS.POS_VALID (8 + n)) = 1 ∧ (t.chan (8 + n)).reading = false ∧
    (t.chan (8 + n)).lastSsi = some { pos := pos, t := c.latch * 10 } ∧
    (∀ e, c.lastSsi = some e → t.fs (SFB_CH_SPEED.SPEED (8 + n)) = sgn 48 (ofInt 48 (ssiSpeed c pos e)))) := by
  obtain ⟨hshown, hstamp, hvalid, hchan, hspeed⟩ := State.seAccept_spec n.isLt
    (State.getElem?_modChan h (fun c => { c with reading := false })) pos
  refine ⟨_, (exec_ssiFrame_eq hon h hread).trans (if_neg (by simp [htrack])), ?_⟩
  rw [← hpos, if_pos ((State.seCause_read h line frame pos).trans hcause)]
  exact ⟨hshown, hstamp, hvalid, congrArg Chan.reading hchan, congrArg Chan.lastSsi hchan, hspeed⟩

theorem exec_ssiFrame_refused (hcause : s.seCause n line frame pos ≠ 0) : Gives (exec (.ssiFrame n line frame) s) (fun t =>
    t.f (SFB_CH_STATUS.FAULT (8 + n)) = 1 ∧ t.f (SFB_CH_STATUS.CAUSE (8 + n)) = s.seCause n line frame pos ∧
    t.f (SFB_CH_STATUS.POS_VALID (8 + n)) = 0 ∧ (t.chan (8 + n)).track = false) := by
  obtain ⟨hfault, hshown, hvalid, -, -, -, hoff, -⟩ := State.chFault_spec (n := 8 + n) (by omega)
    (State.getElem?_modChan h (fun c => { c with reading := false })) (s.seCause_lt n line frame pos) (c.latchAt + s.seqLatency (8 + n))
  refine ⟨_, (exec_ssiFrame_eq hon h hread).trans (if_neg (by simp [htrack])), ?_⟩
  rw [← hpos, State.seCause_read h, if_neg hcause]
  exact ⟨hfault, hshown, hvalid, hoff⟩

end

/-! ### Enabling, disabling, re-arming (R230, R232, R246) -/

/-- The state in which a write of SFB_CH_CFG shows. -/
def State.cfgShown (s : State) (n v : Nat) : State :=
  (((((s.put (SFB_CH_CFG.EN n) (bits v 0 1)).put (SFB_CH_CFG.DIR_INV n) (bits v 1 1)).put (SFB_CH_CFG.IDX_EN n)
    (bits v 2 1)).put (SFB_CH_CFG.IDX_EDGE n) (bits v 3 1)).put (SFB_CH_CFG.FILT n) (bits v 4 4)).put (SFB_CH_CFG.SPD_SHIFT n) (bits v 8 4)

theorem State.cfgShown_keeps (s : State) (n v : Nat) : Keeps s (s.cfgShown n v) [.regs] :=
  (((((s.put_keeps _ _).then (State.put_keeps _ _ _)).then (State.put_keeps _ _ _)).then (State.put_keeps _ _ _)).then
    (State.put_keeps _ _ _)).then (State.put_keeps _ _ _)

/-- A field of another register keeps its value. -/
theorem State.cfgShown_f (s : State) {x : Fld} {n : Nat} (hx : x.addr ≠ SFB_CH_CFG.off n) (hlo : x.lo < 64) (v : Nat) :
    (s.cfgShown n v).f x = s.f x := by
  have hput {y : Fld} (hy : y.addr = SFB_CH_CFG.off n ∧ y.lo < 64) (t : State) (u : Nat) : (t.put y u).f x = t.f x :=
    t.f_put_other u (key_ne_of_addr (hy.1 ▸ hx) hlo hy.2)
  rw [State.cfgShown, hput, hput, hput, hput, hput, hput]
  all_goals exact ⟨rfl, Nat.le_of_ble_eq_true rfl⟩

theorem State.cfgShown_en (s : State) (n v : Nat) : (s.cfgShown n v).f (SFB_CH_CFG.EN n) = bits v 0 1 := by
  have hother : (s.cfgShown n v).f (SFB_CH_CFG.EN n) = (s.put (SFB_CH_CFG.EN n) (bits v 0 1)).f (SFB_CH_CFG.EN n) :=
    ((((State.f_put_place _ _ (by decide)).trans (State.f_put_place _ _ (by decide))).trans (State.f_put_place _ _ (by decide))).trans
      (State.f_put_place _ _ (by decide))).trans (State.f_put_place _ _ (by decide))
  exact hother.trans ((s.f_put_same _ _).trans (bits_mod v 0 1))

theorem State.cfgShown_filt (s : State) (n v : Nat) : (s.cfgShown n v).f (SFB_CH_CFG.FILT n) = bits v 4 4 :=
  (State.f_put_place _ _ (by decide)).trans ((State.f_put_same _ _ _).trans (bits_mod v 4 4))

/-- A channel is on after the write where the unit and its new EN are. -/
theorem State.cfgShown_chOn (s : State) (n v : Nat) : (s.cfgShown n v).chOn n = (s.on SFB_CTL.ENABLE && bit v 0) := by
  have hctl : (s.cfgShown n v).f SFB_CTL.ENABLE = s.f SFB_CTL.ENABLE :=
    s.cfgShown_f (by simp only [SFB_CTL.ENABLE, SFB_CTL.off, SFB_CH_CFG.off]; omega) (by decide) v
  simp only [State.chOn, State.on_eq, hctl, s.cfgShown_en n v]
  rfl

theorem State.enable_of_chOn {s : State} {n : Nat} (hon : s.chOn n = true) : s.on SFB_CTL.ENABLE = true :=
  (Bool.and_eq_true_iff.mp hon).1

/-- A write of SFB_CH_CFG shows, switches the channel, and re-arms one that does not track. -/
theorem State.chCfgWrite_eq (s : State) (n v : Nat) : s.chCfgWrite n v =
    if bit v 12 && ((s.cfgShown n v).chSwitch (s.chOn n) n).chOn n && !(((s.cfgShown n v).chSwitch (s.chOn n) n).chan n).track then
      ((s.cfgShown n v).chSwitch (s.chOn n) n).trackFrom n
    else (s.cfgShown n v).chSwitch (s.chOn n) n := rfl

/-- A channel that begins to track: its valid bit, where it is a quadrature channel, and its data. -/
theorem State.trackFrom_keeps (s : State) (n : Nat) : Keeps s (s.trackFrom n) [.regs, .chans] :=
  .then (.ite _ (.mono (s.put_keeps _ _)) (.refl s _)) (State.modChan_keeps _ _ _)

theorem State.trackFrom_keepsFields (s : State) (n : Nat) : KeepsFields s (s.trackFrom n) [SFB_CH_STATUS.POS_VALID n] :=
  .ite _ (s.put_keepsFields _ _) (.refl s _)

section
variable {s : State} {n : Nat} {c : Chan}

theorem State.trackFrom_chan (h : s.chans[n]? = some c) : (s.trackFrom n).chan n =
    { c with track := true, phi := none, bad := 0, level := c.raw, aAt := 0, bAt := 0, reading := false } :=
  State.chan_modChan ((Keeps.ite (l := [.regs]) _ (s.put_keeps _ 1) (.refl s _)).getElem?_chans h) _

theorem State.trackFrom_valid (hq : isQuad n = true) : (s.trackFrom n).f (SFB_CH_STATUS.POS_VALID n) = 1 := by
  rw [State.trackFrom, if_pos hq]
  exact show (s.put (SFB_CH_STATUS.POS_VALID n) 1).f _ = 1 from s.f_put_same _ 1

/-- A re-armed channel tracks from the position where it stands. -/
theorem State.chCfgWrite_rearms {v : Nat} (hon : s.chOn n = true) (h : s.chans[n]? = some c) (hen : bit v 0 = true) (hre : bit v 12 = true)
    (htrack : c.track = false) : s.chCfgWrite n v = (s.cfgShown n v).trackFrom n := by
  have hstill : (s.cfgShown n v).chOn n = true := by
    rw [State.cfgShown_chOn, hen, State.enable_of_chOn hon]
    rfl
  have hoff : ((s.cfgShown n v).chan n).track = false :=
    (congrArg Chan.track (State.chan_of_getElem? ((s.cfgShown_keeps n v).getElem?_chans h))).trans htrack
  have hswitch : (s.cfgShown n v).chSwitch (s.chOn n) n = s.cfgShown n v := if_pos (hstill.trans hon.symm)
  rw [State.chCfgWrite_eq, hswitch, hstill, hre, hoff]
  rfl

/-- A channel that stops is a fault of cause 8. -/
theorem State.chStop_spec (hn : n < 18) (h : s.chans[n]? = some c) :
    (s.chStop n).f (SFB_CH_STATUS.FAULT n) = 1 ∧ (s.chStop n).f (SFB_CH_STATUS.CAUSE n) = 8 ∧
    (s.chStop n).f (SFB_CH_STATUS.POS_VALID n) = 0 ∧ (s.chStop n).f (SFB_CH_STATUS.REF_LOST n) = 1 ∧
    (s.chStop n).chPos n = s.chPos n ∧ (s.chStop n).f (SFB_CH_CFG.EN n) = s.f (SFB_CH_CFG.EN n) ∧
    ((s.chStop n).chan n).track = false ∧ (s.mono100 + sfbToSeq, Later.fault n 8) ∈ (s.chStop n).later :=
  State.chFault_spec hn h (by decide) (s.mono100 + sfbToSeq)

/-- A channel whose EN is cleared stops. -/
theorem State.chCfgWrite_stops {v : Nat} (hn : n < 18) (hon : s.chOn n = true) (h : s.chans[n]? = some c) (hen : bit v 0 = false) :
    s.chCfgWrite n v = (s.cfgShown n v).chStop n := by
  have hoff : (s.cfgShown n v).chOn n = false := by
    rw [State.cfgShown_chOn, hen, Bool.and_false]
  have hswitch : (s.cfgShown n v).chSwitch (s.chOn n) n = (s.cfgShown n v).chStop n := by
    rw [State.chSwitch, hoff, hon]
    rfl
  obtain ⟨-, -, -, -, -, hkept, -, -⟩ := State.chStop_spec (s := s.cfgShown n v) hn ((s.cfgShown_keeps n v).getElem?_chans h)
  have hstopped : ((s.cfgShown n v).chStop n).chOn n = false := by
    have hzero : bits v 0 1 ≠ 1 := fun he => absurd hen (by simpa [bit, bits] using he)
    rw [State.chOn, State.on_eq _ (SFB_CH_CFG.EN n), hkept, s.cfgShown_en n v, decide_eq_false hzero, Bool.and_false]
  rw [State.chCfgWrite_eq, hswitch, hstopped, Bool.and_false, Bool.false_and]
  rfl

/-- The state in which a channel that is enabled stands at 0 and at rest. -/
def State.startShown (s : State) (n : Nat) : State :=
  ((s.put (SFB_CH_POS.POS n) 0).setSpeed n 0 false false (!isSe n)).modChan n (fun c =>
    { c with idxRef := none, run := [], dir := none, lastSsi := none })

/-- A channel that is enabled stands at 0, tracks, and knows no position before. -/
theorem State.chStart_spec (hn : n < 18) (h : s.chans[n]? = some c) :
    (s.chStart n).f (SFB_CH_CFG.EN n) = s.f (SFB_CH_CFG.EN n) ∧ (s.chStart n).chPos n = 0 ∧ ((s.chStart n).chan n).track = true ∧
    ((s.chStart n).chan n).lastSsi = none ∧ ((s.chStart n).chan n).idxRef = none ∧ Keeps s (s.chStart n) [.regs, .chans, .journal] := by
  have hkeep : KeepsChannels ((s.startShown n).trackFrom n) (s.chStart n) := State.emuChecks_keepsChannels _ n
  have hspeed := (s.put (SFB_CH_POS.POS n) 0).setSpeed_keepsFields n 0 false false (!isSe n)
  have hrest : Keeps s ((s.put (SFB_CH_POS.POS n) 0).setSpeed n 0 false false (!isSe n)) [.regs] :=
    (s.put_keeps _ _).then (State.setSpeed_keeps _ _ _ _ _ _)
  have htrack := (s.startShown n).trackFrom_keepsFields n
  have hchan := State.trackFrom_chan (State.getElem?_modChan (s := (s.put (SFB_CH_POS.POS n) 0).setSpeed n 0 false false (!isSe n))
    (hrest.getElem?_chans h) (fun c => { c with idxRef := none, run := [], dir := none, lastSsi := none }))
  have hthere := (hkeep.chan n).trans hchan
  have hshown {x : Fld} (hx : x.key ∉ (speedFields n).map Fld.key) (hv : x.key ≠ (SFB_CH_STATUS.POS_VALID n).key) (hc : x.OfChannel) :
      (s.chStart n).f x = (s.put (SFB_CH_POS.POS n) 0).f x :=
    ((hkeep.2 x hc).trans (htrack x (by simpa using hv))).trans (hspeed x hx)
  refine ⟨?_, ?_, congrArg Chan.track hthere, congrArg Chan.lastSsi hthere, congrArg Chan.idxRef hthere, ?_⟩
  · exact (hshown (chField_not_speed (by decide) (by decide) (by decide)) (chKey_ne (by decide))
      (ofChannel hn (by decide) (by decide))).trans (State.f_put_chField _ _ (by decide))
  · exact congrArg (sgn 64) ((hshown (chField_not_speed (by decide) (by decide) (by decide)) (chKey_ne (by decide))
      (ofChannel hn (by decide) (by decide))).trans (State.f_put_same _ _ 0))
  · have hstart : Keeps s (s.startShown n) [.regs, .chans, .journal] :=
      .then hrest.mono (State.modChan_keeps _ _ _)
    exact (hstart.then (State.trackFrom_keeps _ _)).then (State.emuChecks_keeps _ _)

/-- A channel that was off is on after a write of its EN while the unit is on. -/
theorem State.chCfgWrite_starts {v : Nat} (hn : n < 18) (hoff : s.chOn n = false) (h : s.chans[n]? = some c) (hunit : s.f SFB_CTL.ENABLE = 1)
    (hen : bit v 0 = true) : s.chCfgWrite n v = (s.cfgShown n v).chStart n := by
  have hon : (s.cfgShown n v).chOn n = true := by
    rw [State.cfgShown_chOn, hen, State.on_eq, decide_eq_true hunit]
    rfl
  have hswitch : (s.cfgShown n v).chSwitch (s.chOn n) n = (s.cfgShown n v).chStart n := by
    rw [State.chSwitch, hoff, hon]
    rfl
  obtain ⟨-, -, htrack, -⟩ := State.chStart_spec (s := s.cfgShown n v) hn ((s.cfgShown_keeps n v).getElem?_chans h)
  rw [State.chCfgWrite_eq, hswitch, htrack, Bool.not_true, Bool.and_false]
  rfl

end

section
variable {s : State} {n : Fin 18} {v : Word} {c : Chan}

theorem exec_rearm_rearms (hon : s.chOn n = true) (h : s.chans[n.val]? = some c) (hen : bit v.toNat 0 = true) (hre : bit v.toNat 12 = true)
    (htrack : c.track = false) : Gives (exec (.rearm n v) s) (fun t =>
      (t.chan n).track = true ∧ (isQuad n = true → t.f (SFB_CH_STATUS.POS_VALID n) = 1) ∧ t.chPos n = s.chPos n ∧
      (t.chan n).lastSsi = c.lastSsi ∧ (t.chan n).run = c.run ∧ (t.chan n).dir = c.dir ∧
      t.f (SFB_CH_CFG.FILT n) = bits v.toNat 4 4 ∧ Keeps s t [.regs, .chans]) := by
  have hchan := State.trackFrom_chan (s := s.cfgShown n v.toNat) ((s.cfgShown_keeps n _).getElem?_chans h)
  have hf := (s.cfgShown n v.toNat).trackFrom_keepsFields n
  have hkept {x : Fld} (hx : x.key ≠ (SFB_CH_STATUS.POS_VALID n).key) :
      ((s.cfgShown n v.toNat).trackFrom n).f x = (s.cfgShown n v.toNat).f x := hf x (by simpa using hx)
  have hpos : (s.cfgShown n v.toNat).f (SFB_CH_POS.POS n) = s.f (SFB_CH_POS.POS n) :=
    s.cfgShown_f (by simp only [SFB_CH_POS.POS, SFB_CH_POS.off, SFB_CH_CFG.off]; omega) (show 0 < 64 by decide) _
  refine ⟨_, (if_pos hre).trans (congrArg Host.Outcome.next (State.chCfgWrite_rearms hon h hen hre htrack)), congrArg Chan.track hchan,
    State.trackFrom_valid, congrArg (sgn 64) ((hkept (chKey_ne (by decide))).trans hpos), by rw [hchan],
    by rw [hchan], by rw [hchan], (hkept (chKey_ne (by decide))).trans (s.cfgShown_filt n _),
    .then (.mono (s.cfgShown_keeps _ _)) (State.trackFrom_keeps _ _)⟩

theorem exec_channelDisable_stops (hon : s.chOn n = true) (h : s.chans[n.val]? = some c) (hen : bit v.toNat 0 = false) :
    Gives (exec (.channelDisable n v) s) (fun t =>
      t.f (SFB_CH_CFG.EN n) = 0 ∧ t.f (SFB_CH_STATUS.FAULT n) = 1 ∧ t.f (SFB_CH_STATUS.CAUSE n) = 8 ∧
      t.f (SFB_CH_STATUS.POS_VALID n) = 0 ∧ t.f (SFB_CH_STATUS.REF_LOST n) = 1 ∧ (t.chan n).track = false ∧
      (s.mono100 + sfbToSeq, Later.fault n 8) ∈ t.later) := by
  obtain ⟨hfault, hcause, hvalid, hlost, -, hkept, htrack, hlater⟩ := State.chStop_spec (s := s.cfgShown n v.toNat) n.isLt
    ((s.cfgShown_keeps n _).getElem?_chans h)
  have hzero : bits v.toNat 0 1 = 0 := by
    simpa [bit, bits] using hen
  exact ⟨_, (if_neg (by simp [hen])).trans (congrArg Host.Outcome.next (State.chCfgWrite_stops n.isLt hon h hen)),
    (hkept.trans (s.cfgShown_en n _)).trans hzero, hfault, hcause, hvalid, hlost, htrack, hlater⟩

theorem exec_rearm_starts (hoff : s.chOn n = false) (h : s.chans[n.val]? = some c) (hunit : s.f SFB_CTL.ENABLE = 1)
    (hen : bit v.toNat 0 = true) (hre : bit v.toNat 12 = true) : Gives (exec (.rearm n v) s) (fun t =>
      t.f (SFB_CH_CFG.EN n) = 1 ∧ t.chPos n = 0 ∧ (t.chan n).track = true ∧ (t.chan n).lastSsi = none ∧ (t.chan n).idxRef = none ∧
      Keeps s t [.regs, .chans, .journal]) := by
  obtain ⟨hkept, hpos, htrack, hlast, href, hkeep⟩ := State.chStart_spec (s := s.cfgShown n v.toNat) n.isLt
    ((s.cfgShown_keeps n _).getElem?_chans h)
  have hone : bits v.toNat 0 1 = 1 := by
    simpa [bit, bits] using hen
  exact ⟨_, (if_pos hre).trans (congrArg Host.Outcome.next (State.chCfgWrite_starts n.isLt hoff h hunit hen)),
    (hkept.trans (s.cfgShown_en n _)).trans hone, hpos, htrack, hlast, href, .then (.mono (s.cfgShown_keeps _ _)) hkeep⟩

end

/-! ### The statement -/

/-- Settles O49: channel by channel kind, from what a new position (`State.moveTo_spec`) and a fault (`State.chFault_spec`) show. -/
theorem feedbackChannels : Obligations.FeedbackChannels := by
  refine ⟨?_, fun s _ level hn => exec_quadEdge_off s hn level, ?_, fun _ _ _ _ => exec_aeSample_off, ?_, ?_, fun _ _ _ _ => exec_ssi_off,
    ?_, ?_, fun _ _ _ => ⟨fun hre => if_neg (by simp [hre]), fun hen => if_pos hen⟩⟩
  · rintro s n c level k hn h rfl
    exact ⟨exec_quadEdge_seen hn h, exec_quadEdge_same h⟩
  · rintro s n k c a b l hon h htrack rfl rfl rfl
    exact ⟨fun _ hab hd => State.quadStable_one n.isLt hon h htrack hab hd, State.quadStable_both n.isLt hon h htrack,
      State.quadStable_none h⟩
  · rintro s u n rawS rawC c hon h rfl
    have hn : n.val < 18 := by omega
    refine ⟨exec_aeSample_untracked hon h, ?_⟩
    rintro y x htrack rfl rfl
    refine ⟨fun hout => ⟨exec_aeSample_bad hon h htrack hout, exec_aeSample_faults hon h htrack hout⟩, fun hlow hhigh p v hphi => ?_⟩
    obtain ⟨hexec, hv, hpos, hinv, htime⟩ := exec_aeSample_good hon h htrack hlow hhigh hphi
    refine ⟨fun hnone => ?_, fun q d hq hd => ⟨fun hsmall => ?_, fun hlarge => ⟨_, hexec, State.aePhase_jumps hn hv hq hd hlarge⟩⟩⟩
    · obtain ⟨hvalid, hthere, hkept, hstamp⟩ := State.aePhase_first (p := p) hn hv hnone
      exact ⟨_, hexec, hvalid, hthere.trans hpos, hkept, htime ▸ hstamp⟩
    · obtain ⟨hkept, hmoved⟩ := State.aePhase_moves hn hv hq hd hsmall
      exact ⟨_, hexec, hkept, by rw [hmoved, hpos, hinv]⟩
  · intro s n c hon h
    exact ⟨exec_ssiRead_clocks hon h, exec_ssiRead_busy h, fun _ _ => exec_ssiFrame_unread h,
      fun _ _ => exec_ssiFrame_untracked hon h, fun _ _ _ hread htrack hpos =>
        ⟨exec_ssiFrame_accepted hon h hread htrack hpos, exec_ssiFrame_refused hon h hread htrack hpos⟩⟩
  · exact fun s n v c hon h => ⟨exec_rearm_rearms hon h, exec_channelDisable_stops hon h⟩
  · exact fun s n v c => exec_rearm_starts

end Sys2Proof.Machine
/-! # The direction that a standstill shows (O50) -/

namespace Sys2Proof.Machine

open Sys2Proof

set_option Elab.async false

/-- A standstill writes a channel's direction back as one bit. -/
theorem exec_standstillTimeout_dir {s : State} {n : Fin 18} (hon : s.chOn n = true) (hse : isSe n = false) (hedge : s.edgeNow n = false) :
    Gives (exec (.standstillTimeout n) s) (fun t => t.f (SFB_CH_SPEED.DIR n) = b2n (decide (s.f (SFB_CH_SPEED.DIR n) = 1))) := by
  refine ⟨_, if_pos ⟨hon, hse, hedge⟩, ?_⟩
  have hdir : (s.setSpeed n 0 (s.on (SFB_CH_SPEED.DIR n)) false true).f (SFB_CH_SPEED.DIR n) = b2n (s.on (SFB_CH_SPEED.DIR n)) % 2 ^ 1 :=
    (((State.f_put_chField _ _ (by decide)).trans (State.f_put_chField _ _ (by decide))).trans (State.f_put_chField _ _ (by decide))).trans
      (State.f_put_same _ _ _)
  refine hdir.trans ?_
  rw [State.on_eq]
  cases decide (s.f (SFB_CH_SPEED.DIR n) = 1) <;> rfl

/-- The reset state, but with the feedback unit and channel 4 on, and 2 listed for the channel's one-bit field DIR. -/
def strayDirection : State :=
  { State.reset with regs := [(SFB_CTL.ENABLE.key, 1), ((SFB_CH_CFG.EN 4).key, 1), ((SFB_CH_SPEED.DIR 4).key, 2)] }

/-- Refutes O50: the statement is about every state, one whose register file lists 2 for the one-bit field DIR included, which no write
leaves there (`State.f_put_same`). A standstill of the channel writes DIR back as a bit, 0, where the statement asks for what it read
before, 2. -/
theorem not_feedbackFunctions : ¬ Obligations.FeedbackFunctions := by
  rintro ⟨-, -, -, -, -, -, -, hstandstill, -⟩
  have hon : strayDirection.chOn (4 : Fin 18) = true := by decide
  have hedge : strayDirection.edgeNow (4 : Fin 18) = false := by decide
  obtain ⟨t, ht, -, -, -, -, -, hsame, -⟩ := hstandstill strayDirection 4 Chan.reset hon (by decide) hedge rfl
  obtain ⟨u, hu, hzero⟩ := exec_standstillTimeout_dir hon (by decide) hedge
  cases Host.Outcome.next.inj (ht.symm.trans hu)
  exact absurd (hsame.symm.trans hzero) (by decide)

end Sys2Proof.Machine

/-! # The axis check against a channel that is none (O26) -/

namespace Sys2Proof.Machine

open Sys2Proof

set_option Elab.async false

/-- AX_STEP of an enabled axis in motion is one step. -/
theorem exec_axStep_moving {s : State} {a : Fin 8} (hen : s.f (MOT_AX_CTL.EN a) = 1) (hmove : s.axState a = 1) :
    exec (.axStep a) s = .next (s.axStep a) :=
  if_pos ⟨decide_eq_true hen, hmove⟩

/-- The reset state, but with axis 0 enabled and in motion, its check on, and 8,166 listed for the three-bit field CHK_SRC. The channel that
this names, 8,176, would have its position at 0xD01008 + 0x80 · 8,176 = 0xE00808, where the axis has its own. -/
def strayCheckSource : State :=
  { State.reset with regs := [((MOT_AX_CTL.EN 0).key, 1), ((MOT_AX_CTL.CHK_EN 0).key, 1), ((MOT_AX_CTL.CHK_SRC 0).key, 8166),
    ((MOT_AX_STATUS.STATE 0).key, 1)] }

/-- Refutes O26: the statement is about every state, one whose register file lists 8,166 for the three-bit field CHK_SRC included, which
no write leaves there (`State.f_put_same`). The channel that it names has its position where the axis has its own, so that the step moves
the encoder together with the axis: DEV reads 0, where the statement, which reads the encoder before the step, asks for −1. -/
theorem not_auxiliaryAxes : ¬ Obligations.AuxiliaryAxes := by
  intro h
  obtain ⟨-, -, -, -, -, -, hchecked, -⟩ := h strayCheckSource 0 0
  obtain ⟨t, ht, -, hdev, -⟩ :=
    hchecked false 1 (-1) (by decide) (by decide) (by decide) (by decide) (by decide) (by decide) (by decide) (by decide)
  cases Host.Outcome.next.inj (ht.symm.trans (exec_axStep_moving (by decide) (by decide)))
  have hzero : (strayCheckSource.axStep 0).fs (MOT_AX_STATUS.DEV 0) = 0 := by decide
  exact absurd (hzero.symm.trans hdev) (by decide)

end Sys2Proof.Machine

/-! # Pacing, setpoints and the servo (O48) -/

namespace Sys2Proof.Machine

open Sys2Proof

set_option Elab.async false

/-! ### Pacing (R258, R259) -/

/-- The columns done are marked for the next evaluation. -/
def State.marked (s : State) : State := { s with mot := { s.mot with colMark := s.par.total } }

/-- The registers show that pacing slows the stripe to its target. -/
def State.slowShown (s : State) : State := ((s.marked.put MOT_VPLAN.V s.paceTarget).put MOT_STATUS.PACED 1).flag MOT_STATUS.PACE_SEEN

/-- The event PACE is journalled. -/
def State.slowTold (s : State) (k : Stripe) : State := s.slowShown.event 0x0E02 0 [a32 k.num, a32 s.paceTarget, s32 s.lambda]

/-- A stripe slowed to the pacing target, before its pulse. -/
def State.slowing (s : State) (k : Stripe) : State :=
  { s.slowTold k with mot := (s.slowTold k).mot.setPlan (s.replan k s.paceTarget) }

/-- A stripe that returns to its cruise. -/
def State.cruising (s : State) (k : Stripe) : State :=
  let s1 := (s.marked.put MOT_VPLAN.V s.mot.vc).put MOT_STATUS.PACED 0
  { s1 with mot := s1.mot.setPlan (s.replan k s.mot.vc) }

/-- PACE_EVAL of a flashing stripe before its closing settle. -/
theorem exec_paceEval_flashing {s : State} {k : Stripe} (ha : s.gaf.active = some k) (hflash : s.mot.flashing = true)
    (hstate : s.f MOT_STATUS.STATE = 4) (hopen : s.closing k = false) :
    exec .paceEval s = .next (
      if s.lambda < (s.f MOT_LEAD_CFG.PACE : Int) ∧ s.paceTarget < s.f MOT_VPLAN.V then (s.slowing k).pulse 10
      else if (s.f MOT_LEAD_CFG.START : Int) ≤ s.lambda ∧ s.f MOT_VPLAN.V < s.mot.vc then s.cruising k
      else s.marked) := by
  simp only [exec, execPaceEval, ha]
  rw [if_pos ⟨hflash, hstate, hopen⟩]
  split
  · rfl
  · split <;> rfl

theorem exec_paceEval_idle {s : State} (h : s.gaf.active = none ∨ s.mot.flashing = false ∨ s.f MOT_STATUS.STATE ≠ 4 ∨
    ∃ k, s.gaf.active = some k ∧ s.closing k = true) : exec .paceEval s = .next s := by
  simp only [exec, execPaceEval]
  split
  · next k ha =>
    refine if_neg fun ⟨hflash, hstate, hopen⟩ => ?_
    rcases h with hnone | hstill | hother | ⟨j, hj, hclosing⟩
    · exact nomatch ha.symm.trans hnone
    · exact Bool.false_ne_true (hstill.symm.trans hflash)
    · exact hother hstate
    · cases Option.some.inj (ha.symm.trans hj)
      exact Bool.false_ne_true (hopen.symm.trans hclosing)
  · rfl

theorem State.marked_keeps (s : State) : Keeps s s.marked [.mot] := keeps_mot s _

theorem State.slowing_keeps (s : State) (k : Stripe) : Keeps s (s.slowing k) [.regs, .mot, .journal] :=
  .then (.then (.then (.then (.then (.mono s.marked_keeps) (State.put_keeps _ _ _)) (State.put_keeps _ _ _)) (State.flag_keeps _ _))
    (State.event_keeps _ _ _ _)) (keeps_mot _ _)

theorem State.cruising_keeps (s : State) (k : Stripe) : Keeps s (s.cruising k) [.regs, .mot] :=
  .then (.then (.then (.mono s.marked_keeps) (State.put_keeps _ _ _)) (State.put_keeps _ _ _)) (keeps_mot _ _)

theorem State.slowing_f (s : State) (k : Stripe) :
    (s.slowing k).f MOT_VPLAN.V = s.paceTarget % 2 ^ 32 ∧ (s.slowing k).f MOT_STATUS.PACED = 1 ∧
    (s.slowing k).f MOT_STATUS.PACE_SEEN = 1 := by
  have hf {x : Fld} (hx : x.addr < 0x1400100) (hlo : x.lo < 64) : (s.slowing k).f x = s.slowShown.f x :=
    s.slowShown.event_f_other hx hlo 0x0E02 0 [a32 k.num, a32 s.paceTarget, s32 s.lambda]
  rw [hf (by decide) (by decide), hf (by decide) (by decide), hf (by decide) (by decide)]
  simp (disch := decide) only [State.slowShown, State.flag, State.f_put_same, State.f_put_other]
  exact ⟨rfl, rfl, rfl⟩

theorem State.cruising_f (s : State) (k : Stripe) :
    (s.cruising k).f MOT_VPLAN.V = s.mot.vc % 2 ^ 32 ∧ (s.cruising k).f MOT_STATUS.PACED = 0 := by
  have hf (x : Fld) : (s.cruising k).f x = ((s.marked.put MOT_VPLAN.V s.mot.vc).put MOT_STATUS.PACED 0).f x := rfl
  simp (disch := decide) only [hf, State.f_put_same, State.f_put_other]
  exact ⟨rfl, rfl⟩

theorem State.cruising_keepsFields (s : State) (k : Stripe) : KeepsFields s (s.cruising k) [MOT_VPLAN.V, MOT_STATUS.PACED] := by
  have hmarked : KeepsFields s s.marked [MOT_VPLAN.V, MOT_STATUS.PACED] := .of_regs rfl _
  have hplan := hmarked.then (s.marked.put_keepsFields MOT_VPLAN.V s.mot.vc)
  exact (hplan.then (State.put_keepsFields _ MOT_STATUS.PACED 0)).then (.of_regs rfl [])

section

variable {s : State} {k : Stripe} (ha : s.gaf.active = some k) (hflash : s.mot.flashing = true) (hstate : s.f MOT_STATUS.STATE = 4)
  (hopen : s.closing k = false)

include ha hflash hstate hopen

theorem exec_paceEval_slows (hlead : s.lambda < (s.f MOT_LEAD_CFG.PACE : Int)) (htarget : s.paceTarget < s.f MOT_VPLAN.V) :
    Gives (exec .paceEval s) (fun t =>
      t.f MOT_VPLAN.V = s.paceTarget % 2 ^ 32 ∧ t.f MOT_STATUS.PACED = 1 ∧ t.f MOT_STATUS.PACE_SEEN = 1 ∧
      t.mot = { s.mot.setPlan (s.replan k s.paceTarget) with colMark := s.par.total } ∧ Keeps s t [.regs, .mot, .journal, .gaf]) := by
  obtain ⟨hv, hpaced, hseen⟩ := s.slowing_f k
  have hpulse := (s.slowing k).pulse_keeps 10
  refine ⟨_, (exec_paceEval_flashing ha hflash hstate hopen).trans (congrArg _ (if_pos ⟨hlead, htarget⟩)), ?_, ?_, ?_, ?_, ?_⟩
  · exact (State.pulse_f _ 10 (by decide) (by decide)).trans hv
  · exact (State.pulse_f _ 10 (by decide) (by decide)).trans hpaced
  · exact (State.pulse_f _ 10 (by decide) (by decide)).trans hseen
  · exact hpulse.2 .mot (by decide)
  · exact (s.slowing_keeps k).mono.then hpulse

theorem exec_paceEval_cruises (hlead : (s.f MOT_LEAD_CFG.PACE : Int) ≤ s.lambda) (hstart : (s.f MOT_LEAD_CFG.START : Int) ≤ s.lambda)
    (hslow : s.f MOT_VPLAN.V < s.mot.vc) :
    Gives (exec .paceEval s) (fun t => t.f MOT_VPLAN.V = s.mot.vc % 2 ^ 32 ∧ t.f MOT_STATUS.PACED = 0 ∧
      t.mot = { s.mot.setPlan (s.replan k s.mot.vc) with colMark := s.par.total } ∧ Keeps s t [.regs, .mot] ∧
      KeepsFields s t [MOT_VPLAN.V, MOT_STATUS.PACED]) := by
  obtain ⟨hv, hpaced⟩ := s.cruising_f k
  refine ⟨s.cruising k, ?_, hv, hpaced, rfl, s.cruising_keeps k, s.cruising_keepsFields k⟩
  rw [exec_paceEval_flashing ha hflash hstate hopen, if_neg fun h => absurd h.1 (not_lt.mpr hlead), if_pos ⟨hstart, hslow⟩]

theorem exec_paceEval_stays (htarget : s.f MOT_VPLAN.V ≤ s.paceTarget) (hcruise : s.mot.vc ≤ s.f MOT_VPLAN.V) :
    exec .paceEval s = .next s.marked := by
  rw [exec_paceEval_flashing ha hflash hstate hopen, if_neg fun h => absurd h.2 (not_lt.mpr htarget),
    if_neg fun h => absurd h.2 (not_lt.mpr hcruise)]

end

/-- The target lies between VMIN and the present plan. -/
theorem State.paceTarget_bounds (s : State) :
    s.mot.prof.getD 7 0 ≤ s.paceTarget ∧ s.paceTarget ≤ max (s.mot.prof.getD 7 0) (s.f MOT_VPLAN.V) :=
  ⟨le_max_left _ _, max_le_max_left _ (min_le_left _ _)⟩

/-! ### The setpoint frame (R260, R261) -/

theorem State.setpointBytes_length (s : State) (n : Nat) : (s.setpointBytes n).length = 44 := by
  simp only [State.setpointBytes, List.length_append, toLE_length]

/-- The state in which the frame's number has been used. -/
def State.numbered (s : State) : State := { s with mot := { s.mot with spSeq := (s.mot.spSeq + 1) % 65536 } }

/-- On a port whose returns are not checked a frame just leaves, where the port is enabled. -/
theorem State.sendSetpoint_unchecked {s : State} {p : Nat} (hret : s.f (retEn p) ≠ 1) (b : List Byte) :
    s.sendSetpoint b p = { s with out := s.out ++ if s.f (spEn p) = 1 then [.setpoint p b] else [] } := by
  by_cases hsp : s.f (spEn p) = 1
  · simp [State.sendSetpoint, State.on_eq, State.send, hsp, hret]
  · simp [State.sendSetpoint, State.on_eq, hsp]

/-- A frame leaves on the two ports, whose returns are not checked. -/
theorem State.sendSetpoint_both {s : State} (h0 : s.f MOT_CTL.RET0_EN ≠ 1) (h1 : s.f MOT_CTL.RET1_EN ≠ 1) (b : List Byte) :
    (s.sendSetpoint b 0).sendSetpoint b 1 =
      { s with out := s.out ++ (if s.f MOT_CTL.SP0_EN = 1 then [.setpoint 0 b] else []) ++
        (if s.f MOT_CTL.SP1_EN = 1 then [.setpoint 1 b] else []) } := by
  rw [State.sendSetpoint_unchecked (p := 0) h0]
  exact State.sendSetpoint_unchecked (s := { s with out := s.out ++ if s.f MOT_CTL.SP0_EN = 1 then [.setpoint 0 b] else [] }) (p := 1) h1 b

theorem exec_setpointFrame_active {s : State} {k : Stripe} (hen : s.f MOT_CTL.ENABLE = 1) (ha : s.gaf.active = some k) :
    exec .setpointFrame s =
      .next ((s.numbered.sendSetpoint (s.setpointBytes k.num) 0).sendSetpoint (s.setpointBytes k.num) 1) := by
  simp only [exec, execSetpointFrame, State.on_eq, hen, ha]
  rfl

/-- While no stripe is ACTIVE the frame's stripe number is a free value (log entry 4). -/
theorem exec_setpointFrame_inactive {s : State} (hen : s.f MOT_CTL.ENABLE = 1) (ha : s.gaf.active = none) :
    exec .setpointFrame s =
      .next (((s.free 16).2.numbered.sendSetpoint (s.setpointBytes (s.free 16).1) 0).sendSetpoint (s.setpointBytes (s.free 16).1) 1) := by
  simp only [exec, execSetpointFrame, State.on_eq, hen, ha]
  rfl

theorem exec_setpointFrame_disabled {s : State} (hen : s.f MOT_CTL.ENABLE ≠ 1) : exec .setpointFrame s = .next s :=
  if_neg (by simpa [State.on_eq] using hen)

/-! ### Returns of the servo (R262) -/

/-- An intact return is taken: its SEQ and its status are the port's last, and no frame since has missed one. -/
def State.returned (s : State) (port : Nat) (bytes : List Byte) : State :=
  { s with mot := { s.mot with
    retSeq := s.mot.retSeq.set port (some (ofLE ((bytes.drop 2).take 2))),
    retStat := s.mot.retStat.set port (bytes.getD 1 0).toNat, retMiss := s.mot.retMiss.set port 0 } }

/-- A return that tells of a fault of the servo, of a servo that is not enabled, or of a stale SEQ. -/
def State.badReturn (s : State) (bytes : List Byte) : Prop :=
  bit (bytes.getD 1 0).toNat 0 = false ∨ bit (bytes.getD 1 0).toNat 1 = true ∨
    2 < (s.mot.spSeq + 131071 - ofLE ((bytes.drop 2).take 2)) % 65536

section

variable {s : State} {port : Fin 2} {bytes : List Byte}

theorem exec_servoReturn_unchecked (hport : s.checksPort port = false) : exec (.servoReturn port bytes) s = .next s :=
  if_pos (.inr hport)

section

variable (hen : s.f MOT_CTL.ENABLE = 1) (hport : s.checksPort port = true)

include hen hport

theorem execServoReturn_checked : execServoReturn port bytes s =
    if returnOk bytes = false then .next (s.count MOT_CNT_SPBAD.COUNT 1)
    else if bit (bytes.getD 1 0).toNat 1 ∨ !bit (bytes.getD 1 0).toNat 0 ∨
        2 < (s.mot.spSeq + 131071 - ofLE ((bytes.drop 2).take 2)) % 65536 then
      .next ((s.returned port bytes).servoFault port 0)
    else .next (s.returned port bytes) :=
  if_neg (by simp [State.on_eq, hen, hport])

theorem exec_servoReturn_damaged (hbad : returnOk bytes = false) :
    exec (.servoReturn port bytes) s = .next (s.count MOT_CNT_SPBAD.COUNT 1) :=
  (execServoReturn_checked hen hport).trans (if_pos hbad)

theorem exec_servoReturn_good (hok : returnOk bytes = true) (hgood : ¬ s.badReturn bytes) :
    exec (.servoReturn port bytes) s = .next (s.returned port bytes) := by
  refine (execServoReturn_checked hen hport).trans ?_
  rw [if_neg (by simp [hok]), if_neg]
  simpa [State.badReturn, not_or, and_left_comm] using hgood

theorem exec_servoReturn_bad (hok : returnOk bytes = true) (hbad : s.badReturn bytes) :
    exec (.servoReturn port bytes) s = .next ((s.returned port bytes).servoFault port 0) := by
  refine (execServoReturn_checked hen hport).trans ?_
  rw [if_neg (by simp [hok]), if_pos]
  simpa [State.badReturn, or_left_comm] using hbad

end

end

/-- A counter that is raised saturates in its field. -/
theorem State.f_count_same (s : State) (x : Fld) (n : Nat) : (s.count x n).f x = min (s.f x + n) (2 ^ x.w - 1) := by
  have : 0 < 2 ^ x.w := Nat.two_pow_pos _
  exact (s.f_put_same _ _).trans (Nat.mod_eq_of_lt (by omega))

/-- A fault of the servo shows SERVO_FAULT in a state that has used at most a free value: it halts a flashing stripe, and else is an
event of class 0. -/
theorem State.servoFault_eq (s : State) (p missed : Nat) : ∃ t args, Keeps s t [.freeCount] ∧
    s.servoFault p missed =
      if s.mot.flashing then (t.flag MOT_STATUS.SERVO_SEEN).halt 0x0E12 (t.flag MOT_STATUS.SERVO_SEEN).openFlash args
      else (t.flag MOT_STATUS.SERVO_SEEN).event 0x0E12 0 args := by
  unfold State.servoFault
  cases s.mot.retSeq.getD p none with
  | some e => exact ⟨s, _, .refl s _, rfl⟩
  | none => exact ⟨(s.free 16).2, _, s.free_keeps 16, rfl⟩

theorem State.servoFault_seen (s : State) (p missed : Nat) : (s.servoFault p missed).f MOT_STATUS.SERVO_SEEN = 1 := by
  obtain ⟨t, args, -, he⟩ := s.servoFault_eq p missed
  have hseen : (t.flag MOT_STATUS.SERVO_SEEN).f MOT_STATUS.SERVO_SEEN = 1 := t.f_put_same _ 1
  rw [he]
  split
  · exact (State.halt_keepsFields _ _ _ _ _ (by decide)).trans hseen
  · exact (State.event_f_other _ (by decide) (by decide) _ _ _).trans hseen

theorem State.servoFault_halts {s : State} {k : Stripe} (hflash : s.mot.flashing = true) (ha : s.gaf.active = some k)
    (hh : s.f GAF_STATUS.HALTED ≠ 1) (p missed : Nat) :
    (s.servoFault p missed).f GAF_STATUS.HALTED = 1 ∧ (s.servoFault p missed).f GAF_HALT_CAUSE.CODE = 0x0E12 := by
  obtain ⟨t, args, hk, he⟩ := s.servoFault_eq p missed
  have hactive : (t.flag MOT_STATUS.SERVO_SEEN).gaf.active = some k := (congrArg Gaffer.active (hk.2 .gaf (by decide))).trans ha
  have hclear : (t.flag MOT_STATUS.SERVO_SEEN).f GAF_STATUS.HALTED = s.f GAF_STATUS.HALTED :=
    (t.f_put_other 1 (by decide)).trans (hk.f_eq _)
  obtain ⟨hhalted, hcode, -⟩ := State.halt_spec hactive (hclear ▸ hh) 0x0E12 (t.flag MOT_STATUS.SERVO_SEEN).openFlash args
  rw [he, if_pos hflash]
  exact ⟨hhalted, hcode⟩

/-! ### The statement -/

/-- Settles O48: PACE_EVAL in its three outcomes, the setpoint frame with and without an ACTIVE stripe, and a return that is damaged, good
or tells of a fault. -/
theorem pacingAndServo : Obligations.PacingAndServo := by
  refine ⟨?_, fun s => exec_paceEval_idle, State.paceTarget_bounds, ?_, ?_, State.setpointBytes_length,
    fun s => exec_setpointFrame_disabled, ?_, fun s port bytes => exec_servoReturn_unchecked⟩
  · intro s k ha hflash hstate hopen
    exact ⟨exec_paceEval_slows ha hflash hstate hopen, exec_paceEval_cruises ha hflash hstate hopen,
      exec_paceEval_stays ha hflash hstate hopen⟩
  · intro s k hen ha h0 h1
    refine ⟨_, exec_setpointFrame_active hen ha, ?_⟩
    rw [State.sendSetpoint_both (s := s.numbered) h0 h1]
    exact ⟨rfl, rfl, .then (.mono (keeps_mot s _)) (keeps_out _ _)⟩
  · intro s hen ha h0 h1
    refine ⟨_, exec_setpointFrame_inactive hen ha, ?_⟩
    rw [State.sendSetpoint_both (s := (s.free 16).2.numbered) h0 h1]
    exact ⟨⟨(s.free 16).1, Nat.mod_lt _ (by decide), rfl⟩, rfl,
      .then (.then (.mono (s.free_keeps 16)) (keeps_mot _ _)) (keeps_out _ _)⟩
  · intro s port bytes hen hport
    refine ⟨fun hbad => ⟨_, exec_servoReturn_damaged hen hport hbad, s.f_count_same _ 1, s.count_keeps _ 1⟩, ?_⟩
    rintro hok seq rfl
    refine ⟨fun hon hfine hfresh => ⟨_, exec_servoReturn_good hen hport hok ?_, rfl, keeps_mot s _⟩, fun hbad =>
      ⟨_, exec_servoReturn_bad hen hport hok hbad, State.servoFault_seen _ _ _, fun hflash hactive hh => ?_⟩⟩
    · rintro (hoff | hfault | hstale)
      · exact absurd (hon.symm.trans hoff) (by decide)
      · exact absurd (hfine.symm.trans hfault) (by decide)
      · exact absurd hstale (not_lt.mpr hfresh)
    · obtain ⟨k, hk⟩ := Option.isSome_iff_exists.mp hactive
      exact State.servoFault_halts (s := s.returned port bytes) hflash hk hh _ _

end Sys2Proof.Machine

/-! # Triso words (O7, O8, O9, O10) -/

namespace Sys2Proof

set_option Elab.async false

/-! ### The fields that an instruction uses (R277, R278) -/

/-- What a legal encoding asks of the fields (R277). -/
theorem Triso.legal_iff (i : Triso) : i.legal = true ↔
    (i.uses.d = true ∨ i.d = 0) ∧ (i.uses.a = true ∨ i.a = 0) ∧ (i.uses.b = true ∨ i.b = 0) ∧ i.f.toNat ≤ i.uses.fMax ∧
      i.imm.toNat < 2 ^ i.uses.imm := by
  simp [Triso.legal, and_assoc]

/-- The operations with a condition use A and B unless F is 0. -/
theorem Triso.uses_cond {i : Triso} (h : i.op = .set ∨ i.op = .br ∨ i.op = .call) :
    i.uses.a = decide (i.f ≠ 0) ∧ i.uses.b = decide (i.f ≠ 0) ∧ i.uses.fMax = 6 := by
  unfold Triso.uses
  rcases h with h | h | h <;> rw [h] <;> exact ⟨rfl, rfl, rfl⟩

/-! ### Decode and encode (R277) -/

theorem opOf_code (o : Op) : opOf o.code = some o := by
  cases o <;> rfl

theorem code_of_opOf {c : BitVec 8} {o : Op} (h : opOf c = some o) : o.code = c :=
  of_decide_eq_true (List.find?_some (p := fun o : Op => decide (o.code = c)) h)

/-- The fields that a word spells behind its opcode. -/
def Triso.ofWord (o : Op) (w : Word) : Triso :=
  { op := o, d := w.extractLsb' 52 4, a := w.extractLsb' 48 4, b := w.extractLsb' 44 4, f := w.extractLsb' 40 4, imm := w.extractLsb' 0 32 }

theorem Triso.decode_eq_some_iff {w : Word} {i : Triso} : Triso.decode w = some i ↔
    ∃ o, opOf (w.extractLsb' 56 8) = some o ∧ (w.extractLsb' 32 8 = 0 ∧ (Triso.ofWord o w).legal = true) ∧ Triso.ofWord o w = i := by
  unfold Triso.decode
  cases opOf (w.extractLsb' 56 8) with
  | none => exact ⟨nofun, fun ⟨_, h, _⟩ => nomatch h⟩
  | some o =>
    simp only [Option.ite_none_right_eq_some, Option.some.injEq, exists_eq_left']
    rfl

/-- The fields of an instruction stand in its word at the places of R277. -/
theorem Triso.encode_op (i : Triso) : i.encode.extractLsb' 56 8 = i.op.code := by
  unfold Triso.encode
  simp (disch := omega) only [BitVec.extractLsb'_append_eq_of_le]
  exact BitVec.extractLsb'_eq_self

theorem Triso.encode_reserved (i : Triso) : i.encode.extractLsb' 32 8 = 0 := by
  unfold Triso.encode
  simp (disch := omega) only [BitVec.extractLsb'_append_eq_of_le, BitVec.extractLsb'_append_eq_of_add_le]
  exact BitVec.extractLsb'_eq_self

theorem Triso.ofWord_encode (i : Triso) : Triso.ofWord i.op i.encode = i := by
  obtain ⟨o, d, a, b, f, imm⟩ := i
  unfold Triso.ofWord Triso.encode
  simp (disch := omega) only [BitVec.extractLsb'_append_eq_of_le, BitVec.extractLsb'_append_eq_of_add_le, Triso.mk.injEq]
  exact ⟨trivial, BitVec.extractLsb'_eq_self, BitVec.extractLsb'_eq_self, BitVec.extractLsb'_eq_self, BitVec.extractLsb'_eq_self,
    BitVec.extractLsb'_eq_self⟩

/-- A word is its opcode, its fields and its reserved bits, side by side. -/
theorem Triso.word_eq_append (w : Word) :
    w.extractLsb' 56 8 ++ w.extractLsb' 52 4 ++ w.extractLsb' 48 4 ++ w.extractLsb' 44 4 ++ w.extractLsb' 40 4 ++ w.extractLsb' 32 8 ++
      w.extractLsb' 0 32 = w := by
  rw [BitVec.extractLsb'_append_extractLsb'_eq_extractLsb' (by omega), BitVec.extractLsb'_append_extractLsb'_eq_extractLsb' (by omega),
    BitVec.extractLsb'_append_extractLsb'_eq_extractLsb' (by omega), BitVec.extractLsb'_append_extractLsb'_eq_extractLsb' (by omega),
    BitVec.extractLsb'_append_extractLsb'_eq_extractLsb' (by omega), BitVec.extractLsb'_append_extractLsb'_eq_extractLsb' (by omega)]
  exact BitVec.extractLsb'_eq_self

/-- A word without reserved bits is the word of its fields. -/
theorem Triso.encode_ofWord {o : Op} {w : Word} (ho : opOf (w.extractLsb' 56 8) = some o) (hr : w.extractLsb' 32 8 = 0) :
    (Triso.ofWord o w).encode = w := by
  have h := Triso.word_eq_append w
  rw [← code_of_opOf ho, hr] at h
  exact h

end Sys2Proof

namespace Sys2Proof.Machine

open Sys2Proof

set_option Elab.async false

/-! ### Registers and condition codes (R274, R278) -/

/-- Settles O7: both hold by the definitions of a thread's register read and write. -/
theorem trisoG0 : Obligations.TrisoG0 := fun _ _ => ⟨rfl, rfl⟩

theorem condHolds_eq (a b : Word) : condHolds 1 a b = true ↔ a = b := decide_eq_true_iff

theorem condHolds_ne (a b : Word) : condHolds 2 a b = true ↔ a ≠ b := decide_eq_true_iff

theorem condHolds_lt (a b : Word) : condHolds 3 a b = true ↔ a.toInt < b.toInt := BitVec.slt_iff_toInt_lt

theorem condHolds_ltu (a b : Word) : condHolds 5 a b = true ↔ a.toNat < b.toNat := BitVec.ult_iff_toNat_lt

/-- Codes 4 and 6 are the negations of codes 3 and 5. -/
theorem condHolds_ge (a b : Word) : condHolds 4 a b = true ↔ a.toInt ≥ b.toInt := by
  have hnot : condHolds 4 a b = !condHolds 3 a b := rfl
  rw [hnot, Bool.not_eq_true', ← Bool.not_eq_true, condHolds_lt, not_lt]

theorem condHolds_geu (a b : Word) : condHolds 6 a b = true ↔ a.toNat ≥ b.toNat := by
  have hnot : condHolds 6 a b = !condHolds 5 a b := rfl
  rw [hnot, Bool.not_eq_true', ← Bool.not_eq_true, condHolds_ltu, not_lt]

/-- Settles O8: the codes by one lemma each, the operands of code 0 by the fields that a legal encoding uses. -/
theorem conditionCodes : Obligations.ConditionCodes := by
  refine ⟨fun a b => ⟨rfl, condHolds_eq a b, condHolds_ne a b, condHolds_lt a b, condHolds_ge a b, condHolds_ltu a b, condHolds_geu a b⟩,
    fun i hl hop => ?_⟩
  obtain ⟨ha, hb, hf⟩ := Triso.uses_cond hop
  obtain ⟨-, la, lb, lf, -⟩ := i.legal_iff.mp hl
  refine ⟨hf ▸ lf, fun h0 => ⟨la.resolve_left ?_, lb.resolve_left ?_⟩⟩
  · simp [ha, h0]
  · simp [hb, h0]

/-! ### Words (R277, R298) -/

/-- Settles O9: an instruction's word has its fields at their places, and a word is put together from its fields. -/
theorem trisoCoding : Obligations.TrisoCoding := by
  refine ⟨fun i hl => Triso.decode_eq_some_iff.mpr ⟨i.op, ?_, ⟨i.encode_reserved, ?_⟩, i.ofWord_encode⟩, fun w i h => ?_⟩
  · rw [i.encode_op, opOf_code]
  · rwa [i.ofWord_encode]
  · obtain ⟨o, ho, ⟨hr, hl⟩, rfl⟩ := Triso.decode_eq_some_iff.mp h
    exact ⟨hl, Triso.encode_ofWord ho hr⟩

/-- Settles O10: each word is decoded by evaluation. -/
theorem trisoExampleWords : Obligations.TrisoExampleWords := by
  unfold Obligations.TrisoExampleWords
  decide

end Sys2Proof.Machine


/-! # Arithmetic and control flow of a thread (O11, O12)

One equation for each command in a state whose thread issues it; what a thread's result leaves is `State.result_wrote`. -/

namespace Sys2Proof.Machine

open Sys2Proof

set_option Elab.async false

/-! ### Results and conditions -/

/-- An instruction whose result is a function of its registers: D and the PC. -/
theorem State.issue_computes {s : State} {t : Fin 4} {i : Triso} {op : Op} (hi : Issues s t i) (hop : i.op = op)
    (hp : (s.thread t).pc ≠ 32767) (f : Triso → Word → Word → Word → Word) :
    s.issue t op (fun i u => u.result t i (f i (u.reg t i.a) (u.reg t i.b) (u.reg t i.d))) =
      .next (wrote s t i.d (f i (gpr s t i.a) (gpr s t i.b) (gpr s t i.d))) := by
  rw [State.issue_of_issues hi hop, State.result_wrote _ hi.lt_length hp]
  simp only [State.reg_eq_gpr]

/-- A thread short of the last PC goes on, with no result. -/
theorem State.nextPc_wrote {s : State} {t : Fin 4} (hp : (s.thread t).pc ≠ 32767) : s.nextPc t = wrote s t 0 0 := by
  rw [State.nextPc_eq hp]
  rfl

theorem State.modThread_length (s : State) (t : Nat) (f : Thread → Thread) :
    (s.modThread t f).gaf.threads.length = s.gaf.threads.length := by
  simp only [State.modThread, lmod]
  split
  · exact List.length_set
  · rfl

theorem State.cond_eq (s : State) (t : Fin 4) (i : Triso) : s.cond t i = condHolds i.f (gpr s t i.a) (gpr s t i.b) := by
  simp only [State.cond, State.reg_eq_gpr]

theorem exec_trisoNop {s : State} {t : Fin 4} {i : Triso} (hi : Issues s t i) (hop : i.op = .nop) :
    exec (.trisoNop t) s = .next (s.nextPc t) := State.issue_of_issues hi hop _

/-- Settles O11: every clause but NOP's is `State.issue_computes` at the function of its operation. -/
theorem trisoComputes : Obligations.TrisoComputes := by
  refine ⟨fun s t i hi hp => ⟨fun hop => ?_, fun hop => ?_, fun hop => ?_, fun hop => ?_, fun hop => ?_, fun hop => ?_, fun hop => ?_,
    fun hop => ?_, fun hop => ?_, fun hop => ?_, fun hop => ?_⟩, fun s t i hi hp => ⟨fun hop => ?_, fun hop => ?_, fun hop => ?_,
    fun hop => ?_, fun hop => ?_, fun hop => ?_, fun hop => ?_, fun hop => ?_, fun hop => ?_⟩⟩
  · exact State.issue_computes hi hop hp (fun _ a b _ => a + b)
  · exact State.issue_computes hi hop hp (fun _ a b _ => a - b)
  · exact State.issue_computes hi hop hp (fun _ a b _ => a &&& b)
  · exact State.issue_computes hi hop hp (fun _ a b _ => a ||| b)
  · exact State.issue_computes hi hop hp (fun _ a b _ => a ^^^ b)
  · exact State.issue_computes hi hop hp (fun _ a b _ => a <<< (b.toNat % 64))
  · exact State.issue_computes hi hop hp (fun _ a b _ => a >>> (b.toNat % 64))
  · exact State.issue_computes hi hop hp (fun _ a b _ => a.sshiftRight (b.toNat % 64))
  · exact State.issue_computes hi hop hp (fun _ a b _ => a * b)
  · exact State.issue_computes hi hop hp (fun i a b _ => if condHolds i.f a b = true then 1 else 0)
  · rw [exec_trisoNop hi hop, State.nextPc_wrote hp]
  · exact State.issue_computes hi hop hp (fun i a _ _ => a + i.sext)
  · exact State.issue_computes hi hop hp (fun i a _ _ => a &&& i.zext)
  · exact State.issue_computes hi hop hp (fun i a _ _ => a ||| i.zext)
  · exact State.issue_computes hi hop hp (fun i a _ _ => a ^^^ i.zext)
  · exact State.issue_computes hi hop hp (fun i a _ _ => a <<< (i.imm.toNat % 64))
  · exact State.issue_computes hi hop hp (fun i a _ _ => a >>> (i.imm.toNat % 64))
  · exact State.issue_computes hi hop hp (fun i a _ _ => a.sshiftRight (i.imm.toNat % 64))
  · exact State.issue_computes hi hop hp (fun i _ _ _ => i.sext)
  · exact State.issue_computes hi hop hp (fun i _ _ d => i.imm ++ d.extractLsb' 0 32)

/-! ### Control flow, SPAWN and EXIT as a thread issues them (R276, R279, R280) -/

section

variable {s : State} {t : Fin 4} {i : Triso} (hi : Issues s t i)

include hi

theorem exec_trisoBr (hop : i.op = .br) : exec (.trisoBr t) s = .next
    (if condHolds i.f (gpr s t i.a) (gpr s t i.b) = true then wentTo s t (i.imm.toNat % 32768) else s.nextPc t) := by
  rw [← State.cond_eq]
  exact State.issue_of_issues hi hop _

theorem exec_trisoCall (hop : i.op = .call) : exec (.trisoCall t) s = .next
    (if condHolds i.f (gpr s t i.a) (gpr s t i.b) = true then
      if 16 ≤ (s.thread t).stack.length then s.progFault t 4
      else s.modThread t (fun h => { h with stack := (h.pc + 1) :: h.stack, pc := i.imm.toNat % 32768 })
    else s.nextPc t) := by
  rw [← State.cond_eq]
  exact State.issue_of_issues hi hop _

theorem exec_trisoRet_empty (hop : i.op = .ret) (hs : (s.thread t).stack = []) :
    exec (.trisoRet t) s = .next (s.progFault t 5) := by
  refine (State.issue_of_issues hi hop _).trans ?_
  rw [hs]
  rfl

theorem exec_trisoRet_cons (hop : i.op = .ret) {p : Nat} {r : List Nat} (hs : (s.thread t).stack = p :: r) :
    exec (.trisoRet t) s = .next
      (if 32768 ≤ p then s.progFault t 2 else s.modThread t (fun h => { h with stack := r, pc := p })) := by
  refine (State.issue_of_issues hi hop _).trans ?_
  rw [hs]
  rfl

theorem exec_trisoJmpr (hop : i.op = .jmpr) : exec (.trisoJmpr t) s = .next
    (if 32768 ≤ (gpr s t i.a).toNat then s.progFault t 2 else wentTo s t (gpr s t i.a).toNat) := by
  rw [← State.reg_eq_gpr]
  exact State.issue_of_issues hi hop _

theorem exec_trisoSpawn (hop : i.op = .spawn) : exec (.trisoSpawn t) s = .next
    (if (s.thread i.f.toNat).running = true then s.result t i 1
    else (s.modThread i.f.toNat (fun _ =>
      { Thread.cleared with pc := i.imm.toNat % 32768, running := true, g := Thread.cleared.g.set 1 (gpr s t i.a) })).result t i 0) := by
  rw [← State.reg_eq_gpr]
  exact State.issue_of_issues hi hop _

theorem exec_trisoExit (hop : i.op = .exit) (hp : (s.thread t).pc ≠ 32767) :
    exec (.trisoExit t) s = .next (s.modThread t (fun h => { h with running := false, stack := [] })) := by
  refine (State.issue_of_issues hi hop _).trans ?_
  rw [if_neg hp]

/-- SPAWN of a thread that does not run concerns another one than its own. -/
theorem exec_trisoSpawn_idle (hop : i.op = .spawn) (hp : (s.thread t).pc ≠ 32767) (hr : (s.thread i.f.toNat).running = false) :
    exec (.trisoSpawn t) s = .next (wrote (s.modThread i.f.toNat (fun _ =>
      { Thread.cleared with pc := i.imm.toNat % 32768, running := true, g := Thread.cleared.g.set 1 (gpr s t i.a) })) t i.d 0) := by
  obtain ⟨hrun, -⟩ := id hi
  have hne : t.val ≠ i.f.toNat := fun e => by
    rw [← e, hrun] at hr
    exact Bool.noConfusion hr
  rw [exec_trisoSpawn hi hop, if_neg (by simp [hr]), State.result_wrote]
  · rw [State.modThread_length]
    exact hi.lt_length
  · rwa [State.thread_modThread_other _ _ hne]

end

/-! ### RUN (R276) -/

theorem bit_zero_eq (v : Nat) : bit v 0 = decide (v % 2 = 1) := by
  simp [bit]

theorem exec_runStart_of_one {s : State} {v : Word} (hv : v.toNat % 2 = 1) :
    exec (.runStart v) s = .next (if s.f GAF_STATUS.PROG_VALID = 1 ∧ s.f GAF_CTL.RUN ≠ 1 then s.runStart else s) := by
  have hbit : bit v.toNat 0 = true := by simp [bit_zero_eq, hv]
  simp only [exec, execRunStart, State.gafCtlWrite, hbit, if_true, State.on, decide_eq_true_eq]

theorem exec_runStop_of_zero {s : State} {v : Word} (hv : v.toNat % 2 = 0) : exec (.runStop v) s = .next s.runStop := by
  have hbit : bit v.toNat 0 = false := by simp [bit_zero_eq, hv]
  simp only [exec, execRunStop, State.gafCtlWrite, hbit, Bool.false_eq_true, if_false]

theorem State.runStart_keeps (s : State) : Keeps s s.runStart [.gaf, .regs] := .then (.mono (keeps_gaf s _)) (State.put_keeps _ _ _)

theorem keeps_gaf_root (s : State) (g : Gaffer) (r : Root) : Keeps s { s with gaf := g, root := r } [.gaf, .root] :=
  .of_same rfl fun p => by cases p <;> simp [Part.same]

theorem State.runStop_keeps (s : State) : Keeps s s.runStop [.gaf, .regs, .root] :=
  .then (.mono (keeps_gaf_root s _ _)) (State.put_keeps _ _ _)

/-- Settles O12: each clause is a branch of its command's equation. -/
theorem threadControl : Obligations.ThreadControl := by
  refine ⟨fun s t i hi => ⟨fun hop hc => ?_, fun hop hc hp => ?_, fun hop hc hs => ?_, fun hop hc hp => ?_, fun p r hop hs hp => ?_,
      fun hop ha => ?_⟩,
    fun s t i hi => ⟨fun hop hp hr => ?_, fun hop hp hr _ => exec_trisoSpawn_idle hi hop hp hr, fun hop hp => exec_trisoExit hi hop hp⟩,
    fun s v hv hvalid hrun => ?_, fun s v hv hvalid => ?_, fun s v hv => ?_⟩
  · rw [exec_trisoBr hi hop, if_pos hc]
  · rw [exec_trisoBr hi hop, if_neg (by simp [hc]), State.nextPc_wrote hp]
  · rw [exec_trisoCall hi hop, if_pos hc, if_neg (by omega)]
  · rw [exec_trisoCall hi hop, if_neg (by simp [hc]), State.nextPc_wrote hp]
  · rw [exec_trisoRet_cons hi hop hs, if_neg (by omega)]
  · rw [exec_trisoJmpr hi hop, if_neg (by omega)]
  · rw [exec_trisoSpawn hi hop, if_pos hr, State.result_wrote _ hi.lt_length hp]
  · refine ⟨_, exec_runStart_of_one hv, ?_⟩
    rw [if_pos ⟨hvalid, hrun⟩]
    exact ⟨rfl, State.f_put_same _ _ _, rfl, rfl, s.runStart_keeps, State.put_keepsFields _ _ _⟩
  · rw [exec_runStart_of_one hv, if_neg fun h => hvalid h.1]
  · exact ⟨_, exec_runStop_of_zero hv, rfl, State.f_put_same _ _ _, rfl, rfl, s.runStop_keeps, State.put_keepsFields _ _ _⟩

end Sys2Proof.Machine


/-! # What a dropped stripe spares of Gaffer (R299, R425)

The work that a job's halt or a given-up stripe ends is that of the data path: of Gaffer it takes the PREPARED and the QUEUED stripe at
most, and it leaves the motion unit as it is. -/

namespace Sys2Proof.Machine

open Sys2Proof

set_option Elab.async false

/-- The flags of Gaffer that only Gaffer itself moves. -/
def gafferFlags : List Fld := [GAF_STATUS.HALTED, GAF_STATUS.FAULT_SEEN]

/-- The motion unit, Gaffer's flags, and Gaffer but for its PREPARED and QUEUED stripes are the same. -/
def SparesGaffer (s t : State) : Prop :=
  t.mot = s.mot ∧ (∃ p q, t.gaf = { s.gaf with prepared := p, queued := q }) ∧ ∀ x ∈ gafferFlags, t.f x = s.f x

theorem SparesGaffer.refl (s : State) : SparesGaffer s s := ⟨rfl, ⟨_, _, rfl⟩, fun _ _ => rfl⟩

theorem SparesGaffer.then {s t u : State} (h : SparesGaffer s t) (g : SparesGaffer t u) : SparesGaffer s u := by
  obtain ⟨hm, ⟨p, q, hg⟩, hf⟩ := h
  obtain ⟨gm, ⟨p', q', gg⟩, gf⟩ := g
  exact ⟨gm.trans hm, ⟨p', q', by rw [gg, hg]⟩, fun x hx => (gf x hx).trans (hf x hx)⟩

theorem SparesGaffer.ite {s t u : State} (p : Prop) [Decidable p] (h : SparesGaffer s t) (g : SparesGaffer s u) :
    SparesGaffer s (if p then t else u) := by
  split
  · exact h
  · exact g

theorem SparesGaffer.foldl {α : Type} {f : State → α → State} (h : ∀ t a, SparesGaffer t (f t a)) (as : List α) (s : State) :
    SparesGaffer s (as.foldl f s) := by
  induction as generalizing s with
  | nil => exact .refl s
  | cons a as ih => exact (h s a).then (ih (f s a))

/-- An update whose frame names neither Gaffer nor the motion unit, and that leaves Gaffer's flags. -/
theorem SparesGaffer.of_flags {s t : State} {l : List Part} (h : Keeps s t l) (hf : ∀ x ∈ gafferFlags, t.f x = s.f x)
    (hm : Part.mot ∉ l := by decide) (hg : Part.gaf ∉ l := by decide) : SparesGaffer s t := ⟨h.2 .mot hm, ⟨_, _, h.2 .gaf hg⟩, hf⟩

theorem Keeps.spares {s t : State} {l : List Part} (h : Keeps s t l) (hm : Part.mot ∉ l := by decide) (hg : Part.gaf ∉ l := by decide)
    (hr : Part.regs ∉ l := by decide) : SparesGaffer s t := .of_flags h (fun x _ => h.f_eq x hr) hm hg

/-- The same where the frame of the register file is known. -/
theorem Keeps.sparesFields {s t : State} {l : List Part} {m : List Fld} (h : Keeps s t l) (hf : KeepsFields s t m)
    (hm : Part.mot ∉ l := by decide) (hg : Part.gaf ∉ l := by decide) (hx : ∀ x ∈ gafferFlags, x.key ∉ m.map Fld.key := by decide) :
    SparesGaffer s t := .of_flags h (fun x h => hf x (hx x h)) hm hg

theorem State.put_spares (s : State) (x : Fld) (v : Nat) (hx : ∀ y ∈ gafferFlags, y.key ≠ x.key := by decide) :
    SparesGaffer s (s.put x v) := .of_flags (s.put_keeps x v) fun y hy => s.f_put_other v (hx y hy)

theorem State.flag_spares (s : State) (x : Fld) (hx : ∀ y ∈ gafferFlags, y.key ≠ x.key := by decide) : SparesGaffer s (s.flag x) :=
  s.put_spares x 1 hx

theorem State.count_spares (s : State) (x : Fld) (n : Nat) (hx : ∀ y ∈ gafferFlags, y.key ≠ x.key := by decide) :
    SparesGaffer s (s.count x n) := s.put_spares x _ hx

/-- No sequence number of the journal shares a key with a flag of Gaffer. -/
theorem gafferFlags_key_ne_seq (n : Nat) : ∀ y ∈ gafferFlags, y.key ≠ (EVJ_SEQ.SEQ n).key := by
  have hlow : ∀ y ∈ gafferFlags, y.key < 0x1400000 * 64 := by decide
  intro y hy
  have := hlow y hy
  simp only [Fld.key, EVJ_SEQ.SEQ, EVJ_SEQ.off] at this ⊢
  omega

theorem State.journalEvent_spares (s : State) (code cls : Nat) (w : Bool) (args : List Arg) :
    SparesGaffer s (s.journalEvent code cls w args) :=
  .then (s.put_spares _ _ (gafferFlags_key_ne_seq _)) (keeps_journal _ _).spares

theorem State.report_spares (s : State) (code n : Nat) (args : List Arg) : SparesGaffer s (s.report code n args) :=
  .ite _ (.refl s) (s.journalEvent_spares _ _ _ _)

theorem State.giveLeave_spares (s : State) (who : Requester) : SparesGaffer s (s.giveLeave who) :=
  (s.giveLeave_keeps who).sparesFields (s.giveLeave_keepsFields who)

/-! ### A stripe that the data path drops (R471) -/

theorem State.reportSweep_spares (s : State) (w : Sweep) : SparesGaffer s (s.reportSweep w) :=
  have h := (s.report_spares 0x074F w.degenerate _).then (State.report_spares _ 0x0603 w.revoked _)
  .ite _ h (h.then (State.report_spares _ _ _ _))

theorem State.giveSlots_spares (s : State) (k : Stripe) (l : List (Option MSlot)) (i : Nat) : SparesGaffer s (s.giveSlots k l i) := by
  induction l generalizing s i with
  | nil => exact .refl s
  | cons m r ih =>
    refine SparesGaffer.then ?_ (ih _ (i + 1))
    cases m with
    | none => exact .refl s
    | some t => exact .ite _ (s.giveLeave_spares _) (.refl s)

theorem State.dropFront_spares (s : State) (k : Stripe) : SparesGaffer s (s.dropFront k) := by
  refine .then (.then (.then ?_ (keeps_work _ _ _ _ _).spares) (State.giveSlots_spares _ k _ 0)) (keeps_work _ _ _ _ _).spares
  split
  · exact s.reportSweep_spares _
  · exact .refl s

theorem State.dropGlory_spares (s : State) (k : Stripe) : SparesGaffer s (s.dropGlory k) := by
  unfold State.dropGlory
  extract_lets t1 g1 s1 t2 g2 s2
  have h1 : SparesGaffer s s1 := by
    unfold s1
    split
    · exact .ite _ (.then (.then (s.report_spares _ _ _) (State.giveLeave_spares _ _)) (keeps_work _ _ _ _ _).spares) (.refl s)
    · exact .refl s
  have h2 : SparesGaffer s1 s2 := by
    unfold s2
    split
    · exact .ite _ (.then (.then (s1.report_spares _ _ _) (State.giveLeave_spares _ _)) (keeps_work _ _ _ _ _).spares) (.refl s1)
    · exact .refl s1
  exact (h1.then h2).then (keeps_work s2 _ _ _ _).spares

theorem State.freeHalves_spares (s : State) (l : List Band) : SparesGaffer s (s.freeHalves l) := by
  induction l generalizing s with
  | nil => exact .refl s
  | cons b r ih => exact .then (keeps_glory s _).spares (ih _)

theorem State.countHold_spares (s : State) : SparesGaffer s s.countHold := by
  unfold State.countHold
  split
  · exact .refl s
  · exact .then (.then (s.count_spares _ _) (State.put_spares _ _ _)) (keeps_par _ _).spares

theorem State.reportParison_spares (s : State) (k : Stripe) : SparesGaffer s (s.reportParison k) :=
  .then (.then (.ite _ (.refl s) (s.journalEvent_spares _ _ _ _)) (State.report_spares _ _ _ _)) (State.report_spares _ _ _ _)

theorem State.dropParison_spares (s : State) (k : Stripe) : SparesGaffer s (s.dropParison k) := by
  refine .then (.then ?_ (State.freeHalves_spares _ _)) (keeps_par _ _).spares
  split
  · exact .ite _ (.then (.then (.then s.countHold_spares (State.reportParison_spares _ k)) (State.giveLeave_spares _ _))
      (keeps_par _ _).spares) (.refl s)
  · exact .refl s

theorem State.dropStripe_spares (s : State) (k : Stripe) : SparesGaffer s (s.dropStripe k) :=
  .then (.then (s.dropFront_spares k) (State.dropGlory_spares _ k)) (State.dropParison_spares _ k)

theorem State.dropStripes_spares (s : State) (l : List Stripe) : SparesGaffer s (s.dropStripes l) := by
  induction l generalizing s with
  | nil => exact .refl s
  | cons k r ih => exact (s.dropStripe_spares k).then (ih _)

theorem State.haltedJob_spares (s : State) (c code : Nat) : SparesGaffer s (s.haltedJob c code) := ⟨rfl, ⟨_, _, rfl⟩, fun _ _ => rfl⟩

/-- A job that halts takes the PREPARED and the QUEUED stripe of Gaffer at most (R425). -/
theorem State.jobHalt_spares (s : State) (c code : Nat) : SparesGaffer s (s.jobHalt c code) := by
  unfold State.jobHalt
  split
  · split
    · exact .refl s
    · exact .then (.then (.then (.then (s.haltedJob_spares c code) (State.dropStripes_spares _ _)) (keeps_par _ _).spares)
        (State.tellDropped_keeps _ _ _).spares) (State.tellDropped_keeps _ _ _).spares
  · exact .refl s

theorem State.jobFault_spares (s : State) (c code : Nat) (withheld : Bool) (args : List Arg) :
    SparesGaffer s (s.jobFault c code withheld args) := .then (s.journalEvent_spares _ _ _ _) (State.jobHalt_spares _ _ _)

theorem State.allFault_spares (s : State) (code : Nat) (args : List Arg) : SparesGaffer s (s.allFault code args) :=
  .then (.then (s.journalEvent_spares _ _ _ _) (State.jobHalt_spares _ _ _)) (State.jobHalt_spares _ _ _)

end Sys2Proof.Machine

/-! # PROG_FAULT (O13) -/

namespace Sys2Proof.Machine

open Sys2Proof

set_option Elab.async false

/-! ### What PROG_FAULT leaves (R299) -/

/-- The state in which a thread has stopped at a fault, before the jobs halt. -/
def State.threadStopped (s : State) (t cause : Nat) : State :=
  (s.modThread t (fun x => { x with running := false, wait := .none, fault := true, cause := cause })).flag GAF_STATUS.FAULT_SEEN

theorem State.progFault_spares (s : State) (t cause : Nat) : SparesGaffer (s.threadStopped t cause) (s.progFault t cause) :=
  State.allFault_spares _ _ _

/-- A thread is Gaffer's. -/
theorem SparesGaffer.thread_eq {s t : State} (h : SparesGaffer s t) (n : Nat) : t.thread n = s.thread n := by
  obtain ⟨-, ⟨p, q, hg⟩, -⟩ := h
  rw [State.thread, hg]
  rfl

theorem State.progFault_thread_same {s : State} {t : Nat} (cause : Nat) (ht : t < s.gaf.threads.length) :
    (s.progFault t cause).thread t = { s.thread t with running := false, wait := .none, fault := true, cause := cause } :=
  ((s.progFault_spares t cause).thread_eq t).trans (s.thread_modThread t _ ht)

theorem State.progFault_thread_other (s : State) {t u : Nat} (cause : Nat) (hu : u ≠ t) : (s.progFault t cause).thread u = s.thread u :=
  ((s.progFault_spares t cause).thread_eq u).trans (s.thread_modThread_other _ hu)

theorem State.progFault_rest (s : State) (t cause : Nat) :
    (s.progFault t cause).gaf.dmem = s.gaf.dmem ∧ (s.progFault t cause).gaf.pmem = s.gaf.pmem ∧
      (s.progFault t cause).f GAF_STATUS.FAULT_SEEN = 1 := by
  obtain ⟨-, ⟨p, q, hg⟩, hf⟩ := s.progFault_spares t cause
  exact ⟨by rw [hg]; rfl, by rw [hg]; rfl, (hf _ (by decide)).trans (State.f_put_same _ _ 1)⟩

/-! ### What raises it -/

/-- An illegal word of the program, whatever the command that issues it (R277). -/
theorem State.issue_illegal {s : State} {t : Nat} (hr : (s.thread t).running = true) (hw : (s.thread t).wait = .none)
    (hc : s.cellChecked 14 (8 * (s.thread t).pc) = .good)
    (hd : Triso.decode (BitVec.ofNat 64 (s.rawData 14 (8 * (s.thread t).pc))) = none) (op : Op) (run : Triso → State → State) :
    s.issue t op run = .next (s.progFault t 1) := by
  simp only [State.issue, hr, hw, and_self, if_true, State.readWord, hc, hd]
  rfl

/-- A data address that R281 allows. -/
theorem State.dataAddr_eq {s : State} {t : Fin 4} {i : Triso} {a : Nat} (ha : (gpr s t i.a + i.imm.signExtend 64).toNat = a)
    (h8 : a % 8 = 0) (hn : a < 65536) : s.dataAddr t i = some a := by
  subst ha
  rw [← State.reg_eq_gpr] at h8 hn ⊢
  exact if_pos ⟨h8, hn⟩

theorem State.dataAddr_none {s : State} {t : Fin 4} {i : Triso}
    (h : ¬((gpr s t i.a + i.imm.signExtend 64).toNat % 8 = 0 ∧ (gpr s t i.a + i.imm.signExtend 64).toNat < 65536)) :
    s.dataAddr t i = none := by
  rw [← State.reg_eq_gpr] at h
  exact if_neg h

section

variable {s : State} {t : Fin 4} {i : Triso} (hi : Issues s t i)

include hi

/-- LD, ST and XCHG at an address that R281 does not allow. -/
theorem exec_dataAccess_fault (ha : s.dataAddr t i = none) :
    (i.op = .ld → exec (.trisoLd t) s = .next (s.progFault t 3)) ∧ (i.op = .st → exec (.trisoSt t) s = .next (s.progFault t 3)) ∧
    (i.op = .xchg → exec (.trisoXchg t) s = .next (s.progFault t 3)) := by
  refine ⟨fun hop => ?_, fun hop => ?_, fun hop => ?_⟩
  all_goals
    refine (State.issue_of_issues hi hop _).trans ?_
    rw [ha]
    rfl

end

/-- Settles O13: the causes are branches of the commands' equations; the rest is what the jobs' halt spares (`State.progFault_spares`). -/
theorem progFaults : Obligations.ProgFaults := by
  refine ⟨fun s t => ⟨fun hr hw hc hd => State.issue_illegal hr hw hc hd _ _, fun i hi => ⟨fun hop hp => ?_, fun hop ha => ?_,
    fun p r hop hs hp => ?_, fun hop hc hs => ?_, exec_trisoRet_empty hi, fun ha => exec_dataAccess_fault hi (State.dataAddr_none ha)⟩⟩,
    fun s t c hl => ⟨?_, fun u hu => ?_, s.progFault_rest t c⟩⟩
  · rw [exec_trisoNop hi hop]
    exact congrArg _ (if_pos hp)
  · rw [exec_trisoJmpr hi hop, if_pos ha]
  · rw [exec_trisoRet_cons hi hop hs, if_pos hp]
  · rw [exec_trisoCall hi hop, if_pos hc, if_pos hs]
  · rw [State.progFault_thread_same c (by omega)]
    exact ⟨rfl, rfl, rfl, rfl, rfl⟩
  · exact s.progFault_thread_other c fun h => hu (Fin.ext h)

end Sys2Proof.Machine


/-! # The data memory and the register bus of a thread (O14, O15) -/

namespace Sys2Proof.Machine

open Sys2Proof

set_option Elab.async false

/-! ### LD, ST and XCHG (R279, R281) -/

/-- A word that reads without error is read as it stands, and nothing is counted. -/
theorem State.readWord_good {s : State} {g a : Nat} (h : s.cellChecked g a = .good) : s.readWord g a = (some (s.rawData g a), s) := by
  rw [State.readWord, h]

/-- What a write of one word of the data memory leaves. -/
theorem State.dmemWrite_keeps (s : State) (a : Nat) (l : List Byte) : Keeps s (s.dmemWrite a l) [.gaf, .mem] :=
  .then (.mono (keeps_mem s _)) (keeps_gaf _ _)

theorem State.dmemWrite_dmem (s : State) (a : Nat) (v : Word) :
    rdLE (s.dmemWrite a (toLE 8 v.toNat)).gaf.dmem a 8 = v.toNat ∧
    ∀ b, b < a ∨ a + 8 ≤ b → rdByte (s.dmemWrite a (toLE 8 v.toNat)).gaf.dmem b = rdByte s.gaf.dmem b :=
  ⟨(rdLE_wrBytes_same _ _ _ _).trans (Nat.mod_eq_of_lt v.isLt), fun _ hb => rdByte_wrBytes_other _ _ hb⟩

/-- The state in which a thread has stored B at an address and has taken a value into D. -/
def State.stored (s : State) (t : Fin 4) (a : Nat) (b : Word) (d : BitVec 4) (v : Word) : State :=
  wrote (s.dmemWrite a (toLE 8 b.toNat)) t d v

/-- The bytes of B are stored, every other byte stays, and of the threads only D and the PC of this one change. -/
theorem State.stored_spec (s : State) (t : Fin 4) (a : Nat) (b : Word) (d : BitVec 4) (v : Word) :
    rdLE (s.stored t a b d v).gaf.dmem a 8 = b.toNat ∧
    (∀ c, c < a ∨ a + 8 ≤ c → rdByte (s.stored t a b d v).gaf.dmem c = rdByte s.gaf.dmem c) ∧
    (s.stored t a b d v).gaf.threads = (wrote s t d v).gaf.threads ∧ Keeps s (s.stored t a b d v) [.gaf, .mem] := by
  obtain ⟨hsame, hother⟩ := s.dmemWrite_dmem a b
  exact ⟨hsame, hother, rfl, .then (s.dmemWrite_keeps _ _) (wrote_keeps _ _ _ _)⟩

section

variable {s : State} {t : Fin 4} {i : Triso} {a : Nat} (hi : Issues s t i) (hp : (s.thread t).pc ≠ 32767) (ha : s.dataAddr t i = some a)

include hi hp ha

theorem exec_trisoLd (hop : i.op = .ld) (hc : s.cellChecked 15 a = .good) :
    exec (.trisoLd t) s = .next (wrote s t i.d (BitVec.ofNat 64 (rdLE s.gaf.dmem a 8))) := by
  refine (State.issue_of_issues hi hop _).trans ?_
  rw [ha]
  dsimp only
  rw [State.readWord_good hc]
  exact congrArg _ (State.result_wrote _ hi.lt_length hp)

theorem exec_trisoSt (hop : i.op = .st) : exec (.trisoSt t) s = .next (s.stored t a (gpr s t i.b) 0 0) := by
  refine (State.issue_of_issues hi hop _).trans ?_
  rw [ha, State.reg_eq_gpr]
  exact congrArg _ (State.nextPc_wrote hp)

theorem exec_trisoXchg (hop : i.op = .xchg) (hc : s.cellChecked 15 a = .good) :
    exec (.trisoXchg t) s = .next (s.stored t a (gpr s t i.b) i.d (BitVec.ofNat 64 (rdLE s.gaf.dmem a 8))) := by
  refine (State.issue_of_issues hi hop _).trans ?_
  rw [ha, State.reg_eq_gpr]
  dsimp only
  rw [State.readWord_good hc]
  exact congrArg _ (State.result_wrote _ hi.lt_length hp)

end

/-- Settles O14: ST and XCHG by what a stored word leaves (`State.stored_spec`). -/
theorem trisoDataMemory : Obligations.TrisoDataMemory := by
  intro s t i hi hp a ha h8 hn
  have haddr := State.dataAddr_eq ha h8 hn
  exact ⟨exec_trisoLd hi hp haddr, fun hop => ⟨_, exec_trisoSt hi hp haddr hop, s.stored_spec t a _ 0 0⟩,
    fun hop hc => ⟨_, exec_trisoXchg hi hp haddr hop hc, s.stored_spec t a _ i.d _⟩⟩

/-! ### RDREG and WRREG (R282, R283) -/

theorem readsUnit_iff (u : Nat) : readsUnit u = true ↔ u ≤ 0x12 ∨ u = 0x14 ∨ u = 0x15 := by
  simp [readsUnit, or_assoc]

theorem writesUnit_iff (u : Nat) : writesUnit u = true ↔ u = 0x02 ∨ (0x07 ≤ u ∧ u ≤ 0x0E) ∨ u = 0x15 := by
  simp [writesUnit, or_assoc]

/-- The access of an offset, where R282 allows it. -/
theorem State.regAddr_eq {s : State} {t : Fin 4} {i : Triso} {a n : Nat} (ha : (gpr s t i.a + i.imm.zeroExtend 64).toNat = a)
    (hn : n = if i.f = 1 then 8 else 4) (ok : Nat → Bool) :
    s.regAddr t i ok = if a < 0x1600000 ∧ a % n = 0 ∧ ok (a / 2 ^ 20) = true then some (a, n) else none := by
  subst ha hn
  rw [← State.reg_eq_gpr]
  rfl

/-- The greatest of a number and the times of a list: no less than any of them, and within every bound that they keep. -/
theorem foldl_max_bounds (l : List (Nat × Later)) (m : Nat) :
    m ≤ l.foldl (fun m e => max m e.1) m ∧ (∀ e ∈ l, e.1 ≤ l.foldl (fun m e => max m e.1) m) ∧
    ∀ b, m ≤ b → (∀ e ∈ l, e.1 ≤ b) → l.foldl (fun m e => max m e.1) m ≤ b := by
  induction l generalizing m with
  | nil => exact ⟨Nat.le_refl m, fun _ h => (nomatch h), fun _ h _ => h⟩
  | cons e l ih =>
    obtain ⟨hfirst, hall, hbound⟩ := ih (max m e.1)
    refine ⟨(Nat.le_max_left _ _).trans hfirst, fun x hx => ?_, fun b hm hb => ?_⟩
    · obtain rfl | hx := List.mem_cons.mp hx
      · exact (Nat.le_max_right _ _).trans hfirst
      · exact hall x hx
    · exact hbound b (Nat.max_le.mpr ⟨hm, hb e List.mem_cons_self⟩) fun x hx => hb x (List.mem_cons_of_mem _ hx)

theorem State.postDue_bounds (s : State) (t f : Nat) : s.mono100 < s.postDue t f ∧
    ((∀ e ∈ s.later, e.2.postOf t = true → e.1 ≤ s.mono100 + 2500) → s.postDue t f ≤ s.mono100 + 2500) ∧
    ∀ e ∈ s.later, e.2.postOf t = true → e.1 ≤ s.postDue t f := by
  have hdelay : f % 250 < 250 := Nat.mod_lt f (by decide)
  obtain ⟨hfirst, hall, hbound⟩ :=
    foldl_max_bounds (s.later.filter (fun e => e.2.postOf t)) (s.mono100 + 10 * (1 + f % 250))
  refine ⟨Nat.lt_of_lt_of_le (by omega) hfirst, fun h => hbound _ (by omega) fun e he => ?_, fun e he hpost => ?_⟩
  · obtain ⟨hmem, hpost⟩ := List.mem_filter.mp he
    exact h e hmem hpost
  · exact hall e (List.mem_filter.mpr ⟨he, hpost⟩)

/-- A change that leaves a thread as it is leaves the state. -/
theorem State.modThread_of_eq {s : State} {t : Nat} {f : Thread → Thread} (h : f (s.thread t) = s.thread t) : s.modThread t f = s := by
  have hlist : lmod s.gaf.threads t f = s.gaf.threads := by
    unfold lmod
    split
    · next x hx =>
      obtain ⟨hlt, hget⟩ := List.getElem?_eq_some_iff.mp hx
      have hthread : s.thread t = x := by simp [State.thread, hlt, hget]
      rw [← hthread, h, hthread, ← hget]
      exact List.set_getElem_self hlt
    · rfl
  rw [State.modThread, hlist]

/-- A posted write of a thread that does not wait for a slot. -/
theorem State.landPost_done {s u : State} {t : Nat} {pc a n : Nat} {v : Word} (hw : (s.thread t).wait ≠ .slot)
    (hbus : s.busWrite 6 a n v.toNat = (u, true)) : s.landPost t pc a n v = u.markWrite t := by
  have hstays : s.modThread t (fun h => if h.wait = .slot then { h with wait := .none } else h) = s :=
    State.modThread_of_eq (if_neg hw)
  rw [State.landPost, hstays, hbus]

section

variable {s : State} {t : Fin 4} {i : Triso} (hi : Issues s t i)

include hi

/-- RDREG and WRREG outside the limits of R282. -/
theorem exec_regAccess_fault :
    (i.op = .rdreg → s.regAddr t i readsUnit = none → exec (.trisoRdreg t) s = .next (s.progFault t 6)) ∧
    (i.op = .wrreg → s.regAddr t i writesUnit = none → exec (.trisoWrreg t) s = .next (s.progFault t 6)) := by
  refine ⟨fun hop ha => ?_, fun hop ha => ?_⟩
  all_goals
    refine (State.issue_of_issues hi hop _).trans ?_
    rw [ha]
    rfl

variable {a n : Nat}

/-- RDREG reads behind the thread's posted writes. -/
theorem exec_trisoRdreg (hop : i.op = .rdreg) (ha : s.regAddr t i readsUnit = some (a, n))
    (hr : ((s.drainPosts t).thread t).running = true) {v : Nat} {w : State} (hbus : (s.drainPosts t).busRead 6 a n false = (some v, w)) :
    exec (.trisoRdreg t) s = .next (w.threadDone t i.d.toNat (BitVec.ofNat 64 v)) := by
  refine (State.issue_of_issues hi hop _).trans ?_
  rw [ha]
  dsimp only
  rw [if_neg (by simp [hr]), hbus]
  rfl

theorem exec_trisoWrreg_full (hop : i.op = .wrreg) (ha : s.regAddr t i writesUnit = some (a, n))
    (hfull : 32 ≤ s.later.countP (fun e => e.2.postOf t)) :
    exec (.trisoWrreg t) s = .next (s.modThread t (fun h => { h with wait := .slot })) := by
  refine (State.issue_of_issues hi hop _).trans ?_
  rw [ha]
  exact congrArg _ (if_pos hfull)

theorem exec_trisoWrreg_posts (hop : i.op = .wrreg) (hp : (s.thread t).pc ≠ 32767) (ha : s.regAddr t i writesUnit = some (a, n))
    (hfew : s.later.countP (fun e => e.2.postOf t) < 32) {f : Nat} {u : State} (hu : s.free 16 = (f, u)) :
    exec (.trisoWrreg t) s = .next (wrote
      (u.at (s.postDue t f) (.posted t (s.thread t).pc a n (BitVec.ofNat 64 ((gpr s t i.b).toNat % 2 ^ (8 * n))))) t 0 0) := by
  have hgaf : u.gaf = s.gaf := congrArg (fun x => x.2.gaf) hu.symm
  refine (State.issue_of_issues hi hop _).trans ?_
  rw [ha]
  dsimp only
  rw [if_neg (Nat.not_le.mpr hfew), hu, State.reg_eq_gpr]
  refine congrArg _ (State.nextPc_wrote ?_)
  simpa only [State.thread, State.at, hgaf] using hp

end

/-- Settles O15: the accesses by `State.regAddr_eq`, the instant of a posted write by `State.postDue_bounds`. -/
theorem trisoRegisterAccess : Obligations.TrisoRegisterAccess := by
  refine ⟨⟨readsUnit_iff, writesUnit_iff⟩, fun s t i hi hp a n ha hn => ⟨fun hop h1 h2 h3 => ⟨fun hnone v u hbus => ?_, ?_⟩, fun hop h => ?_,
    fun hop h1 h2 h3 => ⟨fun hfew f u hu => ?_, fun hfull => ?_⟩, fun hop h => ?_⟩, State.postDue_bounds, fun s u t pc a n v => State.landPost_done⟩
  · have hdrain := State.drainPosts_none hnone
    obtain ⟨hrun, -⟩ := id hi
    exact exec_trisoRdreg hi hop ((s.regAddr_eq ha hn _).trans (if_pos ⟨h1, h2, h3⟩)) (hdrain.symm ▸ hrun) (hdrain.symm ▸ hbus)
  · rintro u rfl hrun v w hbus
    exact exec_trisoRdreg hi hop ((s.regAddr_eq ha hn _).trans (if_pos ⟨h1, h2, h3⟩)) hrun hbus
  · exact (exec_regAccess_fault hi).1 hop ((s.regAddr_eq ha hn _).trans (if_neg h))
  · exact exec_trisoWrreg_posts hi hop hp ((s.regAddr_eq ha hn _).trans (if_pos ⟨h1, h2, h3⟩)) hfew hu
  · exact exec_trisoWrreg_full hi hop ((s.regAddr_eq ha hn _).trans (if_pos ⟨h1, h2, h3⟩)) hfull
  · exact (exec_regAccess_fault hi).2 hop ((s.regAddr_eq ha hn _).trans (if_neg h))

end Sys2Proof.Machine


/-! # PREP and GO (O18) -/

namespace Sys2Proof.Machine

open Sys2Proof

set_option Elab.async false

/-- A register that has taken 0 reads 0, G0 too. -/
theorem gpr_wrote_zero {s : State} {t : Fin 4} (d : BitVec 4) (ht : t.val < s.gaf.threads.length) : gpr (wrote s t d 0) t d = 0 := by
  unfold gpr wrote
  split
  · rfl
  · rw [State.thread_modThread _ _ _ ht, List.getD_eq_getElem?_getD, List.getElem?_set_self']
    cases (s.thread t).g[d.toNat]? <;> rfl

/-! ### The code of R288 -/

theorem bits_low (v w : Nat) : bits v 0 w = v % 2 ^ w := by rw [bits, pow_zero, Nat.div_one]

theorem descriptorOk_iff (l : List Nat) : descriptorOk l = true ↔
    256 ≤ l.getD 0 0 / 2 ^ 32 % 2 ^ 32 ∧ l.getD 0 0 / 2 ^ 32 % 2 ^ 32 ≤ 1073741824 ∧ l.getD 4 0 < 4 := by
  simp only [descriptorOk, Bool.and_eq_true, decide_eq_true_eq, and_assoc]
  rfl

section

variable {s : State} {l : List Nat}

theorem State.prepCode_prepared (h : s.gaf.prepared.isSome = true) : s.prepCode l = 1 := if_pos h

theorem State.prepCode_uncommitted (h : s.gaf.prepared = none) (hg : s.f GAF_GEN.COMMITTED = 0 ∨ s.root.tableCleared = true) :
    s.prepCode l = 2 := by
  rw [State.prepCode, h]
  exact if_pos hg

variable (h : s.gaf.prepared = none) (hg : s.f GAF_GEN.COMMITTED ≠ 0) (ht : s.root.tableCleared = false)

include h hg ht

/-- Behind codes 1 and 2 stand those of the descriptor, of its context and of its number. -/
theorem State.prepCode_committed : s.prepCode l =
    if descriptorOk l = false then 3
    else if s.f (GTH_CTX_CFG.OPEN (l.getD 4 0 / 2 % 2)) ≠ 1 then 4
    else if (s.ctx (l.getD 4 0 / 2 % 2)).lastPrep.any (fun p => decide (l.getD 0 0 % 2 ^ 32 ≤ p)) = true then 5
    else 0 := by
  have hctx : bits (l.getD 4 0) 1 1 = l.getD 4 0 / 2 % 2 := rfl
  simp only [State.prepCode, h, Option.isSome_none, Bool.false_eq_true, hg, ht, or_self, if_false, stripeOf, bits_low, hctx, State.ctxOpen,
    State.on, decide_eq_false_iff_not, ne_eq]

theorem State.prepCode_malformed (hd : l.getD 0 0 / 2 ^ 32 % 2 ^ 32 < 256 ∨ 1073741824 < l.getD 0 0 / 2 ^ 32 % 2 ^ 32 ∨ 4 ≤ l.getD 4 0) :
    s.prepCode l = 3 := by
  rw [State.prepCode_committed h hg ht, if_pos]
  rw [← Bool.not_eq_true, descriptorOk_iff]
  omega

variable (hd : descriptorOk l = true)

include hd

theorem State.prepCode_closed (ho : s.f (GTH_CTX_CFG.OPEN (l.getD 4 0 / 2 % 2)) ≠ 1) : s.prepCode l = 4 := by
  rw [State.prepCode_committed h hg ht, if_neg (by simp [hd]), if_pos ho]

theorem State.prepCode_stale (ho : s.f (GTH_CTX_CFG.OPEN (l.getD 4 0 / 2 % 2)) = 1) {p : Nat}
    (hp : (s.ctx (l.getD 4 0 / 2 % 2)).lastPrep = some p) (hn : l.getD 0 0 % 2 ^ 32 ≤ p) : s.prepCode l = 5 := by
  rw [State.prepCode_committed h hg ht, if_neg (by simp [hd]), if_neg (not_not.mpr ho), hp]
  exact if_pos (decide_eq_true hn)

theorem State.prepCode_accepted (ho : s.f (GTH_CTX_CFG.OPEN (l.getD 4 0 / 2 % 2)) = 1)
    (hp : ∀ p ∈ (s.ctx (l.getD 4 0 / 2 % 2)).lastPrep, p < l.getD 0 0 % 2 ^ 32) : s.prepCode l = 0 := by
  rw [State.prepCode_committed h hg ht, if_neg (by simp [hd]), if_neg (not_not.mpr ho), if_neg]
  rw [Option.any_eq_true]
  rintro ⟨p, hmem, hle⟩
  exact absurd (hp p hmem) (not_lt.mpr (of_decide_eq_true hle))

end

/-! ### A stripe is PREPARED, and moves to QUEUED (R287, R289) -/

theorem keeps_gaf_blow_par (s : State) (g : Gaffer) (b : Blowpipe) (r : Parison) :
    Keeps s { s with gaf := g, blow := b, par := r } [.gaf, .blow, .par] :=
  .of_same rfl fun p => by cases p <;> simp [Part.same]

/-- The stripe that a descriptor prepares. -/
def State.stripeTaken (s : State) (l : List Nat) : Stripe :=
  stripeOf l s.root.staged.gen (s.ctx (bits (l.getD 4 0) 1 1)).nextSeq (s.ctx (bits (l.getD 4 0) 1 1)).job

/-- The state in which it is PREPARED and the front end has it, before the manager is told. -/
def State.taken (s : State) (l : List Nat) : State :=
  let k := s.stripeTaken l
  let s1 := s.modCtx (bits (l.getD 4 0) 1 1) (fun x => { x with lastPrep := some k.num, nextSeq := x.nextSeq + cdiv k.len 256 })
  { s1 with
    gaf := { s1.gaf with prepared := some k }, blow := { s1.blow with sweeps := s1.blow.sweeps ++ [Sweep.start k] },
    par := { s1.par with next := s1.par.next ++ [k] } }

theorem State.taken_keeps (s : State) (l : List Nat) : Keeps s (s.taken l) [.gather, .gaf, .blow, .par] :=
  .then (.mono (s.modCtx_keeps _ _)) (keeps_gaf_blow_par _ _ _ _)

theorem State.prepare_keeps (s : State) (l : List Nat) : Keeps (s.taken l) (s.prepare l) [.clu, .ports, .out] :=
  (s.taken l).tellStripe_keeps _ 1

theorem State.prepare_gaf (s : State) (l : List Nat) :
    (s.prepare l).gaf.threads = s.gaf.threads ∧ (s.prepare l).gaf.prepared = some (s.stripeTaken l) ∧
    (s.prepare l).gaf.queued = s.gaf.queued ∧ (s.prepare l).gaf.active = s.gaf.active := by
  rw [(s.prepare_keeps l).2 .gaf (by decide)]
  exact ⟨rfl, rfl, rfl, rfl⟩

theorem State.prepare_next (s : State) (l : List Nat) : (s.prepare l).par.next = s.par.next ++ [s.stripeTaken l] :=
  congrArg Parison.next ((s.prepare_keeps l).2 .par (by decide))

/-- The state in which GO has moved a stripe to QUEUED. -/
def State.enqueued (s : State) (k : Stripe) : State :=
  ({ s with gaf := { s.gaf with prepared := none, queued := some k } }).tellStripe k.num 2

theorem State.enqueued_keeps (s : State) (k : Stripe) : Keeps s (s.enqueued k) [.gaf, .out, .ports, .clu] :=
  .then (.mono (keeps_gaf s _)) (State.tellStripe_keeps _ _ _)

theorem State.enqueued_gaf (s : State) (k : Stripe) :
    (s.enqueued k).gaf.threads = s.gaf.threads ∧ (s.enqueued k).gaf.prepared = none ∧ (s.enqueued k).gaf.queued = some k ∧
    (s.enqueued k).gaf.active = s.gaf.active := by
  have h : (s.enqueued k).gaf = _ := (State.tellStripe_keeps _ _ _).2 .gaf (by decide)
  rw [h]
  exact ⟨rfl, rfl, rfl, rfl⟩

/-! ### PREP and GO as a thread issues them -/

/-- A result behind an update that leaves the threads as they are. -/
theorem State.result_of_threads {s u : State} {t : Fin 4} {i : Triso} (v : Word) (hi : Issues s t i) (hp : (s.thread t).pc ≠ 32767)
    (hu : u.gaf.threads = s.gaf.threads) : u.result t i v = wrote u t i.d v := by
  have hthread : u.thread t = s.thread t := by rw [State.thread, hu]; rfl
  exact State.result_wrote v (hu ▸ hi.lt_length) (hthread ▸ hp)

section

variable {s : State} {t : Fin 4} {i : Triso} (hi : Issues s t i) (hp : (s.thread t).pc ≠ 32767)

include hi hp

theorem exec_prep_misaligned (hop : i.op = .prep) (h8 : (gpr s t i.a + i.imm.signExtend 64).toNat % 8 ≠ 0) :
    exec (.prep t) s = .next (wrote s t i.d (BitVec.ofNat 64 (s.prepCode []))) := by
  have hblock : s.dataBlock t i 40 = none := by
    rw [← State.reg_eq_gpr] at h8
    exact if_neg fun h => h8 h.1
  refine (State.issue_of_issues hi hop _).trans ?_
  rw [hblock]
  exact congrArg _ (State.result_wrote _ hi.lt_length hp)

theorem exec_go_none (hop : i.op = .go) (hk : s.gaf.prepared = none) : exec (.go t) s = .next (wrote s t i.d 1) := by
  refine (State.issue_of_issues hi hop _).trans ?_
  rw [hk]
  exact congrArg _ (State.result_wrote _ hi.lt_length hp)

theorem exec_go_behind (hop : i.op = .go) (hk : s.gaf.prepared.isSome = true) (hq : s.gaf.queued.isSome = true) :
    exec (.go t) s = .next (wrote s t i.d 2) := by
  obtain ⟨k, hk⟩ := Option.isSome_iff_exists.mp hk
  obtain ⟨q, hq⟩ := Option.isSome_iff_exists.mp hq
  refine (State.issue_of_issues hi hop _).trans ?_
  rw [hk, hq]
  exact congrArg _ (State.result_wrote _ hi.lt_length hp)

theorem exec_go (hop : i.op = .go) {k : Stripe} (hk : s.gaf.prepared = some k) (hq : s.gaf.queued = none) :
    exec (.go t) s = .next (wrote (s.enqueued k) t i.d 0) := by
  obtain ⟨hthreads, -⟩ := s.enqueued_gaf k
  refine (State.issue_of_issues hi hop _).trans ?_
  rw [hk, hq]
  exact congrArg _ (State.result_of_threads 0 hi hp hthreads)

variable {l : List Nat} (hop : i.op = .prep) {a : Nat} (hb : s.dataBlock t i 40 = some a) (hl : s.dmemList a 5 = (some l, s))

include hop hb hl

theorem exec_prep_refused {c : Nat} (hc : s.prepCode l = c) (h0 : c ≠ 0) :
    exec (.prep t) s = .next (wrote s t i.d (BitVec.ofNat 64 c)) := by
  refine (State.issue_of_issues hi hop _).trans ?_
  rw [hb]
  dsimp only
  rw [hl]
  dsimp only [State.prepWith]
  rw [hc, if_pos h0, State.result_wrote _ hi.lt_length hp]

theorem exec_prep_accepted (hc : s.prepCode l = 0) (hh : (s.ctx (l.getD 4 0 / 2 % 2)).halt = none) :
    exec (.prep t) s = .next (wrote (s.prepare l) t i.d 0) := by
  obtain ⟨hthreads, -⟩ := s.prepare_gaf l
  have hrun : ¬ (s.ctx (bits (l.getD 4 0) 1 1)).halt.isSome = true := by
    rw [show bits (l.getD 4 0) 1 1 = l.getD 4 0 / 2 % 2 from rfl, hh]
    exact Bool.false_ne_true
  refine (State.issue_of_issues hi hop _).trans ?_
  rw [hb]
  dsimp only
  rw [hl]
  dsimp only [State.prepWith]
  rw [hc, if_neg (not_not.mpr rfl), if_neg hrun, State.result_of_threads 0 hi hp hthreads]

/-- What an accepted PREP leaves. -/
theorem exec_prep_gives (hc : s.prepCode l = 0) (hh : (s.ctx (l.getD 4 0 / 2 % 2)).halt = none) : Gives (exec (.prep t) s) (fun u =>
    (∃ k, u.gaf.prepared = some k ∧ k.num = l.getD 0 0 % 2 ^ 32 ∧ k.len = l.getD 0 0 / 2 ^ 32 % 2 ^ 32 ∧ k.ctx = l.getD 4 0 / 2 % 2 ∧
      k.neg = bit (l.getD 4 0) 0 ∧ k.xf0 = sgn 64 (l.getD 2 0) ∧ k.yax = sgn 64 (l.getD 3 0) ∧ k.gen = s.root.staged.gen ∧ k ∈ u.par.next) ∧
    gpr u t i.d = 0 ∧ u.gaf.queued = s.gaf.queued ∧ u.gaf.active = s.gaf.active ∧ u.mot = s.mot ∧ u.root = s.root ∧ u.link = s.link) := by
  obtain ⟨hthreads, hprepared, hqueued, hactive⟩ := s.prepare_gaf l
  have hkeeps := (s.taken_keeps l).mono (m := [.gather, .gaf, .blow, .par, .clu, .ports, .out]) |>.then (s.prepare_keeps l)
  have hlen : t.val < (s.prepare l).gaf.threads.length := by rw [hthreads]; exact hi.lt_length
  refine ⟨_, exec_prep_accepted hi hp hop hb hl hc hh, ⟨s.stripeTaken l, hprepared, bits_low _ _, rfl, rfl, rfl, rfl, rfl, rfl, ?_⟩,
    gpr_wrote_zero _ hlen, hqueued, hactive, hkeeps.2 .mot (by decide), hkeeps.2 .root (by decide),
    hkeeps.2 .link (by decide)⟩
  exact (s.prepare_next l).symm ▸ List.mem_append_right _ (List.mem_singleton.mpr rfl)

end

/-- Settles O18: PREP by its code (`State.prepCode_committed` and the two before it), GO by the stripes that Gaffer holds. -/
theorem prepareAndGo : Obligations.PrepareAndGo := by
  intro s t i hi hp
  refine ⟨fun hop hk h8 => ?_, ?_, fun hop => exec_go_none hi hp hop, fun hop => exec_go_behind hi hp hop, fun k hop hk hq => ?_⟩
  · rw [exec_prep_misaligned hi hp hop h8, State.prepCode_prepared hk]
    rfl
  · rintro a l hop ha h8 hn hl num len c rfl rfl rfl
    have hb : s.dataBlock t i 40 = some a := State.dataBlock_eq ha h8 hn
    refine ⟨fun hk => ?_, fun hk hg => ?_, fun hk hg ht => ⟨fun hd => ?_, fun h1 h2 h3 => ?_⟩⟩
    · exact exec_prep_refused hi hp hop hb hl (State.prepCode_prepared hk) (by decide)
    · exact exec_prep_refused hi hp hop hb hl (State.prepCode_uncommitted hk hg) (by decide)
    · exact exec_prep_refused hi hp hop hb hl (State.prepCode_malformed hk hg ht hd) (by decide)
    · have hd := (descriptorOk_iff l).mpr ⟨h1, h2, h3⟩
      refine ⟨fun ho => ?_, fun p ho hlast hnum => ?_, fun ho hlast hh => ?_⟩
      · exact exec_prep_refused hi hp hop hb hl (State.prepCode_closed hk hg ht hd ho) (by decide)
      · exact exec_prep_refused hi hp hop hb hl (State.prepCode_stale hk hg ht hd ho hlast hnum) (by decide)
      · exact exec_prep_gives hi hp hop hb hl (State.prepCode_accepted hk hg ht hd ho hlast) hh
  · obtain ⟨-, hprepared, hqueued, hactive⟩ := s.enqueued_gaf k
    exact ⟨_, exec_go hi hp hop hk hq, hprepared, hqueued, hactive,
      (s.enqueued_keeps k).2 .regs (by decide), (s.enqueued_keeps k).then (wrote_keeps _ _ _ _)⟩

end Sys2Proof.Machine

/-! # Events (O19) -/

namespace Sys2Proof.Machine

open Sys2Proof

set_option Elab.async false

/-- A clear bit that is added carries into no other. -/
theorem bit_add_two_pow {v n e : Nat} (h : bit v n = false) (he : e ≠ n) : bit (v + 2 ^ n) e = bit v e := by
  rcases Nat.lt_or_gt_of_ne he with hlt | hgt
  · rw [bit_eq_testBit, bit_eq_testBit, Nat.add_comm, Nat.testBit_two_pow_add_gt hlt]
  · obtain ⟨k, rfl⟩ := Nat.exists_eq_add_of_lt hgt
    have heven : v / 2 ^ n % 2 = 0 := by simpa [bit] using h
    have hquot : (v + 2 ^ n) / 2 ^ n = v / 2 ^ n + 1 := Nat.add_div_right v (Nat.two_pow_pos n)
    have hup : (v + 2 ^ n) / 2 ^ (n + k + 1) = v / 2 ^ (n + k + 1) := by
      rw [show n + k + 1 = n + 1 + k by omega, Nat.pow_add, Nat.pow_succ, ← Nat.div_div_eq_div_mul, ← Nat.div_div_eq_div_mul,
        ← Nat.div_div_eq_div_mul, ← Nat.div_div_eq_div_mul, hquot, show (v / 2 ^ n + 1) / 2 = v / 2 ^ n / 2 by omega]
    rw [bit, bit, hup]

/-- A bit set: the others stay. -/
theorem bit_setBit_eq (v n e : Nat) : bit (setBit v n) e = (decide (e = n) || bit v e) := by
  by_cases h : e = n
  · subst h
    simp [bit_setBit_same]
  · rw [setBit]
    split
    · simp [h]
    · next hn => simp [h, bit_add_two_pow (Bool.eq_false_iff.mpr hn) h]

theorem State.bit_pulse {s : State} {line e : Nat} {t : Nat} (he : e < 64) (ht : t < s.gaf.threads.length) :
    bit ((s.pulse line).thread t).pend.toNat e = (decide (e = line) || bit (s.thread t).pend.toNat e) := by
  rw [State.thread_pulse line ht, bit_eq_testBit, BitVec.toNat_ofNat, Nat.testBit_mod_two_pow, ← bit_eq_testBit, bit_setBit_eq]
  simp [he]

/-- The line that a one-hot write of GAF_EVSET names. -/
theorem evset_lines : ∀ n : Fin 16, (List.range 16).filter (bit (BitVec.ofNat 64 (2 ^ n.val)).toNat) = [n.val] := by decide

theorem exec_evsetWrite_one (s : State) {m : Fin 8} (n : Fin 16) (hm : m.val ≤ 4) :
    exec (.evsetWrite m (BitVec.ofNat 64 (2 ^ n.val))) s = .next (s.pulse (48 + n)) := by
  simp only [exec, execEvsetWrite, State.evsetWrite, if_pos hm, evset_lines]
  rfl

theorem exec_evsetWrite_other (s : State) {m : Fin 8} (v : Word) (hm : 4 < m.val) : exec (.evsetWrite m v) s = .next s := by
  simp only [exec, execEvsetWrite, State.evsetWrite, if_neg (Nat.not_le.mpr hm)]

/-- A WAIT finds the lowest bit that it names and that is pending. -/
theorem State.waitHit_iff (s : State) (t m e : Nat) : s.waitHit t m = some e ↔
    (e < 64 ∧ bit m e = true ∧ bit (s.thread t).pend.toNat e = true ∧
      ∀ j, j < e → ¬(bit m j = true ∧ bit (s.thread t).pend.toNat j = true)) := by
  rw [State.waitHit, List.find?_range_eq_some]
  simp only [Bool.and_eq_true, List.mem_range, Bool.not_eq_true', Bool.and_eq_false_iff]
  constructor
  · rintro ⟨⟨hm, hpend⟩, he, hlow⟩
    refine ⟨he, hm, hpend, fun j hj ⟨h1, h2⟩ => ?_⟩
    simpa [h1, h2] using hlow j hj
  · rintro ⟨he, hm, hpend, hlow⟩
    refine ⟨⟨hm, hpend⟩, he, fun j hj => ?_⟩
    have := hlow j hj
    simpa [← Bool.not_eq_true, ← not_and_or] using this

section

variable {s : State} {t : Fin 4} {i : Triso} (hi : Issues s t i)

include hi

theorem exec_sig (hop : i.op = .sig) : exec (.sig t) s = .next ((s.pulse (48 + i.imm.toNat % 16)).nextPc t) :=
  State.issue_of_issues hi hop _

theorem exec_ring (hop : i.op = .ring) (hn : i.imm.toNat < 24) :
    exec (.ring t) s = .next ((s.ring (i.f.toNat % 8) (2 ^ i.imm.toNat)).nextPc t) := by
  refine (State.issue_of_issues hi hop _).trans ?_
  rw [if_pos hn]

variable (hop : i.op = .wait)

include hop

theorem exec_wait_hit {e : Nat} (he : s.waitHit t (s.waitMask t i) = some e) :
    exec (.wait t) s = .next (s.takeEvent t i.d.toNat e) := by
  refine (State.issue_of_issues hi hop _).trans ?_
  dsimp only
  rw [he]

theorem exec_wait_poll (hp : (s.thread t).pc ≠ 32767) (hn : s.waitHit t (s.waitMask t i) = none) (ha : gpr s t i.a = 0) :
    exec (.wait t) s = .next (wrote s t i.d allOnes) := by
  refine (State.issue_of_issues hi hop _).trans ?_
  dsimp only
  rw [hn, State.reg_eq_gpr]
  dsimp only
  rw [if_pos ha, State.result_wrote _ hi.lt_length hp]

theorem exec_wait_waits (hn : s.waitHit t (s.waitMask t i) = none) (ha : gpr s t i.a ≠ 0) :
    exec (.wait t) s = .next (s.modThread t (fun h =>
      { h with wait := .event i.d.toNat (s.waitMask t i) (decide (gpr s t i.a ≠ allOnes)) })) := by
  refine (State.issue_of_issues hi hop _).trans ?_
  dsimp only
  rw [hn, State.reg_eq_gpr]
  dsimp only
  rw [if_neg ha]

end

section

variable {s : State} {t : Fin 4} {d m : Nat} {timed : Bool} (hw : (s.thread t).wait = .event d m timed)

include hw

theorem exec_waitReturn {e : Nat} (he : s.waitHit t m = some e) : exec (.waitReturn t) s = .next (s.takeEvent t d e) := by
  simp only [exec, execWaitReturn, hw, he]

theorem exec_waitTimeout (hn : s.waitHit t m = none) :
    exec (.waitTimeout t) s = .next (if timed = true then s.threadDone t d allOnes else s) := by
  simp only [exec, execWaitTimeout, hw, hn]
  exact (apply_ite Host.Outcome.next _ _ _).symm

end

/-- Settles O19: a pulse by its bits (`State.bit_pulse`), WAIT by the bit that it finds (`State.waitHit_iff`). -/
theorem events : Obligations.Events := by
  refine ⟨fun s line e t _ he hl => State.bit_pulse he (by omega),
    ⟨fun s t i hi => ⟨exec_sig hi, exec_ring hi⟩, fun s m n => exec_evsetWrite_one s n, fun s m v => exec_evsetWrite_other s v⟩,
    fun s t i hi hop hp => ⟨fun e => exec_wait_hit hi hop, exec_wait_poll hi hop hp, exec_wait_waits hi hop⟩,
    fun s t d m timed hw => ⟨fun e => exec_waitReturn hw, fun hn ht => ?_, fun hn ht => ?_⟩, fun s t => s.waitHit_iff t⟩
  · rw [exec_waitTimeout hw hn, if_pos ht]
    rfl
  · rw [exec_waitTimeout hw hn, if_neg (by simp [ht])]

end Sys2Proof.Machine


/-! # HALT (O21) -/

namespace Sys2Proof.Machine

open Sys2Proof

set_option Elab.async false

theorem State.inMotion_iff (s : State) :
    s.inMotion = true ↔ s.gaf.active.isSome = true ∧ 1 ≤ s.f MOT_STATUS.STATE ∧ s.f MOT_STATUS.STATE ≤ 5 := by
  simp [State.inMotion, and_assoc]

/-! ### What the latch of a halt leaves of the threads and the journal (R295) -/

/-- The parts that a halt may change where no stripe is halted yet; the journal is the event's. -/
def latchParts : List Part := [.regs, .link, .mot, .out, .freeCount, .gaf, .clu, .ports]

theorem State.haltSent_keeps (s : State) (a : Stripe) (code th : Nat) :
    Keeps s (s.haltSent a code th) [.regs, .link, .mot, .out, .freeCount] := by
  obtain ⟨hrecord, -⟩ := ((s.haltRegs a code th).dropHalves a.gen th).haltRecord_frame th
  exact .then (.then (.mono (s.haltRegs_keeps a code th)) (State.dropHalves_keeps _ _ _)) hrecord

theorem State.halted_keeps (s : State) (a : Stripe) (code th : Nat) : Keeps s (s.halted a code th) latchParts :=
  .then (.mono (s.haltSent_keeps a code th)) (keeps_gaf_mot _ _ _)

section

variable {s : State} {a : Stripe} (ha : s.gaf.active = some a) (hh : s.f GAF_STATUS.HALTED ≠ 1) (code th : Nat)

include ha hh

theorem State.latchHalt_keeps : Keeps s (s.latchHalt code th) latchParts := by
  rw [State.latchHalt_fresh hh ha]
  exact .then (.then (s.halted_keeps a code _) (State.pulse_keeps _ _)) (State.tellStripe_keeps _ _ _)

/-- Of the threads a halt changes the pending registers alone. -/
theorem State.latchHalt_threads : (s.latchHalt code th).gaf.threads =
    s.gaf.threads.map fun t => { t with pend := BitVec.ofNat 64 (setBit t.pend.toNat 3) } := by
  have hgaf : (s.haltSent a code (s.haltFlash th)).gaf = s.gaf := (s.haltSent_keeps a code _).2 .gaf (by decide)
  have hsent : (s.halted a code (s.haltFlash th)).gaf.threads = s.gaf.threads := by
    change (s.haltSent a code (s.haltFlash th)).gaf.threads = _
    rw [hgaf]
  have htell := ((s.halted a code (s.haltFlash th)).pulse 3).tellStripe_keeps a.num 4
  rw [State.latchHalt_fresh hh ha, htell.2 .gaf (by decide), State.pulse_gaf_eq, ← hsent]

/-- The registers of a halt. -/
theorem State.latchHalt_f {x : Fld} (h1 : x.key ≠ GAF_CNT_EVMERGE.COUNT.key) (h2 : x.key ≠ GAF_STATUS.EV_MERGE.key) :
    (s.latchHalt code th).f x = (s.haltRegs a code (s.haltFlash th)).f x := by
  rw [State.latchHalt_fresh hh ha]
  exact s.halted_told_f a code _ h1 h2

end

theorem State.haltRegs_f_motion (s : State) (a : Stripe) (code th : Nat) :
    (s.haltRegs a code th).f MOT_STATUS.STATE = 6 ∧ (s.haltRegs a code th).f GAF_HALT_STRIPE.STRIPE = a.num % 2 ^ 32 := by
  simp (disch := decide) only [State.haltRegs, State.flag, State.f_put_same, State.f_put_other]
  exact ⟨rfl, rfl⟩

/-- What else than Gaffer's latch a halt of a stripe in motion brings about: the motion state, the journalled record, and of the threads the
pending registers. -/
theorem State.halt_shown {s : State} {a : Stripe} (ha : s.gaf.active = some a) (hh : s.f GAF_STATUS.HALTED ≠ 1) (code th : Nat)
    (args : List Arg) :
    (s.halt code th args).f MOT_STATUS.STATE = 6 ∧ (s.halt code th args).f GAF_HALT_STRIPE.STRIPE = a.num % 2 ^ 32 ∧
    (s.halt code th args).journal.inFlight = s.journal.inFlight ++ [s.record code 2 false args] ∧
    (s.halt code th args).gaf.threads =
      s.gaf.threads.map fun t => { t with pend := BitVec.ofNat 64 (setBit t.pend.toNat 3) } := by
  have ha' : (s.event code 2 args).gaf.active = some a := ha
  have hh' : (s.event code 2 args).f GAF_STATUS.HALTED ≠ 1 := by rwa [s.event_f_other (by decide) (by decide)]
  obtain ⟨hstate, hstripe⟩ := (s.event code 2 args).haltRegs_f_motion a code ((s.event code 2 args).haltFlash th)
  exact ⟨(State.latchHalt_f ha' hh' code th (by decide) (by decide)).trans hstate,
    (State.latchHalt_f ha' hh' code th (by decide) (by decide)).trans hstripe,
    congrArg Journal.inFlight ((State.latchHalt_keeps ha' hh' code th).2 .journal (by decide)), State.latchHalt_threads ha' hh' code th⟩

/-- A thread whose pending register alone has changed stands at its PC. -/
theorem State.pc_of_pend {s u : State} {p : Thread → Word} (h : u.gaf.threads = s.gaf.threads.map fun t => { t with pend := p t }) (n : Nat) :
    (u.thread n).pc = (s.thread n).pc := by
  rw [State.thread, State.thread, h, List.getD_eq_getElem?_getD, List.getD_eq_getElem?_getD, List.getElem?_map]
  cases s.gaf.threads[n]? <;> rfl

/-! ### HALT as a thread issues it (R296) -/

section

variable {s : State} {t : Fin 4} {i : Triso} (hi : Issues s t i) (hop : i.op = .halt) (hp : (s.thread t).pc ≠ 32767)

include hi hop hp

theorem exec_halt_refused (h : s.gaf.active = none ∨ s.f MOT_STATUS.STATE = 0 ∨ 5 < s.f MOT_STATUS.STATE) :
    exec (.halt t) s = .next (wrote s t i.d 1) := by
  have hidle : ¬ s.inMotion = true := by
    rw [State.inMotion_iff]
    rintro ⟨hsome, h1, h5⟩
    obtain h | h | h := h
    · rw [h] at hsome
      exact Bool.noConfusion hsome
    · omega
    · omega
  refine (State.issue_of_issues hi hop _).trans ?_
  rw [if_neg hidle, State.result_wrote _ hi.lt_length hp]

variable {a : Stripe} (ha : s.gaf.active = some a) (h1 : 1 ≤ s.f MOT_STATUS.STATE) (h5 : s.f MOT_STATUS.STATE ≤ 5)
  (hh : s.f GAF_STATUS.HALTED ≠ 1)

include ha h1 h5 hh

theorem exec_halt_accepted :
    exec (.halt t) s = .next (wrote (s.halt 0x0F10 s.openFlash [a8 t, a32 s.openFlash]) t i.d 0) := by
  have hmove : s.inMotion = true := s.inMotion_iff.mpr ⟨by rw [ha]; rfl, h1, h5⟩
  obtain ⟨-, -, -, hthreads⟩ := State.halt_shown ha hh 0x0F10 s.openFlash [a8 t, a32 s.openFlash]
  refine (State.issue_of_issues hi hop _).trans ?_
  rw [if_pos hmove, State.result_wrote _ (by rw [hthreads, List.length_map]; exact hi.lt_length) (by rwa [State.pc_of_pend hthreads])]

/-- The stripe halts at the lowest flash whose commit point has not passed, t₀ before it is armed. -/
theorem exec_halt_gives : Gives (exec (.halt t) s) (fun u => gpr u t i.d = 0 ∧ u.f GAF_STATUS.HALTED = 1 ∧
    u.f GAF_HALT_CAUSE.CODE = 0x0F10 ∧ u.f GAF_HALT_FLASH.TH = (if s.mot.armed = true then s.mot.committed else s.mot.t0) % 2 ^ 32 ∧
    u.f GAF_HALT_STRIPE.STRIPE = a.num % 2 ^ 32 ∧ u.f MOT_STATUS.STATE = 6 ∧ ∃ r ∈ u.journal.inFlight, r.code = 0x0F10 ∧ r.cls = 2) := by
  have hth : s.haltFlash s.openFlash = if s.mot.armed = true then s.mot.committed else s.mot.t0 := by
    unfold State.haltFlash State.openFlash
    split <;> rfl
  obtain ⟨hhalted, hcode, hflash, -⟩ := State.halt_spec ha hh 0x0F10 s.openFlash [a8 t, a32 s.openFlash]
  obtain ⟨hstate, hstripe, hjournal, hthreads⟩ := State.halt_shown ha hh 0x0F10 s.openFlash [a8 t, a32 s.openFlash]
  have hexec := exec_halt_accepted hi hop hp ha h1 h5 hh
  rw [hth] at hflash
  generalize s.halt 0x0F10 s.openFlash [a8 t, a32 s.openFlash] = u at *
  refine ⟨_, hexec, gpr_wrote_zero _ ?_, hhalted, hcode, hflash, hstripe, hstate,
    s.record 0x0F10 2 false [a8 t, a32 s.openFlash], ?_, rfl, rfl⟩
  · rw [hthreads, List.length_map]
    exact hi.lt_length
  · exact hjournal.symm ▸ List.mem_append_right s.journal.inFlight (List.mem_singleton.mpr rfl)

end

/-- Settles O21: a refused HALT has no stripe in motion, an accepted one is the halt of R295. -/
theorem haltCommand : Obligations.HaltCommand := fun _ _ _ hi hop hp =>
  ⟨exec_halt_refused hi hop hp, fun _ => exec_halt_gives hi hop hp⟩

end Sys2Proof.Machine


/-! # What a held Parison that goes on spares of Gaffer (R22, R176)

A burst works on its stripe, and a pixel that it cannot compensate may halt the stripe's job. -/

namespace Sys2Proof.Machine

open Sys2Proof

set_option Elab.async false

/-- No entry of Parison's log shares a key with a flag of Gaffer. -/
theorem gafferFlags_key_ne_log (n : Nat) : ∀ y ∈ gafferFlags,
    y.key ≠ (PAR_UNC_LOG.X n).key ∧ y.key ≠ (PAR_UNC_LOG.Y n).key ∧ y.key ≠ (PAR_UNC_LOG.STRIPE n).key := by
  have hbit : ∀ y ∈ gafferFlags, y.key % 64 ≠ 0 ∧ y.key % 64 ≠ 32 ∧ y.key % 64 ≠ 56 := by decide
  intro y hy
  have := hbit y hy
  simp only [Fld.key, PAR_UNC_LOG.X, PAR_UNC_LOG.Y, PAR_UNC_LOG.STRIPE, PAR_UNC_LOG.off] at this ⊢
  omega

theorem State.recordUnc_spares (s : State) (k : Stripe) (x y : Nat) : SparesGaffer s (s.recordUnc k x y) := by
  unfold State.recordUnc
  extract_lets n s1 s2 s3
  have hlog := gafferFlags_key_ne_log n
  have h1 : SparesGaffer s s1 := .then (.then (.then (.then (s.count_spares _ _) (State.flag_spares _ _))
    (State.put_spares _ _ _ fun y hy => (hlog y hy).1)) (State.put_spares _ _ _ fun y hy => (hlog y hy).2.1))
    (State.put_spares _ _ _ fun y hy => (hlog y hy).2.2)
  have h2 : SparesGaffer s s2 := h1.then (State.put_spares _ _ _)
  have h3 : SparesGaffer s s3 := .ite _ h2 (((h2.then (State.put_spares _ _ _)).then (State.put_spares _ _ _)).then (State.flag_spares _ _))
  exact h3.then (keeps_par _ _).spares

theorem State.capped_spares (s : State) (c : Nat) : SparesGaffer s (s.capped c) :=
  .ite _ (.refl s) (.then (.then (s.count_spares _ _) (State.flag_spares _ _)) (keeps_par _ _).spares)

theorem Split.rows_spares (e : Split) (x n y : Nat) (s : State) (acc : List (Nat × Nat)) : SparesGaffer s (e.rows x n y s acc).1 := by
  induction n generalizing y s acc with
  | zero => exact .refl s
  | succ n ih =>
    rw [Split.rows_succ]
    have h1 := s.capped_spares (e.pixel s.par.doses x y).2.2
    have h2 := h1.then (State.recordUnc_spares _ e.k x y)
    split
    · split
      · exact h2
      · exact h2.then (ih _ _ _)
    · exact h1.then (ih _ _ _)

theorem State.writeHeader_spares (s : State) (e : Split) (base j k : Nat) : SparesGaffer s (s.writeHeader e base j k) :=
  .then (.then (s.hbmWrite_keeps _ _).spares (State.count_spares _ _ _)) (keeps_par _ _).spares

theorem State.writeGroup_spares (s : State) (e : Split) (base j n : Nat) : SparesGaffer s (s.writeGroup e base j n) := by
  unfold State.writeGroup
  extract_lets p per g words before s1
  have h1 : SparesGaffer s s1 := (s.hbmWrite_keeps _ _).spares
  exact .ite _ (h1.then (s1.writeHeader_spares _ _ _ _)) h1

theorem State.writeGroups_spares (s : State) (e : Split) (base j lo n : Nat) : SparesGaffer s (s.writeGroups e base j lo n) := by
  induction n with
  | zero => exact .refl s
  | succ n ih => exact ih.then (State.writeGroup_spares _ _ _ _ _)

theorem State.endColumn_spares (s : State) (e : Split) (base nc x : Nat) : SparesGaffer s (s.endColumn e base nc x) :=
  .foldl (fun t _ => t.writeGroups_spares _ _ _ _ _) _ s

theorem State.columnStored_spares (s : State) (e : Split) (x done : Nat) : SparesGaffer s (s.columnStored e x done) :=
  .then (.then (keeps_par s _).spares (State.put_spares _ _ _)) (keeps_par _ _).spares

theorem State.columnDone_spares (s : State) (e : Split) (band : Nat) (r : RingStripe) : SparesGaffer s (s.columnDone e band r) := by
  unfold State.columnDone
  extract_lets u
  have hu : SparesGaffer s u := (e.rows_spares _ _ _ _ _).then (State.columnIn_keeps _ _ _ _).spares
  exact .ite _ (.then (hu.then (State.endColumn_spares _ _ _ _ _)) (State.columnStored_spares _ _ _ _)) hu

/-- A column, done or stopped by a pixel that halts the job. -/
theorem State.oneColumn_spares (s : State) (e : Split) (band : Nat) (r : RingStripe) : SparesGaffer s (s.oneColumn e band r).1 := by
  cases ho : (s.columnRows e band).2.2 with
  | none =>
    rw [State.oneColumn_none ho]
    exact s.columnDone_spares e band r
  | some o =>
    have hrows : SparesGaffer s (s.columnRows e band).1 := e.rows_spares _ _ _ _ _
    unfold State.oneColumn
    rcases hrow : s.columnRows e band with ⟨s1, codes, o'⟩
    rw [hrow] at ho hrows
    cases ho
    rw [State.columnRows] at hrow
    simp only [State.columnOf] at hrow
    dsimp only
    rw [hrow]
    exact hrows.then (State.jobFault_spares _ _ _ _ _)

theorem State.runBurst_spares (e : Split) (band n : Nat) (s : State) : SparesGaffer s (State.runBurst e band n s) := by
  induction n generalizing s with
  | zero => exact .refl s
  | succ n ih =>
    rw [State.runBurst]
    refine .ite _ (.refl s) ?_
    split
    · exact .refl s
    · next r hr =>
      refine .ite _ (.then (s.flag_spares _) (keeps_par _ _).spares) ?_
      have hone := s.oneColumn_spares e band r
      split
      · next s1 h1 =>
        rw [h1] at hone
        exact hone.then (ih s1)
      · next s1 h1 =>
        rw [h1] at hone
        exact hone

theorem State.kickParison_spares (s : State) : SparesGaffer s s.kickParison :=
  .of_flags s.kickParison_keeps fun _ hx => s.kickParison_f ((by decide : ∀ x ∈ gafferFlags, x.key ∉ leaveFields.map Fld.key) _ hx)

theorem State.burstOver_spares (s : State) (e : Split) (b : Band) (k : Stripe) : SparesGaffer s (s.burstOver e b k) := by
  unfold State.burstOver
  extract_lets s2 s3 s4
  have h3 : SparesGaffer s s3 :=
    .ite _ ((s.giveLeave_spares .parison).then (s2.endBand_keeps e b.no b.half).spares) (s.giveLeave_spares .parison)
  have h4 : SparesGaffer s s4 := .ite _ (h3.then ((s3.reportParison_spares k).then (keeps_par _ _).spares)) h3
  exact h4.then s4.kickParison_spares

theorem State.burst_spares (s : State) : SparesGaffer s s.burst := by
  cases hk : s.par.stripe with
  | none =>
    rw [State.burst, hk]
    exact .refl s
  | some k =>
    cases hb : s.par.bands with
    | nil =>
      rw [State.burst, hk, hb]
      exact .refl s
    | cons b bs =>
      rw [State.burst_eq hk hb]
      have hrun := State.runBurst_spares (s.split k b.half) b.no 8 s
      exact .ite _ hrun (hrun.then (State.burstOver_spares _ _ b k))

theorem State.endHold_spares (s : State) : SparesGaffer s s.endHold := by
  unfold State.endHold
  split
  · exact .ite _ (.refl s) (s.countHold_spares.then (State.burst_spares _))
  · exact .refl s

end Sys2Proof.Machine

/-! # RESUME and ABANDON (O22) -/

namespace Sys2Proof.Machine

open Sys2Proof

set_option Elab.async false

/-! ### The code of R297 -/

theorem State.allReady_iff (s : State) : s.allReady = true ↔ ∀ l, l < 72 → s.laneState l = 5 := by
  simp [State.allReady]

theorem State.axesValid_iff (s : State) : s.axesValid = true ↔ ∀ a, a < 2 →
    (∀ n, n < 18 → s.axisNames a n = true → s.f (SFB_CH_STATUS.POS_VALID n) = 1 ∧ s.f (SFB_CH_STATUS.REF_LOST n) ≠ 1) ∧
      (s.act 3 (SFB_AXIS_CFG.CHK_EN a) = 1 → s.deviates a = false) := by
  have himp (b : Bool) (p : Prop) : (b = false ∨ p) ↔ (b = true → p) := by cases b <;> simp
  simp [State.axesValid, State.on, himp, ← imp_iff_not_or]

section

variable {s : State} {gen : Nat}

theorem State.resumeCode_idle (hh : s.f GAF_STATUS.HALTED ≠ 1) (hr : s.gaf.resumeOk = false) : s.resumeCode gen = 1 :=
  if_pos ⟨decide_eq_false hh, hr⟩

variable (h : s.f GAF_STATUS.HALTED = 1 ∨ s.gaf.resumeOk = true)

include h

/-- Of a halted stripe the other codes are asked in their order. -/
theorem State.resumeCode_halted : s.resumeCode gen = if gen ≠ s.f GAF_HALT_GEN.GEN then 2
    else if s.allReady = false then 3 else if s.axesValid = false then 4 else if s.gaf.resumeOk = true then 5
    else if s.gaf.active.any (fun k => (s.ctx k.ctx).halt.isSome) = true then 6 else 0 := by
  rw [State.resumeCode, if_neg]
  rintro ⟨hh, hr⟩
  obtain h | h := h
  · exact of_decide_eq_false hh h
  · simp [hr] at h

theorem State.resumeCode_generation (hg : gen ≠ s.f GAF_HALT_GEN.GEN) : s.resumeCode gen = 2 := by
  rw [State.resumeCode_halted h, if_pos hg]

variable (hg : gen = s.f GAF_HALT_GEN.GEN)

include hg

theorem State.resumeCode_lanes (hl : s.allReady = false) : s.resumeCode gen = 3 := by
  rw [State.resumeCode_halted h, if_neg (not_not.mpr hg), if_pos hl]

variable (hl : s.allReady = true)

include hl

theorem State.resumeCode_axes (ha : s.axesValid = false) : s.resumeCode gen = 4 := by
  rw [State.resumeCode_halted h, if_neg (not_not.mpr hg), if_neg (by simp [hl]), if_pos ha]

variable (ha : s.axesValid = true)

include ha

theorem State.resumeCode_twice (hr : s.gaf.resumeOk = true) : s.resumeCode gen = 5 := by
  rw [State.resumeCode_halted h, if_neg (not_not.mpr hg), if_neg (by simp [hl]), if_neg (by simp [ha]), if_pos hr]

theorem State.resumeCode_jobHalted (hr : s.gaf.resumeOk = false) {k : Stripe} {c : Nat} (hk : s.gaf.active = some k)
    (hc : (s.ctx k.ctx).halt = some c) : s.resumeCode gen = 6 := by
  rw [State.resumeCode_halted h, if_neg (not_not.mpr hg), if_neg (by simp [hl]), if_neg (by simp [ha]), if_neg (by simp [hr]), if_pos]
  simp [hk, hc]

theorem State.resumeCode_accepted (hr : s.gaf.resumeOk = false) (hj : ∀ k ∈ s.gaf.active, (s.ctx k.ctx).halt = none) :
    s.resumeCode gen = 0 := by
  rw [State.resumeCode_halted h, if_neg (not_not.mpr hg), if_neg (by simp [hl]), if_neg (by simp [ha]), if_neg (by simp [hr]), if_neg]
  rw [Option.any_eq_true]
  rintro ⟨k, hk, hsome⟩
  rw [hj k hk] at hsome
  exact Bool.noConfusion hsome

end

/-! ### An accepted RESUME (R297) -/

/-- HALTED is clear and the resume is pending, before the manager is told. -/
def State.resumed (s : State) : State :=
  { s.put GAF_STATUS.HALTED 0 with
    gaf := { s.gaf with resumeOk := true }, mot := { s.mot with armed := false, t0 := s.f GAF_HALT_FLASH.TH } }

theorem State.acceptResume_spec (s : State) :
    s.acceptResume.f GAF_STATUS.HALTED = 0 ∧ s.acceptResume.gaf.resumeOk = true ∧ s.acceptResume.gaf.active = s.gaf.active ∧
    s.acceptResume.gaf.threads = s.gaf.threads ∧
    s.acceptResume.mot = { s.mot with armed := false, t0 := s.f GAF_HALT_FLASH.TH } ∧
    KeepsFields s s.acceptResume [GAF_STATUS.HALTED] ∧ Keeps s s.acceptResume [.regs, .gaf, .mot, .out, .ports, .clu] := by
  have hresumed : Keeps s s.resumed [.regs, .gaf, .mot, .out, .ports, .clu] := .then (.mono (s.put_keeps _ 0)) (keeps_gaf_mot _ _ _)
  have htell : Keeps s.resumed s.acceptResume [.out, .ports, .clu] := by
    unfold State.acceptResume
    extract_lets s1 g m s2
    split
    · exact (s2.tellStripe_keeps _ _).mono
    · exact .refl s2 _
  have hf : s.resumed.f GAF_STATUS.HALTED = 0 := s.f_put_same GAF_STATUS.HALTED 0
  have hgaf : s.acceptResume.gaf = s.resumed.gaf := htell.2 .gaf (by decide)
  rw [hgaf]
  exact ⟨(htell.f_eq _).trans hf, rfl, rfl, rfl, htell.2 .mot (by decide),
    .then (s.put_keepsFields GAF_STATUS.HALTED 0) (htell.keepsFields (m := [])), hresumed.then htell⟩

/-! ### An abandoned stripe (R298) -/

/-- The state in which a stripe's work has been discarded and reported, HALTED set still. -/
def State.discarded (s : State) (k : Stripe) : State :=
  let th := s.f GAF_HALT_FLASH.TH
  let s1 := (s.dropStripe k).releaseSlots (fun r => decide (r.num = k.num) && decide (r.ctx = k.ctx))
  (s1.event 0x0F04 0 [a32 k.num, a32 th]).event 0x1403 0
    [a32 k.num, a32 k.gen, a32 (s.abandonRegion k th).1, a32 (s.abandonRegion k th).2]

theorem State.discarded_spares (s : State) (k : Stripe) : SparesGaffer s (s.discarded k) :=
  .then (.then (.then (s.dropStripe_spares k) (keeps_par _ _).spares) (State.journalEvent_spares _ _ _ _ _))
    (State.journalEvent_spares _ _ _ _ _)

/-- HALTED is clear, and the stage comes to rest. -/
def State.ending (s : State) : State :=
  { s.put GAF_STATUS.HALTED 0 with gaf := { s.gaf with ending := true } }

theorem State.ending_spec (s : State) : s.ending.f GAF_STATUS.HALTED = 0 ∧ s.ending.gaf.ending = true ∧
    s.ending.gaf.active = s.gaf.active ∧ s.ending.mot = s.mot := ⟨s.f_put_same GAF_STATUS.HALTED 0, rfl, rfl, rfl⟩

theorem State.abandon_eq (s : State) (k : Stripe) : s.abandon k = ((s.discarded k).ending.tellStripe k.num 6).endHold := by
  unfold State.abandon State.discarded
  rfl

theorem State.abandon_spares (s : State) (k : Stripe) : SparesGaffer (s.discarded k).ending (s.abandon k) := by
  rw [s.abandon_eq]
  exact .then (State.tellStripe_keeps _ _ _).spares (State.endHold_spares _)

theorem State.abandon_spec {s : State} {k : Stripe} (hk : s.gaf.active = some k) :
    (s.abandon k).f GAF_STATUS.HALTED = 0 ∧ (s.abandon k).gaf.ending = true ∧ (s.abandon k).gaf.active = some k ∧
      (s.abandon k).mot = s.mot := by
  obtain ⟨dmot, ⟨p, q, dgaf⟩, -⟩ := s.discarded_spares k
  obtain ⟨ef, eending, eactive, emot⟩ := (s.discarded k).ending_spec
  obtain ⟨hmot, ⟨p', q', hgaf⟩, hf⟩ := s.abandon_spares k
  refine ⟨(hf _ (by decide)).trans ef, ?_, ?_, hmot.trans (emot.trans dmot)⟩
  · rw [hgaf]
    exact eending
  · rw [hgaf]
    refine eactive.trans ?_
    rw [dgaf]
    exact hk

/-! ### RESUME and ABANDON as a thread issues them -/

section

variable {s : State} {t : Fin 4} {i : Triso} (hi : Issues s t i)

include hi

theorem exec_abandon_halted (hop : i.op = .abandon) (hh : s.f GAF_STATUS.HALTED = 1) {k : Stripe} (hk : s.gaf.active = some k) :
    exec (.abandon t) s = .next ((s.abandon k).threadDone t i.d.toNat 0) := by
  refine (State.issue_of_issues hi hop _).trans ?_
  rw [hk]
  exact congrArg _ (if_pos (decide_eq_true hh))

variable (hp : (s.thread t).pc ≠ 32767)

include hp

theorem exec_abandon_idle (hop : i.op = .abandon) (hh : s.f GAF_STATUS.HALTED ≠ 1) : exec (.abandon t) s = .next (wrote s t i.d 1) := by
  refine (State.issue_of_issues hi hop _).trans (congrArg _ ?_)
  rw [← State.result_wrote 1 hi.lt_length hp]
  split
  · exact if_neg (by simpa [State.on] using hh)
  · rfl

variable (hop : i.op = .resume)

include hop

theorem exec_resume_refused {c : Nat} (hc : s.resumeCode (gpr s t i.b).toNat = c) (h0 : c ≠ 0) :
    exec (.resume t) s = .next (wrote s t i.d (BitVec.ofNat 64 c)) := by
  refine (State.issue_of_issues hi hop _).trans ?_
  rw [State.reg_eq_gpr]
  dsimp only
  rw [hc, if_neg h0, State.result_wrote _ hi.lt_length hp]

theorem exec_resume_accepted (hc : s.resumeCode (gpr s t i.b).toNat = 0) :
    exec (.resume t) s = .next (wrote s.acceptResume t i.d 0) := by
  obtain ⟨-, -, -, hthreads, -⟩ := s.acceptResume_spec
  refine (State.issue_of_issues hi hop _).trans ?_
  rw [State.reg_eq_gpr]
  dsimp only
  rw [hc, if_pos rfl, State.result_of_threads 0 hi hp hthreads]

/-- What an accepted RESUME leaves. -/
theorem exec_resume_gives (hc : s.resumeCode (gpr s t i.b).toNat = 0) : Gives (exec (.resume t) s) (fun u =>
    u.f GAF_STATUS.HALTED = 0 ∧ u.gaf.resumeOk = true ∧ u.mot = { s.mot with armed := false, t0 := s.f GAF_HALT_FLASH.TH } ∧
      u.gaf.active = s.gaf.active ∧ gpr u t i.d = 0 ∧ KeepsFields s u [GAF_STATUS.HALTED] ∧
      Keeps s u [.regs, .gaf, .mot, .out, .ports, .clu]) := by
  obtain ⟨hf, hresume, hactive, hthreads, hmot, hfields, hkeeps⟩ := s.acceptResume_spec
  have hlen : t.val < s.acceptResume.gaf.threads.length := by rw [hthreads]; exact hi.lt_length
  exact ⟨_, exec_resume_accepted hi hp hop hc, hf, hresume, hmot, hactive, gpr_wrote_zero _ hlen,
    hfields, hkeeps.then (wrote_keeps _ _ _ _)⟩

end

/-- Settles O22: RESUME by its code (`State.resumeCode_halted`), ABANDON by what it spares (`State.abandon_spares`). -/
theorem resumeAndAbandon : Obligations.ResumeAndAbandon := by
  refine ⟨fun s t i hi hp => ⟨fun hop hh hr => ?_, fun hop h => ⟨fun hg => ?_, fun hg => ⟨fun l hl hbad => ?_, fun hl =>
      ⟨fun a n ha hn hname hbad => ?_, fun a ha hen hdev => ?_, fun hv => ⟨fun hr => ?_, fun k c hr hk hc => ?_, fun hr hj => ?_⟩⟩⟩⟩,
    fun hop hh => exec_abandon_idle hi hp hop hh, fun k hop hh hk => exec_abandon_halted hi hop hh hk⟩, fun s k => State.abandon_spec⟩
  · exact exec_resume_refused hi hp hop (State.resumeCode_idle hh hr) (by decide)
  · exact exec_resume_refused hi hp hop (State.resumeCode_generation h hg) (by decide)
  · have hready : s.allReady = false := Bool.eq_false_iff.mpr fun hall => hbad (s.allReady_iff.mp hall l hl)
    exact exec_resume_refused hi hp hop (State.resumeCode_lanes h hg hready) (by decide)
  · have haxes : s.axesValid = false := Bool.eq_false_iff.mpr fun hall => by
      obtain ⟨hchannels, -⟩ := s.axesValid_iff.mp hall a ha
      obtain ⟨hpos, hlost⟩ := hchannels n hn hname
      exact hbad.elim (fun h => h hpos) hlost
    exact exec_resume_refused hi hp hop (State.resumeCode_axes h hg (s.allReady_iff.mpr hl) haxes) (by decide)
  · have haxes : s.axesValid = false := Bool.eq_false_iff.mpr fun hall => by
      obtain ⟨-, hcheck⟩ := s.axesValid_iff.mp hall a ha
      exact Bool.noConfusion (hdev.symm.trans (hcheck hen))
    exact exec_resume_refused hi hp hop (State.resumeCode_axes h hg (s.allReady_iff.mpr hl) haxes) (by decide)
  · exact exec_resume_refused hi hp hop
      (State.resumeCode_twice h hg (s.allReady_iff.mpr hl) (s.axesValid_iff.mpr hv) hr) (by decide)
  · exact exec_resume_refused hi hp hop
      (State.resumeCode_jobHalted h hg (s.allReady_iff.mpr hl) (s.axesValid_iff.mpr hv) hr hk hc) (by decide)
  · exact exec_resume_gives hi hp hop
      (State.resumeCode_accepted h hg (s.allReady_iff.mpr hl) (s.axesValid_iff.mpr hv) hr hj)

end Sys2Proof.Machine
